-- ==== Sys2Proof/Word.lean ====
section
/-!
DEFINITION. The word types of the Z4096: a register is 32 bits (R6), an array word is 64 data bits (R176).
-/

namespace Sys2Proof

/-- One byte. -/
abbrev Byte := BitVec 8

/-- One register word (R6). -/
abbrev Word := BitVec 32

/-- One 64-bit data word of an array, a queue element or a bridge. -/
abbrev Dword := BitVec 64

end Sys2Proof
end

