-- ==== Sys2Proof/Syntax.lean ====
section
/-!
DEFINITION. The commands of the block: one constructor of `Instr` per row of spec/opcode_table.json, with the operands
the step needs. Index operands are `Fin`, so an index the device does not have cannot be written down.
A command that the device takes at a moment of device time carries that moment `t` in nanoseconds (R5).
-/

namespace Sys2Proof

/-- The masters of Table 1-3 that issue bus accesses (R21); identity 63 never issues one (R22), and the reserved
identities are never carried by an access. -/
inductive Master where
  | warp | weft | cfgEngine | testEngine | dmaEngine | jtag | eventCtl
  | pf (f : Fin 4)
  | fbp (n : Fin 32)
deriving DecidableEq, Repr

/-- A reed, p.x.y (Table 0-4). -/
structure ReedRef where
  panel : Fin 4
  x : Fin 256
  y : Fin 256
deriving DecidableEq, Repr

/-- A heddle cell, p.x.y.c (Table 0-4). -/
structure CellRef where
  reed : ReedRef
  c : Fin 16
deriving DecidableEq, Repr

/-- The two fabric ports of a creel (R181). -/
inductive PortSide where
  | a | b
deriving DecidableEq, Repr

/-- The items of a queue that exist twice: WP, PC, PKT_START, RP, FM, and the shadows of WP, PC, PKT_START, OPEN, ORPHAN, RP and
LAST_VALUE (R222). -/
inductive QItem where
  | wp | pc | start | rp | fm | wps | pcs | starts | opens | orphans | rps | lasts
deriving DecidableEq, Repr

/-- An upset of one copy of a queue item: which copy, and the bits that change. -/
structure QUpset where
  item : QItem
  second : Bool
  mask : Dword
deriving DecidableEq, Repr

/-- An upset of a twill block (R240): the bits that change of the captured operands A, B and D, of their eight residue codes and of NEG,
CLR and EMIT, of the outputs of the pre-adder, the multiplier and the accumulator adder, of the cascade token, and of ACC with its residue
code after the operation. -/
structure TwUpset where
  a : BitVec 24 := 0
  b : BitVec 24 := 0
  d : BitVec 24 := 0
  rho : BitVec 24 := 0
  flags : BitVec 3 := 0
  pre : BitVec 24 := 0
  prod : BitVec 48 := 0
  sum : BitVec 64 := 0
  token : BitVec 67 := 0
  rest : BitVec 67 := 0
deriving DecidableEq, Repr

/-- An upset of a checkpoint shadow (R152): of a cell, FF_A, FF_B, OREQ, SLOT and parity in order; of a twill block, ACC, its residue code
and its five parity bits in order. -/
inductive ShadowUpset where
  | cell (c : CellRef) (mask : BitVec 5)
  | twill (n : Fin 4096) (mask : BitVec 72)
deriving DecidableEq, Repr

/-- When the value of a SAMPLE2 source changes within an attempt: after both samples, between them, or before both (R256). -/
inductive SampleTime where
  | before | during | after
deriving DecidableEq, Repr

/-- The two sides of a shuttle (R441). -/
inductive Side where
  | a | b
deriving DecidableEq, Repr

/-- The BARs a host memory request can name (R408). -/
inductive Bar where
  | bar0 | bar2
deriving DecidableEq, Repr

/-- What a host request asks for (Table 15-6). -/
inductive HostOp where
  | read | write | io | atomic
deriving DecidableEq, Repr

/-- How the completion of a device-initiated read ended (R423). -/
inductive CplStatus where
  | ok | unsupported | abort | poisoned
deriving DecidableEq, Repr

/-- How a command on a serial peripheral ended at its bus (R369, R370). -/
inductive SerialEnd where
  | ok | nack | arbLost
deriving DecidableEq, Repr

/-- What a received UART character looked like on the line (R370). -/
inductive UartLine where
  | good | badFrame
deriving DecidableEq, Repr

/-- How an RS-FEC codeword decoded (R393). -/
inductive FecResult where
  | clean | corrected (symbols : Nat) | uncorrectable
deriving DecidableEq, Repr

/-- What one block of a received frame, or one RAW word, looked like (R389, R390, R393): its payload, whether its sync header was
that of a control block, whether the header was invalid, and whether it came from an uncorrectable codeword. -/
structure RxBlock where
  payload : Dword
  control : Bool
  badHeader : Bool
  lost : Bool
deriving DecidableEq, Repr

/-- The direction in which a bridge flag crosses (R255). -/
inductive FlagDir where
  | toClocked | toFabric
deriving DecidableEq, Repr

/-- A message on a service channel of Table 16-1, with its words (R510). -/
structure SvcMsg where
  channel : Fin 3
  tag : BitVec 7
  params : List Word
deriving DecidableEq, Repr

/-- The commands: one constructor per row of the table of operations and events. -/
inductive Instr where
  /- system bus and host (R20, R24, R38 to R51, R413, R562) -/
  | registerWrite (m : Master) (addr : BitVec 32) (be : BitVec 4) (v : Word)
  | pageLockSet (m : Master) (page : BitVec 20) (v : Word)
  | pairLoRead (m : Master) (addr : BitVec 32)
  | busSlotGranted (m : Master)
  | busTimeout (n : Nat) (t : Nat)
  | lateCompletion (n : Nat) (t : Nat)
  | hostMemoryRequest (f : Fin 4) (bar : Bar) (off : BitVec 32) (op : HostOp) (be last : BitVec 4) (ws : List Word) (len : Fin 1025)
      (poisoned : Bool) (ecrcBad : Bool)
  | configRequest (f : Fin 4) (off : BitVec 12) (write : Bool) (v : Word)
  | fabricWindowAccess (m : Master) (off : BitVec 26) (write : Bool) (v : Word)
  | sysRefclkLoss (t : Nat)
  | sysRefclkReturn (t : Nat)
  /- heddle cells and routing (R63 to R99, R148) -/
  | bdJoinComplete (c : CellRef)
  | bdDelayExpired (c : CellRef)
  | bdCapture (c : CellRef) (viol : Bool)
  | bdInputRequestsFall (c : CellRef)
  | bdAckInRise (c : CellRef)
  | bdAckInFall (c : CellRef)
  | twoSlotTransfer (c : CellRef)
  | drRailSet (c : CellRef) (viol : Bool)
  | drAckOutRise (c : CellRef)
  | drRailsClear (c : CellRef)
  | drAckOutFall (c : CellRef)
  | drReady (c : CellRef)
  | selectCorrupted (frame : BitVec 24) (word : Fin 64) (mask : Dword)
  | domainLeak (r : ReedRef) (tap : Option (Fin 96)) (handshake : Bool)
  /- the pick cycle (R114 to R143) -/
  | pickApply (m : Master) (v : Word)
  | applied (t : Nat)
  | closing (b : Fin 16) (t : Nat)
  | gridPoint (t : Nat)
  | closingPoint (t : Nat)
  | freeze (b : Fin 16) (t : Nat)
  | drainConfirm (b : Fin 16) (idle : Bool) (t : Nat)
  | beatUpEnd (b : Fin 16) (t : Nat)
  | paceGateOpen (t : Nat)
  | pickOverrun (b : Fin 16) (t : Nat)
  | clkEdgeInDrain (r : ReedRef) (t : Nat)
  | vfabFaultTrip (p : Fin 4) (mv : BitVec 16) (t : Nat)
  /- bolts (R144 to R175) -/
  | rollback (b : Fin 16) (upset : Option ShadowUpset) (t : Nat)
  | rollbackEnd (b : Fin 16) (t : Nat)
  | boltRollback (m : Master) (b : Fin 16)
  | boltHalt (m : Master) (b : Fin 16)
  | boltResume (m : Master) (b : Fin 16) (upset : Option ShadowUpset)
  | holdEnd (b : Fin 16) (t : Nat)
  /- creel memory (R176 to R203) -/
  | creelPortRequest (n : Fin 8192) (p : PortSide)
  | creelArrayAccess (n : Fin 8192) (state : BitVec 3) (upset : BitVec 72)
  | creelResponseAck (n : Fin 8192) (p : PortSide)
  | correctedWriteback (n : Fin 8192)
  | creelScrubRead (n : Fin 8192)
  | winRead (m : Master) (n : Fin 8192) (view : Bool) (word : BitVec 10)
  | winWrite (m : Master) (n : Fin 8192) (word : BitVec 10)
  | winInject (m : Master) (n : Fin 8192) (word : BitVec 10)
  /- creel queues (R204 to R232) -/
  | queuePush (n : Fin 8192) (perr : Bool) (upset : Option QUpset)
  | queuePop (n : Fin 8192) (upset : Option QUpset)
  | blockedPushTaken (n : Fin 8192) (perr : Bool)
  | blockedPopTaken (n : Fin 8192)
  | qPushElement (m : Master) (n : Fin 8192) (perr : Bool) (upset : Option QUpset)
  | qPushLast (m : Master) (n : Fin 8192) (perr : Bool)
  | qPushAbort (m : Master) (n : Fin 8192)
  | qPopLo (m : Master) (n : Fin 8192) (upset : Option QUpset)
  | qFlush (m : Master) (n : Fin 8192)
  | qFlushNow (m : Master) (n : Fin 8192)
  /- twill blocks (R233 to R250) -/
  | twillOperationCapture (n : Fin 4096)
  | twillCascadeToken (n : Fin 4096)
  | twillOperationComplete (n : Fin 4096) (upset : TwUpset)
  | twillResponseAck (n : Fin 4096)
  | twInject (m : Master) (n : Fin 4096) (v : Word)
  /- selvedge bridges, fabric bus ports, pace generators (R251 to R291) -/
  | sample2Attempt (n : Fin 320) (sampled : SampleTime)
  | holdOffer (n : Fin 320) (v : Dword)
  | bridgeFlagCrossed (n : Fin 320) (d : FlagDir)
  | bridgeFabricToken (n : Fin 320)
  | bridgeClockedWrite (n : Fin 320) (v torn : Dword)
  | bridgeClockedRead (n : Fin 320)
  | bridgePulse (n : Fin 320)
  | svResync (m : Master) (k : Fin 40) (v : Word)
  | clockLost (n : Fin 320) (t : Nat)
  | bridgeClockReturn (n : Fin 320) (t : Nat)
  | fbpTargetResponse (n : Fin 32)
  | fbpInitiatorRequest (n : Fin 32)
  | fbpInitiatorResponse (n : Fin 32)
  | paceApply (m : Master) (g : Fin 32) (v : Word)
  | paceSettingsTaken (g : Fin 32) (t : Nat)
  | paceLocked (g : Fin 32) (t : Nat)
  | paceRefLost (g : Fin 32) (t : Nat)
  | paceLockLost (g : Fin 32) (t : Nat)
  | paceMeasure (g : Fin 32) (edges : BitVec 21) (t : Nat)
  /- configuration, scrubbing, panels (R292 to R347) -/
  | startFull (m : Master) (src : BitVec 2)
  | startReweave (m : Master) (src : BitVec 2)
  | cfgAbort (m : Master)
  | cfgRelease (m : Master)
  | cfgFifo (m : Master) (v : Word)
  | imageHeader (ws : List Word)
  | imageDeviceCheck (ws : List Word)
  | imageSettings (ws : List Word)
  | imageFrameRun (ws : List Word)
  | imagePinmap (ws : List Word)
  | imageCreelInitRecord (ws : List Word)
  | imageDomains (ws : List Word)
  | imageAuth (ws : List Word)
  | signatureVerified (sigOk tagOk : Bool) (t : Nat)
  | clearingDone (t : Nat)
  | recoverySourceCheck (flashAnswers : Bool) (t : Nat)
  | recoveryGroupRead (digest : BitVec 128) (t : Nat)
  | recoveryRewriteDone (t : Nat)
  | recoveryTimeLimit (t : Nat)
  | panelHopMeasure (p : Fin 4) (hop : BitVec 12) (temp : BitVec 10)
  /- banks, pins, patterns, peripherals (R348 to R378) -/
  | vccoWarn (b : Fin 20) (mv : BitVec 16)
  | bankDisabled (b : Fin 20) (mv : BitVec 16)
  | bankReenable (b : Fin 20)
  | bankEnable (m : Master) (b : Fin 20) (v : Word)
  | bankVccoMeasure (b : Fin 20) (mv : BitVec 16)
  | changeover (m : Master) (p : Fin 960) (v : Word) (t : Nat)
  | changeoverDone (p : Fin 960) (t : Nat)
  | pinFilterPass (p : Fin 960) (level : Bool)
  | matchUnit (u : Fin 32) (t : Nat)
  | i2cWrite (m : Master) (u : Fin 4) (len : BitVec 5)
  | i2cRead (m : Master) (u : Fin 4) (len : BitVec 5)
  | i2cWriteRead (m : Master) (u : Fin 4) (len : BitVec 5)
  | spiTransfer (m : Master) (u : Fin 4) (len : BitVec 5) (holdCs : Bool)
  | uartFlush (m : Master) (u : Fin 2)
  | hpTx (m : Master) (u : Fin 10) (v : Word)
  | hpRx (m : Master) (u : Fin 10)
  | hpCommandDone (u : Fin 10) (how : SerialEnd) (rx : List Byte)
  | uartRxByte (u : Fin 2) (line : UartLine) (v : Byte)
  /- SerDes and PCS (R379 to R402) -/
  | quadPwr (m : Master) (q : Fin 12) (v : Word)
  | sdApply (m : Master) (q : Fin 12)
  | sdReset (m : Master) (q : Fin 12)
  | pllLocked (q : Fin 12)
  | sdRefLost (q : Fin 12)
  | qrefMeasure (q : Fin 12) (meas : BitVec 16)
  | cdrLocked (q : Fin 12) (i : Fin 4)
  | cdrLost (q : Fin 12) (i : Fin 4)
  | adaptDone (q : Fin 12) (i : Fin 4) (vga ctle : BitVec 4) (dfe : List Byte)
  | ebSlip (q : Fin 12) (i : Fin 4) (level : Fin 33)
  | prbsInject (m : Master) (q : Fin 12) (i : Fin 4) (v : Word)
  | prbsLock (q : Fin 12) (i : Fin 4)
  | prbsLockLost (q : Fin 12) (i : Fin 4) (bits : Word)
  | loopbackChange (m : Master) (q : Fin 12) (i : Fin 4) (v : Word)
  | pcsApply (m : Master) (q : Fin 12)
  | blockLock (q : Fin 12) (i : Fin 4)
  | blockLockLost (q : Fin 12) (i : Fin 4)
  | pcsRxFrame (q : Fin 12) (i : Fin 4) (blocks : List RxBlock)
  | fecCodeword (q : Fin 12) (i : Fin 4) (r : FecResult)
  | txUnderrun (q : Fin 12) (i : Fin 4)
  | bondAligned (q : Fin 12) (skews : List (Fin 17))
  | bondLost (q : Fin 12)
  /- PCI Express endpoint and spool DMA (R403 to R440) -/
  | linkTrainingStart (t : Nat)
  | linkUp (speed : BitVec 3) (width : BitVec 5)
  | speedChange (speed : BitVec 3)
  | flr (f : Fin 4)
  | flrComplete (f : Fin 4)
  | bmeClear (f : Fin 4)
  | d3Entry (f : Fin 4)
  | d0Return (f : Fin 4)
  | ptmDialogue (ok : Bool) (offset : Dword) (t : Nat)
  | deviceReadCompletion (tag : BitVec 10) (st : CplStatus) (ws : List Word)
  | completionTimeout (tag : BitVec 10)
  | dmaEnable (m : Master) (ch : Fin 64)
  | dmaDisable (m : Master) (ch : Fin 64)
  | dmaReset (m : Master) (ch : Fin 64) (v : Word)
  | dmaDoorbellPi (m : Master) (ch : Fin 64) (v : Word)
  | dmaDoorbellCplCi (m : Master) (ch : Fin 64) (v : Word)
  | descriptorFetch (ch : Fin 64)
  | dmaDataReadDone (ch : Fin 64)
  | dmaLevelPoll (ch : Fin 64) (t : Nat)
  | dmaIdleTimeout (ch : Fin 64) (t : Nat)
  | dmaRecord (ch : Fin 64)
  | tailDiscarded (ch : Fin 64)
  /- shuttles and semaphores (R441 to R466) -/
  | shBind (m : Master) (ch : Fin 256) (v : Word)
  | shBindLock (m : Master) (v : Word)
  | txData (m : Master) (ch : Fin 256) (d : Side) (v : Word)
  | txSend (m : Master) (ch : Fin 256) (d : Side) (v : Word)
  | txCommit (m : Master) (ch : Fin 256) (d : Side)
  | rxData (m : Master) (ch : Fin 256) (d : Side)
  | rxAck (m : Master) (ch : Fin 256) (d : Side) (v : Word)
  | ackCode (m : Master) (ch : Fin 256) (d : Side)
  | ackTimeout (ch : Fin 256) (d : Side) (t : Nat)
  | flushRx (m : Master) (ch : Fin 256) (d : Side) (code : BitVec 16)
  | clrPeerReset (m : Master) (ch : Fin 256) (d : Side)
  | semaLockRead (m : Master) (n : Fin 256)
  | semaRelease (m : Master) (n : Fin 256)
  | semaCmdFree (m : Master) (n : Fin 256)
  /- events and change log (R467 to R492) -/
  | recPop (m : Master)
  | usrRaise (m : Master) (hi : Bool) (v : Word)
  | logFree (m : Master)
  /- firmware, service protocol, life cycle, JTAG (R493 to R516) -/
  | weftReset (m : Master) (v : Word)
  | weftContainerVerified (ok : Bool) (patch : BitVec 16) (version : Word)
  | weftWdog (t : Nat)
  | heartbeat (m : Master)
  | getInfo (msg : SvcMsg)
  | getTelemetry (msg : SvcMsg) (power : List Word)
  | loadImageHost (msg : SvcMsg)
  | loadImageFlash (msg : SvcMsg)
  | reweave (msg : SvcMsg)
  | setVfab (msg : SvcMsg) (confirmed : Bool)
  | setPowerState (msg : SvcMsg)
  | serviceShutdown (msg : SvcMsg)
  | runTest (msg : SvcMsg)
  | bindChannel (msg : SvcMsg)
  | lockBindings (msg : SvcMsg)
  | enrolKey (msg : SvcMsg)
  | lcAdvance (msg : SvcMsg) (tokenOk : Bool)
  | stageToken (msg : SvcMsg)
  | setOwner (msg : SvcMsg)
  | loadWeft (msg : SvcMsg)
  | setPolicy (msg : SvcMsg)
  | resetWeft (msg : SvcMsg)
  | unknownOpcode (msg : SvcMsg) (opcode : BitVec 16)
  | fuseBurnDone (t : Nat)
  | keyBurnDone (t : Nat)
  | jtagSamplePreload (preload : List Bool)
  | dbgAccess (write : Bool) (addr : BitVec 32) (v : Word)
  /- power, reset, start-up and the doff test (R517 to R542) -/
  | railWarn (k : Fin 10) (mv : BitVec 16) (t : Nat)
  | railRecovered (k : Fin 10) (t : Nat)
  | railMeasure (mvs : List (BitVec 16)) (t : Nat)
  | powerOnReset (vaon : Bool) (straps : BitVec 4)
  | railReset (k : Fin 10) (t : Nat)
  | deviceReset (m : Master)
  | warpException (t : Nat)
  | pwrSleep (m : Master) (t : Nat)
  | sleepRefused (t : Nat)
  | sleepEntered (t : Nat)
  | pwrWake (m : Master) (t : Nat)
  | wakePin (t : Nat)
  | wakeRailsReady (upset : Option ShadowUpset) (t : Nat)
  | wakeLate (t : Nat)
  | wakeComplete (t : Nat)
  | pwrShutdown (m : Master) (t : Nat)
  | pwrdnReq (t : Nat)
  | doffStart (expected : Word) (t : Nat)
  | testClassDone (signature : Dword) (patterns : Word) (good : Bool) (twills : List (Fin 4096)) (t : Nat)
  | warpRomBoot (digestOk : Bool) (t : Nat)
  | sanityCheckDone (engineOk nvssOk shadowOk : Bool) (failing : List (Fin 4096)) (t : Nat)
  | deviceUp (flashImage : Bool) (t : Nat)
  | testStart (m : Master) (mask : BitVec 9)
  | diagEn (m : Master) (v : Word)
  /- rows added to the table's end -/
  | clockedCapture (c : CellRef) (viol race : Bool)
  | paceRefReturn (g : Fin 32) (t : Nat)
  | creelRqReqFall (n : Fin 8192) (p : PortSide)
  | twillRqReqFall (n : Fin 4096)
  | amLock (q : Fin 12) (i : Fin 4) (gain : Bool)
  | fecAlign (q : Fin 12) (i : Fin 4) (gain : Bool)
  | supplyFault (t : Nat)
  | debouncedVectorChange (u : Fin 32) (v : BitVec 16) (t : Nat)
  /- clearing of counts, marks and buffers (R47, R174, R202, R249, R288, R290, R315, R466, R479, R488, R490) -/
  | errCodeClear (m : Master) (page : BitVec 20) (v : Word)
  | pickClrCounts (m : Master) (v : Word)
  | boltClearCounts (m : Master) (b : Fin 16)
  | creelClrCounts (m : Master) (n : Fin 8192) (v : Word)
  | qClrCounts (m : Master) (n : Fin 8192)
  | twillClrCounts (m : Master) (k : Fin 256) (v : Word)
  | svClrCounts (m : Master) (k : Fin 40) (v : Word)
  | fbpClrCounts (m : Master) (k : Fin 8) (v : Word)
  | paceClrCounts (m : Master) (g : Fin 32) (v : Word)
  | scrubClrCounts (m : Master) (v : Word)
  | bankClrVmin (m : Master) (b : Fin 20) (v : Word)
  | patCmdClr (m : Master) (v : Word)
  | sdClrCounts (m : Master) (q : Fin 12)
  | pcsClrCounts (m : Master) (q : Fin 12)
  | pcieClrCounts (m : Master) (v : Word)
  | sideClrCounts (m : Master) (ch : Fin 256) (d : Side)
  | semaClrCounts (m : Master) (v : Word)
  | clrRing (m : Master) (v : Word)
  | clrLost (m : Master) (v : Word)
  | logClear (m : Master)
  | pwrClr (m : Master) (v : Word)
  /- commands without operands (R310, R416, R476, R508, R509) -/
  | scrubFrameRead
  | perst
  | linkDown
  | msixMessage
  | recordEntersRing
  | jtagBypass
  | jtagIdcode
  | jtagExtest
  | jtagHighz
  | jtagClamp
  | trst
deriving DecidableEq, Repr

end Sys2Proof
end

