-- ==== Sys2Proof/Decode.lean ====
section
/-!
DEFINITION. The command that a word of the opcode table spells: no row of the table gives bits, so no word spells one.
-/

namespace Sys2Proof

/-- The command spelled by a word of `nbits` bits, for the rows that give bits: there are none. -/
def decodeTableWord (_nbits _w : Nat) : Option Instr := none

end Sys2Proof
end

