-- ==== Sys2Proof/Config.lean ====
section
/-!
DEFINITION. What the manual leaves open: free values, and functions an implementation fixes. Each is a constant without a
body, so no proof can use a value of it.
-/

namespace Sys2Proof.Config

/-- The n-th value the manual leaves open (R61, R73, R176, R183 and the log entries that name this constant). -/
opaque free : Nat → Nat

/-- The check bits that the SECDED code of R176 gives a 64-bit word; the manual gives no matrix. -/
opaque eccCheck : BitVec 64 → BitVec 8

/-- What the SECDED code makes of a pattern of three or more changed bits (log entry 5): 0 uncorrectable, 1 clean,
`k + 2` a correction of bit `k`. -/
opaque eccMany : BitVec 72 → Nat

/-- The level of a wire of a reed that a combinational loop leaves unsettled at a moment (R97). -/
opaque unsettled : Nat → Nat → Bool

/-- The level of a running pace net at a moment; its phase is not given (log entry 12). -/
opaque paceWave : Nat → Nat → Bool

/-- The SFDP tables of the configuration flash offer 4-byte addressing (R293). -/
opaque flashFourByte : Bool

/-- SHA-384 over some bytes (R297, R344, R506). -/
opaque sha384 : List (BitVec 8) → BitVec 384

/-- The 128-bit digest of a frame group's data (R309); the manual does not name the function. -/
opaque groupDigest : List (BitVec 64) → BitVec 128

/-- AES-256-GCM decryption of the words of a section under the owner image key (R345): key, nonce words, cipher words. -/
opaque gcmPlain : List Word → List Word → List Word → List Word

/-- The seal AES-CMAC of a doff test record under DEVICE_UNIQUE (R533): the words of the record. -/
opaque testSeal : List Word → Nat

/-- What a read-only configuration register holds whose value the manual does not give: function and offset (R404, R406). -/
opaque pciSpace : Nat → Nat → Word

/-- The manufacturer identity of the JTAG IDCODE, published in the BSDL (R508). -/
opaque jtagMaker : BitVec 11

end Sys2Proof.Config
end

