-- ==== Sys2Proof/Machine/Bits.lean ====
section
/-!
DEFINITION. Bit fields, saturating counters and the sparse map in canonical form that the rest of the model is written with.
-/

namespace Sys2Proof.Machine

/-- Bits `[hi:lo]` of a word, as a number. -/
def fieldOf {n : Nat} (w : BitVec n) (hi lo : Nat) : Nat := (w.toNat >>> lo) % 2 ^ (hi + 1 - lo)

/-- Bit `k` of a word. -/
def bitOf {n : Nat} (w : BitVec n) (k : Nat) : Bool := w.toNat.testBit k

/-- Ones in bits `[hi:lo]`. -/
def fieldMask (hi lo : Nat) : Word := BitVec.ofNat 32 ((2 ^ (hi + 1 - lo) - 1) <<< lo)

/-- The word with `v` (its low bits) in bits `[hi:lo]`. -/
def withField (w : Word) (hi lo v : Nat) : Word :=
  (w &&& ~~~(fieldMask hi lo)) ||| (BitVec.ofNat 32 (v <<< lo) &&& fieldMask hi lo)

/-- The word with bit `k` set to `b`. -/
def withBit (w : Word) (k : Nat) (b : Bool) : Word := withField w k k b.toNat

/-- A number placed at bit `lo`, for building a register value field by field. -/
def place (v lo : Nat) : Nat := v * 2 ^ lo

/-- A flag as a number. -/
def flag (b : Bool) (k : Nat) : Nat := b.toNat * 2 ^ k

/-- Count one more, saturating at `top`. -/
def satAdd (top v k : Nat) : Nat := min top (v + k)

/-- The integer a `w`-bit value stands for in two's complement. -/
def signedOf (w v : Nat) : Int := if v < 2 ^ (w - 1) then (v : Int) else (v : Int) - 2 ^ w

/-- An integer reduced modulo `2^w`. -/
def wrapTo (w : Nat) (v : Int) : Nat := (v % (2 ^ w : Int)).toNat

/-- The upper half of a 64-bit value (R562). -/
def hiHalf (v : Nat) : Word := BitVec.ofNat 32 (v / 2 ^ 32)

/-- The lower half of a 64-bit value. -/
def loHalf (v : Nat) : Word := BitVec.ofNat 32 v

/-- Two words as one 64-bit value. -/
def joinDword (lo hi : Word) : Dword := BitVec.ofNat 64 (lo.toNat + 2 ^ 32 * hi.toNat)

/-- A sparse map from numbers: keys strictly rising, and no entry equal to what an unlisted key reads as. -/
abbrev SMap (α : Type) := List (Nat × α)

/-- What key `k` holds, `d` standing for an unlisted key. -/
def SMap.get {α : Type} (d : α) : SMap α → Nat → α
  | [], _ => d
  | (j, v) :: rest, k => if j = k then v else SMap.get d rest k

/-- The map without key `k`. -/
def SMap.erase {α : Type} : SMap α → Nat → SMap α
  | [], _ => []
  | (j, v) :: rest, k => if j = k then rest else (j, v) :: SMap.erase rest k

/-- The map with `v` entered at key `k`. -/
def SMap.insert {α : Type} : SMap α → Nat → α → SMap α
  | [], k, v => [(k, v)]
  | (j, w) :: rest, k, v =>
    if k < j then (k, v) :: (j, w) :: rest
    else if k = j then (k, v) :: rest
    else (j, w) :: SMap.insert rest k v

/-- Writing `v` at key `k`; writing what an unlisted key reads as removes the entry. -/
def SMap.set {α : Type} [DecidableEq α] (d : α) (m : SMap α) (k : Nat) (v : α) : SMap α :=
  if v = d then m.erase k else m.insert k v

/-- Keys rise strictly. -/
def SMap.sorted {α : Type} : SMap α → Bool
  | [] => true
  | [_] => true
  | (j, _) :: (k, w) :: rest => decide (j < k) && SMap.sorted ((k, w) :: rest)

/-- The canonical form, for a map whose unlisted key `k` reads as `d k`. -/
def SMap.wf {α : Type} [DecidableEq α] (d : Nat → α) (m : SMap α) : Bool :=
  m.sorted && m.all (fun e => decide (e.2 ≠ d e.1))

end Sys2Proof.Machine
end

