-- ==== Sys2Proof/Machine/Regs.lean ====
section
/-!
DEFINITION. The pages of Table 2-1 and the registers of every page, field by field, with access code, reset value and
defined encodings, from the register tables of the chapters. A bit that no field covers is RSV (Table 0-3, R39).
-/

namespace Sys2Proof.Machine

/-- The access codes of Table 0-3; RSV is what no field covers. -/
inductive Acc where
  | rw | ro | rwl | w1c | w1s | wo
deriving DecidableEq, Repr

/-- One field: bits `[hi:lo]`, its access code, its reset value, and the values its description lists
(an empty list: every value is defined, R8). -/
structure Field where
  hi : Nat
  lo : Nat
  acc : Acc
  rst : Nat
  enc : List (Nat × Nat)
deriving DecidableEq, Repr

/-- `count` registers from offset `base`, `stride` bytes apart. -/
structure Reg where
  name : String
  base : Nat
  count : Nat
  stride : Nat
  fields : List Field
deriving DecidableEq, Repr

def ro (hi lo : Nat) : Field := ⟨hi, lo, .ro, 0, []⟩
def roR (hi lo rst : Nat) : Field := ⟨hi, lo, .ro, rst, []⟩
def rw (hi lo rst : Nat) : Field := ⟨hi, lo, .rw, rst, []⟩
def rwE (hi lo rst : Nat) (e : List (Nat × Nat)) : Field := ⟨hi, lo, .rw, rst, e⟩
def rwl (hi lo rst : Nat) : Field := ⟨hi, lo, .rwl, rst, []⟩
def rwlE (hi lo rst : Nat) (e : List (Nat × Nat)) : Field := ⟨hi, lo, .rwl, rst, e⟩
def wo (hi lo : Nat) : Field := ⟨hi, lo, .wo, 0, []⟩
def woE (hi lo : Nat) (e : List (Nat × Nat)) : Field := ⟨hi, lo, .wo, 0, e⟩
def w1c (hi lo : Nat) : Field := ⟨hi, lo, .w1c, 0, []⟩
def w1s (hi lo : Nat) : Field := ⟨hi, lo, .w1s, 0, []⟩
def one (name : String) (base : Nat) (fields : List Field) : Reg := ⟨name, base, 1, 4, fields⟩
def many (name : String) (base count stride : Nat) (fields : List Field) : Reg := ⟨name, base, count, stride, fields⟩

/-- The block types of Table 2-1. -/
inductive PageKind where
  | device | power | reset | time | pick | commit | config | scrub | panel | test | log | event | eventMap | sema
  | pinmap | pattern | iobank | hostper | mgmt | pace | serdes | pcs | pcie | dma | shuttle | selvedge | fbp | twill | creel
deriving DecidableEq, Repr

/-- A page: its block type and its instance. -/
structure Page where
  kind : PageKind
  inst : Nat
deriving DecidableEq, Repr

/-- First base, number of instances and block type code of a page type (Table 2-1). -/
def PageKind.info : PageKind → Nat × Nat × Nat
  | .device => (0x0000_0000, 1, 0x01)
  | .power => (0x0000_1000, 1, 0x02)
  | .reset => (0x0000_2000, 1, 0x03)
  | .time => (0x0000_3000, 1, 0x04)
  | .pick => (0x0000_4000, 1, 0x05)
  | .commit => (0x0000_5000, 1, 0x06)
  | .config => (0x0000_6000, 1, 0x07)
  | .scrub => (0x0000_7000, 1, 0x08)
  | .panel => (0x0000_8000, 4, 0x09)
  | .test => (0x0000_C000, 1, 0x0A)
  | .log => (0x0000_D000, 1, 0x0B)
  | .event => (0x0000_E000, 1, 0x0C)
  | .eventMap => (0x0000_F000, 1, 0x0D)
  | .sema => (0x0001_0000, 1, 0x0E)
  | .pinmap => (0x0001_1000, 8, 0x0F)
  | .pattern => (0x0001_9000, 1, 0x10)
  | .iobank => (0x0001_A000, 20, 0x11)
  | .hostper => (0x0002_E000, 1, 0x12)
  | .mgmt => (0x0002_F000, 1, 0x13)
  | .pace => (0x0003_0000, 32, 0x14)
  | .serdes => (0x0005_0000, 12, 0x15)
  | .pcs => (0x0006_0000, 12, 0x16)
  | .pcie => (0x0007_0000, 1, 0x17)
  | .dma => (0x0007_1000, 16, 0x18)
  | .shuttle => (0x0009_0000, 64, 0x19)
  | .selvedge => (0x000D_0000, 40, 0x1A)
  | .fbp => (0x0010_0000, 8, 0x1B)
  | .twill => (0x0011_0000, 256, 0x1C)
  | .creel => (0x0040_0000, 8192, 0x1D)

/-- Every page type, in the order of Table 2-1. -/
def PageKind.all : List PageKind :=
  [.device, .power, .reset, .time, .pick, .commit, .config, .scrub, .panel, .test, .log, .event, .eventMap, .sema, .pinmap,
   .pattern, .iobank, .hostper, .mgmt, .pace, .serdes, .pcs, .pcie, .dma, .shuttle, .selvedge, .fbp, .twill, .creel]

/-- The system byte address of a page (R36). -/
def Page.base (p : Page) : Nat := p.kind.info.1 + p.inst * 0x1000

/-- The address of the register at offset `off` of instance `n` of a page type. -/
def regAddr (k : PageKind) (n off : Nat) : Nat := k.info.1 + n * 0x1000 + off

/-- The page that holds an address, if one does (R36, R37). -/
def pageOf (a : Nat) : Option Page :=
  (PageKind.all.find? (fun k => decide (k.info.1 ≤ a) && decide (a < k.info.1 + k.info.2.1 * 0x1000))).map
    (fun k => ⟨k, (a - k.info.1) / 0x1000⟩)

/-- The fabric window of R38. -/
def inFabricWindow (a : Nat) : Bool := decide (0x0400_0000 ≤ a) && decide (a < 0x0800_0000)

/-- First event number and number of events a page drives (EVT_BASE of each chapter). -/
def Page.events (p : Page) : Nat × Nat :=
  match p.kind with
  | .device => (0, 2)
  | .power => (2, 3)
  | .reset => (5, 1)
  | .time => (6, 2)
  | .pick => (8, 8)
  | .commit => (16, 16)
  | .config => (32, 4)
  | .scrub => (36, 4)
  | .panel => (40 + p.inst, 1)
  | .test => (48, 4)
  | .log => (52, 1)
  | .event => (53, 1)
  | .eventMap => (0, 0)
  | .sema => (63, 1)
  | .pinmap => (160 + 128 * p.inst / 48, [3, 4, 3, 3, 4, 3, 3, 2].getD p.inst 0)
  | .pattern => (128, 32)
  | .iobank => (160 + p.inst, 1)
  | .hostper => (180, 10)
  | .mgmt => (54, 4)
  | .pace => (192 + p.inst, 1)
  | .serdes => (224 + p.inst, 1)
  | .pcs => (236 + p.inst, 1)
  | .pcie => (248, 8)
  | .dma => (256 + 4 * p.inst, 4)
  | .shuttle => (64 + p.inst, 1)
  | .selvedge => (320 + p.inst, 1)
  | .fbp => (360 + p.inst, 1)
  | .twill => (368 + p.inst / 16, 1)
  | .creel => (384 + p.inst / 128, 1)

/-- The event number that bit `k` of a page drives (R468 and the event tables of the chapters). -/
def Page.eventOfBit (p : Page) (k : Nat) : Nat :=
  match p.kind with
  | .pinmap => p.events.1 + k / 8
  | .power => if k = 0 then 2 else if k = 1 then 3 else 4
  | .hostper => 180 + k / 3
  | .dma => p.events.1 + k / 8
  | _ => if p.events.2 ≤ 1 then p.events.1 else p.events.1 + k

/-- PAGE_CTRL of a page type: RSV but for the quad power bit (R399). -/
def ctrlFields : PageKind → List Field
  | .serdes => [rw 0 0 0]
  | _ => []

/-- PAGE_STAT of a page type: the chapters list what is not defined as RSV. -/
def statFields : PageKind → List Field
  | .pick => [ro 1 1, ro 0 0]
  | .commit => [ro 31 16, ro 15 0]
  | .twill => [ro 15 0]
  | .selvedge => [ro 15 8, ro 7 0]
  | .pace => [ro 3 3, ro 2 2, ro 1 1, ro 0 0]
  | .serdes => [ro 4 4, ro 3 0]
  | .creel => [ro 9 0]
  | _ => []

/-- The common page header (Table 2-3). -/
def headerRegs (k : PageKind) : List Reg := [
  one "PAGE_ID" 0x000 [ro 31 16, ro 15 0],
  one "PAGE_VER" 0x004 [roR 23 16 1, ro 15 8],
  one "PAGE_CTRL" 0x008 (ctrlFields k),
  one "PAGE_STAT" 0x00C (statFields k),
  one "EVT_RAW" 0x010 [ro 31 0],
  one "EVT_STICKY" 0x014 [w1c 31 0],
  one "EVT_ENABLE" 0x018 [rw 31 0 0],
  one "EVT_BASE" 0x01C [ro 21 16, ro 8 0],
  one "ERR_CODE" 0x020 [wo 31 31, ro 23 16, ro 7 0],
  one "ERR_ORIGIN" 0x024 [ro 31 26, ro 25 25, ro 11 0],
  one "CHG_COUNT" 0x028 [ro 31 0],
  one "OWNER" 0x02C [rwl 5 0 0],
  one "PAGE_LOCK" 0x030 [w1s 0 0]]

/-- Tables 18-9 and 19-13, 19-14. -/
def deviceRegs : List Reg := [
  one "DEV_ID" 0x040 [roR 31 16 0x4096, roR 15 0 0x50], one "DEV_REV" 0x044 [ro 8 8, ro 7 0],
  one "SERIAL_LO" 0x048 [ro 31 0], one "SERIAL_HI" 0x04C [ro 31 0],
  one "LC_STAT" 0x050 [ro 31 24, ro 12 12, ro 11 11, ro 10 10, ro 9 9, ro 8 8, ro 3 0],
  one "KEY_STAT" 0x054 [ro 5 4, ro 3 2, ro 1 0], one "STRAPS" 0x058 [ro 4 4, ro 3 3, ro 2 0],
  one "FW_VER" 0x05C [ro 31 16, ro 15 0], one "WEFT_VER" 0x060 [ro 31 0]]

def powerRegs : List Reg := [
  one "PWR_STATE" 0x040 [ro 2 0], one "PWR_CMD" 0x044 [wo 1 0], one "WAKE_CFG" 0x048 [rw 2 0 7],
  one "WAKE_CAUSE" 0x04C [ro 3 0], many "RAIL_MV" 0x080 10 4 [ro 31 31, ro 15 0],
  many "RAIL_MIN" 0x0C0 10 4 [roR 15 0 0xFFFF], one "DIP_REC" 0x100 [ro 31 28, ro 27 27, ro 15 0],
  one "DIP_TIME" 0x104 [ro 31 0], one "DIP_LEN" 0x108 [ro 31 0],
  one "FAULT_TRIPS" 0x10C [ro 31 24, ro 23 16, ro 15 8, ro 7 0], one "PWR_COUNTS" 0x110 [ro 31 16, ro 15 0],
  one "PWR_CLR" 0x114 [wo 0 0]]

def resetRegs : List Reg := [
  one "RST_CAUSE" 0x040 [ro 15 8, roR 7 0 1], one "RST_COUNT" 0x044 [ro 31 0],
  one "RST_CMD" 0x048 [woE 2 0 [(0, 0), (5, 5)]], one "START_INFO" 0x04C [ro 31 16, ro 8 8, ro 7 4, ro 1 0]]

def timeRegs : List Reg := [
  one "TIME_LO" 0x040 [ro 31 0], one "TIME_HI" 0x044 [ro 31 0], one "OFFSET_LO" 0x048 [ro 31 0],
  one "OFFSET_HI" 0x04C [ro 31 0], one "PTM_CTRL" 0x050 [rw 31 31 0, rwE 15 0 0x03E8 [(1, 65535)]],
  one "PTM_STAT" 0x054 [ro 31 31, ro 23 16, ro 15 0], one "PTM_LAST" 0x058 [ro 31 0]]

/-- Table 5-6. -/
def pickRegs : List Reg := [
  one "PICK_PERIOD" 0x040 [rwlE 31 0 0x4E20 [(500, 4294967295)]], one "PICK_GUARD" 0x044 [rwlE 23 0 0x3E8 [(100, 16777215)]],
  one "DRAIN_MAX" 0x048 [rwl 23 0 0x7D0], one "MIN_WINDOW" 0x04C [rwl 23 0 0x7D0],
  one "OVERRUN_LIMIT" 0x050 [rwlE 3 0 4 [(1, 15)]], one "PICK_ORIGIN_LO" 0x054 [rwl 31 0 0],
  one "PICK_ORIGIN_HI" 0x058 [rwl 31 0 0], one "PICK_CMD" 0x05C [wo 1 1, wo 0 0],
  one "ACT_PERIOD" 0x060 [roR 31 0 0x4E20], one "ACT_GUARD" 0x064 [roR 23 0 0x3E8], one "ACT_DRAIN_MAX" 0x068 [roR 23 0 0x7D0],
  one "ACT_MIN_WINDOW" 0x06C [roR 23 0 0x7D0], one "ACT_OVERRUN_LIMIT" 0x070 [roR 3 0 4],
  one "ACT_ORIGIN_LO" 0x074 [ro 31 0], one "ACT_ORIGIN_HI" 0x078 [ro 31 0],
  one "NEXT_GRID_LO" 0x080 [ro 31 0], one "NEXT_GRID_HI" 0x084 [ro 31 0], one "PHASE_LO" 0x088 [ro 31 0],
  one "PHASE_HI" 0x08C [ro 31 0], many "BOLT_PICK" 0x0C0 16 4 [ro 31 0],
  many "BOLT_STAT" 0x100 16 4 [ro 31 16, ro 15 8, ro 7 4, ro 3 0]]

/-- Table 6-8. -/
def commitRegs : List Reg := [
  one "BOLT_MODE" 0x040 [ro 15 0], one "BOLT_ACCEPT" 0x044 [ro 15 0], one "BOLT_LEAKED" 0x048 [ro 15 0],
  one "BOLT_CMD" 0x04C [wo 19 16, woE 2 0 [(0, 4)]], many "ROLLBACKS" 0x080 16 4 [ro 31 16, ro 15 8, ro 1 0],
  many "CAUSE" 0x0C0 16 4 [ro 31 24, ro 23 16, ro 15 0], many "FAULT_LOC" 0x100 16 4 [ro 23 0],
  many "LAST_TIME" 0x140 16 4 [ro 31 0], many "TILE_MAP" 0x200 128 4 [ro 31 0]]

/-- Table 11-9. -/
def configRegs : List Reg := [
  one "CFG_CTRL" 0x040 [rw 1 1 0, rw 0 0 0], one "CFG_CMD" 0x044 [woE 5 4 [(0, 2)], woE 2 0 [(0, 4)]],
  one "CFG_STAT" 0x048 [ro 31 28, ro 27 26, ro 25 25, ro 24 23, ro 22 22, ro 21 16, ro 0 0],
  one "CFG_REJECT" 0x04C [ro 23 16, ro 7 0], one "CFG_REJECT_OFF" 0x050 [ro 31 0], one "CFG_SRC_LO" 0x054 [rw 31 12 0],
  one "CFG_SRC_HI" 0x058 [rw 31 0 0], one "CFG_SRC_LEN" 0x05C [rw 31 2 0], one "CFG_QSPI_OFF" 0x060 [rw 31 12 0],
  one "CFG_PROGRESS" 0x064 [ro 31 0], one "CFG_COUNTS" 0x068 [ro 31 24, ro 23 16, ro 15 8, ro 7 0],
  one "CFG_DISCARDED" 0x06C [ro 31 0], one "CFG_RELEASE_TIME" 0x070 [ro 31 0], one "CFG_IMAGE_ID" 0x074 [ro 31 0],
  one "CFG_FIFO" 0x080 [wo 31 0], many "CFG_DIGEST" 0x0C0 12 4 [ro 31 0]]

/-- Tables 11-10 and 11-11. -/
def scrubRegs : List Reg := [
  one "SCRUB_CTRL" 0x040 [rw 31 31 1, rwE 15 0 0xFA [(10, 65535)]], one "SCRUB_POS" 0x044 [ro 23 0],
  one "SCRUB_PASSES" 0x048 [ro 31 0], one "SCRUB_ERRS" 0x04C [ro 31 16, ro 15 0], one "SCRUB_LAST_CE" 0x050 [ro 29 24, ro 23 0],
  one "SCRUB_LAST_UE" 0x054 [ro 31 0], one "RECOV_STAT" 0x058 [ro 31 24, ro 23 16, ro 3 0],
  one "SCRUB_BANK_FAILED" 0x05C [ro 19 0], one "SCRUB_CMD" 0x060 [wo 0 0]]

def panelRegs : List Reg := [
  one "PANEL_HOP" 0x040 [ro 11 0], one "PANEL_TEMP" 0x044 [ro 9 0], one "PANEL_ERRS" 0x048 [ro 31 16, ro 15 0],
  many "FENCE" 0x080 8 4 [ro 31 0]]

/-- Table 19-15. -/
def testRegs : List Reg := [
  one "TEST_CMD" 0x040 [wo 31 31, w1s 30 30, rw 8 0 0], one "TEST_STAT" 0x044 [ro 31 28, ro 27 24, ro 8 0],
  one "TEST_RESULT" 0x048 [ro 24 16, ro 8 0], one "TEST_PATTERNS" 0x04C [ro 31 0], one "NVSS_BOOT" 0x050 [ro 31 0],
  one "NVSS_QUICK" 0x054 [ro 5 0], one "REC_STAT" 0x058 [ro 2 0], many "REC_WORD" 0x05C 4 4 [ro 31 0],
  one "MISR_SEL" 0x070 [rwE 3 0 1 [(1, 9)]], one "MISR_LO" 0x074 [ro 31 0], one "MISR_HI" 0x078 [ro 31 0]]

/-- Tables 17-9, 17-10 and 17-11. -/
def logRegs : List Reg := [
  one "LOG_CTRL" 0x040 [rwl 0 0 0], one "LOG_HEAD" 0x044 [ro 31 0], one "LOG_OLDEST" 0x048 [ro 31 0],
  one "LOG_LEVEL" 0x04C [ro 16 0], one "LOST_COUNT" 0x050 [ro 31 0], one "LOG_REFUSED" 0x054 [ro 31 0],
  one "LOG_CMD" 0x058 [woE 1 0 [(0, 2)]], one "LOG_FREE_TO" 0x05C [rw 31 0 0], one "LOG_SEL" 0x060 [rw 31 0 0],
  many "LOG_W" 0x064 4 4 [ro 31 0], one "LOG_RD_STAT" 0x074 [ro 2 2, ro 1 1, ro 0 0]]

def eventRegs : List Reg := [
  one "RING_STAT" 0x040 [ro 12 0], one "RING_LOST" 0x044 [ro 31 0], one "SEQ_NEXT" 0x048 [ro 31 0], one "EV_CMD" 0x04C [wo 1 1, wo 0 0],
  many "USR_RAISE" 0x050 2 4 [wo 31 0], many "USR_STICKY" 0x058 2 4 [w1c 31 0], many "USR_ENABLE" 0x060 2 4 [rw 31 0 0],
  one "EVOUT_LO" 0x068 [ro 31 0], one "EVOUT_HI" 0x06C [ro 31 0], one "CORE_LINES" 0x070 [ro 1 1, ro 0 0],
  many "ASSERTED" 0x080 16 4 [ro 31 0], one "REC_POP_W0" 0x100 [ro 31 0], many "REC_W" 0x104 3 4 [ro 31 0]]

def eventMapRegs : List Reg := [
  many "ROUTE" 0x100 512 4 [rw 31 31 0, rw 30 30 0, rw 29 29 0, rw 24 24 0, rw 23 16 0, rw 7 7 0, rw 5 0 0]]

/-- Tables 16-5 and 16-6. A LOCK register is a command: its one written field is WO, and only 0 is defined (R460). -/
def semaRegs : List Reg := [
  many "SEMA_AUTO" 0x040 8 4 [rw 31 0 0], many "SEMA_HELD" 0x060 8 4 [ro 31 0], one "SEMA_CMD" 0x080 [wo 31 31, wo 7 0],
  one "SEMA_CNT" 0x084 [ro 31 16, ro 15 0], one "SEMA_LAST" 0x088 [ro 17 16, ro 15 8, ro 5 0], one "SEMA_CLR" 0x08C [wo 31 31],
  many "LOCK" 0x100 256 4 [woE 31 0 [(0, 0)]], many "VIEW" 0x500 256 4 [ro 31 31, ro 5 0]]

/-- One side of each of the four channels of a SHUTTLE page; `d` is 0x040 for side A and 0x0C0 for side B. -/
def shuttleSideRegs (d : Nat) : List Reg := [
  many "TX_DATA" (0x100 + d) 4 0x200 [wo 31 0], many "TX_SEND" (0x104 + d) 4 0x200 [wo 0 0],
  many "TX_COMMIT" (0x108 + d) 4 0x200 [ro 31 30, ro 29 15, ro 3 0],
  many "TX_STAT" (0x10C + d) 4 0x200 [ro 31 31, ro 30 30, ro 29 29, ro 27 24, ro 23 20, roR 19 16 8, ro 10 8, ro 7 4],
  many "TX_CFG" (0x110 + d) 4 0x200 [rw 15 0 0], many "ACK_CODE" (0x114 + d) 4 0x200 [ro 31 31, ro 30 16, ro 15 0],
  many "RX_DATA" (0x118 + d) 4 0x200 [ro 31 0],
  many "RX_STAT" (0x11C + d) 4 0x200 [ro 31 31, ro 30 30, ro 29 29, roR 26 24 4, ro 19 16, ro 15 12, ro 11 8],
  many "RX_ACK" (0x120 + d) 4 0x200 [wo 15 0], many "SIDE_CMD" (0x124 + d) 4 0x200 [wo 31 16, woE 2 0 [(0, 3)]],
  many "SIDE_CNT" (0x128 + d) 4 0x200 [ro 31 24, ro 23 16, ro 15 8, ro 7 0]]

/-- The identities an SH_BIND side may name (R441). -/
def bindable : List (Nat × Nat) := [(0, 6), (8, 11), (16, 47)]

def shuttleRegs (inst : Nat) : List Reg :=
  (if inst = 0 then [one "SH_BIND_LOCK" 0x040 [w1s 0 0]] else []) ++
  [many "SH_BIND" 0x100 4 0x200 [rwl 31 31 0, rwlE 21 16 0 bindable, rwlE 5 0 0 bindable]] ++
  shuttleSideRegs 0x040 ++ shuttleSideRegs 0x0C0

/-- Table 13-11; PINMAP7 has half the entries (R372). -/
def pinmapRegs (inst : Nat) : List Reg :=
  let n := if inst = 7 then 64 else 128
  let w := if inst = 7 then 2 else 4
  [many "CONFLICT" 0x040 w 4 [ro 31 0], many "CHANGING" 0x050 w 4 [ro 31 0], many "LEVEL" 0x060 w 4 [ro 31 0],
   many "PIN_MAP" 0x100 n 8 [rwl 31 31 0, rwl 27 16 0, rwl 11 0 0],
   many "PIN_PAD" 0x104 n 8 [rwlE 31 29 2 [(0, 5)], rwl 28 28 0, rwlE 27 24 0 [(0, 13)], rwl 23 22 0, rwl 21 20 0, rwl 19 19 0,
     rwl 18 18 0, rwl 9 0 0]]

def patternRegs : List Reg := [
  one "PAT_CMD" 0x040 [wo 31 0], many "PU_CFG" 0x100 32 0x40 [rw 31 31 0, rw 30 30 0, rw 29 28 0, rw 7 0 0],
  many "PU_MATCH" 0x104 32 0x40 [rw 31 16 0, rw 15 0 0], many "PU_SEQ" 0x108 32 0x40 [rw 31 16 0, rw 15 0 0],
  many "PU_STAT" 0x10C 32 0x40 [ro 31 31, ro 23 16, ro 15 0], many "PU_REC" 0x110 32 0x40 [ro 31 31, ro 15 0],
  many "PU_REC_TIME" 0x114 32 0x40 [ro 31 0]] ++
  (List.range 8).map (fun n => many "PU_PINS" (0x120 + 4 * n) 32 0x40 [rwE 25 16 0 [(0, 959)], rwE 9 0 0 [(0, 959)]])

def iobankRegs : List Reg := [
  one "BANK_CFG" 0x040 [rwl 5 5 1, rwlE 4 3 0 [(0, 2)], rwl 2 0 0], one "BANK_BRIDGE" 0x044 [rwl 15 0 0],
  one "BANK_TERM" 0x048 [rwlE 1 0 0 [(0, 2)]], one "BANK_STAT" 0x050 [roR 31 31 1, ro 30 30, ro 15 0],
  one "BANK_VMIN" 0x054 [roR 15 0 0xFFFF], one "BANK_CMD" 0x058 [wo 1 1, wo 0 0]]

/-- Table 13-14: the fields of a unit follow its kind (I2C 0-3, SPI 4-7, UART 8-9). -/
def hostperRegs : List Reg := [
  many "HP_CFG_I2C" 0x100 4 0x20 [rw 31 31 0, rwE 30 29 0 [(0, 2)], rw 7 1 0],
  many "HP_CFG_SPI" 0x180 4 0x20 [rw 31 31 0, rw 30 29 0, rw 28 28 0, rw 27 26 0, rwE 7 0 9 [(9, 255)]],
  many "HP_CFG_UART" 0x200 2 0x20 [rw 31 31 0, rwE 30 29 0 [(0, 2)], rw 28 28 0, rwE 19 0 0x535 [(1333, 1048575)]],
  many "HP_CMD_I2C" 0x104 4 0x20 [woE 17 16 [(1, 3)], wo 4 0], many "HP_CMD_SPI" 0x184 4 0x20 [woE 17 16 [(1, 1)], wo 8 8, wo 4 0],
  many "HP_CMD_UART" 0x204 2 0x20 [woE 17 16 [(1, 1)]],
  many "HP_STAT" 0x108 10 0x20 [ro 31 31, ro 30 30, ro 29 28, ro 20 16, ro 4 0], many "HP_TX" 0x10C 10 0x20 [wo 7 0],
  many "HP_RX" 0x110 10 0x20 [ro 31 31, ro 7 0]]

/-- Table 18-10. -/
def mgmtRegs : List Reg := [
  one "CORE_STAT" 0x040 [ro 6 4, ro 3 3, ro 0 0], one "WEFT_CTRL" 0x044 [rw 1 1 0, wo 0 0], one "POLICY" 0x048 [rw 31 16 0],
  one "HEARTBEAT" 0x04C [ro 31 0], one "WEFT_RESETS" 0x050 [ro 31 16, ro 15 0], one "SVC_LAST" 0x054 [ro 31 16, ro 15 0],
  one "SVC_COUNTS" 0x058 [ro 31 16, ro 15 0], one "WEFT_SRC" 0x05C [ro 1 0]]

/-- Table 10-18. The even values of the output divider are checked with its encoding (`encExtra`). -/
def paceRegs : List Reg := [
  one "PACE_CFG" 0x040 [rwl 31 31 0, rwl 30 30 0, rwlE 29 28 0 [(0, 2)], rwlE 27 24 0 [(0, 11)], rwlE 23 18 1 [(1, 63)],
    rwlE 17 14 0 [(0, 10)]],
  one "PACE_N" 0x044 [rwlE 9 0 0x20 [(32, 640)]], one "PACE_FRAC" 0x048 [rwl 23 0 0], one "PACE_OUT" 0x04C [rwlE 8 0 2 [(2, 510)]],
  one "PACE_CMD" 0x050 [wo 1 1, wo 0 0], one "PACE_MEAS" 0x054 [ro 20 0], one "PACE_CNT" 0x058 [ro 31 16, ro 15 0]]

/-- Tables 14-5 and 14-6. -/
def serdesRegs : List Reg := [
  one "SD_QCFG" 0x040 [rw 31 31 0, rwE 30 28 1 [(0, 5)], rwE 27 20 0xA5 [(16, 255)], rw 19 18 0, rwE 15 0 0x3D09 [(10000, 40000)]],
  one "SD_QCMD" 0x044 [woE 2 0 [(0, 2), (4, 4)]], one "SD_QMEAS" 0x048 [ro 15 0],
  many "SD_LCFG" 0x100 4 0x40 [rw 31 31 0, rw 30 30 0, rw 29 29 0, rw 28 28 0, rw 27 27 0, rwE 26 25 1 [(0, 2)], rwE 24 22 0 [(0, 3)]],
  many "SD_TXFIR" 0x104 4 0x40 [rw 29 0 0x1F000], many "SD_RXEQ" 0x108 4 0x40 [rw 11 8 8, rw 3 0 8],
  many "SD_DFE" 0x10C 4 0x40 [rwE 28 24 0 [(0, 23)], rw 7 0 0],
  many "SD_LSTAT" 0x110 4 0x40 [ro 31 31, ro 30 30, ro 29 29, ro 28 28, ro 21 16],
  many "SD_PRBS" 0x114 4 0x40 [rwE 31 28 0 [(0, 7)], rwE 27 24 0 [(0, 7)], wo 0 0], many "SD_PRBS_ERR" 0x118 4 0x40 [ro 31 0],
  many "SD_CNT" 0x11C 4 0x40 [ro 31 16, ro 15 8]]

def pcsRegs : List Reg := [
  one "PCS_BOND" 0x040 [rw 31 31 0, rw 7 0 0], one "PCS_CMD" 0x044 [woE 2 0 [(0, 1), (4, 4)]], one "PCS_AM" 0x048 [rw 3 0 0xF],
  many "PCS_LCFG" 0x100 4 0x40 [rwE 31 30 0 [(0, 1)], rwE 29 28 0 [(0, 2)], rw 27 27 0, rw 26 26 0],
  many "PCS_LSTAT" 0x104 4 0x40 [ro 31 31, ro 30 30, ro 29 29, ro 28 28, ro 4 0],
  many "PCS_HDR" 0x108 4 0x40 [ro 31 16, ro 15 0], many "PCS_FEC_CW" 0x10C 4 0x40 [ro 31 16, ro 15 0],
  many "PCS_FEC_SYM" 0x110 4 0x40 [ro 31 0], many "PCS_FLOW" 0x114 4 0x40 [ro 31 16, ro 15 0]]

/-- Tables 15-12 and 15-13. -/
def pcieRegs : List Reg := [
  one "PCIE_LINK" 0x040 [ro 31 31, ro 30 28, ro 27 23, ro 15 0], one "PCIE_FUNC" 0x044 [ro 15 12, ro 11 8, ro 7 4, ro 3 0],
  one "PCIE_TAGS" 0x048 [ro 25 16, ro 9 0], one "PCIE_HOSTNP" 0x04C [ro 24 16, ro 8 0], one "PCIE_DROPS" 0x050 [ro 31 16, ro 15 0],
  one "PCIE_CMD" 0x054 [wo 0 0], many "USR_VEC" 0x100 96 4 [rw 31 31 0, rwE 8 0 0 [(256, 319), (448, 511)]]]

def dmaRegs : List Reg := [
  many "CH_CFG" 0x100 4 0x80 [rw 31 31 0, rw 30 29 0, rw 28 28 0, rw 27 27 0, rw 26 23 0, rw 12 0 0],
  many "CH_RSIZE" 0x104 4 0x80 [rw 31 16 0, rwE 12 8 4 [(4, 16)], rwE 4 0 4 [(4, 16)]],
  many "CH_DRING_LO" 0x108 4 0x80 [rw 31 12 0], many "CH_DRING_HI" 0x10C 4 0x80 [rw 31 0 0],
  many "CH_CRING_LO" 0x110 4 0x80 [rw 31 12 0], many "CH_CRING_HI" 0x114 4 0x80 [rw 31 0 0],
  many "CH_CTRL" 0x118 4 0x80 [wo 1 1, rw 0 0 0], many "CH_STAT" 0x11C 4 0x80 [ro 31 29, ro 23 16, ro 15 8, ro 7 7, ro 6 0],
  many "CH_PI" 0x120 4 0x80 [rw 15 0 0], many "CH_CI" 0x124 4 0x80 [ro 15 0], many "CH_CPL_PI" 0x128 4 0x80 [ro 15 0],
  many "CH_CPL_CI" 0x12C 4 0x80 [rw 15 0 0], many "CH_CNT" 0x130 4 0x80 [ro 31 0], many "CH_BYTES_LO" 0x134 4 0x80 [ro 31 0],
  many "CH_BYTES_HI" 0x138 4 0x80 [ro 31 0], many "CH_DISCARDED" 0x13C 4 0x80 [ro 31 0], many "CH_CREDITS" 0x140 4 0x80 [ro 15 0]]

/-- Tables 10-14 and 10-16. -/
def selvedgeRegs : List Reg := [
  one "SV_CMD" 0x040 [wo 15 8, wo 7 0], many "SV_CFG" 0x100 8 0x20 [ro 31 29, ro 28 28, ro 27 22, ro 21 16, ro 3 0],
  many "SV_STAT" 0x104 8 0x20 [ro 31 31, ro 30 30, ro 29 29, ro 28 28, ro 27 27, ro 8 5, ro 4 0],
  many "SV_CNT" 0x108 8 0x20 [ro 31 24, ro 23 16, ro 15 8, ro 7 0], many "SV_VAL_LO" 0x10C 8 0x20 [ro 31 0],
  many "SV_VAL_HI" 0x110 8 0x20 [ro 31 0]]

def fbpRegs : List Reg := [
  one "FBP_CMD" 0x040 [wo 3 0], many "FBP_CFG" 0x100 4 0x20 [ro 31 31, ro 30 30, ro 3 0],
  many "FBP_STAT" 0x104 4 0x20 [ro 20 16, ro 4 0], many "FBP_CNT" 0x108 4 0x20 [ro 31 24, ro 23 16, ro 15 8, ro 7 0],
  many "FBP_ERR" 0x10C 4 0x20 [ro 7 0], many "FBP_ERR_ADDR" 0x110 4 0x20 [ro 31 0]]

/-- Table 9-9. -/
def twillRegs : List Reg := [
  one "TW_CMD" 0x040 [wo 15 0], one "TW_SELFTEST" 0x044 [ro 15 0],
  many "TW_CFG" 0x100 16 0x20 [ro 31 29, ro 28 27, ro 26 26, ro 25 25, ro 24 24, ro 23 23, ro 3 0],
  many "TW_STAT" 0x104 16 0x20 [ro 4 4, ro 3 0], many "TW_ACC_LO" 0x108 16 0x20 [ro 31 0], many "TW_ACC_HI" 0x10C 16 0x20 [ro 31 0],
  many "TW_ERRS" 0x110 16 0x20 [ro 31 16, ro 15 8, ro 2 0],
  many "TW_INJECT" 0x114 16 0x20 [w1s 31 31, rwE 27 26 0 [(0, 2)], rw 5 0 0]]

/-- Tables 7-9 and 8-10. -/
def creelRegs : List Reg := [
  one "CREEL_CFG" 0x040 [ro 31 29, ro 28 27, ro 26 25, ro 24 24, ro 23 23, ro 22 22, ro 21 21, ro 20 17, ro 16 13, ro 3 0],
  one "CREEL_STAT" 0x044 [ro 31 31, ro 19 10, ro 9 0], one "SCRUB_CTRL" 0x048 [wo 31 31, rwE 23 0 0x2710 [(0, 0), (1024, 16777215)]],
  one "ECC_COUNT" 0x04C [ro 31 16, ro 15 0], one "UE_ADDR" 0x050 [ro 31 29, ro 9 0], one "LOG_STATS" 0x054 [ro 31 16, ro 9 0],
  one "WIN_CTRL" 0x060 [wo 31 30, rw 10 10 0, rw 9 0 0], one "WIN_DATA_LO" 0x064 [rw 31 0 0], one "WIN_DATA_HI" 0x068 [rw 31 0 0],
  one "WIN_ECC" 0x06C [rw 7 0 0], one "WIN_STAT" 0x070 [ro 2 2, ro 1 1, ro 0 0],
  one "Q_CFG" 0x100 [ro 31 30, ro 29 28, ro 27 24, ro 23 20, ro 19 19, ro 18 18, ro 5 0],
  one "Q_WM_CFG" 0x104 [rwE 26 16 0x400 [(0, 1024)], rwE 10 0 0 [(0, 1024)]], one "Q_CMD" 0x108 [woE 2 0 [(0, 2), (4, 4)]],
  one "Q_LEVEL" 0x10C [ro 26 16, ro 10 0], one "Q_WPTR" 0x110 [ro 26 16, ro 10 0], one "Q_RPTR" 0x114 [ro 26 16, ro 10 0],
  one "Q_SHADOW_W" 0x118 [ro 26 16, ro 10 0], one "Q_SHADOW_R" 0x11C [ro 10 0], one "Q_PKT" 0x120 [ro 31 31, ro 30 30, ro 10 0],
  one "Q_OVR_UND" 0x124 [ro 31 16, ro 15 0], one "Q_CROSS" 0x128 [ro 31 24, ro 23 16, ro 15 8, ro 7 0],
  one "Q_PKT_COUNT" 0x12C [ro 31 24, ro 23 16, ro 15 0], one "Q_ORPHAN_WORDS" 0x130 [ro 31 0], one "Q_WMH_REC" 0x134 [ro 31 31, ro 10 0],
  one "Q_WMH_TIME" 0x138 [ro 31 0], one "Q_WML_REC" 0x13C [ro 31 31, ro 10 0], one "Q_WML_TIME" 0x140 [ro 31 0],
  one "Q_PUSH_LO" 0x150 [rw 31 0 0], one "Q_PUSH_HI" 0x154 [rw 31 0 0], one "Q_PUSH" 0x158 [woE 1 0 [(0, 2)]],
  one "Q_POP_LO" 0x160 [ro 31 0], one "Q_POP_HI" 0x164 [ro 31 0], one "Q_POP_STAT" 0x168 [ro 2 2, ro 1 1, ro 0 0]]

/-- The registers of a page beside its header. -/
def blockRegs (p : Page) : List Reg :=
  match p.kind with
  | .device => deviceRegs
  | .power => powerRegs
  | .reset => resetRegs
  | .time => timeRegs
  | .pick => pickRegs
  | .commit => commitRegs
  | .config => configRegs
  | .scrub => scrubRegs
  | .panel => panelRegs
  | .test => testRegs
  | .log => logRegs
  | .event => eventRegs
  | .eventMap => eventMapRegs
  | .sema => semaRegs
  | .pinmap => pinmapRegs p.inst
  | .pattern => patternRegs
  | .iobank => iobankRegs
  | .hostper => hostperRegs
  | .mgmt => mgmtRegs
  | .pace => paceRegs
  | .serdes => serdesRegs
  | .pcs => pcsRegs
  | .pcie => pcieRegs
  | .dma => dmaRegs
  | .shuttle => shuttleRegs p.inst
  | .selvedge => selvedgeRegs
  | .fbp => fbpRegs
  | .twill => twillRegs
  | .creel => creelRegs

/-- Does the register row hold the register at offset `off`. -/
def Reg.covers (r : Reg) (off : Nat) : Bool :=
  decide (r.base ≤ off) && decide ((off - r.base) % r.stride = 0) && decide ((off - r.base) / r.stride < r.count)

/-- The fields of the register at an offset of a page; none for an offset no register has (R39). -/
def fieldsAt (p : Page) (off : Nat) : List Field :=
  match ((if off < 0x040 then headerRegs p.kind else blockRegs p).find? (fun r => r.covers off)) with
  | some r => r.fields
  | none => []

/-- The fields of the register at a system address. -/
def fieldsOf (a : Nat) : List Field :=
  match pageOf a with
  | some p => fieldsAt p (a % 0x1000)
  | none => []

/-- What the fields hold after a device reset, where the tables give a constant; PAGE_ID and EVT_BASE follow the page. -/
def resetOf (a : Nat) : Word :=
  match pageOf a with
  | none => 0
  | some p =>
    if a % 0x1000 = 0x000 then BitVec.ofNat 32 (place p.kind.info.2.2 16 + p.inst)
    else if a % 0x1000 = 0x01C then BitVec.ofNat 32 (place p.events.2 16 + p.events.1)
    else BitVec.ofNat 32 ((fieldsAt p (a % 0x1000)).foldl (fun acc f => acc + place f.rst f.lo) 0)

end Sys2Proof.Machine
end

