-- ==== Sys2Proof/Machine/State.lean ====
section
/-!
DEFINITION. The state of the device as plain data: the registers of every page, and the state behind them that the chapters
name. A sparse map lists only what differs from its reset contents.
-/

namespace Sys2Proof.Machine

/-- The completion a host request gets (Tables 2-6 and 15-6); `success` as well for an on-chip master and for a posted write. -/
inductive CplKind where
  | success | unsupported | abort | retry
deriving DecidableEq, Repr

/-- The answer to the last access: what the master saw (Table 2-6; the model's own record). -/
structure Response where
  master : Nat := 63
  write : Bool := false
  addr : Nat := 0
  data : List Word := []
  code : Nat := 0
  status : CplKind := .success
deriving DecidableEq, Repr

/-! Events and the change log (chapter 17). -/

/-- An event record (Table 17-4). -/
structure EvRec where
  seq : Word
  time : Nat
  source : Nat
  bit : Nat
  lost : Bool
  detail : Word
deriving DecidableEq, Repr

/-- The event fabric: the ring, the records on their way to it, and the vector requests (R470 to R480). -/
structure Events where
  ring : List EvRec := []
  wait : List EvRec := []
  lostMark : Bool := false
  msixWait : List Nat := []
deriving DecidableEq, Repr

/-- A change-log entry (Table 17-6), and which of its 128 stored bits have changed since (R489). -/
structure LogEntry where
  time : Nat
  origin : Nat
  kind : Nat
  late : Bool
  afterLoss : Bool
  reserve : Bool
  addr : Nat
  value : Word
  flip : BitVec 128 := 0
deriving DecidableEq, Repr

/-- The change log (R481 to R489). -/
structure ChangeLog where
  entries : List LogEntry := []
  head : Nat := 0
  lost : Nat := 0
  refused : Nat := 0
  afterLoss : Bool := false
deriving DecidableEq, Repr

/-! Bolts (chapters 05 and 06). -/

/-- Where a bolt stands in its pick. -/
inductive BoltStage where
  | notReleased | open | closing | drain | overrun | beatUp | closed | rollback | recovery | halt | direct
deriving DecidableEq, Repr

/-- A bolt, beside its registers. `pend` is a detected fault that waits for the pick controller: cause, location, time. `gateHeld`: the
bolt entered CLOSING for the present point and has not ended or skipped its beat-up (R131). `paceHeld`: its reeds hold pick-aligned pace
taps and clocks low, since or until `paceAt` (R132, R172). -/
structure Bolt where
  stage : BoltStage := .notReleased
  hold : Bool := false
  holdDone : Bool := false
  final : Bool := false
  panels : Nat := 0
  t0 : Option Nat := none
  grid : Nat := 0
  since : Nat := 0
  tf : Nat := 0
  pend : Option (Nat × Nat × Nat) := none
  forceHalt : Bool := false
  recov : Bool := false
  shadowBad : Bool := false
  resuming : Bool := false
  unbounded : Bool := false
  deferred : Bool := false
  leakPick : Bool := false
  leakWire : Bool := false
  dfrozen : Bool := false
  holdAt : Nat := 0
  gateHeld : Bool := false
  paceHeld : Bool := false
  paceAt : Option Nat := none
deriving DecidableEq, Repr

/-- The pick grid beside its registers: a PICK_CMD.APPLY that waits for its point `g` with the settings it copied (period, guard,
drain bound, least window, overrun limit, origin), the first point of the active grid, the pace gate and when it last moved, and the
release. -/
structure PickState where
  pending : Option (List Nat) := none
  g : Nat := 0
  first : Nat := 0
  gateShut : Bool := false
  gateAt : Option Nat := none
  released : Bool := false
  last : Option Nat := none
deriving DecidableEq, Repr

/-! Fabric (chapters 03 and 04). -/

/-- A heddle cell: flip-flops, controller, checkpoint shadows with their parity (R57 to R59), and whether a WIRE clock has been at its
inactive level since its last edge (R70). -/
structure Cell where
  ffA : Bool := false
  ffB : Bool := false
  oreq : Bool := false
  slot : Bool := false
  ack : Bool := false
  joined : Bool := false
  expired : Bool := false
  busy : Bool := false
  shA : Bool := false
  shB : Bool := false
  shO : Bool := false
  shS : Bool := false
  shPar : Bool := false
  armed : Bool := false
deriving DecidableEq, Repr

/-- A word of configuration memory: what was written, and which of its 72 stored bits have changed since (R315, R327). -/
structure CfgWord where
  data : Dword := 0
  flip : BitVec 72 := 0
deriving DecidableEq, Repr

/-- The hard blocks whose output slots take over taps (R329). -/
inductive TapBlock where
  | creelA | creelB | twill | bridge | fbp | pin
deriving DecidableEq, Repr

/-- What a taken tap carries. -/
structure TapSrc where
  block : TapBlock
  unit : Nat
  slot : Nat
deriving DecidableEq, Repr

/-! Creels (chapters 07 and 08). -/

/-- An array word: data, and which of the 72 stored bits have changed since the write (R176). -/
structure ArrWord where
  data : Dword := 0
  flip : BitVec 72 := 0
deriving DecidableEq, Repr

/-- A request token of a creel port (Table 7-3). -/
structure CReq where
  adr : Nat
  we : Bool
  wdata : Dword
  last : Bool
  abort : Bool
deriving DecidableEq, Repr

/-- A response token of a creel port. -/
structure CResp where
  rdata : Dword
  err : Bool
  nv : Bool
  plast : Bool
deriving DecidableEq, Repr

/-- A fabric port of a creel. `rsLow` keeps RS_REQ low until RS_ACK of the last response has returned to zero (R182). -/
structure CPort where
  rq : Bool := false
  ack : Bool := false
  req : Option CReq := none
  parked : Bool := false
  resp : Option CResp := none
  rsLow : Bool := false
deriving DecidableEq, Repr

/-- An entry of an undo log (R188): the word, what it held, and which of the kept bits have changed since. -/
structure UndoEntry where
  word : Nat
  old : ArrWord
  flip : BitVec 72
deriving DecidableEq, Repr

/-- The items of a queue controller (Table 8-2). -/
structure QItems where
  wp : Nat := 0
  pc : Nat := 0
  start : Nat := 0
  rp : Nat := 0
  fm : Nat := 0
  open_ : Bool := false
  orphan : Bool := false
  last : Dword := 0
deriving DecidableEq, Repr

/-- A queue controller: each item in two copies (R222), and a flush that waits (R226). -/
structure Queue where
  live : QItems := {}
  live2 : QItems := {}
  shadow : QItems := {}
  shadow2 : QItems := {}
  flush : Bool := false
deriving DecidableEq, Repr

/-- A creel beside its registers and array: ports and the order of their accesses, words to write back, the scrubber's next word, the undo
log, the MIRROR words whose current slot is the upper one, the dirty ones and those whose state parity is wrong (R187), the queue, and
whether the byte parity of the next element from a bus end fails (R220). -/
structure Creel where
  portA : CPort := {}
  portB : CPort := {}
  order : List PortSide := []
  writeback : List Nat := []
  scrubPos : Nat := 0
  undo : List UndoEntry := []
  cur : List Nat := []
  dirty : List Nat := []
  badPar : List Nat := []
  queue : Queue := {}
  badElem : Bool := false
deriving DecidableEq, Repr

/-! Twill blocks (chapter 09). -/

/-- A captured operation, and the residue codes of its operands formed at the capture: of A, B and D, of Z, or of the four pairs of
bytes of DOT4 (R239). -/
structure TwOp where
  a : BitVec 24
  b : BitVec 24
  d : BitVec 24
  neg : Bool
  clr : Bool
  emit : Bool
  rho : List Nat
deriving DecidableEq, Repr

/-- A response token. -/
structure TwResp where
  result : Dword
  wrap : Bool
  err : Bool
deriving DecidableEq, Repr

/-- A cascade token: a value and its residue code (R238). -/
structure TwToken where
  value : Dword
  res : Nat
deriving DecidableEq, Repr

/-- A twill block. `shPar` is the parity of the shadow (R243); `faulty` holds the pipeline of a COMMITTED owner after a
residue fault until the rollback (R241), and `rsLow` keeps RS_REQ low until RS_ACK of the last response has returned to zero. -/
structure Twill where
  acc : Dword := 0
  res : Nat := 0
  shAcc : Dword := 0
  shRes : Nat := 0
  shPar : BitVec 5 := 0
  ops : List TwOp := []
  resps : List TwResp := []
  base : Option TwToken := none
  link : List TwToken := []
  rq : Bool := false
  ack : Bool := false
  rsLow : Bool := false
  faulty : Bool := false
deriving DecidableEq, Repr

/-! Bridges and pace generators (chapter 10). -/

/-- A channel on which a hard block presents tokens to the fabric: the token while its request is up, whether the acknowledge of the last
one has yet to return to zero, and whether the token is older than a RESYNC (R254, R269). -/
structure FabChan where
  token : Option Dword := none
  low : Bool := false
  stale : Bool := false
deriving DecidableEq, Repr

/-- A channel on which the fabric presents tokens to a hard block: its acknowledge, and a token that is held as a parked wait (R26). -/
structure FabSink where
  ack : Bool := false
  parked : Option Dword := none
deriving DecidableEq, Repr

/-- A selvedge bridge beside its registers. RESYNC: in it, done, the side reset and the step (Table 10-9). SAMPLE2: unstable, failed
attempts, the source register, its value at the last attempt, L and its shadow, the newest agreed value and one whose flag crosses. HOLD and
pulses: held and waiting value, pending pulses, the step of Table 10-4, and whether the present item has been taken. QUEUE: the words, those
read since the checkpoint, and the shadow of the write pointer of an OUT bridge. Then the strobes and the value the clocked side saw last, the
fabric channels (IN and OUT), and CLOCK_LOST. -/
structure Bridge where
  resync : Bool := false
  done : Bool := false
  rsFabric : Bool := false
  rsStep : Nat := 0
  unstable : Bool := false
  fails : Nat := 0
  src : Dword := 0
  old : Dword := 0
  last : Dword := 0
  shLast : Dword := 0
  agreed : Option Dword := none
  offer : Option Dword := none
  hold : Option Dword := none
  waiting : Option Dword := none
  hs : Nat := 0
  taken : Bool := false
  fifo : List Dword := []
  read : Nat := 0
  shCount : Nat := 0
  pend : Nat := 0
  strobes : Nat := 0
  out : Option Dword := none
  chan : FabChan := {}
  sink : FabSink := {}
  clkLost : Bool := false
deriving DecidableEq, Repr

/-- The settings of a pace generator: PACE_CFG, PACE_N, PACE_FRAC, PACE_OUT. -/
structure PaceSet where
  cfg : Word := 0x0004_0000
  n : Word := 0x20
  frac : Word := 0
  out : Word := 2
deriving DecidableEq, Repr

/-- A pace generator beside its registers; `turn` is when it last gained or lost lock (R280, R284). -/
structure Pace where
  pending : Option PaceSet := none
  act : PaceSet := {}
  locked : Bool := false
  relock : Bool := false
  refOk : Bool := false
  turn : Option Nat := none
deriving DecidableEq, Repr

/-! The fabric window (R273 to R277). -/

/-- An access of a master. While it is unanswered on the bus: `port` is the fabric bus port whose window it names, `tag` its tag once it
is in the fabric, `time` when it was issued, and `checked` says that its target has taken it and holds it (a word for a full CFG_FIFO, an
operation of a creel window while the owner rolls back); without a port and not checked, it waits for an older access of its master
(R44). `init` marks an initiator's own access, `part` names the host read and the DWord of it that the access is, `bell` marks an access of a doorbell in BAR2 (R410), and `unheard` marks one
whose completion is discarded (R416, R417). -/
structure Issued where
  master : Nat := 63
  addr : Nat := 0
  write : Bool := false
  value : Word := 0
  be : Nat := 15
  port : Option Nat := none
  tag : Option Nat := none
  time : Nat := 0
  timedOut : Bool := false
  checked : Bool := false
  init : Bool := false
  part : Option (Nat × Nat) := none
  bell : Bool := false
  unheard : Bool := false
deriving DecidableEq, Repr

/-- An initiator request on the bus: its answer once it has one, whether it is older than the checkpoint, and whether a rollback
discards its response (R277). -/
structure InitReq where
  addr : Nat
  write : Bool
  answer : Option (Nat × Word)
  ckpt : Bool
  discard : Bool
deriving DecidableEq, Repr

/-- A response an initiator port holds for user logic. -/
structure FbpAnswer where
  code : Nat
  data : Word
  ckpt : Bool
deriving DecidableEq, Repr

/-- A fabric bus port beside its registers. Target half: the request words and how many user logic has taken since the checkpoint, the next
tag, the request and response channels, and late completions. Initiator half: requests on the bus, the responses and how many user logic has
taken since the checkpoint, and the request and response channels. -/
structure Fbp where
  tq : List Dword := []
  tread : Nat := 0
  nextTag : Nat := 0
  tReq : FabChan := {}
  tResp : FabSink := {}
  late : Nat := 0
  reqs : List InitReq := []
  queue : List FbpAnswer := []
  read : Nat := 0
  iReq : FabSink := {}
  iResp : FabChan := {}
deriving DecidableEq, Repr

/-! Pins and peripherals (chapter 13). -/

/-- A user pin: the picked output register (R134), the sources it is connected to, a changeover in progress (R361), the level
its receiver and its filter show, and the level a KEEP holds. -/
structure Pin where
  regV : Bool := false
  regOE : Bool := false
  outSel : Nat := 0
  inSel : Nat := 0
  picked : Bool := false
  chg : Option Nat := none
  waiting : Bool := false
  level : Bool := false
  filt : Bool := false
  kept : Bool := false
deriving DecidableEq, Repr

/-- A pattern unit beside its registers: the debounced vector, whether it has been evaluated since EN was set, when it last
became equal to PAT_A, and the vectors of the matches that wait to be recorded (R366, R367). -/
structure Pattern where
  v : Nat := 0
  evaluated : Bool := false
  aAt : Option Nat := none
  hits : List Nat := []
deriving DecidableEq, Repr

/-- A hard peripheral: its FIFOs, the command in progress (operation and length), its HOLD_CS, the SPI select that is low, and the error of
the last command (R369 to R371). -/
structure Periph where
  tx : List Byte := []
  rx : List Byte := []
  cmd : Option (Nat × Nat) := none
  holdCs : Bool := false
  csLow : Option Nat := none
  err : Option Nat := none
deriving DecidableEq, Repr

/-! Power and resets (chapter 19). -/

/-- Power beside its registers: rails in warning, with the lowest level and the start of each warning; the span of R525;
FAB_PWR_EN; the SLEEP (0) or shutdown (1) request that closes the bolts, the point it names or, until that point has come, a time
before it, the closing point of R141, and whether the point has come; the time of the wake source; and whether SYS_REFCLK is absent. -/
structure Power where
  warn : Nat := 0
  dipMin : SMap Nat := []
  dipStart : SMap Nat := []
  removed : Bool := false
  fabPwrEn : Bool := true
  closing : Option Nat := none
  closeG : Nat := 0
  closePoint : Option Nat := none
  closeHit : Bool := false
  finalRaised : Bool := false
  tw : Nat := 0
  refLost : Bool := false
deriving DecidableEq, Repr

/-! Shuttles (chapter 16). -/

/-- A committed message: its words, how many are read, whether it has an acknowledge entry, whether it is older than a reset of
its sender, when its timer expires, and when it was committed. -/
structure ShMsg where
  seq : Nat
  words : List Word
  read : Nat
  acked : Bool
  old : Bool
  due : Option Nat
  born : Nat := 0
deriving DecidableEq, Repr

/-- One direction of a shuttle, by its sender (R447 to R458). -/
structure ShDir where
  accum : List Word := []
  reject : Bool := false
  lenWritten : Nat := 0
  seq : Nat := 0
  msgs : List ShMsg := []
  acks : List (Nat × Nat) := []
  waiting : List (Nat × Nat) := []
  peerReset : Bool := false
  rxPeerReset : Bool := false
  ackReject : Bool := false
deriving DecidableEq, Repr

/-! Configuration (chapters 11 and 12). -/

/-- The record of a frame group (R309): the kind and offset of its source, and the digest of its frame data. -/
structure GroupRec where
  source : Nat
  offset : Nat
  digest : BitVec 128
deriving DecidableEq, Repr

/-- A recovery of Table 11-7: its group, the frames with uncorrectable words, when the first was found, and the step reached
(0 waits for the source check, 1 the group is read, 2 its frames are rewritten). -/
structure Recovery where
  group : Nat
  frames : List Nat
  since : Nat
  step : Nat
deriving DecidableEq, Repr

/-- The configuration engine beside its registers. `words` are the image words checked so far; `got` and `fifo` the words of a
FIFO or host load that are no whole section or record yet, in the engine and in the FIFO; `sect` is the type code of the section that
comes next or is being read, `secOff` and `secEnd` where it begins and where its body ends, `left` its records still to come.
`asked` are the bytes of a host image asked for, and `parts` those that arrived out of order (R295).
`interrupted` is the state a recovery write paused (IDLE without a load), `due` a region that waits for its release point, `stopped` the span from START_FULL to release, `dropping` a
failed FIFO load whose feeder may still write, `unverified` the tiles whose last load was not verified, and `rewoven` the tiles
released while their bolt is in HALT. -/
structure Engine where
  words : List Word := []
  got : List Word := []
  fifo : List Word := []
  asked : Nat := 0
  parts : List (Nat × List Word) := []
  sect : Nat := 1
  inside : Bool := false
  secOff : Nat := 0
  secEnd : Nat := 0
  left : Nat := 0
  total : Nat := 0
  imageId : Word := 0
  iv : List Word := []
  settings : List Word := []
  region : List Nat := []
  fencedAll : Bool := false
  frames : List (Nat × Nat) := []
  pinmap : List Word := []
  inits : List (Nat × Nat × List Dword) := []
  domains : List Word := []
  authKind : Nat := 0
  digest : Nat := 0
  interrupted : Option Nat := none
  due : Bool := false
  dropping : Bool := false
  stopped : Bool := false
  unverified : List Nat := []
  groups : SMap (Option GroupRec) := []
  recovs : List Recovery := []
  rewoven : List Nat := []
deriving DecidableEq, Repr

/-! Trust (chapter 18). -/

/-- The parts of a key or a token that have arrived (R505, R507): `slot` is 16 for a token. -/
structure Staged where
  slot : Nat
  count : Nat
  words : List Word
deriving DecidableEq, Repr

/-- A fuse burn in progress: to a life-cycle state, or of a key slot with its words (R504, R507). -/
inductive Burn where
  | life (target : Nat)
  | key (slot : Nat) (words : List Word)
deriving DecidableEq, Repr

/-- A service request that waits for its end: its opcode, HOLD_RELEASE of a load or the SLEEP of SET_POWER_STATE (Table 18-5), since
when, and its return code once it waits for room in the acknowledge queue (R451). -/
structure Service where
  opcode : Nat
  hold : Bool := false
  since : Nat := 0
  code : Option Nat := none
deriving DecidableEq, Repr

/-- What warp and weft firmware hold beside the registers: key words, staged parts, a complete token, a fuse burn in progress, the
request each channel serves, when the watchdog expires, and the version of a verified container that HOLD keeps from running. -/
structure Trust where
  ownerKey : List Word := []
  imageKey : List Word := []
  staged : Option Staged := none
  token : Option (List Word) := none
  burn : Option Burn := none
  serving : SMap (Option Service) := []
  wdog : Option Nat := none
  version : Word := 0
deriving DecidableEq, Repr

/-- The instruction of the JTAG port (R508, R509). -/
inductive JtagInstr where
  | idcode | bypass | sample | extest | highz | clamp | debug
deriving DecidableEq, Repr

/-- The JTAG port: its instruction, the boundary register, the pad levels it sampled last, and the word it shows (an IDCODE, a debug
answer). -/
structure Jtag where
  instr : JtagInstr := .idcode
  boundary : List Bool := []
  captured : List Bool := []
  out : Word := 0
deriving DecidableEq, Repr

/-! Start-up and tests (chapter 19). -/

/-- Where a start stands (Table 19-6): the boot of warp ROM, the sanity check, the classes of a full test, the clearing of step 5, up;
or held in reset (Table 19-9). -/
inductive BootStage where
  | rom | sanity | full | clearing | up | held
deriving DecidableEq, Repr

/-- A doff record (Table 19-8), and whether a start has marked it CONSUMED. -/
structure DoffRec where
  seq : Word
  patterns : Word
  expected : Word
  classes : Word
  misr : List Dword
  cmac : Nat
  consumed : Bool
deriving DecidableEq, Repr

/-- Start-up and tests beside the registers: the stage, the path and its beginning, whether a full start test has passed since the last
device reset, the classes the running test still has, the classes it ran and passed, whether it waits to start after SHUTDOWN, the
two NVSS record slots and which holds the newest record, and the pins SAFE_OFF, FAULT_N low and CFG_DONE (R301 to R303). -/
structure Boot where
  stage : BootStage := .rom
  quick : Bool := false
  reason : Nat := 0
  start : Nat := 0
  fullOk : Bool := false
  left : List Nat := []
  slots : SMap (Option DoffRec) := []
  newest : Nat := 0
  safeOff : Bool := false
  faultLow : Bool := false
  cfgDone : Bool := false
deriving DecidableEq, Repr

/-! PCI Express and spool DMA (chapter 15). -/

/-- An outstanding device read: its tag, channel (64 is the configuration engine, R421), whether it reads data or descriptors, its length and its place in the buffer or ring,
and whether its completion is discarded (R421, R427, R434). -/
structure DevRead where
  tag : Nat
  chan : Nat
  data : Bool
  len : Nat
  off : Nat
  dead : Bool
deriving DecidableEq, Repr

/-- A host read of several DWords that is not answered yet (R43): its function, its address and length, the DWords read so far, and the
codes of those that were rejected. -/
structure HostRead where
  id : Nat
  func : Nat
  addr : Nat
  len : Nat
  data : List (Nat × Word) := []
  bad : List (Nat × Nat) := []
deriving DecidableEq, Repr

/-- The endpoint beside the PCIE page: configuration spaces, MSI-X tables and pending bits by function, functions in FLR, the
outstanding reads, the last requester that got a tag, the last message sent (function and vector, address, data), the host reads of
several DWords in progress, the number of the next one, and the device time of the last PTM dialogue. -/
structure Pcie where
  cfg : SMap Word := []
  msix : SMap Word := []
  pba : SMap Bool := []
  flr : Nat := 0
  training : Bool := false
  reads : List DevRead := []
  rr : Nat := 64
  sent : Option (Nat × Nat × Word) := none
  hostReads : List HostRead := []
  nextRead : Nat := 0
  ptmAt : Option Nat := none
deriving DecidableEq, Repr

/-- States of a channel (Table 15-13). -/
inductive ChanState where
  | disabled | running | stopping | paused | error
deriving DecidableEq, Repr

/-- A read that has ended: its place, its status of Table 15-9, and its bytes. -/
structure ReadDone where
  off : Nat
  status : Nat
  bytes : List Byte
deriving DecidableEq, Repr

/-- The descriptor a channel works on: its ring slot and words, the bytes asked for and moved, data reads that have ended, bytes ready to
be pushed, whether an element was raw, whether the last element moved ends a packet, and when LEVEL was last seen above 0. -/
structure Work where
  slot : Nat
  words : List Word
  asked : Nat := 0
  moved : Nat := 0
  parts : List ReadDone := []
  ready : List Byte := []
  raw : Bool := false
  last : Bool := false
  since : Nat := 0
deriving DecidableEq, Repr

/-- A record that waits to be written: its words without PHASE and TIME, and its status. -/
structure DmaRecord where
  words : List Word
  status : Nat
  irq : Bool
deriving DecidableEq, Repr

/-- A posted write of a channel to host memory: its address, its bytes, and whether it carries Relaxed Ordering (R422, R424). -/
structure HostPost where
  addr : Nat
  bytes : List Byte
  relaxed : Bool
deriving DecidableEq, Repr

/-- A spool DMA channel beside its registers (R425 to R435). `fetched` is the slot after the last descriptor asked for, `badFetch` the
status of a fetch that failed and has no record yet, `credit` the SPACE or LEVEL left of the last read of Q_LEVEL, `polled` when that
was; `written` are the writes of the present buffer, and `lastRecord` that of the last record. -/
structure Chan where
  state : ChanState := .disabled
  size : Nat := 0
  descs : List (Nat × List Word) := []
  fetched : Nat := 0
  fetch : Option ReadDone := none
  badFetch : Nat := 0
  work : Option Work := none
  credit : Nat := 0
  polled : Option Nat := none
  inPacket : Bool := false
  tail : Bool := false
  waiting : Bool := false
  phase : Bool := true
  record : Option DmaRecord := none
  written : List HostPost := []
  lastRecord : Option HostPost := none
deriving DecidableEq, Repr

/-! SerDes and PCS (chapter 14). -/

/-- A lane beside its registers: a signal at the receiver, CDR, ONCE adaptation and checker lock, the elastic buffer level, a bit
inversion that waits for the next generated word, the DFE taps, the PCS locks and deskew, the receive buffer with its frame counts; and on the
transmit side the place in the frame (0 where a header word is due), its KINDS, and what was sent last, with whether it is a control block
(R382 to R395). -/
structure Lane where
  signal : Bool := false
  cdr : Bool := false
  adapted : Bool := false
  prbs : Bool := false
  level : Nat := 0
  inject : Bool := false
  dfe : SMap Byte := []
  block : Bool := false
  marker : Bool := false
  codeword : Bool := false
  aligned : Bool := false
  skew : Nat := 0
  seq : Nat := 0
  dropped : Nat := 0
  buffer : List Dword := []
  txPos : Nat := 0
  txKinds : Nat := 0
  txSent : Option (Dword × Bool) := none
deriving DecidableEq, Repr

/-- A quad beside its registers: the settings in effect, its PLL, a relock in progress, and a lost reference (R380, R381). `lcfg`
holds the PCS_LCFG in effect of its lanes. -/
structure Quad where
  qcfg : Word := 0x1A50_3D09
  pll : Bool := false
  relock : Bool := false
  refLost : Bool := false
  lcfg : SMap Word := []
  bond : Word := 0
  am : Word := 0xF
deriving DecidableEq, Repr

/-- The device. -/
structure State where
  /-- The commands that wait, first in, first out (the model's own field). -/
  pending : List Instr := []
  /-- Device time in nanoseconds (R19). -/
  now : Nat := 0
  /-- How many open values have been used: the argument of `Config.free` (log entry 2; the model's own field). -/
  free : Nat := 0
  /-- How the last access answered (R44); for observers, the device holds no such register. -/
  resp : Response := {}
  /-- Registers held as words, by address: those of the register pages and of configuration space (R37, R404). An absent one
  holds its reset value. -/
  regs : SMap Word := []
  /-- The high halves that a read of a low half captured, by page register and master (R562). -/
  caps : SMap (Option Word) := []
  /-- Event fabric: records that wait, MSI-X messages that wait, the ring, and the lost mark (R476 to R479). -/
  ev : Events := {}
  /-- Change log (R484 to R490). -/
  log : ChangeLog := {}
  /-- Bolts: state, picks, rollback and overrun counters (R114 to R175). -/
  bolts : SMap Bolt := []
  /-- The pick grid and the settings that wait to be applied (R114 to R139). -/
  pick : PickState := {}
  /-- Rails, power states and shutdown (R517 to R532). -/
  pwr : Power := {}
  /-- Heddle cells that differ from the cleared one (R52 to R80). -/
  cells : SMap Cell := []
  /-- The levels of the acknowledge joins of each reed (R79). -/
  joins : SMap Bool := []
  /-- Words of configuration memory that differ from the cleared state, by frame and word (R292, R327). -/
  cfgMem : SMap CfgWord := []
  /-- The lease switch output that is within the extra transition of R100, and its level then; none between commands. -/
  glitch : Option (Nat × Bool) := none
  /-- The levels that seam tracks hold while the sending panel is in warning or the seam frame is rewritten (R96). -/
  seamHeld : SMap Bool := []
  /-- Which block drives a taken tap (R93, R330). -/
  taps : SMap (Option TapSrc) := []
  /-- The level each fabric input port presents (R135, R136). -/
  portIn : SMap Bool := []
  /-- The I/O units and seams whose frames hold an uncorrectable word, which withhold their handshakes until recovery ends (R312, R333). -/
  held : List Nat := []
  /-- Creel ports, logs, MIRROR bits and queues (R176 to R232). -/
  creels : SMap Creel := []
  /-- Words of the creel arrays, with upset bits (R176). -/
  arrays : SMap ArrWord := []
  /-- Twill blocks: accumulators, pipeline, cascade (R233 to R250). -/
  twills : SMap Twill := []
  /-- Selvedge bridges (R251 to R270). -/
  bridges : SMap Bridge := []
  /-- Pace generators (R278 to R291). -/
  paces : SMap Pace := []
  /-- Accesses to a fabric bus port that are unanswered (R51, R274). -/
  issued : List Issued := []
  /-- Accesses that wait for a slot of the bus (R24). -/
  slotWait : List Issued := []
  /-- Fabric bus ports (R271 to R277). -/
  fbps : SMap Fbp := []
  /-- I/O pins: pad level, glitch filter, changeover (R350 to R365). -/
  pins : SMap Pin := []
  /-- What picked input ports sampled at the commit point (R135). -/
  portSample : SMap Bool := []
  /-- The input ports that a picked pin names (R135). -/
  pickedIn : List Nat := []
  /-- The pins are in the configuration state (R301). -/
  pinsCfg : Bool := true
  /-- The pins are in their sleep states (R364). -/
  pinsAsleep : Bool := false
  /-- Banks whose supply is within range (R349). -/
  bankOk : SMap Bool := []
  /-- Pattern units (R366 to R368). -/
  patterns : SMap Pattern := []
  /-- Hard peripherals, their FIFOs and commands (R369 to R371, R377). -/
  periphs : SMap Periph := []
  /-- Shuttle directions: messages, acknowledges, partial words (R441 to R459). -/
  shuttles : SMap ShDir := []
  /-- Who holds each semaphore (R460 to R463). -/
  semas : SMap (Option Nat) := []
  /-- Configuration engine (R292 to R314), image in progress (R318 to R347). -/
  eng : Engine := {}
  /-- Fuses, keys, firmware, service requests (R493 to R512). -/
  trust : Trust := {}
  /-- SerDes quads (R379 to R381). -/
  quads : SMap Quad := []
  /-- SerDes and PCS lanes (R382 to R396). -/
  lanes : SMap Lane := []
  /-- JTAG port (R508, R509). -/
  jtag : Jtag := {}
  /-- Start-up, doff test and NVSS (R533 to R542). -/
  boot : Boot := {}
  /-- PCI Express endpoint: link, functions, tags, MSI-X, PTM (R403 to R423, R437 to R440). -/
  pcie : Pcie := {}
  /-- Spool DMA channels (R424 to R436). -/
  chans : SMap Chan := []
deriving DecidableEq, Repr

/-- Stops that the manual calls for. The manual gives every command an outcome (Table 2-4 for an access), so the device has none. -/
inductive Fault where
deriving DecidableEq, Repr

/-- What the model does not run. -/
inductive Refusal where
  /-- A command without a meaning, rejected by its dispatch arm (safe). -/
  | notModelled (mnemonic : String)
  /-- Operands that no happening on this device has, as `Instr.wellFormed` states (safe: nothing is said about it). -/
  | illFormed
deriving DecidableEq, Repr

/-- The device after a power-on reset, before warp ROM boots: every register at its reset value, and the fuses of a device as it
ships: FIELD_OPEN after three transitions, DEVICE_UNIQUE valid (R502, Tables 0-2 and 18-9; log entries 1 and 43). -/
def State.reset : State := { regs := [(0x050, 0x0300_0003), (0x054, 0x0000_0010)] }

end Sys2Proof.Machine
end

