-- ==== Sys2Proof/Machine/Ops.lean ====
section
/-!
DEFINITION. The named operations over the registers, the event fabric and the change log that every family uses.
-/

namespace Sys2Proof.Machine

/-- The moment a time-driven command carries becomes the device time; it never goes backwards (R115). -/
def State.at (s : State) (t : Nat) : State := { s with now := max s.now t }

/-- The next value the manual leaves open, and the state with that value used up (log entry 2). -/
def State.openValue (s : State) : Nat := Config.free s.free

def State.tick (s : State) : State := { s with free := s.free + 1 }

/-! Registers (R6). A register's fields have one home; live RO fields are computed by the view functions of their chapter. -/

def State.reg (s : State) (a : Nat) : Word := SMap.get (resetOf a) s.regs a

def State.setReg (s : State) (a : Nat) (v : Word) : State := { s with regs := SMap.set (resetOf a) s.regs a v }

/-- Field `[hi:lo]` of a register. -/
def State.fld (s : State) (a hi lo : Nat) : Nat := fieldOf (s.reg a) hi lo

def State.setFld (s : State) (a hi lo v : Nat) : State := s.setReg a (withField (s.reg a) hi lo v)

/-- Bit `k` of a register. -/
def State.bit (s : State) (a k : Nat) : Bool := bitOf (s.reg a) k

def State.setBit (s : State) (a k : Nat) (b : Bool) : State := s.setReg a (withBit (s.reg a) k b)

/-- Count `n` more in field `[hi:lo]`, saturating at its largest value. -/
def State.count (s : State) (a hi lo n : Nat) : State :=
  s.setFld a hi lo (satAdd (2 ^ (hi + 1 - lo) - 1) (s.fld a hi lo) n)

/-- Count one more in a wrapping 32-bit register. -/
def State.countWrap (s : State) (a : Nat) : State := s.setReg a (s.reg a + 1)

/-- A 64-bit value in a _LO and _HI pair. -/
def State.setPair (s : State) (lo hi : Nat) (v : Nat) : State := (s.setReg lo (loHalf v)).setReg hi (hiHalf v)

def State.pair (s : State) (lo hi : Nat) : Nat := (s.reg lo).toNat + 2 ^ 32 * (s.reg hi).toNat

/-! Values held separately for each master identity (R562, R479, R489, R230, R542). -/

def idKey (m a : Nat) : Nat := m * 2 ^ 32 + a

def State.cap (s : State) (m a : Nat) : Option Word := SMap.get none s.caps (idKey m a)

def State.setCap (s : State) (m a : Nat) (v : Option Word) : State := { s with caps := SMap.set none s.caps (idKey m a) v }

/-! The event fabric (R469 to R480). -/

/-- The vectors of PF1 to PF3 that USR_VEC drives from event number `n`, as `256 f + v` (R412). -/
def State.userVectors (s : State) (n : Nat) : List Nat :=
  if n < 256 ∨ 512 ≤ n ∨ (320 ≤ n ∧ n < 448) then []
  else
    let func := s.fld (regAddr .dma ((n - 256) / 4) (0x100 + 0x80 * ((n - 256) % 4))) 30 29
    ((List.range 96).filter (fun k =>
      let w := s.reg (regAddr .pcie 0 (0x100 + 4 * k))
      bitOf w 31 && decide (fieldOf w 8 0 = n) && (decide (448 ≤ n) || decide (func = k / 32 + 1)))).map
        (fun k => 256 * (k / 32 + 1) + k % 32)

/-- A new record among those that wait: within one D1 cycle the numbers follow the event number and the bit (R474). -/
def orderRecord (r : EvRec) (ws : List EvRec) : List EvRec :=
  let i := ws.findIdx (fun w => decide (w.time = r.time) && decide (32 * r.source + r.bit < 32 * w.source + w.bit))
  match ws[i]? with
  | some w => ws.take i ++ { r with seq := w.seq } :: (ws.drop i).map (fun x => { x with seq := x.seq + 1 })
  | none => ws ++ [r]

/-- An occurrence of event number `n` (R412, R472, R474): a waiting record if the source is routed to the ring, and a vector
request for each vector it is routed to. -/
def State.occur (s : State) (n bit : Nat) (detail : Word) : State :=
  let route := s.reg (regAddr .eventMap 0 (0x100 + 4 * n))
  let ev := s.ev
  let s1 := if bitOf route 31 then
      { (s.countWrap (regAddr .event 0 0x048)) with
        ev := { ev with wait := orderRecord ⟨s.reg (regAddr .event 0 0x048), s.now, n, bit, false, detail⟩ ev.wait } }
    else s
  let vectors := (if bitOf route 24 then [fieldOf route 23 16] else []) ++ s.userVectors n
  if vectors = [] then s1 else { s1 with ev := { s1.ev with msixWait := s1.ev.msixWait ++ vectors } }

/-- A one-cycle pulse of EVT_RAW bit `k` of a page (R469). -/
def State.raise (s : State) (p : Page) (k : Nat) (detail : Word) : State :=
  let s1 := s.setBit (p.base + 0x014) k true
  if s1.bit (p.base + 0x018) k then s1.occur (p.eventOfBit k) k detail else s1

/-- A pulse whose chapter gives no detail: the page's instance (R477). -/
def State.pulse (s : State) (k : PageKind) (n bit : Nat) : State := s.raise ⟨k, n⟩ bit (BitVec.ofNat 32 n)

/-! The change log (R481 to R489). -/

/-- The largest number of entries the log holds, and the reserve of STRICT mode (R34). -/
def logSize : Nat := 65536
def logReserve : Nat := 64

def State.logStrict (s : State) : Bool := s.bit (regAddr .log 0 0x040) 0

/-- Does the STRICT log refuse an entry of this identity (R34, R486). -/
def State.logRefuses (s : State) (m : Nat) : Bool :=
  s.logStrict && decide (logSize - s.log.entries.length ≤ logReserve) &&
    decide (m ≠ 2 ∧ m ≠ 3 ∧ m ≠ 4 ∧ m ≠ 6 ∧ m ≠ 63)

/-- The page counts the logged change (R40, R483). -/
def State.countChange (s : State) (a : Nat) : State :=
  match pageOf a with
  | some p => s.countWrap (p.base + 0x028)
  | none => s

/-- One change-log entry (R483 to R487), without the page's count. -/
def State.logPut (s : State) (late : Bool) (origin kind addr : Nat) (value : Word) : State :=
  let l := s.log
  let full := decide (logSize ≤ l.entries.length)
  let reserve := s.logStrict && decide (logSize - l.entries.length ≤ logReserve)
  let e : LogEntry := { time := s.now, origin, kind, late, afterLoss := l.afterLoss, reserve, addr, value }
  if full && s.logStrict then
    State.pulse { s with log := { l with lost := satAdd (2 ^ 32 - 1) l.lost 1, afterLoss := true } } .log 0 3
  else
    let kept := if full then l.entries.drop 1 else l.entries
    let s1 := { s with log := { l with entries := kept ++ [e], head := (l.head + 1) % 2 ^ 32, afterLoss := false,
                                       lost := if full then satAdd (2 ^ 32 - 1) l.lost 1 else l.lost } }
    if full then s1.pulse .log 0 0 else if reserve then s1.pulse .log 0 2 else s1

/-- One change-log entry, counted by the page. -/
def State.logAs (s : State) (late : Bool) (origin kind addr : Nat) (value : Word) : State :=
  (s.countChange addr).logPut late origin kind addr value

def State.logEntry (s : State) (origin kind addr : Nat) (value : Word) : State := s.logAs false origin kind addr value

/-! Rejections (R46 to R50). -/

/-- The codes of Table 2-4. -/
def codeReservedBit : Nat := 0x01
def codeBadEncoding : Nat := 0x02
def codeLocked : Nat := 0x03
def codeNotPermitted : Nat := 0x04
def codeLifecycle : Nat := 0x05
def codeTestBusy : Nat := 0x06
def codeTimeout : Nat := 0x07
def codeQueueFull : Nat := 0x08
def codeLogFull : Nat := 0x09
def codeUnmapped : Nat := 0x0A
def codeNotQuiescent : Nat := 0x0B
def codeShuttingDown : Nat := 0x0C
def codeUnpowered : Nat := 0x0D
def codeBadSize : Nat := 0x0E

/-- The data of an answer: none to the host and 0 to an on-chip master for a rejected read (R50). -/
def rejectedData (m : Nat) (write : Bool) (data : Word) (code : Nat) : List Word :=
  if write then [] else if code = 0 then [data] else if 8 ≤ m ∧ m ≤ 11 then [] else [0]

/-- The answer of the last access (Table 2-6): the model's own record of what the master saw. -/
def State.answer (s : State) (m : Nat) (write : Bool) (a : Nat) (data : List Word) (code : Nat) : State :=
  let host := decide (8 ≤ m) && decide (m ≤ 11) && !write
  let status := if code = 0 || !host then CplKind.success else if code = codeUnmapped then .unsupported else .abort
  { s with resp := ⟨m, write, a, data, code, status⟩ }

/-- A rejection is recorded in the page that made it (R49). -/
def State.recordRejection (s : State) (p : Page) (m : Nat) (write : Bool) (off code : Nat) : State :=
  let s1 := (s.count (p.base + 0x020) 23 16 1).setFld (p.base + 0x020) 7 0 code
  s1.setReg (p.base + 0x024) (BitVec.ofNat 32 (place m 26 + flag write 25 + off))

/-- An UNMAPPED rejection is recorded in the DEVICE page, whose bit 1 pulses (R37, R515). -/
def State.recordUnmapped (s : State) (m : Nat) (write : Bool) (a : Nat) : State :=
  (s.recordRejection ⟨.device, 0⟩ m write (a % 0x1000) codeUnmapped).pulse .device 0 1

/-! Master identities (Table 1-3). -/

end Sys2Proof.Machine

namespace Sys2Proof

/-- The identity a master carries (R21). -/
def Master.id : Master → Nat
  | .warp => 0
  | .weft => 1
  | .cfgEngine => 2
  | .testEngine => 3
  | .dmaEngine => 4
  | .jtag => 5
  | .eventCtl => 6
  | .pf f => 8 + f.val
  | .fbp n => 16 + n.val

/-- Is the master the host (R38, R50). -/
def Master.isHost : Master → Bool
  | .pf _ => true
  | _ => false

end Sys2Proof
end

