-- ==== Sys2Proof/Machine/Aer.lean ====
section
/-!
DEFINITION. The stored part of the configuration spaces, and the errors the endpoint logs there (R404, R413, R423, Table 2-6). Where a
register lies, and its reset value, are those of the PCI Express specification (PRESUMED, log entry 40).
-/

namespace Sys2Proof.Machine

/-- The offsets of the writable registers. -/
def pciCommand : Nat := 0x004
def pciPmcsr : Nat := 0x044
def pciMsix : Nat := 0x050
def pciDevCtl : Nat := 0x078
def pciLinkCtl : Nat := 0x080
def pciDevCtl2 : Nat := 0x098
def pciUncStat : Nat := 0x104
def pciCorStat : Nat := 0x110
def pciAerCtl : Nat := 0x118
def pciPtmCtl : Nat := 0x248

def pciReset (off : Nat) : Word :=
  match off with
  | 0x078 => 0x0000_2010
  | 0x10C => 0x0006_2030
  | 0x114 => 0x0000_2000
  | _ => 0

def pciKey (f off : Nat) : Nat := 4096 * f + off

def State.pciReg (s : State) (f off : Nat) : Word := SMap.get (pciReset off) s.pcie.cfg (pciKey f off)
def State.setPci (s : State) (f off : Nat) (v : Word) : State :=
  { s with pcie := { s.pcie with cfg := SMap.set (pciReset off) s.pcie.cfg (pciKey f off) v } }
def State.pciBit (s : State) (f off k : Nat) : Bool := bitOf (s.pciReg f off) k
def State.pciRaise (s : State) (f off k : Nat) : State := s.setPci f off (withBit (s.pciReg f off) k true)

/-- An event of the PCIE page: 0 LINK_UP, 1 LINK_DOWN, 2 SPEED_CHANGE, 3 FLR, 4 POSTED_DROP, 5 UNEXPECTED_CPL, 6 BME_CLEAR, 7 D3_ENTRY
(R438). -/
def State.pcieEvent (s : State) (k f : Nat) : State := s.raise ⟨.pcie, 0⟩ k (BitVec.ofNat 32 f)

/-- The header log takes the header of the logged TLP, which no command carries: its words are open values (log entry 41). -/
def State.logHeader (s : State) (f : Nat) : State :=
  [0x11C, 0x120, 0x124, 0x128].foldl (fun s off => (s.setPci f off (BitVec.ofNat 32 s.openValue)).tick) s

/-- An error the endpoint logs in AER: uncorrectable bit `k`, the first one with its header (R413, R423, Table 2-6). -/
def State.aer (s : State) (f k : Nat) : State :=
  let s1 := if s.pciReg f pciUncStat = 0 then
      (let h := s.logHeader f
       h.setPci f pciAerCtl (withField (h.pciReg f pciAerCtl) 4 0 k))
    else s
  s1.pciRaise f pciUncStat k

/-- The same as Advisory Non-Fatal. -/
def State.aerAdvisory (s : State) (f k : Nat) : State := (s.aer f k).pciRaise f pciCorStat 13

def rDrops : Nat := regAddr .pcie 0 0x050

/-- A host write that is dropped (R50, Table 15-6). -/
def State.dropPosted (s : State) : State := (s.count rDrops 31 16 1).pcieEvent 4 0

end Sys2Proof.Machine
end

