-- ==== Sys2Proof/Machine/Bolts.lean ====
section
/-!
DEFINITION. Bolts and the grid as the other families see them: which bolt owns what, the phase it is in, and how a detected
fault waits for the pick controller (chapters 05 and 06).
-/

namespace Sys2Proof.Machine

def State.bolt (s : State) (b : Nat) : Bolt := SMap.get {} s.bolts b

def State.setBolt (s : State) (b : Nat) (v : Bolt) : State := { s with bolts := SMap.set {} s.bolts b v }

/-- The bolts, in ascending order. -/
def allBolts : List Nat := List.range 16

/-- Addresses of the COMMIT and PICK registers of a bolt (Tables 5-5 and 6-7). -/
def rBoltMode : Nat := 0x5040
def rBoltLeaked : Nat := 0x5048
def rRollbacks (b : Nat) : Nat := 0x5080 + 4 * b
def rCause (b : Nat) : Nat := 0x50C0 + 4 * b
def rFaultLoc (b : Nat) : Nat := 0x5100 + 4 * b
def rLastTime (b : Nat) : Nat := 0x5140 + 4 * b
def rBoltPick (b : Nat) : Nat := 0x40C0 + 4 * b
def rBoltStat (b : Nat) : Nat := 0x4100 + 4 * b

/-- The bolt a tile is assigned to (R144, TILE_MAP of Table 6-8). -/
def State.boltOfTile (s : State) (t : Nat) : Nat := s.fld (0x5200 + 4 * (t / 8)) (4 * (t % 8) + 3) (4 * (t % 8))

/-- The tile of a reed (Table 0-4, R144). -/
def tileOf (p x y : Nat) : Nat := p * 256 + y / 16 * 16 + x / 16

/-- The bolt of a reed. -/
def State.boltOfReed (s : State) (r : ReedRef) : Nat := s.boltOfTile (tileOf r.panel r.x r.y)

/-- The bolt is COMMITTED and holds a tile (R144, BOLT_MODE). -/
def State.committed (s : State) (b : Nat) : Bool := s.bit rBoltMode b

/-- Is any panel on which the bolt has a tile in warning (R172, R173). -/
def State.inWarning (s : State) (b : Nat) : Bool :=
  (List.range 4).any (fun p => (s.bolt b).panels.testBit p && s.pwr.warn.testBit p)

/-- Table 5-7. -/
def Bolt.phase (v : Bolt) : Nat :=
  match v.stage with
  | .notReleased => 0x0
  | .halt => 0x7
  | .recovery => 0x6
  | .rollback => 0x6
  | .direct => 0x8
  | .open => if v.final then 0xA else if v.hold then 0x9 else 0x1
  | .closing => if v.hold then 0x9 else 0x2
  | .drain => if v.hold then 0x9 else 0x3
  | .beatUp => if v.hold then 0x9 else 0x4
  | .overrun => 0x5
  | .closed => if v.final then 0xA else 0x9

/-- The bolt's fabric is frozen: from the freeze at t0, through beat-up, in a rollback, in recovery and in HALT, and where a SLEEP
or shutdown request has stopped it. -/
def Bolt.frozen (v : Bolt) : Bool :=
  v.dfrozen ||
    (match v.stage with
     | .halt | .recovery | .rollback | .beatUp => true
     | .drain | .direct => v.t0.isSome
     | _ => false)

/-- No release reaches the bolt (R121, R172). -/
def Bolt.releasesStopped (v : Bolt) : Bool :=
  match v.stage with
  | .open => v.hold || v.final
  | .direct => false
  | _ => true

/-- The edge detectors are armed (R133). -/
def Bolt.armed (v : Bolt) : Bool :=
  match v.stage with
  | .drain | .overrun | .beatUp => true
  | _ => false

/-- Logic of bolt `b` may take a step: its fabric is released, not frozen (Table 5-2), and has its supply (R201, R525). -/
def State.live (s : State) (b : Nat) : Bool :=
  let v := s.bolt b
  decide (v.stage ≠ .notReleased) && !v.frozen && !s.pwr.removed

/-! Pick-aligned clocks inside a bolt's reeds (R132, R172). -/

def Bolt.holdPace (v : Bolt) (t : Nat) : Bolt := if v.paceHeld then v else { v with paceHeld := true, paceAt := some t }
def Bolt.freePace (v : Bolt) (t : Nat) : Bolt := if v.paceHeld then { v with paceHeld := false, paceAt := some t } else v

/-- The first of two detected faults of a bolt: of residue mismatches in one D1 cycle, that of the lowest block (Table 9-5). -/
def earlierFault (old : Option (Nat × Nat × Nat)) (cause loc t : Nat) : Nat × Nat × Nat :=
  match old with
  | some (c, l, u) => if c = 0x01 ∧ cause = 0x01 ∧ u = t then (c, min l loc, u) else (c, l, u)
  | none => (cause, loc, t)

/-- A detected fault of Table 6-2 waits for the pick controller; in a DIRECT bolt nothing follows (R31, R156). -/
def State.detect (s : State) (b cause loc : Nat) : State :=
  let v := s.bolt b
  if s.committed b && decide (v.stage ≠ .halt ∧ v.stage ≠ .notReleased) then
    s.setBolt b { v with pend := some (earlierFault v.pend cause loc s.now) }
  else s

/-- The detail of a COMMIT event: kind, cause and pick number (Table 17-5). -/
def State.commitDetail (s : State) (b kind cause : Nat) : Word :=
  BitVec.ofNat 32 (place kind 28 + place cause 20 + fieldOf (s.reg (rBoltPick b)) 19 0)

def State.raiseCommit (s : State) (b kind cause : Nat) : State := s.raise ⟨.commit, 0⟩ b (s.commitDetail b kind cause)

/-- The log entry of a rollback, a HALT entry or a HALT exit (Table 17-7). -/
def State.logBolt (s : State) (b kind cause : Nat) : State :=
  s.logEntry 63 kind (rCause b) (BitVec.ofNat 32 (place b 28 + place cause 16 + fieldOf (s.reg (rBoltPick b)) 15 0))

/-- A bolt enters HOLD: its early beat-up waits for an idle report, its releases stop, and its reeds hold pick-aligned clocks low (R172).
It no longer holds back the pace gate, since the net runs on for other bolts (log entry 70). -/
def State.enterHold (s : State) (b : Nat) : State :=
  let v := s.bolt b
  let final := v.final && decide (v.stage = .closed)
  let stage := match v.stage with
    | .beatUp => BoltStage.beatUp
    | .closed => if final then .closed else .drain
    | _ => .drain
  let w := if final then v else v.holdPace s.now
  let s1 := s.setBolt b { w with hold := true, holdDone := final, stage := stage, unbounded := true, holdAt := s.now, gateHeld := false }
  if v.hold then s1 else s1.raiseCommit b 0x5 0

/-- A COMMITTED bolt opens after its release, a rollback, HALT or HOLD, or enters HOLD at once when a panel of it is in warning (R119, R172). -/
def State.openBolt (s : State) (b : Nat) : State :=
  let v := s.bolt b
  let w := v.freePace s.now
  let s1 := s.setBolt b { w with stage := .open, since := s.now, t0 := none, unbounded := false, deferred := false,
                                 gateHeld := false, pend := none, forceHalt := false, recov := false, shadowBad := false, resuming := false }
  if s1.inWarning b || v.hold then s1.enterHold b else s1

/-! The grid (R114, R117, R118). -/

def rActPeriod : Nat := 0x4060
def rActGuard : Nat := 0x4064
def rActDrainMax : Nat := 0x4068
def rActMinWindow : Nat := 0x406C
def rActLimit : Nat := 0x4070
def rActOriginLo : Nat := 0x4074
def rActOriginHi : Nat := 0x4078

def State.actPeriod (s : State) : Nat := (s.reg rActPeriod).toNat
def State.actGuard (s : State) : Nat := s.fld rActGuard 23 0
def State.actDrainMax (s : State) : Nat := s.fld rActDrainMax 23 0
def State.actMinWindow (s : State) : Nat := s.fld rActMinWindow 23 0
def State.actLimit (s : State) : Nat := s.fld rActLimit 3 0
def State.actOrigin (s : State) : Nat := s.pair rActOriginLo rActOriginHi

/-- The first point of the grid with this origin and period at or after `t`. -/
def gridAtOrAfter (origin period t : Nat) : Nat :=
  if t ≤ origin then origin else origin + (t - origin + period - 1) / period * period

/-- The first point of the active grid at or after `t` (R114, R117). -/
def State.gridFrom (s : State) (t : Nat) : Nat := gridAtOrAfter s.actOrigin s.actPeriod (max t s.pick.first)

/-- The next point at which bolts close after `t`: the closing point of R141, or the next grid point. -/
def State.nextPoint (s : State) (t : Nat) : Nat :=
  match s.pwr.closePoint with
  | some g => g
  | none => s.gridFrom (t + 1)

end Sys2Proof.Machine
end

