-- ==== Sys2Proof/Machine/CfgMem.lean ====
section
/-!
DEFINITION. Configuration memory and the geometry of routing: frames, reeds, tracks, taps and seams (chapters 04 and 12).
-/

namespace Sys2Proof.Machine

/-! Configuration memory (R326, R327): word `k` of frame `f` is listed at `64 f + k`; an unlisted word is cleared. -/

/-- The data bits the live configuration shows: the stored word with the upsets it has taken (R99). -/
def CfgWord.live (w : CfgWord) : Nat := (w.data ^^^ w.flip.setWidth 64).toNat

def State.cfgWord (s : State) (f k : Nat) : CfgWord := SMap.get {} s.cfgMem (64 * f + k)

def State.setCfgWord (s : State) (f k : Nat) (w : CfgWord) : State := { s with cfgMem := SMap.set {} s.cfgMem (64 * f + k) w }

/-- Byte `off` of a frame. -/
def State.frameByte (s : State) (f off : Nat) : Nat := (s.cfgWord f (off / 8)).live >>> (8 * (off % 8)) % 256

/-- `n` bytes of a frame, little-endian. -/
def State.frameBytes (s : State) (f off : Nat) : Nat → Nat
  | 0 => 0
  | n + 1 => s.frameByte f off + 256 * s.frameBytes f (off + 1) n

/-- Table 12-5. -/
def frameAddr (panel kind column row sub : Nat) : Nat :=
  place panel 22 + place kind 19 + place column 11 + place row 3 + sub

/-- A reed as a number: panel, column, row. -/
def reedNo (p x y : Nat) : Nat := p * 65536 + x * 256 + y
def reedIx (r : ReedRef) : Nat := reedNo r.panel r.x r.y
def reedP (r : Nat) : Nat := r / 65536
def reedX (r : Nat) : Nat := r / 256 % 256
def reedY (r : Nat) : Nat := r % 256
def reedFrame (r : Nat) : Nat := frameAddr (reedP r) 0 (reedX r) (reedY r) 0
def reedTile (r : Nat) : Nat := tileOf (reedP r) (reedX r) (reedY r)
def State.boltOf (s : State) (r : Nat) : Nat := s.boltOfTile (reedTile r)

/-- Is a tile fenced for a reweave (R307): FENCE of its PANEL page. -/
def State.fenced (s : State) (t : Nat) : Bool :=
  s.bit (0x8080 + t / 256 * 0x1000 + 4 * (t % 256 / 32)) (t % 32)

/-- Bits `[hi:lo]` of a configuration field. -/
def bits (v hi lo : Nat) : Nat := v >>> lo % 2 ^ (hi + 1 - lo)

def State.leaseSel (s : State) (r i : Nat) : Nat := s.frameByte (reedFrame r) (0x1BA + i)

/-! Tracks (R90 to R96). -/

/-- Direction, length of the track, distance of the driving reed and lease index within the direction of a tap (Table 4-4). -/
def tapTrack (t : Nat) : Nat × Nat × Nat × Nat :=
  if t < 32 then (t / 8, 1, 1, t % 8)
  else if t < 48 then ((t - 32) / 4, 4, 4, 8 + (t - 32) % 4)
  else if t < 64 then ((t - 48) / 4, 4, 2, 8 + (t - 48) % 4)
  else if t < 80 then ((t - 64) / 4, 16, 16, 12 + (t - 64) % 4)
  else ((t - 80) / 4, 16, 8, 12 + (t - 80) % 4)

/-- The seam number (Table 12-6), the sending panel's side and the edge index of a seam crossing. -/
structure SeamRef where
  seam : Nat
  sub : Nat
  edge : Nat
deriving DecidableEq, Repr

/-- The reed that drives tap `t` of reed `r`, the lease select that does, and the seam it crosses; none if absent (R92 to R94). -/
def tapDriver (r t : Nat) : Option (Nat × Nat × Option SeamRef) :=
  let (d, len, dist, j) := tapTrack t
  let p := reedP r
  let x := reedX r
  let y := reedY r
  let inside (rd : Nat) (start : Int) (up : Bool) : Option (Nat × Nat × Option SeamRef) :=
    let stop := if up then start + len else start - len
    if 0 ≤ start ∧ start ≤ 255 ∧ 0 ≤ stop ∧ stop ≤ 255 then some (rd, d * 16 + j, none) else none
  let edge (q x y seam sub e : Nat) : Option (Nat × Nat × Option SeamRef) :=
    if t < 32 ∧ j < 2 then some (reedNo q x y, d * 16 + j, some ⟨seam, sub, e⟩) else none
  match d with
  | 0 => if dist ≤ x then inside (reedNo p (x - dist) y) ((x : Int) - dist) true
         else if x = 0 ∧ p % 2 = 1 then edge (p - 1) 255 y (if p = 1 then 0 else 1) 0 y else none
  | 1 => if x + dist ≤ 255 then inside (reedNo p (x + dist) y) ((x : Int) + dist) false
         else if x = 255 ∧ p % 2 = 0 then edge (p + 1) 0 y (if p = 0 then 0 else 1) 1 y else none
  | 2 => if dist ≤ y then inside (reedNo p x (y - dist)) ((y : Int) - dist) true
         else if y = 0 ∧ 2 ≤ p then edge (p - 2) x 255 p 0 x else none
  | _ => if y + dist ≤ 255 then inside (reedNo p x (y + dist)) ((y : Int) + dist) false
         else if y = 255 ∧ p < 2 then edge (p + 2) x 0 (p + 2) 1 x else none

/-- Frame and key of a seam track (R337): TRACK_EN bit `2e + i`. -/
def SeamRef.frame (m : SeamRef) (sendPanel : Nat) : Nat := frameAddr sendPanel 4 m.seam 0 m.sub
def SeamRef.key (m : SeamRef) (i : Nat) : Nat := (m.seam * 2 + m.sub) * 512 + 2 * m.edge + i

/-- Is the tap of another bolt (R148) or across the fence of a region (R307). -/
def State.crossesBolt (s : State) (r d : Nat) : Bool := decide (s.boltOf r ≠ s.boltOf d)
def State.crossesRegion (s : State) (r d : Nat) : Bool := s.fenced (reedTile r) != s.fenced (reedTile d)

end Sys2Proof.Machine
end

