-- ==== Sys2Proof/Machine/Slots.lean ====
section
/-!
DEFINITION. The hard blocks on the fabric: their frames, tiles and wire slots, and the fences their input slots meet (R148, R185,
R307, R329 to R336).
-/

namespace Sys2Proof.Machine

/-! Frames and tiles. -/

/-- Panel, column and row of a creel (Table 0-4). -/
def creelPanel (n : Nat) : Nat := n / 2048
def creelCol (n : Nat) : Nat := n % 2048 / 256
def creelRow (n : Nat) : Nat := n % 256

/-- The tile in whose frame group a creel lies (R309). -/
def creelTile (n : Nat) : Nat := creelPanel n * 256 + creelRow n / 16 * 16 + 2 * creelCol n

def creelFrame (n : Nat) : Nat := frameAddr (creelPanel n) 1 (creelCol n) (creelRow n) 0

/-- The tile in whose frame group a twill block lies (R309). -/
def twillTile (n : Nat) : Nat := n / 1024 * 256 + n % 256 / 16 * 16 + 4 * (n % 1024 / 256)

def twillFrame (n : Nat) : Nat := frameAddr (n / 1024) 2 (n % 1024 / 256) (n % 256) 0

/-- Panel of the fabric side of a bridge (Table 10-1). -/
def bridgePanel (n : Nat) : Nat := if n < 160 then n / 8 / 5 else if n < 256 then (n - 160) / 8 / 3 else 0

/-- The frame that holds a bridge's record and the offset of the record's base reed word (R333 to R335). -/
def bridgeRecord (n : Nat) : Nat × Nat :=
  if n / 8 < 32 ∨ 36 ≤ n / 8 then
    (frameAddr (bridgePanel n) 3 (n / 8) 0 (1 + n % 8 / 4), 0x080 * (n % 4) + 0x04)
  else (frameAddr 0 3 (n / 8) 0 (n % 8), 0x008)

/-- The base reed of the fabric side. -/
def State.bridgeReed (s : State) (n : Nat) : Nat :=
  let w := s.frameBytes (bridgeRecord n).1 (bridgeRecord n).2 2
  reedNo (bridgePanel n) (w % 256) (w / 256)

/-- The record of a fabric I/O port (R336). -/
def portFrame (n : Nat) : Nat := frameAddr (n / 240) 3 (n / 48) 0 0

def State.portReed (s : State) (n : Nat) : Nat :=
  reedNo (n / 240) (s.frameByte (portFrame n) (8 * (n % 48))) (s.frameByte (portFrame n) (8 * (n % 48) + 1))

/-! Wire slots (R329): the attach reed of slot `w`, and the select an input slot holds. -/

/-- The base reed of a creel port (R331). -/
def State.creelBaseReed (s : State) (n : Nat) (p : PortSide) : Nat :=
  let side := (s.frameByte (creelFrame n) 0x008).testBit (match p with | .a => 0 | .b => 1)
  reedNo (creelPanel n) (32 * creelCol n + (if side then 16 else 8)) (creelRow n)

def State.creelSlot (s : State) (n : Nat) (p : PortSide) (w : Nat) : Nat × Nat :=
  (s.creelBaseReed n p + 256 * (w % 8), s.frameByte (creelFrame n) ((match p with | .a => 0x010 | .b => 0x0B0) + w))

/-- The base reed of a twill block (R332). -/
def State.twillBaseReed (s : State) (n : Nat) : Nat :=
  let side := (s.frameByte (twillFrame n) 0x004).testBit 0
  reedNo (n / 1024) (64 * (n % 1024 / 256) + (if side then 32 else 24)) (n % 256)

def State.twillSlot (s : State) (n w : Nat) : Nat × Nat :=
  (s.twillBaseReed n + 256 * (w % 8), s.frameByte (twillFrame n) (0x010 + w))

/-- A slot of a bridge, or of a fabric bus port with its four channels (R334, R335). -/
def State.bridgeSlot (s : State) (n w : Nat) : Nat × Nat :=
  (s.bridgeReed n + 256 * (w % 8),
   s.frameByte (bridgeRecord n).1 ((bridgeRecord n).2 + (if n / 8 < 32 ∨ 36 ≤ n / 8 then 4 else 8) + w))

/-! Taken taps (R330). -/

/-- The block output that drives tap `t` of reed `r` in place of its track. -/
def State.tapSource (s : State) (r t : Nat) : Option TapSrc :=
  if 32 ≤ t then none else SMap.get none s.taps (32 * r + t)

/-- The tile whose fence a block's wires meet; a bridge, a bus port and a pin lie with their attach reeds. -/
def State.sourceTile (s : State) (r : Nat) (e : TapSrc) : Nat :=
  match e.block with
  | .creelA | .creelB => creelTile e.unit
  | .twill => twillTile e.unit
  | .bridge => reedTile (s.bridgeReed e.unit)
  | .fbp => reedTile (s.bridgeReed (256 + e.unit))
  | .pin => reedTile r

/-- A taken tap crosses the fence of a region: the block lies within it and the reed does not, or the reverse (R307). -/
def State.sourceFenced (s : State) (r : Nat) (e : TapSrc) : Bool :=
  s.fenced (s.sourceTile r e) != s.fenced (reedTile r)

/-! Fences of input slots. -/

/-- The reed that drives what a lease select names at reed `r`: `r` itself for its cells and for a taken tap (R330). -/
def State.selectReed (s : State) (r v : Nat) : Nat :=
  if v < 65 ∨ (s.tapSource r (v - 65)).isSome then r
  else match tapDriver r (v - 65) with
    | some (d, _, _) => d
    | none => r

/-- A hop of the path behind a lease select crosses a bolt boundary, where a lease switch delivers 0 (R148), or the fence of a
region (R307). -/
def State.pathShut : Nat → State → Nat → Nat → Bool
  | 0, _, _, _ => false
  | n + 1, s, r, v =>
    if v < 65 then false
    else match s.tapSource r (v - 65) with
      | some e => s.sourceFenced r e
      | none => match tapDriver r (v - 65) with
        | some (d, i, _) => s.crossesBolt r d || s.crossesRegion r d || s.pathShut n d (s.leaseSel d i)
        | none => false

/-- More lease switches than any route passes (R91). -/
def traceDepth : Nat := 2 ^ 26

/-- A request or acknowledge slot of a block in tile `t` whose port belongs to bolt `b` reads 0: its wire arrives from a reed of
another bolt (R185), or across the fence of a region (R307). -/
def State.slotShut (s : State) (b t : Nat) (slot : Nat × Nat) : Bool :=
  decide (slot.2 ≠ 0) &&
    (decide (s.boltOf (s.selectReed slot.1 slot.2) ≠ b) || (s.fenced t != s.fenced (reedTile (s.selectReed slot.1 slot.2))) ||
      s.pathShut traceDepth slot.1 slot.2)

/-- The cell whose REQ_OUT an input slot follows through the lease switches. -/
def State.traceReq : Nat → State → Nat → Nat → Option Nat
  | 0, _, _, _ => none
  | n + 1, s, r, v =>
    if v = 0 then none
    else if v < 65 then (if (v - 1) % 4 = 2 then some (16 * r + (v - 1) / 4) else none)
    else if (s.tapSource r (v - 65)).isSome then none
    else
      match tapDriver r (v - 65) with
      | some (d, i, _) => s.traceReq n d (s.leaseSel d i)
      | none => none

/-- The cell behind a slot. -/
def State.slotCell (s : State) (slot : Nat × Nat) : Option Nat := s.traceReq traceDepth slot.1 slot.2

end Sys2Proof.Machine
end

