-- ==== Sys2Proof/Machine/Bridge.lean ====
section
/-!
DEFINITION. Selvedge bridges (R251 to R272) and pace generators (R278 to R291).
-/

namespace Sys2Proof.Machine

def svReg (n off : Nat) : Nat := regAddr .selvedge (n / 8) (off + 0x20 * (n % 8))
def rSvCfg (n : Nat) : Nat := svReg n 0x100
def rSvCnt (n : Nat) : Nat := svReg n 0x108

def State.bridge (s : State) (n : Nat) : Bridge := SMap.get {} s.bridges n
def State.setBridge (s : State) (n : Nat) (v : Bridge) : State := { s with bridges := SMap.set {} s.bridges n v }

/-- Modes of SV_CFG (Table 10-14). -/
def brOff : Nat := 0
def brSample2 : Nat := 1
def brHold : Nat := 2
def brQueue : Nat := 3
def brCount : Nat := 4
def brMerge : Nat := 5
def brBusport : Nat := 6

def State.svMode (s : State) (n : Nat) : Nat := s.fld (rSvCfg n) 31 29
/-- DIR = OUT. -/
def State.svOut (s : State) (n : Nat) : Bool := s.bit (rSvCfg n) 28
def State.svWidth (s : State) (n : Nat) : Nat := s.fld (rSvCfg n) 27 22 + 1
def State.svBolt (s : State) (n : Nat) : Nat := s.fld (rSvCfg n) 3 0
def State.svCommitted (s : State) (n : Nat) : Bool := s.committed (s.svBolt n)

/-- The event `j` of a bridge: 0 OVERRUN, 1 UNSTABLE, 2 CLOCK_LOST, 3 RESYNC_DONE (R287). -/
def State.svEvent (s : State) (n j : Nat) : State := s.pulse .selvedge (n / 8) (4 * (n % 8) + j)

/-- OVERRUN is counted and raised (R259, R261). -/
def State.overrun (s : State) (n : Nat) : State := (s.count (rSvCnt n) 31 24 1).svEvent n 0

/-- The low WIDTH bits of a word. -/
def State.svMask (s : State) (n : Nat) (v : Dword) : Dword := BitVec.ofNat 64 (v.toNat % 2 ^ s.svWidth n)

/-- The fabric side may change a handshake wire: its bolt runs, its attach reed is not fenced, and its frame is not being
recovered (R162, R267, R333). -/
def State.bridgeLive (s : State) (n : Nat) : Bool :=
  s.live (s.svBolt n) && decide (s.svMode n ≠ brOff) && !s.fenced (reedTile (s.bridgeReed n)) && !s.held.contains (n / 8)

/-! The clocked side (R251, R270, R271). -/

/-- CLK_DOM of a bridge (Table 10-14). -/
def State.svClock (s : State) (n : Nat) : Nat := s.fld (rSvCfg n) 21 16

def paceBase (g : Nat) : Nat := regAddr .pace g 0
def State.pace (s : State) (g : Nat) : Pace := SMap.get {} s.paces g
def State.setPace (s : State) (g : Nat) (v : Pace) : State := { s with paces := SMap.set {} s.paces g v }

/-- A pick-aligned net held by its gate (R131). -/
def State.gated (s : State) (g : Nat) : Bool := s.pick.gateShut && bitOf (s.pace g).act.cfg 30

/-- The clock of a domain of Table 1-2 runs: the word clocks of a quad while it is powered, out of SLEEP (R380, R382), and a pace net while its
generator is locked and its gate open. -/
def State.domainRuns (s : State) (d : Nat) : Bool :=
  if d < 4 then true
  else if d < 28 then s.bit (regAddr .serdes ((d - 4) % 12) 0x008) 0 && !s.pwr.removed
  else (s.pace (d - 28)).locked && !s.gated (d - 28)

/-- The clocked side of a bridge has its clock (R270). -/
def State.svRuns (s : State) (n : Nat) : Bool := !(s.bridge n).clkLost && s.domainRuns (s.svClock n)

/-! What an IN bridge presents (Table 10-2, R254 to R264). -/

/-- A word or pulse may be presented to the bolt (R121, R269); a request rises only after the last handshake has returned to zero. -/
def State.mayPresent (s : State) (n : Nat) : Bool :=
  s.bridgeLive n && !(s.bridge n).resync && !(s.bolt (s.svBolt n)).releasesStopped && (s.bridge n).chan.token.isNone && !(s.bridge n).chan.low

/-- F_REQ rises with a value. -/
def FabChan.rise (x : Dword) : FabChan := { token := some x }

/-- F_REQ falls; F_ACK has yet to follow. -/
def FabChan.fall (v : FabChan) : FabChan := if v.token.isSome then { token := none, low := true } else v

/-- Items on the fabric side of an IN bridge not yet taken since the checkpoint (R264). -/
def Bridge.unread (v : Bridge) : List Dword := v.fifo.drop v.read

/-- The next item of an IN bridge goes to the fabric: SAMPLE2 hands over its newest agreed value if it differs from L, HOLD and pulses
present an item whose flag has crossed, and QUEUE its next word (R256, R258, R260, R261). -/
def State.presentNext (s : State) (n : Nat) : State :=
  let v := s.bridge n
  let m := s.svMode n
  if s.svOut n || !s.mayPresent n then s
  else if m = brSample2 then
    (match v.agreed with
     | some x => if v.offer.isNone && decide (x ≠ v.last) then s.setBridge n { v with offer := some x } else s
     | none => s)
  else if m = brHold then
    (match v.hold with
     | some x => if v.hs = 2 ∧ v.taken = false then s.setBridge n { v with chan := .rise x, last := x } else s
     | none => s)
  else if m = brQueue then
    (match v.unread with
     | x :: _ => s.setBridge n { v with chan := .rise x }
     | [] => s)
  else if v.hs = 2 ∧ v.taken = false then s.setBridge n { v with chan := .rise 0 }
  else s

/-- One SAMPLE2 attempt: two samples of the source register on consecutive cycles (R256, R257). They agree unless the register changes
between them; `sampled` says when it changed since the last attempt. -/
def sample2 (n : Nat) (sampled : SampleTime) (s : State) : State :=
  let v := s.bridge n
  if s.svMode n = brSample2 ∧ v.resync = false ∧ s.svRuns n = true then
    let w := { v with old := v.src }
    if sampled = .during ∧ v.src ≠ v.old then
      if v.fails + 1 = 16 then ((s.setBridge n { w with fails := 16, unstable := true }).count (rSvCnt n) 23 16 1).svEvent n 1
      else s.setBridge n { w with fails := min 16 (v.fails + 1) }
    else
      let x := if sampled = .after then v.old else v.src
      if s.svOut n then
        s.setBridge n { w with fails := 0, unstable := false, last := x, out := if x = v.last then v.out else some x }
      else (s.setBridge n { w with fails := 0, unstable := false, agreed := some x }).presentNext n
  else s

/-- A value offered to a HOLD bridge (R258, R259). -/
def holdOfferOp (n : Nat) (x : Dword) (s : State) : State :=
  let v := s.bridge n
  if s.svMode n = brHold ∧ v.resync = false then
    if v.hold.isNone then s.setBridge n { v with hold := some (s.svMask n x), hs := 1 }
    else
      let s1 := s.setBridge n { v with waiting := some (s.svMask n x) }
      if v.waiting.isSome then s1.overrun n else s1
  else s

/-- Another pulse waits for delivery, so the take-it flag rises (R261). -/
def Bridge.nextPulse (v : Bridge) : Bridge := if v.hs = 0 ∧ v.read < v.pend then { v with hs := 1 } else v

/-- A source pulse (R261, R262). It stays pending until its delivery is over, at step 6 of Table 10-4 (log entry 78). -/
def pulseIn (n : Nat) (s : State) : State :=
  let v := s.bridge n
  let top := if s.svMode n = brMerge then 1 else 15
  if (s.svMode n = brCount ∨ s.svMode n = brMerge) ∧ v.resync = false then
    if v.pend < top then s.setBridge n { v with pend := v.pend + 1 }.nextPulse else s.overrun n
  else s

/-- A word enters the buffer of a QUEUE bridge (R260). -/
def State.enqueue (s : State) (n : Nat) (x : Dword) : State :=
  s.setBridge n { (s.bridge n) with fifo := (s.bridge n).fifo ++ [s.svMask n x] }

/-- An OUT bridge can take a token: it is not in RESYNC and no full queue (R260, R269). -/
def State.sinkOpen (s : State) (n : Nat) : Bool :=
  !(s.bridge n).resync && !(decide (s.svMode n = brQueue) && decide (16 ≤ (s.bridge n).fifo.length))

/-- An OUT bridge captures a token and acknowledges it. -/
def State.sinkTake (s : State) (n : Nat) (x : Dword) : State :=
  let v := s.bridge n
  let s1 := s.setBridge n { v with sink := { ack := true } }
  if s.svMode n = brQueue then s1.enqueue n x
  else if s.svMode n = brHold then holdOfferOp n x s1
  else if s.svMode n = brSample2 then s1.setBridge n { v with sink := { ack := true }, src := s.svMask n x }
  else pulseIn n s1

/-- A held fabric request goes on when its bridge can take it (R26, R269). -/
def State.takeParked (s : State) (n : Nat) : State :=
  match (s.bridge n).sink.parked with
  | some x => if s.bridgeLive n && s.sinkOpen n then s.sinkTake n x else s
  | none => s

/-- A token of the fabric side of an OUT bridge: it is captured, or held as a parked wait (R254, R260, R269). -/
def sinkToken (n : Nat) (x : Dword) (s : State) : State :=
  let v := s.bridge n
  if s.bridgeLive n && s.svOut n && v.sink.parked.isNone && !v.sink.ack then
    if s.sinkOpen n then s.sinkTake n x else s.setBridge n { v with sink := { v.sink with parked := some x } }
  else s

/-- User logic acknowledges what an IN bridge presents (R254 to R264). A token older than a RESYNC just completes (R269). The token of a
HOLD value or pulse stays up until step 5 of Table 10-4; in a COMMITTED bolt it returns to zero at once, since the beat-up that its
acknowledge waits for needs an idle bolt (log entry 77). -/
def chanTaken (n : Nat) (s : State) : State :=
  let v := s.bridge n
  let m := s.svMode n
  let com := s.svCommitted n
  let w := { v with chan := v.chan.fall }
  if !s.bridgeLive n || s.svOut n || v.chan.token.isNone then s
  else if v.chan.stale then s.setBridge n w
  else if m = brSample2 then (s.setBridge n w).presentNext n
  else if m = brQueue then s.setBridge n (if com then { w with read := v.read + 1 } else { w with fifo := v.fifo.drop 1 })
  else if v.taken then s
  else if m = brHold then s.setBridge n (if com then { w with taken := true } else { v with taken := true, hs := 3 })
  else s.setBridge n (if com then { w with taken := true, hs := 3, read := v.read + 1 } else { v with taken := true, hs := 3 })

/-- The clocked side writes a word or pulse (R260): a full bridge shows FULL and takes nothing. -/
def clockedWrite (n : Nat) (x : Dword) (s : State) : State :=
  let v := s.bridge n
  let m := s.svMode n
  if s.svOut n || !s.svRuns n then s
  else if m = brQueue then (if v.resync = false ∧ v.fifo.length < 16 then s.enqueue n x else s)
  else if m = brSample2 then s.setBridge n { v with src := s.svMask n x }
  else if m = brHold then holdOfferOp n x s
  else pulseIn n s

/-- An OUT QUEUE bridge has a word for its clocked side; an empty one, or one in RESYNC, shows EMPTY (R260, R269). -/
def State.hasWord (s : State) (n : Nat) : Bool :=
  s.svOut n && decide (s.svMode n = brQueue) && !(s.bridge n).resync && s.svRuns n && decide ((s.bridge n).fifo ≠ [])

/-- The clocked side takes a word (R260). -/
def clockedRead (n : Nat) (s : State) : State :=
  let v := s.bridge n
  if s.hasWord n then (s.setBridge n { v with fifo := v.fifo.drop 1, shCount := v.shCount - 1, out := v.fifo.head? }).takeParked n else s

/-! RESYNC (R267 to R269). -/

/-- Items a bridge holds on the side that writes into it. -/
def Bridge.items (v : Bridge) : Nat := v.fifo.length + v.hold.toList.length + v.waiting.toList.length + v.pend

/-- One side of a bridge zeroes its state. The side that writes into the bridge holds the items, which are discarded and counted; the other
has the last value delivered and the state of the present item; the fabric side has the shadows and the count of what it took. -/
def State.zeroSide (s : State) (n : Nat) (fabric : Bool) : State :=
  let v := s.bridge n
  let source := fabric == s.svOut n
  let s1 := if source then s.count (rSvCnt n) 15 8 v.items else s
  let v1 := if source then { v with fifo := [], hold := none, waiting := none, pend := 0, hs := 0, offer := none, agreed := none }
            else { v with last := if s.svMode n = brSample2 then 0 else v.last, taken := false }
  s1.setBridge n (if fabric then { v1 with read := 0, shCount := 0, shLast := 0 } else v1)

/-- RESYNC starts with a reset of one side; `fabric` names the fabric side (Table 10-9, steps 1 and 2). -/
def State.startResync (s : State) (n : Nat) (fabric : Bool) : State :=
  if s.svMode n = brOff then s
  else
    let v := s.bridge n
    (s.setBridge n { v with resync := true, done := false, rsFabric := fabric, rsStep := 2,
                            chan := { v.chan with stale := v.chan.token.isSome } }).zeroSide n fabric

/-- One crossing of the resync flags (Table 10-9, steps 3 to 6). -/
def State.resyncCross (s : State) (n : Nat) : State :=
  let v := s.bridge n
  if v.rsStep = 2 then (s.setBridge n { v with rsStep := 3 }).zeroSide n (!v.rsFabric)
  else if v.rsStep < 5 then s.setBridge n { v with rsStep := v.rsStep + 1 }
  else ((s.setBridge n { v with resync := false, done := true, rsStep := 0 }).takeParked n).svEvent n 3

/-- The side a resync crossing of the present step goes to. -/
def Bridge.resyncDir (v : Bridge) : FlagDir :=
  if (v.rsStep % 2 = 0) = (v.rsFabric = true) then .toClocked else .toFabric

/-- The crossings of a HOLD value or a pulse (Table 10-4): the item that enters step 2 is presented to a fabric destination, or taken by a
clocked one. -/
def State.itemCross (s : State) (n : Nat) (d : FlagDir) : State :=
  let v := s.bridge n
  let hold := decide (s.svMode n = brHold)
  let toDest := d == (if s.svOut n then FlagDir.toClocked else .toFabric)
  match v.hs, toDest with
  | 1, true =>
    if !s.svOut n then (s.setBridge n { v with hs := 2 }).presentNext n
    else if hold then s.setBridge n { v with hs := 3, out := v.hold, last := v.hold.getD 0 }
    else s.setBridge n { v with hs := 3, strobes := v.strobes + 1 }
  | 3, false => s.setBridge n { v with hs := 4 }
  | 4, true => s.setBridge n { v with hs := 5, chan := if v.chan.stale then v.chan else v.chan.fall }
  | 5, false =>
    if hold then
      s.setBridge n { v with hold := v.waiting, waiting := none, taken := false, hs := if v.waiting.isSome then 1 else 0 }
    else
      let pend := if s.svOut n || !s.svCommitted n then v.pend - 1 else v.pend
      s.setBridge n { v with pend := pend, taken := false, hs := 0 }.nextPulse
  | _, _ => s

/-- A flag completes its crossing (R255, Tables 10-3, 10-4 and 10-9); without a clock no flag crosses (R270). A SAMPLE2 value whose bolt
takes no release any more waits for the next hand-over (Table 10-7). -/
def flagCrossed (n : Nat) (d : FlagDir) (s : State) : State :=
  let v := s.bridge n
  let m := s.svMode n
  if !s.svRuns n then s
  else if v.resync then (if d = v.resyncDir then s.resyncCross n else s)
  else if m = brHold ∨ m = brCount ∨ m = brMerge then s.itemCross n d
  else if s.svOut n || decide (d ≠ .toFabric) then s
  else if m = brSample2 then
    (match v.offer with
     | some x => s.setBridge n (if s.mayPresent n then { v with offer := none, chan := .rise x, last := x } else { v with offer := none })
     | none => s)
  else if m = brQueue then s.presentNext n
  else s

/-! Stopped clocks (R270, R271). -/

/-- 64 D0 cycles. -/
def clockLostNs : Nat := 2560

/-- CLOCK_LOST of a clock that does not run: time for which the gate of a pick-aligned net holds it is not counted (R271). -/
def clockLostOp (n : Nat) (t : Nat) (s : State) : State :=
  let v := s.bridge n
  let g := s.svClock n - 28
  let free := decide (s.svClock n < 28) || bitOf (s.pace g).act.cfg 30 == false ||
    (!s.pick.gateShut && (match s.pick.gateAt with | some a => decide (a + clockLostNs ≤ t) | none => true))
  if decide (s.svMode n ≠ brOff ∧ s.now ≤ t) && !v.clkLost && !s.domainRuns (s.svClock n) && free then
    (((s.at t).setBridge n { v with clkLost := true }).count (rSvCnt n) 7 0 1).svEvent n 2
  else s

/-- An edge of the clocked side returns, where its clock can run. -/
def clockBack (n : Nat) (s : State) : State :=
  if s.domainRuns (s.svClock n) then (s.setBridge n { (s.bridge n) with clkLost := false }).takeParked n else s

/-! Checkpoint (Table 6-1, R264 to R266). -/

def State.bridgesOf (s : State) (b : Nat) : List Nat := (s.bridges.map (fun e => e.1)).filter (fun n => decide (s.svBolt n = b))

/-- Beat-up: the fabric side's items become the checkpoint, and the acknowledge to the clocked side follows. -/
def State.commitBridge (s : State) (n : Nat) : State :=
  let v := s.bridge n
  if s.svOut n then s.setBridge n { v with shCount := v.fifo.length }
  else if s.svMode n = brQueue then s.setBridge n { v with fifo := v.fifo.drop v.read, read := 0 }
  else if s.svMode n = brHold then s.setBridge n { v with hs := if v.taken && decide (v.hs = 2) then 3 else v.hs }
  else if s.svMode n = brSample2 then s.setBridge n { v with shLast := v.last }
  else s.setBridge n { v with pend := v.pend - v.read, read := 0 }

def State.commitBridges (s : State) (b : Nat) : State := (s.bridgesOf b).foldl (fun s n => s.commitBridge n) s

/-- Rollback of the fabric side (Table 10-7, R266): what was taken since the checkpoint is presented again, and its wires start at zero. -/
def State.restoreBridge (s : State) (n : Nat) : State :=
  let v := { s.bridge n with chan := {}, sink := {} }
  if s.svOut n then s.setBridge n (if s.svMode n = brQueue then { v with fifo := v.fifo.take v.shCount } else v)
  else if s.svMode n = brQueue then s.setBridge n { v with read := 0 }
  else if s.svMode n = brSample2 then s.setBridge n { v with last := v.shLast, offer := none }
  else if s.svMode n = brHold then s.setBridge n { v with taken := v.taken && decide (v.hs ≠ 2) }
  else s.setBridge n ({ v with read := 0, taken := v.taken && decide (v.hs ≠ 2) }.nextPulse)

/-- The bridges a rollback of the bolt restores: a fenced region takes no part in it (Table 6-4). -/
def State.restoreBridges (s : State) (b : Nat) : State :=
  ((s.bridgesOf b).filter (fun n => !s.fenced (reedTile (s.bridgeReed n)))).foldl (fun s n => s.restoreBridge n) s

/-- The freeze lifts or releases resume: what waits is presented, and held requests go on (Table 10-7, R121, R126). -/
def State.resumeBridges (s : State) (b : Nat) : State := (s.bridgesOf b).foldl (fun s n => (s.presentNext n).takeParked n) s

/-! Live registers (Table 10-14). -/

def State.svStat (s : State) (n : Nat) : Word :=
  let v := s.bridge n
  let port := SMap.get ({} : Fbp) s.fbps (n - 256)
  let parked := v.sink.parked.isSome || (decide (s.svMode n = brBusport) && (port.tResp.parked.isSome || port.iReq.parked.isSome))
  BitVec.ofNat 32 (flag v.resync 31 + flag v.done 30 + flag v.unstable 29 + flag v.clkLost 28 + flag parked 27 +
    place v.pend 5 + v.fifo.length)

def State.svView (s : State) (k off : Nat) : Option Word :=
  if off = 0x00C then
    some (BitVec.ofNat 32 ((List.range 8).foldl (fun a i =>
      a + flag (s.bridge (8 * k + i)).clkLost (8 + i) + flag (s.bridge (8 * k + i)).resync i) 0))
  else if 0x100 ≤ off ∧ off < 0x200 then
    let n := 8 * k + (off - 0x100) / 0x20
    let word := decide (s.svMode n = brSample2 ∨ s.svMode n = brHold)
    match off % 0x20 with
    | 0x04 => some (s.svStat n)
    | 0x0C => some (if word then loHalf (s.bridge n).last.toNat else 0)
    | 0x10 => some (if word then hiHalf (s.bridge n).last.toNat else 0)
    | _ => none
  else none

/-! Pace generators. -/

def State.paceEvent (s : State) (g j : Nat) : State := s.pulse .pace g j

/-- The staged settings (R280). -/
def State.paceStaged (s : State) (g : Nat) : PaceSet :=
  ⟨s.reg (paceBase g + 0x040), s.reg (paceBase g + 0x044), s.reg (paceBase g + 0x048), s.reg (paceBase g + 0x04C)⟩

/-- The staged values break R278 at 100 MHz, in parts of 2^24 of a megahertz (R279). -/
def PaceSet.unreachable (v : PaceSet) : Bool :=
  let m := fieldOf v.cfg 23 18
  let nf := fieldOf v.n 9 0 * 2 ^ 24 + fieldOf v.frac 23 0
  let o := fieldOf v.out 8 0
  let mhz := 2 ^ 24
  decide (fieldOf v.cfg 29 28 = 0) && !(decide (0 < m ∧ 0 < o ∧ 10 * m ≤ 100 ∧ 3200 * mhz * m ≤ 100 * nf ∧ 100 * nf ≤ 6400 * mhz * m ∧
    10 * mhz * m * o ≤ 100 * nf ∧ 100 * nf ≤ 1600 * mhz * m * o))

/-- Only PICK_ALIGN or SSC_DEPTH differ (R280). -/
def PaceSet.sameClock (v w : PaceSet) : Bool :=
  decide (v.n = w.n ∧ v.frac = w.frac ∧ v.out = w.out ∧
    withField (withField v.cfg 30 30 0) 17 14 0 = withField (withField w.cfg 30 30 0) 17 14 0)

def Pace.enabled (v : Pace) : Bool := bitOf v.act.cfg 31

/-- The output starts or stops: the state with lock gained or lost at this time. -/
def State.paceLock (s : State) (g : Nat) (on relock : Bool) : State :=
  let v := s.pace g
  s.setPace g { v with locked := on, relock := relock, turn := if v.locked = on then v.turn else some s.now }

/-- The generator takes the settings of an APPLY (R280). Another reference is not known to be present; SYS_REFCLK is while it runs. -/
def paceTaken (g : Nat) (s : State) : State :=
  let v := s.pace g
  match v.pending with
  | none => s
  | some x =>
    let keep := x.sameClock v.act && v.locked
    let ref := if fieldOf x.cfg 29 28 = 0 then !s.pwr.refLost else v.refOk && decide (fieldOf x.cfg 29 24 = fieldOf v.act.cfg 29 24)
    ((s.setPace g { v with act := x, pending := none, refOk := ref }).paceLock g keep (bitOf x.cfg 31 && !keep)).paceEvent g 3

/-- LOCKED; the generators stand still in SLEEP (Table 1-2, R285). -/
def paceLockedOp (g : Nat) (s : State) : State :=
  let v := s.pace g
  if v.relock && v.refOk && !s.pwr.removed then (s.paceLock g true false).paceEvent g 0 else s

/-- The reference stops or leaves its range (R284). -/
def paceRefLostOp (g : Nat) (s : State) : State :=
  let v := s.pace g
  let s1 := (s.setPace g { v with refOk := false }).paceLock g false false
  if v.enabled && v.refOk then
    ((((s1.count (paceBase g + 0x058) 31 16 1).count (paceBase g + 0x058) 15 0 1).paceEvent g 1).paceEvent g 2)
  else s1

def paceRefBack (g : Nat) (s : State) : State :=
  let v := s.pace g
  if v.refOk then s else s.setPace g { v with refOk := true, relock := v.enabled }

/-- A loss of lock while the reference is present (R291). -/
def paceLockLostOp (g : Nat) (s : State) : State :=
  let v := s.pace g
  if v.locked && v.refOk then ((s.paceLock g false true).count (paceBase g + 0x058) 31 16 1).paceEvent g 1 else s

/-! The level of a net (R131, R132, R280, R284). The free-running waveform is not given by the manual (log entry 12). -/

/-- The level at `t` of a waveform behind a gate that last moved at `turn`: a gate that shuts lets a high phase in progress end, which
takes at most half of the longest period, and one that opens begins with a low phase. -/
def gateLevel (wave : Nat → Bool) (shut : Bool) (turn : Option Nat) (t : Nat) : Bool :=
  match turn with
  | none => !shut && wave t
  | some a =>
    if t < a then wave t
    else if shut then decide (t ≤ a + 50) && (List.range (t + 1 - a)).all (fun k => wave (a + k))
    else wave t && (decide (a + 100 < t) || (List.range (t - a)).any (fun k => wave (a + k) && !wave (a + k + 1)))

/-- An edge can pass the gate at `t`: while it is shut only the end of a high phase in progress. -/
def gatePasses (shut : Bool) (turn : Option Nat) (falling : Bool) (t : Nat) : Bool :=
  !shut || (falling && (match turn with | some a => decide (t ≤ a + 50) | none => false))

def State.netAligned (s : State) (g : Nat) : Bool := bitOf (s.pace g).act.cfg 30

/-- The level of net `g` at its generator. -/
def State.netLevel (s : State) (g t : Nat) : Bool :=
  let run := gateLevel (Config.paceWave g) (!(s.pace g).locked) (s.pace g).turn
  if s.netAligned g then gateLevel run s.pick.gateShut s.pick.gateAt t else run t

/-- The level of net `g` inside the reeds of a bolt. -/
def State.paceLevel (s : State) (b g : Nat) : Bool :=
  if s.netAligned g then gateLevel (s.netLevel g) (s.bolt b).paceHeld (s.bolt b).paceAt s.now else s.netLevel g s.now

/-- An edge of net `g` can reach the reeds of a bolt now. -/
def State.paceEdge (s : State) (b g : Nat) (falling : Bool) : Bool :=
  gatePasses (!(s.pace g).locked) (s.pace g).turn falling s.now &&
    (!s.netAligned g || (gatePasses s.pick.gateShut s.pick.gateAt falling s.now &&
      gatePasses (s.bolt b).paceHeld (s.bolt b).paceAt falling s.now))

def State.paceView (s : State) (g off : Nat) : Option Word :=
  let v := s.pace g
  if off = 0x00C then some (BitVec.ofNat 32 (flag v.pending.isSome 3 + flag (s.gated g) 2 + flag v.refOk 1 + flag v.locked 0))
  else none

end Sys2Proof.Machine
end

