-- ==== Sys2Proof/Machine/BusPorts.lean ====
section
/-!
DEFINITION. Fabric bus ports as the fabric sees them: target requests that wait to be taken, and initiator responses (R264, R273 to R277).
-/

namespace Sys2Proof.Machine

def fbpReg (n off : Nat) : Nat := regAddr .fbp (n / 4) (off + 0x20 * (n % 4))
def rFbpCfg (n : Nat) : Nat := fbpReg n 0x100
def rFbpCnt (n : Nat) : Nat := fbpReg n 0x108
def fbpPage (n : Nat) : Page := ⟨.fbp, n / 4⟩

/-- The bridge that carries a port. -/
def portBridge (n : Nat) : Nat := 256 + n

def State.fbp (s : State) (n : Nat) : Fbp := SMap.get {} s.fbps n

def State.setFbp (s : State) (n : Nat) (v : Fbp) : State := { s with fbps := SMap.set {} s.fbps n v }

/-- Event `j` of a port: 0 TIMEOUT, 1 LATE_COMPLETION, 2 DUP_RESP, 3 INIT_ERR (R289). -/
def State.fbpEvent (s : State) (n j : Nat) : State := s.pulse .fbp (n / 4) (4 * (n % 4) + j)

/-- The bound of 16 accesses of a port, and of the entries of each of its queues (R273, R275, R276). -/
def portBound : Nat := 16

/-- Target accesses of a port in the fabric. -/
def State.inFabric (s : State) (n : Nat) : Nat := s.issued.countP (fun e => e.port == some n && e.tag.isSome)

/-- The port presents items to user logic: its bolt runs and takes releases, and its bridge is not in RESYNC (R120, R121, R269). -/
def State.portPresents (s : State) (n : Nat) : Bool :=
  s.bridgeLive (portBridge n) && !(s.bridge (portBridge n)).resync && !(s.bolt (s.svBolt (portBridge n))).releasesStopped

/-- The port can take one more target access into the fabric. The places of those that user logic has taken stay in use until the beat-up of
a COMMITTED bolt (R151, R264, R275). -/
def State.portTakes (s : State) (n : Nat) : Bool :=
  s.bit (rFbpCfg n) 31 && s.portPresents n && decide (s.inFabric n < portBound ∧ (s.fbp n).tq.length < portBound)

/-- The word of a target request (Table 10-10). -/
def targetWord (tag : Nat) (e : Issued) : Dword :=
  BitVec.ofNat 64 (place tag 58 + place e.value.toNat 26 + place e.master 20 + flag e.write 19 + e.addr % 2 ^ 21 / 4)

/-- The word of an initiator response (Table 10-10). -/
def FbpAnswer.word (r : FbpAnswer) : Dword :=
  BitVec.ofNat 64 (place r.code 33 + flag (decide (r.code ≠ 0)) 32 + r.data.toNat)

/-- The oldest waiting access of a port enters the fabric with the next tag. -/
def State.admitOne (s : State) (n : Nat) : State :=
  if s.portTakes n then
    match s.issued.findIdx? (fun e => e.port == some n && e.tag.isNone) with
    | none => s
    | some i =>
      match s.issued[i]? with
      | none => s
      | some e =>
        let v := s.fbp n
        { s with issued := s.issued.modify i (fun e => { e with tag := some v.nextTag }) }.setFbp n
          { v with nextTag := (v.nextTag + 1) % 64, tq := v.tq ++ [targetWord v.nextTag e] }
  else s

def State.admitAll (s : State) (n : Nat) : State := (List.range portBound).foldl (fun s _ => s.admitOne n) s

/-- The next target request and the next initiator response rise on their channels. -/
def State.presentPort (s : State) (n : Nat) : State :=
  if s.portPresents n then
    let v := s.fbp n
    let raise (c : FabChan) (next : Option Dword) : FabChan :=
      match next with
      | some x => if c.token.isNone && !c.low then .rise x else c
      | none => c
    s.setFbp n { v with tReq := raise v.tReq (v.tq.drop v.tread).head?, iResp := raise v.iResp ((v.queue.drop v.read).head?.map FbpAnswer.word) }
  else s

/-- User logic acknowledges a target request, or an initiator response; one older than a RESYNC just completes (R269). In a COMMITTED bolt its
place frees at the beat-up (R151). -/
def requestTaken (n : Nat) (s : State) : State :=
  let v := s.fbp n
  if !s.bridgeLive (portBridge n) || v.tReq.token.isNone then s
  else
    let w := { v with tReq := v.tReq.fall }
    s.setFbp n (if v.tReq.stale then w else if s.svCommitted (portBridge n) then { w with tread := v.tread + 1 } else { w with tq := v.tq.drop 1 })

def responseTaken (n : Nat) (s : State) : State :=
  let v := s.fbp n
  if !s.bridgeLive (portBridge n) || v.iResp.token.isNone then s
  else
    let w := { v with iResp := v.iResp.fall }
    s.setFbp n (if v.iResp.stale then w else if s.svCommitted (portBridge n) then { w with read := v.read + 1 } else { w with queue := v.queue.drop 1 })

/-- The ports of a bolt. -/
def State.fbpsOf (s : State) (b : Nat) : List Nat := (List.range 32).filter (fun n => decide (s.svMode (portBridge n) = brBusport) &&
  decide (s.svBolt (portBridge n) = b))

/-- Releases resume: waiting target accesses enter the fabric, and what waits in the port is presented. -/
def State.admitFbps (s : State) (b : Nat) : State := (s.fbpsOf b).foldl (fun s n => (s.admitAll n).presentPort n) s

end Sys2Proof.Machine
end

