-- ==== Sys2Proof/Machine/Creel.lean ====
section
/-!
DEFINITION. Creel memory (chapter 07): the array with its SECDED code, the fabric ports, MIRROR, UNDO and ROM, the scrubber
and the bus window.
-/

namespace Sys2Proof.Machine

/-! SECDED (R176, R194). The model keeps what was written and which of the 72 stored bits have changed since. -/

/-- What a read of a 72-bit word finds. -/
inductive EccResult where
  | clean (v : Dword)
  | corrected (v : Dword)
  | bad (raw : Dword)
deriving DecidableEq, Repr

/-- How many of the 72 bits are set. -/
def weight72 (f : BitVec 72) : Nat := (List.range 72).foldl (fun n k => n + (f.getLsbD k).toNat) 0

/-- One changed bit is corrected and two are found; what the code makes of three or more follows its matrix, which the
manual does not give (log entry 5). -/
def ArrWord.decode (w : ArrWord) : EccResult :=
  let raw := w.data ^^^ w.flip.setWidth 64
  match weight72 w.flip with
  | 0 => .clean w.data
  | 1 => .corrected w.data
  | 2 => .bad raw
  | _ => match Config.eccMany w.flip with
         | 0 => .bad raw
         | 1 => .clean raw
         | k + 2 => .corrected (raw ^^^ (1#64 <<< (k % 72)))

/-- The stored check bits (WIN_ECC). -/
def ArrWord.check (w : ArrWord) : BitVec 8 := Config.eccCheck w.data ^^^ (w.flip >>> 64).setWidth 8

/-- The word with its present data, whose check bits report an uncorrectable error until it is written again (R188). -/
def ArrWord.marked (w : ArrWord) : ArrWord := { data := w.data ^^^ w.flip.setWidth 64, flip := 3#72 <<< 64 }

/-- What the replay takes from a log entry by its own code; none where the entry is uncorrectable (R188). -/
def UndoEntry.decode (e : UndoEntry) : Option ArrWord :=
  match weight72 e.flip with
  | 0 | 1 => some e.old
  | 2 => none
  | _ => match Config.eccMany e.flip with
         | 0 => none
         | 1 => some { e.old with flip := e.old.flip ^^^ e.flip }
         | k + 2 => some { e.old with flip := e.old.flip ^^^ e.flip ^^^ (1#72 <<< (k % 72)) }

/-! Registers and settings of a creel. -/

def creelBase (n : Nat) : Nat := 0x0040_0000 + n * 0x1000
def rCreelCfg (n : Nat) : Nat := creelBase n + 0x040

def State.creelMode (s : State) (n : Nat) : Nat := s.fld (rCreelCfg n) 31 29
def State.creelOwner (s : State) (n : Nat) : Nat := s.fld (rCreelCfg n) 3 0
def State.creelShape (s : State) (n : Nat) (p : PortSide) : Nat :=
  match p with | .a => s.fld (rCreelCfg n) 28 27 | .b => s.fld (rCreelCfg n) 26 25
def State.creelPortOn (s : State) (n : Nat) (p : PortSide) : Bool :=
  match p with | .a => s.bit (rCreelCfg n) 24 | .b => s.bit (rCreelCfg n) 23

/-- Modes of CREEL_CFG. -/
def modeDirect : Nat := 0
def modeMirror : Nat := 1
def modeUndo : Nat := 2
def modeRom : Nat := 3
def modeQueue : Nat := 4

/-- The creel's own frames are under a reweave: its fabric handshakes are withheld (R307, Table 8-7). -/
def State.creelFenced (s : State) (n : Nat) : Bool := s.fenced (creelTile n)

def State.creel (s : State) (n : Nat) : Creel := SMap.get {} s.creels n
def State.setCreel (s : State) (n : Nat) (v : Creel) : State := { s with creels := SMap.set {} s.creels n v }

def Creel.port (v : Creel) : PortSide → CPort
  | .a => v.portA
  | .b => v.portB

def Creel.setPort (v : Creel) (p : PortSide) (w : CPort) : Creel :=
  match p with | .a => { v with portA := w } | .b => { v with portB := w }

def State.setPort (s : State) (n : Nat) (p : PortSide) (w : CPort) : State := s.setCreel n ((s.creel n).setPort p w)

/-! The array. -/

def State.arrWord (s : State) (n w : Nat) : ArrWord := SMap.get {} s.arrays (1024 * n + w)
def State.setArr (s : State) (n w : Nat) (v : ArrWord) : State := { s with arrays := SMap.set {} s.arrays (1024 * n + w) v }

/-- A write with freshly computed check bits. -/
def freshWord (d : Dword) : ArrWord := { data := d, flip := 0 }

/-- A memory event of the CREEL page (Table 7-10). -/
def State.creelEvent (s : State) (n bit : Nat) : State := s.pulse .creel n bit

/-- A single-bit error was corrected: it is counted, raised and written back in a later array slot (R194). -/
def State.noteCorrected (s : State) (n w : Nat) : State :=
  let v := s.creel n
  ((s.setCreel n { v with writeback := v.writeback ++ [w] }).count (creelBase n + 0x04C) 31 16 1).creelEvent n 0

/-- An uncorrectable word was found by `source` (UE_ADDR). -/
def State.countUe (s : State) (n w source : Nat) : State :=
  (s.count (creelBase n + 0x04C) 15 0 1).setReg (creelBase n + 0x050) (BitVec.ofNat 32 (place source 29 + w))

def State.noteUe (s : State) (n w source bit : Nat) : State := (s.countUe n w source).creelEvent n bit

/-- The physical slot of a logical word in MIRROR mode (R187). -/
def Creel.slot (v : Creel) (w : Nat) : Nat := if w ∈ v.cur then w + 512 else w

def State.physOf (s : State) (n w : Nat) : Nat := if s.creelMode n = modeMirror then (s.creel n).slot w else w

/-- Toggle a word in a sorted list of words. -/
def toggle (l : List Nat) (w : Nat) : List Nat := if w ∈ l then l.erase w else l.orderedInsert (· ≤ ·) w

/-- The creel undoes its changes: its owner is a COMMITTED bolt (R192). -/
def State.creelCommitted (s : State) (n : Nat) : Bool := s.committed (s.creelOwner n)

/-- The bits `m` of a MIRROR word's state change: current bit, dirty bit, parity bit (R187). -/
def State.upsetMirror (s : State) (n w : Nat) (m : BitVec 3) : State :=
  let v := s.creel n
  let flipped (k : Nat) (l : List Nat) : List Nat := if m.getLsbD k then toggle l w else l
  let odd := (m.getLsbD 0 != m.getLsbD 1) != m.getLsbD 2
  s.setCreel n { v with cur := flipped 0 v.cur, dirty := flipped 1 v.dirty, badPar := if odd then toggle v.badPar w else v.badPar }

/-- The undo log takes an entry before the word changes (R188); `upset` are the bits of it that will change. -/
def State.logUndo (s : State) (n w : Nat) (upset : BitVec 72) : State :=
  let v := s.creel n
  let s1 := s.setCreel n { v with undo := ⟨w, s.arrWord n w, upset⟩ :: v.undo }
  if s.fld (creelBase n + 0x054) 9 0 < v.undo.length + 1 then s1.setFld (creelBase n + 0x054) 9 0 (v.undo.length + 1) else s1

/-- Write a whole logical word by the rules of the mode (R187 to R192). A MIRROR word gets a fresh parity of its state. -/
def State.writeLogical (s : State) (n w : Nat) (d : Dword) (upset : BitVec 72) : State :=
  let v := s.creel n
  let com := s.creelCommitted n
  if s.creelMode n = modeMirror then
    if com ∧ w ∉ v.dirty then
      (s.setArr n (if w ∈ v.cur then w else w + 512) (freshWord d)).setCreel n
        { v with cur := toggle v.cur w, dirty := v.dirty.orderedInsert (· ≤ ·) w, badPar := v.badPar.erase w }
    else (s.setArr n (v.slot w) (freshWord d)).setCreel n { v with badPar := v.badPar.erase w }
  else if s.creelMode n = modeUndo ∧ com then (s.logUndo n w upset).setArr n w (freshWord d)
  else s.setArr n w (freshWord d)

/-! Fabric ports (R181 to R185). -/

/-- The number of addresses in one creel's shape (Table 7-1), and in all members of the cascade (R179). -/
def State.portSize (s : State) (n : Nat) (p : PortSide) : Nat :=
  (if s.creelMode n = modeMirror then 512 else 1024) * 2 ^ s.creelShape n p

def State.portRange (s : State) (n : Nat) (p : PortSide) : Nat := s.portSize n p * (s.fld (rCreelCfg n) 20 17 + 1)

/-- Member, word and lane a port address names (R177, R179). -/
def State.portTarget (s : State) (n : Nat) (p : PortSide) (adr : Nat) : Nat × Nat × Nat :=
  let lanes := 2 ^ s.creelShape n p
  (n + adr / s.portSize n p, adr % s.portSize n p / lanes, adr % lanes)

/-- The lane of a word, and a word with the lane replaced (R177). -/
def laneOf (d : Dword) (shape lane : Nat) : Dword :=
  BitVec.ofNat 64 (d.toNat >>> (64 / 2 ^ shape * lane) % 2 ^ (64 / 2 ^ shape))

def mergeLane (d x : Dword) (shape lane : Nat) : Dword :=
  let wd := 64 / 2 ^ shape
  let old := d.toNat >>> (wd * lane) % 2 ^ wd
  BitVec.ofNat 64 (d.toNat - old * 2 ^ (wd * lane) + x.toNat % 2 ^ wd * 2 ^ (wd * lane))

/-- The bolt of a fabric port: the owner in the memory modes, the end's bolt in QUEUE mode (R185, R207). -/
def State.portBolt (s : State) (n : Nat) (p : PortSide) : Nat :=
  if s.creelMode n = modeQueue then
    (match p with | .a => s.fld (creelBase n + 0x100) 27 24 | .b => s.fld (creelBase n + 0x100) 23 20)
  else s.creelOwner n

/-- The port may change a handshake wire: its bolt runs and its frames are not fenced. -/
def State.portLive (s : State) (n : Nat) (p : PortSide) : Bool :=
  s.live (s.portBolt n p) && s.creelPortOn n p && !s.creelFenced n

/-- The undo log of member `c` has no entry for one more write at the ports of `n` (R189): those it holds, and those that writes
captured before it will take (log entry 73). -/
def State.undoFull (s : State) (n c : Nat) : Bool :=
  let v := s.creel n
  let taken := v.order.countP (fun p => match (v.port p).req with
    | some q => q.we && decide ((s.portTarget n p q.adr).1 = c)
    | none => false)
  decide (s.creelMode n = modeUndo) && s.creelCommitted n && decide (512 ≤ (s.creel c).undo.length + taken)

/-- A stalled write is held as a parked wait, counted and raised (R189). -/
def State.stallWrite (s : State) (n : Nat) (p : PortSide) (c : Nat) (q : CReq) : State :=
  ((s.setPort n p { ((s.creel n).port p) with rq := true, ack := false, req := some q, parked := true }).count
    (creelBase c + 0x054) 31 16 1).creelEvent c 3

/-- A request token reaches a port, once its last response has returned to zero (R182); no address beyond the range of the port can be
presented (R178). In QUEUE mode the controller answers it (`fabricPush`, `fabricPop`). -/
def portRequest (n : Nat) (p : PortSide) (q : CReq) (s : State) : State :=
  let v := s.creel n
  let w := v.port p
  if s.portLive n p && !w.rq && w.req.isNone && w.resp.isNone && !w.rsLow then
    if s.creelMode n = modeQueue then s.setPort n p { w with rq := true, req := some q }
    else if s.portRange n p ≤ q.adr then s
    else
      let c := (s.portTarget n p q.adr).1
      if q.we && s.undoFull n c then s.stallWrite n p c q
      else s.setCreel n { (v.setPort p { w with rq := true, ack := true, req := some q }) with order := v.order ++ [p] }
  else s

/-- RQ_REQ returns to zero and RQ_ACK follows (R182). -/
def portReqFall (n : Nat) (p : PortSide) (s : State) : State :=
  let w := (s.creel n).port p
  if s.portLive n p && w.rq && w.ack then s.setPort n p { w with rq := false, ack := false } else s

/-- RS_ACK answers the response, and RS_REQ falls; it stays low until RS_ACK has returned to zero (R182). -/
def portRespAck (n : Nat) (p : PortSide) (s : State) : State :=
  let w := (s.creel n).port p
  if s.portLive n p && w.resp.isSome && !w.rsLow then s.setPort n p { w with resp := none, rsLow := true } else s

/-- The source code of a port in UE_ADDR. -/
def portSource : PortSide → Nat
  | .a => 1
  | .b => 2

/-- An access is answered. -/
def State.respond (s : State) (n : Nat) (p : PortSide) (r : CResp) : State :=
  s.setPort n p { ((s.creel n).port p) with req := none, parked := false, resp := some r }

/-- An uncorrectable word reaches a port (R195): a detected fault in a COMMITTED bolt, whose rollback abandons the access, and
a raw answer with ERR in a DIRECT bolt. -/
def State.deliverBad (s : State) (n : Nat) (p : PortSide) (c w source : Nat) (raw : Dword) (we : Bool) : State :=
  let s1 := s.noteUe c w source 1
  if s.committed (s.portBolt n p) then s1.detect (s.portBolt n p) 0x02 c
  else s1.respond n p ⟨if we then 0 else raw, true, false, false⟩

/-- One access of the array in arrival order (R183 to R195). `state` are the bits of the MIRROR word's state that have changed by then
(R187), and `upset` those of the undo entry that will have changed at its replay. A parity error of the state is an uncorrectable error of
the word, which a write of all 64 bits replaces (log entry 74). -/
def arrayAccess (n : Nat) (state : BitVec 3) (upset : BitVec 72) (s : State) : State :=
  let v := s.creel n
  match v.order with
  | [] => s
  | p :: rest =>
    match (v.port p).req with
    | none => s.setCreel n { v with order := rest }
    | some q =>
      if !s.portLive n p then s
      else
        let (c, w, lane) := s.portTarget n p q.adr
        let s1 := s.setCreel n { v with order := rest }
        let s0 := if s.creelMode n = modeMirror then s1.upsetMirror c w state else s1
        let shape := s.creelShape n p
        let phys := s0.physOf c w
        let a := s0.arrWord c phys
        if q.we && decide (s.creelMode n = modeRom) then (s0.creelEvent c 4).respond n p ⟨0, true, false, false⟩
        else if q.we && decide (shape = 0) then (s0.writeLogical c w q.wdata upset).respond n p ⟨0, false, false, false⟩
        else if decide (s.creelMode n = modeMirror) && (s0.creel c).badPar.contains w then
          s0.deliverBad n p c phys 5 (laneOf (a.data ^^^ a.flip.setWidth 64) shape lane) q.we
        else
          match a.decode with
          | .bad raw => s0.deliverBad n p c phys (portSource p) (laneOf raw shape lane) q.we
          | .clean d =>
            if q.we then (s0.writeLogical c w (mergeLane d q.wdata shape lane) upset).respond n p ⟨0, false, false, false⟩
            else s0.respond n p ⟨laneOf d shape lane, false, false, false⟩
          | .corrected d =>
            if q.we then ((s0.noteCorrected c phys).writeLogical c w (mergeLane d q.wdata shape lane) upset).respond n p
              ⟨0, false, false, false⟩
            else (s0.noteCorrected c phys).respond n p ⟨laneOf d shape lane, false, false, false⟩

/-- The panel's VFAB is removed over the span of R525. -/
def State.vfabRemoved (s : State) (p : Nat) : Bool := s.pwr.removed && decide (p < 4)

/-- The corrected word goes back in a free array slot; it is no logical write (R194). -/
def correctedWriteback (n : Nat) (s : State) : State :=
  let v := s.creel n
  match v.writeback with
  | [] => s
  | w :: rest =>
    if s.vfabRemoved (creelPanel n) then s
    else
      let s1 := s.setCreel n { v with writeback := rest }
      match (s.arrWord n w).decode with
      | .corrected d => s1.setArr n w (freshWord d)
      | _ => s1

/-- The scrubber reads its next physical word (R196). -/
def scrubRead (n : Nat) (s : State) : State :=
  if s.fld (creelBase n + 0x048) 23 0 = 0 ∨ s.vfabRemoved (creelPanel n) = true then s
  else
    let v := s.creel n
    let w := v.scrubPos
    let s1 := s.setCreel n { v with scrubPos := (w + 1) % 1024 }
    match (s.arrWord n w).decode with
    | .clean _ => s1
    | .corrected _ => s1.noteCorrected n w
    | .bad _ => s1.noteUe n w 4 2

/-! The bus window (R197 to R199). -/

/-- WIN_CTRL is refused by Table 7-6. -/
def State.winRefused (s : State) (n op : Nat) : Bool :=
  let m := s.creelMode n
  let st := (s.bolt (s.creelOwner n)).stage
  let still := decide (st = .halt ∨ st = .direct ∨ st = .notReleased)
  match op with
  | 1 => decide (m = modeQueue)
  | 2 => decide (m = modeQueue ∨ m = modeRom) || (decide (m = modeMirror ∨ m = modeUndo) && !still)
  | _ => false

/-- The physical word a window READ looks at, by mode and view; an UNDO word may come from the log. -/
def State.winSource (s : State) (n : Nat) (view : Bool) (w : Nat) : ArrWord × Nat :=
  let v := s.creel n
  if s.creelMode n = modeMirror then
    let cur := v.slot w
    let other := if w ∈ v.cur then w else w + 512
    if view ∧ w ∈ v.dirty then (s.arrWord n other, other) else (s.arrWord n cur, cur)
  else if s.creelMode n = modeUndo ∧ view = true then
    match v.undo.reverse.find? (fun e => e.word == w) with
    | some e => (e.old, w)
    | none => (s.arrWord n w, w)
  else (s.arrWord n w, w)

/-- The word of a READ was dirty or logged (WIN_STAT.PENDING). -/
def State.winPending (s : State) (n w : Nat) : Bool :=
  let v := s.creel n
  (decide (s.creelMode n = modeMirror) && decide (w ∈ v.dirty)) ||
    (decide (s.creelMode n = modeUndo) && v.undo.any (fun e => e.word == w))

def State.winResult (s : State) (n : Nat) (d : Dword) (chk : BitVec 8) (stat : Nat) : State :=
  (((s.setReg (creelBase n + 0x064) (loHalf d.toNat)).setReg (creelBase n + 0x068) (hiHalf d.toNat)).setReg
    (creelBase n + 0x06C) (chk.setWidth 32)).setReg (creelBase n + 0x070) (BitVec.ofNat 32 stat)

def winRead (n : Nat) (view : Bool) (w : Nat) (s : State) : State :=
  let (a, phys) := s.winSource n view w
  let pend := flag (s.winPending n w) 0
  match a.decode with
  | .clean d => s.winResult n d a.check pend
  | .corrected d => (s.noteCorrected n phys).winResult n d a.check (pend + 2)
  | .bad raw => (s.noteUe n phys 3 2).winResult n raw a.check (pend + 4)

def State.winData (s : State) (n : Nat) : Dword := joinDword (s.reg (creelBase n + 0x064)) (s.reg (creelBase n + 0x068))

def winWrite (n w : Nat) (s : State) : State :=
  let v := s.creel n
  let d := freshWord (s.winData n)
  if s.creelMode n = modeMirror then
    ((s.setArr n w d).setArr n (w + 512) d).setCreel n { v with dirty := v.dirty.erase w, badPar := v.badPar.erase w }
  else if s.creelMode n = modeUndo then
    (s.setArr n w d).setCreel n { v with undo := v.undo.map (fun e => if e.word = w then { e with old := d, flip := 0 } else e) }
  else s.setArr n w d

def winInject (n w : Nat) (s : State) : State :=
  let phys := s.physOf n w
  let a := s.arrWord n phys
  let mask : BitVec 72 := (s.winData n).setWidth 72 ^^^ ((s.reg (creelBase n + 0x06C)).setWidth 72 <<< 64)
  s.setArr n phys { a with flip := a.flip ^^^ mask }

/-- A window operation on the array. -/
def winOp (n op : Nat) (view : Bool) (w : Nat) (s : State) : State :=
  match op with
  | 1 => winRead n view w s
  | 2 => winWrite n w s
  | 3 => winInject n w s
  | _ => s

/-! Beat-up, BEAT-UP end and rollback (Table 7-4). -/

/-- The creels that state lists and that the test picks. -/
def State.creelsWhere (s : State) (which : Nat → Bool) : List Nat := (s.creels.map (fun e => e.1)).filter which

def State.ownedCreels (s : State) (b : Nat) : List Nat :=
  s.creelsWhere (fun n => decide (s.creelOwner n = b ∧ s.creelMode n ≠ modeQueue))

/-- Beat-up: dirty bits and undo logs clear. -/
def State.commitCreels (s : State) (b : Nat) : State :=
  (s.ownedCreels b).foldl (fun s n => s.setCreel n { (s.creel n) with dirty := [], undo := [] }) s

/-- BEAT-UP end: a stalled UNDO write is taken (R189). -/
def State.resumeStalled (s : State) (b : Nat) : State :=
  let one (n : Nat) (s : State) (p : PortSide) : State :=
    let v := s.creel n
    let w := v.port p
    if w.parked && w.req.isSome then
      s.setCreel n { (v.setPort p { w with ack := true, parked := false }) with order := v.order ++ [p] }
    else s
  (s.ownedCreels b).foldl (fun s n => [PortSide.a, .b].foldl (one n) s) s

/-- Ports of a bolt abandon what they hold (Table 6-3, step 2), but not in a fenced region (Table 6-4). -/
def State.abandonPorts (s : State) (b : Nat) : State :=
  let one (n : Nat) (s : State) (p : PortSide) : State :=
    if s.portBolt n p = b ∧ s.creelFenced n = false ∧ s.fenced (reedTile (s.creelBaseReed n p)) = false then
      let v := s.creel n
      s.setCreel n { (v.setPort p {}) with order := v.order.filter (fun q => decide (q ≠ p)) }
    else s
  (s.creels.map (fun e => e.1)).foldl (fun s n => [PortSide.a, .b].foldl (one n) s) s

/-- MIRROR words revert (R187). -/
def Creel.mirrorRevert (v : Creel) : Creel := { v with cur := v.dirty.foldl toggle v.cur, dirty := [] }

/-- The undo log is replayed newest entry first; a failed entry is skipped and its word marked unless an older entry restores
it (R188). -/
def State.undoRevert (s : State) (n : Nat) : State :=
  let v := s.creel n
  let step (acc : State × List Nat) (e : UndoEntry) : State × List Nat :=
    match e.decode with
    | some w => (acc.1.setArr n e.word w, acc.2.erase e.word)
    | none => (acc.1.creelEvent n 5, acc.2.erase e.word ++ [e.word])
  let (s1, skipped) := v.undo.foldl step (s.setCreel n { v with undo := [] }, [])
  skipped.foldl (fun s w => (s.setArr n w (s.arrWord n w).marked).countUe n w 6) s1

/-- Does the replay meet an uncorrectable log entry. -/
def Creel.logBad (v : Creel) : Bool := v.undo.any (fun e => e.decode.isNone)

/-- The creels a rollback of the bolt reverts: a fenced region takes no part in it (Table 6-4). -/
def State.revertedCreels (s : State) (b : Nat) : List Nat := (s.ownedCreels b).filter (fun n => !s.creelFenced n)

/-- The creels of the bolt revert (Table 6-3, step 4). -/
def State.revertCreels (s : State) (b : Nat) : State :=
  (s.revertedCreels b).foldl (fun s n =>
    if s.creelMode n = modeMirror then s.setCreel n (s.creel n).mirrorRevert
    else if s.creelMode n = modeUndo then s.undoRevert n else s) s

def State.creelLogsBad (s : State) (b : Nat) : Bool :=
  (s.revertedCreels b).any (fun n => decide (s.creelMode n = modeUndo) && (s.creel n).logBad)

/-- Contents after a load (R200): the words CREEL_INIT gave, or zeros, both MIRROR slots equal and clean. -/
def State.initCreel (s : State) (n : Nat) (ws : List Dword) : State :=
  let clear : State := { s with arrays := s.arrays.filter (fun e => decide (e.1 / 1024 ≠ n)) }
  let put (k : Nat) (acc : State) (d : Dword) (w : Nat) : State :=
    if k = modeMirror then (acc.setArr n w (freshWord d)).setArr n (w + 512) (freshWord d) else acc.setArr n w (freshWord d)
  ((ws.zipIdx).foldl (fun acc e => put (s.creelMode n) acc e.1 e.2) clear).setCreel n {}

/-- A reweave with KEEP: current values become committed and the log empties (R200), LAST_VALUE of a queue is 0 (Table 8-3), and the
fabric ports start at rest. -/
def State.keepCreel (s : State) (n : Nat) : State :=
  let v := s.creel n
  let zero (q : QItems) : QItems := { q with last := 0 }
  let q := { v.queue with live := zero v.queue.live, live2 := zero v.queue.live2, shadow := zero v.queue.shadow,
                          shadow2 := zero v.queue.shadow2 }
  s.setCreel n { v with portA := {}, portB := {}, order := [], dirty := [], undo := [], queue := q }

/-! Live registers (Table 7-9). -/

/-- A write to this creel is stalled at a port of its cascade's head (R189). -/
def State.undoStalled (s : State) (n : Nat) : Bool :=
  let h := n - s.fld (rCreelCfg n) 16 13
  decide (s.creelMode n = modeUndo) && [PortSide.a, .b].any (fun p =>
    let w := (s.creel h).port p
    w.parked && (w.req.map (fun q => (s.portTarget h p q.adr).1) == some n))

def State.creelStat (s : State) (n : Nat) : Word :=
  let v := s.creel n
  BitVec.ofNat 32 (flag (s.undoStalled n) 31 +
    place v.dirty.length 10 + v.undo.length)

end Sys2Proof.Machine
end

