-- ==== Sys2Proof/Machine/Queue.lean ====
section
/-!
DEFINITION. Creel queue controllers (chapter 08): pointers and visibility, full and empty, packets, pointer protection,
watermarks and flush.
-/

namespace Sys2Proof.Machine

/-! Settings (Q_CFG, Table 8-10). -/

def rQCfg (n : Nat) : Nat := creelBase n + 0x100
def State.wrKind (s : State) (n : Nat) : Nat := s.fld (rQCfg n) 31 30
def State.rdKind (s : State) (n : Nat) : Nat := s.fld (rQCfg n) 29 28
def State.wrBolt (s : State) (n : Nat) : Nat := s.fld (rQCfg n) 27 24
def State.rdBolt (s : State) (n : Nat) : Nat := s.fld (rQCfg n) 23 20
def State.qPacket (s : State) (n : Nat) : Bool := s.bit (rQCfg n) 19
def State.qTagged (s : State) (n : Nat) : Bool := s.bit (rQCfg n) 18
def State.qWidth (s : State) (n : Nat) : Nat := s.fld (rQCfg n) 5 0 + 1
def State.isQueue (s : State) (n : Nat) : Bool := decide (s.creelMode n = modeQueue)

/-- End kinds of Q_CFG. -/
def kindBlocking : Nat := 0
def kindNonblocking : Nat := 1
def kindBus : Nat := 2

/-- The end belongs to a COMMITTED bolt (R32, R207). -/
def State.wrCommitted (s : State) (n : Nat) : Bool := decide (s.wrKind n ≠ kindBus) && s.committed (s.wrBolt n)
def State.rdCommitted (s : State) (n : Nat) : Bool := decide (s.rdKind n ≠ kindBus) && s.committed (s.rdBolt n)

def State.queue (s : State) (n : Nat) : Queue := (s.creel n).queue
def State.setQueue (s : State) (n : Nat) (q : Queue) : State := s.setCreel n { (s.creel n) with queue := q }

/-- The producer's items, or the consumer's, of one set taken into another. -/
def QItems.takeWr (v w : QItems) : QItems :=
  { v with wp := w.wp, pc := w.pc, start := w.start, open_ := w.open_, orphan := w.orphan }
def QItems.takeRd (v w : QItems) : QItems := { v with rp := w.rp, last := w.last }

/-- Both copies of every live item take the same value, or of the producer's items, or of the consumer's (R222). -/
def Queue.setLive (q : Queue) (v : QItems) : Queue := { q with live := v, live2 := v }
def Queue.setShadow (q : Queue) (v : QItems) : Queue := { q with shadow := v, shadow2 := v }
def Queue.setWr (q : Queue) (v : QItems) : Queue := { q with live := q.live.takeWr v, live2 := q.live2.takeWr v }
def Queue.setRd (q : Queue) (v : QItems) : Queue := { q with live := q.live.takeRd v, live2 := q.live2.takeRd v }

/-- An upset of one copy of an item (R222). -/
def QItems.upset (v : QItems) (u : QUpset) : QItems :=
  let p (k : Nat) : Nat := (k ^^^ u.mask.toNat) % 2048
  let b (k : Bool) : Bool := k != u.mask.getLsbD 0
  match u.item with
  | .wp | .wps => { v with wp := p v.wp }
  | .pc | .pcs => { v with pc := p v.pc }
  | .start | .starts => { v with start := p v.start }
  | .rp | .rps => { v with rp := p v.rp }
  | .fm => { v with fm := p v.fm }
  | .opens => { v with open_ := b v.open_ }
  | .orphans => { v with orphan := b v.orphan }
  | .lasts => { v with last := v.last ^^^ u.mask }

def Queue.upset (q : Queue) (u : QUpset) : Queue :=
  match u.item, u.second with
  | .wp, false | .pc, false | .start, false | .rp, false | .fm, false => { q with live := q.live.upset u }
  | .wp, true | .pc, true | .start, true | .rp, true | .fm, true => { q with live2 := q.live2.upset u }
  | _, false => { q with shadow := q.shadow.upset u }
  | _, true => { q with shadow2 := q.shadow2.upset u }

/-- Copies of queue items change after an operation of creel `n`. -/
def upsetQueue (n : Nat) (u : Option QUpset) (s : State) : State :=
  match u with
  | some x => s.setQueue n ((s.queue n).upset x)
  | none => s

/-! Visible end, free start, LEVEL and SPACE (R210 to R212). -/

def ptrAdd (p k : Nat) : Nat := (p + k) % 2048
def ptrDiff (a b : Nat) : Nat := (a + 2048 - b) % 2048

/-- RP after R212: FM when it is ahead of RP. -/
def QItems.rpEff (v : QItems) : Nat := if 1 ≤ ptrDiff v.fm v.rp ∧ ptrDiff v.fm v.rp ≤ 1024 then v.fm else v.rp

def State.visEnd (s : State) (n : Nat) : Nat :=
  let q := s.queue n
  if !s.wrCommitted n || (decide (s.rdKind n ≠ kindBus) && decide (s.rdBolt n = s.wrBolt n)) then q.live.pc else q.shadow.pc

def State.freeStart (s : State) (n : Nat) : Nat :=
  let q := s.queue n
  if s.rdCommitted n then q.shadow.rp else q.live.rpEff

def State.qLevel (s : State) (n : Nat) : Nat := ptrDiff (s.visEnd n) (s.queue n).live.rpEff
def State.qSpace (s : State) (n : Nat) : Nat := 1024 - ptrDiff (s.queue n).live.wp (s.freeStart n)

/-! Watermarks (R224, R225). -/

def rQWm (n : Nat) : Nat := creelBase n + 0x104

/-- One crossing: counted in Q_CROSS, captured once, and raised. -/
def State.crossing (s : State) (n bit hi lo rec : Nat) (level : Nat) : State :=
  let s1 := s.count (creelBase n + 0x128) hi lo 1
  let s2 := if s1.bit (creelBase n + rec) 31 then s1
            else (s1.setReg (creelBase n + rec) (BitVec.ofNat 32 (place 1 31 + level))).setReg (creelBase n + rec + 4)
              (BitVec.ofNat 32 s1.now)
  s2.creelEvent n bit

/-- A single change of LEVEL from `before` is compared with HIGH and LOW. -/
def State.levelChanged (s : State) (n before : Nat) : State :=
  let after := s.qLevel n
  let high := s.fld (rQWm n) 26 16
  let low := s.fld (rQWm n) 10 0
  let s1 := if before < high ∧ high ≤ after then s.crossing n 10 31 24 0x134 after else s
  if low < before ∧ after ≤ low then s1.crossing n 11 23 16 0x13C after else s1

/-- An operation on a queue as one change of its LEVEL. -/
def State.asOneChange (s : State) (n : Nat) (f : State → State) : State := (f s).levelChanged n (s.qLevel n)

/-! Pointer protection (R222, R223). -/

/-- A queue reset (R223). -/
def State.queueReset (s : State) (n : Nat) : State :=
  s.asOneChange n (fun s =>
    let q := s.queue n
    let z : QItems := { orphan := q.live.open_, last := q.live.last }
    s.setQueue n { (q.setLive z).setShadow { z with last := q.shadow.last } with flush := false })

/-- The two copies of the producer's items, of the consumer's, of the flush mark, and of the shadows agree. -/
def Queue.wrMismatch (q : Queue) : Bool :=
  decide (q.live.wp ≠ q.live2.wp ∨ q.live.pc ≠ q.live2.pc ∨ q.live.start ≠ q.live2.start)
def Queue.rdMismatch (q : Queue) : Bool := decide (q.live.rp ≠ q.live2.rp)
def Queue.fmMismatch (q : Queue) : Bool := decide (q.live.fm ≠ q.live2.fm)
def Queue.wrShadowBad (q : Queue) : Bool :=
  decide (q.shadow.wp ≠ q.shadow2.wp ∨ q.shadow.pc ≠ q.shadow2.pc ∨ q.shadow.start ≠ q.shadow2.start ∨
    q.shadow.open_ ≠ q.shadow2.open_ ∨ q.shadow.orphan ≠ q.shadow2.orphan)
def Queue.rdShadowBad (q : Queue) : Bool := decide (q.shadow.rp ≠ q.shadow2.rp ∨ q.shadow.last ≠ q.shadow2.last)

/-- An item of a COMMITTED producer end, or consumer end, fails its comparison: live, or a shadow. -/
def State.wrFails (s : State) (n : Nat) : Bool := s.wrCommitted n && ((s.queue n).wrMismatch || (s.queue n).wrShadowBad)
def State.rdFails (s : State) (n : Nat) : Bool := s.rdCommitted n && ((s.queue n).rdMismatch || (s.queue n).rdShadowBad)

/-- An item of a DIRECT or BUS end, or FM, fails its comparison. -/
def State.resetFails (s : State) (n : Nat) : Bool :=
  let q := s.queue n
  (!s.wrCommitted n && q.wrMismatch) || (!s.rdCommitted n && q.rdMismatch) || q.fmMismatch

/-- Every item is compared whenever the queue is used, and a mismatch is handled by Table 8-6 (R222). -/
def State.checkPointers (s : State) (n : Nat) : State :=
  if s.wrFails n || s.rdFails n || s.resetFails n then
    let s1 := (s.count (creelBase n + 0x128) 15 8 1).creelEvent n 12
    let s2 := if s.wrFails n then s1.detect (s.wrBolt n) 0x03 n else s1
    let s3 := if s.rdFails n then s2.detect (s.rdBolt n) 0x03 n else s2
    if s.resetFails n then s3.queueReset n else s3
  else s

/-! Push (R215 to R221). -/

/-- The stored word of an element: its low WIDTH bits and the flag bit of Table 8-1. -/
def State.storedWord (s : State) (n : Nat) (elem : Dword) (last : Bool) : Dword :=
  let e := elem.toNat % 2 ^ s.qWidth n
  let l := last && s.qPacket n
  BitVec.ofNat 64 (if s.qTagged n then e + flag l 62 else e + flag l 63)

/-- The open packet is rewound (R217, R218). -/
def QItems.rewound (v : QItems) (orphan : Bool) : QItems :=
  if v.open_ then { v with wp := v.start, open_ := false, orphan := orphan } else { v with orphan := orphan }

/-- What a push comes to. -/
inductive PushEnd where
  | accepted
  | refused
  | mustWait
  | faulty
deriving DecidableEq, Repr

/-- The 1,024th element of an open packet without LAST (R218). -/
def State.tooLong (s : State) (n : Nat) (last : Bool) : Bool :=
  let v := (s.queue n).live
  s.qPacket n && v.open_ && !last && decide (ptrDiff v.wp v.start = 1023)

/-- A push as the controller handles it; `kind` is the end's kind and `perr` a byte parity mismatch at the array (R220). -/
def queueStore (n kind : Nat) (elem : Dword) (last0 abort0 perr : Bool) (s : State) : State × PushEnd :=
  let last := last0 && s.qPacket n
  let abort := abort0 && s.qPacket n
  let q := s.queue n
  let v := q.live
  if v.orphan then
    let s1 := if abort then s else s.setReg (creelBase n + 0x130)
      (BitVec.ofNat 32 (satAdd (2 ^ 32 - 1) (s.reg (creelBase n + 0x130)).toNat 1))
    if last || abort then ((s1.setQueue n (q.setWr { v with orphan := false })).creelEvent n 17, .accepted) else (s1, .accepted)
  else if abort then
    if v.open_ then
      (((s.setQueue n (q.setWr (v.rewound v.orphan))).count (creelBase n + 0x12C) 15 0 1).creelEvent n 13, .accepted)
    else (s, .accepted)
  else if s.tooLong n last then
    (((s.setQueue n (q.setWr (v.rewound true))).count (creelBase n + 0x12C) 31 24 1).creelEvent n 14, .accepted)
  else if s.qSpace n = 0 then
    if kind = kindBlocking then (s, .mustWait)
    else
      let s1 := if s.qPacket n then s.setQueue n (q.setWr (v.rewound (!last))) else s
      ((s1.count (creelBase n + 0x124) 31 16 1).creelEvent n 8, .refused)
  else
    let v1 := if s.qPacket n ∧ v.open_ = false then { v with start := v.wp, open_ := true } else v
    if perr then
      let s1 := if s.qPacket n then s.setQueue n (q.setWr (v1.rewound (!last))) else s
      ((s1.count (creelBase n + 0x12C) 23 16 1).creelEvent n 15, .refused)
    else
      let wp := ptrAdd v1.wp 1
      let v2 := { v1 with wp := wp }
      let v3 := if s.qPacket n = false ∨ last = true then { v2 with pc := wp, open_ := false } else v2
      ((s.setArr n (v1.wp % 1024) (freshWord (s.storedWord n elem last))).setQueue n (q.setWr v3), .accepted)

/-- A push with the pointer check before it, as one change of LEVEL. A mismatch of its own COMMITTED end stops it, and no other does
(log entry 75). -/
def queuePushOp (n kind : Nat) (elem : Dword) (last abort perr : Bool) (s : State) : State × PushEnd :=
  let s1 := s.checkPointers n
  if s.wrFails n then (s1, .faulty)
  else
    let r := queueStore n kind elem last abort perr s1
    (r.1.levelChanged n (s1.qLevel n), r.2)

/-! Pop (R215, R216). -/

/-- What a pop answers: element, flags, or nothing yet. -/
structure PopAnswer where
  value : Dword
  nv : Bool
  plast : Bool
  ue : Bool
deriving DecidableEq, Repr

/-- What a pop comes to: an answer, a wait, or a detected fault whose rollback abandons it. -/
inductive PopEnd where
  | got (a : PopAnswer)
  | mustWait
  | faulty
deriving DecidableEq, Repr

/-- Releases to the consumer end are stopped (R121): it is an end of a committed input queue of a closed bolt. -/
def State.popStopped (s : State) (n : Nat) : Bool :=
  decide (s.rdKind n ≠ kindBus) && decide (s.wrKind n = kindBus ∨ s.wrBolt n ≠ s.rdBolt n) && s.committed (s.rdBolt n) &&
    (s.bolt (s.rdBolt n)).releasesStopped

/-- Element and stored PACKET_LAST of a word. -/
def State.elementOf (s : State) (n : Nat) (w : Dword) : Dword × Bool :=
  (BitVec.ofNat 64 (w.toNat % 2 ^ s.qWidth n),
   if s.qTagged n then w.getLsbD 62 else s.qPacket n && w.getLsbD 63)

/-- A pop; a BLOCKING end waits, and an uncorrectable element at a COMMITTED end is a detected fault (R195). -/
def queueTake (n kind source : Nat) (s : State) : State × PopEnd :=
  let q := s.queue n
  let v := { q.live with rp := q.live.rpEff }
  let s0 := s.setQueue n (q.setRd v)
  if s0.qLevel n = 0 ∨ s0.popStopped n = true then
    if kind = kindBlocking then (s0, .mustWait)
    else
      let s1 := s0.count (creelBase n + 0x124) 15 0 1
      if s.qTagged n then (s1, .got ⟨0, true, false, false⟩)
      else (s1.creelEvent n 9, .got ⟨v.last, true, false, false⟩)
  else
    let w := v.rp % 1024
    let done (s : State) (raw : Dword) (ue : Bool) : State × PopEnd :=
      let e := s.elementOf n raw
      let q := s.queue n
      (s.setQueue n (q.setRd { q.live with rp := ptrAdd v.rp 1, last := e.1 }), .got ⟨e.1, false, e.2, ue⟩)
    match (s0.arrWord n w).decode with
    | .clean d => done s0 d false
    | .corrected d => done (s0.noteCorrected n w) d false
    | .bad raw =>
      let s1 := s0.noteUe n w source (if source = 3 then 2 else 1)
      if kind ≠ kindBus ∧ s.rdCommitted n = true then (s1.detect (s.rdBolt n) 0x02 n, .faulty) else done s1 raw true

def queuePopOp (n kind source : Nat) (s : State) : State × PopEnd :=
  let s1 := s.checkPointers n
  if s.rdFails n then (s1, .faulty)
  else
    let r := queueTake n kind source s1
    (r.1.levelChanged n (s1.qLevel n), r.2)

/-! Fabric ends. -/

/-- A push token at the producer end; `parked` tells whether a parked one is being taken. -/
def fabricPush (n : Nat) (perr parked : Bool) (s : State) : State :=
  let w := (s.creel n).portA
  match w.req with
  | none => s
  | some r =>
    if s.isQueue n && s.portLive n .a && (w.parked == parked) then
      let a := queuePushOp n (s.wrKind n) r.wdata r.last r.abort perr s
      match a.2 with
      | .mustWait => a.1.setPort n .a { (a.1.creel n).portA with parked := true }
      | .faulty => a.1.setPort n .a { (a.1.creel n).portA with parked := false }
      | .accepted => (a.1.setPort n .a { (a.1.creel n).portA with ack := true }).respond n .a ⟨0, false, false, false⟩
      | .refused => (a.1.setPort n .a { (a.1.creel n).portA with ack := true }).respond n .a ⟨0, true, false, false⟩
    else s

def fabricPop (n : Nat) (parked : Bool) (s : State) : State :=
  let w := (s.creel n).portB
  match w.req with
  | none => s
  | some _ =>
    if s.isQueue n && s.portLive n .b && (w.parked == parked) then
      let a := queuePopOp n (s.rdKind n) 2 s
      match a.2 with
      | .mustWait => a.1.setPort n .b { (a.1.creel n).portB with parked := true }
      | .faulty => a.1.setPort n .b { (a.1.creel n).portB with parked := false }
      | .got r => (a.1.setPort n .b { (a.1.creel n).portB with ack := true }).respond n .b ⟨r.value, r.ue, r.nv, r.plast⟩
    else s

/-! Flush (R226 to R228). -/

/-- What a flush makes of one copy of the items. -/
def QItems.flushed (v : QItems) : QItems :=
  let w := { v with fm := v.wp, pc := v.wp, orphan := v.orphan || v.open_, open_ := false }
  { w with rp := w.rpEff }

/-- A flush of the items; `shadows` says that a producer in HALT takes it into its shadows (R227, R228). -/
def Queue.flushed (q : Queue) (shadows : Bool) : Queue :=
  let a := q.live.flushed
  let b := q.live2.flushed
  let sh (v w : QItems) : QItems := if shadows then { v with wp := w.wp, pc := w.wp, open_ := false, orphan := w.orphan } else v
  { q with live := a, live2 := b, shadow := sh q.shadow a, shadow2 := sh q.shadow2 b, flush := false }

/-- A flush is counted and raised. -/
def State.noteFlush (s : State) (n : Nat) : State := (s.count (creelBase n + 0x128) 7 0 1).creelEvent n 16

/-- A flush takes effect (R227), after the comparison of the items it uses. -/
def State.flushEffect (s : State) (n : Nat) (shadows : Bool) : State :=
  ((s.checkPointers n).asOneChange n (fun s => s.setQueue n ((s.queue n).flushed shadows))).noteFlush n

/-- A flush takes effect at once, or waits for the producer's bolt (R226). -/
def queueFlush (n : Nat) (s : State) : State :=
  if s.wrCommitted n then s.setQueue n { (s.queue n) with flush := true } else s.flushEffect n false

/-- FLUSH_NOW is accepted (R228). -/
def State.flushNowOk (s : State) (n : Nat) : Bool :=
  let st := (s.bolt (s.wrBolt n)).stage
  decide (s.wrKind n = kindBus) || !s.committed (s.wrBolt n) || decide (st = .halt ∨ st = .notReleased)

def queueFlushNow (n : Nat) (s : State) : State :=
  let halted := s.wrCommitted n && decide ((s.bolt (s.wrBolt n)).stage = .halt)
  (s.setQueue n { (s.queue n) with flush := false }).flushEffect n halted

/-- CLR_COUNTS of Q_CMD: the counters and both crossing records. -/
def queueClearCounts (n : Nat) (s : State) : State :=
  [0x124, 0x128, 0x12C, 0x130, 0x134, 0x138, 0x13C, 0x140].foldl (fun s o => s.setReg (creelBase n + o) 0) s

/-! Bus ends (R231). -/

/-- The element an identity has staged. -/
def State.staged (s : State) (m n : Nat) : Dword :=
  joinDword ((s.cap m (creelBase n + 0x150)).getD 0) ((s.cap m (creelBase n + 0x154)).getD 0)

/-- Q_PUSH or Q_POP_LO is refused (R230, Table 8-7). -/
def State.busPushRefused (s : State) (n : Nat) : Bool :=
  !s.isQueue n || decide (s.wrKind n ≠ kindBus) || s.creelFenced n
def State.busPopRefused (s : State) (n : Nat) : Bool :=
  !s.isQueue n || decide (s.rdKind n ≠ kindBus) || s.creelFenced n

/-- The push through the bus window, and whether it was refused: the queue is full, or the byte parity of the element fails. -/
def busPush (n m : Nat) (last abort : Bool) (s : State) : State × PushEnd :=
  queuePushOp n kindBus (s.staged m n) last abort (s.creel n).badElem (s.setCreel n { (s.creel n) with badElem := false })

/-- The byte parity of the next element from the bus fails (R220). -/
def markElement (n : Nat) (perr : Bool) (s : State) : State :=
  if perr then s.setCreel n { (s.creel n) with badElem := true } else s

/-- The bus end would refuse the push (Table 8-5). -/
def State.busPushFull (s : State) (n m : Nat) (last abort : Bool) : Bool := decide ((busPush n m last abort s).2 = .refused)

/-- What Q_POP_HI and Q_POP_STAT show after a pop (Table 8-10). -/
def State.popHi (s : State) (n : Nat) (a : PopAnswer) : Word :=
  if s.qTagged n then BitVec.ofNat 32 ((hiHalf a.value.toNat).toNat % 2 ^ 30 + flag a.nv 31 + flag a.plast 30)
  else hiHalf a.value.toNat

/-- A pop through the bus window: the word Q_POP_LO returns (R231). -/
def busPop (n m : Nat) (s : State) : State × Word :=
  let r := queuePopOp n kindBus 3 s
  match r.2 with
  | .mustWait | .faulty => (r.1, 0)
  | .got a =>
    ((r.1.setCap m (creelBase n + 0x164) (some (s.popHi n a))).setCap m (creelBase n + 0x168)
      (some (BitVec.ofNat 32 (flag a.ue 2 + flag a.plast 1 + flag a.nv 0))), loHalf a.value.toNat)

/-! Beat-up and rollback of the ends of a bolt (R213). -/

def State.queues (s : State) : List Nat := s.creelsWhere (fun n => s.isQueue n)

def State.isProducerOf (s : State) (n b : Nat) : Bool := decide (s.wrKind n ≠ kindBus ∧ s.wrBolt n = b)
def State.isConsumerOf (s : State) (n b : Nat) : Bool := decide (s.rdKind n ≠ kindBus ∧ s.rdBolt n = b)

/-- The queues with an end of the bolt. -/
def State.queuesOf (s : State) (b : Nat) : List Nat := s.queues.filter (fun n => s.isProducerOf n b || s.isConsumerOf n b)

/-- The comparison of the items a beat-up of the bolt uses (R222). -/
def State.checkEnds (s : State) (b : Nat) : State := (s.queuesOf b).foldl (fun s n => s.checkPointers n) s

/-- An item of an end of the bolt fails its comparison, so its beat-up is abandoned (R137, Table 8-7; log entry 75). -/
def State.endFails (s : State) (b : Nat) : Bool :=
  (s.queuesOf b).any (fun n => (s.isProducerOf n b && s.wrFails n) || (s.isConsumerOf n b && s.rdFails n))

/-- Beat-up of the bolt's ends of one queue, as one change of its LEVEL: a pending flush, then the shadows, each copy from its own (R213,
R226). -/
def State.commitQueue (s : State) (b n : Nat) : State :=
  let flush := s.isProducerOf n b && (s.queue n).flush
  let s1 := s.asOneChange n (fun s =>
    let q := if flush then (s.queue n).flushed false else s.queue n
    let sh (v w : QItems) : QItems :=
      let v1 := if s.isProducerOf n b then v.takeWr w else v
      if s.isConsumerOf n b then v1.takeRd { w with rp := w.rpEff } else v1
    s.setQueue n { q with shadow := sh q.shadow q.live, shadow2 := sh q.shadow2 q.live2 })
  if flush then s1.noteFlush n else s1

def State.commitQueues (s : State) (b : Nat) : State := (s.queuesOf b).foldl (fun s n => s.commitQueue b n) s

/-- The end lies in a region fenced for a reweave, or the creel does: it takes no part in a rollback (Table 6-4). -/
def State.endFenced (s : State) (n : Nat) (p : PortSide) : Bool := s.creelFenced n || s.fenced (reedTile (s.creelBaseReed n p))

/-- The ends of the bolt that its rollback restores. -/
def State.restoresWr (s : State) (n b : Nat) : Bool := s.isProducerOf n b && !s.endFenced n .a
def State.restoresRd (s : State) (n b : Nat) : Bool := s.isConsumerOf n b && !s.endFenced n .b

/-- A shadow that the rollback of the bolt reads fails its comparison. -/
def State.queueShadowBad (s : State) (b n : Nat) : Bool :=
  (s.restoresWr n b && (s.queue n).wrShadowBad) || (s.restoresRd n b && (s.queue n).rdShadowBad)

/-- The rollback of the bolt's ends of one queue: each copy from its own shadow (R213). -/
def State.restoreQueue (s : State) (b n : Nat) : State :=
  let s0 := if s.queueShadowBad b n then (s.count (creelBase n + 0x128) 15 8 1).creelEvent n 12 else s
  s0.asOneChange n (fun s =>
    let q := s.queue n
    let back (v w : QItems) : QItems :=
      let v1 := if s.restoresWr n b then v.takeWr w else v
      if s.restoresRd n b then v1.takeRd w else v1
    s.setQueue n { q with live := back q.live q.shadow, live2 := back q.live2 q.shadow2 })

def State.restoreQueues (s : State) (b : Nat) : State := (s.queuesOf b).foldl (fun s n => s.restoreQueue b n) s

def State.queueShadowsBad (s : State) (b : Nat) : Bool := s.queues.any (fun n => s.queueShadowBad b n)

/-- Release of a reweaved region at the producer end: an ABORT of the open packet, and no orphan tail (Table 8-7). -/
def State.abortProducer (s : State) (n : Nat) : State :=
  let s0 := s.checkPointers n
  let s1 := s0.asOneChange n (fun s => s.setQueue n ((s.queue n).setWr ((s.queue n).live.rewound false)))
  if (s0.queue n).live.open_ then (s1.count (creelBase n + 0x12C) 15 0 1).creelEvent n 13 else s1

/-! Live registers (Table 8-10). -/

def State.queueView (s : State) (n off : Nat) : Option Word :=
  let q := s.queue n
  let v := q.live
  let on (k : Nat) : Option Word := some (if s.isQueue n then BitVec.ofNat 32 k else 0)
  if off = 0x00C then on (flag (s.creel n).portB.parked 9 + flag (s.creel n).portA.parked 8 + flag q.flush 7 + flag v.orphan 6 +
      flag v.open_ 5 + flag (decide (s.qLevel n ≤ s.fld (rQWm n) 10 0)) 4 +
      flag (decide (s.fld (rQWm n) 26 16 ≤ s.qLevel n)) 3 + flag (decide (s.qSpace n = 0)) 2 + flag (decide (s.qLevel n = 0)) 1 + 1)
  else if off = 0x10C then on (place (s.qSpace n) 16 + s.qLevel n)
  else if off = 0x110 then on (place v.pc 16 + v.wp)
  else if off = 0x114 then on (place v.fm 16 + v.rpEff)
  else if off = 0x118 then
    (if s.wrCommitted n then on (place q.shadow.pc 16 + q.shadow.wp) else on (place v.pc 16 + v.wp))
  else if off = 0x11C then (if s.rdCommitted n then on q.shadow.rp else on v.rpEff)
  else if off = 0x120 then on (flag v.open_ 31 + flag v.orphan 30 + v.start)
  else if 0x100 ≤ off ∧ off < 0x144 then (if s.isQueue n then none else some 0)
  else none

end Sys2Proof.Machine
end

