-- ==== Sys2Proof/Machine/Twill.lean ====
section
/-!
DEFINITION. Twill arithmetic blocks (chapter 09): operations, cascades, residue checks, and the accumulator's checkpoint.
-/

namespace Sys2Proof.Machine

def twillPage (n : Nat) : Page := ⟨.twill, n / 16⟩
def twillReg (n off : Nat) : Nat := regAddr .twill (n / 16) (off + 0x20 * (n % 16))
def rTwCfg (n : Nat) : Nat := twillReg n 0x100
def rTwSelftest (k : Nat) : Nat := regAddr .twill k 0x044
def rTwErrs (n : Nat) : Nat := twillReg n 0x110
def rTwInject (n : Nat) : Nat := twillReg n 0x114

def State.twill (s : State) (n : Nat) : Twill := SMap.get {} s.twills n
def State.setTwill (s : State) (n : Nat) (v : Twill) : State := { s with twills := SMap.set {} s.twills n v }

/-- Settings of TW_CFG (Table 9-9). -/
def State.twMode (s : State) (n : Nat) : Nat := s.fld (rTwCfg n) 31 29
def State.twPreadd (s : State) (n : Nat) : Nat := s.fld (rTwCfg n) 28 27
def State.twSignA (s : State) (n : Nat) : Bool := s.bit (rTwCfg n) 26
def State.twSignB (s : State) (n : Nat) : Bool := s.bit (rTwCfg n) 25
def State.twCascIn (s : State) (n : Nat) : Bool := s.bit (rTwCfg n) 24
def State.twCascOut (s : State) (n : Nat) : Bool := s.bit (rTwCfg n) 23
def State.twOwner (s : State) (n : Nat) : Nat := s.fld (rTwCfg n) 3 0

def State.twillLive (s : State) (n : Nat) : Bool :=
  s.live (s.twOwner n) && decide (s.twMode n ≠ 0) && !s.fenced (twillTile n)

/-- The residue of a value (R239). -/
def residue (x : Int) : Nat := (x % 7).toNat

/-- The value of a `w`-bit pattern, signed or not. -/
def valueOf (sign : Bool) (w v : Nat) : Int := if sign then signedOf w v else (v : Int)

/-- A `w`-bit value whose bits `m` change. -/
def changed (sign : Bool) (w m : Nat) (x : Int) : Int := valueOf sign w (wrapTo w x ^^^ m)

/-- The check points of a block (Table 9-4); `rest` is the accumulator at rest or an invalid code. -/
inductive TwStage where
  | pre | prod | adder | cascade | rest
deriving DecidableEq, Repr

/-- The code of a check point in LAST_STAGE. -/
def TwStage.code : TwStage → Nat
  | .pre => 1
  | .prod => 2
  | .adder => 3
  | .cascade => 4
  | .rest => 5

/-- What an operation comes to: the new accumulator, whether it wrapped, and the first check point that failed. -/
structure TwResult where
  value : Int
  wrap : Bool
  bad : Option TwStage
deriving DecidableEq, Repr

/-- The pre-adder (R235): its output, and the wrap it took. -/
def preAdd (mode : Nat) (sign : Bool) (a d : Int) : Int × Int :=
  let raw := match mode with | 1 => a + d | 2 => a - d | _ => a
  let p := valueOf sign 24 (wrapTo 24 raw)
  (p, (raw - p) / 2 ^ 24)

/-- Byte `k` of an operand. -/
def byteOf (v : BitVec 24) (k : Nat) : Nat := v.toNat / 2 ^ (8 * k) % 256

/-- x0 to x3 and y0 to y3 of DOT4 (Table 9-3). -/
def TwOp.xs (o : TwOp) (sign : Bool) : List Int := [byteOf o.a 0, byteOf o.a 1, byteOf o.a 2, byteOf o.d 0].map (valueOf sign 8)
def TwOp.ys (o : TwOp) (sign : Bool) : List Int := [byteOf o.b 0, byteOf o.b 1, byteOf o.b 2, byteOf o.d 1].map (valueOf sign 8)

/-- Z of ADD64. -/
def TwOp.z (o : TwOp) : Int := signedOf 64 (o.d.toNat % 2 ^ 16 * 2 ^ 48 + o.b.toNat * 2 ^ 24 + o.a.toNat)

def dotProduct (x y : List Int) : Int := (List.zip x y).foldl (fun s e => s + e.1 * e.2) 0

/-- The values whose residues a block computes at the capture, in the order of `TwOp.rho` (R239). -/
def State.twOperands (s : State) (n : Nat) (o : TwOp) : List Int :=
  let sa := s.twSignA n
  let sb := s.twSignB n
  match s.twMode n with
  | 3 => [o.z]
  | 4 => o.xs sa ++ o.ys sb
  | _ => [valueOf sa 24 o.a.toNat, valueOf sb 24 o.b.toNat, valueOf sa 24 o.d.toNat]

/-- The operation as it stands at its completion: its registers may have changed since the capture (R240). -/
def TwOp.upset (o : TwOp) (u : TwUpset) : TwOp :=
  { a := o.a ^^^ u.a, b := o.b ^^^ u.b, d := o.d ^^^ u.d, neg := o.neg != u.flags.getLsbD 0, clr := o.clr != u.flags.getLsbD 1,
    emit := o.emit != u.flags.getLsbD 2, rho := (o.rho.zipIdx).map (fun e => e.1 ^^^ fieldOf u.rho (3 * e.2 + 2) (3 * e.2)) }

/-- The term of an operation: its value, its residue, and the first check point that failed on the way (Table 9-4). An operand whose
register has changed since the capture fails at the check point that uses it (R240; log entry 76). -/
def State.twTerm (s : State) (n : Nat) (o : TwOp) (u : TwUpset) : Int × Nat × Option TwStage :=
  let sa := s.twSignA n
  let sb := s.twSignB n
  let r (k : Nat) : Nat := o.rho.getD k 0
  let held (k : Nat) : Bool := r k == residue ((s.twOperands n o).getD k 0)
  match s.twMode n with
  | 3 => (o.z, r 0, none)
  | 4 =>
    let t := changed true 48 u.prod.toNat (dotProduct (o.xs sa) (o.ys sb))
    let pred := residue (dotProduct ((o.rho.take 4).map (fun k => (k : Int))) ((o.rho.drop 4).map (fun k => (k : Int))))
    (t, residue t, if residue t ≠ pred || !(List.range 8).all held then some .prod else none)
  | mode =>
    let b := valueOf sb 24 o.b.toNat
    let pw := preAdd (s.twPreadd n) sa (valueOf sa 24 o.a.toNat) (valueOf sa 24 o.d.toNat)
    let p := changed sa 24 u.pre.toNat pw.1
    let predP := residue ((r 0 : Int) + (match s.twPreadd n with | 1 => (r 2 : Int) | 2 => -(r 2 : Int) | _ => 0) - pw.2)
    let neg := decide (mode = 1) && o.neg
    let t0 := if neg then -(p * b) else p * b
    let t := if sa || sb || neg then changed true (if sa || sb then 48 else 49) u.prod.toNat t0 else changed false 48 u.prod.toNat t0
    let predT := residue (if neg then -((residue p : Int) * r 1) else (residue p : Int) * r 1)
    (t, residue t, if residue p ≠ predP then some .pre else if residue t ≠ predT || !held 1 then some .prod else none)

/-- One operation (R236, R239). -/
def State.twCompute (s : State) (n : Nat) (o : TwOp) (tok : Option TwToken) (u : TwUpset) : TwResult :=
  let v := s.twill n
  let acc := signedOf 64 v.acc.toNat
  let term := s.twTerm n o u
  let mul := decide (s.twMode n = 1)
  let casc := if s.twCascIn n then (match tok with
      | some t => (signedOf 64 t.value.toNat, t.res)
      | none => (0, 0))
    else (acc, v.res)
  let base : Int × Nat := if o.clr ∨ mul = true then (0, 0) else casc
  let minus := o.neg && !mul
  let exact := base.1 + (if minus then -term.1 else term.1)
  let wrapped := signedOf 64 (wrapTo 64 exact)
  let wa := (exact - wrapped) / 2 ^ 64
  let out := if mul then wrapped else changed true 64 u.sum.toNat wrapped
  let predOut := residue ((base.2 : Int) + (if minus then -(term.2.1 : Int) else (term.2.1 : Int)) - 2 * wa)
  let badCode := o.rho.contains 7 || decide (v.res ≠ residue acc) || (s.twCascIn n && decide (casc.2 = 7))
  let cascBad := s.twCascIn n && decide (casc.2 ≠ residue casc.1)
  { value := out, wrap := decide (wa ≠ 0) && !mul,
    bad := if badCode then some .rest else if cascBad then some .cascade else
      match term.2.2 with
      | some st => some st
      | none => if !mul && decide (residue out ≠ predOut) then some .adder else none }

/-! Ports. -/

/-- Operations between capture and the return to zero of their responses (R237). -/
def Twill.inHand (v : Twill) : Nat := v.ops.length + v.resps.length + v.rsLow.toNat

/-- An operation is captured, with the residues of its operands (R234, R239). -/
def twillCapture (n : Nat) (o : TwOp) (s : State) : State :=
  let v := s.twill n
  if s.twillLive n && !v.rq && decide (v.inHand < 8) then
    s.setTwill n { v with rq := true, ack := true, ops := v.ops ++ [{ o with rho := (s.twOperands n o).map residue }] }
  else s

def twillReqFall (n : Nat) (s : State) : State :=
  let v := s.twill n
  if s.twillLive n && v.rq then s.setTwill n { v with rq := false, ack := false } else s

/-- A cascade token sent by the block below reaches the block and becomes the base of the waiting operation (R238). -/
def twillToken (n : Nat) (s : State) : State :=
  let v := s.twill n
  match v.link with
  | [] => s
  | t :: rest =>
    if s.twillLive n && s.twCascIn n && v.base.isNone && decide (v.ops ≠ []) then s.setTwill n { v with link := rest, base := some t }
    else s

/-- RS_ACK answers the oldest response, and RS_REQ falls; it stays low until RS_ACK has returned to zero (R182, R233). -/
def twillRespAck (n : Nat) (s : State) : State :=
  let v := s.twill n
  if s.twillLive n && decide (v.resps ≠ []) && !v.rsLow then s.setTwill n { v with resps := v.resps.drop 1, rsLow := true } else s

/-- The upset with the inversion that TW_INJECT has armed (R247). -/
def State.twInjected (s : State) (n : Nat) (u : TwUpset) : TwUpset :=
  let bit := s.fld (rTwInject n) 5 0
  if s.bit (rTwInject n) 31 then
    match s.fld (rTwInject n) 27 26 with
    | 0 => { u with pre := u.pre ^^^ BitVec.twoPow 24 bit }
    | 1 => { u with prod := u.prod ^^^ BitVec.twoPow 48 bit }
    | _ => { u with sum := u.sum ^^^ BitVec.twoPow 64 bit }
  else u

/-- TWILL_RESIDUE: counted, raised, and a detected fault of a COMMITTED owner (R241). -/
def State.residueFault (s : State) (n : Nat) (st : TwStage) : State :=
  let s1 := ((s.count (rTwErrs n) 31 16 1).setFld (rTwErrs n) 2 0 st.code).pulse .twill (n / 16) (n % 16)
  s1.detect (s.twOwner n) 0x01 n

/-- An upset of the accumulator at rest. -/
def Twill.upset (v : Twill) (u : TwUpset) : Twill :=
  { v with acc := v.acc ^^^ u.rest.setWidth 64, res := v.res ^^^ fieldOf u.rest 66 64 }

/-- An upset of a cascade token. -/
def TwToken.upset (t : TwToken) (u : TwUpset) : TwToken :=
  { value := t.value ^^^ u.token.setWidth 64, res := t.res ^^^ fieldOf u.token 66 64 }

/-- The token the block above receives (R238). -/
def State.sendToken (s : State) (n : Nat) (t : TwToken) : State :=
  if s.twCascOut n then s.setTwill (n + 1) { (s.twill (n + 1)) with link := (s.twill (n + 1)).link ++ [t] } else s

/-- The oldest operation completes (R236 to R242). -/
def twillComplete (n : Nat) (upset : TwUpset) (s : State) : State :=
  let v := s.twill n
  match v.ops with
  | [] => s
  | o0 :: rest =>
    if s.twillLive n && !v.faulty && (!s.twCascIn n || v.base.isSome) then
      let o := o0.upset upset
      let r := s.twCompute n o (v.base.map (fun t => t.upset upset)) (s.twInjected n upset)
      let s2 := if s.bit (rTwInject n) 31 then s.setBit (rTwInject n) 31 false else s
      match r.bad, s.committed (s.twOwner n) with
      | some st, true => (s2.setTwill n { v with faulty := true }).residueFault n st
      | bad, _ =>
        let acc : Dword := BitVec.ofNat 64 (wrapTo 64 r.value)
        let res := residue (signedOf 64 acc.toNat)
        let w : Twill := { v with ops := rest, base := none, acc := acc, res := res,
                                  resps := if o.emit then v.resps ++ [TwResp.mk acc r.wrap bad.isSome] else v.resps }
        let s4 := (s2.setTwill n (w.upset upset)).sendToken n ⟨acc, res⟩
        let s5 := match bad with | some st => s4.residueFault n st | none => s4
        if r.wrap then (s5.count (rTwErrs n) 15 8 1).pulse .twill (n / 16) (16 + n % 16) else s5
    else s

/-! Checkpoint (R243). -/

/-- One parity bit per 16 bits of ACC and of the residue code together. -/
def accParity (acc : Dword) (res : Nat) : BitVec 5 :=
  BitVec.ofNat 5 ((List.range 5).foldl (fun p g =>
    p + flag ((List.range 16).foldl (fun x k => x != (acc.toNat + res * 2 ^ 64).testBit (16 * g + k)) false) g) 0)

def Twill.commit (v : Twill) : Twill := { v with shAcc := v.acc, shRes := v.res, shPar := accParity v.acc v.res }

/-- ACC from its shadow; operations in the pipeline are discarded (Table 6-1). -/
def Twill.restore (v : Twill) : Twill :=
  { v with acc := v.shAcc, res := v.shRes, ops := [], resps := [], base := none, link := [], rq := false, ack := false, rsLow := false, faulty := false }

/-- An upset of the shadow. -/
def Twill.upsetShadow (v : Twill) (m : BitVec 72) : Twill :=
  { v with shAcc := v.shAcc ^^^ m.setWidth 64, shRes := v.shRes ^^^ fieldOf m 66 64, shPar := v.shPar ^^^ BitVec.ofNat 5 (fieldOf m 71 67) }

def Twill.shadowBad (v : Twill) : Bool := decide (v.shPar ≠ accParity v.shAcc v.shRes)

def State.twillsOf (s : State) (b : Nat) : List Nat := (s.twills.map (fun e => e.1)).filter (fun n => decide (s.twOwner n = b))

/-- The blocks a rollback of the bolt restores: a fenced region takes no part in it (Table 6-4). -/
def State.restoredTwills (s : State) (b : Nat) : List Nat := (s.twillsOf b).filter (fun n => !s.fenced (twillTile n))

def State.commitTwills (s : State) (b : Nat) : State := (s.twillsOf b).foldl (fun s n => s.setTwill n (s.twill n).commit) s
def State.restoreTwills (s : State) (b : Nat) : State := (s.restoredTwills b).foldl (fun s n => s.setTwill n (s.twill n).restore) s
def State.twillShadowsBad (s : State) (b : Nat) : Bool := (s.restoredTwills b).any (fun n => (s.twill n).shadowBad)

/-- The check of the accumulator at rest at a freeze (Table 9-4), blocks in ascending order (Table 9-5). -/
def State.twillsAtFreeze (s : State) (b : Nat) : State :=
  (s.twillsOf b).foldl (fun s n =>
    if (s.twill n).res = residue (signedOf 64 (s.twill n).acc.toNat) then s else s.residueFault n .rest) s

/-! Registers. -/

/-- TW_INJECT with ARM is refused: the mode has no such stage (R247). -/
def State.injectRefused (s : State) (n stage : Nat) : Bool :=
  match s.twMode n, stage with
  | 0, _ => true
  | 3, 0 => true
  | 4, 0 => true
  | 3, 1 => true
  | 1, 2 => true
  | _, _ => false

/-- BIT beyond the range of STAGE is undefined. -/
def injectBad (stage bit : Nat) : Bool := (decide (stage = 0) && decide (23 < bit)) || (decide (stage = 1) && decide (47 < bit))

def twillClear (k mask : Nat) (s : State) : State :=
  (List.range 16).foldl (fun s i => if mask.testBit i then s.setReg (rTwErrs (16 * k + i)) 0 else s) s

def State.twillView (s : State) (k off : Nat) : Option Word :=
  if off = 0x00C then
    some (BitVec.ofNat 32 ((List.range 16).foldl (fun a i => a + flag (decide ((s.twill (16 * k + i)).inHand ≠ 0)) i) 0))
  else if 0x100 ≤ off ∧ off < 0x300 then
    let v := s.twill (16 * k + (off - 0x100) / 0x20)
    let n := 16 * k + (off - 0x100) / 0x20
    match off % 0x20 with
    | 0x04 => some (BitVec.ofNat 32 (flag (s.twCascIn n && decide (v.ops ≠ []) && v.base.isNone) 4 + v.inHand))
    | 0x08 => some (loHalf v.acc.toNat)
    | 0x0C => some (hiHalf v.acc.toNat)
    | _ => none
  else none

end Sys2Proof.Machine
end

