-- ==== Sys2Proof/Machine/Ports.lean ====
section
/-!
DEFINITION. Where the hard blocks meet the fabric: the levels on their output wires, and the cells whose requests they hold
(R26, R329 to R336).
-/

namespace Sys2Proof.Machine

/-! Cells. -/

def State.cell (s : State) (r c : Nat) : Cell := SMap.get {} s.cells (16 * r + c)

def State.setCell (s : State) (r c : Nat) (v : Cell) : State := { s with cells := SMap.set {} s.cells (16 * r + c) v }

/-! Output wires (R329): an output slot takes over one incoming L1 tap. -/

/-- The level of a creel port's output slot (Table 12-9). RS_REQ stays low until RS_ACK of the response before is back at zero. -/
def CPort.outWire (w : CPort) (slot : Nat) : Bool :=
  match slot with
  | 84 => w.ack
  | 85 => w.resp.isSome && !w.rsLow
  | 86 => (w.resp.map (fun r => r.err)).getD false
  | 87 => (w.resp.map (fun r => r.nv)).getD false
  | 88 => (w.resp.map (fun r => r.plast)).getD false
  | k => decide (89 ≤ k) && ((w.resp.map (fun r => r.rdata.getLsbD (k - 89))).getD false)

/-- The level of a twill block's output slot (R332). -/
def Twill.outWire (v : Twill) (slot : Nat) : Bool :=
  match slot, v.resps with
  | 77, _ => v.ack
  | _, [] => false
  | 78, _ => !v.rsLow
  | 79, r :: _ => r.wrap
  | 80, r :: _ => r.err
  | k, r :: _ => decide (81 ≤ k) && r.result.getLsbD (k - 81)

/-- A four-phase fabric channel: slot 0 F_REQ, slot 1 F_ACK, slots 2 to 65 F_DATA. -/
def channelWire (token : Option Dword) (ack : Bool) (slot : Nat) : Bool :=
  match slot with
  | 0 => token.isSome
  | 1 => ack
  | k => (token.getD 0).getLsbD (k - 2)

/-- The level of an output slot of a hard block. -/
def State.blockWire (s : State) (e : TapSrc) : Bool :=
  match e.block with
  | .creelA => (s.creel e.unit).portA.outWire e.slot
  | .creelB => (s.creel e.unit).portB.outWire e.slot
  | .twill => (s.twill e.unit).outWire e.slot
  | .bridge => channelWire (s.bridge e.unit).chan.token (s.bridge e.unit).sink.ack e.slot
  | .fbp =>
    let v := s.fbp e.unit
    match e.slot / 66 with
    | 0 => channelWire v.tReq.token false e.slot
    | 1 => channelWire none v.tResp.ack (e.slot % 66)
    | 2 => channelWire none v.iReq.ack (e.slot % 66)
    | _ => channelWire v.iResp.token false (e.slot - 198)
  | .pin => SMap.get false s.portIn e.unit

/-- The level a taken tap delivers, 0 across the fence of a region (R307); none where the tap carries its track. -/
def State.takenTap (s : State) (r t : Nat) : Option Bool :=
  (s.tapSource r t).map (fun e => !s.sourceFenced r e && s.blockWire e)

/-! Requests held at hard ports (R26). -/

/-- The cells whose request is held: at a creel port by a stalled UNDO write or a BLOCKING queue end, at a bridge that waits for its
clocked side, or at a fabric bus port in RESYNC or at the bound of its initiator half (R26, R269, R270, R276). -/
def State.parkedCells (s : State) : List Nat :=
  let creels := s.creels.flatMap (fun e =>
    (if e.2.portA.parked then [s.slotCell (s.creelSlot e.1 .a 0)] else []) ++
    (if e.2.portB.parked then [s.slotCell (s.creelSlot e.1 .b 0)] else []))
  let bridges := s.bridges.flatMap (fun e => if e.2.sink.parked.isSome then [s.slotCell (s.bridgeSlot e.1 0)] else [])
  let ports := s.fbps.flatMap (fun e =>
    (if e.2.tResp.parked.isSome then [s.slotCell (s.bridgeSlot (portBridge e.1) 66)] else []) ++
    (if e.2.iReq.parked.isSome then [s.slotCell (s.bridgeSlot (portBridge e.1) 132)] else []))
  (creels ++ bridges ++ ports).filterMap id

/-! Activity of the hard ports of a bolt, for its idle report (R26, R185, R237). -/

/-- A creel port with a channel wire up that is no parked wait. -/
def CPort.active (w : CPort) : Bool := !w.parked && (w.rq || w.ack || w.req.isSome || w.resp.isSome || w.rsLow)

/-- A fabric channel with a wire up. -/
def FabChan.active (v : FabChan) : Bool := v.token.isSome || v.low

/-- A twill block with a token of one of its channels or of its cascade in hand (R237). -/
def Twill.active (v : Twill) : Bool := decide (v.inHand ≠ 0) || v.rq || decide (v.link ≠ [])

/-- The reed is one of the eight that a block with base reed `b` connects to (R329). -/
def attaches (b r : Nat) : Bool :=
  decide (reedP r = reedP b ∧ reedY r = reedY b ∧ reedX b ≤ reedX r ∧ reedX r < reedX b + 8)

/-- An active creel port or twill block keeps the reeds it connects to from counting as idle (R185, R237). -/
def State.blockBusy (s : State) (r : Nat) : Bool :=
  s.creels.any (fun e => (e.2.portA.active && attaches (s.creelBaseReed e.1 .a) r) ||
    (e.2.portB.active && attaches (s.creelBaseReed e.1 .b) r)) ||
  s.twills.any (fun e => e.2.active && attaches (s.twillBaseReed e.1) r)

def State.portsActive (s : State) (b : Nat) : Bool :=
  s.creels.any (fun e => (s.portBolt e.1 .a == b && e.2.portA.active) || (s.portBolt e.1 .b == b && e.2.portB.active)) ||
  s.twills.any (fun e => s.twOwner e.1 == b && e.2.active) ||
  s.bridges.any (fun e => s.svBolt e.1 == b && (e.2.chan.active || e.2.sink.ack)) ||
  s.fbps.any (fun e => s.svBolt (portBridge e.1) == b && (e.2.tReq.active || e.2.tResp.ack || e.2.iReq.ack || e.2.iResp.active))

end Sys2Proof.Machine
end

