-- ==== Sys2Proof/Machine/Cells.lean ====
section
/-!
DEFINITION. Heddle cells (chapter 03) and routing (chapter 04): the fields of a reed frame as configuration memory holds them,
the settled value of every wire, and the steps of the cell controllers.
-/

namespace Sys2Proof.Machine

/-! The reed frame (Table 12-7). -/

def State.lut (s : State) (r c : Nat) : Nat := s.frameBytes (reedFrame r) (8 * c) 8
def State.ctl (s : State) (r c : Nat) : Nat := s.frameBytes (reedFrame r) (0x080 + 5 * c) 5
/-- Crossbar select `j` of a cell: I1 to I6, REQ0 to REQ3, ACK_SEL, CLKW. -/
def State.xsel (s : State) (r c j : Nat) : Nat := s.frameByte (reedFrame r) (0x0D0 + 12 * c + j)
def State.leafSel (s : State) (r j m : Nat) : Nat := s.frameByte (reedFrame r) (0x190 + 8 * j + m)
def State.gsel (s : State) (r l : Nat) : Nat := s.frameByte (reedFrame r) (0x1B0 + l)
def State.rgj (s : State) (r : Nat) : Nat := s.frameBytes (reedFrame r) 0x1B4 6
def State.rtf (s : State) (r : Nat) : Nat := s.frameBytes (reedFrame r) 0x1FA 3

/-! The cell control field (Table 3-7). -/

def ctlMode (v : Nat) : Nat := bits v 39 37
def ctlTwoSlot (v : Nat) : Bool := v.testBit 36
def ctlLeader (v : Nat) : Nat := bits v 35 32
def ctlReqEn (v k : Nat) : Bool := v.testBit (28 + k)
def ctlAckJoin (v : Nat) : Nat := bits v 27 25
def ctlClkSrc (v : Nat) : Nat := bits v 19 18
def ctlPaceNet (v : Nat) : Nat := bits v 16 12
def ctlCarry (v : Nat) : Nat := bits v 11 10
def ctlFfbD (v : Nat) : Nat := bits v 7 6
def ctlFfaD (v : Nat) : Nat := bits v 5 4
def ctlOutB (v : Nat) : Nat := bits v 3 2
def ctlOutA (v : Nat) : Nat := bits v 1 0

/-- The gather node whose output is GATHER of cell `c`: the top of the highest enabled group that ends at the cell (R78). -/
def gatherTop (rgj c : Nat) : Option (Nat × Nat) :=
  let node (l i : Nat) : Bool :=
    rgj.testBit (32 + (match l with | 0 => i | 1 => 8 + i | 2 => 12 + i | _ => 14))
  let cand (l : Nat) : Option (Nat × Nat) :=
    let size := 2 ^ (l + 1)
    if (c + 1) % size = 0 ∧ node l (c / size) = true ∧ (l = 3 ∨ node (l + 1) (c / (2 * size)) = false) then
      some (l, c / size) else none
  (cand 3).orElse (fun _ => (cand 2).orElse (fun _ => (cand 1).orElse (fun _ => cand 0)))

/-- A combination that Table 3-10 rejects, or an undefined encoding, in cell `c` of a reed whose control fields are `f`. -/
def ctlBad (f : Nat → Nat) (rgj row c : Nat) : Bool :=
  let v := f c
  let m := ctlMode v
  let even := decide (c % 2 = 0)
  let cells := List.range 16
  let followers := (cells.filter (fun d => decide (ctlMode (f d) = 2 ∧ ctlLeader (f d) = c))).length
  let partner := f (c ^^^ 1)
  decide (m > 5) || decide (ctlAckJoin v ∈ [1, 2, 3]) || decide (ctlClkSrc v = 3) ||
  (decide (ctlClkSrc v ≠ 0) != decide (m = 5)) ||
  (decide (ctlPaceNet v ≠ 0) && decide (ctlClkSrc v ≠ 1)) || (v.testBit 17 && decide (m ≠ 5)) ||
  (decide (bits v 24 20 ≠ 0) && decide (m ≠ 1)) ||
  (ctlTwoSlot v && (decide (m ≠ 1) || decide (ctlFfbD v ≠ 3) || decide (followers ≠ 0))) ||
  (decide (ctlLeader v ≠ 0) && decide (m ≠ 2)) ||
  (decide (m = 2) && (decide (ctlLeader v = c) || decide (ctlMode (f (ctlLeader v)) ≠ 1))) || decide (followers > 3) ||
  (match m with
   | 0 | 2 | 4 => decide (bits v 31 28 ≠ 0)
   | 1 => decide (bits v 31 28 = 0)
   | 3 => if even then v.testBit 31 || decide (bits v 30 28 = 0) else decide (bits v 31 28 ≠ 0)
   | _ => decide (bits v 31 29 ≠ 0)) ||
  (decide (ctlAckJoin v ≠ 0) && (!(decide (m = 1) || (decide (m = 3) && even)) ||
     decide (bits rgj (8 * (ctlAckJoin v - 4) + 7) (8 * (ctlAckJoin v - 4)) = 0))) ||
  (decide (m = 3) && (decide (ctlMode partner ≠ 3) || v.testBit 8 || v.testBit 9 || decide (ctlOutA v ≠ 1) ||
     decide (ctlFfaD v ≠ (if ctlCarry v = 0 then 0 else 2)) || decide (ctlCarry partner ≠ ctlCarry v))) ||
  (decide (ctlCarry v = 1) && decide (c = 0) && decide (row = 0)) || (decide (ctlCarry v ≠ 0) && decide (m = 0)) ||
  ((decide (ctlOutA v = 3) || decide (ctlFfaD v = 3)) && (gatherTop rgj c).isNone)

/-- An enabled gather node above level 0 with a child that is not enabled (Table 3-10), or the reserved bit set. -/
def rgjBad (rgj : Nat) : Bool :=
  let g (k : Nat) : Bool := rgj.testBit (32 + k)
  rgj.testBit 47 || (List.range 4).any (fun i => g (8 + i) && !(g (2 * i) && g (2 * i + 1))) ||
  (List.range 2).any (fun i => g (12 + i) && !(g (8 + 2 * i) && g (9 + 2 * i))) || (g 14 && !(g 12 && g 13))

/-- The control field a cell obeys: a field of R84 makes the cell an UNUSED one. -/
def State.liveCtl (s : State) (r c : Nat) : Nat :=
  if ctlBad (s.ctl r) (s.rgj r) (reedY r) c then 0 else s.ctl r c

/-- The net that pace tap `v - 2` of a reed carries (Tables 4-1 and 4-2). -/
def State.tapNet (s : State) (r v : Nat) : Nat := bits (s.rtf r) (5 * (v - 2) + 4) (5 * (v - 2))

/-! The value of every wire. -/

/-- A wire of a reed whose value is computed from other wires. -/
inductive Wire where
  | data (r v : Nat)
  | ctrl (r v : Nat)
  | lease (r v : Nat)
  | tap (r t : Nat)
  | out (r c : Nat) (b : Bool)
  | lut (r c k : Nat)
  | cin (r c : Nat)
  | sum (r c k : Nat)
  | gather (r l i : Nat)
  | idle (r : Nat)

/-- The index of a truth table (R54). -/
def lutIndex (i : Nat → Bool) : Nat := (List.range 6).foldl (fun a k => a + flag (i k) k) 0

/-- The receiving end of a seam track holds its last level: the sending panel is in warning (R96), or the seam frame has an
uncorrectable word (R312). -/
def State.seamHolds (s : State) (m : SeamRef) (sendPanel : Nat) : Bool :=
  s.pwr.warn.testBit sendPanel || s.held.contains (64 + 2 * m.seam + m.sub)

/-- Control and lease selects receive 0 from the tap: its driving reed lies in another bolt (R148). A taken tap counts as driven from
its attach reed (R330). -/
def State.tapShut (s : State) (r t : Nat) : Bool :=
  (s.tapSource r t).isNone && (match tapDriver r t with
    | some (d, _, _) => s.crossesBolt r d
    | none => false)

/-- The level of lease output `i` of a reed within an extra transition (R100). -/
def State.strayLevel (s : State) (r i : Nat) : Option Bool :=
  match s.glitch with
  | some (k, b) => if k = 64 * r + i then some b else none
  | none => none

/-- The value of a wire, to a given depth of wires behind it. -/
def State.val : Nat → State → Wire → Bool
  | 0, s, .data r _ | 0, s, .ctrl r _ | 0, s, .lease r _ | 0, s, .tap r _ | 0, s, .out r _ _ | 0, s, .lut r _ _
  | 0, s, .cin r _ | 0, s, .sum r _ _ | 0, s, .gather r _ _ | 0, s, .idle r => Config.unsettled r s.now
  | n + 1, s, w =>
    match w with
    | .data r v =>
      if v = 1 then true
      else if v < 2 then false
      else if v < 6 then s.paceLevel (s.boltOf r) (s.tapNet r v)
      else if v = 6 then s.val n (.idle r)
      else if v = 7 then (s.rtf r).testBit 20
      else if v < 40 then s.val n (.out r ((v - 8) / 2) (decide (v % 2 = 1)))
      else if v < 136 then s.val n (.tap r (v - 40))
      else false
    | .ctrl r v =>
      if v = 1 then true
      else if v < 2 then false
      else if v < 6 then s.paceLevel (s.boltOf r) (s.tapNet r v)
      else if v = 6 then s.val n (.idle r)
      else if v = 7 then (s.rtf r).testBit 20
      else if v < 40 then
        (if v % 2 = 0 then (s.cell r ((v - 8) / 2)).oreq else (s.cell r ((v - 8) / 2)).ack) &&
          decide (ctlMode (s.liveCtl r ((v - 8) / 2)) = 1 ∨ ctlMode (s.liveCtl r ((v - 8) / 2)) = 3)
      else if v < 136 then
        if s.tapShut r (v - 40) then false else s.val n (.tap r (v - 40))
      else false
    | .lease r v =>
      if v = 0 then false
      else if v < 65 then
        (match (v - 1) % 4 with
         | 0 => s.val n (.out r ((v - 1) / 4) false)
         | 1 => s.val n (.out r ((v - 1) / 4) true)
         | 2 => s.val n (.ctrl r (8 + 2 * ((v - 1) / 4)))
         | _ => s.val n (.ctrl r (9 + 2 * ((v - 1) / 4))))
      else if v < 161 then
        if s.tapShut r (v - 65) then false else s.val n (.tap r (v - 65))
      else false
    | .tap r t =>
      (match s.takenTap r t with
       | some level => level
       | none =>
         match tapDriver r t with
         | none => false
         | some (d, i, none) => if s.crossesRegion r d then false else (s.strayLevel d i).getD (s.val n (.lease d (s.leaseSel d i)))
         | some (d, i, some m) =>
           if s.crossesRegion r d then false
           else if s.seamHolds m (reedP d) then SMap.get false s.seamHeld (m.key (i % 16))
           else if !((s.cfgWord (m.frame (reedP d)) ((2 * m.edge + i % 16) / 64)).live.testBit
               ((2 * m.edge + i % 16) % 64)) then false
           else (s.strayLevel d i).getD (s.val n (.lease d (s.leaseSel d i))))
    | .out r c b =>
      let v := s.liveCtl r c
      if ctlMode v = 0 then false
      else if b then
        (match ctlOutB v with
         | 0 => s.val n (.lut r c 1)
         | 1 => (s.cell r c).ffB
         | 2 => s.val n (.sum r c 1)
         | _ => s.val n (.sum r c 2))
      else
        (match ctlOutA v with
         | 0 => s.val n (.lut r c 2)
         | 1 => (s.cell r c).ffA
         | 2 => s.val n (.sum r c 0)
         | _ => match gatherTop (s.rgj r) c with
                | some (l, i) => s.val n (.gather r l i)
                | none => false)
    | .lut r c k =>
      let i := lutIndex (fun j => s.val n (.data r (s.xsel r c j)))
      (match k with
       | 0 => (s.lut r c).testBit (i % 32)
       | 1 => (s.lut r c).testBit (32 + i % 32)
       | _ => (s.lut r c).testBit i)
    | .cin r c =>
      (match ctlCarry (s.liveCtl r c) with
       | 1 => if c = 0 then
                (if reedY r = 0 ∨ s.crossesBolt r (r - 1) = true ∨ s.crossesRegion r (r - 1) = true then false
                 else s.val n (.sum (r - 1) 15 2))
              else s.val n (.sum r (c - 1) 2)
       | 3 => true
       | _ => false)
    | .sum r c k =>
      let c0 := s.val n (.cin r c)
      let p0 := s.val n (.lut r c 0)
      let p1 := s.val n (.lut r c 1)
      let c1 := if p0 then c0 else s.val n (.data r (s.xsel r c 0))
      (match k with
       | 0 => p0 != c0
       | 1 => p1 != c1
       | _ => if p1 then c1 else s.val n (.data r (s.xsel r c 2)))
    | .gather r l i =>
      let up := s.val n (.data r (s.gsel r l))
      (match l with
       | 0 => s.val n (.lut r (2 * i + up.toNat) 2)
       | l' + 1 => s.val n (.gather r l' (2 * i + up.toNat)))
    | .idle r =>
      -- R26: every handshake wire at zero and no controller mid-cycle; a parked request counts as idle
      s.fenced (reedTile r) || (!s.blockBusy r &&
        (List.range 32).all (fun k => !(s.rgj r).testBit k || !s.val n (.ctrl r (s.leafSel r (k / 8) (k % 8)))) &&
        (List.range 16).all (fun c =>
          let v := s.cell r c
          let ctl := s.liveCtl r c
          let j := ctlAckJoin ctl
          let ack := if j < 4 then s.val n (.ctrl r (s.xsel r c 10)) else SMap.get false s.joins (4 * r + (j - 4))
          let held := v.oreq && s.parkedCells.contains (16 * r + c)
          match ctlMode ctl with
          | 1 => !v.joined && !v.ack && (!v.oreq || held) && !ack &&
              (List.range 4).all (fun k => !ctlReqEn ctl k || !s.val n (.ctrl r (s.xsel r c (6 + k))))
          | 3 => decide (c % 2 = 1) || ((!v.busy || held) && !v.ack && !ack && (List.range 6).all (fun i =>
              !ctlReqEn ctl (i / 2) || !s.val n (.data r (s.xsel r c i))))
          | _ => true))

/-- The settled value of a wire (R97: one driver each); a loop that does not settle has an open value. The depth is beyond that of any
route without a loop. -/
def wireDepth : Nat := 2 ^ 28
def State.wire (s : State) (w : Wire) : Bool := s.val wireDepth w

/-! Handshake inputs of a cell. -/

def State.reqK (s : State) (r c k : Nat) : Bool := s.wire (.ctrl r (s.xsel r c (6 + k)))

/-- ACK_IN: ACK_SEL or the acknowledge join that ACK_JOIN names (R79). -/
def State.ackIn (s : State) (r c : Nat) : Bool :=
  let j := ctlAckJoin (s.liveCtl r c)
  if j < 4 then s.wire (.ctrl r (s.xsel r c 10)) else SMap.get false s.joins (4 * r + (j - 4))

def State.enabledReqs (s : State) (r c : Nat) (want : Bool) : Bool :=
  (List.range 4).all (fun k => !ctlReqEn (s.liveCtl r c) k || (s.reqK r c k == want))

/-- The new output of a join: it rises when every enabled leaf is 1, falls when every enabled leaf is 0, and otherwise holds. -/
def State.joinNext (s : State) (r j : Nat) : Bool :=
  let en := bits (s.rgj r) (8 * j + 7) (8 * j)
  let leaves := ((List.range 8).filter (fun m => en.testBit m)).map (fun m => s.wire (.ctrl r (s.leafSel r j m)))
  if leaves = [] then false
  else if leaves.all id then true
  else if leaves.all not then false
  else SMap.get false s.joins (4 * r + j)

/-- The reeds whose frame configuration memory lists. -/
def State.reeds (s : State) : List Nat :=
  ((s.cfgMem.map (fun e => e.1 / 64)).filter (fun f => bits f 21 19 == 0)).map
    (fun f => reedNo (bits f 23 22) (bits f 18 11) (bits f 10 3)) |>.dedup

/-- The level of a request or acknowledge slot of a block in tile `t` whose port belongs to bolt `b`. -/
def State.slotLevel (s : State) (b t : Nat) (slot : Nat × Nat) : Bool := !s.slotShut b t slot && s.wire (.lease slot.1 slot.2)

/-- The level of a data slot of a block in tile `t`: a wire from another bolt's reed passes unchanged (R185), one that crosses the fence of
a region reads 0 (R307). -/
def State.slotData (s : State) (t : Nat) (slot : Nat × Nat) : Bool :=
  if s.fenced t != s.fenced (reedTile (s.selectReed slot.1 slot.2)) then false
  else if slot.2 < 65 then s.wire (.lease slot.1 slot.2) else if slot.2 < 161 then s.wire (.tap slot.1 (slot.2 - 65)) else false

/-- A request or acknowledge slot of a bridge. -/
def State.bridgeLevel (s : State) (n w : Nat) : Bool := s.slotLevel (s.svBolt n) (reedTile (s.bridgeReed n)) (s.bridgeSlot n w)

/-- F_ACK of the last token has yet to return to zero. -/
def State.chanNext (s : State) (n w : Nat) (v : FabChan) : FabChan := { v with low := v.low && s.bridgeLevel n w }

/-- F_ACK of an OUT channel falls with the request it answers. -/
def State.sinkNext (s : State) (n w : Nat) (v : FabSink) : FabSink := { v with ack := v.ack && s.bridgeLevel n w }

def State.bridgeNext (s : State) (n : Nat) (v : Bridge) : Bridge := { v with chan := s.chanNext n 1 v.chan, sink := s.sinkNext n 0 v.sink }

def State.fbpNext (s : State) (n : Nat) (v : Fbp) : Fbp :=
  let br := portBridge n
  { v with tReq := s.chanNext br 1 v.tReq, tResp := s.sinkNext br 66 v.tResp, iReq := s.sinkNext br 132 v.iReq,
           iResp := s.chanNext br 199 v.iResp }

/-- RS_REQ may rise again once RS_ACK is back at zero (R182, R234). -/
def State.creelNext (s : State) (n : Nat) (v : Creel) : Creel :=
  let low (p : PortSide) (w : CPort) : CPort :=
    { w with rsLow := w.rsLow && s.slotLevel (s.portBolt n p) (creelTile n) (s.creelSlot n p 1) }
  { v with portA := low .a v.portA, portB := low .b v.portB }

def State.twillNext (s : State) (n : Nat) (v : Twill) : Twill :=
  { v with rsLow := v.rsLow && s.slotLevel (s.twOwner n) (twillTile n) (s.twillSlot n 1) }

/-- The hard blocks follow the wires that answer them. -/
def State.settleBlocks (s : State) : State :=
  { s with bridges := s.bridges.foldl (fun m e => SMap.set {} m e.1 (s.bridgeNext e.1 e.2)) s.bridges,
           fbps := s.fbps.foldl (fun m e => SMap.set {} m e.1 (s.fbpNext e.1 e.2)) s.fbps,
           creels := s.creels.foldl (fun m e => SMap.set {} m e.1 (s.creelNext e.1 e.2)) s.creels,
           twills := s.twills.foldl (fun m e => SMap.set {} m e.1 (s.twillNext e.1 e.2)) s.twills }

/-- Until no block follows another one further; each pass lowers a wire of some block. -/
def State.settleAll : Nat → State → State
  | 0, s => s
  | n + 1, s =>
    let t := s.settleBlocks
    if t.bridges = s.bridges ∧ t.fbps = s.fbps ∧ t.creels = s.creels ∧ t.twills = s.twills then t else State.settleAll n t

/-- The wire that clocks a cell: its CLKW select with CLK_SRC = WIRE (Table 3-5), where that is no pace tap. -/
def State.clockWire (s : State) (r c : Nat) : Option Nat :=
  let v := s.liveCtl r c
  let w := s.xsel r c 11
  if ctlMode v = 5 ∧ ctlClkSrc v = 2 ∧ (w = 6 ∨ (8 ≤ w ∧ w < 136)) then some w else none

/-- CLK_EDGE: the falling edge is the active one. -/
def ctlFalling (v : Nat) : Bool := v.testBit 17

/-- The joins follow their leaves, and a WIRE clock at its inactive level is ready for its next edge. -/
def State.settleCells (s : State) : State :=
  let next := s.reeds.flatMap (fun r => (List.range 4).map (fun j => (4 * r + j, s.joinNext r j)))
  let arm := s.reeds.flatMap (fun r => ((List.range 16).filter (fun c =>
    match s.clockWire r c with
    | some w => s.wire (.data r w) == ctlFalling (s.liveCtl r c)
    | none => false)).map (fun c => 16 * r + c))
  { s with joins := next.foldl (fun m e => SMap.set false m e.1 e.2) s.joins,
           cells := arm.foldl (fun m k => SMap.set {} m k { (SMap.get {} m k) with armed := true }) s.cells }

/-- What follows the levels of wires without a step of a controller. -/
def State.settle (s : State) : State :=
  (State.settleAll (4 * (s.bridges.length + s.fbps.length + s.creels.length + s.twills.length)) s).settleCells

/-! D inputs and captures. -/

/-- The D input of FF_A (Table 3-7). -/
def State.dA (s : State) (r c : Nat) : Bool :=
  match ctlFfaD (s.liveCtl r c) with
  | 0 => s.wire (.lut r c 2)
  | 1 => s.wire (.lut r c 0)
  | 2 => s.wire (.sum r c 0)
  | _ => match gatherTop (s.rgj r) c with
         | some (l, i) => s.wire (.gather r l i)
         | none => false

def State.dB (s : State) (r c : Nat) : Bool :=
  match ctlFfbD (s.liveCtl r c) with
  | 0 => s.wire (.lut r c 1)
  | 1 => s.wire (.sum r c 1)
  | 2 => s.wire (.sum r c 2)
  | _ => (s.cell r c).ffA

/-- The `k`-th of the bits a step leaves open. -/
def State.openBit (s : State) (k : Nat) : Bool := Config.free (s.free + k) % 2 == 1

/-- What a capture stores: the D input, or after a violation a value that is not defined, for each flip-flop its own (R61, log entry 2). -/
def State.captured (s : State) (viol : Bool) (k : Nat) (d : Bool) : Bool := if viol then s.openBit k else d

/-- The followers of a leader in its reed (R65). -/
def State.followers (s : State) (r c : Nat) : List Nat :=
  (List.range 16).filter (fun d => decide (ctlMode (s.liveCtl r d) = 2 ∧ ctlLeader (s.liveCtl r d) = c))

/-- One capture pulse: FF_A and FF_B of a cell load from `s0`. -/
def State.loadFF (s0 : State) (viol : Bool) (r : Nat) (s : State) (c : Nat) : State :=
  s.setCell r c { (s.cell r c) with ffA := s0.captured viol (2 * c) (s0.dA r c), ffB := s0.captured viol (2 * c + 1) (s0.dB r c) }

/-- A cell of mode `m` whose bolt may take a step; a fenced region takes none until its release (R300, R307). -/
def State.ready (s : State) (r c m : Nat) : Bool :=
  s.live (s.boltOf r) && !s.fenced (reedTile r) && decide (ctlMode (s.liveCtl r c) = m)

def cellReed (c : CellRef) : Nat := reedIx c.reed
def cellNo (c : CellRef) : Nat := c.c.val

/-- The open values of the flip-flops of a reed, two for each cell, and of two shadow latches. -/
def openBlock : Nat := 34

/-- Used up by a violation: the state with these open values taken. -/
def State.used (s : State) (viol : Bool) : State := if viol then { s with free := s.free + openBlock } else s

/-! The steps of Table 3-3. -/

def bdJoin (r c : Nat) (s : State) : State :=
  let v := s.cell r c
  if s.ready r c 1 && !v.joined && !v.ack && s.enabledReqs r c true then s.setCell r c { v with joined := true } else s

def bdDelay (r c : Nat) (s : State) : State :=
  let v := s.cell r c
  if s.ready r c 1 && v.joined && !v.expired && !v.ack then s.setCell r c { v with expired := true } else s

/-- The output channel is empty (steps 3 and 8). -/
def State.channelEmpty (s : State) (r c : Nat) : Bool := !(s.cell r c).oreq && !(s.cell r c).busy && !s.ackIn r c

def bdCapture (r c : Nat) (viol : Bool) (s : State) : State :=
  let v := s.cell r c
  if s.ready r c 1 && v.expired && !v.ack then
    if ctlTwoSlot (s.liveCtl r c) then
      if v.slot then s
      else ((s.setCell r c { v with ffA := s.captured viol (2 * c) (s.dA r c), slot := true, ack := true }).used viol).settle
    else if s.channelEmpty r c then
      let s1 := (c :: s.followers r c).foldl (s.loadFF viol r) s
      ((s1.setCell r c { (s1.cell r c) with oreq := true, ack := true, busy := true }).used viol).settle
    else s
  else s

def bdReqsFall (r c : Nat) (s : State) : State :=
  let v := s.cell r c
  if s.ready r c 1 && v.ack && s.enabledReqs r c false then
    (s.setCell r c { v with ack := false, joined := false, expired := false }).settle
  else s

def bdAckRise (r c : Nat) (s : State) : State :=
  let v := s.cell r c
  if s.ready r c 1 && v.oreq && s.ackIn r c then (s.setCell r c { v with oreq := false }).settle else s

def bdAckFall (r c : Nat) (s : State) : State :=
  let v := s.cell r c
  if s.ready r c 1 && !v.oreq && v.busy && !s.ackIn r c then s.setCell r c { v with busy := false } else s

/-- R64. -/
def twoSlot (r c : Nat) (s : State) : State :=
  let v := s.cell r c
  if s.ready r c 1 && ctlTwoSlot (s.liveCtl r c) && v.slot && s.channelEmpty r c then
    (s.setCell r c { v with ffB := v.ffA, slot := false, oreq := true, busy := true }).settle
  else s

/-! Dual rail (R67 to R69, R77). `c` is the even cell of the pair. -/

/-- Input pair `k` of a pair: true and false rail. -/
def State.pairIn (s : State) (r c k : Nat) : Bool × Bool :=
  (s.wire (.data r (s.xsel r c (2 * k))), s.wire (.data r (s.xsel r c (2 * k + 1))))

/-- The dual-rail carry into a pair (R77): constant for START0 and START1, the code of the pair below for CHAIN. Whatever the pair below
is, its code is the one its input pairs 0 and 1 give (log entry 68). -/
def State.drCarry : Nat → State → Nat → Nat → Bool × Bool
  | 0, _, _, _ => (false, false)
  | n + 1, s, r, c =>
    match ctlCarry (s.liveCtl r c) with
    | 2 => (false, true)
    | 3 => (true, false)
    | _ =>
      let below := if c = 0 then (r - 1, 14) else (r, c - 2)
      if c = 0 ∧ (reedY r = 0 ∨ s.crossesBolt r (r - 1) = true ∨ s.crossesRegion r (r - 1) = true) then (false, false)
      else
        let a := s.pairIn below.1 below.2 0
        let b := s.pairIn below.1 below.2 1
        let ci := s.drCarry n below.1 below.2
        let differ := (a.1 && b.2) || (a.2 && b.1)
        ((a.1 && b.1) || (differ && ci.1), (a.2 && b.2) || (differ && ci.2))

/-- What the two rails of a pair would capture: the LUT outputs, or the sum rails of an adder bit, whose SUM0 uses P0 = O5L (R75). -/
def State.drRails (s : State) (r c : Nat) : Bool × Bool :=
  if ctlCarry (s.liveCtl r c) = 0 then (s.wire (.lut r c 2), s.wire (.lut r (c + 1) 2))
  else
    let p := (s.wire (.lut r c 0), s.wire (.lut r (c + 1) 0))
    let k := s.drCarry wireDepth r c
    ((p.1 && k.2) || (p.2 && k.1), (p.1 && k.1) || (p.2 && k.2))

def validCode (p : Bool × Bool) : Bool := p.1 != p.2
def spacerCode (p : Bool × Bool) : Bool := !p.1 && !p.2

/-- Every enabled input pair passes the test. -/
def State.drPairs (s : State) (r c : Nat) (test : Bool × Bool → Bool) : Bool :=
  (List.range 3).all (fun k => !ctlReqEn (s.liveCtl r c) k || test (s.pairIn r c k))

/-- Every enabled input pair, and the carry-in of an adder bit, passes the test; a constant carry-in is never spacer. -/
def State.drInputs (s : State) (r c : Nat) (test : Bool × Bool → Bool) (spacer : Bool) : Bool :=
  s.drPairs r c test &&
  (match ctlCarry (s.liveCtl r c) with
   | 0 => true
   | 1 => test (s.drCarry wireDepth r c)
   | _ => spacer || test (s.drCarry wireDepth r c))

def State.drReadyPair (s : State) (r c : Nat) : Bool := s.ready r c 3 && decide (c % 2 = 0)

/-- Step 2: the rail whose LUT outputs 1 sets, or after a violation may not (R61); REQ_OUT is the OR of the rails. FF_B of a DR cell
keeps its value (log entry 68). -/
def drSet (r c : Nat) (viol : Bool) (s : State) : State :=
  let v := s.cell r c
  let w := s.cell r (c + 1)
  let p := s.drRails r c
  let set := s.captured viol (2 * c) true
  if s.drReadyPair r c && !v.busy && !v.ffA && !w.ffA && !s.ackIn r c && (p.1 != p.2) then
    (((s.setCell r c { v with ffA := p.1 && set, oreq := set, busy := set }).setCell r (c + 1)
      { w with ffA := p.2 && set }).used viol).settle
  else s

def drAckRise (r c : Nat) (s : State) : State :=
  let v := s.cell r c
  if s.drReadyPair r c && !v.ack && (v.ffA || (s.cell r (c + 1)).ffA) && s.drInputs r c validCode false then
    (s.setCell r c { v with ack := true }).settle
  else s

def drClear (r c : Nat) (s : State) : State :=
  let v := s.cell r c
  if s.drReadyPair r c && v.ack && v.oreq && s.drInputs r c spacerCode true && s.ackIn r c then
    ((s.setCell r c { v with ffA := false, oreq := false }).setCell r (c + 1) { (s.cell r (c + 1)) with ffA := false }).settle
  else s

def drAckFall (r c : Nat) (s : State) : State :=
  let v := s.cell r c
  if s.drReadyPair r c && v.ack && !v.ffA && !(s.cell r (c + 1)).ffA && s.drPairs r c spacerCode then
    (s.setCell r c { v with ack := false }).settle
  else s

def drDone (r c : Nat) (s : State) : State :=
  let v := s.cell r c
  if s.drReadyPair r c && v.busy && !v.oreq && !v.ack && !s.ackIn r c then s.setCell r c { v with busy := false } else s

/-- An active edge of the clock of a cell can occur (Table 3-5, R70 to R72): of a PACE net or pace tap that runs, or of a wire that has
been at its inactive level and is at the active one. A pulse of a wire too short to see is a violation (R72). -/
def State.clockRuns (s : State) (r c : Nat) (viol : Bool) : Bool :=
  let v := s.liveCtl r c
  let w := s.xsel r c 11
  if ctlClkSrc v = 1 then s.paceEdge (s.boltOf r) (ctlPaceNet v) (ctlFalling v)
  else if 2 ≤ w ∧ w < 6 then s.paceEdge (s.boltOf r) (s.tapNet r w) (ctlFalling v)
  else (s.clockWire r c).isSome && (viol || ((s.cell r c).armed && (s.wire (.data r w) != ctlFalling v)))

/-- The parity of the four shadow bits (R59). -/
def parity4 (a b c d : Bool) : Bool := (a != b) != (c != d)

/-- The edge coincides with the shadow load of R58 in the cell's bolt. -/
def State.atShadowLoad (s : State) (b : Nat) : Bool :=
  decide ((s.bolt b).stage = .beatUp) && s.committed b && ((s.bolt b).t0.map (fun t => t + 50) == some s.now)

/-- Each shadow latch takes the flip-flop value from before the edge, which it holds, or from after it (R73). -/
def shadowRace (s0 : State) (v : Cell) : Cell :=
  let a := if s0.openBit 32 then v.ffA else v.shA
  let b := if s0.openBit 33 then v.ffB else v.shB
  { v with shA := a, shB := b, shPar := parity4 a b v.shO v.shS }

/-- R70: an active edge of the selected clock; the enable is sampled by the same edge. `race` says that the edge coincides with the
shadow load (R73). -/
def clockedLoad (r c : Nat) (viol race : Bool) (s : State) : State :=
  let st := (s.bolt (s.boltOf r)).stage
  if decide (ctlMode (s.liveCtl r c) = 5) && !s.fenced (reedTile r) && decide (st ≠ .notReleased ∧ st ≠ .halt ∧ st ≠ .rollback ∧ st ≠ .recovery) &&
      s.clockRuns r c viol then
    let s1 := if !ctlReqEn (s.liveCtl r c) 0 || s.reqK r c 0 then s.loadFF viol r s c else s
    let s2 := if (s.clockWire r c).isSome && (s1.wire (.data r (s.xsel r c 11)) != ctlFalling (s.liveCtl r c)) then s1.setCell r c { (s1.cell r c) with armed := false } else s1
    let hit := race && s.atShadowLoad (s.boltOf r)
    let s3 := if hit then s2.setCell r c (shadowRace s (s2.cell r c)) else s2
    (s3.used (viol || hit)).settle
  else s

/-! Release, checkpoint and restore of the cells (R57 to R60). -/

/-- A released cell: the INIT values, and its first checkpoint (R57). -/
def initCell (ctl : Nat) : Cell :=
  let a := ctl.testBit 8
  let b := ctl.testBit 9
  { ffA := a, ffB := b, shA := a, shB := b, shPar := parity4 a b false false }

/-- Release of the cells of every listed reed that passes the test. -/
def State.releaseCells (s : State) (which : Nat → Bool) : State :=
  let rs := s.reeds.filter which
  let kept := s.cells.filter (fun e => !which (e.1 / 16))
  let fresh := rs.flatMap (fun r => (List.range 16).map (fun c => (16 * r + c, initCell (s.ctl r c))))
  { s with cells := fresh.foldl (fun m e => SMap.set {} m e.1 e.2) kept,
           joins := s.joins.filter (fun e => !which (e.1 / 4)) }

/-- Beat-up: the shadows load (R58, R59). -/
def commitCell (v : Cell) : Cell :=
  { v with shA := v.ffA, shB := v.ffB, shO := v.oreq, shS := v.slot, shPar := parity4 v.ffA v.ffB v.oreq v.slot }

/-- Restore: flip-flops, OREQ and SLOT load from their shadows, and ACK_OUT is 0 (R58). -/
def restoreCell (v : Cell) : Cell :=
  { v with ffA := v.shA, ffB := v.shB, oreq := v.shO, slot := v.shS, ack := false, joined := false, expired := false,
           busy := v.shO }

def shadowBad (v : Cell) : Bool := v.shPar != parity4 v.shA v.shB v.shO v.shS

/-- A map over the listed cells that pass the test, in canonical form again. -/
def State.mapCells (s : State) (which : Nat → Bool) (f : Cell → Cell) : State :=
  { s with cells := s.cells.foldl (fun m e => if which (e.1 / 16) then SMap.set {} m e.1 (f e.2) else m) s.cells }

def State.commitCells (s : State) (b : Nat) : State := s.mapCells (fun r => s.boltOf r == b) commitCell

def State.restoreCells (s : State) (which : Nat → Bool) : State := (s.mapCells which restoreCell).settle

def State.cellShadowsBad (s : State) (which : Nat → Bool) : Bool := s.cells.any (fun e => which (e.1 / 16) && shadowBad e.2)

/-! Upsets and leaks. -/

/-- R99: bits of a configuration word change at run time. -/
def corrupt (f k : Nat) (mask : Dword) (s : State) : State :=
  let w := s.cfgWord f k
  (s.setCfgWord f k { w with flip := w.flip ^^^ mask.setWidth 72 }).settle

/-- The bolts of the hard blocks with an input slot at the reed that takes the tap (R185, R244, R253). -/
def State.slotBolts (s : State) (r t : Nat) : List Nat :=
  let takes (n : Nat) (at_ : Nat → Nat × Nat) : Bool := (List.range n).any (fun w => at_ w == (r, 65 + t))
  let creels := (List.range 8).flatMap (fun k =>
    let n := reedP r * 2048 + k * 256 + reedY r
    (if takes 84 (s.creelSlot n .a) then [s.portBolt n .a] else []) ++ (if takes 84 (s.creelSlot n .b) then [s.portBolt n .b] else []))
  let twills := (List.range 4).flatMap (fun j =>
    let n := reedP r * 1024 + j * 256 + reedY r
    if takes 77 (s.twillSlot n) then [s.twOwner n] else [])
  let ins (n w : Nat) : Bool := if s.svMode n = brBusport then decide (w = 1 ∨ (66 ≤ w ∧ w ≠ 67 ∧ w ≠ 133 ∧ w < 198) ∨ w = 199)
    else if s.svOut n then decide (w ≠ 1) else decide (w = 1)
  let bridges := (List.range 320).filterMap (fun n =>
    if decide (s.svMode n ≠ brOff) && attaches (s.bridgeReed n) r &&
        (List.range (if s.svMode n = brBusport then 264 else 66)).any (fun w => ins n w && (s.bridgeSlot n w == (r, 65 + t)))
    then some (s.svBolt n) else none)
  (creels ++ twills ++ bridges).dedup

/-- The steps a transition of a handshake wire can start (Tables 3-3 and 3-4). -/
def strayOps : List (Nat → Nat → State → State) :=
  [bdJoin, bdReqsFall, bdAckRise, bdAckFall, fun r c => drSet r c false, drAckRise, drClear, drAckFall, drDone]

/-- What the controllers make of a passing level: each step it allows may occur or not. -/
def State.straySteps (s : State) : State :=
  let cells := s.reeds.flatMap (fun r => (List.range 16).map (fun c => (r, c)))
  let ops := cells.flatMap (fun e => strayOps.map (fun op => op e.1 e.2))
  (ops.zipIdx).foldl (fun u e => if s.openBit (1 + e.2) then e.1 u else u) s

/-- The state within the extra transition of the select at byte `off` of reed `r`: its multiplexer is at the other level than the
source it names (R100). -/
def State.strayAt (s : State) (r off : Nat) : State :=
  let v := s.frameByte (reedFrame r) off
  if 0x1BA ≤ off then { s with glitch := some (64 * r + (off - 0x1BA), !s.wire (.lease r v)) }
  else
    let control := decide (off < 0x190 ∧ 6 ≤ (off - 0x0D0) % 12 ∧ (off - 0x0D0) % 12 < 11) || decide (0x190 ≤ off ∧ off < 0x1B0)
    let level := if control then s.wire (.ctrl r v) else s.wire (.data r v)
    let w := s.cfgWord (reedFrame r) (off / 8)
    let d := w.data.toNat - v * 2 ^ (8 * (off % 8)) + flag (!level) (8 * (off % 8))
    s.setCfgWord (reedFrame r) (off / 8) { w with data := BitVec.ofNat 64 d }

/-- A select of a reed has changed, and its multiplexer may make one extra transition (R100): joins, acknowledges and controllers may
follow it. -/
def selectMoved (f off : Nat) (s : State) : State :=
  if bits f 21 19 = 0 ∧ 0x0D0 ≤ off ∧ off < 0x1FA ∧ ¬(0x1B4 ≤ off ∧ off < 0x1BA) then
    let r := reedNo (bits f 23 22) (bits f 18 11) (bits f 10 3)
    let s1 := if s.openBit 0 then
        let g := (s.strayAt r off).settle.straySteps
        ({ s with cells := g.cells, joins := g.joins, bridges := g.bridges, fbps := g.fbps, creels := g.creels, twills := g.twills } : State).settle
      else s
    { s1 with free := s1.free + 1 + s.reeds.length * 16 * strayOps.length }
  else s

/-- Does any select of the reed take the tap (R148). -/
def State.tapSelected (s : State) (r t : Nat) : Bool :=
  (List.range 16).any (fun c => (List.range 12).any (fun j => s.xsel r c j == 40 + t)) ||
  (List.range 4).any (fun j => (List.range 8).any (fun m => s.leafSel r j m == 40 + t)) ||
  (List.range 4).any (fun l => s.gsel r l == 40 + t) || (List.range 64).any (fun i => s.leaseSel r i == 65 + t) ||
  (List.range 960).any (fun n => s.portReed n == r && (s.frameByte (portFrame n) (8 * (n % 48) + 2) == 65 + t ||
    s.frameByte (portFrame n) (8 * (n % 48) + 3) == 65 + t))

/-- The bolts whose logic takes a fenced tap of the reed, or its fenced carry input: the driving reed lies in another bolt (R148, R185). -/
def State.leakBolts (s : State) (r : Nat) (tap : Option Nat) : List Nat :=
  match tap with
  | some t => (match tapDriver r t with
      | some (d, _, _) =>
        if s.crossesRegion r d || (s.tapSource r t).isSome then []
        else ((if s.tapSelected r t then [s.boltOf r] else []) ++ s.slotBolts r t).dedup.filter (fun b => decide (b ≠ s.boltOf d))
      | none => [])
  | none => if decide (reedY r ≠ 0) && s.crossesBolt r (r - 1) && !s.crossesRegion r (r - 1) && decide (ctlCarry (s.liveCtl r 0) = 1)
      then [s.boltOf r] else []

/-- R148, R149: the leak is counted, BOLT_LEAKED is set, and the first leak of the bolt in a pick raises its event. -/
def State.leaked (s : State) (handshake : Bool) (b : Nat) : State :=
  let v := s.bolt b
  let s1 := (s.setBit rBoltLeaked b true).count (rRollbacks b) 15 8 1
  let s2 := s1.setBolt b { v with leakPick := true, leakWire := v.leakWire || handshake }
  if v.leakPick then s2 else s2.raiseCommit b 0x4 0

def domainLeak (r : Nat) (tap : Option Nat) (handshake : Bool) (s : State) : State :=
  (s.leakBolts r tap).foldl (fun s b => s.leaked handshake b) s

end Sys2Proof.Machine
end

