-- ==== Sys2Proof/Machine/Events.lean ====
section
/-!
DEFINITION. The event controller: which sources are asserted, the record ring, and the readable change log (chapter 17).
-/

namespace Sys2Proof.Machine

/-- The pages that drive an event number (Table 17-1). -/
def eventPages (n : Nat) : List Page :=
  if n < 2 then [⟨.device, 0⟩]
  else if n < 5 then [⟨.power, 0⟩]
  else if n < 6 then [⟨.reset, 0⟩]
  else if n < 8 then [⟨.time, 0⟩]
  else if n < 16 then [⟨.pick, 0⟩]
  else if n < 32 then [⟨.commit, 0⟩]
  else if n < 36 then [⟨.config, 0⟩]
  else if n < 40 then [⟨.scrub, 0⟩]
  else if n < 44 then [⟨.panel, n - 40⟩]
  else if n < 48 then []
  else if n < 52 then [⟨.test, 0⟩]
  else if n < 53 then [⟨.log, 0⟩]
  else if n < 54 then [⟨.event, 0⟩]
  else if n < 58 then [⟨.mgmt, 0⟩]
  else if n < 63 then []
  else if n < 64 then [⟨.sema, 0⟩]
  else if n < 128 then [⟨.shuttle, n - 64⟩]
  else if n < 160 then [⟨.pattern, 0⟩]
  else if n < 180 then ⟨.iobank, n - 160⟩ :: (List.range 8).map (fun j => ⟨.pinmap, j⟩)
  else if n < 190 then [⟨.hostper, 0⟩]
  else if n < 192 then []
  else if n < 224 then [⟨.pace, n - 192⟩]
  else if n < 236 then [⟨.serdes, n - 224⟩]
  else if n < 248 then [⟨.pcs, n - 236⟩]
  else if n < 256 then [⟨.pcie, 0⟩]
  else if n < 320 then [⟨.dma, (n - 256) / 4⟩]
  else if n < 360 then [⟨.selvedge, n - 320⟩]
  else if n < 368 then [⟨.fbp, n - 360⟩]
  else if n < 384 then (List.range 16).map (fun j => ⟨.twill, 16 * (n - 368) + j⟩)
  else if n < 448 then (List.range 128).map (fun j => ⟨.creel, 128 * (n - 384) + j⟩)
  else []

/-- Sticky and enabled bits of a page. -/
def State.pageAsserts (s : State) (p : Page) : Nat := (s.reg (p.base + 0x014)).toNat &&& (s.reg (p.base + 0x018)).toNat

/-- Source `n` is asserted (R470, R480). -/
def State.asserted (s : State) (n : Nat) : Bool :=
  if n < 448 then
    (eventPages n).any (fun p => decide (s.pageAsserts p ≠ 0) &&
      (List.range 32).any (fun k => (s.pageAsserts p).testBit k && decide (p.eventOfBit k = n)))
  else
    let j := n - 448
    s.bit (regAddr .event 0 (0x058 + 4 * (j / 32))) (j % 32) && s.bit (regAddr .event 0 (0x060 + 4 * (j / 32))) (j % 32)

def State.route (s : State) (n : Nat) : Word := s.reg (regAddr .eventMap 0 (0x100 + 4 * n))

/-- Is a source routed by `k` of its route asserted (core lines, R472). -/
def State.lineHigh (s : State) (k : Nat) : Bool := (List.range 512).any (fun n => bitOf (s.route n) k && s.asserted n)

/-- Event output `j` (R472). -/
def State.eventOut (s : State) (j : Nat) : Bool :=
  (List.range 512).any (fun n => bitOf (s.route n) 7 && decide (fieldOf (s.route n) 5 0 = j) && s.asserted n)

/-! The record ring (R476 to R479). -/

def ringSize : Nat := 4096

/-- The words of a record (Table 17-4). -/
def EvRec.word (e : EvRec) (k : Nat) : Word :=
  match k with
  | 0 => e.seq
  | 1 => loHalf e.time
  | 2 => BitVec.ofNat 32 (place e.source 23 + place e.bit 18 + flag e.lost 17 + flag true 16 + e.time / 2 ^ 32 % 2 ^ 16)
  | _ => e.detail

/-- The oldest waiting record enters the ring, or is lost (R478, R490). -/
def recordEnters (s : State) : State :=
  match s.ev.wait with
  | [] => s
  | e :: rest =>
    if ringSize ≤ s.ev.ring.length then
      let s1 := { s with ev := { s.ev with wait := rest, lostMark := true } }
      let c := regAddr .event 0 0x044
      (s1.setReg c (BitVec.ofNat 32 (satAdd (2 ^ 32 - 1) (s1.reg c).toNat 1))).pulse .event 0 1
    else
      let ring := s.ev.ring ++ [{ e with lost := s.ev.lostMark }]
      let s1 := { s with ev := { s.ev with wait := rest, ring := ring, lostMark := false } }
      if ring.length = 2048 then s1.pulse .event 0 0 else s1

/-- A read of REC_POP_W0 (R479): the record leaves the ring and its other words are captured for the reader. -/
def popRecord (m : Nat) (s : State) : State × Word :=
  let at_ (k : Nat) : Nat := regAddr .event 0 (0x100 + 4 * k)
  match s.ev.ring with
  | [] => (((s.setCap m (at_ 1) (some 0)).setCap m (at_ 2) (some 0)).setCap m (at_ 3) (some 0), 0)
  | e :: rest =>
    let s1 := { s with ev := { s.ev with ring := rest } }
    (((s1.setCap m (at_ 1) (some (e.word 1))).setCap m (at_ 2) (some (e.word 2))).setCap m (at_ 3) (some (e.word 3)), e.word 0)

/-- EV_CMD.CLR_RING: every record of the ring, and every one on its way, goes; no loss is recorded (R479). -/
def clearRing (s : State) : State := { s with ev := { s.ev with ring := [], wait := [] } }

/-- USR_RAISE: each 1 is one occurrence of a user event by its writer (R480). -/
def userRaise (m half v : Nat) (s : State) : State :=
  (List.range 32).foldl (fun s k =>
    if v.testBit k then
      let s1 := s.setBit (regAddr .event 0 (0x058 + 4 * half)) k true
      if s1.bit (regAddr .event 0 (0x060 + 4 * half)) k then s1.occur (448 + 32 * half + k) k (BitVec.ofNat 32 m) else s1
    else s) s

def State.eventView (s : State) (off : Nat) : Option Word :=
  let bits32 (f : Nat → Bool) : Option Word := some (BitVec.ofNat 32 ((List.range 32).foldl (fun a k => a + flag (f k) k) 0))
  if off = 0x040 then some (BitVec.ofNat 32 s.ev.ring.length)
  else if off = 0x068 then bits32 (fun j => s.eventOut j)
  else if off = 0x06C then bits32 (fun j => s.eventOut (32 + j))
  else if off = 0x070 then some (BitVec.ofNat 32 (flag (s.lineHigh 29) 1 + flag (s.lineHigh 30) 0))
  else if 0x080 ≤ off ∧ off < 0x0C0 then bits32 (fun k => s.asserted (32 * ((off - 0x080) / 4) + k))
  else none

/-! The change log (R484 to R489). -/

/-- The number of the oldest entry held. -/
def ChangeLog.oldest (l : ChangeLog) : Nat := (l.head + 2 ^ 32 - l.entries.length) % 2 ^ 32

/-- How many stored bits of an entry have changed: one is corrected, and more are uncorrectable (R489). -/
def LogEntry.errors (e : LogEntry) : Nat := (List.range 128).countP (fun k => e.flip.getLsbD k)

/-- Words of an entry as it was written (Table 17-6). -/
def LogEntry.word (e : LogEntry) (k : Nat) : Word :=
  match k with
  | 0 => loHalf e.time
  | 1 => BitVec.ofNat 32 (place (e.time / 2 ^ 32 % 2 ^ 16) 16 + place e.origin 10 + place e.kind 6 + flag e.late 5 +
      flag e.afterLoss 4 + flag e.reserve 3)
  | 2 => BitVec.ofNat 32 e.addr
  | _ => e.value

/-- The entry an identity's LOG_SEL names, if it is held (R489). -/
def State.selectedEntry (s : State) (m : Nat) : Option LogEntry :=
  let sel := ((s.cap m (regAddr .log 0 0x060)).getD 0).toNat
  s.log.entries[(sel + 2 ^ 32 - s.log.oldest) % 2 ^ 32]?

/-- LOG_CMD = CLEAR (R488): every entry is freed. -/
def logClearOp (s : State) : State := ({ s with log := { s.log with entries := [] } }).pulse .log 0 4

/-- How many entries FREE releases, if LOG_FREE_TO lies from LOG_OLDEST to LOG_HEAD. -/
def State.freeable (s : State) : Option Nat :=
  let k := ((s.reg (regAddr .log 0 0x05C)).toNat + 2 ^ 32 - s.log.oldest) % 2 ^ 32
  if k ≤ s.log.entries.length then some k else none

def logFreeOp (s : State) : State :=
  ({ s with log := { s.log with entries := s.log.entries.drop (s.freeable.getD 0) } }).pulse .log 0 4

/-- A word of an entry as it is read: raw if the entry is uncorrectable. -/
def LogEntry.shown (e : LogEntry) (k : Nat) : Word :=
  if 2 ≤ e.errors then e.word k ^^^ e.flip.extractLsb' (32 * k) 32 else e.word k

/-- The LOG page as an identity reads it. -/
def State.logView (s : State) (m off : Nat) : Option Word :=
  let n (k : Nat) : Option Word := some (BitVec.ofNat 32 k)
  if off = 0x044 then n s.log.head
  else if off = 0x048 then n s.log.oldest
  else if off = 0x04C then n s.log.entries.length
  else if off = 0x050 then n s.log.lost
  else if off = 0x054 then n s.log.refused
  else if off = 0x060 then some ((s.cap m (regAddr .log 0 0x060)).getD 0)
  else if 0x064 ≤ off ∧ off < 0x074 then some (((s.selectedEntry m).map (fun e => e.shown ((off - 0x064) / 4))).getD 0)
  else if off = 0x074 then
    (match s.selectedEntry m with
     | some e => n (flag (decide (2 ≤ e.errors)) 2 + flag (decide (e.errors = 1)) 1)
     | none => n 1)
  else none

end Sys2Proof.Machine
end

