-- ==== Sys2Proof/Machine/Pins.lean ====
section
/-!
DEFINITION. Banks, pads, the pin crossbar and pattern units (R134 to R136, R348 to R368, R372 to R376).
-/

namespace Sys2Proof.Machine

/-! Registers. -/

def pinBase (p : Nat) : Nat := regAddr .pinmap (p / 128) (0x100 + 8 * (p % 128))
def rPinMap (p : Nat) : Nat := pinBase p
def rPinPad (p : Nat) : Nat := pinBase p + 4
def bankOfPin (p : Nat) : Nat := p / 48
def rBankCfg (b : Nat) : Nat := regAddr .iobank b 0x040
def rBankBridge (b : Nat) : Nat := regAddr .iobank b 0x044
def rBankStat (b : Nat) : Nat := regAddr .iobank b 0x050
def rBankVmin (b : Nat) : Nat := regAddr .iobank b 0x054

def State.pin (s : State) (p : Nat) : Pin := SMap.get {} s.pins p
def State.setPin (s : State) (p : Nat) (v : Pin) : State := { s with pins := SMap.set {} s.pins p v }

def State.inSelReg (s : State) (p : Nat) : Nat := s.fld (rPinMap p) 27 16
def State.outSelReg (s : State) (p : Nat) : Nat := s.fld (rPinMap p) 11 0
def State.pickedReg (s : State) (p : Nat) : Bool := s.bit (rPinMap p) 31
def State.bankDisabled (s : State) (b : Nat) : Bool := s.bit (rBankStat b) 31

/-- The pins PIN_MAP lists a nonzero value for. -/
def State.mappedPins (s : State) : List Nat := (List.range 960).filter (fun p => decide (s.reg (rPinMap p) ≠ 0))

/-- A pin event (R373): bit 8i + j of the PINMAP page for pins of bank F + i. -/
def State.pinEvent (s : State) (p j : Nat) : State :=
  let k := p / 128
  s.pulse .pinmap k (8 * (p / 48 - 128 * k / 48) + j)

/-! Crossbar codes (Table 13-3, Table 13-4). -/

def isPort (code : Nat) : Bool := decide (1 ≤ code ∧ code ≤ 0x3C0)
def isBankBit (code : Nat) : Bool := decide (0x400 ≤ code ∧ code ≤ 0x5FF)

def outCodeDefined (c : Nat) : Bool :=
  decide (c ≤ 0x3C0) || decide (0x400 ≤ c ∧ c ≤ 0x65F) ||
    (decide (0x680 ≤ c) && (let u := (c - 0x680) / 16
                            let k := (c - 0x680) % 16
                            if u < 4 then decide (k < 2) else if u < 8 then decide (k < 7 ∧ k ≠ 2) else decide (u < 10 ∧ k = 0)))

def inCodeDefined (c : Nat) : Bool :=
  decide (c ≤ 0x3C0) || decide (0x400 ≤ c ∧ c ≤ 0x61F) ||
    (decide (0x680 ≤ c) && (let u := (c - 0x680) / 16
                            let k := (c - 0x680) % 16
                            if u < 4 then decide (k < 2) else if u < 8 then decide (k = 2) else decide (u < 10 ∧ k = 1)))

/-- PIN_MAP holds only defined codes, and PICKED has a fabric port to act on (R354, R358). -/
def pinMapDefined (v : Word) : Bool :=
  outCodeDefined (fieldOf v 11 0) && inCodeDefined (fieldOf v 27 16) &&
    (!bitOf v 31 || isPort (fieldOf v 11 0) || isPort (fieldOf v 27 16))

/-- A bank-register code names a bridge of the bank with this direction, not OFF, and a bit that exists (R355). -/
def State.bankBitOk (s : State) (bank code : Nat) (out : Bool) : Bool :=
  !isBankBit code ||
    (let n := 8 * bank + (code - 0x400) / 64
     let bit := (code - 0x400) % 64
     let m := s.svMode n
     decide (m ≠ brOff) && (s.svOut n == out) &&
       (if m = brCount ∨ m = brMerge then decide (bit = 0) else decide (bit < s.svWidth n)))

/-! Standards (Table 13-1, Table 13-2). -/

def highRange (bank : Nat) : Bool := bank % 5 == 0

def vccoDefined (bank code : Nat) : Bool :=
  if highRange bank then decide (code ∈ [0, 1, 3, 5, 6]) else decide (code ∈ [0, 1, 2, 3, 4])

def isDifferential (std : Nat) : Bool := decide (0xB ≤ std ∧ std ≤ 0xD)

/-- STD, VREF, DRIVE and TERM fit the bank (R351). -/
def stdOk (bank vcco vref std drive : Nat) (term : Bool) : Bool :=
  let row (vccos : List Nat) (hi lo : Bool) (needVref topDrive : Nat) (termOk : Bool) : Bool :=
    decide (vcco ∈ vccos) && (if highRange bank then hi else lo) && decide (vref = needVref ∧ drive ≤ topDrive) && (termOk || !term)
  match std with
  | 0x0 => row [0] true true 0 3 false
  | 0x1 => row [1] true true 0 3 false
  | 0x2 => row [3] true true 0 3 false
  | 0x3 => row [5] true false 0 3 false
  | 0x4 => row [6] true false 0 3 false
  | 0x5 => row [1] false true 1 1 true
  | 0x6 => row [2] false true 1 1 true
  | 0x7 => row [3] false true 1 1 true
  | 0x8 => row [0] false true 1 0 true
  | 0x9 => row [1] false true 1 0 true
  | 0xA => row [3] false true 2 0 true
  | 0xB => row [5] true false 0 0 true
  | 0xC => row [0] false true 0 0 true
  | 0xD => row [3, 4] false true 0 0 true
  | _ => false

def isMapped (map : Word) : Bool := decide (fieldOf map 11 0 ≠ 0 ∨ fieldOf map 27 16 ≠ 0)

def padOk (bank : Nat) (cfg pad : Word) : Bool :=
  stdOk bank (fieldOf cfg 2 0) (fieldOf cfg 4 3) (fieldOf pad 27 24) (fieldOf pad 21 20) (bitOf pad 18)

/-- PIN_MAP and PIN_PAD of a pin keep R351, R352 and R355 with these values. -/
def State.pinRulesOk (s : State) (p : Nat) (map pad : Word) : Bool :=
  let b := bankOfPin p
  let partner := p ^^^ 1
  (!isMapped map || padOk b (s.reg (rBankCfg b)) pad) &&
  (if p % 2 = 0 then !(isDifferential (fieldOf pad 27 24) && isMapped (s.reg (rPinMap partner)))
   else !(isMapped map && isDifferential (s.fld (rPinPad partner) 27 24))) &&
  s.bankBitOk b (fieldOf map 11 0) true && s.bankBitOk b (fieldOf map 27 16) false

def State.bankCfgOk (s : State) (b : Nat) (cfg : Word) : Bool :=
  (List.range 48).all (fun k => !isMapped (s.reg (rPinMap (48 * b + k))) || padOk b cfg (s.reg (rPinPad (48 * b + k))))

/-! Function inputs (R356). -/

def bankPins (b : Nat) : List Nat := (List.range 48).map (fun k => 48 * b + k)

/-- The pins that name an input code; a bank register bit is one of the pin's own bank (Table 13-3). -/
def State.namers (s : State) (bank code : Nat) : List Nat :=
  (if isBankBit code then bankPins bank else List.range 960).filter (fun p => s.inSelReg p == code)

/-- The default of a function input (Table 13-4, R356). -/
def State.inDefault (s : State) (bank code : Nat) : Bool :=
  if isPort code then s.bit (rPinPad (code - 1)) 28
  else if isBankBit code then s.bit (rBankBridge bank) (2 * ((code - 0x400) / 64) + 1)
  else if code < 0x680 then false
  else !(decide (4 ≤ (code - 0x680) / 16) && decide ((code - 0x680) / 16 < 8))

/-- The pads follow the boundary register (R508). -/
def State.boundaryDrives (s : State) : Bool := decide (s.jtag.instr = .extest ∨ s.jtag.instr = .clamp)

/-- The level at a function input; `bank` is the bank of a bank register's input. -/
def State.inputLevel (s : State) (bank code : Nat) : Bool :=
  match s.namers bank code with
  | [p] =>
    let v := s.pin p
    if s.bankDisabled (bankOfPin p) || v.chg.isSome || s.boundaryDrives then s.inDefault bank code
    else if isPort code || decide (0x680 ≤ code) then v.filt else v.level
  | _ => s.inDefault bank code

/-! Fabric I/O ports (R336). -/

/-- The record of the port is used: a slot of it is set. -/
def State.portUsed (s : State) (n : Nat) : Bool := decide (s.frameBytes (portFrame n) (8 * (n % 48)) 8 ≠ 0)

/-- The bolt that holds the port's attach reed (R336). -/
def State.pinBolt (s : State) (n : Nat) : Nat := s.boltOf (s.portReed n)

/-- OUT and OE of a fabric I/O port. -/
def State.portDrive (s : State) (n : Nat) : Bool × Bool :=
  let r := s.portReed n
  (s.wire (.lease r (s.frameByte (portFrame n) (8 * (n % 48) + 2))), s.wire (.lease r (s.frameByte (portFrame n) (8 * (n % 48) + 3))))

/-- A direct input port follows its pin; a picked one keeps what it presents (R135, R136). -/
def State.refreshPort (s : State) (n : Nat) : State :=
  if n ∈ s.pickedIn then s else { s with portIn := SMap.set false s.portIn n (s.inputLevel 0 (n + 1)) }

def State.refreshCode (s : State) (code : Nat) : State := if isPort code then s.refreshPort (code - 1) else s

/-- Every direct input that a pin of the list feeds. -/
def State.refreshPins (s : State) (ps : List Nat) : State := ps.foldl (fun s p => s.refreshCode (s.inSelReg p)) s

/-! Pads. -/

/-- What a pad shows. -/
inductive PadState where
  | drive (b : Bool)
  | pull (up : Bool)
  | float
deriving DecidableEq, Repr

/-- A sleep state (R364). -/
def sleepState (code : Nat) (kept : Bool) : PadState :=
  match code with
  | 0 => .drive false
  | 1 => .drive true
  | 3 => .pull true
  | 4 => .pull false
  | 5 => .drive kept
  | _ => .float

/-- The pad is in a case of Table 13-8. -/
def State.padAsleep (s : State) (p : Nat) : Bool :=
  let v := s.pin p
  let ports := [v.outSel, v.inSel].filter (fun c => isPort c)
  s.pinsAsleep || s.bit (regAddr .device 0 0x050) 11 || v.chg.isSome || s.held.contains (bankOfPin p) ||
    ports.any (fun c => decide ((s.bolt (s.pinBolt (c - 1))).stage = .halt) || s.fenced (reedTile (s.portReed (c - 1))))

/-- The pull of a pad. -/
def pullOf (code : Nat) (kept : Bool) : PadState :=
  match code with
  | 1 => .pull true
  | 2 => .pull false
  | 3 => .pull kept
  | _ => .float

/-- What output `k` of a hard peripheral drives (Table 13-4, R369, R370); none where it is off. The waveform of a command or a character in
progress, and the level of an idle MOSI, are open (log entry 81). -/
def State.periphLevel (s : State) (u k : Nat) : Option Bool :=
  let v : Periph := SMap.get {} s.periphs u
  let cfg := s.reg (regAddr .hostper 0 (0x100 + 0x20 * u))
  let busy := v.cmd.isSome
  if u < 4 then (if busy && s.openBit k then some false else none)
  else if bitOf cfg 31 = false then none
  else if u < 8 then
    match k with
    | 0 => some (if busy then s.openBit 0 else bitOf cfg 30)
    | 1 => some (s.openBit 1)
    | _ => some (decide (v.csLow ≠ some (k - 3)))
  else some (decide (v.tx = []) || s.openBit 0)

/-- The level of a hard source that drives a pad; none for an output that is off (R354). -/
def State.sourceLevel (s : State) (p code : Nat) : Option Bool :=
  let v := s.pin p
  if code = 0 then none
  else if isPort code then
    (if v.picked then (if v.regOE then some v.regV else none)
     else let d := s.portDrive (code - 1)
          if d.2 then some d.1 else none)
  else if isBankBit code then
    some (((s.bridge (8 * bankOfPin p + (code - 0x400) / 64)).out.getD 0).getLsbD ((code - 0x400) % 64))
  else if code < 0x620 then some (s.netLevel (code - 0x600) s.now)
  else if code < 0x660 then
    some ((List.range 512).any (fun n =>
      let r := s.reg (regAddr .eventMap 0 (0x100 + 4 * n))
      bitOf r 7 && decide (fieldOf r 5 0 = code - 0x620) && s.asserted n))
  else s.periphLevel ((code - 0x680) / 16) ((code - 0x680) % 16)

/-- VSYS or VAUX is out of its range, in warning or from its RAIL_RESET until warp ROM boots: no pad of a bank is driven or pulled (R547;
log entry 80). -/
def State.padsOff (s : State) : Bool :=
  let cause := s.reg (regAddr .reset 0 0x040)
  s.pwr.warn.testBit 5 || s.pwr.warn.testBit 7 ||
    (decide (s.boot.stage = .rom) && decide (fieldOf cause 7 0 = 3 ∧ (fieldOf cause 15 8 = 5 ∨ fieldOf cause 15 8 = 7)))

/-- What a pad shows by its own fields. -/
def State.singlePad (s : State) (p : Nat) : PadState :=
  let v := s.pin p
  let pad := s.reg (rPinPad p)
  if s.padsOff then .float
  else if s.boundaryDrives then .drive (s.jtag.boundary.getD p false)
  else if s.jtag.instr = .highz then .float
  else if s.pinsCfg then .pull (s.bit (regAddr .device 0 0x058) 4)
  else if s.bankDisabled (bankOfPin p) then .float
  else if s.padAsleep p then sleepState (fieldOf pad 31 29) v.kept
  else match s.sourceLevel p v.outSel with
    | some b => .drive b
    | none => pullOf (fieldOf pad 23 22) v.kept

/-- The pin is the odd leg of a differential pair, which uses only the even pin's fields (R352). -/
def State.oddLeg (s : State) (p : Nat) : Bool := decide (p % 2 = 1) && isDifferential (s.fld (rPinPad (p - 1)) 27 24)

/-- What a pad shows; the odd leg of a pair drives the complement, and shows what else the pair shows (R352, R364). -/
def State.padState (s : State) (p : Nat) : PadState :=
  if s.oddLeg p && !s.boundaryDrives then
    match s.singlePad (p - 1) with
    | .drive b => .drive (!b)
    | x => x
  else s.singlePad p

/-- PIN_LEVEL (R357): what the device drives, else what the board last put on the pad; 0 while the bank is disabled, and the
complement of its partner on the odd pin of a differential pair (R352; log entry 20). -/
def State.pinLevelRaw (s : State) (p : Nat) : Bool :=
  match s.padState p with
  | .drive b => b
  | _ => (s.pin p).level

def State.pinLevel (s : State) (p : Nat) : Bool :=
  if s.bankDisabled (bankOfPin p) then false
  else if s.oddLeg p then !s.pinLevelRaw (p - 1)
  else s.pinLevelRaw p

/-! Changeover (R361, R362). -/

/-- The third D0 edge comes no earlier than this after the write. -/
def changeoverMin : Nat := 80

/-- An accepted PIN_MAP write: its changeover starts, and a second pin at one input is a conflict (R356, R361). -/
def pinMapWritten (p : Nat) (before : Word) (s : State) : State :=
  let after := s.reg (rPinMap p)
  let v := s.pin p
  if after = before then s
  else
    let newIn := fieldOf after 27 16
    let oldIn := fieldOf before 27 16
    let picked := bitOf after 31
    let s1 := s.setPin p { v with chg := some s.now, waiting := false, kept := s.pinLevel p, outSel := 0, inSel := v.inSel }
    let n := newIn - 1
    -- until its first sample a port that becomes picked goes on presenting the level it presents now (R135)
    let s2 : State := if picked && isPort newIn && decide (n ∉ s.pickedIn) then
        { s1 with pickedIn := s1.pickedIn ++ [n], portSample := SMap.set false s1.portSample n (SMap.get false s1.portIn n) }
      else s1
    let s3 := ((s2.refreshCode oldIn).refreshCode newIn).settle
    if newIn ≠ oldIn ∧ newIn ≠ 0 ∧ 2 ≤ (s3.namers (bankOfPin p) newIn).length then s3.pinEvent p 0 else s3

/-- An accepted PIN_PAD write takes effect at once (R363): a pad that goes over to KEEP in its sleep state keeps the level it has (R364), and
PORT_DFLT is the default of the fabric port with the pin's number (R356). -/
def pinPadWritten (p : Nat) (before : Word) (s : State) : State :=
  let keeps := s.padAsleep p && decide (s.fld (rPinPad p) 31 29 = 5 ∧ fieldOf before 31 29 ≠ 5)
  let was := (s.setReg (rPinPad p) before).pinLevel p
  let s1 := if keeps then s.setPin p { (s.pin p) with kept := was } else s
  ((s1.refreshPort p).refreshPins [p, p ^^^ 1]).settle

/-- The new source connects and CHANGEOVER_DONE is raised (Table 13-7, step 3). -/
def State.connectPin (s : State) (p : Nat) : State :=
  let v := s.pin p
  let m := s.reg (rPinMap p)
  let s1 := s.setPin p { v with chg := none, waiting := false, outSel := fieldOf m 11 0, inSel := fieldOf m 27 16, picked := bitOf m 31 }
  ((s1.refreshCode (fieldOf m 27 16)).settle).pinEvent p 1

/-- Step 3, or the start of its wait for a commit point when the new OUT_SEL is a picked port (R362). -/
def changeoverEnd (p : Nat) (t : Nat) (s : State) : State :=
  let v := s.pin p
  match v.chg with
  | none => s
  | some t0 =>
    if t < t0 + changeoverMin ∨ v.waiting = true then s
    else if s.pickedReg p && isPort (s.outSelReg p) then s.setPin p { v with waiting := true }
    else s.connectPin p

/-- FILTER has passed a level (R353). -/
def filterPass (p : Nat) (level : Bool) (s : State) : State :=
  ((s.setPin p { (s.pin p) with level := level, filt := level }).refreshPins [p]).settle

/-- The receiver of a pad shows a level that no filter has passed yet; FILTER = 0 passes it at once (R353, R357). -/
def State.receive (s : State) (p : Nat) (level : Bool) : State :=
  let v := s.pin p
  (s.setPin p { v with level := level, filt := if s.fld (rPinPad p) 9 0 = 0 then level else v.filt }).refreshPins [p]

/-! Picked pins at a commit point, at BEAT-UP end and at release (R134, R135, R362). -/

/-- Picked output pins of a bolt take what their ports present; a changeover that waited for it ends. -/
def State.commitOutputs (s : State) (b : Nat) : State :=
  s.mappedPins.foldl (fun t p =>
    let c := s.outSelReg p
    if s.pickedReg p && isPort c && decide (s.pinBolt (c - 1) = b) then
      let d := s.portDrive (c - 1)
      let v := s.pin p
      if v.chg.isNone then t.setPin p { v with regV := d.1, regOE := d.2 }
      else if v.waiting then (t.setPin p { v with regV := d.1, regOE := d.2 }).connectPin p
      else t
    else t) s

/-- The pin that names a picked port is in changeover: the port keeps its sample until the changeover is over (R362). -/
def State.portChanging (s : State) (n : Nat) : Bool :=
  match s.namers 0 (n + 1) with
  | [p] => s.pickedReg p && (s.pin p).chg.isSome
  | _ => false

/-- Picked input ports of a bolt are sampled. -/
def State.sampleInputs (s : State) (b : Nat) : State :=
  (s.pickedIn.filter (fun n => decide (s.pinBolt n = b) && !s.portChanging n)).foldl (fun t n =>
    { t with portSample := SMap.set false t.portSample n (s.inputLevel 0 (n + 1)) }) s

/-- The samples are presented; a port that no picked pin names any more is direct again. -/
def State.presentInputs (s : State) (b : Nat) : State :=
  let mine := s.pickedIn.filter (fun n => decide (s.pinBolt n = b))
  let s1 := mine.foldl (fun t n => { t with portIn := SMap.set false t.portIn n (SMap.get false t.portSample n) }) s
  let left := mine.filter (fun n => !(s.namers 0 (n + 1)).any (fun p => s.pickedReg p))
  let s2 := { s1 with pickedIn := s1.pickedIn.filter (fun n => decide (n ∉ left)) }
  left.foldl (fun t n => t.refreshPort n) s2

/-- The pin registers of the pins whose ports pass the test clear (R134). -/
def State.clearPinRegs (s : State) (which : Nat → Bool) : State :=
  { s with pins := s.pins.foldl (fun m e =>
      if isPort (s.outSelReg e.1) && which (s.outSelReg e.1 - 1) then SMap.set {} m e.1 { e.2 with regV := false, regOE := false }
      else m) s.pins }

/-- Every pad that is about to enter its sleep state takes note of the level it has (R364). -/
def State.keepLevels (s : State) : State :=
  let awake := (List.range 960).filter (fun p => !s.padAsleep p)
  { s with pins := awake.foldl (fun m p => SMap.set {} m p { (SMap.get {} m p) with kept := s.pinLevelRaw p }) s.pins }

/-! Banks (R349). -/

/-- BANK_VMIN records a voltage. -/
def State.noteVcco (s : State) (b mv : Nat) : State := s.setReg (rBankVmin b) (BitVec.ofNat 32 (min (s.fld (rBankVmin b) 15 0) mv))

/-- The nominal VCCO that the present code selects, in mV (Table 13-1). -/
def State.vccoNominal (s : State) (b : Nat) : Nat := [1800, 1500, 1350, 1200, 1000, 2500, 3300].getD (s.fld (rBankCfg b) 2 0) 0

/-- VCCO is more than `pct` per cent below its nominal value. -/
def State.vccoBelow (s : State) (b pct mv : Nat) : Bool := decide (100 * mv < (100 - pct) * s.vccoNominal b)

/-- VCCO is below −7 %. -/
def bankWarn (b mv : Nat) (s : State) : State :=
  if s.vccoBelow b 7 mv then
    let s1 := ({ s with bankOk := SMap.set false s.bankOk b false }).noteVcco b mv
    if s.bit (rBankStat b) 30 then s1 else (s1.setBit (rBankStat b) 30 true).pulse .iobank b 0
  else s

/-- The clocked sides of the bank's bridges reset (Table 10-8). -/
def State.resetBankBridges (s : State) (b : Nat) : State :=
  (List.range 8).foldl (fun s i => s.startResync (8 * b + i) false) s

/-- VCCO is below −10 %, and so below −7 % as well. -/
def bankDisable (b mv : Nat) (s : State) : State :=
  let s1 := bankWarn b mv s
  if s.bankDisabled b || !s.vccoBelow b 10 mv then s1
  else ((((s1.setBit (rBankStat b) 31 true).refreshPins (bankPins b)).resetBankBridges b).settle).pulse .iobank b 1

def State.enableBank (s : State) (b : Nat) : State :=
  if s.bankDisabled b then (((s.setBit (rBankStat b) 31 false).refreshPins (bankPins b)).settle).pulse .iobank b 2 else s

/-- VCCO has been above −7 % plus hysteresis for 50 µs. -/
def bankRecovered (b : Nat) (s : State) : State :=
  let s1 := ({ s with bankOk := SMap.set false s.bankOk b true }).setBit (rBankStat b) 30 false
  if s1.bit (rBankCfg b) 5 then s1.enableBank b else s1

/-- A bank whose code is no longer `old` waits again for a VCCO that meets the new one (R349; log entry 81). -/
def State.bankRecoded (s : State) (b old : Nat) : State :=
  if s.fld (rBankCfg b) 2 0 = old then s else { s with bankOk := SMap.set false s.bankOk b false }

def State.bankReady (s : State) (b : Nat) : Bool := SMap.get false s.bankOk b

/-! Pattern units (R366, R367). -/

def patBase (u : Nat) : Nat := regAddr .pattern 0 (0x100 + 0x40 * u)
def State.pattern (s : State) (u : Nat) : Pattern := SMap.get {} s.patterns u
def State.setPattern (s : State) (u : Nat) (v : Pattern) : State := { s with patterns := SMap.set {} s.patterns u v }

def State.patMask (s : State) (u : Nat) : Nat := s.fld (patBase u + 4) 31 16
def State.patA (s : State) (u : Nat) : Nat := s.fld (patBase u + 4) 15 0 &&& s.patMask u
def State.patB (s : State) (u : Nat) : Nat := s.fld (patBase u + 8) 15 0 &&& s.patMask u

/-- A write to a register of a unit restarts its debounce and clears its sequence state (R366). -/
def patternWritten (u : Nat) (wasOn : Bool) (s : State) : State :=
  let v := s.pattern u
  let on := s.bit (patBase u) 31
  s.setPattern u { v with aAt := none, evaluated := v.evaluated && !(on && !wasOn) }

/-- The pin of lane `l` (PU_PINS). -/
def State.lanePin (s : State) (u l : Nat) : Nat :=
  let w := s.reg (patBase u + 0x20 + 4 * (l / 2))
  if l % 2 = 1 then fieldOf w 25 16 else fieldOf w 9 0

/-- The lanes that count. -/
def State.countedLanes (s : State) (u : Nat) : List Nat := (List.range 16).filter (fun l => (s.patMask u).testBit l)

/-- The masked vector: PIN_LEVEL of the pin of each lane that counts. -/
def State.laneVector (s : State) (u : Nat) : Nat := (s.countedLanes u).foldl (fun a l => a + flag (s.pinLevel (s.lanePin u l)) l) 0

/-- The debounced vector takes the masked sample, and the mode evaluates it (R366, R367). `seen` is what the receivers of the lanes show. -/
def vectorChange (u seen : Nat) (s0 : State) : State :=
  let s := ((s0.countedLanes u).foldl (fun s l => s.receive (s.lanePin u l) (seen.testBit l)) s0).settle
  let v := s.pattern u
  let new := s.laneVector u
  if s0.bit (patBase u) 31 = false then s0
  else if !v.evaluated || decide (new ≠ v.v) then
    let a := s.patA u
    let wasA := v.evaluated && decide (v.v = a)
    let isA := decide (new = a)
    let freshA := if v.evaluated then isA && !wasA else isA
    let aAt := if freshA then some s.now else v.aAt
    let isB := decide (new = s.patB u)
    let freshB := isB && (!v.evaluated || decide (v.v ≠ s.patB u))
    let hit := match s.fld (patBase u) 29 28 with
      | 0 => freshA
      | 1 => !isA && (wasA || !v.evaluated)
      | 2 => true
      | _ => freshB && (match aAt with | some t => decide (s.now ≤ t + 40 * s.fld (patBase u + 8) 31 16) | none => false)
    s.setPattern u { v := new, evaluated := true, aAt := aAt, hits := if hit then v.hits ++ [new] else v.hits }
  else s

/-- A match is recorded; the caller adds the wake of R368. -/
def recordMatch (u : Nat) (s : State) : State :=
  let v := s.pattern u
  let s1 := (s.setPattern u { v with hits := v.hits.drop 1 }).count (patBase u + 0x0C) 23 16 1
  let s2 := if s1.bit (patBase u + 0x10) 31 then s1
            else (s1.setReg (patBase u + 0x10) (BitVec.ofNat 32 (place 1 31 + v.hits.headD 0))).setReg (patBase u + 0x14) (BitVec.ofNat 32 s1.now)
  s2.pulse .pattern 0 u

def patternClear (mask : Nat) (s : State) : State :=
  (List.range 32).foldl (fun s u => if mask.testBit u then
    (s.setFld (patBase u + 0x0C) 23 16 0).setReg (patBase u + 0x10) 0 else s) s

/-- PU_REC.VALID clears with the unit's sticky bit (R367). -/
def patternStickyCleared (mask : Nat) (s : State) : State :=
  (List.range 32).foldl (fun s u => if mask.testBit u then s.setBit (patBase u + 0x10) 31 false else s) s

/-! Live registers. -/

def State.pinmapView (s : State) (k off : Nat) : Option Word :=
  let word (f : Nat → Bool) (m : Nat) : Option Word :=
    some (BitVec.ofNat 32 ((List.range 32).foldl (fun a i => a + flag (f (128 * k + 32 * m + i)) i) 0))
  let count := if k = 7 then 2 else 4
  if 0x040 ≤ off ∧ off < 0x040 + 4 * count then
    word (fun p => decide (s.inSelReg p ≠ 0) && decide (2 ≤ (s.namers (bankOfPin p) (s.inSelReg p)).length)) ((off - 0x040) / 4)
  else if 0x050 ≤ off ∧ off < 0x050 + 4 * count then word (fun p => (s.pin p).chg.isSome) ((off - 0x050) / 4)
  else if 0x060 ≤ off ∧ off < 0x060 + 4 * count then word (fun p => s.pinLevel p) ((off - 0x060) / 4)
  else none

def State.patternView (s : State) (off : Nat) : Option Word :=
  if 0x100 ≤ off ∧ off < 0x900 ∧ (off - 0x100) % 0x40 = 0x0C then
    let u := (off - 0x100) / 0x40
    let v := s.pattern u
    some (BitVec.ofNat 32 (flag (decide (v.v = s.patA u)) 31 + place (s.fld (patBase u + 0x0C) 23 16) 16 + v.v))
  else none

end Sys2Proof.Machine
end

