-- ==== Sys2Proof/Machine/Resume.lean ====
section
/-!
DEFINITION. How a bolt resumes in OPEN, and what a wake source does (R121, R126, R138, R526).
-/

namespace Sys2Proof.Machine

/-- The bolt opens: picked inputs are presented, stalled writers and held bridge requests go on (R121, R126, R135). -/
def State.resumeOpen (s : State) (b : Nat) : State :=
  let s1 := s.openBolt b
  let v := s1.bolt b
  if decide (v.stage = .open) && !v.hold then ((((s1.presentInputs b).resumeStalled b).resumeBridges b).admitFbps b).settle else s1

/-! Power states (Table 19-12). -/

def rPwrState : Nat := regAddr .power 0 0x040
def rWakeCfg : Nat := regAddr .power 0 0x048
def rWakeCause : Nat := regAddr .power 0 0x04C
def rPwrCounts : Nat := regAddr .power 0 0x110

def pwrActive : Nat := 0
def pwrEntering : Nat := 1
def pwrSleeping : Nat := 2
def pwrWaking : Nat := 3
def pwrShutdown : Nat := 4
def pwrDoff : Nat := 5
def pwrOffReady : Nat := 6

def State.pwrState (s : State) : Nat := s.fld rPwrState 2 0
def State.setPwr (s : State) (k : Nat) : State := s.setReg rPwrState (BitVec.ofNat 32 k)

/-- SHUTDOWN has been accepted (R531). -/
def State.shuttingDown (s : State) : Bool := decide (pwrShutdown ≤ s.pwrState)

/-- A power event: bits 2 to 4 with 0xF in the rail field (R539). -/
def State.pwrEvent (s : State) (bit v : Nat) : State := s.raise ⟨.power, 0⟩ bit (BitVec.ofNat 32 (place 0xF 28 + v))

/-- SLEEP entry ends without sleep: FINAL bolts resume in OPEN and DIRECT bolts unfreeze (Table 19-4, step 3). A bolt in CLOSING for a
closing point that does not come any more opens again (log entry 71). -/
def State.abandonEntry (s : State) : State :=
  let s1 := { s with pwr := { s.pwr with closing := none, closePoint := none } }
  (allBolts.foldl (fun t b =>
    let v := t.bolt b
    let s2 := t.setBolt b { v with dfrozen := false, final := false, t0 := if v.stage = .direct then none else v.t0 }
    let closed := v.final && decide (v.stage = .closed) && !(v.hold && t.inWarning b)
    let noPoint := decide (v.stage = .closing ∧ s.pwr.closePoint = some v.grid)
    if closed || noPoint then s2.resumeOpen b else s2) s1).setPwr pwrActive

/-- A wake source (R526): bit 0 pattern units, 1 WAKE_N, 2 shuttle messages, 3 PWR_CMD. -/
def State.wakeSource (s : State) (k : Nat) : State :=
  if k < 3 ∧ s.bit rWakeCfg k = false then s
  else
    let st := s.pwrState
    if st = pwrEntering then
      let s1 := (s.setReg rWakeCause (BitVec.ofNat 32 (2 ^ k))).abandonEntry
      s1.pwrEvent 3 (s1.fld rWakeCause 3 0)
    else if st = pwrSleeping then
      let s1 := { s with pwr := { s.pwr with tw := s.now, fabPwrEn := true } }
      (s1.setReg rWakeCause (BitVec.ofNat 32 (2 ^ k))).setPwr pwrWaking
    else if st = pwrWaking ∨ st = pwrDoff then s.setBit rWakeCause k true
    else s

end Sys2Proof.Machine
end

