-- ==== Sys2Proof/Machine/Shuttle.lean ====
section
/-!
DEFINITION. Shuttles and semaphores (chapter 16).
-/

namespace Sys2Proof.Machine

/-! Registers. A direction is keyed by its channel and sender: `2c + s`. -/

def chanBase (c : Nat) : Nat := regAddr .shuttle (c / 4) (0x100 + 0x200 * (c % 4))
def rShBind (c : Nat) : Nat := chanBase c
def sideBase (c s : Nat) : Nat := chanBase c + 0x040 + 0x080 * s
def rTxCfg (c s : Nat) : Nat := sideBase c s + 0x10
def rSideCnt (c s : Nat) : Nat := sideBase c s + 0x28

def sideNo : Side → Nat
  | .a => 0
  | .b => 1

def State.sh (st : State) (c s : Nat) : ShDir := SMap.get {} st.shuttles (2 * c + s)
def State.setSh (st : State) (c s : Nat) (v : ShDir) : State := { st with shuttles := SMap.set {} st.shuttles (2 * c + s) v }

def State.chBound (st : State) (c : Nat) : Bool := st.bit (rShBind c) 31
def State.sideId (st : State) (c s : Nat) : Nat := if s = 0 then st.fld (rShBind c) 5 0 else st.fld (rShBind c) 21 16

/-- The identity bound to a side (R446); identities 9 to 11 have no path to a SHUTTLE page. -/
def State.isSide (st : State) (m c s : Nat) : Bool :=
  st.chBound c && decide (st.sideId c s = m) && decide (m ≠ 9 ∧ m ≠ 10 ∧ m ≠ 11)

/-- Event `j` of a side: 0 MSG, 1 ACK, 2 RESET_SEEN, 3 REJECT (R465). -/
def State.shEvent (st : State) (c s j : Nat) : State := st.pulse .shuttle (c / 4) (8 * (c % 4) + 4 * s + j)

/-- SIDE_CNT fields (Table 16-5). -/
def State.ackDropped (st : State) (c s n : Nat) : State := st.count (rSideCnt c s) 31 24 n
def State.countReject (st : State) (c s : Nat) : State := st.count (rSideCnt c s) 15 8 1

/-! Storage and acknowledges. -/

/-- Words held by a direction, and SPACE (R447). -/
def ShDir.held (v : ShDir) : Nat := v.accum.length + (v.msgs.map (fun m => m.words.length)).sum
def ShDir.space (v : ShDir) : Nat := 8 - v.held

/-- Entries plus waiting device acknowledges (R451). -/
def ShDir.ackUse (v : ShDir) : Nat := v.acks.length + v.waiting.length

/-- The acknowledge queue takes the device acknowledges that wait, while it has room (R454). -/
def State.drainAcks : Nat → State → Nat → Nat → State
  | 0, st, _, _ => st
  | n + 1, st, c, s =>
    let v := st.sh c s
    match v.waiting with
    | [] => st
    | e :: rest =>
      if v.acks.length < 4 then
        State.drainAcks n ((st.setSh c s { v with acks := v.acks ++ [e], waiting := rest }).shEvent c s 1) c s
      else st

/-- A device acknowledge is made; it waits if the queue is full. -/
def State.deviceAck (st : State) (c s seq code : Nat) : State :=
  let v := st.sh c s
  State.drainAcks 1 (st.setSh c s { v with waiting := v.waiting ++ [(seq, code)] }) c s

/-- The timer of a message starts when it becomes the head message (R453). -/
def State.startHead (st : State) (c s : Nat) : State :=
  let v := st.sh c s
  match v.msgs with
  | [] => st
  | m :: rest =>
    let n := st.fld (rTxCfg c s) 15 0
    if m.old || decide (n = 0) then st
    else st.setSh c s { v with msgs := { m with due := some (st.now + 1000 * n) } :: rest }

/-! Sending. -/

/-- TX_DATA would be refused (R451). -/
def State.txFull (st : State) (c s : Nat) : Bool := let v := st.sh c s; !v.reject && decide (v.space = 0)

/-- A dropped host word (R451). -/
def txDropped (c s : Nat) (st : State) : State :=
  let v := st.sh c s
  ((st.setSh c s { v with reject := true, lenWritten := satAdd 15 v.lenWritten 1 }).countReject c s).shEvent c s 3

def txAppend (c s : Nat) (w : Word) (st : State) : State :=
  let v := st.sh c s
  let v1 := { v with lenWritten := satAdd 15 v.lenWritten 1 }
  st.setSh c s (if v.reject then v1 else { v1 with accum := v.accum ++ [w] })

/-- The accumulated words become a message (R447). -/
def State.commitMsg (st : State) (c s : Nat) : State :=
  let v := st.sh c s
  let m : ShMsg := ⟨v.seq, v.accum, 0, false, false, none, st.now⟩
  let st1 := st.setSh c s { v with accum := [], lenWritten := 0, seq := (v.seq + 1) % 2 ^ 15, msgs := v.msgs ++ [m] }
  let st2 := if v.msgs = [] then st1.startHead c s else st1
  let st3 := st2.shEvent c (1 - s) 0
  let peer := st3.sideId c (1 - s)
  if peer = 0 ∨ peer = 1 ∨ peer = 8 then st3.wakeSource 2 else st3

/-- A message with a dropped word is discarded (R452). -/
def ShDir.discard (v : ShDir) : ShDir := { v with accum := [], reject := false, lenWritten := 0 }

/-- TX_SEND.SEND = 1 has nothing to commit. -/
def State.sendEmpty (st : State) (c s : Nat) : Bool := let v := st.sh c s; !v.reject && decide (v.accum = [])

def txCommitOrDrop (c s : Nat) (st : State) : State :=
  let v := st.sh c s
  if v.reject then st.setSh c s v.discard else if v.accum = [] then st else st.commitMsg c s

/-- What a read of TX_COMMIT returns: RESULT, SEQ and LEN_WRITTEN. -/
def State.commitResult (st : State) (c s : Nat) : Word :=
  let v := st.sh c s
  BitVec.ofNat 32 (place (if v.reject then 2 else if v.accum = [] then 0 else 1) 30 + place v.seq 15 + v.lenWritten)

/-! Receiving and acknowledging. `s` is the receiving side. -/

/-- A read of RX_DATA (R448). -/
def rxNext (c s : Nat) (st : State) : State × Word :=
  let v := st.sh c (1 - s)
  match v.msgs with
  | [] => (st, 0)
  | m :: rest =>
    match m.words[m.read]? with
    | some w => (st.setSh c (1 - s) { v with msgs := { m with read := m.read + 1 } :: rest }, w)
    | none => (st, 0)

/-- RX_ACK is refused: no head message, or an entry that finds the queue full (R449, R451). -/
def State.ackNoHead (st : State) (c s : Nat) : Bool := decide ((st.sh c (1 - s)).msgs = [])
def State.ackFull (st : State) (c s : Nat) : Bool :=
  let v := st.sh c (1 - s)
  match v.msgs with
  | [] => false
  | m :: _ => !m.acked && !m.old && decide (4 ≤ v.ackUse)

/-- A dropped host acknowledge (R451). -/
def ackDroppedWrite (c s : Nat) (st : State) : State :=
  let v := st.sh c (1 - s)
  ((st.setSh c (1 - s) { v with ackReject := true }).countReject c s).shEvent c s 3

def rxAckOp (c s code : Nat) (st : State) : State :=
  let v := st.sh c (1 - s)
  match v.msgs with
  | [] => st
  | m :: rest =>
    let v1 := { v with msgs := rest, ackReject := false }
    let st1 := if m.acked || m.old then (st.setSh c (1 - s) v1).ackDropped c s 1
      else (st.setSh c (1 - s) { v1 with acks := v.acks ++ [(m.seq, code)] }).shEvent c (1 - s) 1
    st1.startHead c (1 - s)

/-- A read of ACK_CODE (R450, R454). -/
def ackPop (c s : Nat) (st : State) : State × Word :=
  let v := st.sh c s
  match v.acks with
  | [] => (st, 0)
  | (seq, code) :: rest =>
    (State.drainAcks 1 (st.setSh c s { v with acks := rest }) c s, BitVec.ofNat 32 (place 1 31 + place seq 16 + code))

/-- The timer of the head message expires (R453). -/
def ackExpire (c s t : Nat) (st : State) : State :=
  let v := st.sh c s
  match v.msgs with
  | [] => st
  | m :: rest =>
    match m.due with
    | none => st
    | some d =>
      if t < d ∨ m.acked = true then st
      else (((st.at t).setSh c s { v with msgs := { m with acked := true, due := none } :: rest }).count (rSideCnt c s) 23 16 1).deviceAck
        c s m.seq 0xFFFE

/-- FLUSH_RX (R458). -/
def flushRxOp (c s code : Nat) (st : State) : State :=
  let v := st.sh c (1 - s)
  let st1 := st.setSh c (1 - s) { v with msgs := [] }
  let st2 := v.msgs.foldl (fun st m =>
    if m.acked then st else if m.old then st.ackDropped c s 1 else st.deviceAck c (1 - s) m.seq code) st1
  st2.count (rSideCnt c s) 7 0 v.msgs.length

/-- CLR_PEER_RESET clears both flags of the side (R456). -/
def clearPeerReset (c s : Nat) (st : State) : State :=
  let st1 := st.setSh c s { (st.sh c s) with peerReset := false }
  st1.setSh c (1 - s) { (st1.sh c (1 - s)) with rxPeerReset := false }

/-! Resets of a side (Table 16-2). -/

def State.sideReset (st : State) (c s : Nat) : State :=
  let o := 1 - s
  let toward := st.sh c o
  let st1 := st.setSh c o { toward with
    msgs := (match toward.msgs with | [] => [] | m :: rest => { m with read := 0 } :: rest), rxPeerReset := true, peerReset := true }
  let from_ := st1.sh c s
  let st2 := (st1.setSh c s { from_.discard with
    acks := [], waiting := [], msgs := from_.msgs.map (fun m => { m with old := true, due := none }) }).ackDropped c s from_.ackUse
  (st2.shEvent c 0 2).shEvent c 1 2

/-! Binding (R441 to R445). -/

/-- An accepted SH_BIND write that changes the binding empties the shuttle (R442). -/
def rebound (c : Nat) (before : Word) (st : State) : State :=
  if st.reg (rShBind c) = before then st else (st.setSh c 0 {}).setSh c 1 {}

/-- SH_BIND_LOCK locks all 64 SHUTTLE pages (R444). -/
def State.lockBindingsOp (st : State) : State :=
  (List.range 64).foldl (fun st k => st.setBit (regAddr .shuttle k 0x030) 0 true) (st.setBit (regAddr .shuttle 0 0x040) 0 true)

/-! Semaphores (R460 to R463). -/

def rSemaCnt : Nat := regAddr .sema 0 0x084
def rSemaLast : Nat := regAddr .sema 0 0x088

def State.holder (st : State) (n : Nat) : Option Nat := SMap.get none st.semas n
def State.setHolder (st : State) (n : Nat) (h : Option Nat) : State := { st with semas := SMap.set none st.semas n h }

/-- A read of LOCK_n (R460). -/
def lockRead (m n : Nat) (st : State) : State × Word :=
  match st.holder n with
  | none => (st.setHolder n (some m), BitVec.ofNat 32 (place 1 31 + m))
  | some h => (st, BitVec.ofNat 32 (flag (decide (h = m)) 31 + h))

/-- A refused release is counted and raised (R460). -/
def releaseRefused (m n : Nat) (st : State) : State :=
  (st.count rSemaCnt 15 0 1).raise ⟨.sema, 0⟩ 1 (BitVec.ofNat 32 (place n 8 + m))

/-- A forced release: counted, recorded in SEMA_LAST and raised (R462); `kind` is 1 for a holder reset and 2 for SEMA_CMD. -/
def State.forceRelease (st : State) (n h kind : Nat) : State :=
  let st1 := ((st.setHolder n none).count rSemaCnt 31 16 1).setReg rSemaLast (BitVec.ofNat 32 (place kind 16 + place n 8 + h))
  st1.raise ⟨.sema, 0⟩ 0 (BitVec.ofNat 32 (place n 8 + h))

def State.semaAuto (st : State) (n : Nat) : Bool := st.bit (regAddr .sema 0 (0x040 + 4 * (n / 32))) (n % 32)

/-- The reset of a holder frees what SEMA_AUTO marks, each release logged once (R462). -/
def State.semaHolderReset (st : State) (m : Nat) : State :=
  ((st.semas.filter (fun e => e.2 == some m && st.semaAuto e.1)).map (fun e => e.1)).foldl (fun st n =>
    let st1 := st.forceRelease n m 1
    st1.logEntry 63 0x0 rSemaLast (st1.reg rSemaLast)) st

/-- An identity is reset by a cause of Table 1-3: its semaphores, and every side bound to it (R455, R462). -/
def State.identityReset (st : State) (m : Nat) : State :=
  (List.range 256).foldl (fun st c =>
    if st.chBound c then
      let st1 := if st.sideId c 0 = m then st.sideReset c 0 else st
      if st1.sideId c 1 = m then st1.sideReset c 1 else st1
    else st) (st.semaHolderReset m)

/-! Live registers. -/

def State.shuttleView (st : State) (k off : Nat) : Option Word :=
  if off < 0x100 then none
  else
    let c := 4 * k + (off - 0x100) / 0x200
    let o := (off - 0x100) % 0x200
    let s := if o < 0xC0 then 0 else 1
    let d := o - (0x40 + 0x80 * s)
    if o < 0x40 then none
    else
      let v := st.sh c s
      let r := st.sh c (1 - s)
      match d with
      | 0x0C => some (BitVec.ofNat 32 (flag v.reject 31 + flag v.peerReset 30 + flag (decide (v.acks ≠ [])) 29 + place v.accum.length 24 +
          place v.lenWritten 20 + place v.space 16 + place v.acks.length 8 + place (v.msgs.countP (fun m => !m.acked)) 4))
      | 0x1C =>
        let len := (r.msgs.head?.map (fun m => m.words.length)).getD 0
        let rem := (r.msgs.head?.map (fun m => m.words.length - m.read)).getD 0
        some (BitVec.ofNat 32 (flag (decide (r.msgs ≠ [])) 31 + flag r.rxPeerReset 30 + flag r.ackReject 29 + place (4 - r.ackUse) 24 +
          place rem 16 + place len 12 + place r.msgs.length 8))
      | _ => none

def State.semaView (st : State) (off : Nat) : Option Word :=
  if 0x060 ≤ off ∧ off < 0x080 then
    some (BitVec.ofNat 32 ((List.range 32).foldl (fun a i => a + flag (st.holder (32 * ((off - 0x060) / 4) + i)).isSome i) 0))
  else if 0x500 ≤ off ∧ off < 0x900 then
    some (match st.holder ((off - 0x500) / 4) with
      | some h => BitVec.ofNat 32 (place 1 31 + h)
      | none => 0)
  else none

end Sys2Proof.Machine
end

