-- ==== Sys2Proof/Machine/Fbp.lean ====
section
/-!
DEFINITION. Accesses that wait for their answer: the fabric window, its ports, and the initiator halves (R24, R38, R51, R268,
R272 to R277).
-/

namespace Sys2Proof.Machine

/-- The bound of 64 system-bus slots (Table 1-5). -/
def busSlots : Nat := 64

/-- The bus timeout (R51). -/
def busTimeoutNs : Nat := 65536

/-- Slots of a master in use: an access that ended with TIMEOUT has freed its slot. -/
def State.slotsUsed (s : State) (m : Nat) : Nat := s.issued.countP (fun e => decide (e.master = m) && !e.timedOut)

/-- A host write that is rejected is dropped and logged as Advisory Non-Fatal (Table 2-6). -/
def State.hostDrop (s : State) (m : Nat) : State := (s.dropPosted).aerAdvisory (m - 8) 15

/-- The oldest request of a port that made this access holds its answer (R276). -/
def State.initAnswered (s : State) (n a : Nat) (we : Bool) (code : Nat) (data : Word) : State :=
  let v := s.fbp n
  match v.reqs.findIdx? (fun r => r.answer.isNone && decide (r.addr = a) && (r.write == we)) with
  | some i => s.setFbp n { v with reqs := v.reqs.modify i (fun r => { r with answer := some (code, if code = 0 then data else 0) }) }
  | none => s

/-- The answer of the model's record is forgotten before an access, so that what stands there afterwards is that access's answer. -/
def State.forgetAnswer (s : State) : State := { s with resp := {} }

/-- The completion of a host read of several DWords: all its data, or the status of the first DWord that was rejected (R43). -/
def HostRead.response (r : HostRead) : Response :=
  match (List.range r.len).findSome? (fun k => (r.bad.find? (fun e => e.1 == k)).map (fun e => e.2)) with
  | some code => ⟨8 + r.func, false, r.addr, [], code, if code = codeUnmapped then .unsupported else .abort⟩
  | none => ⟨8 + r.func, false, r.addr, (List.range r.len).map (fun k => ((r.data.find? (fun e => e.1 == k)).map (fun e => e.2)).getD 0), 0, .success⟩

/-- A DWord of a host read has been answered, as the model's record shows it; the read is answered with its last DWord. -/
def State.partAnswered (s : State) (id k : Nat) : State :=
  match s.pcie.hostReads.find? (fun r => r.id == id) with
  | none => s.forgetAnswer
  | some r =>
    let r1 := if s.resp.code = 0 then { r with data := r.data ++ [(k, s.resp.data.headD 0)] } else { r with bad := r.bad ++ [(k, s.resp.code)] }
    let others := s.pcie.hostReads.filter (fun x => x.id != id)
    if r.len ≤ r1.data.length + r1.bad.length then { s with resp := r1.response, pcie := { s.pcie with hostReads := others } }
    else { s with resp := {}, pcie := { s.pcie with hostReads := others ++ [r1] } }

/-- What the answer of an access means: the debug port shows it, the initiator request that made it holds it, or the host read it is
part of takes it in. -/
def State.passOn (s : State) (e : Issued) (code : Nat) (data : Word) : State :=
  let s1 := if e.master = 5 then { s with jtag := { s.jtag with out := s.resp.data.headD 0 } } else s
  if e.init then s1.initAnswered (e.master - 16) e.addr e.write code data
  else match e.part with
    | some (id, k) => if e.write then s1 else s1.partAnswered id k
    | none => s1

/-- An access gets its answer. The completion of one that a reset has orphaned is discarded (R416, R417). -/
def State.deliver (s : State) (e : Issued) (data : Word) (code : Nat) : State :=
  if e.unheard then s
  else
    let s0 := if 8 ≤ e.master ∧ e.master ≤ 11 ∧ e.write = true ∧ code ≠ 0 then s.hostDrop e.master else s
    (s0.answer e.master e.write e.addr (rejectedData e.master e.write data code) code).passOn e code data

/-- The page that records the end of an access without an answer. -/
def accessPage (e : Issued) : Page :=
  if inFabricWindow e.addr then fbpPage ((e.addr - 0x0400_0000) / 0x0020_0000) else (pageOf e.addr).getD ⟨.device, 0⟩

/-- An access ends with TIMEOUT: recorded, and counted at its port (R51, R274). -/
def State.endTimeout (s : State) (e : Issued) : State :=
  let s1 := (s.recordRejection (accessPage e) e.master e.write (e.addr % 0x1000) codeTimeout).deliver e 0 codeTimeout
  match e.port with
  | some n => (s1.count (rFbpCnt n) 31 24 1).fbpEvent n 0
  | none => s1

/-- BUS_TIMEOUT of the n-th access on the bus. -/
def busTimeoutOp (n t : Nat) (s : State) : State :=
  match s.issued[n]? with
  | none => s
  | some e =>
    if e.timedOut || decide (t < e.time + busTimeoutNs) then s
    else ({ s.at t with issued := s.issued.modify n (fun e => { e with timedOut := true }) }).endTimeout e

/-- An access is issued on the bus and its target holds it. -/
def State.issue (s : State) (e : Issued) : State :=
  let s1 := { s with issued := s.issued ++ [{ e with time := s.now }] }
  match e.port with
  | some n => s1.admitAll n
  | none => s1

/-! Accesses that wait before their page or port sees them (R24, R44). -/

/-- Every slot of the master is in use. -/
def State.slotsBusy (s : State) (m : Nat) : Bool := decide (busSlots ≤ s.slotsUsed m)

/-- The page that an access names; the fabric window has no pages (R38). -/
def Issued.page (e : Issued) : Option Nat := if inFabricWindow e.addr then none else some (e.addr / 0x1000)

/-- A write that its page holds in order with others of its kind: a word for CFG_FIFO, an operation of a creel window. -/
def Issued.queues (e : Issued) : Bool :=
  e.write && (decide (e.addr = 0x6080) || (decide (0x0040_0000 ≤ e.addr ∧ e.addr < 0x0240_0000) && decide (e.addr % 0x1000 = 0x060)))

/-- An older access of the same master holds this one back: one to the same page, or, for a read, a write that has neither taken
effect nor ended with TIMEOUT (R44). -/
def Issued.holds (o e : Issued) : Bool :=
  decide (o.master = e.master) &&
    ((o.port.isNone && o.page.isSome && o.page == e.page && !(o.checked && o.queues && e.queues && decide (o.addr = e.addr))) ||
      (!e.write && o.write && !o.timedOut))

/-- The access has to wait: older ones of its master wait, its master has no slot, or an older one holds it back. -/
def State.waits (s : State) (e : Issued) : Bool :=
  s.slotWait.any (fun o => decide (o.master = e.master)) || s.slotsBusy e.master || s.issued.any (fun o => o.holds e)

/-- An access that has to wait. With a slot it is issued, and its timeout runs (R51); without one it waits untimed (R24). -/
def State.park (s : State) (e : Issued) : State :=
  if s.slotWait.any (fun o => decide (o.master = e.master)) || s.slotsBusy e.master then
    { s.forgetAnswer with slotWait := s.slotWait ++ [e] }
  else { s.forgetAnswer with issued := s.issued ++ [{ e with time := s.now }] }

/-- The oldest unanswered target access of a port. -/
def State.oldestAccess (s : State) (n : Nat) : Option Nat := s.issued.findIdx? (fun e => e.port == some n && e.tag.isSome)

def State.duplicate (s : State) (n : Nat) : State := (s.count (rFbpCnt n) 15 8 1).fbpEvent n 2

/-- User logic's answer to a target access (R274): a late answer is counted by LATE_COMPLETION, and an error is recorded as NOT_PERMITTED
(R38). -/
def State.takeAnswer (s : State) (n : Nat) (x : Dword) : State :=
  match s.oldestAccess n with
  | none => s.duplicate n
  | some i =>
    match s.issued[i]? with
    | none => s
    | some e =>
      if e.tag ≠ some (fieldOf x 40 33) then s.duplicate n
      else
        let s1 := { s with issued := s.issued.eraseIdx i }
        let s2 :=
          if e.timedOut then s1.setFbp n { (s1.fbp n) with late := (s1.fbp n).late + 1 }
          else if bitOf x 32 then
            (s1.recordRejection (fbpPage n) e.master e.write (e.addr % 0x1000) codeNotPermitted).deliver e 0 codeNotPermitted
          else s1.deliver e (if e.write then 0 else x.setWidth 32) 0
        s2.admitAll n

/-- A word of the target response channel: it is captured and acknowledged, or held while the bridge is in RESYNC (R269). -/
def targetResponse (n : Nat) (x : Dword) (s : State) : State :=
  let v := s.fbp n
  if !s.bridgeLive (portBridge n) || v.tResp.ack || v.tResp.parked.isSome then s
  else if (s.bridge (portBridge n)).resync then s.setFbp n { v with tResp := { v.tResp with parked := some x } }
  else (s.setFbp n { v with tResp := { ack := true } }).takeAnswer n x

/-- A held word of the target response channel goes on. -/
def State.unparkAnswer (s : State) (n : Nat) : State :=
  let v := s.fbp n
  match v.tResp.parked with
  | some x =>
    if s.bridgeLive (portBridge n) && !(s.bridge (portBridge n)).resync then (s.setFbp n { v with tResp := { ack := true } }).takeAnswer n x
    else s
  | none => s

/-- LATE_COMPLETION of a port (R272). -/
def lateComplete (n : Nat) (s : State) : State :=
  let v := s.fbp n
  if 0 < v.late then ((s.setFbp n { v with late := v.late - 1 }).count (rFbpCnt n) 23 16 1).fbpEvent n 1 else s

/-- RESYNC of a port's bridge ends every unanswered target access with TIMEOUT, and discards and counts the requests that user logic has not
taken and the initiator's responses (R268, R274, R277). A token that has risen completes (R269). -/
def State.endPortAccesses (s : State) (n : Nat) : State :=
  let mine := s.issued.filter (fun e => e.port == some n)
  let s1 := { s with issued := s.issued.filter (fun e => !(e.port == some n)) }
  let s2 := mine.foldl (fun s e => if e.timedOut then s else s.endTimeout e) s1
  let v := s2.fbp n
  let items := (v.tq.length - v.tread) + (v.queue.length - v.read)
  let old (c : FabChan) : FabChan := { c with stale := c.token.isSome }
  (s2.count (rSvCnt (portBridge n)) 15 8 items).setFbp n
    { v with tq := [], tread := 0, queue := [], read := 0, nextTag := 0, tReq := old v.tReq, iResp := old v.iResp,
             reqs := v.reqs.map (fun r => { r with discard := true }) }

/-- RESYNC of a bridge (R267), with what it means for a fabric bus port. -/
def State.resyncBridge (s : State) (br : Nat) (fabric : Bool) : State :=
  let s1 := s.startResync br fabric
  if s.svMode br = brBusport then s1.endPortAccesses (br - 256) else s1

/-- Both sides of a bridge reset together: the fabric side acts as side X (R267). -/
def State.resyncBoth (s : State) (br : Nat) : State :=
  if s.svMode br = brOff then s
  else (((s.zeroSide br true).zeroSide br false).resyncBridge br true)

/-! Initiator half (R276, R277). -/

def State.initOutstanding (s : State) (n : Nat) : Nat := (s.fbp n).reqs.length

/-- The initiator half may take a request. -/
def State.initOpen (s : State) (n : Nat) : Bool := s.bit (rFbpCfg n) 30 && s.bridgeLive (portBridge n)

/-- It can issue one more: its bridge is not in RESYNC, and fewer than 16 are outstanding (R269, R276). -/
def State.initRoom (s : State) (n : Nat) : Bool :=
  s.initOpen n && !(s.bridge (portBridge n)).resync && decide (s.initOutstanding n < portBound)

/-- The answer of the oldest request is queued to user logic, or discarded (R276, R277). -/
def initiatorResponse (n : Nat) (s : State) : State :=
  let v := s.fbp n
  match v.reqs with
  | [] => s
  | r :: rest =>
    match r.answer with
    | none => s
    | some (code, data) =>
      if r.discard then s.setFbp n { v with reqs := rest }
      else if portBound ≤ v.queue.length then s
      else
        let s1 := s.setFbp n { v with reqs := rest, queue := v.queue ++ [⟨code, data, r.ckpt⟩] }
        if code = 0 then s1
        else (((s1.count (rFbpCnt n) 7 0 1).setReg (fbpReg n 0x10C) (BitVec.ofNat 32 code)).setReg (fbpReg n 0x110)
          (BitVec.ofNat 32 r.addr)).fbpEvent n 3

/-! Beat-up and rollback. -/

/-- Beat-up: what user logic has taken leaves the queues. -/
def State.commitFbp (s : State) (n : Nat) : State :=
  let v := s.fbp n
  s.setFbp n { v with tq := v.tq.drop v.tread, tread := 0, queue := (v.queue.drop v.read).map (fun a => { a with ckpt := true }), read := 0,
                      reqs := v.reqs.map (fun r => { r with ckpt := true }) }

def State.commitFbps (s : State) (b : Nat) : State := (s.fbpsOf b).foldl (fun s n => s.commitFbp n) s

/-- Rollback: what user logic has taken since the checkpoint is presented again, answered or not (R158), and the responses of requests made
since are discarded (R277). -/
def State.restoreFbp (s : State) (n : Nat) : State :=
  let v := s.fbp n
  s.setFbp n { v with tread := 0, tReq := {}, tResp := {}, queue := v.queue.filter (fun a => a.ckpt), read := 0, iReq := {}, iResp := {},
                      reqs := v.reqs.map (fun r => if r.ckpt then r else { r with discard := true }) }

/-- The ports a rollback of the bolt restores: a fenced region takes no part in it (Table 6-4). -/
def State.restoreFbps (s : State) (b : Nat) : State :=
  ((s.fbpsOf b).filter (fun n => !s.fenced (reedTile (s.bridgeReed (portBridge n))))).foldl (fun s n => s.restoreFbp n) s

/-- The identities of the ports of a bolt are reset (Table 1-3). -/
def State.resetFbpIdentities (s : State) (b : Nat) : State := (s.fbpsOf b).foldl (fun s n => s.identityReset (16 + n)) s

def fbpClear (k mask : Nat) (s : State) : State :=
  (List.range 4).foldl (fun s i => if mask.testBit i then
    ((s.setReg (rFbpCnt (4 * k + i)) 0).setReg (fbpReg (4 * k + i) 0x10C) 0).setReg (fbpReg (4 * k + i) 0x110) 0 else s) s

def State.fbpView (s : State) (k off : Nat) : Option Word :=
  if 0x100 ≤ off ∧ off < 0x180 ∧ off % 0x20 = 0x04 then
    let n := 4 * k + (off - 0x100) / 0x20
    some (BitVec.ofNat 32 (place (s.inFabric n) 16 + s.initOutstanding n))
  else none

end Sys2Proof.Machine
end

