-- ==== Sys2Proof/Machine/BlockPorts.lean ====
section
/-!
DEFINITION. The fabric side of the hard blocks as their wires show it: the tokens on their input slots, and the steps the handshake wires
allow (R182, R233, R254, Table 12-9, R332 to R335).
-/

namespace Sys2Proof.Machine

/-- The number on `width` data slots, from slot `base` on, of a block in tile `t`. -/
def State.slotsNumber (s : State) (t : Nat) (slot : Nat → Nat × Nat) (base width : Nat) : Nat :=
  (List.range width).foldl (fun a k => a + flag (s.slotData t (slot (base + k))) k) 0

/-! Creel ports. -/

/-- A handshake slot of a creel port. -/
def State.creelLevel (s : State) (n : Nat) (p : PortSide) (w : Nat) : Bool := s.slotLevel (s.portBolt n p) (creelTile n) (s.creelSlot n p w)

/-- The request token on a creel port (Table 12-9). The address has as many bits as its range needs: slots beyond it hold 0. -/
def State.creelToken (s : State) (n : Nat) (p : PortSide) : CReq :=
  let slot := s.creelSlot n p
  let tile := creelTile n
  let queue := decide (s.creelMode n = modeQueue)
  { adr := if queue then 0 else s.slotsNumber tile slot 3 (Nat.log2 (s.portRange n p - 1) + 1),
    we := !queue && s.slotData tile (slot 2), wdata := BitVec.ofNat 64 (s.slotsNumber tile slot 20 64),
    last := queue && s.slotData tile (slot 2), abort := queue && s.slotData tile (slot 3) }

def creelRequestOp (n : Nat) (p : PortSide) (s : State) : State :=
  if s.creelLevel n p 0 then (portRequest n p (s.creelToken n p) s).settle else s

def creelReqFallOp (n : Nat) (p : PortSide) (s : State) : State :=
  if s.creelLevel n p 0 then s else (portReqFall n p s).settle

def creelAckOp (n : Nat) (p : PortSide) (s : State) : State :=
  if s.creelLevel n p 1 then (portRespAck n p s).settle else s

/-! Twill blocks (R332). -/

def State.twillLevel (s : State) (n w : Nat) : Bool := s.slotLevel (s.twOwner n) (twillTile n) (s.twillSlot n w)

/-- The operation on the request channel of a block. -/
def State.twillOperands (s : State) (n : Nat) : TwOp :=
  let slot := s.twillSlot n
  let tile := twillTile n
  let operand (base : Nat) : BitVec 24 := BitVec.ofNat 24 (s.slotsNumber tile slot base 24)
  { a := operand 5, b := operand 29, d := operand 53, neg := s.slotData tile (slot 2), clr := s.slotData tile (slot 3), emit := s.slotData tile (slot 4), rho := [] }

def twillCaptureOp (n : Nat) (s : State) : State := if s.twillLevel n 0 then (twillCapture n (s.twillOperands n) s).settle else s

def twillReqFallOp (n : Nat) (s : State) : State := if s.twillLevel n 0 then s else (twillReqFall n s).settle

def twillAckOp (n : Nat) (s : State) : State := if s.twillLevel n 1 then (twillRespAck n s).settle else s

/-! Bridges and fabric bus ports (R334, R335). -/

/-- The word on a channel whose slots start at `base`. -/
def State.channelWord (s : State) (n base : Nat) : Dword := BitVec.ofNat 64 (s.slotsNumber (reedTile (s.bridgeReed n)) (s.bridgeSlot n) (base + 2) 64)

/-- What user logic has done on the channels of a bridge: an IN bridge's token is acknowledged, an OUT bridge gets one. At a fabric bus port
the target request and the initiator response are acknowledged (R275, R276). -/
def bridgeTokenOp (n : Nat) (s : State) : State :=
  if s.svMode n = brBusport then
    let s1 := if s.bridgeLevel n 1 then requestTaken (n - 256) s else s
    (if s.bridgeLevel n 199 then responseTaken (n - 256) s1 else s1).settle
  else if s.svOut n then (if s.bridgeLevel n 0 then (sinkToken n (s.channelWord n 0) s).settle else s)
  else if s.bridgeLevel n 1 then (chanTaken n s).settle
  else s

/-! Bank registers (R360, R564). -/

/-- What the pins of a bank register show at an edge of its clock; the bits of `torn` are captured outside the timing of Table 13-6, or above
800 MHz, and each takes either level (R564; log entry 2). -/
def State.bankWord (s : State) (n : Nat) (torn : Dword) : Dword :=
  BitVec.ofNat 64 ((List.range (s.svWidth n)).foldl (fun a k =>
    a + flag (if torn.getLsbD k then s.openBit k else s.inputLevel (n / 8) (0x400 + 64 * (n % 8) + k)) k) 0)

/-- An edge of the clock of an IN bank register, by its mode: `src` holds the sample before. -/
def bankEdge (n : Nat) (torn : Dword) (s : State) : State :=
  let x := s.bankWord n torn
  let s1 := if torn = 0 then s else { s with free := s.free + 64 }
  let before := (s.bridge n).src
  let s2 := s1.setBridge n { (s1.bridge n) with src := x }
  let m := s.svMode n
  if s.svOut n || decide (m = brOff) || !s.svRuns n then s
  else if m = brHold then (if x = before then s2 else holdOfferOp n x s2)
  else if m = brQueue then (if (s.bridge n).resync = false ∧ (s.bridge n).fifo.length < 16 then s2.enqueue n x else s2.overrun n)
  else if m = brCount ∨ m = brMerge then (if x.getLsbD 0 && !before.getLsbD 0 then pulseIn n s2 else s2)
  else s2

/-- The clocked side of an IN bridge writes a word or pulse; a bank register takes what its pins show. -/
def sideWrite (n : Nat) (x torn : Dword) (s : State) : State := if n < 160 then bankEdge n torn s else clockedWrite n x s

/-- An offer to a HOLD bridge: the clocked side's word, or the token on its fabric wires (R258). -/
def offered (n : Nat) (x : Dword) (s : State) : State :=
  if s.svMode n ≠ brHold then s else if s.svOut n then bridgeTokenOp n s else sideWrite n x 0 s

/-- A source pulse of a COUNT or MERGE bridge: of the clocked side, or a token on its fabric wires (R261). -/
def pulsed (n : Nat) (s : State) : State :=
  if s.svMode n ≠ brCount ∧ s.svMode n ≠ brMerge then s else if s.svOut n then bridgeTokenOp n s else sideWrite n 0 0 s

def targetResponseOp (n : Nat) (s : State) : State :=
  if s.bridgeLevel (portBridge n) 66 then (targetResponse n (s.channelWord (portBridge n) 66) s).settle else s

end Sys2Proof.Machine
end

