-- ==== Sys2Proof/Machine/Flags.lean ====
section
/-!
DEFINITION. Status and event flags as a reader of the pages sees them, and the flag that keeps every access off the bus.
-/

namespace Sys2Proof.Machine

/-- What a command's meaning answers. -/
abbrev Result := Host.Outcome State Fault Refusal

/-- The sticky bit of an event (R469). -/
def State.sticky (s : State) (p : Page) (k : Nat) : Bool := s.bit (p.base + 0x014) k

/-- The event is enabled at its page (R469). -/
def State.eventOn (s : State) (p : Page) (k : Nat) : Bool := s.bit (p.base + 0x018) k

/-- The number of rejections a page has recorded, and the code of the last (R49). -/
def State.errCount (s : State) (p : Page) : Nat := s.fld (p.base + 0x020) 23 16
def State.errCode (s : State) (p : Page) : Nat := s.fld (p.base + 0x020) 7 0

/-- PAGE_LOCK (R40). -/
def State.locked (s : State) (p : Page) : Bool := s.bit (p.base + 0x030) 0

/-- The device is held in reset: SYS_REFCLK is absent, or a start failed (R20, Table 19-9). No master issues an access then. -/
def State.inReset (s : State) : Bool := s.pwr.refLost || (decide (s.boot.stage = .held) && decide (s.pwrState ≠ pwrOffReady))

end Sys2Proof.Machine
end

