-- ==== Sys2Proof/Machine/Hostper.lean ====
section
/-!
DEFINITION. The hard peripherals: I²C, SPI and UART units (R369 to R371, R377, R378).
-/

namespace Sys2Proof.Machine

def hpBase (u : Nat) : Nat := regAddr .hostper 0 (0x100 + 0x20 * u)

def State.periph (s : State) (u : Nat) : Periph := SMap.get {} s.periphs u
def State.setPeriph (s : State) (u : Nat) (v : Periph) : State := { s with periphs := SMap.set {} s.periphs u v }

/-- Event of a unit: 0 DONE, 1 ERR, 2 RX (R378). -/
def State.hpEvent (s : State) (u e : Nat) : State := s.pulse .hostper 0 (3 * u + e)

/-- The kind of a unit: I²C 0 to 3, SPI 4 to 7, UART 8 and 9. -/
def isI2c (u : Nat) : Bool := decide (u < 4)
def isUart (u : Nat) : Bool := decide (8 ≤ u)

def State.hpEnabled (s : State) (u : Nat) : Bool := s.bit (hpBase u) 31

/-- BUSY: a command or a UART transmission is in progress. -/
def State.hpBusy (s : State) (u : Nat) : Bool :=
  (s.periph u).cmd.isSome || (isUart u && s.hpEnabled u && decide ((s.periph u).tx ≠ []))

/-- Operations of HP_CMD. -/
def opWrite : Nat := 1
def opRead : Nat := 2
def opWriteRead : Nat := 3

/-- Does the operation send, and does it receive. -/
def hpSends (u op : Nat) : Bool := if isI2c u then decide (op = opWrite ∨ op = opWriteRead) else decide (op = 1)
def hpReceives (u op : Nat) : Bool := if isI2c u then decide (op = opRead ∨ op = opWriteRead) else decide (op = 1)

/-- LEN is undefined with a command that reads or transfers (Table 13-14). -/
def hpLenBad (u op len : Nat) : Bool := !isUart u && hpReceives u op && !(decide (1 ≤ len) && decide (len ≤ 16))

/-- A command is refused (R371). -/
def State.hpRefused (s : State) (u op len : Nat) : Bool :=
  let v := s.periph u
  decide (op ≠ 0) && (s.hpBusy u ||
    (!isUart u && ((isI2c u && hpSends u op && decide (v.tx = [])) || (hpReceives u op && decide (16 - v.rx.length < len)) ||
      (!isI2c u && decide (v.tx.length < len)))))

/-- A command starts on an enabled unit; the error of the last one clears, and an SPI unit selects its target (R370). UART FLUSH empties
both FIFOs and ends at once. -/
def hpCommand (u op len : Nat) (holdCs : Bool) (s : State) : State :=
  let v := s.periph u
  if op = 0 then s
  else if isUart u then (s.setPeriph u { v with tx := [], rx := [], err := none }).hpEvent u 0
  else if s.hpEnabled u = false then s.setPeriph u { v with cmd := none, err := none }
  else if isI2c u then s.setPeriph u { v with cmd := some (op, len), err := none }
  else s.setPeriph u { v with cmd := some (op, len), holdCs := holdCs, csLow := some (s.fld (hpBase u) 27 26), err := none }

/-- HP_TX while TX is full is refused (R371). -/
def State.hpTxFull (s : State) (u : Nat) : Bool := decide (16 ≤ (s.periph u).tx.length)
def hpPush (u : Nat) (b : Byte) (s : State) : State := s.setPeriph u { (s.periph u) with tx := (s.periph u).tx ++ [b] }

/-- A read of HP_RX. -/
def hpPop (u : Nat) (s : State) : State × Word :=
  match (s.periph u).rx with
  | [] => (s, BitVec.ofNat 32 (place 1 31))
  | b :: rest => (s.setPeriph u { (s.periph u) with rx := rest }, b.setWidth 32)

/-- Clearing EN ends any command and empties both FIFOs. -/
def hpConfigured (u : Nat) (s : State) : State :=
  if s.hpEnabled u then s else s.setPeriph u { (s.periph u) with tx := [], rx := [], cmd := none, csLow := none }

/-- Bytes arrive in RX; RX is raised when its level rises from 0. -/
def State.hpReceive (s : State) (u : Nat) (bs : List Byte) : State :=
  let v := s.periph u
  let s1 := s.setPeriph u { v with rx := v.rx ++ bs }
  if v.rx = [] ∧ bs ≠ [] then s1.hpEvent u 2 else s1

/-- How many bytes a command that failed had moved: the manual does not say (log entry 24). -/
def State.openCount (s : State) (n : Nat) : Nat := s.openValue % (n + 1)

/-- A command ends (R378): `err` is the error kind of a failure, and `bs` are the bytes the bus gave. -/
def hpEnd (u : Nat) (err : Option Nat) (bs : List Byte) (s : State) : State :=
  let v := s.periph u
  if isUart u then
    if s.hpBusy u then (s.setPeriph u { v with tx := [] }).hpEvent u 0 else s
  else
    match v.cmd with
    | none => s
    | some (op, len) =>
      let sent := if hpSends u op then (if isI2c u then v.tx.length else len) else 0
      let got := if hpReceives u op then len else 0
      match err with
      | none =>
        if bs.length ≠ got then s
        else ((s.setPeriph u { v with tx := v.tx.drop sent, cmd := none, csLow := if v.holdCs then v.csLow else none }).hpEvent u 0).hpReceive u bs
      | some k =>
        if isI2c u = false then s
        else
          let s1 := (s.setPeriph u { v with tx := v.tx.drop (s.openCount sent), cmd := none, err := some k }).tick
          ((s1.hpEvent u 0).hpEvent u 1).hpReceive u (bs.take (s1.openCount got))

/-- A UART receives a character (R370): kinds FRAMING 2 and OVERRUN 3. -/
def uartReceive (u : Nat) (good : Bool) (b : Byte) (s : State) : State :=
  let v := s.periph u
  if !s.hpEnabled u then s
  else if !good then (s.setPeriph u { v with err := some 2 }).hpEvent u 1
  else if 16 ≤ v.rx.length then (s.setPeriph u { v with err := some 3 }).hpEvent u 1
  else s.hpReceive u [b]

def State.hostperView (s : State) (off : Nat) : Option Word :=
  if 0x100 ≤ off ∧ off < 0x240 ∧ off % 0x20 = 0x08 then
    let u := (off - 0x100) / 0x20
    let v := s.periph u
    some (BitVec.ofNat 32 (flag (s.hpBusy u) 31 + flag v.err.isSome 30 + place (v.err.getD 0) 28 + place v.rx.length 16 + v.tx.length))
  else none

end Sys2Proof.Machine
end

