-- ==== Sys2Proof/Machine/Pick.lean ====
section
/-!
DEFINITION. The pick controller: the grid, the phases of a bolt, beat-up, rollback, HALT and HOLD (chapters 05 and 06).
-/

namespace Sys2Proof.Machine

/-! Which points close which bolts. -/

def State.pickEvent (s : State) (k : Nat) (detail : Nat) : State := s.raise ⟨.pick, 0⟩ k (BitVec.ofNat 32 detail)

/-- The grid runs (GRID_RUN of Table 5-6; log entry 31). A shutdown accepted in SLEEP or WAKING does not start it again (R531). -/
def State.gridRuns (s : State) : Bool :=
  s.pick.released && decide (s.pwrState ∈ [pwrActive, pwrEntering, pwrShutdown]) && !s.pinsAsleep

/-- `g` is the point of a SLEEP or shutdown request (R140). -/
def State.isClose (s : State) (g : Nat) : Bool :=
  s.pwr.closing.isSome && (if s.pwr.closeHit then decide (g = s.pwr.closeG) else decide (s.pwr.closeG ≤ g))

/-- The bolt takes part in the point `g` (R119, R140). -/
def State.takesPart (s : State) (b g : Nat) : Bool :=
  decide ((s.bolt b).since + s.actMinWindow ≤ g) || s.isClose g

/-- The pace gate shuts, or stays shut (R131). -/
def State.shutGate (s : State) (t : Nat) : State :=
  if s.pick.gateShut then s else { s with pick := { s.pick with gateShut := true, gateAt := some t } }

/-- Old grid points after the point of a pending APPLY do not occur (R117). -/
def State.pointOccurs (s : State) (g : Nat) : Bool := s.pick.pending.isNone || decide (g ≤ s.pick.g)

/-- The bolt is COMMITTED, released, not in HALT and not in rollback. -/
def State.cycling (s : State) (b : Nat) : Bool :=
  s.committed b && decide ((s.bolt b).stage ∉ [BoltStage.notReleased, .halt, .rollback, .recovery, .direct])

/-! APPLY (R116, R117). -/

/-- The staged settings: period, guard, drain bound, least window, overrun limit, origin. -/
def State.staged_ (s : State) : List Nat :=
  [(s.reg 0x4040).toNat, s.fld 0x4044 23 0, s.fld 0x4048 23 0, s.fld 0x404C 23 0, s.fld 0x4050 3 0, s.pair 0x4054 0x4058]

def State.applyRefused (s : State) : Bool := decide ((s.reg 0x4040).toNat < s.fld 0x4044 23 0 + s.fld 0x4048 23 0 + 200)

/-- A pending set becomes the active one; the first point of the new grid follows R117. -/
def State.switchTo (s : State) (set : List Nat) : State :=
  let nth (k : Nat) : Nat := set.getD k 0
  let w (k : Nat) : Word := BitVec.ofNat 32 (nth k)
  let s1 := ((((((s.setReg rActPeriod (w 0)).setReg rActGuard (w 1)).setReg rActDrainMax (w 2)).setReg rActMinWindow (w 3)).setReg
    rActLimit (w 4)).setPair rActOriginLo rActOriginHi (nth 5))
  let first := gridAtOrAfter (nth 5) (nth 0) (s.now + nth 1 + 200)
  { s1 with pick := { s1.pick with pending := none, first := first } }.pickEvent 5 (first % 2 ^ 32)

def pickApplyOp (s : State) : State :=
  if !s.pick.released then s.switchTo s.staged_
  else
    match s.pick.pending with
    | some _ => { s with pick := { s.pick with pending := some s.staged_ } }
    | none => { s with pick := { s.pick with pending := some s.staged_, g := s.gridFrom s.now } }

def pickClearOp (s : State) : State := allBolts.foldl (fun s b => s.setFld (rBoltStat b) 31 4 0) s

/-- FINAL is raised, once for a request, when every COMMITTED bolt not in HALT is FINAL, at once where there is none (R140; log entry 32). -/
def State.checkFinal (s : State) : State :=
  let live := allBolts.filter (fun b => s.committed b && decide ((s.bolt b).stage ∉ [BoltStage.notReleased, .halt]))
  let halted := allBolts.countP (fun b => decide ((s.bolt b).stage = .halt))
  if s.pwr.closing.isSome && !s.pwr.finalRaised && s.pick.released &&
      live.all (fun b => (s.bolt b).final && decide ((s.bolt b).stage = .closed)) then
    { s with pwr := { s.pwr with finalRaised := true } }.pickEvent 7 halted
  else s

/-! HALT (R160 to R163). -/

/-- Tiles released in an earlier HALT of the bolt do not count for the next one (R163). -/
def State.forgetRewoven (s : State) (b : Nat) : State :=
  { s with eng := { s.eng with rewoven := s.eng.rewoven.filter (fun t => decide (s.boltOfTile t ≠ b)) } }

/-- The bolt enters HALT where it stands. -/
def State.enterHalt (s : State) (b cause : Nat) : State :=
  let v := s.bolt b
  let s1 := (s.forgetRewoven b).keepLevels
  let s2 := s1.setBolt b { v with stage := .halt, gateHeld := false, hold := false, holdDone := false, final := false, t0 := none, unbounded := false,
                                  pend := none, forceHalt := false, recov := false, shadowBad := false, resuming := false, dfrozen := false }
  let s3 := (s2.setFld (rCause b) 31 24 cause).logBolt b 0xA cause
  ((s3.raiseCommit b 0x2 cause).resetFbpIdentities b).checkFinal

/-- The overrun limit is reached (R130). -/
def State.overrunHalt (s : State) (b : Nat) : State :=
  (s.pickEvent 2 (place b 28 + fieldOf (s.reg (rBoltPick b)) 27 0)).enterHalt b 0x12

/-- The switch of R117. -/
def appliedOp (t : Nat) (s : State) : State :=
  match s.pick.pending with
  | none => s
  | some set =>
    let reached := match s.pick.last with | some g => decide (s.pick.g ≤ g) | none => false
    let busy := allBolts.any (fun b =>
      let v := s.bolt b
      s.committed b && decide (v.grid = s.pick.g) && (v.gateHeld || decide (v.stage = .rollback ∨ v.stage = .recovery)))
    if s.pick.released && reached && !busy && decide (s.now ≤ t) then
      let s1 := (s.at t).switchTo set
      allBolts.foldl (fun s b =>
        if s.committed b && decide ((s.bolt b).stage = .overrun ∧ s.actLimit ≤ s.fld (rBoltStat b) 3 0) then s.overrunHalt b else s) s1
    else s

/-! CLOSING and grid points. -/

/-- A bolt enters CLOSING for its next point (R119, R131). -/
def closingOp (b t : Nat) (s : State) : State :=
  let v := s.bolt b
  let g := s.nextPoint t
  if s.gridRuns && s.cycling b && decide (v.stage = .open) && !v.hold && decide (s.now ≤ t ∧ g ≤ t + s.actGuard) &&
      s.takesPart b g && s.pointOccurs g then
    ((s.at t).setBolt b { v with stage := .closing, grid := g, gateHeld := true }).shutGate t
  else s

/-- What a point does to a COMMITTED bolt. -/
def State.pointAtBolt (s : State) (g b : Nat) : State :=
  let v := s.bolt b
  if !s.cycling b || v.hold || v.dfrozen then s
  else
    match v.stage with
    | .closing => if v.grid = g then s.setBolt b { v with stage := .drain, t0 := none, unbounded := false, deferred := false } else s
    | .open => if s.takesPart b g then
        s.setBolt b { v with stage := .drain, grid := g, t0 := none, unbounded := false, deferred := false, gateHeld := true } else s
    | .overrun => s.setBolt b { v with stage := .drain, grid := g, t0 := none, unbounded := false, deferred := true }
    | .drain => if v.unbounded && s.takesPart b g then s.setBolt b { v with grid := g, unbounded := false } else s
    | _ => s

/-- A DIRECT bolt at a grid point (R123), and its freeze by a shutdown (R531). -/
def State.pointAtDirect (s : State) (g : Nat) (pins : Bool) (b : Nat) : State :=
  let v := s.bolt b
  if decide (v.stage = .direct) && !v.dfrozen then
    let s1 := if pins then ((((s.commitOutputs b).sampleInputs b).presentInputs b).countWrap (rBoltPick b)).setBolt b { v with leakPick := false }
              else s
    if s.pwr.closing = some 1 ∧ s.isClose g = true then s1.setBolt b { (s1.bolt b) with dfrozen := true } else s1
  else s

/-- Every bolt at a point, in ascending order. -/
def State.pointAt (s : State) (g : Nat) (pins : Bool) : State :=
  let s0 := if s.isClose g && !s.pwr.closeHit then { s with pwr := { s.pwr with closeG := g, closeHit := true } } else s
  let s1 := allBolts.foldl (fun s b => (s.pointAtDirect g pins b).pointAtBolt g b) s0
  let s2 := if allBolts.any (fun b => (s1.bolt b).gateHeld) then s1.shutGate s1.now else s1
  { s2 with pick := { s2.pick with last := some g } }.settle

def gridPointOp (t : Nat) (s : State) : State :=
  if s.gridRuns && decide (s.now ≤ t ∧ s.gridFrom t = t ∧ s.actOrigin ≤ t ∧ s.pick.last ≠ some t) && s.pointOccurs t then
    let s1 := s.at t
    (s1.pickEvent 6 ((t - s.actOrigin) / s.actPeriod % 2 ^ 32)).pointAt t true
  else s

/-- The closing point of R141 raises no GRID event and moves no pin of a DIRECT bolt. -/
def closingPointOp (t : Nat) (s : State) : State :=
  if s.gridRuns && decide (s.now ≤ t ∧ s.pwr.closePoint = some t) then
    let s1 := (s.at t).pointAt t false
    { s1 with pwr := { s1.pwr with closePoint := none } }
  else s

/-! Quiescence (R124 to R126). -/

/-- The completion tree of a bolt reports it idle. -/
def State.boltIdle (s : State) (b : Nat) : Bool :=
  (s.reeds.filter (fun r => decide (s.boltOf r = b))).all (fun r => s.wire (.idle r)) && !s.portsActive b

/-- The freeze at t0 (Table 5-2, step 1; for a DIRECT bolt Table 19-4, step 2). -/
def freezeOp (b t : Nat) (s : State) : State :=
  let v := s.bolt b
  let inBound := decide (v.grid ≤ t ∧ t ≤ v.grid + s.actDrainMax)
  let committedOk := s.cycling b && decide (v.stage = .drain) && (v.hold || v.unbounded || inBound)
  let directOk := decide (v.stage = .direct) && decide (s.pwr.closing = some 0 ∧ s.pwr.closeHit = true ∧ s.pwr.closeG ≤ t ∧ t ≤ s.pwr.closeG + s.actDrainMax) &&
    !v.dfrozen
  if (committedOk || directOk) && v.t0.isNone && decide (s.now ≤ t) && s.boltIdle b then
    ((s.at t).setBolt b { v with t0 := some t }).twillsAtFreeze b
  else s

/-- The effects of a beat-up (R127, Table 5-3). -/
def State.beatUp (s : State) (b : Nat) : State :=
  let v := s.bolt b
  let t0 := v.t0.getD 0
  let s1 := ((((((s.commitOutputs b).sampleInputs b).commitCells b).commitTwills b).commitCreels b).commitQueues b).commitBridges b
  let s2 := ((s1.commitFbps b).countWrap (rBoltPick b)).setFld (rBoltStat b) 3 0 0
  let s3 := (s2.setFld (rRollbacks b) 1 0 0).setBolt b { v with stage := .beatUp, leakPick := false }
  if v.grid < t0 ∧ v.hold = false ∧ v.unbounded = false then
    (s3.count (rBoltStat b) 31 16 1).pickEvent 0 (place b 28 + min (2 ^ 28 - 1) (t0 - v.grid))
  else s3

/-- The confirmation 50 ns after t0 (Table 5-2, steps 3 to 5); `idle` is what the tree reads. -/
def drainConfirmOp (b : Nat) (idle : Bool) (t : Nat) (s : State) : State :=
  let v := s.bolt b
  match v.t0 with
  | none => s
  | some t0 =>
    let overdue := match v.pend with | some (_, _, td) => decide (td + 20 ≤ t) | none => false
    if t ≠ t0 + 50 ∨ t < s.now ∨ overdue = true ∨ ¬(v.stage = .drain ∨ v.stage = .direct) then s
    else
      let s1 := s.at t
      let s0 := s1.checkEnds b
      if idle && s1.boltIdle b then
        if v.stage = .direct then
          ((s1.setBolt b { v with t0 := none, dfrozen := true }).commitCells b).commitTwills b
        else if s1.endFails b then s0
        else s0.beatUp b
      else
        let s2 := s1.setBolt b { v with t0 := none }
        if v.stage = .direct then s2
        else
          ((((s2.count (rBoltStat b) 7 4 1).pickEvent 4 (place b 28 + min (2 ^ 28 - 1) (t0 - v.grid))).resumeBridges b).admitFbps b).settle

/-! BEAT-UP end. -/

/-- The bolt opens again after a beat-up: the freeze lifts, and picked inputs and releases resume (R121, R127). -/
def State.openAfterBeatUp (s : State) (b : Nat) : State :=
  let v := s.bolt b
  let s1 := s.setBolt b { v.freePace s.now with stage := .open, t0 := none, unbounded := false, deferred := false, gateHeld := false }
  (((((s1.presentInputs b).resumeStalled b).resumeBridges b).admitFbps b)).settle

/-- BEAT-UP ends: the beat-up was final, or the early one of a HOLD, or the bolt opens. A HOLD that began in this beat-up
still takes its early beat-up (R172), and one that ended before its early beat-up leaves that beat-up the final one of a close (R140). -/
def beatUpEndOp (b t : Nat) (s : State) : State :=
  let v := s.bolt b
  let t0 := v.t0.getD 0
  if v.stage = .beatUp ∧ s.now ≤ t ∧ t0 + 50 ≤ t then
    let s1 := s.at t
    let early := v.hold && decide (v.holdAt ≤ t0)
    let closes := s.pwr.closing.isSome && (early || (!v.hold && (v.unbounded || decide (s.pwr.closeHit = true ∧ s.pwr.closeG ≤ v.grid))))
    let w := { v.freePace s1.now with t0 := none, unbounded := false, gateHeld := false }
    if closes then
      (((s1.setBolt b { w with stage := .closed, final := true, holdDone := v.hold }).resumeStalled b).checkFinal)
    else if early then (s1.setBolt b { w with stage := .closed, holdDone := true }).resumeStalled b
    else if v.hold then (s1.setBolt b { v with stage := .drain, t0 := none, unbounded := true, gateHeld := false }).resumeStalled b
    else s1.openAfterBeatUp b
  else s

/-- The pace gate opens: every COMMITTED bolt not in HALT that closed for the point has ended its beat-up or skipped it (R131). -/
def gateOpenOp (t : Nat) (s : State) : State :=
  let busy := allBolts.any (fun b => s.committed b && (s.bolt b).gateHeld)
  if s.pick.gateShut && !busy && decide (s.now ≤ t) then
    { s.at t with pick := { s.pick with gateShut := false, gateAt := some t } }
  else s

/-- The bolt skips the beat-up of its point (R129, R130); a skipped final beat-up of a shutdown freezes it where it stands (R531). -/
def pickOverrunOp (b t : Nat) (s : State) : State :=
  let v := s.bolt b
  if s.cycling b && decide (v.stage = .drain) && v.t0.isNone && !v.hold && !v.unbounded && decide (s.now ≤ t ∧ v.grid + s.actDrainMax ≤ t) then
    let s1 := (s.at t).setBolt b { v.holdPace t with stage := .overrun, deferred := true, gateHeld := false,
                                                     dfrozen := decide (s.pwr.closing = some 1 ∧ s.pwr.closeHit = true ∧ s.pwr.closeG ≤ v.grid) }
    let s2 := (s1.count (rBoltStat b) 15 8 1).count (rBoltStat b) 3 0 1
    let run := s2.fld (rBoltStat b) 3 0
    let s3 := s2.pickEvent 1 (place b 28 + run)
    if s3.actLimit ≤ run then s3.overrunHalt b else s3
  else s

/-! Faults at their source (R133, R155). -/

/-- Does a cell of the reed take a clock that the edge detector watches and that can have an edge (R28): a wire, or through a pace tap or
PACE a net that is not pick-aligned (R88). -/
def State.watchesClock (s : State) (r : Nat) : Bool :=
  (List.range 16).any (fun c =>
    let v := s.liveCtl r c
    let w := s.xsel r c 11
    let free (g : Nat) : Bool := !s.netAligned g && (s.paceEdge (s.boltOf r) g true)
    decide (ctlMode v = 5) && (if ctlClkSrc v = 1 then free (ctlPaceNet v)
      else if 2 ≤ w ∧ w < 6 then free (s.tapNet r w) else (s.clockWire r c).isSome))

def clkEdgeOp (r t : Nat) (s : State) : State :=
  let b := s.boltOf r
  let v := s.bolt b
  let armed := v.armed || (v.hold && !v.holdDone)
  if s.committed b && armed && s.watchesClock r && decide (s.now ≤ t ∧ v.stage ≠ .rollback ∧ v.stage ≠ .halt) then
    ((s.at t).pickEvent 3 (place b 28 + place (reedP r) 16 + place (reedX r) 8 + reedY r)).detect b 0x04
      (place (reedP r) 16 + place (reedX r) 8 + reedY r)
  else s

/-- The bolt is in the brownout window (R155). -/
def Bolt.inWindow (v : Bolt) : Bool :=
  match v.stage with
  | .beatUp => true
  | .drain => v.t0.isSome
  | _ => false

def faultTripOp (p mv t : Nat) (s : State) : State :=
  if s.pwr.removed || decide (t < s.now) then s
  else
    let s1 := s.at t
    let hit := allBolts.filter (fun b => s.committed b && (s.bolt b).inWindow && (s.bolt b).panels.testBit p)
    if hit = [] then
      (s1.count (regAddr .power 0 0x10C) (8 * p + 7) (8 * p) 1).raise ⟨.power, 0⟩ 5 (BitVec.ofNat 32 (place p 28 + mv))
    else hit.foldl (fun s b => s.detect b 0x06 p) s1

/-! Rollback (Table 6-3). -/

/-- The fabric of the bolt that a rollback restores: its reeds outside a fenced region (Table 6-4). -/
def State.restoresReed (s : State) (b r : Nat) : Bool := decide (s.boltOf r = b) && !s.fenced (reedTile r)

/-- Does a shadow the restore reads fail its check (R152). -/
def State.shadowsBad (s : State) (b : Nat) : Bool :=
  s.cellShadowsBad (fun r => s.restoresReed b r) || s.twillShadowsBad b || s.queueShadowsBad b || s.creelLogsBad b

/-- A checkpoint shadow of a cell or of a twill block has changed (R152). -/
def upsetShadow (u : Option ShadowUpset) (s : State) : State :=
  match u with
  | none => s
  | some (.cell c m) =>
    let v := s.cell (cellReed c) (cellNo c)
    s.setCell (cellReed c) (cellNo c) { v with shA := v.shA != m.getLsbD 0, shB := v.shB != m.getLsbD 1, shO := v.shO != m.getLsbD 2,
                                               shS := v.shS != m.getLsbD 3, shPar := v.shPar != m.getLsbD 4 }
  | some (.twill n m) => s.setTwill n ((s.twill n).upsetShadow m)

/-- Steps 2 to 6: accesses are abandoned and the checkpoint is restored. -/
def State.restoreBolt (s : State) (b : Nat) : State :=
  let bad := s.shadowsBad b
  let s1 := (s.abandonPorts b).restoreCells (fun r => s.restoresReed b r)
  let s2 := (((((s1.restoreTwills b).revertCreels b).restoreQueues b).restoreBridges b).restoreFbps b).presentInputs b
  (s2.setBolt b { (s2.bolt b) with shadowBad := (s2.bolt b).shadowBad || bad }).settle

/-- A detected fault reaches the pick controller: tf (Table 6-3, step 1). A second one merges into a running rollback. DRAIN_CONFIRM stands
for the end of the commit point's cycle: a fault that arrives in that cycle comes before it and abandons the beat-up, and none arrives in
it after the commit (R137, R153; log entry 72). -/
def rollbackOp (b t : Nat) (s : State) : State :=
  let v := s.bolt b
  match v.pend with
  | none => s
  | some (cause, loc, _) =>
    if !s.committed b || decide (v.stage = .halt ∨ v.stage = .notReleased ∨ t < s.now) || (s.atShadowLoad b && decide (t = s.now)) then s
    else if v.stage = .rollback then (s.at t).setBolt b { v with pend := none }
    else
      let s1 := (s.at t).setBolt b { v with stage := .rollback, tf := t, pend := none, t0 := none, final := false, resuming := false }
      let s2 := (s1.setFld (rCause b) 23 16 cause).setReg (0x5100 + 4 * b) (BitVec.ofNat 32 loc)
      let s3 := (s2.setReg (rLastTime b) (BitVec.ofNat 32 t)).count (rRollbacks b) 31 16 1
      let s4 := ((s3.count (rRollbacks b) 1 0 1).setFld (rBoltStat b) 3 0 0).logBolt b 0x9 cause
      (s4.raiseCommit b 0x1 cause).restoreBolt b

/-- Step 7: the bolt resumes, or enters HALT (R152, R160). -/
def rollbackEndOp (b t : Nat) (s : State) : State :=
  let v := s.bolt b
  if v.stage = .rollback ∧ v.recov = false ∧ s.now ≤ t then
    let s1 := s.at t
    let s2 := if v.resuming then s1 else s1.setFld (rCause b) 15 0 (min 65535 (t - v.tf))
    if v.shadowBad then s2.enterHalt b 0x11
    else if !v.resuming && decide (3 ≤ s.fld (rRollbacks b) 1 0) then s2.enterHalt b 0x10
    else if v.forceHalt then s2.enterHalt b 0x14
    else s2.resumeOpen b
  else s

/-! BOLT_CMD (Table 6-8). -/

/-- ROLLBACK and HALT are refused for a DIRECT, empty or halted bolt, and while the fabric is not released (R156). -/
def State.boltCmdRefused (s : State) (b : Nat) : Bool :=
  !s.pick.released || !s.committed b || decide ((s.bolt b).stage ∈ [BoltStage.halt, .notReleased, .direct])

/-- RESUME is refused outside HALT, and for a HALT that RESUME does not leave (R163). -/
def State.resumeRefused (s : State) (b : Nat) : Bool :=
  decide ((s.bolt b).stage ≠ .halt) || decide (s.fld (rCause b) 31 24 = 0x11 ∨ s.fld (rCause b) 31 24 = 0x13)

def boltRollbackOp (b : Nat) (s : State) : State := s.detect b 0x07 0

def boltHaltOp (b : Nat) (s : State) : State :=
  let v := s.bolt b
  if v.stage = .rollback ∨ v.stage = .recovery then s.setBolt b { v with forceHalt := true } else s.enterHalt b 0x14

/-- HALT is left: logged and raised (Table 6-10, Table 17-7). -/
def State.leaveHalt (s : State) (b : Nat) : State := (s.logBolt b 0xB 0).raiseCommit b 0x3 0

def boltResumeOp (b : Nat) (s : State) : State :=
  let v := s.bolt b
  let s1 := (s.setFld (rRollbacks b) 1 0 0).setFld (rBoltStat b) 3 0 0
  (((s1.forgetRewoven b).leaveHalt b).setBolt b { v with stage := .rollback, tf := s.now, resuming := true, shadowBad := false }).restoreBolt b

def boltClearOp (b : Nat) (s : State) : State := (s.setFld (rRollbacks b) 31 16 0).setFld (rRollbacks b) 15 8 0

/-! HOLD (R172, R173). -/

/-- A bolt that waits for its recovery enters HOLD where it stands (R172). -/
def State.holdInRecovery (s : State) (b : Nat) : State :=
  (s.setBolt b { ((s.bolt b).holdPace s.now) with hold := true, holdDone := false, holdAt := s.now }).raiseCommit b 0x5 0

/-- A VFAB warning on a panel closes its COMMITTED bolts (R172). One in a rollback enters HOLD at its end (Table 6-4). -/
def State.holdPanel (s : State) (p : Nat) : State :=
  allBolts.foldl (fun s b =>
    let v := s.bolt b
    if !v.panels.testBit p || !s.committed b || v.hold then s
    else if v.stage = .recovery then s.holdInRecovery b
    else if s.cycling b then s.enterHold b else s) s

def holdEndOp (b t : Nat) (s : State) : State :=
  let v := s.bolt b
  if v.hold && !s.inWarning b && decide (s.now ≤ t) then
    let s1 := ((s.at t).setBolt b { v with hold := false, holdDone := false }).raiseCommit b 0x6 0
    if v.stage = .closed ∧ v.final = false then s1.resumeOpen b else s1
  else s

/-- A SLEEP (0) or shutdown (1) request closes the bolts: at the next grid point (R140), after a pending switch for SLEEP (Table 19-10), or
at the closing point of R141. -/
def State.requestClose (s : State) (kind : Nat) : State :=
  let far := s.pick.released && decide (s.now < s.actOrigin ∧ s.now + s.actPeriod < s.gridFrom (s.now + 1))
  let point := s.now + s.actGuard + 200
  let g := if far then point else if kind = 0 ∧ s.pick.pending.isSome = true then s.pick.g + 1 else s.now + 1
  let s1 := { s with pwr := { s.pwr with closing := some kind, closeG := g, closeHit := false, finalRaised := false,
                                         closePoint := if far then some point else none } }
  (allBolts.foldl (fun s b =>
    let v := s.bolt b
    if v.hold && v.holdDone then s.setBolt b { v with final := true } else s) s1).checkFinal

/-! Live registers (Tables 5-6 and 6-8). -/

def State.pickView (s : State) (off : Nat) : Option Word :=
  let phases (base : Nat) : Option Word :=
    some (BitVec.ofNat 32 ((List.range 8).foldl (fun a b => a + place (s.bolt (base + b)).phase (4 * b)) 0))
  if off = 0x00C then some (BitVec.ofNat 32 (flag s.pick.pending.isSome 1 + flag s.gridRuns 0))
  else if off = 0x080 then some (loHalf (s.gridFrom (s.now + 1)))
  else if off = 0x084 then some (hiHalf (s.gridFrom (s.now + 1)))
  else if off = 0x088 then phases 0
  else if off = 0x08C then phases 8
  else none

def State.commitView (s : State) (off : Nat) : Option Word :=
  if off = 0x00C then
    some (BitVec.ofNat 32 (allBolts.foldl (fun a b =>
      a + flag (s.bolt b).hold (16 + b) + flag (decide ((s.bolt b).stage = .halt)) b) 0))
  else none

end Sys2Proof.Machine
end

