-- ==== Sys2Proof/Machine/Checks.lean ====
section
/-!
DEFINITION. The checks of Table 2-5 that look at the value of a write alone, and what an accepted write stores (R39, R46, R47).
-/

namespace Sys2Proof.Machine

/-- The bits of a field. -/
def Field.mask (f : Field) : Nat := (2 ^ (f.hi + 1 - f.lo) - 1) * 2 ^ f.lo

/-- The bits of the fields that pass a test. -/
def maskOf (fs : List Field) (p : Acc → Bool) : Nat := fs.foldl (fun m f => if p f.acc then m ||| f.mask else m) 0

/-- Check 9: a bit that no field covers is RSV. -/
def rsvBad (fs : List Field) (v : Word) : Bool := decide (v.toNat &&& (2 ^ 32 - 1 - maskOf fs (fun _ => true)) ≠ 0)

/-- A field of the given access codes differs between two values. -/
def differs (fs : List Field) (p : Acc → Bool) (v w : Word) : Bool :=
  decide ((v.toNat ^^^ w.toNat) &&& maskOf fs p ≠ 0)

/-- Check 10, for the fields whose description lists values. -/
def encBad (fs : List Field) (v : Word) : Bool :=
  fs.any (fun f => !f.enc.isEmpty && !f.enc.any (fun e => decide (e.1 ≤ fieldOf v f.hi f.lo ∧ fieldOf v f.hi f.lo ≤ e.2)))

/-- What an accepted write leaves in the register: RO fields keep their value, W1C clears, W1S sets, WO reads 0. -/
def writtenWord (fs : List Field) (old v : Word) : Word :=
  BitVec.ofNat 32 (fs.foldl (fun n f =>
    match f.acc with
    | .ro => n + (old.toNat &&& f.mask)
    | .rw | .rwl => n + (v.toNat &&& f.mask)
    | .w1c => n + (old.toNat &&& (f.mask - (v.toNat &&& f.mask)))
    | .w1s => n + ((old.toNat ||| v.toNat) &&& f.mask)
    | .wo => n) 0)

/-- The register as its log entry shows it: each WO field with the value written to it (Table 17-7). -/
def loggedWord (fs : List Field) (new v : Word) : Word := new ||| (v &&& BitVec.ofNat 32 (maskOf fs (fun a => decide (a = .wo))))

/-- What is undefined in a register beside the listed values of its fields. -/
def specialEncBad (s : State) (p : Page) (off : Nat) (v : Word) : Bool :=
  match p.kind with
  | .pinmap => decide (0x100 ≤ off) && decide (off % 8 = 0) && !pinMapDefined v
  | .iobank => decide (off = 0x040) && !vccoDefined p.inst (fieldOf v 2 0)
  | .pace => decide (off = 0x04C) && decide (fieldOf v 8 0 % 2 = 1)
  | .hostper =>
    decide (0x100 ≤ off) && decide (off % 0x20 = 0x04) && hpLenBad ((off - 0x100) / 0x20) (fieldOf v 17 16) (fieldOf v 4 0)
  | .twill => decide (0x100 ≤ off) && decide (off % 0x20 = 0x14) && injectBad (fieldOf v 27 26) (fieldOf v 5 0)
  | .creel =>
    decide (off = 0x060) && ((bitOf v 10 && decide (2 ≤ fieldOf v 31 30)) ||
      (decide (s.creelMode p.inst = modeMirror) && decide (512 ≤ fieldOf v 9 0)))
  | .pattern =>
    decide (0x100 ≤ off) &&
      ((decide (off % 0x40 = 0x08) && decide (s.fld (p.base + off - 8) 29 28 = 3 ∧ fieldOf v 31 16 = 0)) ||
       (decide (off % 0x40 = 0x00) && decide (fieldOf v 29 28 = 3 ∧ s.fld (p.base + off + 8) 31 16 = 0)))
  | .dma =>
    let ch := p.base + 0x100 + (off - 0x100) / 0x80 * 0x80
    decide (0x100 ≤ off) &&
      ((decide (off % 0x80 = 0x20) && decide (2 ^ s.fld (ch + 0x04) 12 8 ≤ fieldOf v 15 0)) ||
       (decide (off % 0x80 = 0x2C) && decide (2 ^ s.fld (ch + 0x04) 4 0 ≤ fieldOf v 15 0)))
  | .config => decide (off = 0x044) && decide (fieldOf v 2 0 = 1 ∨ fieldOf v 2 0 = 2) && decide (fieldOf v 5 4 = 1) &&
      decide (s.fld 0x605C 31 2 = 0)
  | _ => false

/-- Checks 9 and 10 of Table 2-5: the code of the first that fails. -/
def State.valueBad (s : State) (p : Page) (off : Nat) (v : Word) : Option Nat :=
  let fs := fieldsAt p off
  if rsvBad fs v then some codeReservedBit
  else if encBad fs v || specialEncBad s p off v then some codeBadEncoding
  else none

end Sys2Proof.Machine
end

