-- ==== Sys2Proof/Machine/FrameCheck.lean ====
section
/-!
DEFINITION. The frames of a Kenbin image: their addresses, the checks on their fields, and what they attach to the fabric
(chapter 12). A frame is read through `fb`, its byte at an offset. A check that fails gives its offset and code.
-/

namespace Sys2Proof.Machine

/-- Rejection codes of Table 12-14. -/
def rejBadField : Nat := 0x0C
def rejBadCombination : Nat := 0x0D
def rejBadTakeover : Nat := 0x0E

/-! Frame addresses (Tables 12-5, 12-6 and 12-10). -/

def framePanel (f : Nat) : Nat := bits f 23 22
def frameKind (f : Nat) : Nat := bits f 21 19
def frameCol (f : Nat) : Nat := bits f 18 11
def frameRow (f : Nat) : Nat := bits f 10 3
def frameSub (f : Nat) : Nat := bits f 2 0

def unitPanel (u : Nat) : Nat := if u < 20 then u / 5 else if u < 32 then (u - 20) / 3 else 0
def unitSubs (u : Nat) : List Nat := if u < 20 then [0, 1, 2] else if u < 32 then [1, 2] else if u < 36 then List.range 8 else [1, 2]
/-- The panel that sends over a seam on side `sub` (Table 4-5, Table 12-6). -/
def seamSender (seam sub : Nat) : Nat := [[0, 1], [2, 3], [0, 2], [1, 3]].getD seam [] |>.getD sub 0

def frameExists (f : Nat) : Bool :=
  decide (f < 2 ^ 24) &&
  (match frameKind f with
   | 0 => decide (frameSub f = 0)
   | 1 => decide (frameCol f < 8 ∧ frameSub f = 0)
   | 2 => decide (frameCol f < 4 ∧ frameSub f = 0)
   | 3 => decide (frameCol f < 40 ∧ frameRow f = 0 ∧ framePanel f = unitPanel (frameCol f) ∧ frameSub f ∈ unitSubs (frameCol f))
   | 4 => decide (frameCol f < 4 ∧ frameRow f = 0 ∧ frameSub f < 2 ∧ framePanel f = seamSender (frameCol f) (frameSub f))
   | _ => false)

/-- The creel or twill block of a frame. -/
def frameCreel (f : Nat) : Nat := framePanel f * 2048 + frameCol f * 256 + frameRow f
def frameTwill (f : Nat) : Nat := framePanel f * 1024 + frameCol f * 256 + frameRow f

/-- The frame group of a frame (R309): a tile, 1024 + u for a unit, 1064 + s for a seam. -/
def frameGroup (f : Nat) : Nat :=
  match frameKind f with
  | 0 => tileOf (framePanel f) (frameCol f) (frameRow f)
  | 1 => creelTile (frameCreel f)
  | 2 => twillTile (frameTwill f)
  | 3 => 1024 + frameCol f
  | _ => 1064 + frameCol f

/-- Every frame of a tile's group (R309). -/
def tileFrames (t : Nat) : List Nat :=
  let p := t / 256
  let ty := t % 256 / 16
  let tx := t % 16
  let rows := (List.range 16).map (fun k => 16 * ty + k)
  (List.range 16).flatMap (fun c => rows.map (fun y => frameAddr p 0 (16 * tx + c) y 0)) ++
  (if tx % 2 = 0 then rows.map (fun y => frameAddr p 1 (tx / 2) y 0) else []) ++
  (if tx % 4 = 0 then rows.map (fun y => frameAddr p 2 (tx / 4) y 0) else [])

/-- The I/O bank and seam frames of a panel, in ascending order. -/
def panelTail (p : Nat) : List Nat :=
  ((List.range 40).filter (fun u => unitPanel u == p)).flatMap (fun u => (unitSubs u).map (fun k => frameAddr p 3 u 0 k)) ++
  ((List.range 4).flatMap (fun m => ((List.range 2).filter (fun k => seamSender m k == p)).map (fun k => frameAddr p 4 m 0 k)))

/-- The frame after `f` in address order; none after the last. -/
def nextFrame (f : Nat) : Option Nat :=
  let p := framePanel f
  let top := match frameKind f with | 0 => 255 | 1 => 7 | _ => 3
  if frameKind f < 3 then
    if frameRow f < 255 then some (f + 8)
    else if frameCol f < top then some (frameAddr p (frameKind f) (frameCol f + 1) 0 0)
    else if frameKind f < 2 then some (frameAddr p (frameKind f + 1) 0 0 0)
    else (panelTail p).head?
  else
    match (panelTail p).find? (fun g => decide (f < g)) with
    | some g => some g
    | none => if p < 3 then some (frameAddr (p + 1) 0 0 0 0) else none

/-! Fields of a frame. -/

/-- `n` bytes of a frame from an offset, little-endian. -/
def fieldAt (fb : Nat → Nat) (off : Nat) : Nat → Nat
  | 0 => 0
  | n + 1 => fb off + 256 * fieldAt fb (off + 1) n

abbrev Faults := List (Nat × Nat)

def fault (off : Nat) (bad : Bool) (code : Nat) : Faults := if bad then [(off, code)] else []

/-- Every byte from `lo` to below `hi` must be 0. -/
def zeroBytes (fb : Nat → Nat) (lo hi : Nat) : Faults :=
  (List.range (hi - lo)).flatMap (fun k => fault (lo + k) (decide (fb (lo + k) ≠ 0)) rejBadField)

/-- A slot byte (R329, Table 12-11): unused, an input select, or an output. -/
inductive SlotKind where
  | unused | input | output
deriving DecidableEq, Repr

def slotFault (k : SlotKind) (v : Nat) : Bool :=
  match k with
  | .unused => decide (v ≠ 0)
  | .input => decide (160 < v)
  | .output => !(decide (v = 0) || decide (0x80 ≤ v ∧ v ≤ 0x9F))

def slotFaults (fb : Nat → Nat) (base count : Nat) (kind : Nat → SlotKind) : Faults :=
  (List.range count).flatMap (fun w => fault (base + w) (slotFault (kind w) (fb (base + w))) rejBadField)

/-! Reed frames (R328, R83, R93, R98). -/

/-- An undefined encoding of a cell control field. -/
def ctlFieldBad (v : Nat) : Bool := decide (5 < ctlMode v) || decide (ctlAckJoin v ∈ [1, 2, 3]) || decide (ctlClkSrc v = 3)

/-- The outgoing track of lease index `i` of a reed is absent (R93, R94). -/
def trackAbsent (p x y i : Nat) : Bool :=
  let d := i / 16
  let j := i % 16
  let len := if j < 8 then 1 else if j < 12 then 4 else 16
  let inside := match d with
    | 0 => decide (x + len ≤ 255)
    | 1 => decide (len ≤ x)
    | 2 => decide (y + len ≤ 255)
    | _ => decide (len ≤ y)
  let seam := decide (j < 2) && (match d with
    | 0 => decide (x = 255 ∧ p % 2 = 0)
    | 1 => decide (x = 0 ∧ p % 2 = 1)
    | 2 => decide (y = 255 ∧ p < 2)
    | _ => decide (y = 0 ∧ 2 ≤ p))
  !inside && !seam

def reedFaults (f : Nat) (fb : Nat → Nat) : Faults :=
  let ctl (c : Nat) : Nat := fieldAt fb (0x080 + 5 * c) 5
  let rgj := fieldAt fb 0x1B4 6
  let sel (off : Nat) : Faults := fault off (decide (135 < fb off)) rejBadField
  (List.range 16).flatMap (fun c =>
    if ctlFieldBad (ctl c) then [(0x080 + 5 * c, rejBadField)]
    else fault (0x080 + 5 * c) (ctlBad ctl rgj (frameRow f) c) rejBadCombination) ++
  (List.range 228).flatMap (fun k => sel (0x0D0 + k)) ++
  (if rgj.testBit 47 then [(0x1B4, rejBadField)] else fault 0x1B4 (rgjBad rgj) rejBadCombination) ++
  (List.range 64).flatMap (fun i =>
    if 160 < fb (0x1BA + i) then [(0x1BA + i, rejBadField)]
    else fault (0x1BA + i) (decide (fb (0x1BA + i) ≠ 0) && trackAbsent (framePanel f) (frameCol f) (frameRow f) i) rejBadCombination) ++
  fault 0x1FA (decide (2 ^ 21 ≤ fieldAt fb 0x1FA 3)) rejBadField ++ zeroBytes fb 0x1FD 0x200

/-! Creel frames (R331, R180, R206). -/

/-- The width of an address bus that names `n` addresses. -/
def addrWidth (n : Nat) : Nat := Nat.log2 (2 * n - 1)

/-- The kinds of the slots of a creel port. -/
def creelSlotKind (cfg q : Nat) (portB on : Bool) (w : Nat) : SlotKind :=
  let mode := bits cfg 31 29
  let shape := if portB then bits cfg 26 25 else bits cfg 28 27
  let cell (b : Bool) (k : SlotKind) : SlotKind := if b then k else .unused
  if !on then .unused
  else if mode = modeQueue then
    let width := bits q 5 0 + 1
    if portB then
      if w < 2 then .input
      else if w < 84 then .unused
      else if w < 89 then .output
      else cell (decide (w < 89 + width)) .output
    else if w < 4 then .input
    else if w < 20 then .unused
    else if w < 84 then cell (decide (w < 20 + width)) .input
    else cell (decide (w < 87)) .output
  else
    let size := (if mode = modeMirror then 512 else 1024) * 2 ^ shape * (bits cfg 20 17 + 1)
    let width := 64 / 2 ^ shape
    if w < 3 then .input
    else if w < 20 then cell (decide (w < 3 + addrWidth size)) .input
    else if w < 84 then cell (decide (w < 20 + width)) .input
    else if w < 87 then .output
    else if w < 89 then .unused
    else cell (decide (w < 89 + width)) .output

/-- A queue setting outside Table 8-1 or R206. -/
def queueCfgBad (cfg q : Nat) : Bool :=
  let width := bits q 5 0 + 1
  let top := if q.testBit 18 then 62 else if q.testBit 19 then 63 else 64
  decide (top < width) || decide (bits cfg 20 17 ≠ 0) || decide (bits cfg 16 13 ≠ 0) || decide (bits cfg 28 25 ≠ 0) ||
  (cfg.testBit 24 == decide (bits q 31 30 = 2)) || (cfg.testBit 23 == decide (bits q 29 28 = 2)) ||
  (decide (bits q 31 30 = 2) && decide (bits q 27 24 ≠ 0)) || (decide (bits q 29 28 = 2) && decide (bits q 23 20 ≠ 0))

def creelFaults (f : Nat) (fb : Nat → Nat) : Faults :=
  let cfg := fieldAt fb 0 4
  let q := fieldAt fb 4 4
  let queue := decide (bits cfg 31 29 = modeQueue)
  let len := bits cfg 20 17
  let pos := bits cfg 16 13
  (if 4 < bits cfg 31 29 ∨ bits cfg 12 0 ≠ 0 ∨ cfg.testBit 21 = true then [(0, rejBadField)]
   else fault 0 (decide (len < pos) || decide (frameRow f < pos) || decide (255 < frameRow f - pos + len) ||
      (decide (pos ≠ 0) && (cfg.testBit 24 || cfg.testBit 23)) || (queue && queueCfgBad cfg q)) rejBadCombination) ++
  fault 4 (if queue then decide (bits q 31 30 = 3) || decide (bits q 29 28 = 3) || decide (bits q 17 6 ≠ 0) else decide (q ≠ 0)) rejBadField ++
  fault 8 (decide (4 ≤ fieldAt fb 8 4)) rejBadField ++ zeroBytes fb 0x00C 0x010 ++
  slotFaults fb 0x010 153 (creelSlotKind cfg q false (cfg.testBit 24)) ++ zeroBytes fb 0x0A9 0x0B0 ++
  slotFaults fb 0x0B0 153 (creelSlotKind cfg q true (cfg.testBit 23)) ++ zeroBytes fb 0x149 0x200

/-! Twill frames (R332, R248). -/

def twillFaults (f : Nat) (fb : Nat → Nat) : Faults :=
  let cfg := fieldAt fb 0 4
  let mode := bits cfg 31 29
  (if 4 < mode ∨ bits cfg 28 27 = 3 ∨ bits cfg 22 0 ≠ 0 then [(0, rejBadField)]
   else fault 0 ((decide (bits cfg 28 27 ≠ 0) && decide (mode ≠ 1 ∧ mode ≠ 2)) ||
      (decide (mode = 3) && (cfg.testBit 26 || cfg.testBit 25)) ||
      (cfg.testBit 24 && decide (mode = 1 ∨ mode = 0 ∨ frameRow f = 0)) ||
      (cfg.testBit 23 && decide (mode = 0 ∨ frameRow f = 255))) rejBadCombination) ++
  fault 4 (decide (2 ≤ fieldAt fb 4 4)) rejBadField ++ zeroBytes fb 0x008 0x010 ++
  slotFaults fb 0x010 145 (fun w => if mode = 0 then .unused else if w < 77 then .input else .output) ++ zeroBytes fb 0x0A1 0x200

/-! I/O bank frames (R333 to R336, R252). -/

/-- A bridge setting outside Table 10-1. -/
def svCfgBad (n cfg : Nat) : Bool :=
  let mode := bits cfg 31 29
  let out := cfg.testBit 28
  let width := bits cfg 27 22 + 1
  let dom := bits cfg 21 16
  let pace := decide (28 ≤ dom ∧ dom ≤ 59)
  let pulse := decide (mode = brCount ∨ mode = brMerge)
  if mode = brOff then decide (cfg ≠ 0)
  else (pulse && decide (width ≠ 1)) ||
    (if n < 160 then !pace || decide (mode = brBusport)
     else if n < 256 then decide (mode ≠ brQueue) || decide (width ≠ 64) || (out != decide (4 ≤ n % 8)) ||
       !(pace || decide (dom = (if n % 8 < 4 then 16 else 4) + (n - 160) / 8))
     else if n < 288 then decide (mode ≠ brBusport) || out || decide (width ≠ 64 ∨ dom ≠ 1)
     else !(decide (mode = brQueue) || pulse) || (out != decide (n < 304)) || decide (dom ≠ 1))

/-- The slots of a fabric channel: an IN channel drives F_REQ and F_DATA, an OUT channel F_ACK. -/
def channelSlot (out : Bool) (w : Nat) : SlotKind := if (w = 1) = (out = true) then .output else .input

/-- SV_CFG, the base reed and the slots of a bridge record; `base` is its offset in the frame. -/
def bridgeFaults (n : Nat) (fb : Nat → Nat) (base : Nat) : Faults :=
  let cfg := fieldAt fb base 4
  if bits cfg 31 29 = brOff then zeroBytes fb base (base + 0x80)
  else
    (if bits cfg 31 29 = 7 ∨ bits cfg 15 4 ≠ 0 then [(base, rejBadField)] else fault base (svCfgBad n cfg) rejBadCombination) ++
    (if fieldAt fb (base + 6) 2 ≠ 0 then [(base + 4, rejBadField)] else fault (base + 4) (decide (fb (base + 4) % 8 ≠ 0)) rejBadTakeover) ++
    slotFaults fb (base + 8) 66 (channelSlot (cfg.testBit 28)) ++ zeroBytes fb (base + 0x4A) (base + 0x80)

/-- A fabric bus port frame (R335). -/
def fbpFaults (n : Nat) (fb : Nat → Nat) : Faults :=
  let cfg := fieldAt fb 0 4
  let pc := fieldAt fb 4 4
  let on := decide (bits cfg 31 29 = brBusport)
  (if bits cfg 31 29 = 7 ∨ bits cfg 15 4 ≠ 0 then [(0, rejBadField)] else fault 0 (svCfgBad (256 + n) cfg) rejBadCombination) ++
  fault 4 (decide (bits pc 29 4 ≠ 0)) rejBadField ++
  (if fieldAt fb 10 2 ≠ 0 then [(8, rejBadField)] else fault 8 (decide (fb 8 % 8 ≠ 0)) rejBadTakeover) ++ zeroBytes fb 0x00C 0x010 ++
  slotFaults fb 0x010 264 (fun w => if on then channelSlot (decide (w / 66 = 1 ∨ w / 66 = 2)) (w % 66) else .unused) ++
  zeroBytes fb 0x118 0x200

/-- The fabric I/O port records of a bank (R336). -/
def portFaults (fb : Nat → Nat) : Faults :=
  (List.range 48).flatMap (fun m =>
    slotFaults fb (8 * m + 2) 2 (fun _ => .input) ++ slotFaults fb (8 * m + 4) 1 (fun _ => .output) ++
    zeroBytes fb (8 * m + 5) (8 * m + 8)) ++ zeroBytes fb 0x180 0x200

def unitFaults (f : Nat) (fb : Nat → Nat) : Faults :=
  let u := frameCol f
  let k := frameSub f
  if 32 ≤ u ∧ u < 36 then fbpFaults (8 * (u - 32) + k) fb
  else if k = 0 then portFaults fb
  else (List.range 4).flatMap (fun i => bridgeFaults (8 * u + 4 * (k - 1) + i) fb (0x080 * i))

/-- The checks on one frame, in ascending byte order (R346). -/
def frameFaults (f : Nat) (fb : Nat → Nat) : Faults :=
  match frameKind f with
  | 0 => reedFaults f fb
  | 1 => creelFaults f fb
  | 2 => twillFaults f fb
  | 3 => unitFaults f fb
  | _ => zeroBytes fb 0x040 0x200

/-! Takeovers (R329 to R336). -/

/-- The outputs among `count` slots from offset `at_`, at the attach reeds of a base reed. -/
def tapsOf (fb : Nat → Nat) (at_ count panel x0 y : Nat) (block : TapBlock) (unit : Nat) (isOut : Nat → Bool) : List (Nat × TapSrc) :=
  (List.range count).filterMap (fun w =>
    let v := fb (at_ + w)
    if isOut w && decide (0x80 ≤ v) then some (32 * reedNo panel (x0 + w % 8) y + v % 32, ⟨block, unit, w⟩) else none)

/-- The taps a frame takes over: tap `t` of reed `r` is `32 r + t`. -/
def frameTaps (f : Nat) (fb : Nat → Nat) : List (Nat × TapSrc) :=
  let p := framePanel f
  let y := frameRow f
  let outSlot (out : Bool) (w : Nat) : Bool := decide (channelSlot out w = .output)
  match frameKind f with
  | 1 =>
    let base (s : Nat) : Nat := 32 * frameCol f + (if (fb 8).testBit s then 16 else 8)
    tapsOf fb 0x010 153 p (base 0) y .creelA (frameCreel f) (fun w => decide (84 ≤ w)) ++
    tapsOf fb 0x0B0 153 p (base 1) y .creelB (frameCreel f) (fun w => decide (84 ≤ w))
  | 2 => tapsOf fb 0x010 145 p (64 * frameCol f + (if (fb 4).testBit 0 then 32 else 24)) y .twill (frameTwill f) (fun w => decide (77 ≤ w))
  | 3 =>
    let u := frameCol f
    let k := frameSub f
    if 32 ≤ u ∧ u < 36 then
      tapsOf fb 0x010 264 p (fb 8) (fb 9) .fbp (8 * (u - 32) + k) (fun w => outSlot (decide (w / 66 = 1 ∨ w / 66 = 2)) (w % 66))
    else if k = 0 then
      (List.range 48).filterMap (fun m =>
        if 0x80 ≤ fb (8 * m + 4) then
          some (32 * reedNo p (fb (8 * m)) (fb (8 * m + 1)) + fb (8 * m + 4) % 32, ⟨.pin, 48 * u + m, 4⟩)
        else none)
    else
      (List.range 4).flatMap (fun i =>
        tapsOf fb (0x080 * i + 8) 66 p (fb (0x080 * i + 4)) (fb (0x080 * i + 5)) .bridge (8 * u + 4 * (k - 1) + i)
          (outSlot ((fb (0x080 * i + 3)).testBit 4)))
  | _ => []

/-- The blocks a frame describes. -/
def describes (f : Nat) (e : TapSrc) : Bool :=
  match e.block with
  | .creelA | .creelB => decide (f = creelFrame e.unit)
  | .twill => decide (f = twillFrame e.unit)
  | .bridge => decide (f = (bridgeRecord e.unit).1)
  | .fbp => decide (f = (bridgeRecord (256 + e.unit)).1)
  | .pin => decide (f = portFrame e.unit)

/-! Frames as configuration memory holds them. -/

/-- The byte of a frame in configuration memory, as a block sees it. -/
def State.liveByte (s : State) (f off : Nat) : Nat := s.frameByte f off

/-- The taps of a frame's blocks as the frame now has them. -/
def State.retap (s : State) (f : Nat) : State :=
  let kept := s.taps.filter (fun e => match e.2 with | some src => !describes f src | none => true)
  { s with taps := (frameTaps f (s.liveByte f)).foldl (fun m e => SMap.set none m e.1 (some e.2)) kept }

/-- The settings a hard block takes from its frame: the CREEL, TWILL, SELVEDGE and FBP configuration registers, and its taps. -/
def State.loadSettings (s : State) (f : Nat) : State :=
  let w (off : Nat) : Word := BitVec.ofNat 32 (s.frameBytes f off 4)
  let s1 := match frameKind f with
    | 1 =>
      let n := frameCreel f
      let own := (s.reg (rCreelCfg n)) &&& 0x0020_000F#32
      (s.setReg (rCreelCfg n) ((w 0 &&& 0xFFDF_E000#32) ||| own)).setReg (creelBase n + 0x100) (w 4)
    | 2 =>
      let n := frameTwill f
      s.setReg (rTwCfg n) ((w 0 &&& 0xFF80_0000#32) ||| (s.reg (rTwCfg n) &&& 0xF#32))
    | 3 =>
      let u := frameCol f
      let k := frameSub f
      if 32 ≤ u ∧ u < 36 then
        let n := 8 * (u - 32) + k
        (s.setReg (rSvCfg (256 + n)) (w 0)).setReg (rFbpCfg n) (w 4)
      else if k = 0 then s
      else (List.range 4).foldl (fun s i => s.setReg (rSvCfg (8 * u + 4 * (k - 1) + i)) (BitVec.ofNat 32 (s.frameBytes f (0x080 * i) 4))) s
    | _ => s
  if 1 ≤ frameKind f ∧ frameKind f ≤ 3 then s1.retap f else s1

/-- A bit of a word in use changed: the block it configures follows the bits as stored (R99, R311). -/
def State.reload (s : State) (f : Nat) : State :=
  if s.pick.released && (decide (2 < frameKind f) || !s.fenced (frameGroup f)) then (s.loadSettings f).settle else s.settle

end Sys2Proof.Machine
end

