-- ==== Sys2Proof/Machine/Load.lean ====
section
/-!
DEFINITION. The configuration engine: starts, fences, release, rejection and the FIFO (chapter 11).
-/

namespace Sys2Proof.Machine

def rCfgCtrl : Nat := 0x6040
def rCfgCmd : Nat := 0x6044
def rCfgStat : Nat := 0x6048
def rCfgReject : Nat := 0x604C
def rCfgRejectOff : Nat := 0x6050
def rCfgSrcLen : Nat := 0x605C
def rCfgProgress : Nat := 0x6064
def rCfgCounts : Nat := 0x6068
def rCfgDiscarded : Nat := 0x606C
def rCfgReleaseTime : Nat := 0x6070
def rCfgImageId : Nat := 0x6074
def rCfgFifo : Nat := 0x6080
def rCfgDigest (k : Nat) : Nat := 0x60C0 + 4 * k

/-- Engine states (Table 11-3). -/
def engIdle : Nat := 0
def engFencing : Nat := 1
def engReceiving : Nat := 2
def engVerifying : Nat := 3
def engLoaded : Nat := 4
def engClearing : Nat := 5
def engRecovering : Nat := 6

def State.engState (s : State) : Nat := s.fld rCfgStat 31 28
def State.setEng (s : State) (k : Nat) : State := s.setFld rCfgStat 31 28 k
def State.engReweave (s : State) : Bool := s.bit rCfgStat 25
def State.engSource (s : State) : Nat := s.fld rCfgStat 27 26
def State.engFeeder (s : State) : Nat := s.fld rCfgStat 21 16
def State.withEng (s : State) (e : Engine) : State := { s with eng := e }

/-- Sources of CFG_CMD. -/
def srcFifo : Nat := 0
def srcHost : Nat := 1
def srcQspi : Nat := 2

/-- Rejection codes that no field check gives (Table 12-14). -/
def rejSourceFail : Nat := 0x01
def rejLoadRefused : Nat := 0x02
def rejTruncated : Nat := 0x13
def rejAborted : Nat := 0x19

/-- An event of the CONFIG page: 0 LOADED, 1 RELEASED, 2 REJECTED, 3 FENCED (R314). -/
def State.cfgEvent (s : State) (k : Nat) : State := s.pulse .config 0 k

/-! Life cycle and keys as the engine sees them (Tables 11-2 and 18-2). -/

def rLcStat : Nat := 0x0050
def rKeyStat : Nat := 0x0054
def State.lcState (s : State) : Nat := s.fld rLcStat 3 0
def State.safeState (s : State) : Bool := s.bit rLcStat 11
def lcProvisioned : Nat := 2
def lcSealed : Nat := 4
def lcRma : Nat := 5
def lcRetired : Nat := 6

/-- A key slot holds a valid key (Table 18-9). -/
def State.keyValid (s : State) (slot : Nat) : Bool := decide (s.fld rKeyStat (2 * slot + 1) (2 * slot) = 1)

/-- Table 11-2 refuses the load. -/
def State.loadRefused (s : State) (m src : Nat) : Bool :=
  decide (s.lcState = 0 ∨ s.lcState = lcRetired) || (decide (s.lcState = lcSealed) && decide (m = 5 ∧ src = srcFifo))

/-- Release is refused in SAFE_STATE without DIAG_EN (R302, R536). -/
def State.releaseClosed (s : State) : Bool :=
  s.safeState && !(s.bit (regAddr .test 0 0x040) 30 && decide (s.lcState = lcProvisioned ∨ s.lcState = lcRma))

/-! Stopping the fabric (R301, R303). -/

/-- The registers that hold settings a block takes from its frame. -/
def isSetting (a : Nat) : Bool :=
  match pageOf a with
  | some ⟨.creel, _⟩ => decide (a % 0x1000 = 0x040 ∨ a % 0x1000 = 0x100)
  | some ⟨.twill, _⟩ => decide (0x100 ≤ a % 0x1000 ∧ a % 0x20 = 0)
  | some ⟨.selvedge, _⟩ => decide (0x100 ≤ a % 0x1000 ∧ a % 0x20 = 0)
  | some ⟨.fbp, _⟩ => decide (0x100 ≤ a % 0x1000 ∧ a % 0x20 = 0)
  | _ => false

/-- A START_FULL stops every bolt, and nothing of the fabric's state is kept (R303). Pins return to the configuration state. -/
def State.stopFabric (s : State) : State :=
  let s1 := match s.pick.pending with | some set => s.switchTo set | none => s
  { s1 with
    bolts := [], cells := [], joins := [], cfgMem := [], taps := [], portIn := [], portSample := [], held := [],
    creels := [], arrays := [], twills := [], bridges := [], fbps := [], pickedIn := [], pinsCfg := true,
    pins := s1.pins.foldl (fun m e => SMap.set {} m e.1 { level := e.2.level, filt := e.2.filt }) [],
    boot := { s1.boot with cfgDone := false }, issued := s1.issued.map (fun e => { e with tag := none }),
    regs := s1.regs.filter (fun e => !isSetting e.1 && !(decide (0x8080 ≤ e.1) && decide (e.1 < 0xC000) && decide (0x080 ≤ e.1 % 0x1000))),
    pick := { s1.pick with released := false, gateShut := false, gateAt := if s1.pick.gateShut then some s1.now else s1.pick.gateAt,
                           last := none, pending := none } }

/-! Starts (R296, R304). -/

/-- The engine's view of a new load. -/
def State.beginLoad (s : State) (m src : Nat) (reweave : Bool) : State :=
  let stat := place engReceiving 28 + place src 26 + flag reweave 25 + place m 16
  ((s.setReg rCfgStat (BitVec.ofNat 32 stat)).setReg rCfgProgress 0).withEng
    { s.eng with words := [], got := [], fifo := [], asked := 0, parts := [], sect := 1, inside := false, secOff := 0, secEnd := 0, left := 0, total := 0,
                 imageId := 0, iv := [], settings := [], region := [], fencedAll := false, frames := [], pinmap := [], inits := [],
                 domains := [], authKind := 0, digest := 0, interrupted := none, due := false, dropping := false }

/-- START_FULL in the fabric's eyes: everything stops, and recoveries of the old configuration end. -/
def startFull (m src : Nat) (s : State) : State :=
  let s1 := s.stopFabric
  let s2 := ((s1.withEng { s1.eng with stopped := true, recovs := [], groups := [], rewoven := [] }).setReg 0x705C 0).beginLoad m src false
  s2.settle

def startReweave (m src : Nat) (s : State) : State := s.beginLoad m src true

/-- A load is in progress, perhaps paused by a recovery write; a recovery write alone is none (Table 11-3). -/
def State.loadRuns (s : State) : Bool :=
  decide (s.engState ≠ engIdle ∧ s.engState ≠ engClearing) && !(decide (s.engState = engRecovering) && decide (s.eng.interrupted = some engIdle))

/-- A START is refused (Table 11-5). -/
def State.startFullRefused (s : State) : Bool :=
  decide (s.engState ≠ engIdle) && !(s.engReweave && (s.loadRuns || decide (s.engState = engClearing)))
def State.startReweaveRefused (s : State) : Bool := decide (s.engState ≠ engIdle) || !s.pick.released

/-! Rejection and abort (R299, R300). -/

/-- A word for CFG_FIFO, and one that waits there for room (R294). -/
def Issued.fifoWrite (e : Issued) : Bool := decide (e.addr = rCfgFifo) && e.write && decide (e.be = 15)
def Issued.fifoHeld (e : Issued) : Bool := e.fifoWrite && e.checked

/-- The load ends with a code: recorded, logged and raised, and what it wrote is to be cleared. -/
def State.rejectLoad (s : State) (code sect off : Nat) : State :=
  let s1 := (s.setReg rCfgReject (BitVec.ofNat 32 (place sect 16 + code))).setReg rCfgRejectOff (BitVec.ofNat 32 off)
  let s2 := (s1.count rCfgCounts 15 8 1).logEntry 63 0x3 rCfgStat (BitVec.ofNat 32 (place code 24 + flag s.engReweave 23))
  let s3 := s2.withEng { s2.eng with due := false, interrupted := none, dropping := decide (s.engSource = srcFifo), got := [], fifo := [], parts := [] }
  let held := s3.issued.filter (fun e => e.fifoHeld)
  let later := s3.slotWait.filter (fun e => e.fifoWrite && decide (e.master = s3.engFeeder))
  let s4 := s3.setReg rCfgDiscarded (BitVec.ofNat 32 (satAdd (2 ^ 32 - 1) (s3.reg rCfgDiscarded).toNat (held.length + later.length)))
  let s5 := (held ++ later).foldl (fun s e => if e.timedOut then s else s.deliver e 0 0)
    { s4 with issued := s4.issued.filter (fun e => !e.fifoHeld)
              slotWait := s4.slotWait.filter (fun e => !(e.fifoWrite && decide (e.master = s3.engFeeder))) }
  -- reads that are outstanding are discarded when they arrive
  let s6 := { s5 with pcie := { s5.pcie with reads := s5.pcie.reads.map (fun (r : DevRead) => if r.chan = 64 then { r with dead := true } else r) } }
  (s6.setEng engClearing).cfgEvent 2

/-- ABORT, or a SHUTDOWN that acts as one (Table 11-5). -/
def State.abortLoad (s : State) : State := s.rejectLoad rejAborted s.eng.sect (4 * s.eng.words.length)

/-- ABORT has a meaning from a START until release. -/
def State.abortRefused (s : State) : Bool := !s.loadRuns

/-- The frames a rejected load wrote are cleared, and the engine is idle again (R300). -/
def clearingDone (s : State) : State :=
  if s.engState = engClearing then
    let written := s.eng.frames.map (fun e => e.1)
    let s0 := { s with cfgMem := s.cfgMem.filter (fun e => decide (e.1 / 64 ∉ written)) }
    let s1 := if s0.engReweave then (written.filter (fun f => decide (frameKind f ≠ 0))).foldl (fun s f => s.loadSettings f) s0 else s0
    let groups := (written.map frameGroup).dedup
    ((s1.withEng { s1.eng with frames := [], groups := s1.eng.groups.filter (fun e => decide (e.1 ∉ groups)) }).setEng engIdle).settle
  else s

/-! The FIFO (R294). -/

/-- Words of the image that have reached the engine. -/
def Engine.received (e : Engine) : Nat := e.words.length + e.got.length + e.fifo.length

/-- The engine takes words out of the FIFO. -/
def State.fifoOpen (s : State) : Bool := decide (s.engState = engReceiving)

/-- What the engine does not need any more is discarded. -/
def State.surplus (s : State) : Bool :=
  s.eng.dropping || (decide (s.eng.total ≠ 0) && decide (s.eng.total ≤ 4 * s.eng.received))

/-- One word is taken into the FIFO. -/
def State.fifoWord (s : State) (v : Word) : State :=
  if s.surplus then s.setReg rCfgDiscarded (BitVec.ofNat 32 (satAdd (2 ^ 32 - 1) (s.reg rCfgDiscarded).toNat 1))
  else if s.fifoOpen then s.withEng { s.eng with got := s.eng.got ++ [v] }
  else s.withEng { s.eng with fifo := s.eng.fifo ++ [v] }

def fifoSize : Nat := 1024

/-- A CFG_FIFO write is refused (R313). -/
def State.fifoRefused (s : State) (m : Nat) : Bool :=
  decide (m ≠ s.engFeeder) ||
  !(s.eng.dropping || (s.loadRuns && decide (s.engSource = srcFifo)))

/-- The FIFO is full: the write waits. -/
def State.fifoFull (s : State) : Bool := !s.surplus && !s.fifoOpen && decide (fifoSize ≤ s.eng.fifo.length)

def cfgFifoWrite (m : Nat) (v : Word) (s : State) : State :=
  if s.fifoFull then s.issue { master := m, addr := rCfgFifo, write := true, value := v, checked := true } else s.fifoWord v

/-- A word of the feeder that waited enters, and is answered unless its wait has ended with TIMEOUT. -/
def State.fifoEnter (s : State) (e : Issued) : State :=
  let s1 := s.fifoWord e.value
  if e.timedOut then s1 else s1.deliver e 0 0

/-- The oldest waiting FIFO writes enter while there is room: those on the bus, then those of the feeder that still wait for a slot. -/
def State.fifoAdmit : Nat → State → State
  | 0, s => s
  | n + 1, s =>
    if s.fifoFull then s
    else
      match s.issued.findIdx? (fun e => e.fifoHeld) with
      | some i => State.fifoAdmit n (({ s with issued := s.issued.eraseIdx i }).fifoEnter (s.issued.getD i {}))
      | none =>
        match s.slotWait.findIdx? (fun e => decide (e.master = s.engFeeder)) with
        | none => s
        | some i =>
          let e := s.slotWait.getD i {}
          if e.fifoWrite then State.fifoAdmit n (({ s with slotWait := s.slotWait.eraseIdx i }).fifoEnter e) else s

/-- The engine goes on receiving: what the FIFO holds comes out of it. -/
def State.resumeReceiving (s : State) : State :=
  let s1 := (s.setEng engReceiving).withEng { s.eng with got := s.eng.got ++ s.eng.fifo, fifo := [] }
  s1.fifoAdmit (s1.issued.length + s1.slotWait.length)

/-! Fencing (R307). -/

/-- Address and bit of a tile in FENCE. -/
def fenceReg (t : Nat) : Nat := 0x8080 + t / 256 * 0x1000 + 4 * (t % 256 / 32)

def State.setFence (s : State) (t : Nat) (b : Bool) : State := s.setBit (fenceReg t) (t % 32) b

/-- The panels of some tiles. -/
def panelsOf (ts : List Nat) : List Nat := (List.range 4).filter (fun p => ts.any (fun t => t / 256 == p))

/-- The creels and twill blocks of the frame groups of some tiles. -/
def creelsOfTiles (ts : List Nat) : List Nat := ts.flatMap (fun t => ((tileFrames t).filter (fun f => frameKind f == 1)).map frameCreel)
def twillsOfTiles (ts : List Nat) : List Nat := ts.flatMap (fun t => ((tileFrames t).filter (fun f => frameKind f == 2)).map frameTwill)

/-- A bolt fences its tiles of the region. The identities of its fabric bus ports are reset (Table 1-3), TW_INJECT disarms
(Table 9-5), and pads of the region go to their sleep states. -/
def State.fenceBolt (s : State) (b : Nat) : State :=
  let ts := s.eng.region.filter (fun t => decide (s.boltOfTile t = b) && !s.fenced t)
  if ts = [] then s
  else
    let s1 := ts.foldl (fun s t => s.setFence t true) s.keepLevels
    let s2 := (twillsOfTiles ts).foldl (fun s n => s.setBit (rTwInject n) 31 false) s1
    let s3 := (panelsOf ts).foldl (fun s p => s.pulse .panel p 0) s2
    (s3.resetFbpIdentities b).settle

/-- Once every tile is fenced, FENCED is raised and frames are written. -/
def State.fenceCheck (s : State) : State :=
  if s.engState = engFencing ∧ s.eng.region.all (fun t => s.fenced t) = true then
    ((s.withEng { s.eng with fencedAll := true }).cfgEvent 3).resumeReceiving
  else s

/-- A bolt that fences at once: DIRECT, in HALT or in HOLD. -/
def State.fencesNow (s : State) (b : Nat) : Bool :=
  let v := s.bolt b
  decide (v.stage ∈ [BoltStage.direct, .halt, .notReleased]) || v.hold

/-! Release of a reweaved region (R57, R139, R200, R229, R243, R308). -/

def State.tilesOfBolt (s : State) (b : Nat) : List Nat := (List.range 1024).filter (fun t => decide (s.boltOfTile t = b))

/-- The contents a creel takes from CREEL_INIT: every word given, and zero elsewhere. -/
def Engine.initWords (e : Engine) (n : Nat) : List Dword :=
  let recs := e.inits.filter (fun r => decide (r.1 = n))
  (List.range 1024).map (fun w =>
    match recs.find? (fun r => decide (r.2.1 ≤ w ∧ w < r.2.1 + r.2.2.length)) with
    | some r => r.2.2.getD (w - r.2.1) 0
    | none => 0)

/-- A creel at the release of its frames. -/
def State.releaseCreel (s : State) (n : Nat) : State :=
  let given := s.eng.inits.any (fun r => decide (r.1 = n))
  let s1 := s.loadSettings (creelFrame n)
  if s1.bit (rCreelCfg n) 22 && s.pick.released then s1.keepCreel n
  else (s1.setBit (rCreelCfg n) 21 given).initCreel n
    ((s1.eng.initWords n).take (if s1.creelMode n = modeMirror then 512 else 1024))

/-- The image was not verified (LC_STAT.UNVERIFIED). -/
def State.loadUnverified (s : State) : Bool := decide (s.fld rCfgStat 24 23 ≠ 2)

/-- The tiles of one bolt are released. -/
def State.releaseTiles (s : State) (b : Nat) (ts : List Nat) : State :=
  let inRegion (r : Nat) : Bool := decide (reedTile r ∈ ts)
  let s1 := (creelsOfTiles ts).foldl (fun s n => s.releaseCreel n) s
  let s2 := (twillsOfTiles ts).foldl (fun s n => (s.loadSettings (twillFrame n)).setTwill n {}) s1
  let s3 := ts.foldl (fun s t => s.setFence t false) ((s2.releaseCells inRegion).clearPinRegs (fun n => inRegion (s2.portReed n)))
  let s4 := ((List.range 320).filter (fun n => decide (s3.svMode n ≠ brOff) && inRegion (s3.bridgeReed n))).foldl
    (fun s n => s.resyncBridge n true) s3
  let s5 := (s4.queues.filter (fun n => decide (s4.wrKind n ≠ kindBus) && inRegion (s4.creelSlot n .a 0).1)).foldl
    (fun s n => s.abortProducer n) s4
  let s6 := (panelsOf ts).foldl (fun s p => s.pulse .panel p 1) s5
  let all := s6.tilesOfBolt b
  let v := s6.bolt b
  let unver := s6.eng.unverified.filter (fun t => decide (t ∉ ts))
  let halted := decide (v.stage = .halt)
  let wov := if halted then (s6.eng.rewoven ++ ts).dedup else s6.eng.rewoven
  let s7 := s6.withEng { s6.eng with unverified := if s6.loadUnverified then unver ++ ts else unver, rewoven := wov }
  let s8 := if all.all (fun t => decide (t ∈ ts)) then s7.setBit rBoltLeaked b false else s7
  if halted && all.all (fun t => decide (t ∈ wov)) then
    let s9 := s8.withEng { s8.eng with rewoven := s8.eng.rewoven.filter (fun t => decide (t ∉ all)) }
    let s10 := ((s9.leaveHalt b).setReg (rBoltPick b) 0).setFld (rRollbacks b) 1 0 0
    (((s10.setFld (rBoltStat b) 3 0 0).setBit rBoltLeaked b false).resumeOpen b).settle
  else s8.settle

/-- The region waits for its release point at this bolt. -/
def State.releaseDue (s : State) (b : Nat) : Bool :=
  decide (s.engState = engLoaded) && s.engReweave && s.eng.due && s.eng.region.any (fun t => decide (s.boltOfTile t = b) && s.fenced t)

/-- After the last tile: RELEASED, the log entry, and the engine is idle. -/
def State.regionDone (s : State) : State :=
  if decide (s.engState = engLoaded) && s.engReweave && s.eng.due && s.eng.region.all (fun t => !s.fenced t) then
    let s1 := ((s.setEng engIdle).setReg rCfgReleaseTime (BitVec.ofNat 32 s.now)).count rCfgCounts 23 16 1
    ((s1.withEng { s1.eng with due := false, frames := [] }).logEntry 63 0x4 rCfgStat
      (BitVec.ofNat 32 (place 1 31 + s.eng.region.length))).cfgEvent 1
  else s

def State.releaseRegion (s : State) (b : Nat) : State :=
  if s.releaseDue b then
    (s.releaseTiles b (s.eng.region.filter (fun t => decide (s.boltOfTile t = b) && s.fenced t))).regionDone
  else s

/-- What the engine does at the BEAT-UP end of a bolt (R139, R307). -/
def State.engineAtBeatUpEnd (s : State) (b : Nat) : State :=
  let s1 := s.releaseRegion b
  if s1.engState = engFencing then (s1.fenceBolt b).fenceCheck else s1

/-- What it does at a grid point: regions of DIRECT bolts are released (R308). -/
def State.engineAtGrid (s : State) : State :=
  (allBolts.filter (fun b => decide ((s.bolt b).stage = .direct))).foldl (fun s b => s.releaseRegion b) s

/-- What it does whenever a bolt has entered HALT or HOLD, or a region has become due. -/
def State.engineFollow (s : State) : State :=
  let s1 := (allBolts.filter (fun b => decide ((s.bolt b).stage = .halt))).foldl (fun s b => s.releaseRegion b) s
  if s1.engState = engFencing then
    ((allBolts.filter (fun b => s1.fencesNow b)).foldl (fun s b => s.fenceBolt b) s1).fenceCheck
  else s1

/-! Fabric release (R302). -/

/-- Bits of the DOMAINS body: word `k`, and the tile map's bolt of a tile. -/
def Engine.domWord (e : Engine) (k : Nat) : Word := e.domains.getD k 0
def Engine.domTile (e : Engine) (t : Nat) : Nat := fieldOf (e.domWord (2 + t / 8)) (4 * (t % 8) + 3) (4 * (t % 8))

/-- The owner of a block: its record, or the bolt of its tile row (R145, R341). -/
def Engine.domOwner (e : Engine) (twill : Bool) (n : Nat) : Nat :=
  match (e.domains.drop 130).find? (fun w => bitOf w 31 == twill && decide (fieldOf w 28 16 = n)) with
  | some w => fieldOf w 3 0
  | none => e.domTile (if twill then twillTile n else creelTile n)

/-- A pin at release: its mapped source connects without a sleep state (R302). -/
def State.connectAtRelease (s : State) (p : Nat) : State :=
  let m := s.reg (rPinMap p)
  s.setPin p { (s.pin p) with regV := false, regOE := false, outSel := fieldOf m 11 0, inSel := fieldOf m 27 16, picked := bitOf m 31,
                              chg := none, waiting := false }

/-- The pick settings of the image are staged and applied as identity 2 (R324). -/
def State.applySettings (s : State) : State :=
  if s.eng.settings.all (fun w => w == 0) then s
  else
    let s1 := (s.eng.settings.zipIdx).foldl (fun s e =>
      (s.setReg (0x4040 + 4 * e.2) e.1).logEntry 2 0x0 (0x4040 + 4 * e.2) e.1) s
    (s1.switchTo s1.staged_).logEntry 2 0x0 0x405C 1

/-- Every bolt at release: it takes its mode and starts at pick 0. -/
def State.releaseBolt (s : State) (b : Nat) : State :=
  let ts := s.tilesOfBolt b
  if ts = [] then ((s.setReg (rBoltPick b) 0).setFld (rRollbacks b) 1 0 0).setFld (rBoltStat b) 3 0 0
  else
    let panels := (panelsOf ts).foldl (fun a p => a + 2 ^ p) 0
    let s1 := ((s.setReg (rBoltPick b) 0).setFld (rRollbacks b) 1 0 0).setFld (rBoltStat b) 3 0 0
    if s1.committed b then (s1.setBolt b { panels := panels }).openBolt b
    else s1.setBolt b { stage := .direct, panels := panels, since := s.now }

/-- The shuttle bindings lock at the first release after reset (R444). -/
def State.autoBindLock (s : State) : State :=
  if s.bit (regAddr .shuttle 0 0x040) 0 then s else (s.lockBindingsOp).logEntry 63 0x1 (regAddr .shuttle 0 0x040) 1

/-- Owners of creels and twill blocks as the DOMAINS section names them; `s.regs` is gone through once. -/
def State.takeOwners (s : State) : State :=
  let owned (a : Nat) : Bool :=
    match pageOf a with
    | some ⟨.creel, _⟩ => decide (a % 0x1000 = 0x040)
    | some ⟨.twill, _⟩ => decide (0x100 ≤ a % 0x1000 ∧ a % 0x1000 < 0x300 ∧ a % 0x20 = 0)
    | _ => false
  let s1 : State := { s with regs := s.regs.filterMap (fun r =>
    if owned r.1 then
      (let w := withField r.2 3 0 0
       if w = resetOf r.1 then none else some (r.1, w))
    else some r) }
  let s2 := ((List.range 8192).filter (fun n => decide (s.eng.domOwner false n ≠ 0))).foldl
    (fun s n => s.setFld (rCreelCfg n) 3 0 (s.eng.domOwner false n)) s1
  ((List.range 4096).filter (fun n => decide (s.eng.domOwner true n ≠ 0))).foldl
    (fun s n => s.setFld (rTwCfg n) 3 0 (s.eng.domOwner true n)) s2

/-- Release of the fabric: everything of R302 takes effect at once, and every panel reports its tiles released (R318; log entry 95). -/
def State.releaseFabric (s : State) : State :=
  let e := s.eng
  let s1 := (List.range 128).foldl (fun s k => s.setReg (0x5200 + 4 * k) (e.domWord (2 + k))) s
  let s2 := ((s1.setReg rBoltMode (e.domWord 0)).setReg 0x5044 (e.domWord 1)).setReg rBoltLeaked 0
  let s4 := s2.takeOwners
  let blocks := e.frames.map (fun x => x.1)
  let s5 := (blocks.filter (fun f => decide (frameKind f = 2 ∨ frameKind f = 3))).foldl (fun s f => s.loadSettings f) s4
  let framed : List Nat := (blocks.filter (fun f => decide (frameKind f = 1))).map frameCreel
  let named : List Nat := e.inits.map (fun r => r.1)
  let held : List Nat := s5.creels.map (fun x => x.1) ++ s5.arrays.map (fun x => x.1 / 1024)
  let creels : List Nat := (framed ++ named ++ held).dedup
  let s6 := creels.foldl (fun s n => s.releaseCreel n) s5
  let s7 := (e.pinmap.zipIdx).foldl (fun s w =>
    if w.2 < 80 then s.setReg (regAddr .iobank (w.2 / 4) (0x040 + 4 * (w.2 % 4))) w.1
    else s.setReg (pinBase ((w.2 - 80) / 2) + 4 * (w.2 % 2)) w.1) s6
  let s7 := (List.range 20).foldl (fun s b => s.bankRecoded b (s6.fld (rBankCfg b) 2 0)) s7
  let clash := (List.range 960).filter (fun p => decide (s7.inSelReg p ≠ 0) &&
    (s7.namers (bankOfPin p) (s7.inSelReg p)).any (fun q => decide (q < p)))
  let s8 := s7.releaseCells (fun _ => true)
  let s9 := (s8.applySettings)
  let s10 := { s9 with pick := { s9.pick with released := true, first := max s9.pick.first s9.now }, pinsCfg := false }
  let s11 := allBolts.foldl (fun s b => s.releaseBolt b) s10
  let s12 := (List.range 320).foldl (fun s n => s.resyncBoth n) s11
  let s13 := (List.range 960).foldl (fun s p => s.connectAtRelease p) s12
  let picked := ((List.range 960).filter (fun p => s13.pickedReg p && isPort (s13.inSelReg p))).map (fun p => s13.inSelReg p - 1)
  let s14 := clash.foldl (fun s p => s.pinEvent p 0) ({ s13 with pickedIn := picked.dedup }.refreshPins (List.range 960)).settle
  let unver := if s14.loadUnverified then List.range 1024 else []
  let s15 := s14.withEng { s14.eng with stopped := false, unverified := unver, frames := [], rewoven := [] }
  let s16 := { s15 with boot := { s15.boot with cfgDone := true } }
  let s17 := (List.range 4).foldl (fun s p => s.pulse .panel p 1) s16
  ((((s17.setEng engIdle).setReg rCfgReleaseTime (BitVec.ofNat 32 s15.now)).logEntry 63 0x4 rCfgStat 1024).cfgEvent 1).autoBindLock

/-! Acceptance (R309, R314). -/

/-- The data of a frame. -/
def State.frameData (s : State) (f : Nat) : List Dword := (List.range 64).map (fun k => (s.cfgWord f k).data)

/-- The record of a group the load wrote. -/
def State.groupRecord (s : State) (g : Nat) : GroupRec :=
  let mine := s.eng.frames.filter (fun e => decide (frameGroup e.1 = g))
  let base := if s.engSource = srcHost then s.pair 0x6054 0x6058 else if s.engSource = srcQspi then (s.reg 0x6060).toNat else 0
  ⟨s.engSource, base + (mine.head?.map (fun e => e.2)).getD 0, Config.groupDigest (mine.flatMap (fun e => s.frameData e.1))⟩

def State.recordGroups (s : State) : State :=
  let gs := (s.eng.frames.map (fun e => frameGroup e.1)).dedup
  s.withEng { s.eng with groups := gs.foldl (fun m g => SMap.set none m g (some (s.groupRecord g))) s.eng.groups }

/-- RELEASE, or the release that follows LOADED with HOLD_RELEASE = 0. -/
def State.releaseNow (s : State) : State :=
  if s.engReweave then (s.withEng { s.eng with due := true }).engineFollow
  else if s.releaseClosed then s
  else s.releaseFabric

/-- The engine reaches LOADED. -/
def State.acceptLoad (s : State) : State :=
  let e := s.eng
  let s1 := (((s.setEng engLoaded).recordGroups).logEntry 63 0x3 rCfgStat (BitVec.ofNat 32 (flag s.engReweave 23))).cfgEvent 0
  let s2 :=
    if s.engReweave then s1
    else (List.range 12).foldl (fun s k => s.setReg (rCfgDigest k) (BitVec.ofNat 32 (e.digest / 2 ^ (352 - 32 * k))))
      ((s1.count rCfgCounts 31 24 1).setReg rCfgImageId e.imageId)
  if s2.bit rCfgCtrl 0 then s2 else s2.releaseNow

/-- CFG_CMD.RELEASE has a meaning in LOADED; SAFE_STATE closes it for a full load. -/
def State.cfgReleaseRefused (s : State) : Bool := decide (s.engState ≠ engLoaded) || s.eng.due

def State.configView (s : State) (off : Nat) : Option Word :=
  if off = 0x048 then some (withBit (s.reg rCfgStat) 0 s.pick.released) else none

end Sys2Proof.Machine
end

