-- ==== Sys2Proof/Machine/Image.lean ====
section
/-!
DEFINITION. The sections of a Kenbin image as the configuration engine checks them (chapter 12). A command carries the words of the
next section, run or record; the first unit of a section begins with its section header.
-/

namespace Sys2Proof.Machine

/-- Section type codes (Table 12-1). -/
def secHeader : Nat := 1
def secDevice : Nat := 2
def secSettings : Nat := 3
def secFrames : Nat := 4
def secPinmap : Nat := 5
def secCreelInit : Nat := 6
def secDomains : Nat := 7
def secAuth : Nat := 8

def rejBadMagic : Nat := 0x03
def rejBadVersion : Nat := 0x04
def rejNoImageKey : Nat := 0x05
def rejBadHeader : Nat := 0x06
def rejWrongDevice : Nat := 0x07
def rejBadOrder : Nat := 0x08
def rejBadLength : Nat := 0x09
def rejBadSettings : Nat := 0x0A
def rejBadFrameAddress : Nat := 0x0B
def rejBadPinmap : Nat := 0x0F
def rejBadCreelInit : Nat := 0x10
def rejBadDomains : Nat := 0x11
def rejReweaveMismatch : Nat := 0x12
def rejDigest : Nat := 0x14
def rejUnsigned : Nat := 0x15
def rejKey : Nat := 0x16
def rejSignature : Nat := 0x17
def rejTag : Nat := 0x18

def State.encrypted (s : State) : Bool := s.bit rCfgStat 22

/-- Byte offset of the next word. -/
def State.imageOff (s : State) : Nat := 4 * s.eng.words.length

/-- The words have come from the source: in a FIFO or host load they are the first that the engine holds (R294, R295). -/
def State.hasWords (s : State) (ws : List Word) : Bool :=
  decide (s.engState = engReceiving) && (decide (s.engSource = srcQspi) || ((decide (ws ≠ []) || decide (s.engSource = srcHost)) && ws.isPrefixOf s.eng.got))

/-- Words are consumed. -/
def State.consume (s : State) (ws : List Word) : State :=
  let e := s.eng
  let got := if s.engSource = srcQspi then e.got else e.got.drop ws.length
  (s.withEng { e with words := e.words ++ ws, got := got }).setReg rCfgProgress (BitVec.ofNat 32 (4 * (e.words.length + ws.length)))

/-- The plain words of some words of the body (R345). -/
def State.plain (s : State) (ws : List Word) : List Word :=
  if s.encrypted then
    let cipher := s.eng.words.drop 24
    let key := s.trust.imageKey
    let all := Config.gcmPlain key s.eng.iv (cipher ++ ws)
    (List.range ws.length).map (fun k => all.getD (cipher.length + k) 0)
  else ws

/-- A unit that is not whole: a FIFO load waits for more, and a host load until its source has been read to the end. The source ended before
the image did, or the flash never answered (R293, Table 12-14). -/
def State.sourceEnded (s : State) (sect : Nat) (ws : List Word) : State :=
  let atEnd := decide (4 * (s.eng.words.length + ws.length) = (s.reg rCfgSrcLen).toNat)
  if s.engSource = srcFifo ∨ (s.engSource = srcHost ∧ atEnd = false) then s
  else
    let s1 := s.consume ws
    if s.eng.words = [] ∧ ws = [] then s1.rejectLoad rejSourceFail sect 0 else s1.rejectLoad rejTruncated sect s1.imageOff

/-- A QSPI image reaches beyond 16 MiB, and the flash's tables offer no 4-byte addressing (R293). -/
def State.beyondFlash (s : State) (total : Nat) : Bool :=
  decide (s.engSource = srcQspi) && decide (2 ^ 24 < (s.reg 0x6060).toNat + total) && !Config.flashFourByte

/-! HEADER (R322). -/

def State.headerFaults (s : State) (w : Nat → Word) : Faults :=
  let enc := bitOf (w 2) 2
  let total := (w 4).toNat
  let kind := fieldOf (w 2) 1 0
  fault 0x00 (w 0 != 0x4B4E_4249) rejBadMagic ++ fault 0x04 (fieldOf (w 1) 7 0 != 0) rejBadVersion ++
  fault 0x05 (fieldOf (w 1) 15 8 != 1) rejBadVersion ++ fault 0x06 (fieldOf (w 1) 31 16 != 0) rejBadHeader ++
  fault 0x08 (decide (2 ≤ kind) || (decide (kind = 1) != s.engReweave)) rejBadHeader ++
  fault 0x08 (enc && !s.keyValid 1) rejNoImageKey ++ fault 0x08 (fieldOf (w 2) 31 3 != 0) rejBadHeader ++
  fault 0x10 (decide (total % 4 ≠ 0 ∨ total < 0x148) || (decide (s.engSource = srcHost) && decide ((s.reg rCfgSrcLen).toNat ≠ total))) rejBadHeader ++
  fault 0x14 (w 5 != 0) rejBadHeader ++ fault 0x18 (!enc && [6, 7, 8].any (fun k => w k != 0)) rejBadHeader ++
  fault 0x24 ((List.range 7).any (fun k => w (9 + k) != 0)) rejBadHeader

def imageHeader (ws : List Word) (s : State) : State :=
  if !s.hasWords ws || decide (s.eng.sect ≠ secHeader) || decide (16 < ws.length) then s
  else if ws.length < 16 then s.sourceEnded secHeader ws
  else
    let w (k : Nat) : Word := ws.getD k 0
    let s1 := s.consume ws
    match (s.headerFaults w).head? with
    | some (off, code) => s1.rejectLoad code secHeader off
    | none => if s1.beyondFlash (w 4).toNat then s1.rejectLoad rejSourceFail secHeader s1.imageOff else
      let e := s1.eng
      (s1.setBit rCfgStat 22 (bitOf (w 2) 2)).withEng
        { e with sect := secDevice, total := (w 4).toNat, imageId := w 3, iv := [w 6, w 7, w 8] }

/-! Section headers (R320, R321). -/

/-- The sections that may follow. -/
def State.nextSections (s : State) : List Nat :=
  match s.eng.sect with
  | 4 => [secFrames]
  | 5 => if s.engReweave then [secCreelInit, secDomains] else [secPinmap]
  | 6 => [secCreelInit, secDomains]
  | k => [k]

/-- The length a section's body must have. -/
def lengthBad (k len count : Nat) : Bool :=
  decide (len % 4 ≠ 0) ||
  (match k with
   | 2 => decide (len ≠ 16)
   | 3 => decide (len ≠ 160)
   | 4 => decide (len < 520 * count) || decide ((len - 8 * count) % 512 ≠ 0) || decide (256 * count < (len - 8 * count) / 512)
   | 5 => decide (len ≠ 8000)
   | 6 => decide (len < 24 * count) || (decide (count = 0) && decide (len ≠ 0))
   | 7 => decide (len ≠ 0x208 + 4 * count)
   | 8 => decide (len ≠ 216)
   | _ => true)

/-- The checks on a section header at offset `off`. -/
def State.sectionFaults (s : State) (k off : Nat) (w : Nat → Word) : Faults :=
  let len := (w 1).toNat
  let counts := decide (k = secFrames ∨ k = secCreelInit ∨ k = secDomains)
  fault off (fieldOf (w 0) 7 0 != k) rejBadOrder ++ fault (off + 1) (fieldOf (w 0) 31 8 != 0) rejBadField ++
  fault (off + 4) (lengthBad k len (w 2).toNat || decide (s.eng.total < off + 16 + len) ||
    (decide (k = secAuth) && decide (s.eng.total ≠ off + 16 + len))) rejBadLength ++
  fault (off + 8) (!counts && w 2 != 0) rejBadLength ++ fault (off + 12) (w 3 != 0) rejBadField

/-- What becomes of a unit of section `k`: it is no unit of the section that comes, the image ends before a section that it requires, the
words end early, a check on the section header fails, or it is read on as plain words. -/
inductive UnitEnd where
  | notNow
  | absent
  | short
  | bad (off code : Nat)
  | body (ws : List Word)
deriving DecidableEq, Repr

/-- The section header before a unit, if the unit opens its section. -/
def State.openUnit (s : State) (k : Nat) (ws : List Word) : UnitEnd :=
  if decide (s.engState = engReceiving) && !s.eng.inside && decide (k ≠ secHeader ∧ k ∈ s.nextSections ∧ s.eng.total < s.imageOff + 16) then .absent
  else if !s.hasWords ws then .notNow
  else if s.eng.inside then (if s.eng.sect = k then .body (s.plain ws) else .notNow)
  else if k ∉ s.nextSections then .notNow
  else
    -- DEVICE_CHECK and AUTH are never encrypted (R345)
    let ps := if k = secDevice ∨ k = secAuth then ws else s.plain ws
    if ps.length < 4 then .short
    else if fieldOf (ps.getD 0 0) 7 0 ≠ k ∧ fieldOf (ps.getD 0 0) 7 0 ∈ s.nextSections then .notNow
    else
      match (s.sectionFaults k s.imageOff (fun j => ps.getD j 0)).head? with
      | some (off, code) => .bad off code
      | none => .body ps

/-- The engine is inside section `k`, whose header was at `off`. -/
def State.enterSection (s : State) (k off : Nat) (ps : List Word) : State :=
  s.withEng { s.eng with sect := k, inside := true, secOff := off, secEnd := off + 16 + (ps.getD 1 0).toNat, left := (ps.getD 2 0).toNat }

/-- A section of one body: the words after the header, once all have come; `f` checks and takes them. -/
def State.wholeSection (s : State) (k : Nat) (ws : List Word) (f : State → Nat → List Word → State) : State :=
  let cut : State := s.sourceEnded k ws
  match s.openUnit k ws with
  | .notNow => s
  | .absent => s.rejectLoad rejBadOrder k s.imageOff
  | .short => cut
  | .bad off code => (s.consume ws).rejectLoad code k off
  | .body ps =>
    let want := 4 + (ps.getD 1 0).toNat / 4
    if ps.length < want then cut
    else if want < ps.length then s
    else f (((s.consume ws).enterSection k s.imageOff ps)) (s.imageOff + 16) (ps.drop 4)

/-- The section ends; `next` comes. -/
def State.leaveSection (s : State) (next : Nat) : State := s.withEng { s.eng with inside := false, sect := next }

/-- A fault list ends the load, or the section is taken. -/
def State.orReject (s : State) (sect : Nat) (fs : Faults) (ok : State) : State :=
  match fs.head? with
  | some (off, code) => s.rejectLoad code sect off
  | none => ok

/-! DEVICE_CHECK and SETTINGS (R323, R324). -/

def imageDevice (ws : List Word) (s : State) : State :=
  s.wholeSection secDevice ws (fun s off b =>
    let w (k : Nat) : Word := b.getD k 0
    s.orReject secDevice
      (fault off (w 0 != 0x50) rejWrongDevice ++ fault (off + 4) (w 1 != 0x4096) rejWrongDevice ++
       fault (off + 8) (decide (s.fld 0x0044 7 0 < fieldOf (w 2) 7 0)) rejWrongDevice ++
       fault (off + 9) (fieldOf (w 2) 31 8 != 0) rejBadField ++ fault (off + 12) (w 3 != 0) rejBadField)
      (s.leaveSection secSettings))

/-- The tiles a REGION names. -/
def regionOf (b : List Word) : List Nat := (List.range 1024).filter (fun t => bitOf (b.getD (8 + t / 32) 0) (t % 32))

def State.settingsFaults (s : State) (off : Nat) (b : List Word) : Faults :=
  let w (k : Nat) : Word := b.getD k 0
  let zero := (List.range 7).all (fun k => w k == 0)
  let page : Page := ⟨.pick, 0⟩
  let locked := s.bit 0x4030 0
  (if zero then []
   else if s.engReweave then (List.range 7).flatMap (fun k => fault (off + 4 * k) (w k != 0) rejBadSettings)
   else
    (List.range 7).flatMap (fun k =>
      fault (off + 4 * k) ((s.valueBad page (0x040 + 4 * k) (w k)).isSome || (locked && w k != s.reg (0x4040 + 4 * k))) rejBadSettings) ++
    fault off (decide ((w 0).toNat < (w 1).toNat + (w 2).toNat + 200)) rejBadSettings) ++
  fault (off + 0x1C) (w 7 != 0) rejBadSettings ++
  fault (off + 0x20) (decide (regionOf b = []) == s.engReweave) rejBadSettings

/-- For a reweave, the engine enters FENCING; bolts that can fence at once do (R307). -/
def imageSettings (ws : List Word) (s : State) : State :=
  s.wholeSection secSettings ws (fun s off b =>
    s.orReject secSettings (s.settingsFaults off b)
      (let s1 := (s.leaveSection secFrames).withEng { (s.leaveSection secFrames).eng with settings := b.take 7, region := regionOf b }
       if s.engReweave then (s1.setEng engFencing).engineFollow else s1))

/-! FRAMES (R325 to R338, R346, R347). -/

/-- A frame lies in the frame groups of the region. -/
def State.inRegionGroups (s : State) (f : Nat) : Bool :=
  decide (frameGroup f < 1024) && decide (frameGroup f ∈ s.eng.region)

/-- Byte `off` of a frame that begins at word `at_` of a run. -/
def byteAt (ps : List Word) (at_ off : Nat) : Nat := fieldOf (ps.getD (at_ + off / 4) 0) (8 * (off % 4) + 7) (8 * (off % 4))

/-- A frame is written with fresh check bits (R327). -/
def State.writeFrame (s : State) (f : Nat) (ps : List Word) (at_ off : Nat) : State :=
  let s1 := (List.range 64).foldl (fun s k =>
    s.setCfgWord f k { data := joinDword (ps.getD (at_ + 2 * k) 0) (ps.getD (at_ + 2 * k + 1) 0), flip := 0 }) s
  s1.withEng { s1.eng with frames := s1.eng.frames ++ [(f, off)] }

/-- The frames of a run, one by one: those before a failing one stay written (R300). -/
def State.takeFrames (ps : List Word) (off : Nat) : Nat → State → Nat → Nat → State × Option (Nat × Nat)
  | 0, s, _, _ => (s, none)
  | n + 1, s, f, j =>
    let at_ := 2 + 128 * j
    if s.engReweave && !s.inRegionGroups f then (s, some (off + 4 * at_, rejBadFrameAddress))
    else
      match (frameFaults f (byteAt ps at_)).head? with
      | some (d, code) => (s, some (off + 4 * at_ + d, code))
      | none => State.takeFrames ps off n (s.writeFrame f ps at_ (off + 4 * at_)) (f + 8) (j + 1)

/-- Where the image holds a frame; 0 for one that stands in configuration memory only. -/
def Engine.frameOff (e : Engine) (f : Nat) : Nat := ((e.frames.find? (fun x => decide (x.1 = f))).map (fun x => x.2)).getD 0

/-- The frames that may take taps: those of the image, and in a reweave those configuration memory holds. -/
def State.knownFrames (s : State) : List Nat := ((s.cfgMem.map (fun e => e.1 / 64)).dedup).filter frameExists

/-- Checks that relate two frames (R330, R337, R180, R248), as offset and code; the offset is that of the later frame. -/
def State.relationFaults (s : State) : Faults :=
  let e := s.eng
  let mine := e.frames.map (fun x => x.1)
  let later (f g : Nat) : Nat := max (e.frameOff f) (e.frameOff g)
  let taps := (s.knownFrames.filter (fun f => decide (1 ≤ frameKind f ∧ frameKind f ≤ 3))).flatMap
    (fun f => (frameTaps f (s.liveByte f)).map (fun x => (f, x.1)))
  let twice := (taps.zipIdx).flatMap (fun x => (taps.take x.2).flatMap (fun y =>
    fault (later x.1.1 y.1) (decide (x.1.2 = y.2)) rejBadTakeover))
  let driven := taps.flatMap (fun x =>
    match tapDriver (x.2 / 32) (x.2 % 32) with
    | some (d, i, _) => fault (later x.1 (reedFrame d)) (decide (s.leaseSel d i ≠ 0)) rejBadTakeover
    | none => [])
  let seams := (mine.filter (fun f => decide (frameKind f = 0))).flatMap (fun f =>
    let p := framePanel f
    let x := frameCol f
    let y := frameRow f
    let check (d seam sub edge : Nat) : Faults := (List.range 2).flatMap (fun i =>
      let g := frameAddr p 4 seam 0 sub
      fault (later f g) (decide (s.leaseSel (reedNo p x y) (16 * d + i) ≠ 0) &&
        !(s.frameByte g ((2 * edge + i) / 8)).testBit ((2 * edge + i) % 8)) rejBadCombination)
    (if x = 255 ∧ p % 2 = 0 then check 0 (p / 2) 0 y else []) ++ (if x = 0 ∧ p % 2 = 1 then check 1 (p / 2) 1 y else []) ++
    (if y = 255 ∧ p < 2 then check 2 (2 + p) 0 x else []) ++ (if y = 0 ∧ 2 ≤ p then check 3 p 1 x else []))
  let creels := (mine.filter (fun f => decide (frameKind f = 1))).flatMap (fun f =>
    let cfg := s.frameBytes f 0 4
    let head := frameRow f - bits cfg 16 13
    (List.range (bits cfg 20 17 + 1)).flatMap (fun m =>
      let g := frameAddr (framePanel f) 1 (frameCol f) (head + m) 0
      let c := s.frameBytes g 0 4
      fault (later f g) (decide (bits c 31 25 ≠ bits cfg 31 25 ∨ bits c 20 17 ≠ bits cfg 20 17 ∨ bits c 16 13 ≠ m)) rejBadCombination))
  let twills := (mine.filter (fun f => decide (frameKind f = 2))).flatMap (fun f =>
    let cfg := s.frameBytes f 0 4
    let at_ (y : Nat) : Nat := frameAddr (framePanel f) 2 (frameCol f) y 0
    (if frameRow f < 255 then fault (later f (at_ (frameRow f + 1)))
      (cfg.testBit 23 != (s.frameBytes (at_ (frameRow f + 1)) 0 4).testBit 24) rejBadCombination else []) ++
    (if 0 < frameRow f then fault (later f (at_ (frameRow f - 1)))
      (cfg.testBit 24 != (s.frameBytes (at_ (frameRow f - 1)) 0 4).testBit 23) rejBadCombination else []))
  twice ++ driven ++ seams ++ creels ++ twills

/-- The fault with the lowest offset; of two at one offset, the one found first (R346). -/
def firstFault (fs : Faults) : Faults :=
  fs.foldl (fun a x => match a with
    | [] => [x]
    | y :: _ => if x.1 < y.1 then [x] else a) []

/-- The FRAMES section ends. -/
def State.framesEnd (s : State) : State :=
  s.orReject secFrames (firstFault s.relationFaults) (s.leaveSection secPinmap)

/-- The checks on a run header at `off`. -/
def State.runFaults (s : State) (off : Nat) (ps : List Word) : Faults :=
  let f := fieldOf (ps.getD 0 0) 23 0
  let n := fieldOf (ps.getD 1 0) 8 0
  let last := ((s.eng.frames.getLast?).map (fun x => x.1 + 1)).getD 0
  fault off (fieldOf (ps.getD 0 0) 31 24 != 0 || decide (f < last) || !frameExists f ||
      !frameExists (f + 8 * (n - 1)) || decide (frameCol (f + 8 * (n - 1)) ≠ frameCol f)) rejBadFrameAddress ++
    fault (off + 4) (decide (n = 0 ∨ 256 < n) || fieldOf (ps.getD 1 0) 31 9 != 0) rejBadFrameAddress ++
    fault s.eng.secOff (decide (s.eng.secEnd < off + 8 + 512 * n)) rejBadLength

/-- A run whose header has passed its checks. -/
def State.takeRun (s : State) (off : Nat) (ps : List Word) : State :=
  let n := fieldOf (ps.getD 1 0) 8 0
  match State.takeFrames ps off n s (fieldOf (ps.getD 0 0) 23 0) 0 with
  | (s1, some (o, code)) => s1.rejectLoad code secFrames o
  | (s1, none) =>
    let s2 := s1.withEng { s1.eng with left := s1.eng.left - 1 }
    if s2.eng.left = 0 then
      (if off + 8 + 512 * n = s.eng.secEnd then s2.framesEnd else s2.rejectLoad rejBadLength secFrames s.eng.secOff)
    else s2

/-- A run of which only some frames have come: the first fault in them ends the load. -/
def State.partRun (s : State) (off : Nat) (ps : List Word) (cut : State) : State :=
  match State.takeFrames ps off ((ps.length - 2) / 128) s (fieldOf (ps.getD 0 0) 23 0) 0 with
  | (s1, some (o, code)) => s1.rejectLoad code secFrames o
  | (_, none) => cut

/-- A run of the FRAMES section, with the section header before the first. -/
def imageFrameRun (ws : List Word) (s : State) : State :=
  let cut : State := s.sourceEnded secFrames ws
  match s.openUnit secFrames ws with
  | .notNow => s
  | .absent => s.rejectLoad rejBadOrder secFrames s.imageOff
  | .short => cut
  | .bad off code => (s.consume ws).rejectLoad code secFrames off
  | .body ps =>
    let first := !s.eng.inside
    let run := if first then ps.drop 4 else ps
    let none_ := first && (ps.getD 2 0 == 0)
    let want := if none_ then 0 else 2 + 128 * fieldOf (run.getD 1 0) 8 0
    let off := s.imageOff + (if first then 16 else 0)
    let s1 := s.consume ws
    let s2 := if first then s1.enterSection secFrames s.imageOff ps else s1
    if run.length < (if none_ then 0 else 2) then cut
    else
      match (if none_ then [] else s2.runFaults off run).head? with
      | some (o, code) => s2.rejectLoad code secFrames o
      | none =>
        if run.length < want then s2.partRun off run cut
        else if want < run.length then s
        else if none_ then s2.framesEnd
        else s2.takeRun off run

/-! PINMAP (R339). -/

/-- Every PINMAP and IOBANK register, and every bridge setting, as the image would make them. -/
def State.pinTrial (s : State) (b : List Word) : State :=
  let s1 := (s.eng.frames.filter (fun e => decide (frameKind e.1 = 3))).foldl (fun s e => s.loadSettings e.1) s
  (b.zipIdx).foldl (fun s w =>
    if w.2 < 80 then s.setReg (regAddr .iobank (w.2 / 4) (0x040 + 4 * (w.2 % 4))) w.1
    else s.setReg (pinBase ((w.2 - 80) / 2) + 4 * (w.2 % 2)) w.1) s1

def State.pinmapFaults (s : State) (off : Nat) (b : List Word) : Faults :=
  let t := s.pinTrial b
  (b.zipIdx).flatMap (fun w =>
    let k := w.2
    let bad :=
      if k < 80 then (t.valueBad ⟨.iobank, k / 4⟩ (0x040 + 4 * (k % 4)) w.1).isSome
      else
        let p := (k - 80) / 2
        (t.valueBad ⟨.pinmap, p / 128⟩ (0x100 + 8 * (p % 128) + 4 * (k % 2)) w.1).isSome ||
          (decide (k % 2 = 0) && !t.pinRulesOk p (t.reg (rPinMap p)) (t.reg (rPinPad p)))
    fault (off + 4 * k) bad rejBadPinmap)

def imagePinmap (ws : List Word) (s : State) : State :=
  s.wholeSection secPinmap ws (fun s off b =>
    s.orReject secPinmap (s.pinmapFaults off b)
      ((s.leaveSection secCreelInit).withEng { (s.leaveSection secCreelInit).eng with pinmap := b }))

/-! CREEL_INIT (R340). -/

/-- Checks on a record header at `off`; `f` is the creel's frame. -/
def State.creelInitFaults (s : State) (off : Nat) (ps : List Word) : Faults :=
  let n := (ps.getD 0 0).toNat
  let first := (ps.getD 1 0).toNat
  let count := (ps.getD 2 0).toNat
  let cfg := s.frameBytes (creelFrame n) 0 4
  let mode := bits cfg 31 29
  let top := if mode = modeMirror then 512 else 1024
  let order := match s.eng.inits.getLast? with
    | some (c, f0, ds) => decide (n < c) || (decide (n = c) && decide (first < f0 + ds.length))
    | none => false
  fault off (decide (8192 ≤ n) || decide (mode = modeQueue) || order ||
    (s.engReweave && (!s.inRegionGroups (creelFrame n) || cfg.testBit 22))) rejBadCreelInit ++
  fault (off + 4) (decide (1024 ≤ first)) rejBadCreelInit ++ fault (off + 8) (decide (count = 0 ∨ top < first + count)) rejBadCreelInit ++
  fault (off + 12) (ps.getD 3 0 != 0) rejBadCreelInit ++
  fault s.eng.secOff (decide (s.eng.secEnd < off + 16 + 8 * count)) rejBadLength

/-- The data words of a record. -/
def recordWords (ps : List Word) (n : Nat) : List Dword := (List.range n).map (fun k => joinDword (ps.getD (4 + 2 * k) 0) (ps.getD (5 + 2 * k) 0))

/-- A record whose header has passed its checks. -/
def State.takeRecord (s : State) (off : Nat) (ps : List Word) : State :=
  let count := (ps.getD 2 0).toNat
  let e := s.eng
  let s1 := s.withEng { e with left := e.left - 1, inits := e.inits ++ [((ps.getD 0 0).toNat, (ps.getD 1 0).toNat, recordWords ps count)] }
  if s1.eng.left = 0 then
    (if off + 16 + 8 * count = e.secEnd then s1.leaveSection secDomains else s1.rejectLoad rejBadLength secCreelInit e.secOff)
  else s1

def imageCreelInit (ws : List Word) (s : State) : State :=
  let cut : State := s.sourceEnded secCreelInit ws
  match s.openUnit secCreelInit ws with
  | .notNow => s
  | .absent => s.rejectLoad rejBadOrder secCreelInit s.imageOff
  | .short => cut
  | .bad off code => (s.consume ws).rejectLoad code secCreelInit off
  | .body ps =>
    let first := !s.eng.inside
    let rcd := if first then ps.drop 4 else ps
    let none_ := first && (ps.getD 2 0 == 0)
    let want := if none_ then 0 else 4 + 2 * (rcd.getD 2 0).toNat
    let off := s.imageOff + (if first then 16 else 0)
    let s1 := s.consume ws
    let s2 := if first then s1.enterSection secCreelInit s.imageOff ps else s1
    if rcd.length < (if none_ then 0 else 4) then cut
    else
      match (if none_ then [] else s2.creelInitFaults off rcd).head? with
      | some (o, code) => s2.rejectLoad code secCreelInit o
      | none =>
        if rcd.length < want then cut
        else if want < rcd.length then s
        else if none_ then s2.leaveSection secDomains
        else s2.takeRecord off rcd

/-! DOMAINS (R341 to R343, R305, R306, R145, R146). -/

/-- The bolts of a tile row, by a tile map. -/
def rowBolts (tile : Nat → Nat) (row : Nat) : List Nat := ((List.range 16).map (fun x => tile (16 * row + x))).dedup

/-- Tile row of a block: panel and Y together. -/
def blockRow (twill : Bool) (n : Nat) : Nat :=
  if twill then n / 1024 * 16 + n % 256 / 16 else n / 2048 * 16 + n % 256 / 16

/-- The tiles a block adjoins in its row (R145). -/
def adjoins (twill : Bool) (n : Nat) : List Nat :=
  let row := blockRow twill n
  if twill then (List.range 4).map (fun k => 16 * row + 4 * (n % 1024 / 256) + k)
  else (List.range 2).map (fun k => 16 * row + 2 * (n % 2048 / 256) + k)

/-- Tile of the base reed of a block's attach reeds. -/
def baseTile (p x y : Nat) : Nat := tileOf p x y

/-- The owner a block would have; a reweave repeats the present one. -/
def State.newOwner (s : State) (twill : Bool) (n : Nat) : Nat :=
  if s.engReweave then (if twill then s.twOwner n else s.creelOwner n) else s.eng.domOwner twill n

def State.newTile (s : State) (t : Nat) : Nat := if s.engReweave then s.boltOfTile t else s.eng.domTile t

/-- Faults of an owner record `k` of the body at `off`. -/
def State.ownerFaults (s : State) (off : Nat) (b : List Word) (k : Nat) : Faults :=
  let w := b.getD (130 + k) 0
  let tw := bitOf w 31
  let n := fieldOf w 28 16
  let bolt := fieldOf w 3 0
  let key (v : Word) : Nat := fieldOf v 31 16
  let o := off + 0x208 + 4 * k
  let many := decide (2 ≤ (rowBolts s.newTile (blockRow tw n)).length)
  fault o (fieldOf w 30 29 != 0 || fieldOf w 15 4 != 0 || (tw && decide (4096 ≤ n)) ||
    (decide (0 < k) && decide (key w ≤ key (b.getD (129 + k) 0)))) rejBadDomains ++
  (if s.engReweave then
    fault o (!many || !s.inRegionGroups (if tw then twillFrame n else creelFrame n) ||
      decide (bolt ≠ (if tw then s.twOwner n else s.creelOwner n))) rejReweaveMismatch
   else fault o (!(adjoins tw n).any (fun t => decide (s.newTile t = bolt))) rejBadDomains)

/-- A block in a row of several bolts without a record. -/
def State.missingOwner (s : State) (b : List Word) (tw : Bool) (n : Nat) : Bool :=
  decide (2 ≤ (rowBolts s.newTile (blockRow tw n)).length) &&
    !(b.drop 130).any (fun w => bitOf w 31 == tw && decide (fieldOf w 28 16 = n))

/-- The checks that name a bolt (R342), by frame of the image. -/
def State.boltFaults (s : State) : Faults :=
  let e := s.eng
  let holds (k : Nat) : Bool := (List.range 1024).any (fun t => decide (s.newTile t = k))
  let portTile (f : Nat) (side : Bool) : Nat :=
    tileOf (framePanel f) (32 * frameCol f + (if side then 16 else 8)) (frameRow f)
  e.frames.flatMap (fun x =>
    let f := x.1
    let o := x.2
    match frameKind f with
    | 1 =>
      let n := frameCreel f
      let cfg := s.frameBytes f 0 4
      let q := s.frameBytes f 4 4
      let sides := s.frameByte f 8
      let tileA := s.newTile (portTile f (sides.testBit 0))
      let tileB := s.newTile (portTile f (sides.testBit 1))
      let own := s.newOwner false n
      if bits cfg 31 29 = modeQueue then
        fault o ((decide (bits q 31 30 ≠ 2) && decide (bits q 27 24 ≠ tileA)) || (decide (bits q 29 28 ≠ 2) && decide (bits q 23 20 ≠ tileB)))
          rejBadDomains
      else
        fault o ((cfg.testBit 24 && decide (tileA ≠ own)) || (cfg.testBit 23 && decide (tileB ≠ own)) ||
          (decide (bits cfg 16 13 ≠ 0) && decide (s.newOwner false (n - 1) ≠ own))) rejBadDomains
    | 2 =>
      let n := frameTwill f
      let cfg := s.frameBytes f 0 4
      let side := (s.frameByte f 4).testBit 0
      let t := tileOf (framePanel f) (64 * frameCol f + (if side then 32 else 24)) (frameRow f)
      fault o ((decide (bits cfg 31 29 ≠ 0) && decide (s.newTile t ≠ s.newOwner true n)) ||
        (cfg.testBit 23 && decide (s.newOwner true (n + 1) ≠ s.newOwner true n))) rejBadDomains
    | 3 =>
      let u := frameCol f
      let k := frameSub f
      let p := framePanel f
      let sv (base at_ : Nat) : Bool :=
        let cfg := s.frameBytes f base 4
        decide (bits cfg 31 29 ≠ 0) &&
          (decide (bits cfg 3 0 ≠ s.newTile (tileOf p (s.frameByte f at_) (s.frameByte f (at_ + 1)))) || !holds (bits cfg 3 0))
      if 32 ≤ u ∧ u < 36 then
        fault o (sv 0 8 || (decide (bits (s.frameBytes f 0 4) 31 29 ≠ 0) && decide (bits (s.frameBytes f 4 4) 3 0 ≠ bits (s.frameBytes f 0 4) 3 0)))
          rejBadDomains
      else if k = 0 then []
      else (List.range 4).flatMap (fun i => fault (o + 0x080 * i) (sv (0x080 * i) (0x080 * i + 4)) rejBadDomains)
    | _ => [])

/-- A cascade or chain cut by the region (R306): a frame on one side of the region's border, of the image or of configuration memory, names a
member on the other side. -/
def State.chainCut (s : State) : Bool :=
  let inside (f : Nat) : Bool := s.inRegionGroups f
  s.knownFrames.any (fun f =>
    let cfg := s.frameBytes f 0 4
    match frameKind f with
    | 1 => (List.range (bits cfg 20 17 + 1)).any (fun m =>
        inside (frameAddr (framePanel f) 1 (frameCol f) (frameRow f - bits cfg 16 13 + m) 0) != inside f)
    | 2 => (cfg.testBit 23 && (inside (f + 8) != inside f)) || (cfg.testBit 24 && (inside (f - 8) != inside f))
    | _ => false)

/-- KEEP = 1 with a change that R200 or R206 forbids. -/
def State.keepFaults (s : State) : Faults :=
  (s.eng.frames.filter (fun x => decide (frameKind x.1 = 1))).flatMap (fun x =>
    let n := frameCreel x.1
    let new := s.frameBytes x.1 0 4
    let old := (s.reg (rCreelCfg n)).toNat
    let q := s.frameBytes x.1 4 4
    let r := (s.reg (creelBase n + 0x100)).toNat
    let m := bits new 31 29
    let o := bits old 31 29
    fault x.2 (new.testBit 22 &&
      ((decide (m = modeMirror) != decide (o = modeMirror)) || (decide (m = modeQueue) != decide (o = modeQueue)) ||
       (decide (m = modeQueue) && decide (bits q 19 18 ≠ bits r 19 18 ∨ bits q 5 0 ≠ bits r 5 0)))) rejReweaveMismatch)

def State.domainsFaults (s : State) (off : Nat) (b : List Word) : Faults :=
  let e := s.eng
  let w0 := b.getD 0 0
  let w1 := b.getD 1 0
  let count := b.length - 130
  let holds (k : Nat) : Bool := (List.range 1024).any (fun t => decide (e.domTile t = k))
  let recs := (List.range count).flatMap (fun k => s.ownerFaults off b k)
  if s.engReweave then
    fault off (w0 != s.reg rBoltMode) rejReweaveMismatch ++ fault (off + 4) (w1 != s.reg 0x5044) rejReweaveMismatch ++
    e.region.flatMap (fun t => fault (off + 8 + t / 2) (decide (e.domTile t ≠ s.boltOfTile t)) rejReweaveMismatch) ++ recs ++
    fault e.secOff (e.region.any (fun t => (tileFrames t).any (fun f =>
      (decide (frameKind f = 1) && s.missingOwner b false (frameCreel f)) ||
      (decide (frameKind f = 2) && s.missingOwner b true (frameTwill f)) ||
      !e.frames.any (fun x => decide (x.1 = f)))) || s.chainCut) rejReweaveMismatch ++
    firstFault (s.keepFaults ++ s.boltFaults)
  else
    fault off (fieldOf w0 31 16 != 0 || (List.range 16).any (fun k => bitOf w0 k && !holds k)) rejBadDomains ++
    fault (off + 4) (fieldOf w1 31 16 != 0 || (w1 &&& ~~~ w0) != 0) rejBadDomains ++ recs ++
    fault e.secOff ((List.range 8192).any (fun n => s.missingOwner b false n) || (List.range 4096).any (fun n => s.missingOwner b true n))
      rejBadDomains ++
    firstFault s.boltFaults

def imageDomains (ws : List Word) (s : State) : State :=
  s.wholeSection secDomains ws (fun s off b =>
    let s1 := s.withEng { s.eng with domains := b }
    s1.orReject secDomains (s1.domainsFaults off b) (s1.leaveSection secAuth))

/-! AUTH (R344, R297, R346). -/

/-- The big-endian value of some bytes that words carry, `n` words from `k`. -/
def beValue (b : List Word) (k n : Nat) : Nat :=
  (List.range n).foldl (fun a j =>
    let w := b.getD (k + j) 0
    a * 2 ^ 32 + (fieldOf w 7 0 * 2 ^ 24 + fieldOf w 15 8 * 2 ^ 16 + fieldOf w 23 16 * 2 ^ 8 + fieldOf w 31 24)) 0

/-- The bytes of image words, which are little-endian (R319), and of key words, which are big-endian (R507). -/
def bytesLe (ws : List Word) : List Byte := ws.flatMap (fun w => (List.range 4).map (fun k => BitVec.ofNat 8 (fieldOf w (8 * k + 7) (8 * k))))
def bytesBe (ws : List Word) : List Byte := ws.flatMap (fun w => (List.range 4).map (fun k => BitVec.ofNat 8 (fieldOf w (31 - 8 * k) (24 - 8 * k))))

/-- SHA-384 of the owner public key. -/
def State.ownerKeyId (s : State) : Nat := (Config.sha384 (bytesBe s.trust.ownerKey)).toNat

def State.authFaults (s : State) (off : Nat) (b : List Word) : Faults :=
  let w (k : Nat) : Word := b.getD k 0
  let kind := fieldOf (w 0) 1 0
  let at_ := s.eng.secOff
  fault off (decide (2 ≤ kind) || fieldOf (w 0) 31 2 != 0) rejBadField ++ fault (off + 4) (w 1 != 0) rejBadField ++
  fault (off + 0x38) (!s.encrypted && (List.range 4).any (fun k => w (14 + k) != 0)) rejBadField ++
  fault (off + 0x48) (decide (kind = 0) && (List.range 24).any (fun k => w (18 + k) != 0)) rejBadField ++
  fault (off + 0xA8) (decide (kind = 0) && (List.range 12).any (fun k => w (42 + k) != 0)) rejBadField ++
  fault at_ (decide (beValue b 2 12 ≠ (Config.sha384 (bytesLe (s.eng.words.take (at_ / 4)))).toNat)) rejDigest ++
  fault at_ (decide (kind = 0) && decide (s.lcState = lcSealed)) rejUnsigned ++
  fault at_ (decide (kind = 1) && (if s.keyValid 0 then decide (beValue b 42 12 ≠ s.ownerKeyId) else decide (s.lcState = lcSealed))) rejKey

/-- The image is in: it is accepted, or warp firmware checks its signature and tag. -/
def imageAuth (ws : List Word) (s : State) : State :=
  s.wholeSection secAuth ws (fun s off b =>
    s.orReject secAuth (s.authFaults off b)
      (let kind := fieldOf (b.getD 0 0) 1 0
       let signed := decide (kind = 1) && s.keyValid 0
       let s1 := (s.leaveSection 9).withEng { (s.leaveSection 9).eng with authKind := if signed then 1 else 0, digest := beValue b 2 12 }
       let s2 := s1.setFld rCfgStat 24 23 (if kind = 0 then 1 else if signed then 0 else 3)
       if signed || s.encrypted then s2.setEng engVerifying else s2.acceptLoad))

/-- Warp firmware has checked the signature and the tag (R297). -/
def signatureVerified (sigOk tagOk : Bool) (t : Nat) (s : State) : State :=
  if s.engState = engVerifying ∧ s.now ≤ t then
    let s1 := s.at t
    if s1.eng.authKind = 1 ∧ sigOk = false then s1.rejectLoad rejSignature secAuth s1.eng.secOff
    else if s1.encrypted ∧ tagOk = false then s1.rejectLoad rejTag secAuth s1.eng.secOff
    else (if s1.eng.authKind = 1 then s1.setFld rCfgStat 24 23 2 else s1).acceptLoad
  else s

end Sys2Proof.Machine
end

