-- ==== Sys2Proof/Machine/Scrub.lean ====
section
/-!
DEFINITION. The configuration scrubber, recovery of uncorrectable frames, and the panel measurements (R309 to R312, R315 to R318).
-/

namespace Sys2Proof.Machine

def rScrubCtrl : Nat := 0x7040
def rScrubPos : Nat := 0x7044
def rScrubPasses : Nat := 0x7048
def rScrubErrs : Nat := 0x704C
def rScrubLastCe : Nat := 0x7050
def rScrubLastUe : Nat := 0x7054
def rRecovStat : Nat := 0x7058
def rBankFailed : Nat := 0x705C
def rPanelErrs (p : Nat) : Nat := regAddr .panel p 0x048

/-- An event of the SCRUB page: 0 CFG_CORRECTED, 1 CFG_UNCORRECTABLE, 2 RECOVERED, 3 PASS_DONE (R316). -/
def State.scrubEvent (s : State) (k : Nat) : State := s.pulse .scrub 0 k

/-! What a read of a configuration word finds. -/

/-- The bit the code would correct, or none for an uncorrectable word; a clean word needs none. -/
inductive CfgRead where
  | clean
  | flipBit (k : Nat)
  | bad
deriving DecidableEq, Repr

/-- SECDED over the 72 stored bits of a word (R327); three or more changed bits follow the code's matrix (log entry 5). -/
def CfgWord.scrub (w : CfgWord) : CfgRead :=
  match weight72 w.flip with
  | 0 => .clean
  | 1 => .flipBit (((List.range 72).find? (fun k => w.flip.getLsbD k)).getD 0)
  | 2 => .bad
  | _ => match Config.eccMany w.flip with
         | 0 => .bad
         | 1 => .clean
         | k + 2 => .flipBit (k % 72)

/-! The owners of a frame (R153, R312). -/

/-- The bolts a frame belongs to: of its reed, creel or twill block, or those that own a sending reed of an enabled seam track. -/
def State.frameBolts (s : State) (f : Nat) : List Nat :=
  match frameKind f with
  | 0 => [s.boltOf (reedNo (framePanel f) (frameCol f) (frameRow f))]
  | 1 => [s.creelOwner (frameCreel f)]
  | 2 => [s.twOwner (frameTwill f)]
  | 3 => []
  | _ =>
    let p := framePanel f
    let reed (e : Nat) : Nat := match frameCol f, frameSub f with
      | 0, 0 | 1, 0 => reedNo p 255 e
      | 0, _ | 1, _ => reedNo p 0 e
      | _, 0 => reedNo p e 255
      | _, _ => reedNo p e 0
    let on (e : Nat) : Bool := (List.range 2).any (fun i => ((s.cfgWord f ((2 * e + i) / 64)).data.toNat).testBit ((2 * e + i) % 64))
    (((List.range 256).filter on).map (fun e => s.boltOf (reed e))).dedup

/-- The key under which pins, bridges or seam tracks of a frame are held while it is recovered. -/
def heldKey (f : Nat) : Nat := if frameKind f = 3 then frameCol f else 64 + 2 * frameCol f + frameSub f

/-- The receiving ends of a seam frame's tracks keep the level they have (R96, R312). -/
def State.holdSeamFrame (s : State) (f : Nat) : State :=
  let p := framePanel f
  let seam := frameCol f
  let k := frameSub f
  let ref (e : Nat) : SeamRef := ⟨seam, k, e⟩
  let level (e i : Nat) : Bool :=
    let q := seamSender seam (1 - k)
    let d := match seam, k with | 0, 0 | 1, 0 => 0 | 0, _ | 1, _ => 1 | _, 0 => 2 | _, _ => 3
    let r := match d with | 0 => reedNo q 0 e | 1 => reedNo q 255 e | 2 => reedNo q e 0 | _ => reedNo q e 255
    s.wire (.tap r (8 * d + i))
  if s.pwr.warn.testBit p then s
  else { s with seamHeld := (List.range 512).foldl (fun m j => SMap.set false m ((ref (j / 2)).key (j % 2)) (level (j / 2) (j % 2))) s.seamHeld }

/-! Detection (Table 11-7, step 1; R312). -/

/-- A bolt with an uncorrectable frame: a COMMITTED one freezes, or joins the rollback it is in (Table 6-4). -/
def State.freezeForRecovery (s : State) (b : Nat) : State :=
  let v := s.bolt b
  if !s.committed b || decide (v.stage = .halt ∨ v.stage = .notReleased) then s
  else if v.stage = .rollback then s.setBolt b { v with recov := true }
  else s.setBolt b { v with stage := .recovery, recov := true, t0 := none, final := false }

/-- The bolts that wait for a recovery. -/
def State.recoveryBolts (s : State) (r : Recovery) : List Nat := (r.frames.flatMap (fun f => s.frameBolts f)).dedup

/-- A frame with an uncorrectable word joins the recovery of its group. Another group of the same bolt is read in its turn, within the time
of that bolt's first (Table 11-7). -/
def State.joinRecovery (s : State) (f : Nat) : State :=
  let g := frameGroup f
  let rs := s.eng.recovs
  let mine := rs.filter (fun r => (s.recoveryBolts r).any (fun b => decide (b ∈ s.frameBolts f)))
  let since := mine.foldl (fun t r => min t r.since) s.now
  let joined := if rs.any (fun r => decide (r.group = g)) then
      rs.map (fun r => if r.group = g ∧ f ∉ r.frames then { r with frames := r.frames ++ [f] } else r)
    else rs ++ [⟨g, [f], since, 0⟩]
  s.withEng { s.eng with recovs := joined }

/-- Pins, bridges or seam tracks of an I/O bank or seam frame are held (R312). -/
def State.holdFrame (s : State) (f : Nat) : State :=
  if frameKind f < 3 ∨ heldKey f ∈ s.held then s
  else
    let s1 := if frameKind f = 3 then s.keepLevels else s.holdSeamFrame f
    ({ s1 with held := heldKey f :: s1.held } : State).settle

/-- An uncorrectable word of a frame. -/
def State.uncorrectable (s : State) (f k : Nat) : State :=
  let s1 := (s.count rScrubErrs 15 0 1).setReg rScrubLastUe (BitVec.ofNat 32 (place k 24 + f))
  let s2 := ((s1.count (rPanelErrs (framePanel f)) 15 0 1).scrubEvent 1).holdFrame f
  (s2.frameBolts f).foldl (fun s b => s.freezeForRecovery b) (s2.joinRecovery f)

/-- A single-bit error is corrected in place (R310, with the effects of R99 and R100). -/
def State.corrected (s : State) (f k bit : Nat) : State :=
  let w := s.cfgWord f k
  let s1 := s.setCfgWord f k { w with flip := w.flip ^^^ (1#72 <<< bit) }
  let s2 := (s1.count rScrubErrs 31 16 1).setReg rScrubLastCe (BitVec.ofNat 32 (place k 24 + f))
  let s3 := ((s2.count (rPanelErrs (framePanel f)) 31 16 1).scrubEvent 0).reload f
  if bit < 64 ∧ s.pick.released = true then selectMoved f (8 * k + bit / 8) s3 else s3

/-- One word of the frame being read. -/
def State.scrubWord (s : State) (f k : Nat) : State :=
  match (s.cfgWord f k).scrub with
  | .clean => s
  | .flipBit b => s.corrected f k b
  | .bad => s.uncorrectable f k

/-- The frame is not read: it is fenced, or of a group of the load in progress (R310). -/
def State.scrubSkips (s : State) (f : Nat) : Bool :=
  (decide (frameGroup f < 1024) && s.fenced (frameGroup f)) ||
    ((s.loadRuns || decide (s.engState = engClearing)) && decide (frameGroup f ∈ s.eng.region))

/-- The scrubber is off, suspended by a full load, or without its panel's supply. -/
def State.scrubOff (s : State) : Bool := !s.bit rScrubCtrl 31 || s.eng.stopped || s.pwr.removed

/-- The scrubber reads its next frame. -/
def scrubFrame (s : State) : State :=
  if s.scrubOff then s
  else
    let f := s.fld rScrubPos 23 0
    let s1 := if s.scrubSkips f then s else (List.range 64).foldl (fun s k => s.scrubWord f k) s
    match nextFrame f with
    | some g => s1.setReg rScrubPos (BitVec.ofNat 32 g)
    | none => ((s1.setReg rScrubPos 0).countWrap rScrubPasses).scrubEvent 3

/-! Recovery (Table 11-7, steps 2 to 5). -/

/-- The recovery write is over: the engine is idle again, or the load that it paused goes on where it stopped. -/
def State.resumeLoad (s : State) : State :=
  if s.engState = engRecovering then
    match s.eng.interrupted with
    | some k =>
      let s1 := s.withEng { s.eng with interrupted := none }
      if k = engReceiving then s1.resumeReceiving else s1.setEng k
    | none => s
  else s

/-- The rewrite of a recovery, if it has begun, is over. -/
def State.afterRewrite (s : State) (r : Recovery) : State := if r.step = 2 then s.resumeLoad else s

/-- Recovery fails (step 5): COMMITTED owners enter HALT, and a bank stays held. -/
def State.recoveryFails (s : State) (r : Recovery) (result : Nat) : State :=
  let s1 := ((s.withEng { s.eng with recovs := s.eng.recovs.erase r }).count rRecovStat 23 16 1).setFld rRecovStat 3 0 result
  let bank := r.group - 1024
  let s2 := if 1024 ≤ r.group ∧ bank < 20 then s1.setBit rBankFailed bank true else s1
  ((s2.recoveryBolts r).foldl (fun s b =>
    let v := s.bolt b
    if s.committed b && decide (v.stage ∉ [BoltStage.halt, .notReleased]) then
      -- a rollback that ran ends here, tf to HALT (Table 6-8)
      (if v.stage = .rollback then s.setFld (rCause b) 15 0 (min 65535 (s.now - v.tf)) else s).enterHalt b 0x13
    else s) s2).afterRewrite r

/-- The recorded source of a group can be read again (step 2). -/
def State.sourceAvailable (s : State) (g : Nat) (flashAnswers : Bool) : Bool :=
  match SMap.get none s.eng.groups g with
  | none => false
  | some r =>
    if r.source = srcQspi then flashAnswers
    else decide (r.source = srcHost) && s.bit rCfgCtrl 1 && s.pciBit 0 pciCommand 2

def recoverySource (flashAnswers : Bool) (t : Nat) (s : State) : State :=
  match s.eng.recovs with
  | [] => s
  | r :: rest =>
    if r.step ≠ 0 ∨ t < s.now then s
    else
      let s1 := s.at t
      if s1.sourceAvailable r.group flashAnswers then s1.withEng { s1.eng with recovs := { r with step := 1 } :: rest }
      else s1.recoveryFails r 2

/-- The group has been read, and its digest is compared with the record (step 3). -/
def recoveryRead (digest : BitVec 128) (t : Nat) (s : State) : State :=
  match s.eng.recovs with
  | [] => s
  | r :: rest =>
    if r.step ≠ 1 ∨ t < s.now then s
    else
      let s1 := s.at t
      if (SMap.get none s1.eng.groups r.group).map (fun g => g.digest) = some digest then
        let st := s1.engState
        (s1.withEng { s1.eng with recovs := { r with step := 2 } :: rest,
                                  interrupted := if st = engRecovering then s1.eng.interrupted else some st }).setEng engRecovering
      else s1.recoveryFails r 3

/-- The frames that held uncorrectable words have their data again. -/
def State.rewriteFrames (s : State) (fs : List Nat) : State :=
  let s1 := fs.foldl (fun s f => (List.range 64).foldl (fun s k => s.setCfgWord f k { (s.cfgWord f k) with flip := 0 }) s) s
  let s2 := { s1 with held := s1.held.filter (fun h => !fs.any (fun f => decide (3 ≤ frameKind f) && decide (heldKey f = h))) }
  fs.foldl (fun s f => s.reload f) s2

/-- The frame of a recovery that is the bolt's own (FAULT_LOC). -/
def State.faultFrame (s : State) (r : Recovery) (b : Nat) : Nat :=
  ((r.frames.filter (fun f => decide (b ∈ s.frameBolts f))).head?).getD (r.frames.headD 0)

/-- A recovered bolt: it rolls back with tf now, or goes on with the rollback it was in; a DIRECT owner only raises RECOVERED. -/
def State.recoverBolt (s : State) (t f b : Nat) : State :=
  let waiting := s.eng.recovs.any (fun r => decide (b ∈ s.recoveryBolts r))
  let v := s.bolt b
  if waiting || !v.recov then s
  else if v.stage = .recovery then rollbackOp b t (s.setBolt b { v with recov := false, pend := some (0x05, f, t) })
  else s.setBolt b { v with recov := false }

/-- The rewrite has ended (step 4). -/
def recoveryRewritten (t : Nat) (s : State) : State :=
  match s.eng.recovs with
  | [] => s
  | r :: rest =>
    if r.step ≠ 2 ∨ t < s.now then s
    else
      let s1 := ((s.at t).withEng { s.eng with recovs := rest }).rewriteFrames r.frames
      let s2 := ((s1.count rRecovStat 31 24 1).setFld rRecovStat 3 0 1).count rCfgCounts 7 0 1
      let s3 := (s2.scrubEvent 2).resumeLoad
      ((s3.recoveryBolts r).foldl (fun s b => s.recoverBolt t (s.faultFrame r b) b) s3).settle

/-- 10 ms have passed since the detection (step 5). -/
def recoveryLimitNs : Nat := 10000000

def recoveryTimeout (t : Nat) (s : State) : State :=
  match s.eng.recovs.find? (fun r => decide (r.since + recoveryLimitNs ≤ t)) with
  | none => s
  | some r => if t < s.now then s else (s.at t).recoveryFails r 4

/-- SCRUB_CMD.CLR_COUNTS (R315, R318). -/
def scrubClear (s : State) : State :=
  let s1 := [rScrubErrs, rScrubLastCe, rScrubLastUe, rRecovStat].foldl (fun s a => s.setReg a 0) s
  (List.range 4).foldl (fun s p => s.setReg (rPanelErrs p) 0) s1

/-- The replica ring of a panel is measured; HOP reads 0 below the warning level (R317). -/
def panelMeasure (p hop temp : Nat) (s : State) : State :=
  (s.setReg (regAddr .panel p 0x040) (BitVec.ofNat 32 (if s.pwr.warn.testBit p || s.pwr.removed then 0 else hop))).setReg
    (regAddr .panel p 0x044) (BitVec.ofNat 32 temp)

/-- A bit of a configuration word changes at run time, and what it configures follows it (R99, R311). -/
def selectCorrupted (f k : Nat) (mask : Dword) (s : State) : State :=
  if frameExists f then (corrupt f k mask s).reload f else s

end Sys2Proof.Machine
end

