-- ==== Sys2Proof/Machine/Serdes.lean ====
section
/-!
DEFINITION. SerDes quads and lanes, and the PCS (R379 to R402).
-/

namespace Sys2Proof.Machine

def sdReg (q off : Nat) : Nat := regAddr .serdes q off
def sdLane (q i off : Nat) : Nat := regAddr .serdes q (0x100 + 0x40 * i + off)
def pcsReg (q off : Nat) : Nat := regAddr .pcs q off
def pcsLane (q i off : Nat) : Nat := regAddr .pcs q (0x100 + 0x40 * i + off)

def State.quad (s : State) (q : Nat) : Quad := SMap.get {} s.quads q
def State.setQuad (s : State) (q : Nat) (v : Quad) : State := { s with quads := SMap.set {} s.quads q v }

/-- Device lane `4q + i` (R379). -/
def State.lane (s : State) (q i : Nat) : Lane := SMap.get {} s.lanes (4 * q + i)
def State.setLane (s : State) (q i : Nat) (v : Lane) : State := { s with lanes := SMap.set {} s.lanes (4 * q + i) v }

/-- The bridges of lane i: receive and transmit (R379). -/
def rxBridge (q i : Nat) : Nat := 160 + 8 * q + i
def txBridge (q i : Nat) : Nat := 160 + 8 * q + 4 + i

/-- SERDES[q].PAGE_CTRL.PWR (R380). -/
def State.quadOn (s : State) (q : Nat) : Bool := s.bit (sdReg q 0x008) 0

/-- Fields of the quad settings. -/
def qMod (w : Word) : Nat := fieldOf w 31 31
def qDivp (w : Word) : Nat := fieldOf w 30 28
def qMult (w : Word) : Nat := fieldOf w 27 20
def qRef (w : Word) : Nat := fieldOf w 15 0

def State.sdEvent (s : State) (q k : Nat) : State := s.pulse .serdes q k
def State.pcsEvent (s : State) (q k : Nat) : State := s.pulse .pcs q k

/-- The lane whose recovered clock drives D16 + q (R382). -/
def State.clockLane (s : State) (q : Nat) : Nat := fieldOf (s.quad q).qcfg 19 18

/-- D16 + q runs from the clock lane's recovered clock; otherwise from the transmit word clock (R382). -/
def State.rxClockRecovered (s : State) (q : Nat) : Bool := (s.lane q (s.clockLane q)).cdr

def State.loopback (s : State) (q i : Nat) : Nat := s.fld (sdLane q i 0x00) 24 22

/-- The PCS_LCFG in effect of a lane. -/
def State.lcfg (s : State) (q i : Nat) : Word := SMap.get 0 (s.quad q).lcfg i
def framed (w : Word) : Bool := decide (fieldOf w 31 30 = 1)

/-! R381: rates. Frequencies are in units of 10 kHz. -/

/-- The settings break the rate rule of R381. -/
def rateBad (w : Word) : Bool :=
  let vco := qRef w * qMult w
  -- line rate times 2^DIVP, in units of 10 kbit/s
  let line := if qMod w = 0 then 2 * vco else 4 * vco
  let d := 2 ^ qDivp w
  !(decide (1000000 ≤ vco ∧ vco ≤ 2812500) &&
    (if qMod w = 0 then decide (125000 * d ≤ line ∧ line ≤ 2812500 * d)
     else decide (line = 5312500 * d ∨ line = 5625000 * d ∨ line = 10625000 * d ∨ line = 11250000 * d)))

/-- The measured QREFCLK differs from REF_10KHZ of the settings in effect by more than 1 % (R381). -/
def State.refBad (s : State) (q : Nat) : Bool :=
  let m := s.fld (sdReg q 0x048) 15 0
  let r := qRef (s.quad q).qcfg
  decide (r < 100 * (if m ≤ r then r - m else m - r))

/-! What stops and resets the lanes. -/

/-- Weft firmware runs (CORE_STAT); without it the coefficients hold (Table 1-4). -/
def State.weftUp (s : State) : Bool := decide (s.fld (regAddr .mgmt 0 0x040) 6 4 = 2)

/-- The coefficients move while weft firmware adapts them, at all times or once after each lock (R384): their values are open. -/
def State.adapting (s : State) (q i : Nat) : Bool :=
  let mode := s.fld (sdLane q i 0x00) 26 25
  s.quadOn q && (s.lane q i).cdr && s.weftUp && (decide (mode = 1) || (decide (mode = 2) && !(s.lane q i).adapted))

/-- The live coefficients of an adapting lane take values that the manual leaves open. -/
def State.drift (s : State) (q i : Nat) : State :=
  if s.adapting q i then
    let v := s.openValue
    let s1 := (s.tick.setFld (sdLane q i 0x08) 11 8 v).setFld (sdLane q i 0x08) 3 0 (v / 2 ^ 4)
    s1.setLane q i { s1.lane q i with
      dfe := (List.range 24).foldl (fun m k => SMap.set 0 m k (BitVec.ofNat 8 (v / 2 ^ (8 + 8 * k)))) (s1.lane q i).dfe }
  else s

def lanes4 : List Nat := List.range 4

/-- The lanes of the bond group of quad q under a PCS_BOND value, as quad and lane. -/
def bondLanes (q : Nat) (w : Word) : List (Nat × Nat) :=
  if bitOf w 31 then
    (lanes4.filter (fun i => bitOf w i)).map (fun i => (q, i)) ++ (lanes4.filter (fun i => bitOf w (4 + i))).map (fun i => (q + 1, i))
  else []

/-- The group in effect that holds a lane: the quad whose PCS_BOND names it (R395). -/
def State.groupOf (s : State) (q i : Nat) : Option Nat :=
  if (bondLanes q (s.quad q).bond).contains (q, i) then some q
  else if q ≠ 0 ∧ (bondLanes (q - 1) (s.quad (q - 1)).bond).contains (q, i) then some (q - 1)
  else none

/-- ALIGNED goes on every lane of the group of quad q (R395). -/
def State.unalign (s : State) (q : Nat) : State :=
  (bondLanes q (s.quad q).bond).foldl (fun s l => s.setLane l.1 l.2 { s.lane l.1 l.2 with aligned := false }) s

/-- A lane loses its marker lock: its group, if aligned, is aligned no more (R395). -/
def State.groupLost (s : State) (q i : Nat) : State :=
  match s.groupOf q i with
  | some g => if (s.lane q i).aligned then (s.unalign g).pcsEvent g 17 else s
  | none => s

/-- The PCS of a lane relocks: its locks go, its frames start anew, and the words of its receive buffer are discarded and counted (Table 14-3). -/
def State.relockPcs (s : State) (q i : Nat) : State :=
  let s1 := s.groupLost q i
  let v := s1.lane q i
  (s1.setLane q i { v with block := false, marker := false, codeword := false, aligned := false, skew := 0, buffer := [], txPos := 0 }).count
    (rSvCnt (rxBridge q i)) 15 8 v.buffer.length

/-- Weft firmware stops: every lane keeps the coefficients it has come to (Table 1-4). -/
def State.driftAll (s : State) : State := (List.range 12).foldl (fun s q => lanes4.foldl (fun s i => s.drift q i) s) s

/-- The CDR and the PCS of a lane relock (R387). -/
def State.relockLane (s : State) (q i : Nat) : State :=
  let s1 := s.drift q i
  (s1.setLane q i { s1.lane q i with cdr := false, adapted := false, prbs := false }).relockPcs q i

/-- The clocked sides of the bridges of a lane are reset (Table 10-8). -/
def State.resetLaneBridges (s : State) (q i : Nat) : State := (s.startResync (rxBridge q i) false).startResync (txBridge q i) false

/-- The transmitters go to electrical idle, the lanes relock, and the clocked sides of the quad's eight bridges are reset (R380, R381). -/
def State.resetQuad (s : State) (q : Nat) (relock : Bool) : State :=
  let s1 := lanes4.foldl (fun s i => (s.relockLane q i).resetLaneBridges q i) s
  s1.setQuad q { s1.quad q with pll := false, relock := relock }

/-- PAGE_CTRL.PWR changes (R380). -/
def quadPwrOp (q : Nat) (was : Bool) (s : State) : State :=
  if s.quadOn q then (if was then s else s.setQuad q { s.quad q with relock := true, refLost := false })
  else if was then
    let s1 := s.resetQuad q false
    lanes4.foldl (fun s i => s.setLane q i { s.lane q i with signal := false, level := 0 }) s1
  else s

/-- APPLY: the staged settings take effect and the PLL relocks (R381). -/
def sdApplyOp (q : Nat) (s : State) : State :=
  (s.setQuad q { s.quad q with qcfg := s.reg (sdReg q 0x040), refLost := false }).resetQuad q true

/-- RESET (R380). -/
def sdResetOp (q : Nat) (s : State) : State := s.resetQuad q true

def sdClear (q : Nat) (s : State) : State :=
  lanes4.foldl (fun s i => (s.setReg (sdLane q i 0x18) 0).setReg (sdLane q i 0x1C) 0) s

/-- SLEEP stops the quads (Table 1-2). -/
def State.stopQuads (s : State) : State :=
  (List.range 12).foldl (fun s q =>
    let s1 := lanes4.foldl (fun s i => s.relockLane q i) s
    s1.setQuad q { s1.quad q with pll := false, relock := false }) s

/-- At wake each quad powers per its PWR and relocks; the bridges' RESYNC is that of every bridge (Table 14-3). -/
def State.wakeQuads (s : State) : State := (List.range 12).foldl (fun s q => s.setQuad q { s.quad q with relock := s.quadOn q }) s

/-! PLL, reference and CDR. -/

def pllLockedOp (q : Nat) (s : State) : State :=
  if s.quadOn q && (s.quad q).relock && !s.refBad q && !s.pwr.removed then
    let s1 := s.setQuad q { s.quad q with pll := true, relock := false }
    (lanes4.foldl (fun s i => s.setLane q i { s.lane q i with inject := false }) s1).sdEvent q 16
  else s

def sdRefLostOp (q : Nat) (s : State) : State :=
  if s.quadOn q && s.refBad q && !(s.quad q).refLost then
    (s.setQuad q { s.quad q with pll := false, relock := true, refLost := true }).sdEvent q 17
  else s

def qrefMeasureOp (q meas : Nat) (s : State) : State :=
  let s1 := s.setReg (sdReg q 0x048) (BitVec.ofNat 32 meas)
  if s1.refBad q then s1 else s1.setQuad q { s1.quad q with refLost := false }

/-- The receiver has something to lock to: it is on, or NEAR_PMA feeds it (R387). -/
def State.receives (s : State) (q i : Nat) : Bool := s.bit (sdLane q i 0x00) 30 || decide (s.loopback q i = 2)

def cdrLockedOp (q i : Nat) (s : State) : State :=
  let v := s.lane q i
  if s.quadOn q && (s.quad q).pll && s.receives q i && !v.cdr then
    (s.setLane q i { v with cdr := true, signal := true, adapted := false }).sdEvent q (4 * i)
  else s

/-- A CDR loses lock; whether a signal is still there is open. -/
def cdrLostOp (q i : Nat) (s : State) : State :=
  if (s.lane q i).cdr then
    let s1 := s.drift q i
    let sig := decide (s1.openValue % 2 = 1)
    ((s1.tick.setLane q i { s1.lane q i with cdr := false, signal := sig, adapted := false }).count (sdLane q i 0x1C) 15 8 1).sdEvent q
      (4 * i + 1)
  else s

/-- ONCE adaptation ends (R384). -/
def adaptDoneOp (q i vga ctle : Nat) (dfe : List Byte) (s : State) : State :=
  let v := s.lane q i
  if s.adapting q i && decide (s.fld (sdLane q i 0x00) 26 25 = 2) then
    let s1 := (s.setFld (sdLane q i 0x08) 11 8 vga).setFld (sdLane q i 0x08) 3 0 ctle
    (s1.setLane q i { v with adapted := true,
                             dfe := (List.range 24).foldl (fun m k => SMap.set 0 m k (dfe.getD k 0)) v.dfe }).sdEvent q (4 * i + 2)
  else s

/-- A slip of the elastic buffer, which every lane but the clock lane passes (R382). -/
def ebSlipOp (q i level : Nat) (s : State) : State :=
  let v := s.lane q i
  if s.quadOn q && v.cdr && decide (i ≠ s.clockLane q) then
    ((s.setLane q i { v with level := level }).count (sdLane q i 0x1C) 31 16 1).sdEvent q (4 * i + 3)
  else s

/-! PRBS (R386). -/

def State.prbsTx (s : State) (q i : Nat) : Nat := s.fld (sdLane q i 0x14) 31 28
def State.prbsRx (s : State) (q i : Nat) : Nat := s.fld (sdLane q i 0x14) 27 24

/-- A generated word with one bit inverted: in a near loopback the checker of the same pattern, if locked, counts it. -/
def State.wrongBit (s : State) (q i : Nat) : State :=
  let near := decide (s.loopback q i = 1 ∨ s.loopback q i = 2)
  if near && (s.lane q i).prbs && decide (s.prbsRx q i = s.prbsTx q i) then s.count (sdLane q i 0x18) 31 0 1 else s

/-- INJECT inverts a bit of the next generated word; while the PLL is not locked it waits for that word. -/
def prbsInjectOp (q i : Nat) (s : State) : State :=
  if s.prbsTx q i = 0 then s
  else if (s.quad q).pll then s.wrongBit q i
  else s.setLane q i { s.lane q i with inject := true }

def prbsLockOp (q i : Nat) (s : State) : State :=
  let v := s.lane q i
  if s.quadOn q && v.cdr && decide (s.prbsRx q i ≠ 0) then s.setLane q i { v with prbs := true } else s

def prbsLockLostOp (q i : Nat) (bits : Nat) (s : State) : State :=
  let v := s.lane q i
  if v.prbs then (s.setLane q i { v with prbs := false }).count (sdLane q i 0x18) 31 0 bits else s

/-! Writes of the lane registers (R383 to R387). -/

/-- The sum of magnitudes of the FIR taps, and whether MAIN is negative (R383). -/
def firBad (v : Word) : Bool :=
  let taps := [fieldOf v 29 24, fieldOf v 23 18, fieldOf v 17 12, fieldOf v 11 6, fieldOf v 5 0]
  decide (32 ≤ fieldOf v 17 12) || decide (31 < taps.foldl (fun n t => n + (signedOf 6 t).natAbs) 0)

/-- Check 11 of a write of the SERDES page. -/
def serdesRefuses (s : State) (q off : Nat) (v : Word) : Option Nat :=
  let i := (off - 0x100) / 0x40
  let nrz := decide (qMod (s.quad q).qcfg = 0)
  if off = 0x044 then (if fieldOf v 2 0 = 1 ∧ rateBad (s.reg (sdReg q 0x040)) then some codeBadEncoding else none)
  else if off < 0x100 then none
  else match off % 0x40 with
    | 0x00 => if bitOf v 27 && nrz then some codeNotPermitted else none
    | 0x04 => if firBad v then some codeBadEncoding else none
    | 0x08 | 0x0C => if s.fld (sdLane q i 0x00) 26 25 = 0 then none else some codeNotPermitted
    | 0x14 =>
      if nrz && (decide (6 ≤ fieldOf v 31 28) || decide (6 ≤ fieldOf v 27 24)) then some codeNotPermitted else none
    | _ => none

/-- A write of SD_LCFG takes effect: a change of LOOPBACK relocks the lane (R387), a receiver switched off loses its lock. -/
def lcfgWritten (q i : Nat) (before : Word) (s : State) : State :=
  let now := s.reg (sdLane q i 0x00)
  -- what adapted until now leaves its last values
  let s0 := ((s.setReg (sdLane q i 0x00) before).drift q i).setReg (sdLane q i 0x00) now
  let s1 := if fieldOf before 24 22 = fieldOf now 24 22 then s0 else s0.relockLane q i
  if s1.receives q i then s1 else (s1.relockLane q i).setLane q i { (s1.relockLane q i).lane q i with signal := false }

/-- A write of SD_DFE: VALUE becomes tap INDEX (R384). -/
def dfeWritten (q i : Nat) (s : State) : State :=
  let w := s.reg (sdLane q i 0x0C)
  let v := s.lane q i
  s.setLane q i { v with dfe := SMap.set 0 v.dfe (fieldOf w 28 24) (BitVec.ofNat 8 (fieldOf w 7 0)) }

/-- A write of SD_PRBS: a checker that is off holds no lock (R386). -/
def prbsWritten (q i : Nat) (before : Word) (s : State) : State :=
  let v := s.lane q i
  if fieldOf before 27 24 = s.prbsRx q i then s else s.setLane q i { v with prbs := false }

/-! The PCS. -/

/-- The lanes that a PCS APPLY of quad q puts into effect: those of the quad and those of quad q + 1 its staged group names (R395). -/
def State.appliedLanes (s : State) (q : Nat) : List (Nat × Nat) :=
  lanes4.map (fun i => (q, i)) ++ (bondLanes q (s.reg (pcsReg q 0x040))).filter (fun l => decide (l.1 ≠ q))

/-- A lane's staged coding breaks R388, R393 or R396. -/
def State.codingBad (s : State) (q i : Nat) : Bool :=
  let w := s.reg (pcsLane q i 0x00)
  let fec := fieldOf w 29 28
  let dom (n : Nat) : Nat := s.fld (rSvCfg n) 21 16
  if framed w then
    (decide (fec = 1 ∧ qMod (s.quad q).qcfg = 1)) || (decide (fec = 2) && !bitOf w 27) ||
    [rxBridge q i, txBridge q i].any (fun n => decide (dom n = 16 + q ∨ dom n = 4 + q))
  else decide (fec ≠ 0) || bitOf w 27 || bitOf w 26

/-- With the lanes that quad q puts into effect, the group in effect of a neighbouring quad `g` would break R395. -/
def State.neighbourBad (s : State) (q g : Nat) : Bool :=
  let ls := bondLanes g (s.quad g).bond
  let cfg (l : Nat × Nat) : Word := if (s.appliedLanes q).contains l then s.reg (pcsLane l.1 l.2 0x00) else s.lcfg l.1 l.2
  ls.any (fun l => !bitOf (cfg l) 27 || decide (fieldOf (cfg l) 31 28 ≠ fieldOf (cfg (ls.headD (g, 0))) 31 28))

/-- The staged bond group breaks R395. -/
def State.bondBad (s : State) (q : Nat) : Bool :=
  let g := bondLanes q (s.reg (pcsReg q 0x040))
  let two := g.any (fun l => decide (l.1 ≠ q))
  let cfg (l : Nat × Nat) : Word := s.reg (pcsLane l.1 l.2 0x00)
  let a := (s.quad q).qcfg
  let b := (s.quad (q + 1)).qcfg
  bitOf (s.reg (pcsReg q 0x040)) 31 &&
    (!decide (2 ≤ g.length) || (two && decide (q / 3 ≠ (q + 1) / 3)) ||
     g.any (fun l => !bitOf (cfg l) 27 || decide (fieldOf (cfg l) 31 28 ≠ fieldOf (cfg (g.headD (q, 0))) 31 28)) ||
     (two && !decide (qMult a = qMult b ∧ qDivp a = qDivp b ∧ qMod a = qMod b ∧ qRef a = qRef b)) ||
     g.any (fun l => (decide (q ≠ 0) && (bondLanes (q - 1) (s.quad (q - 1)).bond).contains l) ||
                     (bondLanes (q + 1) (s.quad (q + 1)).bond).contains l))

/-- Check 11 of a write of the PCS page. -/
def pcsRefuses (s : State) (q off : Nat) (v : Word) : Option Nat :=
  if off = 0x044 ∧ fieldOf v 2 0 = 1 ∧ ((s.appliedLanes q).any (fun l => s.codingBad l.1 l.2) || s.bondBad q ||
      s.neighbourBad q (q + 1) || (decide (q ≠ 0) && s.neighbourBad q (q - 1))) then
    some codeNotPermitted
  else none

/-- PCS APPLY (R395). -/
def pcsApplyOp (q : Nat) (s : State) : State :=
  let ls := s.appliedLanes q
  let s0 := (bondLanes q (s.quad q).bond).foldl (fun s l => s.groupLost l.1 l.2) s
  let s1 := s0.setQuad q { s0.quad q with bond := s.reg (pcsReg q 0x040), am := s.reg (pcsReg q 0x048) }
  ls.foldl (fun s l =>
    let s2 := s.setQuad l.1 { s.quad l.1 with lcfg := SMap.set 0 (s.quad l.1).lcfg l.2 (s.reg (pcsLane l.1 l.2 0x00)) }
    (s2.relockPcs l.1 l.2).resetLaneBridges l.1 l.2) s1

def pcsClear (q : Nat) (s : State) : State :=
  lanes4.foldl (fun s i => [0x08, 0x0C, 0x10, 0x14].foldl (fun s off => s.setReg (pcsLane q i off) 0) s) s

/-- The receive PCS of a lane runs: its words come from the line or a loopback. -/
def State.pcsRuns (s : State) (q i : Nat) : Bool :=
  s.quadOn q && (s.quad q).pll && ((s.lane q i).cdr || decide (s.loopback q i = 1))

def blockLockOp (q i : Nat) (s : State) : State :=
  if s.pcsRuns q i && framed (s.lcfg q i) then s.setLane q i { s.lane q i with block := true } else s

def blockLockLostOp (q i : Nat) (s : State) : State :=
  let v := s.lane q i
  if v.block then ((s.setLane q i { v with block := false }).count (pcsLane q i 0x08) 15 0 1).pcsEvent q (4 * i) else s

/-- Marker lock (R394) and codeword lock (R393). -/
def amLockOp (q i : Nat) (gain : Bool) (s : State) : State :=
  if gain && !(s.pcsRuns q i && bitOf (s.lcfg q i) 27) then s else s.setLane q i { s.lane q i with marker := gain }

def fecAlignOp (q i : Nat) (gain : Bool) (s : State) : State :=
  if gain && !(s.pcsRuns q i && decide (fieldOf (s.lcfg q i) 29 28 ≠ 0)) then s
  else s.setLane q i { s.lane q i with codeword := gain }

/-- A codeword is decoded (R393). -/
def fecCodewordOp (q i : Nat) (r : FecResult) (s : State) : State :=
  if s.pcsRuns q i && (s.lane q i).codeword then
    match r with
    | .clean => s
    | .corrected n => (s.count (pcsLane q i 0x0C) 31 16 1).count (pcsLane q i 0x10) 31 0 n
    | .uncorrectable => (s.count (pcsLane q i 0x0C) 15 0 1).pcsEvent q (4 * i + 1)
  else s

/-- A control block of type 0x1E with eight error characters (R390). -/
def errorBlock : Dword := (List.range 8).foldl (fun w k => w + BitVec.ofNat 64 (0x1E * 2 ^ (8 + 7 * k))) 0x1E

/-- A block as the PCS delivers it: payload, and whether it is a control block (R390, R393). -/
def deliveredBlock (b : RxBlock) : Dword × Bool := if b.badHeader || b.lost then (errorBlock, true) else (b.payload, b.control)

/-- The receive header word of a frame (Table 14-2). -/
def rxHeader (v : Lane) (blocks : List RxBlock) : Dword :=
  let kinds := (List.range 32).foldl (fun n k => n + flag ((blocks.map (fun b => (deliveredBlock b).2)).getD k false) k) 0
  BitVec.ofNat 64 (place v.dropped 56 + place v.seq 40 + flag v.block 39 + flag (blocks.any (fun b => b.lost)) 38 +
    flag (blocks.any (fun b => b.badHeader)) 37 + flag v.aligned 36 + kinds)

/-- A framed lane's frame enters the receive buffer whole or is dropped (R389 to R391). -/
def rxFrame (q i : Nat) (blocks : List RxBlock) (s : State) : State :=
  let s1 := s.count (pcsLane q i 0x08) 31 16 (blocks.filter (fun b => b.badHeader)).length
  let v := s1.lane q i
  let seq := (v.seq + 1) % 2 ^ 16
  if v.buffer.length + 33 ≤ 64 then
    s1.setLane q i { v with seq := seq, dropped := 0,
                            buffer := v.buffer ++ rxHeader v blocks :: blocks.map (fun b => (deliveredBlock b).1) }
  else
    ((s1.setLane q i { v with seq := seq, dropped := satAdd 255 v.dropped 1 }).count (pcsLane q i 0x14) 31 16 33).pcsEvent q (4 * i + 2)

/-- A RAW word enters the receive buffer or is dropped (R388, R391). -/
def rxWord (q i : Nat) (w : Dword) (s : State) : State :=
  let v := s.lane q i
  if v.buffer.length < 64 then s.setLane q i { v with buffer := v.buffer ++ [w] }
  else (s.count (pcsLane q i 0x14) 31 16 1).pcsEvent q (4 * i + 2)

/-- A frame of 32 blocks, or one RAW word, arrives; a checker keeps it (R386). -/
def pcsRxOp (q i : Nat) (blocks : List RxBlock) (s : State) : State :=
  if !s.pcsRuns q i || decide (s.prbsRx q i ≠ 0) then s
  else if framed (s.lcfg q i) then
    (if (s.lane q i).block && decide (blocks.length = 32) then rxFrame q i blocks s else s)
  else match blocks with
    | [b] => rxWord q i b.payload s
    | _ => s

/-- The transmit bridge of a lane is read (R386, R387). -/
def State.txReads (s : State) (q i : Nat) : Bool :=
  s.quadOn q && (s.quad q).pll && decide (s.prbsTx q i = 0) && decide (s.loopback q i ≠ 3)

/-- A control block of type 0x1E with eight idle characters, 0x00 each (R392). -/
def idleBlock : Dword := 0x1E

/-- The transmit PCS takes a word: in RAW coding it goes out; of a frame the header word gives KINDS, and each of the 32 words after it is a block
(R388, R389). -/
def State.sendWord (s : State) (q i : Nat) (x : Dword) : State :=
  let v := s.lane q i
  if !framed (s.lcfg q i) then s.setLane q i { v with txSent := some (x, false) }
  else if v.txPos = 0 then s.setLane q i { v with txPos := 1, txKinds := x.toNat % 2 ^ 32 }
  else s.setLane q i { v with txPos := (v.txPos + 1) % 33, txSent := some (x, v.txKinds.testBit (v.txPos - 1)) }

/-- What is sent in place of a word that the bridge has not delivered (R392). -/
def State.fillBlock (s : State) (q i : Nat) : Dword × Bool :=
  if !framed (s.lcfg q i) then (0xAAAA_AAAA_AAAA_AAAA, false)
  else if (s.lane q i).txPos = 0 then (idleBlock, true)
  else (errorBlock, true)

/-- A fill is sent and counted (R392). The frame goes on with the next word that arrives. -/
def txUnderrunOp (q i : Nat) (s : State) : State :=
  if s.txReads q i && decide ((s.bridge (txBridge q i)).fifo = []) then
    ((s.setLane q i { s.lane q i with txSent := some (s.fillBlock q i) }).count (pcsLane q i 0x14) 15 0 1).pcsEvent q (4 * i + 3)
  else s

/-- The receive bridge of a lane takes the oldest word of the receive buffer while it has room (R391). -/
def rxBridgeWrite (q i : Nat) (w : Dword) (s : State) : State :=
  let v := s.lane q i
  let b := s.bridge (rxBridge q i)
  match v.buffer with
  | x :: rest =>
    if decide (x = w) && decide (s.svMode (rxBridge q i) = brQueue) && !b.resync && s.svRuns (rxBridge q i) && decide (b.fifo.length < 16) then
      clockedWrite (rxBridge q i) w (s.setLane q i { v with buffer := rest })
    else s
  | [] => s

/-! Bond groups (R395). -/

/-- The group of quad q becomes aligned: every lane holds marker lock and the skews are in range. -/
def bondAlignedOp (q : Nat) (skews : List Nat) (s : State) : State :=
  let g := bondLanes q (s.quad q).bond
  let ready := g.all (fun l => s.pcsRuns l.1 l.2 && (s.lane l.1 l.2).marker && !(s.lane l.1 l.2).aligned)
  match g with
  | [] => s
  | first :: _ =>
    if ready && decide (skews.length = g.length) then
      let seq := (s.lane first.1 first.2).seq
      ((g.zip skews).foldl (fun s l =>
        s.setLane l.1.1 l.1.2 { s.lane l.1.1 l.1.2 with aligned := true, skew := l.2, seq := seq }) s).pcsEvent q 16
    else s

def bondLostOp (q : Nat) (s : State) : State :=
  let g := bondLanes q (s.quad q).bond
  if g.any (fun l => (s.lane l.1 l.2).aligned) then (s.unalign q).pcsEvent q 17 else s

/-! Live registers. -/

def State.serdesView (s : State) (q off : Nat) : Option Word :=
  let i := (off - 0x100) / 0x40
  let v := s.lane q i
  if off = 0x00C then
    some (BitVec.ofNat 32 (flag (s.quad q).pll 4 + lanes4.foldl (fun n i => n + flag (s.lane q i).cdr i) 0))
  else if off < 0x100 then none
  else match off % 0x40 with
    | 0x0C => some (withField (s.reg (sdLane q i 0x0C)) 7 0 (SMap.get 0 v.dfe (s.fld (sdLane q i 0x0C) 28 24)).toNat)
    | 0x10 => some (BitVec.ofNat 32 (flag v.signal 31 + flag v.cdr 30 + flag v.adapted 29 + flag v.prbs 28 + place v.level 16))
    | _ => none

def State.pcsView (s : State) (q off : Nat) : Option Word :=
  let v := s.lane q ((off - 0x100) / 0x40)
  if 0x100 ≤ off ∧ off % 0x40 = 0x04 then
    some (BitVec.ofNat 32 (flag v.block 31 + flag v.marker 30 + flag v.codeword 29 + flag v.aligned 28 + v.skew))
  else none

end Sys2Proof.Machine
end

