-- ==== Sys2Proof/Machine/Access.lean ====
section
/-!
DEFINITION. The checks of Table 2-5 that every page makes alike (1 to 10 and 12), who may write what (Table 18-1), and what an
accepted write leaves in the register and in the change log (R39 to R50, R481, R482, R497 to R501).
-/

namespace Sys2Proof.Machine

/-! Check 3. -/

/-- Pages the host reaches after SHUTDOWN. -/
def openAfterShutdown (p : Page) : Bool :=
  match p.kind with
  | .device | .power | .test | .log => true
  | .shuttle => decide (p.inst = 0)
  | _ => false

def isHostId (m : Nat) : Bool := decide (8 ≤ m) && decide (m ≤ 11)

/-! Check 4. -/

/-- The panel whose VFAB supplies a page's block (R15, R253, R317). -/
def supplyPanel (p : Page) : Option Nat :=
  match p.kind with
  | .creel => some (creelPanel p.inst)
  | .twill => some (p.inst / 64)
  | .selvedge => some (bridgePanel (8 * p.inst))
  | .fbp => some 0
  | _ => none

def State.unpowered (s : State) (p : Page) (off : Nat) : Bool :=
  decide (0x040 ≤ off) &&
    (match p.kind with
     | .serdes | .pcs => !s.quadOn p.inst
     | _ => s.pwr.removed && (supplyPanel p).isSome)

/-! Check 5. -/

/-- The classes of Table 19-16 that make a page busy. -/
def classesOf (p : Page) : List Nat :=
  match p.kind with
  | .creel => [1, 3]
  | .config | .scrub => [2]
  | .twill => [3, 4]
  | .shuttle | .event | .eventMap | .log => [6]
  | .serdes | .pcs => [8]
  | .pinmap => [9]
  | _ => []

def State.testBusy (s : State) (p : Page) (off : Nat) : Bool :=
  decide (0x040 ≤ off) && (classesOf p).any (fun c => s.bit (regAddr .test 0 0x044) (c - 1))

/-! Check 6. -/

/-- States in which TEST control writes are open (Table 18-2). -/
def State.testOpen (s : State) : Bool := decide (s.lcState = 1 ∨ s.lcState = 2 ∨ s.lcState = 5)

/-- States in which JTAG debug is open. -/
def State.debugOpen (s : State) : Bool := !decide (s.lcState = 4 ∨ s.lcState = 6)

/-- A write is closed in the life-cycle state or in SAFE_STATE (R296, R302, R501, R509, R536). -/
def State.writeClosed (s : State) (m : Nat) (p : Page) (off : Nat) (v : Word) : Bool :=
  (decide (m = 5) && !s.debugOpen) ||
    (match p.kind with
     | .config => decide (off = 0x044) &&
         ((decide (fieldOf v 2 0 = 1 ∨ fieldOf v 2 0 = 2) && s.loadRefused m (fieldOf v 5 4)) ||
          (decide (fieldOf v 2 0 = 4) && s.releaseClosed))
     | .test => decide (off = 0x040) && (!s.testOpen || (bitOf v 30 && decide (s.lcState = 1)))
     | .twill => decide (0x100 ≤ off) && decide (off % 0x20 = 0x14) && decide (s.lcState = 4)
     | .creel => decide (off = 0x060) && decide (fieldOf v 31 30 = 3) && decide (s.lcState = 4)
     | _ => false)

/-! Check 7. -/

/-- OWNER that warp firmware writes at boot (Table 18-1). -/
def bootOwner (k : PageKind) : Nat :=
  match k with
  | .device | .reset | .mgmt | .test | .log | .shuttle | .sema => 0
  | .power => 1
  | _ => 8

/-- Pages whose OWNER warp firmware never changes. -/
def ownerFixed (k : PageKind) : Bool :=
  match k with
  | .device | .reset | .mgmt | .test | .log | .shuttle | .sema => true
  | _ => false

/-- Identities that Table 18-1 names beside OWNER. -/
def alsoWrites (k : PageKind) (m : Nat) : Bool :=
  match k with
  | .config | .event | .eventMap | .serdes | .pcs => decide (m = 1)
  | _ => false

def State.owner (s : State) (p : Page) : Nat := s.fld (p.base + 0x02C) 5 0

/-- The registers R500 keeps from identity 5. -/
def keptFromJtag (p : Page) (off : Nat) : Bool :=
  match p.kind with
  | .mgmt => decide (off = 0x044 ∨ off = 0x048)
  | .shuttle => decide (off = 0x040) || (decide (0x100 ≤ off) && decide ((off - 0x100) % 0x200 = 0))
  | .test => decide (off = 0x040)
  | .log => decide (off = 0x058)
  | _ => false

/-- The identity may write the page's control fields (R497, R498, R500). -/
def State.controls (s : State) (m : Nat) (p : Page) (off : Nat) : Bool :=
  decide (m = 0) ||
  (decide (m = 5) && !keptFromJtag p off && !(decide (off = 0x02C) && ownerFixed p.kind)) ||
  ((decide (m = s.owner p) || alsoWrites p.kind m) && decide (m ≠ 2 ∧ m ≠ 3 ∧ m ≠ 4 ∧ m ≠ 5 ∧ m ≠ 6))

/-- Identities that move data at any queue, ring and semaphore. -/
def dataMasters (m : Nat) : Bool := decide (m = 0 ∨ m = 1 ∨ m = 5 ∨ m = 8) || (decide (16 ≤ m) && decide (m ≤ 47))

/-- The channel and side of a SHUTTLE offset, and the offset within the side. -/
def sidePart (p : Page) (off : Nat) : Option (Nat × Nat × Nat) :=
  if off < 0x100 ∨ 0x900 ≤ off then none
  else
    let o := (off - 0x100) % 0x200
    if o < 0x40 ∨ 0x140 ≤ o then none
    else some (4 * p.inst + (off - 0x100) / 0x200, (o - 0x40) / 0x80, (o - 0x40) % 0x80)

/-- The DMA channel and the offset within its registers. -/
def chanPart (p : Page) (off : Nat) : Option (Nat × Nat) :=
  if off < 0x100 ∨ 0x300 ≤ off then none else some (4 * p.inst + (off - 0x100) / 0x80, (off - 0x100) % 0x80)

def State.chanFunc (s : State) (ch : Nat) : Nat := s.fld (regAddr .dma (ch / 4) (0x100 + 0x80 * (ch % 4))) 30 29

/-- Is the write one of a data-path register, and may the identity make it (Table 18-1, R446, R439); none for a control write. -/
def State.dataWrite (s : State) (m : Nat) (p : Page) (off : Nat) : Option Bool :=
  match p.kind with
  | .test => if off = 0x070 then some true else none
  | .log => if off = 0x060 then some true else none
  | .sema => if 0x100 ≤ off ∧ off < 0x500 then some (dataMasters m) else none
  | .config => if off = 0x080 then some true else none
  | .event => if off = 0x050 ∨ off = 0x054 then some (dataMasters m) else none
  | .creel => if off = 0x150 ∨ off = 0x154 ∨ off = 0x158 then some (dataMasters m || decide (m = 4)) else none
  | .dma =>
    (match chanPart p off with
     | some (ch, o) => if o = 0x20 ∨ o = 0x2C then some (s.controls m p off || decide (m = 8 + s.chanFunc ch)) else none
     | none => none)
  | .shuttle =>
    (match sidePart p off with
     | some (c, d, o) =>
       if o = 0x10 then some (s.controls m p off || s.isSide m c d)
       else if o = 0x00 ∨ o = 0x04 ∨ o = 0x18 ∨ o = 0x20 ∨ o = 0x24 then some (s.isSide m c d)
       else none
     | none => none)
  | _ => none

/-- Reserved to one identity, beside the rules of the page (R444, R488, R493, R501, R531). -/
def State.reserved (s : State) (m : Nat) (p : Page) (off : Nat) (v : Word) : Bool :=
  match p.kind with
  | .log => decide (off = 0x058) && decide (m ≠ 0)
  | .shuttle =>
    (decide (off = 0x040) || (decide (0x100 ≤ off) && decide ((off - 0x100) % 0x200 = 0))) && decide (m ≠ 0)
  | .test => decide (off = 0x040) && decide (m ≠ 0)
  | .power => decide (off = 0x044) && decide (fieldOf v 1 0 = 3) && decide (m ≠ 0)
  | .eventMap =>
    decide (0x100 ≤ off) &&
      ((!(bitOf v 30 == s.bit (p.base + off) 30) && decide (m ≠ 0)) ||
       (!(bitOf v 29 == s.bit (p.base + off) 29) && decide (m ≠ 0 ∧ m ≠ 1)))
  | _ => false

/-- The identity may make the write (check 7, without the RO comparison). -/
def State.mayWrite (s : State) (m : Nat) (p : Page) (off : Nat) (v : Word) : Bool :=
  !s.reserved m p off v &&
    (match s.dataWrite m p off with
     | some ok => ok
     | none => s.controls m p off)

/-- An RO field would change; ERR_CODE's are not compared (R47). -/
def State.changesRo (p : Page) (off : Nat) (old v : Word) : Bool :=
  decide (off ≠ 0x020) && differs (fieldsAt p off) (fun a => decide (a = .ro)) old v

/-- The identity may make the read: only the side-effect reads are restricted (R446, R497). -/
def State.mayRead (s : State) (m : Nat) (p : Page) (off : Nat) : Bool :=
  match p.kind with
  | .sema => if 0x100 ≤ off ∧ off < 0x500 then dataMasters m else true
  | .event => if off = 0x100 then decide (m = 0 ∨ m = 1 ∨ m = 5 ∨ m = 8) else true
  | .creel => if off = 0x160 then dataMasters m || decide (m = 4) else true
  | .hostper => if 0x100 ≤ off ∧ off < 0x240 ∧ off % 0x20 = 0x10 then s.controls m p off else true
  | .shuttle =>
    (match sidePart p off with
     | some (c, d, o) => if o = 0x08 ∨ o = 0x14 ∨ o = 0x18 then s.isSide m c d else true
     | none => true)
  | _ => true

/-! Check 8. -/

def State.changesLocked (s : State) (p : Page) (off : Nat) (old v : Word) : Bool :=
  s.bit (p.base + 0x030) 0 && differs (fieldsAt p off) (fun a => decide (a = .rwl)) old v

/-! The checks in order. -/

/-- Checks 3 to 6 of an access to a page. -/
def State.pageClosed (s : State) (m : Nat) (p : Page) (off : Nat) : Option Nat :=
  if isHostId m && s.shuttingDown && !openAfterShutdown p then some codeShuttingDown
  else if s.unpowered p off then some codeUnpowered
  else if s.testBusy p off then some codeTestBusy
  else none

/-- Checks 2 to 10 of a write; `old` is the register as it reads. -/
def State.writeFails (s : State) (m : Nat) (p : Page) (off : Nat) (be : Nat) (old v : Word) : Option Nat :=
  if be ≠ 15 then some codeBadSize
  else match s.pageClosed m p off with
    | some c => some c
    | none =>
      if s.writeClosed m p off v then some codeLifecycle
      else if !s.mayWrite m p off v || State.changesRo p off old v then some codeNotPermitted
      else if s.changesLocked p off old v then some codeLocked
      else s.valueBad p off v

/-- Checks 3 to 7 of a read. -/
def State.readFails (s : State) (m : Nat) (p : Page) (off : Nat) : Option Nat :=
  match s.pageClosed m p off with
  | some c => some c
  | none =>
    if decide (m = 5) && !s.debugOpen then some codeLifecycle
    else if !s.mayRead m p off then some codeNotPermitted
    else none

/-! The change log. -/

/-- A register of the data paths (R482, R446). -/
def unlogged (p : Page) (off : Nat) : Bool :=
  match p.kind with
  | .creel => decide (off ∈ [0x060, 0x064, 0x068, 0x06C, 0x150, 0x154, 0x158])
  | .config => decide (off = 0x080)
  | .dma => decide (0x100 ≤ off) && decide ((off - 0x100) % 0x80 = 0x20 ∨ (off - 0x100) % 0x80 = 0x2C)
  | .hostper => decide (0x100 ≤ off) && decide ((off - 0x100) % 0x20 = 0x0C)
  | .event => decide (off = 0x050 ∨ off = 0x054)
  | .log => decide (off = 0x060)
  | .test => decide (off = 0x070)
  | .sema => decide (0x100 ≤ off ∧ off < 0x500)
  | .shuttle =>
    (match sidePart p off with
     | some (_, _, o) => decide (o = 0x00 ∨ o = 0x04 ∨ o = 0x18 ∨ o = 0x20 ∨ o = 0x24)
     | none => false)
  | _ => false

/-- An accepted write of the register makes an entry (R481, R482). -/
def logged (p : Page) (off : Nat) : Bool :=
  let writable (a : Acc) : Bool := decide (a ≠ .ro)
  let fs := (fieldsAt p off).filter (fun f => writable f.acc)
  decide (fs ≠ []) && decide (off ≠ 0x020) && !fs.all (fun f => decide (f.acc = .w1c)) && !unlogged p off

/-- LOG_CMD and the two locks have kinds of their own (Table 17-7). -/
def entryKind (p : Page) (off : Nat) (v : Word) : Nat :=
  if off = 0x030 then 0x1
  else if p = ⟨.shuttle, 0⟩ ∧ off = 0x040 then 0x1
  else if p.kind = .log ∧ off = 0x058 ∧ fieldOf v 1 0 = 1 then 0xC
  else if p.kind = .log ∧ off = 0x058 ∧ fieldOf v 1 0 = 2 then 0xD
  else 0x0

/-- Check 12: the STRICT log refuses the entry. -/
def State.logFull (s : State) (m : Nat) (p : Page) (off : Nat) : Bool :=
  logged p off && !(decide (p.kind = .log) && decide (off = 0x058)) && s.logRefuses m

/-- A refusal at check 12 is counted and raised (R486). -/
def State.noteLogFull (s : State) : State :=
  ({ s with log := { s.log with refused := satAdd (2 ^ 32 - 1) s.log.refused 1 } }).pulse .log 0 1

/-! Ends of an access. -/

/-- A rejected access is recorded in its page and answered with its code (R49, R50). -/
def State.refuse (s : State) (m : Nat) (p : Page) (write : Bool) (off code : Nat) : State :=
  (s.recordRejection p m write off code).answer m write (p.base + off) (rejectedData m write 0 code) code

/-- The register takes an accepted write, ERR_CODE.CLEAR and the header registers included (R40, R47). -/
def State.storeHeader (s : State) (p : Page) (off : Nat) (v : Word) : State :=
  if off = 0x020 then
    (if bitOf v 31 then (s.setReg (p.base + 0x020) 0).setReg (p.base + 0x024) 0 else s)
  else s.setReg (p.base + off) (writtenWord (fieldsAt p off) (s.reg (p.base + off)) v)

/-- The log entry of an accepted write that a command follows or precedes (Table 17-7). -/
def State.logWrite (s : State) (m : Nat) (p : Page) (off : Nat) (v : Word) : State :=
  if logged p off then
    s.logEntry m (entryKind p off v) (p.base + off) (loggedWord (fieldsAt p off) (s.reg (p.base + off)) v)
  else s

/-! A write and a read of a page register from end to end. -/

/-- Registers that hold a separate value for each identity (R231, R489, R542). -/
def perIdentity (p : Page) (off : Nat) : Bool :=
  match p.kind with
  | .creel => decide (off = 0x150 ∨ off = 0x154)
  | .log => decide (off = 0x060)
  | .test => decide (off = 0x070)
  | _ => false

/-- An accepted write leaves its value in the register. -/
def State.store (s : State) (m : Nat) (p : Page) (off : Nat) (v : Word) : State :=
  if perIdentity p off then s.setCap m (p.base + off) (some v) else s.storeHeader p off v

/-- What a write does beside storing its value: the code of check 11 with what a refusal there leaves, the entry's kind and value where
the block gives its own, and the effect. -/
structure Effect where
  refuses : Option Nat := none
  onRefuse : State → State := id
  run : State → State := id
  logAfter : Bool := false
  entry : Option (State → Nat × Word) := none
  waits : Bool := false

/-- The log entry of an accepted write. -/
def State.logEffect (s : State) (m : Nat) (p : Page) (off : Nat) (v : Word) (e : Effect) : State :=
  match e.entry with
  | some f => s.logEntry m (f s).1 (p.base + off) (f s).2
  | none => s.logWrite m p off v

/-- The checks of Table 2-5 in order, and the write (R46, R49, R50). `old` is what the register reads. -/
def State.writeReg (s : State) (m : Nat) (p : Page) (off be : Nat) (old v : Word) (e : Effect) : State :=
  match s.writeFails m p off be old v with
  | some c => s.refuse m p true off c
  | none =>
    match e.refuses with
    | some c => (e.onRefuse s).refuse m p true off c
    | none =>
      if s.logFull m p off then s.noteLogFull.refuse m p true off codeLogFull
      else
        let s1 := s.store m p off v
        let s2 := if e.logAfter then (e.run s1).logEffect m p off v e else e.run (s1.logEffect m p off v e)
        if e.waits then s2 else s2.answer m true (p.base + off) [] 0

/-- A read of a page register: checks 3 to 7, what the block refuses, and the word with the read's side effect. -/
def State.readReg (s : State) (m : Nat) (p : Page) (off : Nat) (refuses : Option Nat) (read : State → State × Word) : State :=
  match s.readFails m p off with
  | some c => s.refuse m p false off c
  | none =>
    match refuses with
    | some c => s.refuse m p false off c
    | none => (read s).1.answer m false (p.base + off) [(read s).2] 0

end Sys2Proof.Machine
end

