-- ==== Sys2Proof/Machine/CreelPage.lean ====
section
/-!
DEFINITION. The CREEL page on the bus: check 11, effects and reads (R197 to R199, R202, R226 to R231, R426).
-/

namespace Sys2Proof.Machine

def creelPage (n : Nat) : Page := ⟨.creel, n⟩

/-! Enabled channels at a queue (R425, R426). -/

def chBase (ch : Nat) : Nat := regAddr .dma (ch / 4) (0x100 + 0x80 * (ch % 4))
def State.chan (s : State) (ch : Nat) : Chan := SMap.get {} s.chans ch
def State.setChan (s : State) (ch : Nat) (v : Chan) : State := { s with chans := SMap.set {} s.chans ch v }

/-- DIR = Q2H. -/
def State.chOut (s : State) (ch : Nat) : Bool := s.bit (chBase ch) 31
def State.chCreel (s : State) (ch : Nat) : Nat := s.fld (chBase ch) 12 0

/-- A channel is enabled from its enable until it is DISABLED again. -/
def State.chEnabled (s : State) (ch : Nat) : Bool := decide ((s.chan ch).state ≠ .disabled)

/-- An enabled channel uses this end of a queue. -/
def State.endTaken (s : State) (n : Nat) (out : Bool) : Bool :=
  (s.chans.map (fun e => e.1)).any (fun ch => s.chEnabled ch && decide (s.chCreel ch = n) && (s.chOut ch == out))

/-! Writes. -/

/-- The owner is in a rollback, so a window operation waits (R199). -/
def State.winWaits (s : State) (n : Nat) : Bool :=
  let st := (s.bolt (s.creelOwner n)).stage
  decide (st = .rollback ∨ st = .recovery)

/-- KIND of Q_PUSH. -/
def pushLast (v : Word) : Bool := decide (fieldOf v 1 0 = 1)
def pushAbort (v : Word) : Bool := decide (fieldOf v 1 0 = 2)

/-- Check 11 of a write. -/
def State.creelRefuses (s : State) (m n off : Nat) (v : Word) : Option Nat :=
  if off = 0x060 then (if s.winRefused n (fieldOf v 31 30) then some codeNotPermitted else none)
  else if off = 0x104 ∨ off = 0x108 then
    (if !s.isQueue n || (decide (off = 0x108 ∧ fieldOf v 2 0 = 2) && !s.flushNowOk n) then some codeNotPermitted else none)
  else if off = 0x158 then
    (if s.busPushRefused n || (s.endTaken n false && decide (m ≠ 4)) then some codeNotPermitted
     else if s.busPushFull n m (pushLast v) (pushAbort v) then some codeQueueFull
     else none)
  else none

/-- A refused push at a full queue is an overrun (R215). -/
def State.creelOnRefuse (s : State) (m n off : Nat) (v : Word) : State :=
  if decide (off = 0x158) && !(s.busPushRefused n || (s.endTaken n false && decide (m ≠ 4))) then
    (busPush n m (pushLast v) (pushAbort v) s).1
  else s

def creelClear (n : Nat) (s : State) : State :=
  [0x04C, 0x050, 0x054].foldl (fun s o => s.setReg (creelBase n + o) 0) s

/-- The matching sticky bit clears the VALID bit of a crossing record (R225). -/
def crossingCleared (n : Nat) (v : Word) (s : State) : State :=
  let clear (bit rec : Nat) (s : State) : State := if bitOf v bit then s.setBit (creelBase n + rec) 31 false else s
  clear 11 0x13C (clear 10 0x134 s)

/-- A window operation on the bus: it is performed, or waits for the owner's rollback (R199). -/
def windowOp (m n : Nat) (v : Word) (s : State) : State :=
  if fieldOf v 31 30 ≠ 0 ∧ s.winWaits n then
    s.issue { master := m, addr := creelBase n + 0x060, write := true, value := v, checked := true }
  else winOp n (fieldOf v 31 30) (bitOf v 10) (fieldOf v 9 0) s

def State.creelEffect (m n off : Nat) (v : Word) (s : State) : State :=
  if off = 0x014 then crossingCleared n v s
  else if off = 0x048 then (if bitOf v 31 then creelClear n s else s)
  else if off = 0x060 then windowOp m n v s
  else if off = 0x108 then
    (match fieldOf v 2 0 with
     | 1 => queueFlush n s
     | 2 => queueFlushNow n s
     | 4 => queueClearCounts n s
     | _ => s)
  else if off = 0x158 then (busPush n m (pushLast v) (pushAbort v) s).1
  else s

/-- What a read of the page shows, without its side effect. -/
def State.creelView (s : State) (m n off : Nat) : Option Word :=
  if off = 0x044 then some (s.creelStat n)
  else if off = 0x150 ∨ off = 0x154 ∨ off = 0x164 ∨ off = 0x168 then
    some (if s.isQueue n then (s.cap m (creelBase n + off)).getD 0 else 0)
  else if off = 0x108 ∨ off = 0x158 ∨ off = 0x160 then some 0
  else s.queueView n off

def State.creelReadRefuses (s : State) (m n off : Nat) : Option Nat :=
  if decide (off = 0x160) && (s.busPopRefused n || (s.endTaken n true && decide (m ≠ 4))) then some codeNotPermitted else none

/-- Window operations that waited and whose owner has left its rollback are performed (R199). -/
def State.completeWindows : Nat → State → State
  | 0, s => s
  | k + 1, s =>
    let ready (e : Issued) : Bool :=
      e.port.isNone && e.write && e.checked && (match pageOf e.addr with
        | some p => decide (p.kind = .creel ∧ e.addr % 0x1000 = 0x060) && !s.winWaits p.inst
        | none => false)
    match s.issued.findIdx? ready with
    | none => s
    | some i =>
      match s.issued[i]? with
      | none => s
      | some e =>
        let n := (e.addr - 0x0040_0000) / 0x1000
        let s1 := winOp n (fieldOf e.value 31 30) (bitOf e.value 10) (fieldOf e.value 9 0) { s with issued := s.issued.eraseIdx i }
        State.completeWindows k (if e.timedOut then s1 else s1.deliver e 0 0)

/-! Accesses of the page by any master. -/

/-- A write of a CREEL register. -/
def creelWrite (m n off be : Nat) (v : Word) (s : State) : State :=
  let old := (s.creelView m n off).getD (s.reg (creelBase n + off))
  s.writeReg m (creelPage n) off be old v
    { refuses := s.creelRefuses m n off v, onRefuse := fun s => s.creelOnRefuse m n off v, run := State.creelEffect m n off v,
      waits := decide (off = 0x060 ∧ fieldOf v 31 30 ≠ 0) && s.winWaits n }

/-- A read of a CREEL register. -/
def creelRead (m n off : Nat) (s : State) : State :=
  s.readReg m (creelPage n) off (s.creelReadRefuses m n off)
    (fun s => if off = 0x160 then busPop n m s else (s, (s.creelView m n off).getD (s.reg (creelBase n + off))))

end Sys2Proof.Machine
end

