-- ==== Sys2Proof/Machine/Pci.lean ====
section
/-!
DEFINITION. The configuration spaces of the four functions, and MSI-X (R404 to R412). Where a register lies within a capability, and
its reset value, are those of the PCI Express specification (PRESUMED, log entry 40).
-/

namespace Sys2Proof.Machine

/-- What a write can change. -/
def pciWritable (f off : Nat) : Word :=
  match off with
  | 0x004 => 0x0000_0146
  | 0x00C => 0x0000_00FF
  | 0x010 => if f = 0 then 0xF800_0000 else 0xFF00_0000
  | 0x014 => 0xFFFF_FFFF
  | 0x018 => 0xFFFF_C000
  | 0x01C => 0xFFFF_FFFF
  | 0x03C => 0x0000_00FF
  | 0x044 => 0x0000_0003
  | 0x050 => 0xC000_0000
  | 0x078 => 0x0000_71FF
  | 0x080 => 0x0000_00C3
  | 0x098 => 0x0000_101F
  | 0x0A0 => 0x0000_000F
  | 0x108 => 0x001F_F010
  | 0x10C => 0x001F_F010
  | 0x114 => 0x0000_F1C1
  | 0x118 => 0x0000_0140
  | 0x248 => if f = 0 then 0x0000_0001 else 0
  | _ => 0

/-- Bits that a written 1 clears. -/
def pciW1c (off : Nat) : Word :=
  match off with
  | 0x104 => 0x001F_F010
  | 0x110 => 0x0000_F1C1
  | _ => 0

/-- PF0 is alone (R407, R502). -/
def State.pf0Alone (s : State) : Bool := s.safeState || decide (s.lcState = 0 ∨ s.lcState = lcRetired)

/-- Next pointers of the extended capabilities (Table 15-3). -/
def extHeader (id version next : Nat) : Word := BitVec.ofNat 32 (place next 20 + place version 16 + id)

/-- A capability register: the fields (high bit, low bit, value) that the manual fixes, the rest open. -/
def capability (f off : Nat) (fs : List (Nat × Nat × Nat)) : Word :=
  fs.foldl (fun w x => withField w x.1 x.2.1 x.2.2) (Config.pciSpace f off)

/-- The read-only part of a configuration register. What Table 15-1, R403, R419 and R423 say of the endpoint stands in its capability
registers. -/
def State.pciFixed (s : State) (f off : Nat) : Word :=
  let only0 (w : Word) : Word := if f = 0 then w else Config.pciSpace f off
  match off with
  | 0x000 => if f = 0 then 0x4096_1F7A else 0x4097_1F7A
  | 0x004 => 0x0010_0000
  | 0x008 => BitVec.ofNat 32 (0x1200_0000 + s.fld 0x044 7 0)
  | 0x00C => BitVec.ofNat 32 (flag (decide (f = 0) && !s.pf0Alone) 23)
  | 0x010 => 0x0000_0004
  | 0x014 => 0
  | 0x018 => 0x0000_0004
  | 0x01C => 0
  | 0x020 => 0
  | 0x024 => 0
  | 0x02C => if f = 0 then 0x0001_1F7A else 0x0002_1F7A
  | 0x030 => 0
  | 0x034 => 0x0000_0040
  | 0x03C => 0
  | 0x040 => 0x0003_5001
  | 0x044 => 0x0000_0008
  | 0x050 => if f = 0 then 0x00FF_7011 else 0x001F_7011
  | 0x054 => 0x0000_0002
  | 0x058 => 0x0000_1002
  | 0x070 => 0x0002_0010
  -- Max_Payload_Size up to 512 B, Extended Tag Field, error reporting by role, FLR
  | 0x074 => capability f off [(4, 0, 2), (5, 5, 1), (15, 15, 1), (28, 28, 1)]
  -- 32 GT/s, x16, ASPM L1 only, and its exit latency
  | 0x07C => capability f off [(3, 0, 5), (9, 4, 16), (11, 10, 2), (17, 15, 4)]
  | 0x078 => 0
  -- the reference clock is the host's
  | 0x080 => BitVec.ofNat 32 (place (s.fld 0x70040 30 28) 16 + place (s.fld 0x70040 27 23) 20 + place 1 28)
  -- Completion Timeout ranges A to D and disabling; no AtomicOp, LTR or TPH; 10-bit tags on both sides
  | 0x094 => capability f off [(4, 0, 31), (9, 6, 0), (13, 11, 0), (17, 16, 3)]
  | 0x098 => 0
  -- every speed from 2.5 to 32 GT/s
  | 0x09C => capability f off [(7, 1, 31)]
  | 0x0A0 => 0
  | 0x100 => if f = 0 then extHeader 0x0001 2 0x148 else extHeader 0x0001 2 0
  | 0x104 => 0
  | 0x108 => 0
  | 0x10C => 0
  | 0x110 => 0
  | 0x114 => 0
  | 0x118 => 0x0000_00A0
  | 0x11C => 0
  | 0x120 => 0
  | 0x124 => 0
  | 0x128 => 0
  | 0x148 => only0 (extHeader 0x0003 1 0x158)
  | 0x14C => only0 (s.reg 0x048)
  | 0x150 => only0 (s.reg 0x04C)
  | 0x158 => only0 (extHeader 0x0019 1 0x188)
  | 0x188 => only0 (extHeader 0x0025 1 0x198)
  | 0x198 => only0 (extHeader 0x0026 1 0x1C8)
  | 0x1C8 => only0 (extHeader 0x002A 1 0x1F8)
  | 0x1F8 => only0 (extHeader 0x0027 1 0x240)
  | 0x240 => only0 (extHeader 0x001F 1 0)
  -- PTM requester, no responder
  | 0x244 => only0 (capability f off [(2, 0, 1)])
  | 0x248 => 0
  | _ => Config.pciSpace f off

/-- A read of a configuration register. -/
def State.pciRead (s : State) (f off : Nat) : Word := s.pciFixed f off ||| s.pciReg f off

/-- A write of a configuration register, without what follows from it. -/
def State.pciStore (s : State) (f off : Nat) (v : Word) : State :=
  let old := s.pciReg f off
  let w := pciWritable f off
  s.setPci f off (((old &&& ~~~w) ||| (v &&& w)) &&& ~~~(v &&& pciW1c off))

/-! What the functions may do. -/

def State.msEnabled (s : State) (f : Nat) : Bool := s.pciBit f pciCommand 1
def State.bmEnabled (s : State) (f : Nat) : Bool := s.pciBit f pciCommand 2
def State.inD3 (s : State) (f : Nat) : Bool := decide (fieldOf (s.pciReg f pciPmcsr) 1 0 = 3)
def State.inFlr (s : State) (f : Nat) : Bool := s.pcie.flr.testBit f

/-- The function may issue requests. -/
def State.able (s : State) (f : Nat) : Bool := s.bmEnabled f && !s.inD3 f && !s.inFlr f

/-! MSI-X (R409, R411). -/

/-- A vector control word has its mask bit set at reset. -/
def msixReset (off : Nat) : Word := if off % 16 = 12 then 1 else 0

def vectorsOf (f : Nat) : Nat := if f = 0 then 256 else 32

def State.msixWord (s : State) (f off : Nat) : Word := SMap.get (msixReset off) s.pcie.msix (pciKey f off)
def State.setMsix (s : State) (f off : Nat) (v : Word) : State :=
  { s with pcie := { s.pcie with msix := SMap.set (msixReset off) s.pcie.msix (pciKey f off) v } }
def State.pendingBit (s : State) (k : Nat) : Bool := SMap.get false s.pcie.pba k
def State.setPending (s : State) (k : Nat) (b : Bool) : State :=
  { s with pcie := { s.pcie with pba := SMap.set false s.pcie.pba k b } }

def State.msixOn (s : State) (f : Nat) : Bool := s.pciBit f pciMsix 31

/-- Vector `256 f + v` is sent at once. -/
def State.sendable (s : State) (k : Nat) : Bool :=
  let f := k / 256
  s.msixOn f && !s.pciBit f pciMsix 30 && !bitOf (s.msixWord f (16 * (k % 256) + 12)) 0 && s.able f

/-- The posted write of a vector: function and vector, address, data. -/
def State.sendVector (s : State) (k : Nat) : State :=
  let at_ (o : Nat) : Word := s.msixWord (k / 256) (16 * (k % 256) + o)
  { s with pcie := { s.pcie with sent := some (k, (joinDword (at_ 0) (at_ 4)).toNat, at_ 8) } }

/-- MSIX_MESSAGE: the oldest vector request is sent, or sets its pending bit (R411). A function whose MSI-X is not enabled sends
nothing. -/
def msixMessageOp (s : State) : State :=
  match s.ev.msixWait with
  | [] => s
  | k :: rest =>
    let s1 := { s with ev := { s.ev with msixWait := rest } }
    if s1.sendable k then s1.sendVector k
    else if s1.msixOn (k / 256) then s1.setPending k true
    else s1

/-- Pending vectors of a function whose condition has ended are requested again. -/
def State.releasePending (s : State) (f : Nat) : State :=
  let ks := (s.pcie.pba.map (fun e => e.1)).filter (fun k => decide (k / 256 = f) && s.sendable k)
  let s1 := ks.foldl (fun s k => s.setPending k false) s
  { s1 with ev := { s1.ev with msixWait := s1.ev.msixWait ++ ks } }

/-- The PBA words. -/
def State.pbaWord (s : State) (f k : Nat) : Word :=
  BitVec.ofNat 32 ((List.range 32).foldl (fun n i => n + flag (s.pendingBit (256 * f + 32 * k + i)) i) 0)

/-- A function's configuration space, table and pending bits return to their reset values, and its vector requests are gone (R416, R417). -/
def State.resetFunction (s : State) (f : Nat) : State :=
  let mine {α : Type} (m : SMap α) : SMap α := m.filter (fun e => decide (e.1 / 4096 ≠ f))
  { s with pcie := { s.pcie with cfg := mine s.pcie.cfg, msix := mine s.pcie.msix,
                                 pba := s.pcie.pba.filter (fun e => decide (e.1 / 256 ≠ f)) },
           ev := { s.ev with msixWait := s.ev.msixWait.filter (fun k => decide (k / 256 ≠ f)) } }

end Sys2Proof.Machine
end

