-- ==== Sys2Proof/Machine/Dma.lean ====
section
/-!
DEFINITION. Spool DMA channels and the reads they issue (R421 to R436).
-/

namespace Sys2Proof.Machine

/-! Registers of a channel (Table 15-13). -/

def rChCtrl (ch : Nat) : Nat := chBase ch + 0x18
def rChStat (ch : Nat) : Nat := chBase ch + 0x1C
def rChPi (ch : Nat) : Nat := chBase ch + 0x20
def rChCi (ch : Nat) : Nat := chBase ch + 0x24
def rChCplPi (ch : Nat) : Nat := chBase ch + 0x28
def rChCplCi (ch : Nat) : Nat := chBase ch + 0x2C
def rChCredits (ch : Nat) : Nat := chBase ch + 0x40

def State.chIdleUs (s : State) (ch : Nat) : Nat := s.fld (chBase ch + 4) 31 16
def State.chSlots (s : State) (ch : Nat) : Nat := 2 ^ s.fld (chBase ch + 4) 12 8
def State.chRecords (s : State) (ch : Nat) : Nat := 2 ^ s.fld (chBase ch + 4) 4 0
def State.chBridge (s : State) (ch : Nat) : Option Nat := if s.bit (chBase ch) 27 then some (s.fld (chBase ch) 26 23) else none

/-- An event of a channel: 0 DONE, 1 ERROR, 2 STOPPED, 3 CPL_WAIT, 4 TAIL_DISCARDED (R440). -/
def State.chEvent (s : State) (ch j : Nat) : State := s.pulse .dma (ch / 4) (8 * (ch % 4) + j)

/-- The element size: the smallest of 1, 2, 4 and 8 bytes that holds WIDTH bits. -/
def elementSize (width : Nat) : Nat := if width ≤ 8 then 1 else if width ≤ 16 then 2 else if width ≤ 32 then 4 else 8

/-- SLEEP holds the channels (R433). -/
def State.asleep (s : State) : Bool := decide (s.pwrState = pwrEntering ∨ s.pwrState = pwrSleeping ∨ s.pwrState = pwrWaking)

/-- The channel may issue requests and move elements. -/
def State.chMoves (s : State) (ch : Nat) : Bool :=
  let st := (s.chan ch).state
  decide (st = .running ∨ st = .stopping) && s.able (s.chanFunc ch) && !s.asleep

def State.chReads (s : State) (ch : Nat) : Nat := s.pcie.reads.countP (fun r => decide (r.chan = ch))

/-- The completion ring has no room for a record (R427). -/
def State.ringFull (s : State) (ch : Nat) : Bool :=
  decide ((s.fld (rChCplPi ch) 15 0 + 1) % s.chRecords ch = s.fld (rChCplCi ch) 15 0)

def State.waitCpl (s : State) (ch : Nat) : State :=
  let v := s.chan ch
  if v.waiting then s else (s.setChan ch { v with waiting := true }).chEvent ch 3

/-! Descriptors (Table 15-7). -/

def descAddr (ws : List Word) : Nat := (joinDword (ws.getD 0 0) (ws.getD 1 0)).toNat
def descLen (ws : List Word) : Nat := fieldOf (ws.getD 2 0) 23 0
def descLast (ws : List Word) : Bool := bitOf (ws.getD 2 0) 31
def descIrq (ws : List Word) : Bool := bitOf (ws.getD 2 0) 30

def State.descBad (s : State) (ch : Nat) (ws : List Word) : Bool :=
  let e := (s.chan ch).size
  decide (descAddr ws % e ≠ 0 ∨ descLen ws = 0 ∨ descLen ws % e ≠ 0 ∨ fieldOf (ws.getD 2 0) 29 24 ≠ 0) ||
    (s.chOut ch && descLast ws) || (ws.drop 4).any (fun w => decide (w ≠ 0))

/-- Record status (Table 15-9). -/
def stBadDesc : Nat := 1
def stHostRead : Nat := 2
def stPoison : Nat := 3
def stTimeout : Nat := 4
def stReject : Nat := 5

/-! Ends of a descriptor. -/

/-- Outstanding reads of a channel are discarded when they arrive (R434). -/
def State.killReads (s : State) (ch : Nat) : State :=
  { s with pcie := { s.pcie with reads := s.pcie.reads.map (fun r => if r.chan = ch then { r with dead := true } else r) } }

/-- An open packet is ended with ABORT (R432, R434). -/
def State.abortPacket (s : State) (ch : Nat) : State :=
  if (s.chan ch).inPacket && !s.chOut ch then
    let s1 := creelWrite 4 (s.chCreel ch) 0x158 15 2 s
    s1.setChan ch { s1.chan ch with inPacket := false }
  else s

/-- A descriptor ends: its record waits to be written, and CH_CI moves on (R427, R431, R432). -/
def State.endDesc (s : State) (ch slot : Nat) (cookie : Word) (status moved : Nat) (idle raw last irq : Bool) : State :=
  let r : DmaRecord :=
    ⟨[cookie, BitVec.ofNat 32 (place status 24 + moved), BitVec.ofNat 32 (flag idle 19 + flag raw 17 + flag last 16 + slot)], status, irq⟩
  let s1 := if status = 0 then s else (s.abortPacket ch).killReads ch
  let v := s1.chan ch
  (s1.setChan ch { v with work := none, fetch := if status = 0 then v.fetch else none, badFetch := 0, record := some r }).setReg (rChCi ch)
    (BitVec.ofNat 32 ((slot + 1) % s.chSlots ch))

def State.endWork (s : State) (ch status : Nat) (idle : Bool) : State :=
  match (s.chan ch).work with
  | none => s
  | some w => s.endDesc ch w.slot (w.words.getD 3 0) status w.moved idle w.raw w.last (descIrq w.words)

/-- A bus-window access of the channel was rejected. -/
def State.rejectWork (s : State) (ch : Nat) : State := (s.setFld (rChStat ch) 15 8 s.resp.code).endWork ch stReject false

/-! Starting descriptors and issuing reads. -/

/-- Credits let the next descriptor start (R435). -/
def State.creditOk (s : State) (ch : Nat) : Bool :=
  match s.chBridge ch with
  | some k => decide (s.svMode (288 + k) = brOff) || decide (0 < s.fld (rChCredits ch) 15 0)
  | none => true

def State.takeCredit (s : State) (ch : Nat) : State :=
  match s.chBridge ch with
  | some k => if s.svMode (288 + k) = brOff then s else s.setFld (rChCredits ch) 15 0 (s.fld (rChCredits ch) 15 0 - 1)
  | none => s

/-- Nothing of the channel is in progress, and it may start a descriptor. -/
def State.chIdle (s : State) (ch : Nat) : Bool :=
  let v := s.chan ch
  decide (v.state = .running) && s.chMoves ch && v.work.isNone && v.record.isNone

/-- The next fetched descriptor starts; one that breaks Table 15-7 ends at once, and a fetch that failed has the record of the slot at
CH_CI (R431, R432). -/
def State.startDesc (s : State) (ch : Nat) : State :=
  let v := s.chan ch
  match v.descs with
  | [] => if decide (v.badFetch ≠ 0) && s.chIdle ch then s.endDesc ch (s.fld (rChCi ch) 15 0) 0 v.badFetch 0 false false false false else s
  | (slot, ws) :: rest =>
    if s.chIdle ch && !v.tail then
      if s.ringFull ch then s.waitCpl ch
      else if !s.creditOk ch then s
      else
        let s1 := (s.takeCredit ch).setChan ch
          { v with descs := rest, work := some { slot := slot, words := ws, since := s.now }, written := [] }
        if s1.descBad ch ws then s1.endWork ch stBadDesc false else s1
    else s

/-- Max_Read_Request_Size of a function, bounded at 512 bytes (R422). -/
def State.readBound (s : State) (f : Nat) : Nat := min 512 (128 * 2 ^ fieldOf (s.pciReg f pciDevCtl) 14 12)

/-- The read a channel would issue next: data or not, length, and its place. No read crosses a 4 KiB boundary (R422). -/
def State.wants (s : State) (ch : Nat) : Option (Bool × Nat × Nat) :=
  let v := s.chan ch
  let bound := s.readBound (s.chanFunc ch)
  if !s.chMoves ch || decide (64 ≤ s.chReads ch) then none
  else
    let data : Option (Bool × Nat × Nat) :=
      match v.work with
      | some w =>
        if !s.chOut ch && decide (w.asked < descLen w.words) then
          some (true, min (min bound (descLen w.words - w.asked)) (4096 - (descAddr w.words + w.asked) % 4096), w.asked)
        else none
      | none => none
    match data with
    | some r => some r
    | none =>
      let pi := s.fld (rChPi ch) 15 0
      let n := min (min (min 8 (bound / 32)) (128 - v.fetched % 128)) (if v.fetched ≤ pi then pi - v.fetched else s.chSlots ch - v.fetched)
      let busy := s.pcie.reads.any (fun r => decide (r.chan = ch) && !r.data && !r.dead)
      if decide (v.state = .running) && v.descs.isEmpty && v.fetch.isNone && decide (v.badFetch = 0) && !busy && decide (0 < n) && v.record.isNone then
        some (false, 32 * n, v.fetched)
      else none

/-! Reads of the configuration engine, which is requester 64 (R295, R421). -/

def engineRequester : Nat := 64

/-- A host-memory load is being read. -/
def State.hostLoad (s : State) : Bool := s.loadRuns && decide (s.engSource = srcHost)

/-- The read the engine would issue next: at most 128 are outstanding. -/
def State.engineWants (s : State) : Option (Bool × Nat × Nat) :=
  let total := (s.reg rCfgSrcLen).toNat
  if s.hostLoad && s.able 0 && decide (s.chReads engineRequester < 128) && decide (s.eng.asked < total) then
    some (true, min (min (s.readBound 0) (total - s.eng.asked)) (4096 - s.eng.asked % 4096), s.eng.asked)
  else none

/-- The read a requester would issue next. -/
def State.requests (s : State) (ch : Nat) : Option (Bool × Nat × Nat) := if ch = engineRequester then s.engineWants else s.wants ch

/-- Words that have arrived from host memory follow the image in order. -/
def Engine.gather : Nat → Engine → Engine
  | 0, e => e
  | n + 1, e =>
    match e.parts.find? (fun p => decide (p.1 = 4 * (e.words.length + e.got.length))) with
    | none => e
    | some p => Engine.gather n { e with got := e.got ++ p.2, parts := e.parts.filter (fun q => decide (q.1 ≠ p.1)) }

def Engine.arrived (e : Engine) (off : Nat) (ws : List Word) : Engine :=
  Engine.gather (e.parts.length + 1) { e with parts := e.parts ++ [(off, ws)] }

/-- First tag and number of tags of the pool (R421). -/
def State.tagPool (s : State) : Nat × Nat :=
  if s.pciBit 0 pciDevCtl2 12 then (256, 768) else if s.pciBit 0 pciDevCtl 8 then (0, 256) else (0, 32)

/-- The lowest free tag of the pool. -/
def State.freeTag (s : State) : Option Nat :=
  let (first, n) := s.tagPool
  ((List.range n).map (fun k => first + k)).find? (fun t => !s.pcie.reads.any (fun r => decide (r.tag = t)))

/-- PCIE_TAGS.PEAK follows the tags held. -/
def State.notePeak (s : State) : State :=
  s.setFld 0x70048 25 16 (max (s.fld 0x70048 25 16) s.pcie.reads.length)

/-- The requester that gets the next tag, in round-robin order of channel number with the engine after channel 63 (R421). -/
def State.nextRequester (s : State) : Option Nat :=
  let ks := (s.chans.map (fun e => e.1) ++ [engineRequester]).filter (fun ch => (s.requests ch).isSome)
  match ks.find? (fun ch => decide (s.pcie.rr < ch)) with
  | some ch => some ch
  | none => ks.head?

/-- Waiting requesters get tags while tags are free. -/
def State.grantTags : Nat → State → State
  | 0, s => s
  | k + 1, s =>
    match s.nextRequester, s.freeTag with
    | some ch, some tag =>
      (match s.requests ch with
       | some (data, len, off) =>
         let v := s.chan ch
         let v1 := if data then { v with work := v.work.map (fun w => { w with asked := w.asked + len }) }
                   else { v with fetched := (v.fetched + len / 32) % s.chSlots ch }
         let s1 := if ch = engineRequester then s.withEng { s.eng with asked := s.eng.asked + len } else s.setChan ch v1
         let r : DevRead := ⟨tag, ch, data, len, off, false⟩
         let s2 : State := { s1 with pcie := { s1.pcie with reads := s1.pcie.reads ++ [r], rr := ch } }
         State.grantTags k s2.notePeak
       | none => s)
    | _, _ => s

/-- Everything the tags allow is asked for. -/
def State.ask (s : State) : State := s.grantTags 1024

/-- A channel pauses, resumes, starts what it can and asks for what it needs (R418, R433). -/
def State.advance (s : State) (ch : Nat) : State :=
  let v := s.chan ch
  let free := s.able (s.chanFunc ch) && !s.asleep
  let s1 := if decide (v.state = .paused) && free then s.setChan ch { v with state := .running }
            else if decide (v.state = .running) && !free && decide (s.chReads ch = 0) then s.setChan ch { v with state := .paused }
            else s
  (s1.startDesc ch).ask

/-- A channel that has nothing left to finish is DISABLED (R433). -/
def State.settleStop (s : State) (ch : Nat) : State :=
  let v := s.chan ch
  if decide (v.state = .stopping) && v.work.isNone && v.record.isNone then
    let s1 := (s.killReads ch).setChan ch { v with state := .disabled, descs := [], fetch := none, badFetch := 0,
                                                   fetched := s.fld (rChCi ch) 15 0, waiting := false, credit := 0 }
    (s1.setBit (rChCtrl ch) 0 false).chEvent ch 2
  else s

/-! Moving elements (R428 to R430). -/

/-- The channel moves elements: while the creel's VFAB is removed it waits (R433). -/
def State.chPlays (s : State) (ch : Nat) : Bool := s.chMoves ch && !s.unpowered (creelPage (s.chCreel ch)) 0x158

/-- Count a moved element. -/
def State.countMoved (s : State) (ch e : Nat) : State :=
  s.setPair (chBase ch + 0x34) (chBase ch + 0x38) (s.pair (chBase ch + 0x34) (chBase ch + 0x38) + e)

/-- Little-endian value of some bytes. -/
def bytesValue (bs : List Byte) : Nat := bs.foldr (fun b n => b.toNat + 256 * n) 0
def valueBytes (n v : Nat) : List Byte := (List.range n).map (fun k => BitVec.ofNat 8 (v / 2 ^ (8 * k)))

/-- A push of one element through the bus window; whether it was rejected is the answer's code. -/
def pushElement (n : Nat) (v : Nat) (last : Bool) (s : State) : State :=
  let s1 := creelWrite 4 n 0x150 15 (loHalf v) s
  if s1.resp.code ≠ 0 then s1
  else
    let s2 := if 32 < s1.qWidth n then creelWrite 4 n 0x154 15 (hiHalf v) s1 else s1
    if s2.resp.code ≠ 0 then s2 else creelWrite 4 n 0x158 15 (if last then 1 else 0) s2

/-- An H2Q channel pushes what it has read, up to the SPACE it last read. -/
def pushReady (ch : Nat) : Nat → State → State
  | 0, s => s
  | k + 1, s =>
    let v := s.chan ch
    let n := s.chCreel ch
    match v.work with
    | none => s
    | some w =>
      if decide (w.ready.length < v.size ∨ v.credit = 0 ∨ v.size = 0) || !s.chPlays ch then s
      else
        let final := decide (w.moved + v.size = descLen w.words)
        let last := final && descLast w.words && s.qPacket n
        let s1 := pushElement n (bytesValue (w.ready.take v.size)) last s
        if s1.resp.code ≠ 0 then s1.rejectWork ch
        else
          let v1 := s1.chan ch
          let w1 := { w with ready := w.ready.drop v.size, moved := w.moved + v.size, last := last }
          let s2 := (s1.setChan ch { v1 with work := some w1, credit := v.credit - 1, inPacket := s.qPacket n && !last }).countMoved ch v.size
          if final then s2.endWork ch 0 false else pushReady ch k s2

/-- A pop through the bus window: the element, and Q_POP_STAT. -/
def popElement (n : Nat) (s : State) : State × Nat × Word :=
  let s1 := creelRead 4 n 0x160 s
  if s1.resp.code ≠ 0 then (s1, 0, 0)
  else
    let lo := s1.resp.data.headD 0
    let s2 := if 32 < s1.qWidth n then creelRead 4 n 0x164 s1 else s1
    let hi := if 32 < s1.qWidth n then s2.resp.data.headD 0 else 0
    let s3 := creelRead 4 n 0x168 s2
    (s3, (joinDword lo hi).toNat % 2 ^ s1.qWidth n, s3.resp.data.headD 0)

/-- Max_Payload_Size of a function, bounded at 512 bytes, and whether the channel's data writes carry Relaxed Ordering (R404, R422, R424). -/
def State.writeBound (s : State) (f : Nat) : Nat := min 512 (128 * 2 ^ fieldOf (s.pciReg f pciDevCtl) 7 5)
def State.chRelaxed (s : State) (ch : Nat) : Bool := s.bit (chBase ch) 28 && s.pciBit (s.chanFunc ch) pciDevCtl 4

/-- Bytes for host memory: they go on in the last write where its bound and the 4 KiB boundary let them (R422). -/
def postBytes (bound : Nat) (relaxed : Bool) (a : Nat) (bs : List Byte) (ws : List HostPost) : List HostPost :=
  match ws.getLast? with
  | some w =>
    if w.addr + w.bytes.length = a ∧ w.bytes.length + bs.length ≤ bound ∧ a % 4096 ≠ 0 then ws.dropLast ++ [{ w with bytes := w.bytes ++ bs }]
    else ws ++ [⟨a, bs, relaxed⟩]
  | none => [⟨a, bs, relaxed⟩]

/-- A Q2H channel pops up to the LEVEL it last read, and writes each element to its buffer. -/
def popReady (ch : Nat) : Nat → State → State
  | 0, s => s
  | k + 1, s =>
    let v := s.chan ch
    let n := s.chCreel ch
    match v.work with
    | none => s
    | some w =>
      if decide (v.credit = 0 ∨ v.size = 0) || !s.chPlays ch then s
      else
        let (s1, x, stat) := popElement n s
        let v1 := s1.chan ch
        if s1.resp.code ≠ 0 then s1.rejectWork ch
        else if bitOf stat 0 then s1.setChan ch { v1 with credit := 0 }
        else
          let last := s.qPacket n && bitOf stat 1
          let w1 := { w with moved := w.moved + v.size, raw := w.raw || bitOf stat 2, last := last, since := s.now }
          let posts := postBytes (s.writeBound (s.chanFunc ch)) (s.chRelaxed ch) (descAddr w.words + w.moved) (valueBytes v.size x) v.written
          let s2 := (s1.setChan ch { v1 with work := some w1, credit := v.credit - 1, inPacket := s.qPacket n && !last,
                                             written := posts }).countMoved ch v.size
          if w1.moved = descLen w.words ∨ last = true then s2.endWork ch 0 false else popReady ch k s2

/-- Elements move, and the next descriptor starts when one ends. -/
def State.move (s : State) (ch : Nat) : State :=
  (if s.chOut ch then popReady ch 1024 s else pushReady ch 1024 s).advance ch

/-- Every channel goes on, with the elements it holds. -/
def State.advanceAll (s : State) : State := ((s.chans.map (fun e => e.1)).foldl (fun s ch => (s.advance ch).move ch) s).ask

/-- DMA_LEVEL_POLL: a waiting channel reads Q_LEVEL (R430); one that has waited for its creel's VFAB goes on (R433). -/
def levelPoll (ch t : Nat) (s : State) : State :=
  let v := s.chan ch
  let n := s.chCreel ch
  let early := match v.polled with | some p => decide (t < p + 256) | none => false
  if !s.chPlays ch || (v.work.isNone && !v.tail) then s
  else if v.credit ≠ 0 then s.move ch
  else if early then s
  else
    let s1 := creelRead 4 n 0x10C s
    let w := s1.resp.data.headD 0
    if s1.resp.code ≠ 0 then s1.rejectWork ch
    else
      let c := if s.chOut ch then fieldOf w 10 0 else fieldOf w 26 16
      let v1 := s1.chan ch
      let seen := s.chOut ch && decide (0 < c)
      (s1.setChan ch { v1 with credit := c, polled := some s.now,
                               work := v1.work.map (fun w => { w with since := if seen then s.now else w.since }) }).move ch

/-- DMA_IDLE_TIMEOUT (R429). -/
def idleTimeout (ch t : Nat) (s : State) : State :=
  match (s.chan ch).work with
  | none => s
  | some w =>
    if s.chOut ch && s.chMoves ch && decide (0 < w.moved) && decide (s.chIdleUs ch ≠ 0) && decide (s.qLevel (s.chCreel ch) = 0) &&
        decide (w.since + 1000 * s.chIdleUs ch ≤ t) then
      (s.endWork ch 0 true).advance ch
    else s

/-- TAIL_DISCARDED: a marked tail is popped and discarded up to its PACKET_LAST (R434). -/
def discardTail (ch : Nat) : Nat → State → State
  | 0, s => s
  | k + 1, s =>
    let v := s.chan ch
    if decide (v.credit = 0) || !v.tail || !s.chPlays ch then s
    else
      let (s1, _, stat) := popElement (s.chCreel ch) s
      let v1 := s1.chan ch
      if s1.resp.code ≠ 0 ∨ bitOf stat 0 = true then s1.setChan ch { v1 with credit := 0 }
      else
        let c := chBase ch + 0x3C
        let s2 := (s1.setChan ch { v1 with credit := v.credit - 1 }).setReg c (BitVec.ofNat 32 (satAdd (2 ^ 32 - 1) (s1.reg c).toNat 1))
        if bitOf stat 1 then ((s2.setChan ch { s2.chan ch with tail := false, inPacket := false }).chEvent ch 4).advance ch
        else discardTail ch k s2

def tailDiscardedOp (ch : Nat) (s : State) : State := discardTail ch 1024 s

/-! Reads that end. -/

/-- DESCRIPTOR_FETCH: the channel takes the descriptors of a read that has ended (R427). -/
def descriptorFetch (ch : Nat) (s : State) : State :=
  let v := s.chan ch
  match v.fetch with
  | none => s
  | some r =>
    if r.status ≠ 0 then (s.setChan ch { v with fetch := none, badFetch := r.status }).advance ch
    else
      let word (k : Nat) : Word := BitVec.ofNat 32 (bytesValue ((r.bytes.drop (4 * k)).take 4))
      let one (i : Nat) : Nat × List Word := ((r.off + i) % s.chSlots ch, (List.range 8).map (fun k => word (8 * i + k)))
      (s.setChan ch { v with fetch := none, descs := v.descs ++ (List.range (r.bytes.length / 32)).map one }).advance ch

/-- DMA_DATA_READ_DONE: the next bytes of the buffer are ready, in buffer order (R424, R428). -/
def dataReadDone (ch : Nat) (s : State) : State :=
  let v := s.chan ch
  match v.work with
  | none => s
  | some w =>
    match w.parts.find? (fun p => decide (p.off = w.moved + w.ready.length)) with
    | none => s
    | some p =>
      if p.status ≠ 0 then (s.endWork ch p.status false).advance ch
      else (s.setChan ch { v with work := some { w with ready := w.ready ++ p.bytes,
                                                        parts := w.parts.filter (fun q => decide (q.off ≠ p.off)) } }).move ch

/-- A read of the device ends: its tag is free, and its channel holds the result (R423). -/
def State.readEnds (s : State) (r : DevRead) (status : Nat) (bytes : List Byte) : State :=
  let s1 := { s with pcie := { s.pcie with reads := s.pcie.reads.filter (fun q => decide (q.tag ≠ r.tag)) } }
  let v := s1.chan r.chan
  let d : ReadDone := ⟨r.off, status, bytes⟩
  let s2 := if r.dead then s1
            else if r.data then s1.setChan r.chan { v with work := v.work.map (fun w => { w with parts := w.parts ++ [d] }) }
            else s1.setChan r.chan { v with fetch := some d }
  (s2.advance r.chan).ask

/-- A read of the engine ends: the words go on to the load, and a failure ends it with the source-failure code (R295). -/
def State.engineReadEnds (s : State) (r : DevRead) (ok : Bool) (ws : List Word) : State :=
  let s1 := { s with pcie := { s.pcie with reads := s.pcie.reads.filter (fun q => decide (q.tag ≠ r.tag)) } }
  (if r.dead then s1
   else if ok then s1.withEng (s1.eng.arrived r.off ws)
   else s1.rejectLoad rejSourceFail s1.eng.sect (4 * s1.eng.words.length)).ask

/-- A device read ends. -/
def State.deviceReadEnds (s : State) (r : DevRead) (status : Nat) (ws : List Word) (bytes : List Byte) : State :=
  if r.chan = engineRequester then s.engineReadEnds r (decide (status = 0)) ws else s.readEnds r status bytes

/-- The function whose requester ID a read carries; the engine's is PF0 (log entry 79). -/
def State.readFunc (s : State) (r : DevRead) : Nat := if r.chan = engineRequester then 0 else s.chanFunc r.chan

/-- The address a read asks for. -/
def State.readAddr (s : State) (r : DevRead) : Nat :=
  if r.chan = engineRequester then s.pair 0x6054 0x6058 + r.off
  else if r.data then (((s.chan r.chan).work.map (fun w => descAddr w.words)).getD 0) + r.off
  else (joinDword (s.reg (chBase r.chan + 0x08)) (s.reg (chBase r.chan + 0x0C))).toNat + 32 * r.off

def wordsBytes (ws : List Word) : List Byte := ws.flatMap (fun w => valueBytes 4 w.toNat)

/-- DEVICE_READ_COMPLETION: the whole answer of a read, or an unexpected completion (R423). -/
def readCompletion (tag : Nat) (st : CplStatus) (ws : List Word) (s : State) : State :=
  match s.pcie.reads.find? (fun r => decide (r.tag = tag)) with
  | none => ((s.count 0x70050 15 0 1).aerAdvisory 0 16).pcieEvent 5 0
  | some r =>
    let f := s.readFunc r
    let skip := s.readAddr r % 4
    match st with
    | .ok =>
      if r.dead || decide (ws.length = (skip + r.len + 3) / 4) then s.deviceReadEnds r 0 ws (((wordsBytes ws).drop skip).take r.len) else s
    | .poisoned => (s.aer f 12).deviceReadEnds r stPoison [] []
    | .unsupported | .abort => s.deviceReadEnds r stHostRead [] []

/-- COMPLETION_TIMEOUT; a function may have it disabled (R423). -/
def readTimeout (tag : Nat) (s : State) : State :=
  match s.pcie.reads.find? (fun r => decide (r.tag = tag)) with
  | none => s
  | some r =>
    if s.pciBit (s.readFunc r) pciDevCtl2 4 then s else (s.aer (s.readFunc r) 14).deviceReadEnds r stTimeout [] []

/-! Records (R431, R435). -/

/-- The IN bridge of a channel has no room (R435). -/
def State.recordHeld (s : State) (ch : Nat) : Bool :=
  match s.chBridge ch with
  | some k => decide (s.svMode (304 + k) = brQueue ∧ 16 ≤ (s.bridge (304 + k)).fifo.length)
  | none => false

/-- DMA_RECORD: the record is written, or waits for room (R427, R431, R432). -/
def dmaRecordOp (ch : Nat) (s : State) : State :=
  let v := s.chan ch
  match v.record with
  | none => s
  | some r =>
    if !s.chMoves ch || s.recordHeld ch then s
    else if s.ringFull ch then s.waitCpl ch
    else
      let pi := s.fld (rChCplPi ch) 15 0
      let next := (pi + 1) % s.chRecords ch
      let w3 := BitVec.ofNat 32 (flag v.phase 31 + s.now % 2 ^ 31)
      let ring := (joinDword (s.reg (chBase ch + 0x10)) (s.reg (chBase ch + 0x14))).toNat
      let post : HostPost := ⟨ring + 16 * pi, wordsBytes (r.words ++ [w3]), false⟩
      let s1 := (((s.setReg (rChCplPi ch) (BitVec.ofNat 32 next)).countWrap (chBase ch + 0x30)).setFld (rChStat ch) 23 16 r.status).setChan
        ch { v with record := none, waiting := false, phase := if next = 0 then !v.phase else v.phase, lastRecord := some post }
      let s2 := match s1.chBridge ch with
        | some k => clockedWrite (304 + k) (joinDword (r.words.getD 0 0) (r.words.getD 1 0)) s1
        | none => s1
      let s3 := if r.irq then s2.chEvent ch 0 else s2
      let s4 := if r.status = 0 then s3 else (s3.setChan ch { s3.chan ch with state := .error }).chEvent ch 1
      (s4.settleStop ch).advance ch

/-! Enable, disable, reset, doorbells (R425, R427, R433, R434). -/

/-- R425 refuses the enable. -/
def State.enableRefused (s : State) (ch : Nat) : Bool :=
  let n := s.chCreel ch
  let out := s.chOut ch
  let others := (s.chans.map (fun e => e.1)).filter (fun c => s.chEnabled c && decide (c ≠ ch))
  !s.isQueue n || (!out && decide (s.wrKind n ≠ kindBus)) || (out && decide (s.rdKind n ≠ kindBus)) ||
    others.any (fun c => decide (s.chCreel c = n) && (s.chOut c == out)) ||
    others.any (fun c => (s.chBridge ch).isSome && decide (s.chBridge c = s.chBridge ch)) ||
    decide ((s.chan ch).state = .error)

def dmaEnableOp (ch : Nat) (s : State) : State :=
  let v := s.chan ch
  if v.state = .disabled then
    (s.setChan ch { v with state := .running, size := elementSize (s.qWidth (s.chCreel ch)), fetched := s.fld (rChCi ch) 15 0,
                           credit := 0, polled := none, waiting := false }).advance ch
  else s

def dmaDisableOp (ch : Nat) (s : State) : State :=
  let v := s.chan ch
  if v.state = .running ∨ v.state = .paused then (s.setChan ch { v with state := .stopping }).settleStop ch else s

def dmaResetOp (ch : Nat) (s : State) : State :=
  let tail := s.chOut ch && (s.chan ch).inPacket
  let s1 := (s.abortPacket ch).killReads ch
  let v := s1.chan ch
  let s2 := [rChPi ch, rChCi ch, rChCplPi ch, rChCplCi ch, rChCredits ch].foldl (fun s a => s.setReg a 0) s1
  let s3 := (s2.setBit (rChCtrl ch) 0 false).setChan ch { tail := v.tail || tail, lastRecord := v.lastRecord }
  match s3.chBridge ch with
  | some k => (s3.startResync (288 + k) false).startResync (304 + k) false
  | none => s3

/-- A write of CH_CTRL. -/
def ctrlWritten (ch : Nat) (v : Word) (s : State) : State :=
  if bitOf v 1 then dmaResetOp ch s else if bitOf v 0 then dmaEnableOp ch s else dmaDisableOp ch s

def cplCiWritten (ch : Nat) (s : State) : State :=
  let v := s.chan ch
  (if s.ringFull ch then s else s.setChan ch { v with waiting := false }).advance ch

/-- Check 11 of a write of a DMA register (R425, R439). -/
def State.dmaRefuses (s : State) (p : Page) (off : Nat) (v : Word) : Option Nat :=
  match chanPart p off with
  | none => none
  | some (ch, o) =>
    if o < 0x18 ∧ s.chEnabled ch = true then some codeNotPermitted
    else if o = 0x18 ∧ bitOf v 0 = true ∧ bitOf v 1 = false ∧ s.enableRefused ch = true then some codeNotPermitted
    else none

def State.dmaEffect (p : Page) (off : Nat) (v : Word) (s : State) : State :=
  match chanPart p off with
  | none => s
  | some (ch, o) =>
    if o = 0x18 then ctrlWritten ch v s
    else if o = 0x20 then s.advance ch
    else if o = 0x2C then cplCiWritten ch s
    else s

def ChanState.code : ChanState → Nat
  | .disabled => 0
  | .running => 1
  | .stopping => 2
  | .paused => 3
  | .error => 4

def State.dmaView (s : State) (p : Page) (off : Nat) : Option Word :=
  match chanPart p off with
  | none => none
  | some (ch, o) =>
    if o = 0x1C then
      some (BitVec.ofNat 32 (place (s.chan ch).state.code 29 + fieldOf (s.reg (rChStat ch)) 23 8 * 2 ^ 8 + flag (s.chan ch).tail 7 +
        s.chReads ch))
    else none

/-! Credits of the OUT bridges (R435). -/

/-- The channel that uses DMA bridge number k. -/
def State.bridgeUser (s : State) (k : Nat) : Option Nat :=
  ((s.chans.map (fun e => e.1)).filter (fun ch => s.chEnabled ch)).find? (fun ch => decide (s.chBridge ch = some k))

def State.addCredits (s : State) (k n : Nat) : State :=
  match s.bridgeUser k with
  | some ch => (s.setFld (rChCredits ch) 15 0 (satAdd 65535 (s.fld (rChCredits ch) 15 0) n)).advance ch
  | none => s

/-- Every channel stops at SHUTDOWN (R433, R531). -/
def State.stopChannels (s : State) : State :=
  (s.chans.map (fun e => e.1)).foldl (fun s ch => dmaDisableOp ch (s.setBit (rChCtrl ch) 0 false)) s

/-- The channels that a reset of the endpoint or of function f resets (R416, R417). -/
def State.resetChannels (s : State) (which : Nat → Bool) : State :=
  let s1 := ((List.range 64).filter (fun ch => which (s.chanFunc ch))).foldl (fun s ch => dmaResetOp ch s) s
  -- a host-memory load loses its outstanding reads with PF0
  if which 0 && s1.pcie.reads.any (fun r => decide (r.chan = engineRequester) && !r.dead) then
    s1.rejectLoad rejSourceFail s1.eng.sect (4 * s1.eng.words.length)
  else s1

end Sys2Proof.Machine
end

