-- ==== Sys2Proof/Machine/Pcie.lean ====
section
/-!
DEFINITION. The link, the functions, and what their resets do (R403 to R420, R437, R438, R541).
-/

namespace Sys2Proof.Machine

def rLink : Nat := regAddr .pcie 0 0x040
def rTagPeak : Nat := regAddr .pcie 0 0x048
def rHostNp : Nat := regAddr .pcie 0 0x04C
def rOffsetLo : Nat := regAddr .time 0 0x048
def rOffsetHi : Nat := regAddr .time 0 0x04C
def rPtmCtrl : Nat := regAddr .time 0 0x050
def rPtmStat : Nat := regAddr .time 0 0x054
def rPtmLast : Nat := regAddr .time 0 0x058

def State.linkIsUp (s : State) : Bool := s.bit rLink 31

/-- The function answers configuration requests normally (R407, R413). -/
def State.configurable (s : State) (f : Nat) : Bool :=
  s.linkIsUp && decide (s.boot.stage = .up) && !s.inFlr f && (decide (f = 0) || !s.pf0Alone)

/-- Completions of the accesses a function has issued are discarded (R416, R417). -/
def State.unhear (s : State) (which : Nat → Bool) : State :=
  let mark (x : Issued) : Issued := if 8 ≤ x.master ∧ x.master ≤ 11 ∧ which (x.master - 8) = true then { x with unheard := true } else x
  { s with issued := s.issued.map mark, slotWait := s.slotWait.map mark,
           pcie := { s.pcie with hostReads := s.pcie.hostReads.filter (fun r => !which r.func) } }

/-- A link-down event invalidates the host-time offset (R420, R541). -/
def State.invalidatePtm (s : State) : State :=
  if s.bit rPtmStat 31 then (s.setBit rPtmStat 31 false).pulse .time 0 1 else s

/-- The endpoint goes down: functions, channels and identities 8 to 11 are reset (R416). -/
def State.endpointReset (s : State) : State :=
  let was := s.linkIsUp
  let s1 := (s.setFld rLink 31 23 0).resetChannels (fun _ => true)
  let s2 := [0, 1, 2, 3].foldl (fun s f => s.resetFunction f) s1
  let s3 : State := { s2 with pcie := { s2.pcie with flr := 0, training := false } }
  let s4 := [8, 9, 10, 11].foldl (fun s m => s.identityReset m) (s3.unhear (fun _ => true))
  let s5 := s4.invalidatePtm
  if was then s5.pcieEvent 1 0 else s5

/-- LINK_DOWN, a hot reset among its causes (R416). -/
def linkDownOp (s : State) : State := if s.linkIsUp then s.endpointReset else s

/-- LINK_TRAINING_START (R415). -/
def trainingStartOp (s : State) : State :=
  if s.linkIsUp || decide (s.boot.stage = .held) then s else { s with pcie := { s.pcie with training := true } }

/-- LINK_UP (R403, R437). -/
def linkUpOp (speed width : Nat) (s : State) : State :=
  if s.pcie.training && !s.linkIsUp then
    let s1 : State := { s with pcie := { s.pcie with training := false } }
    (((s1.setBit rLink 31 true).setFld rLink 30 28 speed).setFld rLink 27 23 width).pcieEvent 0 0
  else s

/-- SPEED_CHANGE: the link retrains at another speed (R437, R438). -/
def speedChangeOp (speed : Nat) (s : State) : State :=
  if s.linkIsUp && decide (s.fld rLink 30 28 ≠ speed) then
    ((s.setFld rLink 30 28 speed).count rLink 15 0 1).pcieEvent 2 0
  else s

/-! Functions (R417, R418). -/

/-- FLR. -/
def flrOp (f : Nat) (s : State) : State :=
  if s.configurable f then
    let s1 := (s.resetFunction f).resetChannels (fun g => decide (g = f))
    let s2 : State := { s1 with pcie := { s1.pcie with flr := s1.pcie.flr ||| 2 ^ f } }
    ((s2.unhear (fun g => decide (g = f))).identityReset (8 + f)).pcieEvent 3 f
  else s

/-- FLR_COMPLETE. -/
def flrCompleteOp (f : Nat) (s : State) : State :=
  if s.inFlr f then { s with pcie := { s.pcie with flr := s.pcie.flr - 2 ^ f } } else s

/-- Requests that waited for a function go on. -/
def State.functionOpens (s : State) (f : Nat) : State := (s.releasePending f).advanceAll

/-- BME_CLEAR. -/
def bmeClearOp (f : Nat) (s : State) : State :=
  if s.configurable f && s.bmEnabled f then
    ((s.setPci f pciCommand (withBit (s.pciReg f pciCommand) 2 false)).pcieEvent 6 f).advanceAll
  else s

/-- D3_ENTRY. -/
def d3EntryOp (f : Nat) (s : State) : State :=
  if s.configurable f && !s.inD3 f then
    ((s.setPci f pciPmcsr (withField (s.pciReg f pciPmcsr) 1 0 3)).pcieEvent 7 f).advanceAll
  else s

/-- D0_RETURN: D3hot ends, or Bus Master Enable is set. -/
def d0ReturnOp (f : Nat) (s : State) : State :=
  if s.configurable f then
    if s.inD3 f then (s.setPci f pciPmcsr (withField (s.pciReg f pciPmcsr) 1 0 0)).functionOpens f
    else if s.bmEnabled f then s
    else (s.setPci f pciCommand (withBit (s.pciReg f pciCommand) 2 true)).functionOpens f
  else s

/-- What follows from a configuration write (R411, R417, R418). -/
def configWrite (f off : Nat) (v : Word) (s : State) : State :=
  if off = pciCommand then
    let s1 := s.pciStore f off (if s.bmEnabled f then withBit v 2 true else withBit v 2 false)
    if s.bmEnabled f && !bitOf v 2 then bmeClearOp f s1
    else if !s.bmEnabled f && bitOf v 2 then (s1.setPci f off (withBit (s1.pciReg f off) 2 true)).functionOpens f
    else s1
  else if off = pciPmcsr then
    if fieldOf v 1 0 = 3 then d3EntryOp f s
    else if fieldOf v 1 0 = 0 ∧ s.inD3 f = true then d0ReturnOp f s
    else s
  else if off = pciDevCtl then
    (if bitOf v 15 then flrOp f (s.pciStore f off v) else (s.pciStore f off v).advanceAll)
  else (s.pciStore f off v).functionOpens f

/-- How a configuration request ends (R407, R413, R415). -/
def State.configOutcome (s : State) (f : Nat) : CplKind :=
  if s.boot.stage ≠ .up then .retry
  else if f ≠ 0 ∧ s.pf0Alone = true then .unsupported
  else if s.inFlr f then .retry
  else .success

/-- CONFIG_REQUEST. Nothing arrives while the link is down. -/
def configRequestOp (f off : Nat) (write : Bool) (v : Word) (s : State) : State :=
  if !s.linkIsUp then s
  else
    let how := s.configOutcome f
    let s1 := if how = .success ∧ write = true then configWrite f off v s else s
    { s1 with resp := ⟨8 + f, write, off, if how = .success ∧ write = false then [s.pciRead f off] else [], 0, how⟩ }

/-! Host time (R420, R541). -/

/-- A dialogue is due: the interval of PTM_CTRL has passed since the last one. -/
def State.ptmDue (s : State) : Bool :=
  match s.pcie.ptmAt with
  | none => true
  | some t => decide (t + 1000000 * s.fld rPtmCtrl 15 0 ≤ s.now)

/-- PTM_DIALOGUE: a dialogue that ran when PTM is enabled in PF0 and in PTM_CTRL. -/
def ptmDialogueOp (ok : Bool) (offset : Nat) (s : State) : State :=
  if s.linkIsUp && s.bit rPtmCtrl 31 && s.pciBit 0 pciPtmCtl 0 && s.ptmDue then
    let s1 := ({ s with pcie := { s.pcie with ptmAt := some s.now } } : State).count rPtmStat 15 0 1
    if ok then
      (((s1.setPair rOffsetLo rOffsetHi offset).setBit rPtmStat 31 true).setReg rPtmLast (BitVec.ofNat 32 s.now)).pulse .time 0 0
    else s1.count rPtmStat 23 16 1
  else s

/-! The PCIE page. -/

/-- PCIE_CMD.CLR_COUNTS. -/
def pcieClear (s : State) : State :=
  (((s.setFld rLink 15 0 0).setFld rTagPeak 25 16 0).setFld rHostNp 24 16 0).setReg rDrops 0

/-- Host non-posted requests held: reads of one DWord, and reads of several until their last DWord is answered. -/
def State.hostWaiting (s : State) : Nat :=
  (s.issued ++ s.slotWait).countP (fun x => decide (8 ≤ x.master ∧ x.master ≤ 11) && !x.write && !x.unheard && !x.timedOut && x.part.isNone) +
    s.pcie.hostReads.length

/-- A vector can only name a channel event of its own function (R412, Table 15-12). -/
def State.userVectorRefuses (s : State) (off : Nat) (v : Word) : Option Nat :=
  let n := fieldOf v 8 0
  if 0x100 ≤ off ∧ 256 ≤ n ∧ n < 320 ∧ s.chanFunc (n - 256) ≠ (off - 0x100) / 0x80 + 1 then some codeNotPermitted else none

def State.pcieView (s : State) (off : Nat) : Option Word :=
  match off with
  | 0x044 =>
    let one (f : Nat) : Nat := flag (s.inD3 f) 3 + flag (s.inFlr f) 2 + flag (s.msixOn f) 1 + flag (s.bmEnabled f) 0
    some (BitVec.ofNat 32 (one 0 + place (one 1) 4 + place (one 2) 8 + place (one 3) 12))
  | 0x048 => some (BitVec.ofNat 32 (place (max (s.fld rTagPeak 25 16) s.pcie.reads.length) 16 + s.pcie.reads.length))
  | 0x04C => some (BitVec.ofNat 32 (place (max (s.fld rHostNp 24 16) (min 256 s.hostWaiting)) 16 + min 256 s.hostWaiting))
  | _ => none

end Sys2Proof.Machine
end

