-- ==== Sys2Proof/Machine/Trust.lean ====
section
/-!
DEFINITION. Life cycle, keys and tokens, the weft core, and the JTAG port (R493 to R509, R516).
-/

namespace Sys2Proof.Machine

def rFwVer : Nat := regAddr .device 0 0x05C
def rWeftVer : Nat := regAddr .device 0 0x060
def rCoreStat : Nat := regAddr .mgmt 0 0x040
def rWeftCtrl : Nat := regAddr .mgmt 0 0x044
def rPolicy : Nat := regAddr .mgmt 0 0x048
def rHeartbeat : Nat := regAddr .mgmt 0 0x04C
def rWeftResets : Nat := regAddr .mgmt 0 0x050
def rSvcLast : Nat := regAddr .mgmt 0 0x054
def rSvcCounts : Nat := regAddr .mgmt 0 0x058
def rWeftSrc : Nat := regAddr .mgmt 0 0x05C

/-- An event of the MGMT page: 0 WEFT_RUNNING, 1 WEFT_STOPPED, 2 WEFT_WDOG, 3 REQ_REFUSED (R516). -/
def State.mgmtEvent (s : State) (k : Nat) : State := s.pulse .mgmt 0 k

/-! The weft core (R494 to R496). -/

def weftNotLoaded : Nat := 0
def weftLoading : Nat := 1
def weftRunning : Nat := 2
def weftHeld : Nat := 3
def weftFailed : Nat := 4

def State.weftState (s : State) : Nat := s.fld rCoreStat 6 4
def State.setWeft (s : State) (k : Nat) : State := s.setFld rCoreStat 6 4 k

/-- The watchdog starts again, or is off (R496; log entry 42). -/
def State.restartWdog (s : State) : State :=
  let n := s.fld rPolicy 31 16
  { s with trust := { s.trust with wdog := if n = 0 then none else some (s.now + 1000000 * n) } }

/-- A reset of the weft core (R495): a side reset of identity 1, and the container is loaded again from its last source. -/
def weftResetOp (s : State) : State :=
  let s1 := (s.driftAll.identityReset 1).count rWeftResets 15 0 1
  let s2 : State := { s1 with trust := { s1.trust with wdog := none, serving := SMap.set none s1.trust.serving 1 none } }
  s2.setWeft (if s2.fld rWeftSrc 1 0 = 0 then weftNotLoaded else weftLoading)

/-- The weft core runs: WEFT_VER shows its version, and the watchdog starts. -/
def State.weftRuns (s : State) : State :=
  (((s.setWeft weftRunning).setReg rWeftVer s.trust.version).restartWdog).mgmtEvent 0

/-- WEFT_CONTAINER_VERIFIED (R494). -/
def containerVerified (ok : Bool) (patch : Nat) (version : Word) (s : State) : State :=
  if s.weftState ≠ weftLoading then s
  else if ok then
    let s1 := (s.setFld rFwVer 15 0 patch).setBit rCoreStat 3 (decide (patch ≠ 0))
    let s2 : State := { s1 with trust := { s1.trust with version := version } }
    if s2.bit rWeftCtrl 1 then s2.setWeft weftHeld else s2.weftRuns
  else (s.setWeft weftFailed).mgmtEvent 1

/-- A write of WEFT_CTRL. -/
def weftCtrlWritten (v : Word) (s : State) : State :=
  if bitOf v 0 then weftResetOp s
  else if s.weftState = weftHeld ∧ bitOf v 1 = false then s.weftRuns
  else s

/-- The watchdog expires. -/
def weftWdogOp (t : Nat) (s : State) : State :=
  match s.trust.wdog with
  | none => s
  | some due =>
    if decide (s.weftState = weftRunning) && decide (due ≤ t) then
      ((weftResetOp (s.at t)).count rWeftResets 31 16 1).mgmtEvent 2
    else s

/-- A read of HEARTBEAT (R496). -/
def heartbeatRead (m : Nat) (s : State) : State × Word :=
  if m = 1 then
    let s1 := (s.countWrap rHeartbeat).restartWdog
    (s1, s1.reg rHeartbeat)
  else (s, s.reg rHeartbeat)

/-! Life cycle (R502 to R505). -/

def rSerialLo : Nat := 0x048
def rSerialHi : Nat := 0x04C
def State.setKeySlot (s : State) (slot v : Nat) : State := s.setFld rKeyStat (2 * slot + 1) (2 * slot) v

/-- Does Table 18-3 know the transition. -/
def lcKnown (a b : Nat) : Bool :=
  decide ((a, b) ∈ [(0, 1), (1, 2), (2, 3), (3, 4), (3, 5), (4, 5)]) || (decide (b = 6) && decide (a < 6))

/-- The condition of a transition. -/
def State.lcCondition (s : State) (b : Nat) : Bool :=
  if b = 2 ∨ b = 3 then s.keyValid 2 && s.boot.fullOk
  else if b = 4 then s.keyValid 0 && decide (s.engState = engIdle) && decide (s.eng.unverified = [])
  else true

/-- The token KIND that a transition needs. -/
def lcToken (a b : Nat) : Option Nat := if b = 5 then some 1 else if b = 6 ∧ a = 4 then some 2 else none

/-- The fields of a staged token match the device, the target and EPOCH (R505); `sigOk` is the outcome of the signature check. -/
def State.tokenGood (s : State) (kind target : Nat) (sigOk : Bool) : Bool :=
  match s.trust.token with
  | none => false
  | some ws =>
    decide (ws.getD 0 0 = BitVec.ofNat 32 (place kind 28 + target)) && decide (ws.getD 1 0 = s.reg rSerialLo) &&
      decide (ws.getD 2 0 = s.reg rSerialHi) && decide ((ws.getD 3 0).toNat = s.fld rLcStat 31 24) && sigOk

/-- VAUX or VAON is in warning: burns and NVSS writes wait (Table 19-2). -/
def State.burnWaits (s : State) : Bool := s.pwr.warn.testBit 6 || s.pwr.warn.testBit 7

/-- The fuses of a transition are burned: the state takes effect in one cycle (R504). -/
def State.enterLc (s : State) (target : Nat) : State :=
  let old := s.lcState
  let s1 := (s.setFld rLcStat 3 0 target).setFld rLcStat 31 24 ((s.fld rLcStat 31 24 + 1) % 256)
  let s2 := if target = 1 then s1.setKeySlot 2 1
            else if target = 5 then (s1.setKeySlot 0 2).setKeySlot 1 2
            else if target = 6 then ((s1.setKeySlot 0 2).setKeySlot 1 2).setKeySlot 2 2
            else s1
  ((s2.logEntry 0 0x5 0 (BitVec.ofNat 32 (place old 4 + target))).pulse .device 0 0)

/-- A key slot is burned (R507). -/
def State.enterKey (s : State) (slot : Nat) (ws : List Word) : State :=
  let s1 := (s.setKeySlot slot 1).logEntry 0 0x6 (regAddr .mgmt 0 0) (BitVec.ofNat 32 slot)
  { s1 with trust := if slot = 0 then { s1.trust with ownerKey := ws } else { s1.trust with imageKey := ws } }

/-- Parts staged between two requests are discarded. -/
def State.dropStaged (s : State) : State := { s with trust := { s.trust with staged := none } }

/-! Live bits of LC_STAT (Table 18-9). -/

def State.deviceView (s : State) (off : Nat) : Option Word :=
  if off = 0x050 then
    let u := decide (s.lcState = 1 ∨ s.lcState = 2 ∨ s.lcState = 3 ∨ s.lcState = 5)
    some (BitVec.ofNat 32 (s.fld 0x050 31 24 * 2 ^ 24 + flag (decide (s.eng.unverified ≠ [])) 12 + flag s.safeState 11 + flag s.testOpen 10 +
      flag s.debugOpen 9 + flag u 8 + s.lcState))
  else none

/-! JTAG (R508, R509). -/

def State.withJtag (s : State) (j : Jtag) : State := { s with jtag := j }

/-- An instruction becomes current; EXTEST, CLAMP and HIGHZ change what the pads and the inputs they feed present (R508). -/
def jtagInstrOp (i : JtagInstr) (s : State) : State := ((s.withJtag { s.jtag with instr := i }).refreshPins (List.range 960)).settle

def idcodeOp (s : State) : State :=
  let code := place (s.fld 0x044 3 0) 28 + place 0x4096 12 + place Config.jtagMaker.toNat 1 + 1
  jtagInstrOp .idcode (s.withJtag { s.jtag with out := BitVec.ofNat 32 code })

/-- SAMPLE/PRELOAD: the pad levels are captured, and the boundary register takes the preloaded levels. -/
def samplePreloadOp (preload : List Bool) (s : State) : State :=
  jtagInstrOp .sample (s.withJtag { s.jtag with captured := (List.range 960).map (fun p => s.pinLevel p), boundary := preload })

/-- TRST_N resets the port and identity 5. -/
def trstOp (s : State) : State := jtagInstrOp .idcode ((s.withJtag {}).identityReset 5)

end Sys2Proof.Machine
end

