-- ==== Sys2Proof/Machine/Power.lean ====
section
/-!
DEFINITION. Rails, resets, SLEEP and wake, SHUTDOWN, and the tests (R517 to R542).
-/

namespace Sys2Proof.Machine

def rRailMv (k : Nat) : Nat := regAddr .power 0 (0x080 + 4 * k)
def rRailMin (k : Nat) : Nat := regAddr .power 0 (0x0C0 + 4 * k)
def rDipRec : Nat := regAddr .power 0 0x100
def rDipTime : Nat := regAddr .power 0 0x104
def rDipLen : Nat := regAddr .power 0 0x108
def rFaultTrips : Nat := regAddr .power 0 0x10C
def rRstCause : Nat := regAddr .reset 0 0x040
def rRstCount : Nat := regAddr .reset 0 0x044
def rStartInfo : Nat := regAddr .reset 0 0x04C
def rTestCmd : Nat := regAddr .test 0 0x040
def rTestStat : Nat := regAddr .test 0 0x044
def rTestResult : Nat := regAddr .test 0 0x048
def rTestPatterns : Nat := regAddr .test 0 0x04C
def rNvssBoot : Nat := regAddr .test 0 0x050
def rNvssQuick : Nat := regAddr .test 0 0x054

def State.withPwr (s : State) (p : Power) : State := { s with pwr := p }
def State.withBoot (s : State) (b : Boot) : State := { s with boot := b }

/-! Rails (R518 to R520, R539). -/

/-- The record detail of a rail event. -/
def railDetail (k mv : Nat) : Word := BitVec.ofNat 32 (place k 28 + mv)

/-- A rail is masked while FAB_PWR_EN has let VFAB go (R520). -/
def State.masked (s : State) (k : Nat) : Bool := s.pwr.removed && decide (k < 4)

/-- Seam frames whose tracks the panel sends. -/
def sendingSeams (p : Nat) : List Nat :=
  (List.range 4).flatMap (fun m => ((List.range 2).filter (fun k => decide (seamSender m k = p))).map (fun k => frameAddr p 4 m 0 k))

/-- The warning level of a rail in mV (Table 19-1). -/
def warnLevel (k : Nat) : Nat := [520, 520, 520, 520, 650, 760, 760, 1680, 800, 1130].getD k 0

/-- RAIL_WARN (R518, R519, Table 19-2): the rail has stayed at `mv` below its warning level. -/
def railWarnOp (k mv t : Nat) (s : State) : State :=
  if s.pwr.warn.testBit k || s.masked k || decide (warnLevel k ≤ mv) then s
  else
    let s1 := s.at t
    let s2 := if k < 4 then (sendingSeams k).foldl (fun s f => s.holdSeamFrame f) s1 else s1
    let s3 := s2.withPwr { s2.pwr with warn := s2.pwr.warn + 2 ^ k, dipMin := SMap.set 0 s2.pwr.dipMin k mv,
                                       dipStart := SMap.set 0 s2.pwr.dipStart k s2.now }
    let s4 := s3.raise ⟨.power, 0⟩ 0 (railDetail k mv)
    if k < 4 then (s4.setReg (regAddr .panel k 0x040) 0).holdPanel k else s4

/-- RAIL_RECOVERED (R519). -/
def railRecoveredOp (k t : Nat) (s : State) : State :=
  if s.pwr.warn.testBit k then
    let s1 := s.at t
    let low := SMap.get 0 s1.pwr.dipMin k
    let began := SMap.get 0 s1.pwr.dipStart k
    let s2 := s1.withPwr { s1.pwr with warn := s1.pwr.warn - 2 ^ k, dipMin := SMap.set 0 s1.pwr.dipMin k 0,
                                       dipStart := SMap.set 0 s1.pwr.dipStart k 0 }
    let s3 := s2.setReg rDipRec (BitVec.ofNat 32 (place k 28 + flag (s2.bit rDipRec 27) 27 + low))
    let s4 := (s3.setReg rDipTime (BitVec.ofNat 32 began)).setReg rDipLen (BitVec.ofNat 32 (min (2 ^ 32 - 1) ((s3.now - began) / 1000)))
    (s4.raise ⟨.power, 0⟩ 1 (railDetail k low)).settle
  else s

/-- RAIL_MEASURE: the ten levels, every 10 µs (Table 19-12). -/
def railMeasureOp (mvs : List Nat) (s : State) : State :=
  (mvs.zipIdx).foldl (fun s e =>
    let s1 := (s.setFld (rRailMv e.2) 15 0 e.1).setReg (rRailMin e.2) (BitVec.ofNat 32 (min (s.fld (rRailMin e.2) 15 0) e.1))
    if s1.pwr.warn.testBit e.2 then
      s1.withPwr { s1.pwr with dipMin := SMap.set 0 s1.pwr.dipMin e.2 (min (SMap.get 0 s1.pwr.dipMin e.2) e.1) }
    else s1) s

/-- PWR_CLR.CLR. -/
def pwrClear (s : State) : State :=
  let s1 := (List.range 10).foldl (fun s k => s.setReg (rRailMin k) 0xFFFF) s
  [rDipRec, rDipTime, rDipLen, rFaultTrips, rPwrCounts].foldl (fun s a => s.setReg a 0) s1

def State.powerView (s : State) (off : Nat) : Option Word :=
  if 0x080 ≤ off ∧ off < 0x0A8 then
    some (withBit (s.reg (regAddr .power 0 off)) 31 (s.pwr.warn.testBit ((off - 0x080) / 4)))
  else none

/-! Resets (R20, R489, R521, R522). -/

/-- A burn that a reset interrupts leaves the fuses as before it or as after it; which is open (R504, R507). -/
def State.burnAtReset (s : State) : State :=
  match s.trust.burn with
  | none => s
  | some b =>
    let done := decide (s.openValue % 2 = 1)
    let s1 := s.tick
    if done then
      (match b with
       | .life target => { s1.enterLc target with log := s1.log, ev := s1.ev }
       | .key slot ws => { s1.enterKey slot ws with log := s1.log })
    else s1

/-- Registers that hold fuses, NVSS and straps. -/
def fusedReg (a : Nat) : Bool := decide (a ∈ [0x044, 0x048, 0x04C, 0x054, 0x058, rNvssBoot, rNvssQuick])

/-- Registers that a device reset keeps beside them: the values of the RESET page, whose header resets like any
other (R40), and LOG_CTRL.MODE. -/
def keptReg (a : Nat) : Bool := decide (0x2040 ≤ a ∧ a < 0x3000) || decide (a = regAddr .log 0 0x040)

/-- What every reset leaves: fuses, NVSS, straps, and the levels outside the device. -/
def State.bare (s : State) (keep : Nat → Bool) : State :=
  let s0 : State :=
    { regs := s.regs.filter (fun e => fusedReg e.1 || keep e.1), pending := s.pending, free := s.free, resp := s.resp, now := s.now,
      pwr := { warn := s.pwr.warn, dipMin := s.pwr.dipMin, dipStart := s.pwr.dipStart, refLost := s.pwr.refLost },
      pins := s.pins.foldl (fun m e => SMap.set {} m e.1 { level := e.2.level, filt := e.2.filt }) [],
      trust := { ownerKey := s.trust.ownerKey, imageKey := s.trust.imageKey },
      boot := { slots := s.boot.slots, newest := s.boot.newest, start := s.now, faultLow := s.pwr.refLost } }
  (s0.setReg 0x050 (s.reg 0x050 &&& 0xFF00_000F)).setReg rFwVer (s.reg rFwVer &&& 0xFFFF_0000)

/-- A device reset with its cause (Table 19-3). -/
def State.deviceReset (s : State) (cause rail : Nat) : State :=
  let s1 := s.burnAtReset
  let s2 : State := { s1.bare keptReg with log := s1.log, jtag := s1.jtag }
  (s2.setReg rRstCause (BitVec.ofNat 32 (place rail 8 + cause))).countWrap rRstCount

/-- POWER_ON_RESET: only fuses and NVSS are kept, and the straps are sampled (R292). -/
def powerOnResetOp (vaon : Bool) (straps : Nat) (s : State) : State :=
  let s1 := s.burnAtReset
  let s2 := ({ s1 with now := 0 } : State).bare (fun _ => false)
  let mode := straps % 8
  (s2.setReg 0x058 (BitVec.ofNat 32 (place (straps / 8) 4 + flag (decide (5 ≤ mode)) 3 + mode))).setReg rRstCause (if vaon then 2 else 1)

/-- RAIL_RESET: VAON causes a power-on reset instead, and a masked monitor causes none (R518, R520, Table 19-3). -/
def railResetOp (k t : Nat) (s : State) : State := if k = 6 ∨ s.masked k = true then s else (s.at t).deviceReset 0x03 k

/-- SYS_REFCLK is lost: FAULT_N falls and the device enters reset (R20). -/
def refclkLossOp (t : Nat) (s : State) : State :=
  if s.pwr.refLost then s
  else
    let s1 := s.at t
    (s1.withPwr { s1.pwr with refLost := true }).deviceReset 0x04 0

/-- SYS_REFCLK has run for 1 ms: the start-up begins. -/
def refclkReturnOp (t : Nat) (s : State) : State :=
  if s.pwr.refLost then
    let s1 := s.at t
    (s1.withPwr { s1.pwr with refLost := false }).withBoot { s1.boot with start := s1.now, faultLow := false }
  else s

/-! SLEEP (R523 to R525). -/

/-- A bolt is closed for a SLEEP or a shutdown; a shutdown also takes bolts that stand frozen (R531). -/
def State.boltClosed (s : State) (b : Nat) : Bool :=
  let v := s.bolt b
  match v.stage with
  | .notReleased | .halt => true
  | .direct => v.dfrozen
  | .closed => v.final
  | _ => decide (s.pwr.closing = some 1) && v.dfrozen

def State.allClosed (s : State) : Bool := !s.pick.released || allBolts.all (fun b => s.boltClosed b)

/-- A rail of Table 19-1, bank supplies included, is in warning. -/
def State.anyWarning (s : State) : Bool := decide (s.pwr.warn ≠ 0) || (List.range 20).any (fun b => s.bit (rBankStat b) 30)

/-- Check 11 of PWR_CMD = SLEEP (R523). -/
def State.sleepRefuses (s : State) : Option Nat :=
  if s.shuttingDown then some codeShuttingDown
  else if s.pwrState ≠ pwrActive ∨ s.engState ≠ engIdle ∨ s.anyWarning = true then some codeNotQuiescent
  else none

def State.countSleepRefused (s : State) : State := s.count rPwrCounts 15 0 1

/-- Step 4 of Table 19-4. -/
def State.fallAsleep (s : State) : State :=
  let s1 : State := { s.keepLevels with pinsAsleep := true }
  let s2 := (s1.paces.map (fun e => e.1)).foldl (fun s g => s.paceLock g false false) s1
  let s3 := s2.stopQuads
  let s4 := (s3.withPwr { s3.pwr with fabPwrEn := false, removed := true, warn := s3.pwr.warn / 16 * 16 }).count rPwrCounts 31 16 1
  (((s4.setPwr pwrSleeping).pwrEvent 2 0).refreshPins (List.range 960)).settle

/-- PWR_CMD = SLEEP is accepted (Table 19-4, step 1); an unreleased fabric goes straight to step 4. -/
def sleepOp (s : State) : State :=
  let s1 := (s.setReg rWakeCause 0).setPwr pwrEntering
  if s1.pick.released then (s1.requestClose 0).advanceAll else s1.fallAsleep.advanceAll

/-- A bolt keeps the entry from going on: a COMMITTED bolt skipped its final beat-up, or a DIRECT bolt is not idle in time. -/
def State.entryFails (s : State) (t : Nat) : Bool :=
  allBolts.any (fun b =>
    let v := s.bolt b
    match v.stage with
    | .overrun => s.pwr.closeHit && decide (s.pwr.closeG ≤ v.grid)
    | .direct => !v.dfrozen && s.pwr.closeHit && decide (s.pwr.closeG + s.actDrainMax ≤ t)
    | _ => false)

/-- SLEEP_REFUSED (Table 19-4, step 3). -/
def sleepRefusedOp (t : Nat) (s : State) : State :=
  if decide (s.pwrState = pwrEntering) && s.entryFails t then
    (((s.at t).abandonEntry.countSleepRefused).pwrEvent 4 codeNotQuiescent).advanceAll
  else s

def sleepEnteredOp (t : Nat) (s : State) : State :=
  if decide (s.pwrState = pwrEntering) && s.allClosed then (s.at t).fallAsleep else s

/-! Wake (R526, R527, Table 19-5). -/

/-- A wake source; channels go on if it abandons an entry. -/
def wakeOp (k : Nat) (s : State) : State :=
  let s1 := s.wakeSource k
  if s.asleep && !s1.asleep then s1.advanceAll else s1

/-- Every rail is ready: the monitors unmask, and cells and twill accumulators load from their shadows. A COMMITTED bolt with a shadow that
fails its check enters HALT as at a rollback (R59; log entry 69). A shutdown takes no further step of a wake (R531). -/
def wakeRailsReadyOp (t : Nat) (s : State) : State :=
  if s.pwr.removed && !s.pwr.warn.testBit 4 && s.pwr.fabPwrEn then
    let s1 := s.at t
    let s2 := s1.withPwr { s1.pwr with removed := false }
    if s2.pwrState = pwrWaking then
      let bad := allBolts.filter (fun b => s2.committed b && (s2.cellShadowsBad (fun r => s2.boltOf r == b) || s2.twillShadowsBad b) &&
        decide ((s2.bolt b).stage ∉ [BoltStage.halt, .notReleased]))
      let s3 := bad.foldl (fun s b => s.enterHalt b 0x11) (allBolts.foldl (fun s b => s.restoreTwills b) (s2.restoreCells (fun _ => true)))
      let s4 : State := { s3 with
        creels := s3.creels.foldl (fun m e => SMap.set {} m e.1 { e.2 with scrubPos := 0 }) [],
        paces := s3.paces.foldl (fun m e => SMap.set {} m e.1 { e.2 with relock := e.2.enabled && e.2.refOk }) [] }
      ((s4.setReg rScrubPos 0).wakeQuads).settle
    else s2
  else s

/-- WAKE_LATE: 2.5 ms have passed. -/
def wakeLateOp (t : Nat) (s : State) : State :=
  if s.pwr.removed && decide (s.pwrState = pwrWaking) && decide (s.pwr.tw + 2500000 ≤ t) then (s.at t).setBit rDipRec 27 true else s

/-- WAKE_COMPLETE (step 5): bolts resume in OPEN, bridges resynchronise, pins connect, channels go on. -/
def wakeCompleteOp (t : Nat) (s : State) : State :=
  if decide (s.pwrState = pwrWaking) && !s.pwr.removed then
    let s1 : State := { s.at t with pinsAsleep := false }
    let s2 := (List.range 320).foldl (fun s n => s.resyncBoth n) s1.abandonEntry
    let s3 := (s2.refreshPins (List.range 960)).settle
    (s3.pwrEvent 3 (s3.fld rWakeCause 3 0)).advanceAll
  else s

/-! SHUTDOWN (R531, Table 19-10). -/

/-- SHUTDOWN is accepted. -/
def shutdownOp (s : State) : State :=
  if s.shuttingDown then s
  else if s.boot.stage = .held then s
  else if s.boot.stage ≠ .up then
    ((s.withBoot { s.boot with stage := .held, left := [], safeOff := true }).setReg rTestStat 0).setPwr pwrOffReady
  else
    let was := s.pwrState
    let s1 := (s.setPwr pwrShutdown).stopChannels
    let s2 := if s1.abortRefused then s1 else s1.abortLoad
    if was = pwrSleeping ∨ was = pwrWaking then s2.withPwr { s2.pwr with closing := some 1, closeHit := false, fabPwrEn := true }
    else s2.requestClose 1

/-! Tests (R532 to R537). -/

def testQuick : Nat := 1
def testFull : Nat := 2
def testOnDemand : Nat := 3
def testDoff : Nat := 4

/-- The kind code of a whole test (R532). -/
def kindCode (st : Nat) : Nat :=
  match st with
  | 1 => 0x10
  | 2 => 0x11
  | 3 => 0x13
  | _ => 0x12

def State.testState (s : State) : Nat := s.fld rTestStat 31 28

/-- The first class that is left runs, and its blocks are under test. -/
def State.showClass (s : State) : State :=
  match s.boot.left with
  | [] => (s.setFld rTestStat 27 24 0).setFld rTestStat 8 0 0
  | c :: _ => (s.setFld rTestStat 27 24 c).setFld rTestStat 8 0 (2 ^ (c - 1))

/-- A test starts: it is logged and raised (Table 17-7, R542). -/
def State.startTest (s : State) (st origin : Nat) (classes : List Nat) : State :=
  let s1 := s.withBoot { s.boot with left := classes }
  let s2 := ((s1.setReg rTestStat (BitVec.ofNat 32 (place st 28))).setReg rTestResult 0).setReg rTestPatterns 0
  let s3 := s2.logEntry origin 0x7 (regAddr .test 0 0) (BitVec.ofNat 32 (kindCode st))
  (s3.showClass).raise ⟨.test, 0⟩ 0 (BitVec.ofNat 32 (kindCode st))

/-- A test ends; `failed` are the classes that failed. -/
def State.endTest (s : State) (pass : Bool) (failed : Nat) : State :=
  let k := kindCode s.testState
  let s1 := (s.withBoot { s.boot with left := [] }).setReg rTestStat 0
  let s2 := s1.logEntry 63 0x8 (regAddr .test 0 0) (BitVec.ofNat 32 (flag pass 31 + k))
  if pass then s2.raise ⟨.test, 0⟩ 1 (BitVec.ofNat 32 k) else s2.raise ⟨.test, 0⟩ 2 (BitVec.ofNat 32 (place failed 16 + k))

/-! The doff record (R533, R534, Table 19-8). -/

def State.doffRec (s : State) : Option DoffRec := SMap.get none s.boot.slots s.boot.newest
def State.setDoffRec (s : State) (r : DoffRec) : State := s.withBoot { s.boot with slots := SMap.set none s.boot.slots s.boot.newest (some r) }

/-- The words under the seal: bytes 0x00 to 0x57. -/
def DoffRec.words (r : DoffRec) : List Word :=
  [r.seq, r.patterns, r.expected, r.classes] ++
    (List.range 9).flatMap (fun c => [loHalf (r.misr.getD c 0).toNat, hiHalf (r.misr.getD c 0).toNat])

def sealOf (r : DoffRec) : Nat := Config.testSeal r.words % 2 ^ 128

def DoffRec.complete (r : DoffRec) : Bool := decide (r.expected.toNat ≤ r.patterns.toNat ∧ fieldOf r.classes 24 16 = 0x1FF)

/-- What the newest record reads (R534, Table 19-15). -/
def State.recState (s : State) : Nat :=
  match s.doffRec with
  | none => 0
  | some r =>
    if r.consumed then 4
    else if r.cmac ≠ 0 ∧ ¬(s.keyValid 2 = true ∧ r.cmac = sealOf r) then 5
    else if !r.complete then 1
    else if fieldOf r.classes 8 0 ≠ 0x1FF then 2
    else if r.cmac = 0 ∨ r.patterns ≠ r.expected then 6
    else 3

/-- DOFF_START: every bolt is closed, so the test begins with a new record in the slot that does not hold the newest. -/
def doffStartOp (expected : Word) (t : Nat) (s : State) : State :=
  if decide (s.pwrState = pwrShutdown) && !s.pwr.removed && s.allClosed && decide (s.boot.left = []) && !s.burnWaits then
    let s1 : State := { (s.at t).keepLevels with pinsAsleep := true }
    let s2 := (s1.withBoot { s1.boot with newest := 1 - s1.boot.newest }).setDoffRec ⟨s1.reg rNvssBoot, 0, expected, 0, [], 0, false⟩
    let s3 := (s2.setPwr pwrDoff).startTest testDoff 63 [1, 2, 3, 4, 5, 6, 7, 8, 9]
    (s3.refreshPins (List.range 960)).settle
  else s

/-- The doff test is over: a complete test that matched is sealed, SAFE_OFF rises and PWR_STATE reads OFF_READY. -/
def State.endDoff (s : State) (pass : Bool) (failed : Nat) : State :=
  let s1 := match s.doffRec with
    | none => s
    | some r =>
      if pass && decide (r.patterns = r.expected) && s.keyValid 2 && decide (s.lcState ≠ 0) then s.setDoffRec { r with cmac := sealOf r } else s
  let s2 := (s1.endTest pass failed).raise ⟨.test, 0⟩ 3 (BitVec.ofNat 32 (kindCode testDoff))
  (s2.withBoot { s2.boot with safeOff := true }).setPwr pwrOffReady

/-! Checker tests (R59, R246). -/

/-- TW_SELFTEST of every page after a residue checker test; `failing` are the blocks whose checker failed (R246). -/
def State.checkersTested (s : State) (failing : List Nat) : State :=
  let s1 := (List.range 256).foldl (fun s k => s.setReg (rTwSelftest k) 0) s
  failing.foldl (fun s n => s.setBit (rTwSelftest (n / 16)) (n % 16) true) s1

/-- A shadow of a cell, a twill block or a queue fails its check (R59, R222, R243). -/
def State.anyShadowBad (s : State) : Bool :=
  s.cellShadowsBad (fun _ => true) || s.twills.any (fun e => e.2.shadowBad) || s.creels.any (fun e => e.2.queue.wrShadowBad || e.2.queue.rdShadowBad)

/-! Start-up (R528 to R530, R536). -/

/-- Held in reset until the next power-on reset (Table 19-9). -/
def State.holdInReset (s : State) : State :=
  let s1 := s.endpointReset
  (s1.withBoot { s1.boot with stage := .held, left := [], faultLow := true, safeOff := true }).setReg rTestStat 0

/-- SAFE_STATE: FAULT_N is low, and the start goes on. -/
def State.enterSafe (s : State) : State := (s.setBit 0x050 11 true).withBoot { s.boot with faultLow := true }

/-- The first condition of R529 that fails, as START_INFO.FULL_REASON; 0 is the quick path. -/
def State.fullReason (s : State) : Nat :=
  if !s.keyValid 2 then 5
  else match s.doffRec with
    | none => 1
    | some r =>
      if s.recState ≠ 3 then 2
      else if r.seq ≠ s.reg rNvssBoot then 3
      else if 63 ≤ s.fld rNvssQuick 5 0 then 4
      else 0

/-- WARP_ROM_BOOT (Table 19-6, steps 2 and 3). -/
def warpRomBootOp (digestOk : Bool) (t : Nat) (s : State) : State :=
  if decide (s.boot.stage ≠ .rom) || s.pwr.refLost then s
  else if !digestOk then (s.at t).holdInReset
  else if s.burnWaits then s
  else
    let s1 := s.at t
    let reason := s1.fullReason
    let quick := decide (reason = 0)
    let s2 := match s1.doffRec with
      | some r => s1.setDoffRec { r with consumed := true }
      | none => s1
    let s3 := ((s2.setBit rCoreStat 0 true).countWrap rNvssBoot).setReg rNvssQuick
      (BitVec.ofNat 32 (if quick then s2.fld rNvssQuick 5 0 + 1 else 0))
    let s4 := s3.withBoot { s3.boot with quick := quick, reason := reason, stage := if quick then .sanity else .full }
    if quick then s4.startTest testQuick 63 [] else s4.startTest testFull 63 [1, 2, 3, 4, 5, 6, 7, 8, 9]

/-- SANITY_CHECK_DONE (R530). -/
def sanityDoneOp (engineOk nvssOk shadowOk : Bool) (failing : List Nat) (t : Nat) (s : State) : State :=
  let residueOk := failing.isEmpty
  if s.boot.stage = .sanity then
    let failed := flag (!shadowOk) 2 + flag (!residueOk) 3 + flag (!nvssOk) 6
    let s1 := ((s.at t).checkersTested failing).endTest (engineOk && nvssOk && shadowOk && residueOk) failed
    if !engineOk || !nvssOk then s1.holdInReset
    else
      let s2 := if shadowOk && residueOk then s1 else s1.enterSafe
      s2.withBoot { s2.boot with stage := .clearing }
  else s

/-- The full start test is over. -/
def State.endFull (s : State) (pass : Bool) (failed : Nat) : State :=
  let s1 := s.endTest pass failed
  if failed.testBit 1 || failed.testBit 6 then s1.holdInReset
  else
    let s2 := if pass then s1.withBoot { s1.boot with fullOk := true } else s1.enterSafe
    s2.withBoot { s2.boot with stage := .clearing }

/-- A class ends: its result, and in the doff test its part of the record (R533). -/
def State.recordClass (s : State) (c : Nat) (signature : Dword) (patterns : Word) (good : Bool) : State :=
  let s1 := ((s.setBit rTestResult (15 + c) true).setBit rTestResult (c - 1) good).setReg rTestPatterns (s.reg rTestPatterns + patterns)
  if s1.testState = testDoff then
    (match s1.doffRec with
     | some r =>
       s1.setDoffRec { r with patterns := r.patterns + patterns,
                              classes := r.classes ||| BitVec.ofNat 32 (2 ^ (15 + c) + flag good (c - 1)),
                              misr := (List.range 9).map (fun i => if i = c - 1 then signature else r.misr.getD i 0) }
     | none => s1)
  else s1

/-- The running test pauses: a VFAB warning in the doff test, or an NVSS write that waits (Tables 19-2 and 19-10). -/
def State.testWaits (s : State) : Bool :=
  decide (s.testState = testDoff) && (decide (s.pwr.warn % 16 ≠ 0) || s.burnWaits)

/-- TEST_CLASS_DONE. The class SHADOW fails where a shadow fails its check, and the class TWILL where a checker does (`failing`). -/
def testClassDoneOp (signature : Dword) (patterns : Word) (good : Bool) (failing : List Nat) (t : Nat) (s : State) : State :=
  match s.boot.left with
  | [] => s
  | c :: rest =>
    if s.testWaits then s
    else
      let s0 := if c = 4 then (s.at t).checkersTested failing else s.at t
      let passed := good && !(decide (c = 3) && s0.anyShadowBad) && !(decide (c = 4) && !failing.isEmpty)
      let s1 := s0.recordClass c signature patterns passed
      let failed := s1.fld rTestResult 24 16 - s1.fld rTestResult 8 0
      let pass := decide (failed = 0)
      if s1.testState = testFull ∧ (failed.testBit 1 = true ∨ failed.testBit 6 = true) then s1.endFull false failed
      else if rest = [] then
        (if s1.testState = testFull then s1.endFull pass failed
         else if s1.testState = testDoff then s1.endDoff pass failed
         else s1.endTest pass failed)
      else (s1.withBoot { s1.boot with left := rest }).showClass

/-- The classes of a mask. -/
def maskClasses (mask : Nat) : List Nat := ((List.range 9).filter (fun i => mask.testBit i)).map (fun i => i + 1)

/-- Check 11 of TEST_CMD: START needs an unreleased fabric and no test that runs, DIAG_EN needs SAFE_STATE (R536, R542). -/
def State.testRefuses (s : State) (v : Word) : Option Nat :=
  if bitOf v 31 ∧ (s.pick.released = true ∨ s.boot.left ≠ [] ∨ s.shuttingDown = true) then some codeNotPermitted
  else if bitOf v 30 ∧ s.safeState = false then some codeNotPermitted
  else none

/-- TEST_CMD.START runs the classes of MASK (R537). -/
def testStartOp (m : Nat) (v : Word) (s : State) : State :=
  if bitOf v 31 && decide (fieldOf v 8 0 ≠ 0) then s.startTest testOnDemand m (maskClasses (fieldOf v 8 0)) else s

/-- The TEST page as an identity reads it. -/
def State.testView (s : State) (m off : Nat) : Option Word :=
  let sel := (((s.cap m (regAddr .test 0 0x070)).getD 1).toNat) - 1
  let rec_ (f : DoffRec → Word) : Option Word := some ((s.doffRec.map f).getD 0)
  if off = 0x058 then some (BitVec.ofNat 32 s.recState)
  else if off = 0x05C then rec_ (fun r => r.seq)
  else if off = 0x060 then rec_ (fun r => r.patterns)
  else if off = 0x064 then rec_ (fun r => r.expected)
  else if off = 0x068 then rec_ (fun r => r.classes)
  else if off = 0x070 then some ((s.cap m (regAddr .test 0 0x070)).getD 1)
  else if off = 0x074 then rec_ (fun r => loHalf (r.misr.getD sel 0).toNat)
  else if off = 0x078 then rec_ (fun r => hiHalf (r.misr.getD sel 0).toNat)
  else none

/-! Burns and their supplies (Table 19-2). -/

def State.serving (s : State) (ch : Nat) : Option Service := SMap.get none s.trust.serving ch
def State.setServing (s : State) (ch : Nat) (v : Option Service) : State :=
  { s with trust := { s.trust with serving := SMap.set none s.trust.serving ch v } }

end Sys2Proof.Machine
end

