-- ==== Sys2Proof/Machine/Service.lean ====
section
/-!
DEFINITION. The service protocol: which request a server takes, how it is answered, and when a request that waits ends (R510 to R514).
-/

namespace Sys2Proof.Machine

/-- Return codes beside those of Table 2-4 (Table 18-6). -/
def codeImage : Nat := 0x0100
def codeBadLength : Nat := 0x0201
def codeSequence : Nat := 0x0202
def codeConfirm : Nat := 0x0203
def codeToken : Nat := 0x0204
def codeKeyPresent : Nat := 0x0205
def codeSupplyFault : Nat := 0x0206
def codeCondition : Nat := 0x0207
def codeTestFailed : Nat := 0x0208
def codeUnknown : Nat := 0xFFFF

/-- The opcodes of Table 18-5 with their LEN and the channels that carry them. -/
def opcodes : List (Nat × Nat × List Nat) :=
  [(0x0001, 0, [1, 2]), (0x0002, 1, [1]), (0x0010, 4, [1]), (0x0011, 2, [1]), (0x0012, 4, [1]), (0x0020, 1, [1]), (0x0021, 1, [1]),
   (0x0022, 0, [0, 1, 2]), (0x0030, 1, [0, 1, 2]), (0x0040, 1, [0, 1, 2]), (0x0041, 0, [0, 1, 2]), (0x0100, 5, [2]), (0x0101, 2, [2]),
   (0x0102, 5, [2]), (0x0103, 3, [2]), (0x0104, 3, [2]), (0x0105, 1, [2]), (0x0106, 0, [2])]

/-- The opcodes that weft firmware forwards to channel 0 (R512). -/
def forwarded (op : Nat) : Bool := decide (op = 0x22 ∨ op = 0x30 ∨ op = 0x40 ∨ op = 0x41)

/-- The server's and the client's side of a service channel (Table 16-1). -/
def serverSide (ch : Nat) : Nat := if ch = 0 then 0 else 1
def clientSide (ch : Nat) : Nat := if ch = 0 then 1 else 0

/-- The head message toward the server. -/
def State.request (s : State) (ch : Nat) : Option ShMsg := (s.sh ch (clientSide ch)).msgs.head?

/-- The server may take the head message of the channel (R511, R512). -/
def State.mayServe (s : State) (ch : Nat) : Bool :=
  if ch = 1 then decide (s.weftState = weftRunning) && (s.serving 1).isNone
  else
    s.bit rCoreStat 0 && (s.serving 0).isNone && (s.serving 2).isNone &&
      (match s.request ch, s.request (2 - ch) with
       | some m, some o => if ch = 2 then decide (m.born ≤ o.born) else decide (m.born < o.born)
       | _, _ => true)

/-- The head message is this request: the opcode and the tag of its header, and its parameters. -/
def State.isRequest (s : State) (op : Nat) (msg : SvcMsg) : Bool :=
  match s.request msg.channel with
  | some m =>
    decide (fieldOf (m.words.headD 0) 31 16 = op ∧ fieldOf (m.words.headD 0) 14 8 = msg.tag.toNat ∧ m.words.tail = msg.params)
  | none => false

/-! Answers. -/

/-- A warp firmware answer is counted, and raised when it refuses (R513). -/
def State.countAnswer (s : State) (op code : Nat) : State :=
  let s1 := (s.setReg rSvcLast (BitVec.ofNat 32 (place op 16 + code))).count rSvcCounts 31 16 1
  if code = 0 then s1 else (s1.count rSvcCounts 15 0 1).mgmtEvent 3

/-- The request is acknowledged, as soon as the client's acknowledge queue has room (R451, R511). -/
def State.acknowledge (s : State) (ch op code : Nat) : State :=
  if s.ackFull ch (serverSide ch) then s.setServing ch (some { opcode := op, code := some code })
  else
    let s1 := rxAckOp ch (serverSide ch) code (s.setServing ch none)
    if ch = 1 then s1 else s1.countAnswer op code

/-- Weft firmware returns warp firmware's code for a request it forwarded (R512). -/
def State.returnForwarded (s : State) : State :=
  match s.serving 1 with
  | some v =>
    if forwarded v.opcode && decide ((s.sh 0 1).acks ≠ []) && v.code.isNone then
      let (s1, w) := ackPop 0 1 s
      s1.acknowledge 1 v.opcode (fieldOf w 15 0)
    else s
  | none => s

/-- The request is answered. -/
def State.finish (s : State) (ch op code : Nat) : State := (s.acknowledge ch op code).returnForwarded

/-- A reply message of the server, before its acknowledge: REPLY = 1, the opcode and the tag of the request (R511). -/
def State.replyFits (s : State) (ch : Nat) (ws : List Word) : Bool :=
  decide (((s.sh ch (serverSide ch)).accum = []) ∧ ws.length + 1 ≤ (s.sh ch (serverSide ch)).space)

def State.reply (s : State) (ch op tag : Nat) (ws : List Word) : State :=
  let header : Word := BitVec.ofNat 32 (place op 16 + place 1 15 + place tag 8 + ws.length)
  ((header :: ws).foldl (fun s w => txAppend ch (serverSide ch) w s) s).commitMsg ch (serverSide ch)

/-- A forwarded request becomes a message on channel 0, with its header and parameters unchanged. -/
def State.forward (s : State) (ws : List Word) : State := (ws.foldl (fun s w => txAppend 0 1 w s) s).commitMsg 0 1

/-! Requests that wait. -/

/-- The code of a load request's end, once it has one: region or fabric released, LOADED under HOLD_RELEASE, or a rejection; a load
that another one has replaced was aborted. -/
def State.loadOutcome (s : State) (reweave hold : Bool) : Option Nat :=
  if s.engFeeder ≠ 1 ∨ s.engReweave ≠ reweave then some (codeImage + rejAborted)
  else if s.engState = engClearing then some (codeImage + s.fld rCfgReject 7 0)
  else if s.engState = engIdle then some 0
  else if s.engState = engLoaded ∧ hold = true then some 0
  else none

/-- The code that answers a request which waits, once it has ended. -/
def State.outcome (s : State) (v : Service) : Option Nat :=
  match v.opcode with
  | 0x10 | 0x11 => s.loadOutcome false v.hold
  | 0x12 => s.loadOutcome true false
  | 0x21 =>
    if s.shuttingDown then some codeShuttingDown
    else if v.hold then
      (if s.pwrState = pwrSleeping then some 0 else if s.pwrState = pwrActive then some codeNotQuiescent else none)
    else if s.pwrState = pwrActive then some 0
    else none
  | 0x30 =>
    if s.boot.left ≠ [] then none
    else if s.fld rTestResult 24 16 = s.fld rTestResult 8 0 then some 0
    else some codeTestFailed
  | _ => none

/-- One channel's waiting request ends if it can. Whether LOAD_WEFT succeeds with a container that failed is not said: its code is then
open (log entry 44). -/
def State.followOne (s : State) (ch : Nat) : State :=
  match s.serving ch with
  | none => s
  | some v =>
    match v.code with
    | some c => s.finish ch v.opcode c
    | none =>
      if v.opcode = 0x104 then
        (if s.weftState = weftRunning then s.finish ch 0x104 0
         else if s.weftState = weftFailed then s.tick.finish ch 0x104 (s.openValue % 2 ^ 16)
         else s)
      else if ch = 1 ∧ forwarded v.opcode = true then s.returnForwarded
      else match s.outcome v with
        | some c => s.finish ch v.opcode c
        | none => s

/-- Every request that waits and has ended is answered. -/
def State.follow (s : State) : State := ((s.followOne 0).followOne 2).followOne 1

/-! Burns (R504, R507, Table 19-2). -/

/-- FUSE_BURN_DONE. -/
def fuseBurnDone (t : Nat) (s : State) : State :=
  match s.trust.burn with
  | some (.life target) =>
    if s.burnWaits then s
    else
      let s1 := s.at t
      (({ s1 with trust := { s1.trust with burn := none } } : State).enterLc target).finish 2 0x101 0
  | _ => s

/-- KEY_BURN_DONE. -/
def keyBurnDone (t : Nat) (s : State) : State :=
  match s.trust.burn with
  | some (.key slot ws) =>
    if s.burnWaits then s
    else
      let s1 := s.at t
      (({ s1 with trust := { s1.trust with burn := none } } : State).enterKey slot ws).finish 2 0x100 0
  | _ => s

/-- SUPPLY_FAULT: 100 ms have passed with VAUX or VAON in warning. -/
def supplyFaultOp (t : Nat) (s : State) : State :=
  match s.trust.burn, s.serving 2 with
  | some _, some v =>
    if s.burnWaits && decide (v.since + 100000000 ≤ t) then
      let s1 := s.at t
      ({ s1 with trust := { s1.trust with burn := none } } : State).finish 2 v.opcode codeSupplyFault
    else s
  | _, _ => s

end Sys2Proof.Machine
end

