-- ==== Sys2Proof/Machine/Bus.lean ====
section
/-!
DEFINITION. Register pages on the system bus: what a read shows, what check 11 of each block refuses, and what each accepted write does
(R38, R42 to R51, R562, and the register tables of the chapters).
-/

namespace Sys2Proof.Machine

/-! Reads. -/

/-- The 64-bit pairs that capture, by the offset of their _LO register (R249, R286, R439, R541, R562; log entry 19). -/
def pairLo (p : Page) (off : Nat) : Bool :=
  match p.kind with
  | .device => decide (off = 0x048)
  | .pick => decide (off = 0x054 ∨ off = 0x074 ∨ off = 0x080 ∨ off = 0x088)
  | .config => decide (off = 0x054)
  | .time => decide (off = 0x040 ∨ off = 0x048)
  | .test => decide (off = 0x074)
  | .event => decide (off = 0x068)
  | .creel => decide (off = 0x064)
  | .selvedge => decide (0x100 ≤ off ∧ off < 0x200 ∧ off % 0x20 = 0x0C)
  | .twill => decide (0x100 ≤ off ∧ off < 0x300 ∧ off % 0x20 = 0x08)
  | .dma => decide (0x100 ≤ off ∧ off < 0x300 ∧ (off % 0x80 = 0x08 ∨ off % 0x80 = 0x10 ∨ off % 0x80 = 0x34))
  | _ => false

/-- What the block shows at an offset beside the stored register. -/
def State.blockView (s : State) (m : Nat) (p : Page) (off : Nat) : Option Word :=
  match p.kind with
  | .device => s.deviceView off
  | .power => s.powerView off
  | .time => if off = 0x040 then some (loHalf s.now) else if off = 0x044 then some (hiHalf s.now) else none
  | .pick => s.pickView off
  | .commit => s.commitView off
  | .config => s.configView off
  | .test => s.testView m off
  | .log => s.logView m off
  | .event => if 0x104 ≤ off ∧ off < 0x110 then some ((s.cap m (p.base + off)).getD 0) else s.eventView off
  | .sema => s.semaView off
  | .pinmap => s.pinmapView p.inst off
  | .pattern => s.patternView off
  | .hostper => s.hostperView off
  | .pace => s.paceView p.inst off
  | .serdes => s.serdesView p.inst off
  | .pcs => s.pcsView p.inst off
  | .pcie => s.pcieView off
  | .dma => s.dmaView p off
  | .shuttle => s.shuttleView p.inst off
  | .selvedge => s.svView p.inst off
  | .fbp => s.fbpView p.inst off
  | .twill => s.twillView p.inst off
  | .creel => s.creelView m p.inst off
  | .reset | .scrub | .panel | .eventMap | .iobank | .mgmt => none

/-- The register as it reads at this moment, without a side effect. -/
def State.view (s : State) (m : Nat) (p : Page) (off : Nat) : Word := (s.blockView m p off).getD (s.reg (p.base + off))

/-- A read of a capturing pair (R562). -/
def readPair (m : Nat) (p : Page) (off : Nat) (s : State) : State × Word :=
  if pairLo p off then (s.setCap m (p.base + off + 4) (some (s.view m p (off + 4))), s.view m p off)
  else if pairLo p (off - 4) then (s, (s.cap m (p.base + off)).getD (s.view m p off))
  else (s, s.view m p off)

/-- The lane of a SERDES or PCS offset. -/
def offLane (off : Nat) : Nat := (off - 0x100) / 0x40

/-- A read with its side effect. -/
def readEffect (m : Nat) (p : Page) (off : Nat) (s : State) : State × Word :=
  match p.kind with
  | .event => if off = 0x100 then popRecord m s else readPair m p off s
  | .sema => if 0x100 ≤ off ∧ off < 0x500 then lockRead m ((off - 0x100) / 4) s else (s, s.view m p off)
  | .mgmt => if off = 0x04C then heartbeatRead m s else (s, s.view m p off)
  | .hostper =>
    if 0x100 ≤ off ∧ off < 0x240 ∧ off % 0x20 = 0x10 then hpPop ((off - 0x100) / 0x20) s else (s, s.view m p off)
  | .serdes =>
    if 0x100 ≤ off ∧ (off % 0x40 = 0x08 ∨ off % 0x40 = 0x0C) then
      let s1 := s.drift p.inst (offLane off)
      (s1, s1.view m p off)
    else (s, s.view m p off)
  | .shuttle =>
    (match sidePart p off with
     | some (c, d, o) =>
       if o = 0x08 then (txCommitOrDrop c d s, s.commitResult c d)
       else if o = 0x14 then ((ackPop c d s).1.follow, (ackPop c d s).2)
       else if o = 0x18 then rxNext c d s
       else (s, s.view m p off)
     | none => (s, s.view m p off))
  | _ => readPair m p off s

/-- A register whose read has a side effect (R43). -/
def sideEffectRead (p : Page) (off : Nat) : Bool :=
  match p.kind with
  | .creel => decide (off = 0x160)
  | .event => decide (off = 0x100)
  | .sema => decide (0x100 ≤ off ∧ off < 0x500)
  | .mgmt => decide (off = 0x04C)
  | .hostper => decide (0x100 ≤ off ∧ off < 0x240 ∧ off % 0x20 = 0x10)
  | .shuttle =>
    (match sidePart p off with
     | some (_, _, o) => decide (o = 0x08 ∨ o = 0x14 ∨ o = 0x18)
     | none => false)
  | _ => false

/-! Check 11. -/

/-- A refusal with its code. -/
def denyIf (b : Bool) (code : Nat) : Option Nat := if b then some code else none

/-- The unit of a HOSTPER or PATTERN offset, and the pin of a PINMAP offset. -/
def hpUnit (off : Nat) : Nat := (off - 0x100) / 0x20
def patUnit (off : Nat) : Nat := (off - 0x100) / 0x40
def mapPin (p : Page) (off : Nat) : Nat := 128 * p.inst + (off - 0x100) / 8

/-- BOLT_CMD (Table 6-8). -/
def State.boltCmdRefuses (s : State) (v : Word) : Option Nat :=
  let b := fieldOf v 19 16
  match fieldOf v 2 0 with
  | 1 | 2 => denyIf (s.boltCmdRefused b) codeNotPermitted
  | 3 => denyIf (s.resumeRefused b) codeNotPermitted
  | _ => none

/-- CFG_CMD and CFG_FIFO (Table 11-5, R313). -/
def State.configRefuses (s : State) (m off : Nat) (v : Word) : Option Nat :=
  if off = 0x080 then denyIf (s.fifoRefused m) codeNotPermitted
  else if off ≠ 0x044 then none
  else match fieldOf v 2 0 with
    | 1 => denyIf s.startFullRefused codeNotPermitted
    | 2 => denyIf s.startReweaveRefused codeNotPermitted
    | 3 => denyIf s.abortRefused codeNotPermitted
    | 4 => denyIf s.cfgReleaseRefused codeNotPermitted
    | _ => none

/-- SH_BIND, TX_DATA, TX_SEND and RX_ACK (R441, R449, R451, R452). -/
def State.shuttleRefuses (s : State) (p : Page) (off : Nat) (v : Word) : Option Nat :=
  if 0x100 ≤ off ∧ (off - 0x100) % 0x200 = 0 then denyIf (bitOf v 31 && decide (fieldOf v 21 16 = fieldOf v 5 0)) codeNotPermitted
  else match sidePart p off with
    | some (c, d, o) =>
      if o = 0x00 then denyIf (s.txFull c d) codeQueueFull
      else if o = 0x04 then denyIf (bitOf v 0 && s.sendEmpty c d) codeNotPermitted
      else if o = 0x20 then (if s.ackNoHead c d then some codeNotPermitted else denyIf (s.ackFull c d) codeQueueFull)
      else none
    | none => none

/-- LOCK_n and SEMA_CMD (R460, R462). -/
def State.semaRefuses (s : State) (m off : Nat) (v : Word) : Option Nat :=
  if 0x100 ≤ off ∧ off < 0x500 then denyIf (decide (s.holder ((off - 0x100) / 4) ≠ some m)) codeNotPermitted
  else if off = 0x080 then denyIf (bitOf v 31 && (s.holder (fieldOf v 7 0)).isNone) codeNotPermitted
  else none

/-- PIN_MAP and PIN_PAD (R351, R352, R355). -/
def State.pinRefuses (s : State) (p : Page) (off : Nat) (v : Word) : Option Nat :=
  if off < 0x100 then none
  else
    let n := mapPin p off
    if off % 8 = 0 then denyIf (!s.pinRulesOk n v (s.reg (rPinPad n))) codeNotPermitted
    else denyIf (!s.pinRulesOk n (s.reg (rPinMap n)) v) codeNotPermitted

/-- BANK_CFG and BANK_CMD (R349, R351). -/
def State.bankRefuses (s : State) (b off : Nat) (v : Word) : Option Nat :=
  if off = 0x040 then denyIf (!s.bankCfgOk b v) codeNotPermitted
  else if off = 0x058 then denyIf (bitOf v 0 && !s.bankReady b) codeNotPermitted
  else none

/-- HP_CMD and HP_TX (R371). -/
def State.hpRefuses (s : State) (off : Nat) (v : Word) : Option Nat :=
  if off < 0x100 then none
  else if off % 0x20 = 0x04 then denyIf (s.hpRefused (hpUnit off) (fieldOf v 17 16) (fieldOf v 4 0)) codeNotPermitted
  else if off % 0x20 = 0x0C then denyIf (s.hpTxFull (hpUnit off)) codeQueueFull
  else none

/-- The code of check 11 of a write, if the block refuses it. -/
def State.refusesAt (s : State) (m : Nat) (p : Page) (off : Nat) (v : Word) : Option Nat :=
  match p.kind with
  | .pick => denyIf (decide (off = 0x05C) && bitOf v 0 && s.applyRefused) codeBadEncoding
  | .commit => if off = 0x04C then s.boltCmdRefuses v else none
  | .config => s.configRefuses m off v
  | .log => denyIf (decide (off = 0x058 ∧ fieldOf v 1 0 = 2) && s.freeable.isNone) codeNotPermitted
  | .power => if off = 0x044 ∧ fieldOf v 1 0 = 1 then s.sleepRefuses else none
  | .test => if off = 0x040 then s.testRefuses v else none
  | .sema => s.semaRefuses m off v
  | .pinmap => s.pinRefuses p off v
  | .iobank => s.bankRefuses p.inst off v
  | .hostper => s.hpRefuses off v
  | .pace => denyIf (decide (off = 0x050) && bitOf v 0 && (s.paceStaged p.inst).unreachable) codeBadEncoding
  | .serdes => serdesRefuses s p.inst off v
  | .pcs => pcsRefuses s p.inst off v
  | .pcie => s.userVectorRefuses off v
  | .dma => s.dmaRefuses p off v
  | .shuttle => s.shuttleRefuses p off v
  | .twill =>
    denyIf (decide (0x100 ≤ off ∧ off % 0x20 = 0x14) && bitOf v 31 && s.injectRefused (16 * p.inst + (off - 0x100) / 0x20) (fieldOf v 27 26))
      codeNotPermitted
  | .creel => s.creelRefuses m p.inst off v
  | .device | .reset | .time | .scrub | .panel | .event | .eventMap | .pattern | .mgmt | .selvedge | .fbp => none

/-- What a refusal at check 11 leaves beside its record (R215, R451, R460, R523). -/
def State.refusedAt (m : Nat) (p : Page) (off : Nat) (v : Word) (s : State) : State :=
  match p.kind with
  | .power => s.countSleepRefused
  | .sema => if 0x100 ≤ off ∧ off < 0x500 then releaseRefused m ((off - 0x100) / 4) s else s
  | .creel => s.creelOnRefuse m p.inst off v
  | .shuttle =>
    (match sidePart p off with
     | some (c, d, o) =>
       if isHostId m = false then s
       else if o = 0x00 then txDropped c d s
       else if o = 0x20 ∧ s.ackNoHead c d = false then ackDroppedWrite c d s
       else s
     | none => s)
  | _ => s

/-! Effects. -/

/-- BOLT_CMD. -/
def boltCmdWritten (v : Word) (s : State) : State :=
  let b := fieldOf v 19 16
  match fieldOf v 2 0 with
  | 1 => boltRollbackOp b s
  | 2 => ((boltHaltOp b s).engineFollow).follow
  | 3 => boltResumeOp b s
  | 4 => boltClearOp b s
  | _ => s

/-- CFG_CMD (R296 to R304). A START_FULL during a reweave abandons it first. -/
def cfgCmdWritten (m : Nat) (v : Word) (s : State) : State :=
  match fieldOf v 2 0 with
  | 1 =>
    let s1 := if s.loadRuns && s.engReweave then s.abortLoad else s
    (startFull m (fieldOf v 5 4) s1).ask.follow
  | 2 => (startReweave m (fieldOf v 5 4) s).ask.follow
  | 3 => s.abortLoad.follow
  | 4 => s.releaseNow.follow
  | _ => s

def shuttleWritten (p : Page) (off : Nat) (old v : Word) (s : State) : State :=
  if p.inst = 0 ∧ off = 0x040 then (if bitOf v 0 then s.lockBindingsOp else s)
  else if 0x100 ≤ off ∧ (off - 0x100) % 0x200 = 0 then rebound (4 * p.inst + (off - 0x100) / 0x200) old s
  else match sidePart p off with
    | some (c, d, o) =>
      if o = 0x00 then txAppend c d v s
      else if o = 0x04 then (if bitOf v 0 then txCommitOrDrop c d s else s)
      else if o = 0x20 then rxAckOp c d (fieldOf v 15 0) s
      else if o = 0x24 then
        (match fieldOf v 2 0 with
         | 1 => flushRxOp c d (fieldOf v 31 16) s
         | 2 => clearPeerReset c d s
         | 3 => s.setReg (rSideCnt c d) 0
         | _ => s)
      else s
    | none => s

def semaWritten (off : Nat) (v : Word) (s : State) : State :=
  if 0x100 ≤ off ∧ off < 0x500 then s.setHolder ((off - 0x100) / 4) none
  else if off = 0x080 then
    (if bitOf v 31 then
      (match s.holder (fieldOf v 7 0) with
       | some h => s.forceRelease (fieldOf v 7 0) h 2
       | none => s)
     else s)
  else if off = 0x08C then (if bitOf v 31 then (s.setReg rSemaCnt 0).setReg rSemaLast 0 else s)
  else s

def pinWritten (p : Page) (off : Nat) (old : Word) (s : State) : State :=
  if off < 0x100 then s
  else
    let n := mapPin p off
    if off % 8 = 0 then pinMapWritten n old s else pinPadWritten n old s

def bankWritten (b off : Nat) (old v : Word) (s : State) : State :=
  if off = 0x040 then
    let s1 := s.bankRecoded b (fieldOf old 2 0)
    if bitOf v 5 && s1.bankReady b then s1.enableBank b else s1
  else if off = 0x044 then s.settle
  else if off = 0x058 then
    let s1 := if bitOf v 1 then s.setReg (rBankVmin b) 0xFFFF else s
    if bitOf v 0 then s1.enableBank b else s1
  else s

def patternPageWritten (off : Nat) (old v : Word) (s : State) : State :=
  if off = 0x014 then patternStickyCleared v.toNat s
  else if off = 0x040 then patternClear v.toNat s
  else if off < 0x100 then s
  else patternWritten (patUnit off) (if (off - 0x100) % 0x40 = 0 then bitOf old 31 else s.bit (patBase (patUnit off)) 31) s

def hostperWritten (off : Nat) (v : Word) (s : State) : State :=
  if off < 0x100 then s
  else match off % 0x20 with
    | 0x00 => hpConfigured (hpUnit off) s
    | 0x04 => hpCommand (hpUnit off) (fieldOf v 17 16) (fieldOf v 4 0) (bitOf v 8) s
    | 0x0C => hpPush (hpUnit off) (v.setWidth 8) s
    | _ => s

/-- PACE_CMD: APPLY makes the staged settings pending (R280). -/
def paceApplyOp (g : Nat) (s : State) : State := s.setPace g { (s.pace g) with pending := some (s.paceStaged g) }

def paceWritten (g off : Nat) (v : Word) (s : State) : State :=
  if off = 0x050 then
    let s1 := if bitOf v 1 then s.setReg (paceBase g + 0x058) 0 else s
    if bitOf v 0 then paceApplyOp g s1 else s1
  else s

def serdesWritten (q off : Nat) (old v : Word) (s : State) : State :=
  if off = 0x008 then quadPwrOp q (bitOf old 0) s
  else if off = 0x044 then
    (match fieldOf v 2 0 with
     | 1 => sdApplyOp q s
     | 2 => sdResetOp q s
     | 4 => sdClear q s
     | _ => s)
  else if off < 0x100 then s
  else match off % 0x40 with
    | 0x00 => lcfgWritten q (offLane off) old s
    | 0x0C => dfeWritten q (offLane off) s
    | 0x14 => let s1 := prbsWritten q (offLane off) old s
              if bitOf v 0 then prbsInjectOp q (offLane off) s1 else s1
    | _ => s

def pcsWritten (q off : Nat) (v : Word) (s : State) : State :=
  if off = 0x044 then
    (match fieldOf v 2 0 with
     | 1 => pcsApplyOp q s
     | 4 => pcsClear q s
     | _ => s)
  else s

/-- SV_CMD: RESYNC and CLR_COUNTS of the page's bridges (Table 10-8). -/
def svWritten (k off : Nat) (v : Word) (s : State) : State :=
  if off = 0x040 then
    let s1 := (List.range 8).foldl (fun s i => if bitOf v (8 + i) then s.setReg (rSvCnt (8 * k + i)) 0 else s) s
    (List.range 8).foldl (fun s i => if bitOf v i then s.resyncBridge (8 * k + i) false else s) s1
  else s

def eventWritten (m off : Nat) (v : Word) (s : State) : State :=
  if off = 0x04C then
    let s1 := if bitOf v 1 then s.setReg (regAddr .event 0 0x044) 0 else s
    if bitOf v 0 then clearRing s1 else s1
  else if off = 0x050 then userRaise m 0 v.toNat s
  else if off = 0x054 then userRaise m 1 v.toNat s
  else s

def logWritten (off : Nat) (v : Word) (s : State) : State :=
  if off = 0x058 then (if fieldOf v 1 0 = 1 then logClearOp s else if fieldOf v 1 0 = 2 then logFreeOp s else s) else s

def powerWritten (off : Nat) (v : Word) (s : State) : State :=
  if off = 0x044 then
    (match fieldOf v 1 0 with
     | 1 => (sleepOp s).follow
     | 2 => (wakeOp 3 s).follow
     | 3 => (shutdownOp s).follow
     | _ => s)
  else if off = 0x114 then (if bitOf v 0 then pwrClear s else s)
  else s

def mgmtWritten (off : Nat) (v : Word) (s : State) : State :=
  if off = 0x044 then (weftCtrlWritten v s).follow
  else if off = 0x048 then (if s.weftState = weftRunning then s.restartWdog else s)
  else s

/-- What an accepted write does beside its value; `old` is what the register read before. -/
def State.effectAt (m : Nat) (p : Page) (off : Nat) (old v : Word) (s : State) : State :=
  match p.kind with
  | .power => powerWritten off v s
  | .reset => if off = 0x048 ∧ fieldOf v 2 0 = 5 then s.deviceReset 0x05 0 else s
  | .pick => if off = 0x05C then (if bitOf v 0 then pickApplyOp (if bitOf v 1 then pickClearOp s else s) else
      if bitOf v 1 then pickClearOp s else s) else s
  | .commit => if off = 0x04C then boltCmdWritten v s else s
  | .config => if off = 0x044 then cfgCmdWritten m v s else if off = 0x080 then cfgFifoWrite m v s else s
  | .scrub => if off = 0x060 ∧ bitOf v 0 then scrubClear s else s
  | .test => if off = 0x040 then testStartOp m v s else s
  | .log => logWritten off v s
  | .event => eventWritten m off v s
  | .sema => semaWritten off v s
  | .pinmap => pinWritten p off old s
  | .pattern => patternPageWritten off old v s
  | .iobank => bankWritten p.inst off old v s
  | .hostper => hostperWritten off v s
  | .mgmt => mgmtWritten off v s
  | .pace => paceWritten p.inst off v s
  | .serdes => serdesWritten p.inst off old v s
  | .pcs => pcsWritten p.inst off v s
  | .pcie => if off = 0x054 ∧ bitOf v 0 then pcieClear s else s
  | .dma => State.dmaEffect p off v s
  | .shuttle => shuttleWritten p off old v s
  | .selvedge => svWritten p.inst off v s
  | .fbp => if off = 0x040 then fbpClear p.inst (fieldOf v 3 0) s else s
  | .twill => if off = 0x040 then twillClear p.inst (fieldOf v 15 0) s else s
  | .creel => State.creelEffect m p.inst off v s
  | .device | .time | .panel | .eventMap => s

/-- A START makes a LOAD_START entry with CFG_STAT after it (Table 17-7). -/
def isStart (p : Page) (off : Nat) (v : Word) : Bool :=
  decide (p.kind = .config ∧ off = 0x044 ∧ (fieldOf v 2 0 = 1 ∨ fieldOf v 2 0 = 2))

/-- LOG_CMD is logged after its effect: with LOG_HEAD after a clear, and LOG_OLDEST after a free. -/
def State.logCmdEntry (v : Word) (s : State) : Nat × Word :=
  if fieldOf v 1 0 = 1 then (0xC, BitVec.ofNat 32 s.log.head)
  else if fieldOf v 1 0 = 2 then (0xD, BitVec.ofNat 32 s.log.oldest)
  else (0x0, v)

/-- Everything a write of a register does. -/
def State.effectOf (s : State) (m : Nat) (p : Page) (off : Nat) (old v : Word) : Effect :=
  { refuses := s.refusesAt m p off v
    onRefuse := fun s => s.refusedAt m p off v
    run := fun s => s.effectAt m p off old v
    logAfter := isStart p off v || decide (p.kind = .log ∧ off = 0x058)
    entry :=
      if isStart p off v then some (fun s => (0x2, s.view m p 0x048))
      else if p.kind = .log ∧ off = 0x058 then some (fun s => s.logCmdEntry v)
      else none
    waits := (decide (p.kind = .creel ∧ off = 0x060 ∧ fieldOf v 31 30 ≠ 0) && s.winWaits p.inst) ||
      (decide (p.kind = .config ∧ off = 0x080) && s.fifoFull) }

/-! Accesses. -/

/-- A write of a page register. The adaptation of a lane goes on until it is frozen, so its coefficients are those of that moment
(R384). -/
def pageWrite (m : Nat) (p : Page) (off be : Nat) (v : Word) (s : State) : State :=
  let s1 := if p.kind = .serdes ∧ 0x100 ≤ off ∧ off % 0x40 = 0x00 then s.drift p.inst (offLane off) else s
  let old := s1.view m p off
  s1.writeReg m p off be old v (s1.effectOf m p off old v)

/-- What a block refuses of a read. -/
def State.readRefuses (s : State) (m : Nat) (p : Page) (off : Nat) : Option Nat :=
  match p.kind with
  | .creel => s.creelReadRefuses m p.inst off
  | _ => none

def pageRead (m : Nat) (p : Page) (off : Nat) (s : State) : State :=
  s.readReg m p off (s.readRefuses m p off)
    (fun s => if p.kind = .creel ∧ off = 0x160 then busPop p.inst m s else readEffect m p off s)

/-- An access in a fabric window: check 3, the closed debug port, and it is issued to its port (R38, R509). A rejection records address bits
[11:0] as the offset; for a window the manual names none (DESIGN CHOICE, log entry 66). -/
def windowAccess (e : Issued) (s : State) : State :=
  let n := (e.addr - 0x0400_0000) / 0x0020_0000
  if isHostId e.master && s.shuttingDown then s.refuse e.master (fbpPage n) e.write (e.addr % 0x1000) codeShuttingDown
  else if decide (e.master = 5) && !s.debugOpen then s.refuse e.master (fbpPage n) e.write (e.addr % 0x1000) codeLifecycle
  else s.issue { e with addr := e.addr / 4 * 4, port := some n, tag := none }

/-- An access to an unmapped address (R37). -/
def unmappedAccess (m a : Nat) (write : Bool) (s : State) : State :=
  (s.recordUnmapped m write a).answer m write a (rejectedData m write 0 codeUnmapped) codeUnmapped

/-- An access of a page. One of a doorbell in BAR2 needs the channel's FUNC beside the checks of the page (R410). -/
def pageAccess (e : Issued) (p : Page) (s : State) : State :=
  let off := e.addr % 0x1000 / 4 * 4
  if e.bell && decide (s.chanFunc (4 * p.inst + (off - 0x100) / 0x80) ≠ e.master - 8) then
    (if e.write && decide (e.be ≠ 15) then s.refuse e.master p true off codeBadSize
     else s.refuse e.master p e.write off ((s.pageClosed e.master p off).getD codeNotPermitted))
  else if e.write then pageWrite e.master p off e.be e.value s
  else pageRead e.master p off s

/-- The newest `n` entries show that a write took effect after its access ended with TIMEOUT (Table 17-6). -/
def ChangeLog.markLate (l : ChangeLog) (n m a : Nat) : ChangeLog :=
  let k := l.entries.length - n
  { l with entries := l.entries.take k ++ (l.entries.drop k).map (fun e =>
      if e.origin = m ∧ e.addr = a then { e with late := true } else e) }

/-- An access reaches its target. -/
def Issued.arrive (e : Issued) (s : State) : State :=
  if inFabricWindow e.addr then windowAccess e s
  else match pageOf e.addr with
    | none => unmappedAccess e.master e.addr e.write s
    | some p => pageAccess e p s

/-- An access is performed. What a write changes after its TIMEOUT is late. -/
def Issued.perform (e : Issued) (s : State) : State :=
  let s1 := e.arrive s
  if e.timedOut then
    { s1 with log := s1.log.markLate ((s1.log.head + 2 ^ 32 - s.log.head) % 2 ^ 32) e.master (e.addr / 4 * 4) }
  else s1

/-- The newest access on the bus is `e`, which its target now holds. -/
def State.heldAs (s : State) (e : Issued) : State :=
  { s with issued := s.issued.modify (s.issued.length - 1) (fun x =>
    { x with time := e.time, timedOut := e.timedOut, init := e.init, part := e.part, unheard := e.unheard }) }

/-- The end of an access at its target: its answer is passed on, or the target holds it. An access that ended with TIMEOUT while it waited
has been answered, and the completion of one that a reset has orphaned is discarded. -/
def State.conclude (s : State) (e : Issued) : State :=
  if s.resp.master = e.master then
    (if e.timedOut || e.unheard then s.forgetAnswer else s.passOn e s.resp.code (s.resp.data.headD 0))
  else s.heldAs e

/-- A master's access: it waits for its turn and its slot, or is performed (R24, R44). -/
def busAccess (e : Issued) (s : State) : State :=
  if s.waits e then s.park e else (e.perform s).conclude { e with time := s.now }

/-- A master's write and read of one word. -/
def busWrite (m a be : Nat) (v : Word) (s : State) : State := busAccess { master := m, addr := a, write := true, value := v, be := be } s
def busRead (m a : Nat) (s : State) : State := busAccess { master := m, addr := a } s

/-- The operation an engine stops when one of its accesses is rejected: a load of the configuration engine, the test of the self-test
engine. The event controller has none that lasts (R50). -/
def State.stopEngine (s : State) (m : Nat) : State :=
  if m = 2 then (if s.abortRefused then s else s.abortLoad.follow)
  else if m = 3 ∧ s.boot.left ≠ [] then
    (let failed := s.fld rTestResult 24 16 - s.fld rTestResult 8 0
     if s.testState = testFull then s.endFull false failed
     else if s.testState = testDoff then s.endDoff false failed
     else s.endTest false failed)
  else s

/-- The page of an engine. -/
def enginePage (m : Nat) : Option Page :=
  if m = 2 then some ⟨.config, 0⟩ else if m = 3 then some ⟨.test, 0⟩ else if m = 6 then some ⟨.event, 0⟩ else none

/-- What a rejection means for the master beside its answer (R50). A host write is dropped: Completer Abort is logged as Advisory
Non-Fatal, and it is counted. An engine stops its operation, and its own page records the rejection as well (log entry 67). -/
def State.noteRejection (s : State) : State :=
  if s.resp.code = 0 then s
  else if isHostId s.resp.master && s.resp.write then s.hostDrop s.resp.master
  else match enginePage s.resp.master with
    | some p =>
      let s1 := s.stopEngine s.resp.master
      if pageOf s.resp.addr = some p then s1
      else s1.recordRejection p s.resp.master s.resp.write (s.resp.addr % 0x1000) s.resp.code
    | none => s

/-- One access of a master with what its rejection means; a device held in reset has no accesses. -/
def access (f : State → State) (s : State) : State :=
  if s.inReset then s.forgetAnswer else (f s.forgetAnswer).noteRejection

/-! Accesses that have waited (R24, R44). -/

/-- The oldest access of a master that waits on the bus for an older one and now need not. -/
def State.nextHeldBack (s : State) (m : Nat) : Option Nat :=
  (List.range s.issued.length).find? (fun i =>
    match s.issued[i]? with
    | some e => decide (e.master = m) && e.port.isNone && !e.checked && !(s.issued.take i).any (fun o => o.holds e)
    | none => false)

/-- BUS_SLOT_GRANTED: the oldest access of the master that can go on does so. One that waits on the bus for an older access is performed;
otherwise the first that waits for a slot takes a free one, and is performed or waits in its turn (R24, R44). -/
def slotGranted (m : Nat) (s : State) : State :=
  match s.nextHeldBack m with
  | some i =>
    let e := s.issued.getD i {}
    access (fun s => (e.perform s).conclude e) { s with issued := s.issued.eraseIdx i }
  | none =>
    match s.slotWait.findIdx? (fun e => decide (e.master = m)) with
    | none => s
    | some i =>
      let e := s.slotWait.getD i {}
      if s.slotsBusy m then s
      else
        let s1 := { s with slotWait := s.slotWait.eraseIdx i }
        if s1.issued.any (fun o => o.holds e) then { s1 with issued := s1.issued ++ [{ e with time := s.now }] }
        else access (fun s => (e.perform s).conclude { e with time := s.now }) s1

end Sys2Proof.Machine
end

