-- ==== Sys2Proof/Machine/HostPort.lean ====
section
/-!
DEFINITION. Accesses that come in through a port: the host's memory requests, the JTAG debug port, and the initiator halves of the
fabric bus ports (R43, R276, R408 to R413, R509).
-/

namespace Sys2Proof.Machine

/-! Host memory requests (R43, R408 to R413). -/

/-- The answer to a host request that the endpoint ends itself. -/
def State.hostAnswer (s : State) (f : Nat) (write : Bool) (a : Nat) (data : List Word) (code : Nat) (st : CplKind) : State :=
  { s with resp := ⟨8 + f, write, a, data, code, st⟩ }

/-- Unsupported Request; a write is dropped (Table 15-6). -/
def State.unsupported (s : State) (f : Nat) (write : Bool) (a : Nat) : State :=
  (if write then s.dropPosted else s).hostAnswer f write a [] 0 (if write then .success else .unsupported)

/-- Bytes of a BAR (Table 15-4). -/
def barSize (f : Nat) (bar : Bar) : Nat :=
  match bar with
  | .bar0 => if f = 0 then 0x0800_0000 else 0x0100_0000
  | .bar2 => 0x4000

/-- The system address an offset of BAR0 maps to (Table 15-4). -/
def bar0Address (f off : Nat) : Nat := if f = 0 then off else 0x0400_0000 + (f - 1) * 0x0100_0000 + off

/-- A register whose read has a side effect lies at the address (R43). -/
def sideEffectAt (a : Nat) : Bool :=
  if inFabricWindow a then false
  else match pageOf a with
    | some p => sideEffectRead p (a % 0x1000 / 4 * 4)
    | none => false

/-- The doorbell register of Table 15-5 at an offset from 0x2000: its channel and its offset in the channel. -/
def doorbellOf (o : Nat) : Nat × Nat := (o / 16, [0x20, 0x2C, 0x24, 0x28].getD (o % 16 / 4) 0)

/-- A doorbell access: an access by identity 8 + f to the channel's register, whose FUNC must be f (R410). -/
def doorbell (e : Issued) (o : Nat) (s : State) : State :=
  busAccess { e with addr := regAddr .dma ((doorbellOf o).1 / 4) (0x100 + 0x80 * ((doorbellOf o).1 % 4) + (doorbellOf o).2), bell := true } s

/-- A word with some of its bytes replaced. -/
def mergeBytes (be : Nat) (old v : Word) : Word :=
  BitVec.ofNat 32 ((List.range 4).foldl (fun n k =>
    n + place (fieldOf (if be.testBit k then v else old) (8 * k + 7) (8 * k)) (8 * k)) 0)

/-- A write of the MSI-X table; a vector that it unmasks is sent (R409, R411). -/
def msixWrite (f off be : Nat) (v : Word) (s : State) : State :=
  let w := mergeBytes be (s.msixWord f off) v
  let kept := if off % 16 = 0 then w &&& 0xFFFF_FFFC else if off % 16 = 12 then w &&& 1 else w
  ((s.setMsix f off kept).functionOpens f).hostAnswer f true off [] 0 .success

/-- One DWord of BAR2 (R409). -/
def bar2Word (f off : Nat) (e : Issued) (s : State) : State :=
  if 0x2000 ≤ off ∧ off < 0x2400 then doorbell e (off - 0x2000) s
  else
    (if off < 16 * vectorsOf f then
      (if e.write then msixWrite f off e.be e.value s else s.hostAnswer f false off [s.msixWord f off] 0 .success)
    else if 0x1000 ≤ off ∧ off < 0x1000 + vectorsOf f / 8 then
      s.hostAnswer f e.write off (if e.write then [] else [s.pbaWord f ((off - 0x1000) / 4)]) 0 .success
    else unmappedAccess (8 + f) off e.write s).conclude e

/-- One DWord of a request. -/
def hostWord (f : Nat) (bar : Bar) (off : Nat) (e : Issued) (s : State) : State :=
  match bar with
  | .bar0 => busAccess { e with addr := bar0Address f off } s
  | .bar2 => bar2Word f off { e with addr := off } s

/-- The DWords of write request `id` in ascending address order, from the `k`-th on. `be` are the byte enables of the next DWord and `last`
those of the last; all others have every byte. -/
def hostWrite (f : Nat) (bar : Bar) (last id : Nat) : Nat → Nat → Nat → List Word → State → State
  | _, _, _, [], s => s
  | off, k, be, v :: rest, s =>
    hostWrite f bar last id (off + 4) (k + 1) (if rest.length = 1 then last else 15) rest
      (access (hostWord f bar off { master := 8 + f, write := true, value := v, be := be, part := some (id, k) }) s)

/-- A write request: each DWord is written on its own (R43). -/
def hostWriteRequest (f : Nat) (bar : Bar) (last off be : Nat) (ws : List Word) (s : State) : State :=
  let id := s.pcie.nextRead
  hostWrite f bar last id off 0 be ws { s with pcie := { s.pcie with nextRead := id + 1 } }

/-- The DWords of a read, each as part of request `id`. -/
def hostReadWords (f : Nat) (bar : Bar) (off id n : Nat) (s : State) : State :=
  (List.range n).foldl (fun s k => access (hostWord f bar (off + 4 * k) { master := 8 + f, part := some (id, k) }) s) s

/-- The most host non-posted requests held at once (Table 15-12). -/
def State.noteHostPeak (s : State) (held : Nat) : State := s.setFld rHostNp 24 16 (max (s.fld rHostNp 24 16) (min 256 held))

/-- A read request, checked as a whole (R43). One of several DWords is answered when all of them are. -/
def hostReadRequest (f : Nat) (bar : Bar) (off n : Nat) (s : State) : State :=
  let s0 := s.noteHostPeak (s.hostWaiting + 1)
  if decide (1 < n) && decide (bar = .bar0) && (List.range n).any (fun k => sideEffectAt (bar0Address f off + 4 * k)) then
    s0.hostAnswer f false off [] codeNotPermitted .abort
  else if n = 1 then access (hostWord f bar off { master := 8 + f }) s0
  else
    let id := s0.pcie.nextRead
    let r : HostRead := { id := id, func := f, addr := off, len := n }
    hostReadWords f bar off id n { s0 with pcie := { s0.pcie with hostReads := s0.pcie.hostReads ++ [r], nextRead := id + 1 } }

/-! Flow control (R414, Table 1-5): with the credits of its kind in use, a further request is held in the host. -/

/-- Credits for non-posted requests, for the headers of posted ones, and for their data in units of 16 bytes. -/
def hostCredits : Nat := 256
def postedHeaders : Nat := 128
def postedData : Nat := 1024

/-- The DWords of host writes that have not taken effect, as request and DWord. -/
def State.postedWaiting (s : State) : List (Nat × Nat) :=
  (s.issued ++ s.slotWait).filterMap (fun x => if isHostId x.master && x.write && !x.timedOut then x.part else none)

/-- A posted write of `n` DWords has its credits. -/
def State.postedRoom (s : State) (n : Nat) : Bool :=
  decide ((s.postedWaiting.map (fun p => p.1)).eraseDups.length < postedHeaders ∧
    (s.postedWaiting.map (fun p => (p.1, p.2 / 4))).eraseDups.length + (n + 3) / 4 ≤ postedData)

/-- The table and the PBA take DWord and QWord accesses alone (R409). -/
def msixSizeBad (bar : Bar) (off n be last : Nat) (write : Bool) : Bool :=
  decide (bar = .bar2) && decide (off < 0x2000) &&
    (decide (2 < n) || (decide (n = 2) && decide (off % 8 ≠ 0)) || (write && decide (be ≠ 15 ∨ (n = 2 ∧ last ≠ 15))))

/-- HOST_MEMORY_REQUEST (R43, R413). -/
def hostMemoryRequest (f : Nat) (bar : Bar) (off : Nat) (op : HostOp) (be last : Nat) (ws : List Word) (len : Nat)
    (poisoned ecrcBad : Bool) (s : State) : State :=
  let write := decide (op = .write)
  let n := if write then ws.length else len
  if !s.linkIsUp then s
  else if (if write then !s.postedRoom n else decide (hostCredits ≤ s.hostWaiting)) then s.forgetAnswer
  else if ecrcBad && s.pciBit f pciAerCtl 8 then (s.aer f 19).forgetAnswer
  else if op = .io ∨ op = .atomic then s.unsupported f false off
  else if s.inFlr f || !s.msEnabled f || s.inD3 f || (s.pf0Alone && decide (f ≠ 0)) then s.unsupported f write off
  else if poisoned then (s.aerAdvisory f 12).unsupported f write off
  else if barSize f bar < off + 4 * n then s.unsupported f write off
  else if msixSizeBad bar off n be last write then
    access (fun s => s.hostAnswer f write off [] codeBadSize (if write then .success else .abort)) s
  else if write then hostWriteRequest f bar last off be ws s
  else hostReadRequest f bar off n s

/-! The debug port (R509). -/

/-- DBG_ACCESS: a system-bus access with identity 5; in a state that closes JTAG debug it is rejected with LIFECYCLE. -/
def dbgAccessOp (write : Bool) (a : Nat) (v : Word) (s : State) : State :=
  access (busAccess { master := 5, addr := a, write := write, value := v }) (jtagInstrOp .debug s)

/-! Initiator requests (R276). -/

/-- A request of a port on the bus. -/
def State.issueInit (s : State) (n a : Nat) (we : Bool) (v : Word) : State :=
  let p := s.fbp n
  access (busAccess { master := 16 + n, addr := a, write := we, value := v, init := true })
    (s.setFbp n { p with reqs := p.reqs ++ [⟨a, we, none, false, false⟩] })

/-- A captured request word (Table 10-10) is acknowledged and issued. -/
def State.takeInit (s : State) (n : Nat) (x : Dword) : State :=
  (s.setFbp n { (s.fbp n) with iReq := { ack := true } }).issueInit n (4 * fieldOf x 29 0) (bitOf x 30) (BitVec.ofNat 32 (fieldOf x 62 31))

/-- FBP_INITIATOR_REQUEST: a word of the initiator request channel is issued, or held at the bound and in RESYNC (R269, R276). -/
def initiatorRequest (n : Nat) (x : Dword) (s : State) : State :=
  let v := s.fbp n
  if !s.initOpen n || v.iReq.ack || v.iReq.parked.isSome then s
  else if s.initRoom n then s.takeInit n x
  else s.setFbp n { v with iReq := { v.iReq with parked := some x } }

def initiatorRequestOp (n : Nat) (s : State) : State :=
  if s.bridgeLevel (portBridge n) 132 then (initiatorRequest n (s.channelWord (portBridge n) 132) s).settle else s

/-- A request that is held is issued once the port can take it. -/
def State.unparkInit (s : State) (n : Nat) : State :=
  match (s.fbp n).iReq.parked with
  | some x => if s.initRoom n then s.takeInit n x else s
  | none => s

/-- What a port holds for its fabric side goes on: a target response, and an initiator request. -/
def State.unparkPort (s : State) (n : Nat) : State := (s.unparkAnswer n).unparkInit n

/-- The fabric of some bolt runs again: what its bus ports held goes on. -/
def State.unparkPorts (s : State) : State := (s.fbps.map (fun e => e.1)).foldl (fun s n => s.unparkPort n) s

/-- FBP_INITIATOR_RESPONSE, and what waited for the place. -/
def initiatorResponseOp (n : Nat) (s : State) : State := ((initiatorResponse n s).unparkInit n).settle

end Sys2Proof.Machine
end

