-- ==== Sys2Proof/Machine/Firmware.lean ====
section
/-!
DEFINITION. What warp and weft firmware do for each opcode (R493, R503 to R507, R510 to R514, Tables 18-5 to 18-7).
-/

namespace Sys2Proof.Machine

/-! Serving. -/

/-- Bus writes of firmware in order; the first rejection ends them with its code. They are performed at once (log entry 66). -/
def State.fwWrites (s : State) (m : Nat) : List (Nat × Word) → State × Nat
  | [] => (s, 0)
  | (a, v) :: rest =>
    let s1 := access (Issued.perform { master := m, addr := a, write := true, value := v }) s
    if s1.resp.code = 0 then s1.fwWrites m rest else (s1, s1.resp.code)

def State.fwWrite (s : State) (m a : Nat) (v : Word) : State × Nat := s.fwWrites m [(a, v)]

/-- Parts staged by one opcode are discarded when another is served on channel 2 (Table 18-7). -/
def State.dropOther (s : State) (op : Nat) : State :=
  match s.trust.staged with
  | some g => if (op = 0x100 ∧ g.slot ≠ 16) ∨ (op = 0x102 ∧ g.slot = 16) then s else s.dropStaged
  | none => s

/-- The length of a request, and its channel, fit Table 18-5 (R511, R512). -/
def State.requestBad (s : State) (op : Nat) (msg : SvcMsg) : Option Nat :=
  let header := ((s.request msg.channel).map (fun m => m.words.headD 0)).getD 0
  match opcodes.find? (fun e => decide (e.1 = op)) with
  | none => none
  | some (_, len, channels) =>
    if fieldOf header 2 0 ≠ msg.params.length ∨ msg.params.length ≠ len then some codeBadLength
    else if !channels.contains msg.channel.val then some codeNotPermitted
    else none

/-- A parameter W1, W2, … -/
def paramOf (msg : SvcMsg) (k : Nat) : Word := msg.params.getD (k - 1) 0

/-- Weft firmware forwards a request, once channel 0 has room for it (R512). -/
def State.forwardRequest (s : State) (op : Nat) : State :=
  match s.request 1 with
  | none => s
  | some m =>
    if decide ((s.sh 0 1).accum = []) && decide (m.words.length ≤ (s.sh 0 1).space) then
      (s.forward m.words).setServing 1 (some { opcode := op, since := s.now })
    else s

/-- A server takes a request, checks it, and does its work (R511, R512, Table 18-7). -/
def serve (op : Nat) (msg : SvcMsg) (body : State → State) (s : State) : State :=
  let ch := msg.channel.val
  if s.mayServe ch && s.isRequest op msg then
    let s1 := if ch = 2 then s.dropOther op else s
    if s.shuttingDown then s1.finish ch op codeShuttingDown
    else match s1.requestBad op msg with
      | some c => s1.finish ch op c
      | none => if ch = 1 ∧ forwarded op = true then s1.forwardRequest op else body s1
  else s

/-- A request waits for its end, or has come to it. -/
def State.await (s : State) (ch op : Nat) (hold : Bool) : State :=
  (s.setServing ch (some { opcode := op, hold := hold, since := s.now })).follow

/-! Reports. -/

/-- A reply, and the acknowledge of its request; with too little room the reply is repeated later (R511). -/
def State.replied (s : State) (msg : SvcMsg) (op : Nat) (ws : List Word) : State :=
  let ch := msg.channel.val
  if s.replyFits ch ws then (s.reply ch op msg.tag.toNat ws).finish ch op 0 else s

def getInfoOp (msg : SvcMsg) (s : State) : State :=
  serve 0x01 msg (fun s => s.replied msg 0x01
    ([0x040, 0x044, 0x048, 0x04C, 0x050, 0x05C, 0x060].map (fun off => s.view msg.channel.val ⟨.device, 0⟩ off))) s

/-- Two 16-bit values per word, the lower half first. -/
def packPairs : List Nat → List Word
  | a :: b :: rest => BitVec.ofNat 32 (a + place b 16) :: packPairs rest
  | [a] => [BitVec.ofNat 32 a]
  | [] => []

/-- GET_TELEMETRY; `power` is what weft firmware measures for group 2. -/
def getTelemetryOp (msg : SvcMsg) (power : List Word) (s : State) : State :=
  serve 0x02 msg (fun s =>
    match fieldOf (paramOf msg 1) 7 0 with
    | 0 => s.replied msg 0x02 (packPairs ((List.range 10).map (fun k => s.fld (rRailMv k) 15 0)))
    | 1 => s.replied msg 0x02 (packPairs ((List.range 4).map (fun p => s.fld (regAddr .panel p 0x044) 9 0)))
    | 2 => s.replied msg 0x02 power
    | _ => s.finish 1 0x02 codeBadEncoding) s

/-! Loads. -/

/-- Weft firmware's CONFIG writes for a load: HOLD_RELEASE, the source, the command. -/
def State.startLoad (s : State) (op : Nat) (hold : Bool) (writes : List (Nat × Word)) (cmd : Word) : State :=
  let ctrl := withBit (s.reg rCfgCtrl) 0 hold
  let (s1, c) := s.fwWrites 1 ((rCfgCtrl, ctrl) :: writes ++ [(rCfgCmd, cmd)])
  if c = 0 then s1.await 1 op hold else s1.finish 1 op c

def hostSource (msg : SvcMsg) : List (Nat × Word) :=
  [(0x6054, paramOf msg 1), (0x6058, paramOf msg 2), (rCfgSrcLen, paramOf msg 3)]

def loadImageHostOp (msg : SvcMsg) (s : State) : State :=
  serve 0x10 msg (fun s =>
    if 1 < (paramOf msg 4).toNat then s.finish 1 0x10 codeBadEncoding
    else s.startLoad 0x10 (bitOf (paramOf msg 4) 0) (hostSource msg) 0x11) s

def loadImageFlashOp (msg : SvcMsg) (s : State) : State :=
  serve 0x11 msg (fun s =>
    if 1 < (paramOf msg 2).toNat then s.finish 1 0x11 codeBadEncoding
    else s.startLoad 0x11 (bitOf (paramOf msg 2) 0) [(0x6060, paramOf msg 1)] 0x21) s

def reweaveOp (msg : SvcMsg) (s : State) : State :=
  serve 0x12 msg (fun s =>
    if paramOf msg 4 ≠ 0 then s.finish 1 0x12 codeBadEncoding
    else s.startLoad 0x12 false (hostSource msg) 0x12) s

/-! Supplies, power and tests. -/

/-- SET_VFAB; `confirmed` says that the regulator confirmed over PMBus and the rail came to its target. -/
def setVfabOp (msg : SvcMsg) (confirmed : Bool) (s : State) : State :=
  serve 0x20 msg (fun s =>
    let w := paramOf msg 1
    if fieldOf w 31 18 ≠ 0 ∨ fieldOf w 15 0 < 550 ∨ 900 < fieldOf w 15 0 then s.finish 1 0x20 codeBadEncoding
    else if s.pwr.removed then s.finish 1 0x20 codeUnpowered
    else s.finish 1 0x20 (if confirmed then 0 else codeSupplyFault)) s

/-- SET_POWER_STATE: weft firmware writes PWR_CMD. -/
def setPowerStateOp (msg : SvcMsg) (s : State) : State :=
  serve 0x21 msg (fun s =>
    let sleep := bitOf (paramOf msg 1) 0
    let (s1, c) := s.fwWrite 1 (regAddr .power 0 0x044) (if sleep then 1 else 2)
    if c = 0 then s1.await 1 0x21 sleep else s1.finish 1 0x21 c) s

def serviceShutdownOp (msg : SvcMsg) (s : State) : State :=
  serve 0x22 msg (fun s => ((shutdownOp s).finish msg.channel.val 0x22 0).follow) s

/-- RUN_TEST: warp firmware writes TEST_CMD (R536, R537). -/
def runTestOp (msg : SvcMsg) (s : State) : State :=
  serve 0x30 msg (fun s =>
    let ch := msg.channel.val
    let w := paramOf msg 1
    let mask := fieldOf w 8 0
    if fieldOf w 30 9 ≠ 0 ∨ (mask = 0 ∧ bitOf w 31 = false) then s.finish ch 0x30 codeBadEncoding
    else
      let (s1, c) := s.fwWrite 0 rTestCmd (BitVec.ofNat 32 (flag (decide (mask ≠ 0)) 31 + flag (bitOf w 31) 30 + mask))
      if c ≠ 0 then s1.finish ch 0x30 c
      else if mask = 0 then s1.finish ch 0x30 0
      else s1.await ch 0x30 false) s

/-! Bindings. -/

/-- BIND_CHANNEL: warp firmware writes SH_BIND (R444). -/
def bindChannelOp (msg : SvcMsg) (s : State) : State :=
  serve 0x40 msg (fun s =>
    let ch := msg.channel.val
    let w := paramOf msg 1
    let c := fieldOf w 23 16
    if fieldOf w 30 24 ≠ 0 ∨ fieldOf w 15 14 ≠ 0 ∨ fieldOf w 7 6 ≠ 0 then s.finish ch 0x40 codeBadEncoding
    else if c < 8 then s.finish ch 0x40 codeNotPermitted
    else if s.bit (regAddr .shuttle 0 0x040) 0 then s.finish ch 0x40 codeLocked
    else
      let bind := BitVec.ofNat 32 (flag (bitOf w 31) 31 + place (fieldOf w 13 8) 16 + fieldOf w 5 0)
      let (s1, code) := s.fwWrite 0 (rShBind c) bind
      s1.finish ch 0x40 code) s

def lockBindingsSvc (msg : SvcMsg) (s : State) : State :=
  serve 0x41 msg (fun s =>
    let (s1, c) := s.fwWrite 0 (regAddr .shuttle 0 0x040) 1
    s1.finish msg.channel.val 0x41 c) s

/-! Keys, tokens and life cycle. -/

/-- The part a staging expects next. -/
def Staged.next (g : Staged) : Nat := g.words.length / 4

/-- What becomes of a part: a code that refuses it, or the parts with it (Table 18-6). -/
def stagePart (was : Option Staged) (slot part count : Nat) (ws : List Word) : Except Nat Staged :=
  match was with
  | none => if part = 0 then .ok ⟨slot, count, ws⟩ else .error codeSequence
  | some g => if g.slot = slot ∧ g.count = count ∧ g.next = part then .ok { g with words := g.words ++ ws } else .error codeSequence

def State.setStaged (s : State) (g : Staged) : State := { s with trust := { s.trust with staged := some g } }
def State.startBurn (s : State) (b : Burn) (op : Nat) : State :=
  ({ s with trust := { s.trust with burn := some b } } : State).setServing 2 (some { opcode := op, since := s.now })

/-- ENROL_KEY (R507). -/
def enrolKeyOp (msg : SvcMsg) (s : State) : State :=
  serve 0x100 msg (fun s =>
    let w := paramOf msg 1
    let slot := fieldOf w 31 28
    let parts := if slot = 0 then 6 else 2
    if 2 ≤ slot ∨ (s.trust.staged.isNone ∧ (fieldOf w 23 20 ≠ parts ∨ parts ≤ fieldOf w 27 24)) then s.finish 2 0x100 codeBadEncoding
    else if s.lcState ≠ 2 ∧ s.lcState ≠ 3 then s.finish 2 0x100 codeLifecycle
    else if s.fld rKeyStat (2 * slot + 1) (2 * slot) ≠ 0 then s.finish 2 0x100 codeKeyPresent
    else match stagePart s.trust.staged slot (fieldOf w 27 24) (fieldOf w 23 20) (msg.params.drop 1) with
      | .error c => s.dropStaged.finish 2 0x100 c
      | .ok g =>
        if g.next < g.count then (s.setStaged g).finish 2 0x100 0
        else s.dropStaged.startBurn (.key slot g.words) 0x100) s

/-- STAGE_TOKEN (R505). -/
def stageTokenOp (msg : SvcMsg) (s : State) : State :=
  serve 0x102 msg (fun s =>
    let w := paramOf msg 1
    if 7 ≤ fieldOf w 27 24 ∨ (s.trust.staged.isNone ∧ fieldOf w 23 20 ≠ 7) then s.finish 2 0x102 codeBadEncoding
    else match stagePart s.trust.staged 16 (fieldOf w 27 24) (fieldOf w 23 20) (msg.params.drop 1) with
      | .error c => s.dropStaged.finish 2 0x102 c
      | .ok g =>
        if g.next < g.count then (s.setStaged g).finish 2 0x102 0
        else
          let s1 := s.dropStaged
          ({ s1 with trust := { s1.trust with token := some g.words } } : State).finish 2 0x102 0) s

/-- LC_ADVANCE (R503, R504); `tokenOk` is the outcome of the signature check of the staged token. -/
def lcAdvanceOp (msg : SvcMsg) (tokenOk : Bool) (s : State) : State :=
  serve 0x101 msg (fun s =>
    let target := fieldOf (paramOf msg 1) 3 0
    if 7 ≤ target then s.finish 2 0x101 codeBadEncoding
    else if paramOf msg 2 ≠ s.reg rSerialLo then s.finish 2 0x101 codeConfirm
    else if !lcKnown s.lcState target then s.finish 2 0x101 codeLifecycle
    else if !s.lcCondition target then s.finish 2 0x101 codeCondition
    else if (match lcToken s.lcState target with
             | some kind => !s.tokenGood kind target tokenOk
             | none => false) then s.finish 2 0x101 codeToken
    else s.startBurn (.life target) 0x101) s

/-! Pages and weft firmware. -/

/-- The pages between two page bases of one block type. -/
def pageRange (a b : Nat) : Option (List Page) :=
  match pageOf a, pageOf b with
  | some p, some q =>
    if p.base = a ∧ q.base = b ∧ p.kind = q.kind ∧ p.inst ≤ q.inst then
      some ((List.range (q.inst + 1 - p.inst)).map (fun k => ⟨p.kind, p.inst + k⟩))
    else none
  | _, _ => none

def setOwnerOp (msg : SvcMsg) (s : State) : State :=
  serve 0x103 msg (fun s =>
    let id := BitVec.ofNat 32 (fieldOf (paramOf msg 3) 5 0)
    match pageRange (paramOf msg 1).toNat (paramOf msg 2).toNat with
    | none => s.finish 2 0x103 codeBadEncoding
    | some ps =>
      if (s.valueBad (ps.headD ⟨.device, 0⟩) 0x02C id).isSome then s.finish 2 0x103 codeBadEncoding
      else if ps.any (fun p => ownerFixed p.kind) then s.finish 2 0x103 codeNotPermitted
      else if ps.any (fun p => s.bit (p.base + 0x030) 0) then s.finish 2 0x103 codeLocked
      else
        let (s1, c) := s.fwWrites 0 (ps.map (fun p => (p.base + 0x02C, id)))
        s1.finish 2 0x103 c) s

/-- LOAD_WEFT (R494): the container is fetched from host memory; the request ends with its verification. -/
def loadWeftOp (msg : SvcMsg) (s : State) : State :=
  serve 0x104 msg (fun s =>
    let len := (paramOf msg 3).toNat
    if len = 0 ∨ 0x0020_0000 < len then s.finish 2 0x104 codeBadEncoding
    else ((s.setWeft weftLoading).setFld rWeftSrc 1 0 2).setServing 2 (some { opcode := 0x104, since := s.now })) s

def setPolicyOp (msg : SvcMsg) (s : State) : State :=
  serve 0x105 msg (fun s =>
    if fieldOf (paramOf msg 1) 15 0 ≠ 0 then s.finish 2 0x105 codeBadEncoding
    else
      let (s1, c) := s.fwWrite 0 rPolicy (paramOf msg 1)
      s1.finish 2 0x105 c) s

def resetWeftSvc (msg : SvcMsg) (s : State) : State :=
  serve 0x106 msg (fun s => (weftResetOp s).finish 2 0x106 0) s

/-- An opcode in no row of Table 18-5; on channel 0 every opcode but the four is NOT_PERMITTED (R512). -/
def unknownOpcodeOp (msg : SvcMsg) (op : Nat) (s : State) : State :=
  if opcodes.any (fun e => decide (e.1 = op)) then s
  else serve op msg (fun s => s.finish msg.channel.val op (if msg.channel.val = 0 then codeNotPermitted else codeUnknown)) s

/-- WEFT_CONTAINER_VERIFIED, and the answer of a LOAD_WEFT that waited for it. -/
def weftVerifiedOp (ok : Bool) (patch : Nat) (version : Word) (s : State) : State :=
  (containerVerified ok patch version s).follow

end Sys2Proof.Machine
end

