-- ==== Sys2Proof/Machine/Boot.lean ====
section
/-!
DEFINITION. The end of a start-up: what warp firmware sets, DEVICE_UP, and what the boot source then starts (R292, R443, R497, R528); and
what follows in the engine and the services when bolts have moved on.
-/

namespace Sys2Proof.Machine

/-- Pages whose OWNER warp firmware writes at boot (R497). -/
def bootPages : List Page :=
  (PageKind.all.filter (fun k => !ownerFixed k)).flatMap (fun k => (List.range k.info.2.1).map (fun n => ⟨k, n⟩))

/-- The OWNER registers that warp firmware writes, and the change counts of their pages; the registers are gone through once. -/
def State.ownerRegs (s : State) (ps : List Page) : State :=
  let fresh : SMap Word := ps.flatMap (fun p => [(p.base + 0x028, (1 : Word)), (p.base + 0x02C, BitVec.ofNat 32 (bootOwner p.kind))])
  let written (a : Nat) : Bool :=
    match pageOf a with
    | some p => ps.contains p
    | none => false
  { s with regs := s.regs.foldl (fun m r =>
      if r.1 % 0x1000 = 0x02C ∧ written r.1 = true then m
      else if r.1 % 0x1000 = 0x028 ∧ written r.1 = true then SMap.set (resetOf r.1) m r.1 (r.2 + 1)
      else SMap.set (resetOf r.1) m r.1 r.2) fresh }

/-- Warp firmware writes every OWNER; what a STRICT log has no room for is refused with LOG_FULL (R486, R497). -/
def State.bootOwners (s : State) : State :=
  let room := if s.logStrict then logSize - logReserve - s.log.entries.length else bootPages.length
  let done := bootPages.take room
  let s1 := done.foldl (fun s p => s.logPut false 0 0x0 (p.base + 0x02C) (BitVec.ofNat 32 (bootOwner p.kind))) s
  (bootPages.drop room).foldl (fun s p => s.noteLogFull.refuse 0 p true 0x02C codeLogFull) (s1.ownerRegs done)

/-- The channels of Table 16-1. -/
def State.bootBindings (s : State) : State :=
  (s.fwWrites 0 [(rShBind 0, 0x8001_0000), (rShBind 1, 0x8001_0008), (rShBind 2, 0x8000_0008)]).1

/-- START_INFO (Table 19-13). -/
def State.startInfo (s : State) : Word :=
  let ms := min 65535 ((s.now - s.boot.start) / 1000000)
  BitVec.ofNat 32 (place ms 16 + flag s.safeState 8 + place s.boot.reason 4 + (if s.boot.quick then 1 else 2))

/-- MODE selects a QSPI source (Table 11-1). -/
def State.qspiBoot (s : State) : Bool := decide (1 ≤ s.fld 0x058 2 0 ∧ s.fld 0x058 2 0 ≤ 3)

/-- The strap-selected load of step 7, as the engine's own (Tables 12-14 and 17-7). -/
def State.strapLoad (s : State) : State :=
  if s.loadRefused 2 srcQspi then s.rejectLoad rejLoadRefused 1 0
  else
    let s1 := startFull 2 srcQspi s
    s1.logEntry 63 0x2 rCfgCmd (s1.view 63 ⟨.config, 0⟩ 0x048)

/-- DEVICE_UP (steps 6 and 7 of Table 19-6). The weft container is read from the flash when MODE selects it and a valid HEADER lies at
flash address 0 (`flashImage`, R494). -/
def deviceUpOp (flashImage : Bool) (t : Nat) (s : State) : State :=
  if s.boot.stage ≠ .clearing then s
  else
    let s1 := ((s.at t).bootOwners).bootBindings
    let s2 := (s1.withBoot { s1.boot with stage := .up }).setReg rStartInfo s1.startInfo
    let s3 := s2.raise ⟨.reset, 0⟩ 0 (BitVec.ofNat 32 (s2.fld rStartInfo 15 0))
    if s3.qspiBoot then
      (if flashImage then ((s3.setWeft weftLoading).setFld rWeftSrc 1 0 1).strapLoad else s3.strapLoad)
    else s3

/-! What follows when bolts have moved on. -/

/-- The engine, window operations that wait, and service requests that wait see where the bolts stand. -/
def State.afterBolts (s : State) : State :=
  let s1 := s.engineFollow
  (State.completeWindows s1.issued.length s1).follow

/-- BEAT_UP_END: the engine releases or fences what waited for it (R139, R307). -/
def beatUpOver (b t : Nat) (s : State) : State :=
  let s1 := beatUpEndOp b t s
  if (s.bolt b).stage = .beatUp ∧ (s1.bolt b).stage ≠ .beatUp then (s1.engineAtBeatUpEnd b).follow else s1

/-- GRID_POINT: regions of DIRECT bolts are released at it (R308). -/
def gridPassed (t : Nat) (s : State) : State :=
  let s1 := gridPointOp t s
  if s1.pick.last = some t ∧ s.pick.last ≠ some t then s1.engineAtGrid.follow else s1

end Sys2Proof.Machine
end

