-- ==== Sys2Proof/Machine/Operands.lean ====
section
/-!
DEFINITION. The operand forms of the commands: what a command that is a register write puts on the bus, and which operands a happening
on this device can have.
-/

namespace Sys2Proof.Machine

/-! Command words. -/

/-- CFG_CMD with its source (Table 11-9). -/
def cfgCommand (src cmd : Nat) : Word := BitVec.ofNat 32 (place src 4 + cmd)

/-- BOLT_CMD for bolt b (Table 6-8). -/
def boltCommand (cmd b : Nat) : Word := BitVec.ofNat 32 (place b 16 + cmd)

/-- WIN_CTRL: operation, checkpoint view, word (R197). -/
def winCommand (op : Nat) (view : Bool) (word : Nat) : Word := BitVec.ofNat 32 (place op 30 + flag view 10 + word)

/-- HP_CMD: operation, HOLD_CS, length (R377). -/
def hpCommandWord (op : Nat) (hold : Bool) (len : Nat) : Word := BitVec.ofNat 32 (place op 16 + flag hold 8 + len)

/-- SIDE_CMD: command, and the code of FLUSH_RX (R456). -/
def sideCommand (cmd code : Nat) : Word := BitVec.ofNat 32 (place code 16 + cmd)

/-! Operands that a happening can have. -/

/-- A host memory request: whole DWords within one 4 KiB page, data with a write and a length with a read (R43). -/
def hostRequestOk (off : Nat) (write : Bool) (ws : List Word) (len : Nat) : Bool :=
  let n := if write then ws.length else len
  decide (off % 4 = 0 ∧ 1 ≤ n ∧ off % 4096 + 4 * n ≤ 4096) && (if write then decide (len = 0) else decide (ws = []))

/-- A configuration request names a DWord. -/
def configOffOk (off : Nat) : Bool := decide (off % 4 = 0)

/-- A speed of PCIE_LINK.SPEED above 0 (Table 15-12). -/
def linkSpeedOk (speed : Nat) : Bool := decide (1 ≤ speed ∧ speed ≤ 5)

/-- A width of R403. -/
def linkWidthOk (width : Nat) : Bool := decide (width = 1 ∨ width = 2 ∨ width = 4 ∨ width = 8 ∨ width = 16)

/-- A codeword that was corrected had at least one symbol in error, and at most as many as the code corrects (R393). -/
def fecResultOk (r : FecResult) : Bool :=
  match r with
  | .corrected n => decide (1 ≤ n ∧ n ≤ 15)
  | _ => true

/-- One tap weight for each of the 24 DFE taps (R384). -/
def dfeOk (dfe : List Byte) : Bool := decide (dfe.length = 24)

/-- One level for each user pin (R508). -/
def preloadOk (levels : List Bool) : Bool := decide (levels.length = 960)

/-- One voltage for each rail of Table 19-1. -/
def railsOk (mvs : List (BitVec 16)) : Bool := decide (mvs.length = 10)

/-- The five words of power telemetry (Table 18-5). -/
def powerWordsOk (power : List Word) : Bool := decide (power.length = 5)

end Sys2Proof.Machine
end

