-- ==== Sys2Proof/Machine/BoltCommands.lean ====
section
/-!
DEFINITION. The commands of bolts, their rollback and their halt (chapter 06).
-/

namespace Sys2Proof.Machine

/-- ROLLBACK (R157). -/
def execRollback (b : Fin 16) (upset : Option ShadowUpset) (t : Nat) (s : State) : Result := .next (rollbackOp b t (upsetShadow upset s))

/-- ROLLBACK_END (R157). -/
def execRollbackEnd (b : Fin 16) (t : Nat) (s : State) : Result := .next ((rollbackEndOp b t s).afterBolts).unparkPorts

/-- BOLT_ROLLBACK (R156). -/
def execBoltRollback (m : Master) (b : Fin 16) (s : State) : Result :=
  .next (access (busWrite m.id (regAddr .commit 0 0x04C) 15 (boltCommand 1 b)) s)

/-- BOLT_HALT (R160). -/
def execBoltHalt (m : Master) (b : Fin 16) (s : State) : Result :=
  .next ((access (busWrite m.id (regAddr .commit 0 0x04C) 15 (boltCommand 2 b)) s).afterBolts)

/-- BOLT_RESUME (R163). -/
def execBoltResume (m : Master) (b : Fin 16) (upset : Option ShadowUpset) (s : State) : Result :=
  .next (access (busWrite m.id (regAddr .commit 0 0x04C) 15 (boltCommand 3 b)) (upsetShadow upset s))

/-- BOLT_CLEAR_COUNTS (R174). -/
def execBoltClearCounts (m : Master) (b : Fin 16) (s : State) : Result :=
  .next (access (busWrite m.id (regAddr .commit 0 0x04C) 15 (boltCommand 4 b)) s)

/-- HOLD_END (R173). -/
def execHoldEnd (b : Fin 16) (t : Nat) (s : State) : Result := .next (holdEndOp b t s).unparkPorts

end Sys2Proof.Machine
end

