-- ==== Sys2Proof/Machine/BusCommands.lean ====
section
/-!
DEFINITION. The commands of the system bus and the host port (chapters 02 and 15).
-/

namespace Sys2Proof.Machine

/-- REGISTER_WRITE (R46). -/
def execRegisterWrite (m : Master) (addr : BitVec 32) (be : BitVec 4) (v : Word) (s : State) : Result :=
  .next (access (busWrite m.id (addr.toNat) be.toNat (v)) s)

/-- ERR_CODE_CLEAR (R47). -/
def execErrCodeClear (m : Master) (page : BitVec 20) (v : Word) (s : State) : Result :=
  .next (access (busWrite m.id (page.toNat * 0x1000 + 0x020) 15 (v)) s)

/-- PAGE_LOCK_SET (R40). -/
def execPageLockSet (m : Master) (page : BitVec 20) (v : Word) (s : State) : Result :=
  .next (access (busWrite m.id (page.toNat * 0x1000 + 0x030) 15 (v)) s)

/-- PAIR_LO_READ (R562). -/
def execPairLoRead (m : Master) (addr : BitVec 32) (s : State) : Result := .next (access (busRead m.id (addr.toNat)) s)

/-- BUS_SLOT_GRANTED (R24). -/
def execBusSlotGranted (m : Master) (s : State) : Result := .next (slotGranted m.id s)

/-- BUS_TIMEOUT (R51). -/
def execBusTimeout (n : Nat) (t : Nat) (s : State) : Result := .next (busTimeoutOp n t s)

/-- LATE_COMPLETION (R51). -/
def execLateCompletion (n : Nat) (t : Nat) (s : State) : Result := .next (lateComplete n (s.at t))

/-- HOST_MEMORY_REQUEST (R43). -/
def execHostMemoryRequest (f : Fin 4) (bar : Bar) (off : BitVec 32) (op : HostOp) (be last : BitVec 4) (ws : List Word)
    (len : Fin 1025) (poisoned : Bool) (ecrcBad : Bool) (s : State) : Result :=
  if hostRequestOk off.toNat (decide (op = .write)) ws len then
    .next (hostMemoryRequest f bar off.toNat op be.toNat last.toNat ws len poisoned ecrcBad s)
  else .refused .illFormed

/-- CONFIG_REQUEST (R413). -/
def execConfigRequest (f : Fin 4) (off : BitVec 12) (write : Bool) (v : Word) (s : State) : Result :=
  if configOffOk off.toNat then .next ((configRequestOp f off.toNat write v s).follow) else .refused .illFormed

/-- FABRIC_WINDOW_ACCESS (R38). -/
def execFabricWindowAccess (m : Master) (off : BitVec 26) (write : Bool) (v : Word) (s : State) : Result :=
  .next (access (busAccess { master := m.id, addr := 0x0400_0000 + off.toNat / 4 * 4, write := write, value := v }) s)

/-- SYS_REFCLK_LOSS (R20). -/
def execSysRefclkLoss (t : Nat) (s : State) : Result := .next (refclkLossOp t s)

/-- SYS_REFCLK_RETURN (R20). -/
def execSysRefclkReturn (t : Nat) (s : State) : Result := .next (refclkReturnOp t s)

end Sys2Proof.Machine
end

