-- ==== Sys2Proof/Machine/CellCommands.lean ====
section
/-!
DEFINITION. The happenings in heddle cells and routing (chapters 03 and 04).
-/

namespace Sys2Proof.Machine

/-- BD_JOIN_COMPLETE (R63). -/
def execBdJoinComplete (c : CellRef) (s : State) : Result := .next (bdJoin (cellReed c) (cellNo c) s)

/-- BD_DELAY_EXPIRED (R63). -/
def execBdDelayExpired (c : CellRef) (s : State) : Result := .next (bdDelay (cellReed c) (cellNo c) s)

/-- BD_CAPTURE (R63). -/
def execBdCapture (c : CellRef) (viol : Bool) (s : State) : Result := .next (bdCapture (cellReed c) (cellNo c) viol s)

/-- BD_INPUT_REQUESTS_FALL (R63). -/
def execBdInputRequestsFall (c : CellRef) (s : State) : Result := .next (bdReqsFall (cellReed c) (cellNo c) s)

/-- BD_ACK_IN_RISE (R63). -/
def execBdAckInRise (c : CellRef) (s : State) : Result := .next (bdAckRise (cellReed c) (cellNo c) s)

/-- BD_ACK_IN_FALL (R63). -/
def execBdAckInFall (c : CellRef) (s : State) : Result := .next (bdAckFall (cellReed c) (cellNo c) s)

/-- TWO_SLOT_TRANSFER (R64). -/
def execTwoSlotTransfer (c : CellRef) (s : State) : Result := .next (twoSlot (cellReed c) (cellNo c) s)

/-- DR_RAIL_SET (R68). -/
def execDrRailSet (c : CellRef) (viol : Bool) (s : State) : Result := .next (drSet (cellReed c) (cellNo c) viol s)

/-- DR_ACK_OUT_RISE (R68). -/
def execDrAckOutRise (c : CellRef) (s : State) : Result := .next (drAckRise (cellReed c) (cellNo c) s)

/-- DR_RAILS_CLEAR (R68). -/
def execDrRailsClear (c : CellRef) (s : State) : Result := .next (drClear (cellReed c) (cellNo c) s)

/-- DR_ACK_OUT_FALL (R68). -/
def execDrAckOutFall (c : CellRef) (s : State) : Result := .next (drAckFall (cellReed c) (cellNo c) s)

/-- DR_READY (R68). -/
def execDrReady (c : CellRef) (s : State) : Result := .next (drDone (cellReed c) (cellNo c) s)

/-- CLOCKED_CAPTURE (R70). -/
def execClockedCapture (c : CellRef) (viol race : Bool) (s : State) : Result := .next (clockedLoad (cellReed c) (cellNo c) viol race s)

/-- SELECT_CORRUPTED (R99). -/
def execSelectCorrupted (frame : BitVec 24) (word : Fin 64) (mask : Dword) (s : State) : Result :=
  .next (selectCorrupted frame.toNat word mask s)

/-- DOMAIN_LEAK (R148). -/
def execDomainLeak (r : ReedRef) (tap : Option (Fin 96)) (handshake : Bool) (s : State) : Result :=
  .next (domainLeak (reedIx r) (tap.map (fun k => k.val)) handshake s)

end Sys2Proof.Machine
end

