-- ==== Sys2Proof/Machine/ConfigCommands.lean ====
section
/-!
DEFINITION. The commands of configuration, scrubbing and panels (chapters 11 and 12).
-/

namespace Sys2Proof.Machine

/-- START_FULL (R303). -/
def execStartFull (m : Master) (src : BitVec 2) (s : State) : Result :=
  .next (access (busWrite m.id (rCfgCmd) 15 (cfgCommand src.toNat 1)) s)

/-- START_REWEAVE (R307). -/
def execStartReweave (m : Master) (src : BitVec 2) (s : State) : Result :=
  .next (access (busWrite m.id (rCfgCmd) 15 (cfgCommand src.toNat 2)) s)

/-- CFG_ABORT (R300). -/
def execCfgAbort (m : Master) (s : State) : Result := .next (access (busWrite m.id (rCfgCmd) 15 (cfgCommand 0 3)) s)

/-- CFG_RELEASE (R302). -/
def execCfgRelease (m : Master) (s : State) : Result := .next (access (busWrite m.id (rCfgCmd) 15 (cfgCommand 0 4)) s)

/-- CFG_FIFO (R294). -/
def execCfgFifo (m : Master) (v : Word) (s : State) : Result := .next (access (busWrite m.id (rCfgFifo) 15 (v)) s)

/-- IMAGE_HEADER (R322). -/
def execImageHeader (ws : List Word) (s : State) : Result := .next ((imageHeader ws s).follow)

/-- IMAGE_DEVICE_CHECK (R323). -/
def execImageDeviceCheck (ws : List Word) (s : State) : Result := .next ((imageDevice ws s).follow)

/-- IMAGE_SETTINGS (R324). -/
def execImageSettings (ws : List Word) (s : State) : Result := .next ((imageSettings ws s).afterBolts)

/-- IMAGE_FRAME_RUN (R325). -/
def execImageFrameRun (ws : List Word) (s : State) : Result := .next ((imageFrameRun ws s).follow)

/-- IMAGE_PINMAP (R339). -/
def execImagePinmap (ws : List Word) (s : State) : Result := .next ((imagePinmap ws s).follow)

/-- IMAGE_CREEL_INIT_RECORD (R340). -/
def execImageCreelInitRecord (ws : List Word) (s : State) : Result := .next ((imageCreelInit ws s).follow)

/-- IMAGE_DOMAINS (R341). -/
def execImageDomains (ws : List Word) (s : State) : Result := .next ((imageDomains ws s).follow)

/-- IMAGE_AUTH (R344). -/
def execImageAuth (ws : List Word) (s : State) : Result := .next ((imageAuth ws s).follow)

/-- SIGNATURE_VERIFIED (R297). -/
def execSignatureVerified (sigOk tagOk : Bool) (t : Nat) (s : State) : Result := .next ((signatureVerified sigOk tagOk t s).afterBolts)

/-- CLEARING_DONE (R300). -/
def execClearingDone (t : Nat) (s : State) : Result := .next ((clearingDone (s.at t)).follow)

/-- SCRUB_FRAME_READ (R310). -/
def execScrubFrameRead (s : State) : Result := .next (scrubFrame s)

/-- RECOVERY_SOURCE_CHECK (R311). -/
def execRecoverySourceCheck (flashAnswers : Bool) (t : Nat) (s : State) : Result := .next ((recoverySource flashAnswers t s).afterBolts)

/-- RECOVERY_GROUP_READ (R311). -/
def execRecoveryGroupRead (digest : BitVec 128) (t : Nat) (s : State) : Result := .next ((recoveryRead digest t s).afterBolts)

/-- RECOVERY_REWRITE_DONE (R311). -/
def execRecoveryRewriteDone (t : Nat) (s : State) : Result := .next ((recoveryRewritten t s).afterBolts)

/-- RECOVERY_TIME_LIMIT (R311). -/
def execRecoveryTimeLimit (t : Nat) (s : State) : Result := .next ((recoveryTimeout t s).afterBolts)

/-- SCRUB_CLR_COUNTS (R315). -/
def execScrubClrCounts (m : Master) (v : Word) (s : State) : Result := .next (access (busWrite m.id (regAddr .scrub 0 0x060) 15 (v)) s)

/-- PANEL_HOP_MEASURE (R317). -/
def execPanelHopMeasure (p : Fin 4) (hop : BitVec 12) (temp : BitVec 10) (s : State) : Result :=
  .next (panelMeasure p hop.toNat temp.toNat s)

end Sys2Proof.Machine
end

