-- ==== Sys2Proof/Machine/CreelCommands.lean ====
section
/-!
DEFINITION. The commands of creel memory (chapter 07).
-/

namespace Sys2Proof.Machine

/-- CREEL_PORT_REQUEST (R182). -/
def execCreelPortRequest (n : Fin 8192) (p : PortSide) (s : State) : Result := .next (creelRequestOp n p s)

/-- CREEL_RQ_REQ_FALL (R182). -/
def execCreelRqReqFall (n : Fin 8192) (p : PortSide) (s : State) : Result := .next (creelReqFallOp n p s)

/-- CREEL_ARRAY_ACCESS (R183). -/
def execCreelArrayAccess (n : Fin 8192) (state : BitVec 3) (upset : BitVec 72) (s : State) : Result :=
  .next (arrayAccess n state upset s).settle

/-- CREEL_RESPONSE_ACK (R181). -/
def execCreelResponseAck (n : Fin 8192) (p : PortSide) (s : State) : Result := .next (creelAckOp n p s)

/-- CORRECTED_WRITEBACK (R194). -/
def execCorrectedWriteback (n : Fin 8192) (s : State) : Result := .next (correctedWriteback n s)

/-- CREEL_SCRUB_READ (R196). -/
def execCreelScrubRead (n : Fin 8192) (s : State) : Result := .next (scrubRead n s)

/-- CREEL_CLR_COUNTS (R202). -/
def execCreelClrCounts (m : Master) (n : Fin 8192) (v : Word) (s : State) : Result :=
  .next (access (busWrite m.id (creelBase n + 0x048) 15 (v)) s)

/-- WIN_READ (R197). -/
def execWinRead (m : Master) (n : Fin 8192) (view : Bool) (word : BitVec 10) (s : State) : Result :=
  .next (access (busWrite m.id (creelBase n + 0x060) 15 (winCommand 1 view word.toNat)) s)

/-- WIN_WRITE (R197). -/
def execWinWrite (m : Master) (n : Fin 8192) (word : BitVec 10) (s : State) : Result :=
  .next (access (busWrite m.id (creelBase n + 0x060) 15 (winCommand 2 false word.toNat)) s)

/-- WIN_INJECT (R197). -/
def execWinInject (m : Master) (n : Fin 8192) (word : BitVec 10) (s : State) : Result :=
  .next (access (busWrite m.id (creelBase n + 0x060) 15 (winCommand 3 false word.toNat)) s)

end Sys2Proof.Machine
end

