-- ==== Sys2Proof/Machine/EventCommands.lean ====
section
/-!
DEFINITION. The commands of the event fabric and the change log (chapter 17).
-/

namespace Sys2Proof.Machine

/-- RECORD_ENTERS_RING (R476). -/
def execRecordEntersRing (s : State) : Result := .next (recordEnters s)

/-- REC_POP (R479). -/
def execRecPop (m : Master) (s : State) : Result := .next (access (busRead m.id (regAddr .event 0 0x100)) s)

/-- CLR_RING (R479). -/
def execClrRing (m : Master) (v : Word) (s : State) : Result := .next (access (busWrite m.id (regAddr .event 0 0x04C) 15 (v)) s)

/-- CLR_LOST (R490). -/
def execClrLost (m : Master) (v : Word) (s : State) : Result := .next (access (busWrite m.id (regAddr .event 0 0x04C) 15 (v)) s)

/-- USR_RAISE (R480). -/
def execUsrRaise (m : Master) (hi : Bool) (v : Word) (s : State) : Result :=
  .next (access (busWrite m.id (regAddr .event 0 (if hi then 0x054 else 0x050)) 15 (v)) s)

/-- LOG_CLEAR (R488). -/
def execLogClear (m : Master) (s : State) : Result := .next (access (busWrite m.id (regAddr .log 0 0x058) 15 (1)) s)

/-- LOG_FREE (R488). -/
def execLogFree (m : Master) (s : State) : Result := .next (access (busWrite m.id (regAddr .log 0 0x058) 15 (2)) s)

end Sys2Proof.Machine
end

