-- ==== Sys2Proof/Machine/PcieCommands.lean ====
section
/-!
DEFINITION. The commands of the PCI Express endpoint and spool DMA (chapter 15).
-/

namespace Sys2Proof.Machine

/-- PERST (R416). -/
def execPerst (s : State) : Result := .next ((s.endpointReset).follow)

/-- LINK_TRAINING_START (R415). -/
def execLinkTrainingStart (t : Nat) (s : State) : Result := .next (trainingStartOp (s.at t))

/-- LINK_UP (R437). -/
def execLinkUp (speed : BitVec 3) (width : BitVec 5) (s : State) : Result :=
  if linkSpeedOk speed.toNat && linkWidthOk width.toNat then .next (linkUpOp speed.toNat width.toNat s) else .refused .illFormed

/-- LINK_DOWN (R416). -/
def execLinkDown (s : State) : Result := .next ((linkDownOp s).follow)

/-- SPEED_CHANGE (R438). -/
def execSpeedChange (speed : BitVec 3) (s : State) : Result :=
  if linkSpeedOk speed.toNat then .next (speedChangeOp speed.toNat s) else .refused .illFormed

/-- FLR (R417). -/
def execFlr (f : Fin 4) (s : State) : Result := .next ((flrOp f s).follow)

/-- FLR_COMPLETE (R417). -/
def execFlrComplete (f : Fin 4) (s : State) : Result := .next (flrCompleteOp f s)

/-- BME_CLEAR (R418). -/
def execBmeClear (f : Fin 4) (s : State) : Result := .next (bmeClearOp f s)

/-- D3_ENTRY (R418). -/
def execD3Entry (f : Fin 4) (s : State) : Result := .next (d3EntryOp f s)

/-- D0_RETURN (R418). -/
def execD0Return (f : Fin 4) (s : State) : Result := .next (d0ReturnOp f s)

/-- MSIX_MESSAGE (R411). -/
def execMsixMessage (s : State) : Result := .next (msixMessageOp s)

/-- PTM_DIALOGUE (R420). -/
def execPtmDialogue (ok : Bool) (offset : Dword) (t : Nat) (s : State) : Result := .next (ptmDialogueOp ok offset.toNat (s.at t))

/-- DEVICE_READ_COMPLETION (R423). -/
def execDeviceReadCompletion (tag : BitVec 10) (st : CplStatus) (ws : List Word) (s : State) : Result :=
  .next (readCompletion tag.toNat st ws s).follow

/-- COMPLETION_TIMEOUT (R423). -/
def execCompletionTimeout (tag : BitVec 10) (s : State) : Result := .next (readTimeout tag.toNat s).follow

/-- PCIE_CLR_COUNTS (R437). -/
def execPcieClrCounts (m : Master) (v : Word) (s : State) : Result := .next (access (busWrite m.id (regAddr .pcie 0 0x054) 15 (v)) s)

/-- DMA_ENABLE (R425). -/
def execDmaEnable (m : Master) (ch : Fin 64) (s : State) : Result := .next (access (busWrite m.id (rChCtrl ch) 15 (1)) s)

/-- DMA_DISABLE (R433). -/
def execDmaDisable (m : Master) (ch : Fin 64) (s : State) : Result := .next (access (busWrite m.id (rChCtrl ch) 15 (0)) s)

/-- DMA_RESET (R434). -/
def execDmaReset (m : Master) (ch : Fin 64) (v : Word) (s : State) : Result := .next (access (busWrite m.id (rChCtrl ch) 15 (v)) s)

/-- DMA_DOORBELL_PI (R427). -/
def execDmaDoorbellPi (m : Master) (ch : Fin 64) (v : Word) (s : State) : Result := .next (access (busWrite m.id (rChPi ch) 15 (v)) s)

/-- DMA_DOORBELL_CPL_CI (R427). -/
def execDmaDoorbellCplCi (m : Master) (ch : Fin 64) (v : Word) (s : State) : Result := .next (access (busWrite m.id (rChCplCi ch) 15 (v)) s)

/-- DESCRIPTOR_FETCH (R427). -/
def execDescriptorFetch (ch : Fin 64) (s : State) : Result := .next (descriptorFetch ch s)

/-- DMA_DATA_READ_DONE (R428). -/
def execDmaDataReadDone (ch : Fin 64) (s : State) : Result := .next (dataReadDone ch s)

/-- DMA_LEVEL_POLL (R430). -/
def execDmaLevelPoll (ch : Fin 64) (t : Nat) (s : State) : Result := .next (levelPoll ch t s)

/-- DMA_IDLE_TIMEOUT (R429). -/
def execDmaIdleTimeout (ch : Fin 64) (t : Nat) (s : State) : Result := .next (idleTimeout ch t s)

/-- DMA_RECORD (R431). -/
def execDmaRecord (ch : Fin 64) (s : State) : Result := .next (dmaRecordOp ch s)

/-- TAIL_DISCARDED (R434). -/
def execTailDiscarded (ch : Fin 64) (s : State) : Result := .next (tailDiscardedOp ch s)

end Sys2Proof.Machine
end

