-- ==== Sys2Proof/Machine/PickCommands.lean ====
section
/-!
DEFINITION. The commands of the pick cycle (chapter 05).
-/

namespace Sys2Proof.Machine

/-- PICK_APPLY (R116). -/
def execPickApply (m : Master) (v : Word) (s : State) : Result := .next (access (busWrite m.id (regAddr .pick 0 0x05C) 15 (v)) s)

/-- PICK_CLR_COUNTS (R142). -/
def execPickClrCounts (m : Master) (v : Word) (s : State) : Result := .next (access (busWrite m.id (regAddr .pick 0 0x05C) 15 (v)) s)

/-- APPLIED (R117). -/
def execApplied (t : Nat) (s : State) : Result := .next ((appliedOp t s).afterBolts)

/-- CLOSING (R121). -/
def execClosing (b : Fin 16) (t : Nat) (s : State) : Result := .next (closingOp b t s)

/-- GRID_POINT (R114). -/
def execGridPoint (t : Nat) (s : State) : Result := .next (gridPassed t s)

/-- CLOSING_POINT (R141). -/
def execClosingPoint (t : Nat) (s : State) : Result := .next (closingPointOp t s)

/-- FREEZE (R125). -/
def execFreeze (b : Fin 16) (t : Nat) (s : State) : Result := .next (freezeOp b t s)

/-- DRAIN_CONFIRM (R125). -/
def execDrainConfirm (b : Fin 16) (idle : Bool) (t : Nat) (s : State) : Result := .next (drainConfirmOp b idle t s).unparkPorts

/-- BEAT_UP_END (R127). -/
def execBeatUpEnd (b : Fin 16) (t : Nat) (s : State) : Result := .next (beatUpOver b t s).unparkPorts

/-- PACE_GATE_OPEN (R131). -/
def execPaceGateOpen (t : Nat) (s : State) : Result := .next (gateOpenOp t s)

/-- PICK_OVERRUN (R129). -/
def execPickOverrun (b : Fin 16) (t : Nat) (s : State) : Result := .next ((pickOverrunOp b t s).afterBolts)

/-- CLK_EDGE_IN_DRAIN (R133). -/
def execClkEdgeInDrain (r : ReedRef) (t : Nat) (s : State) : Result := .next (clkEdgeOp (reedIx r) t s)

/-- VFAB_FAULT_TRIP (R155). -/
def execVfabFaultTrip (p : Fin 4) (mv : BitVec 16) (t : Nat) (s : State) : Result := .next (faultTripOp p mv.toNat t s)

end Sys2Proof.Machine
end

