-- ==== Sys2Proof/Machine/PinCommands.lean ====
section
/-!
DEFINITION. The commands of banks, pins, pattern units and hard peripherals (chapter 13).
-/

namespace Sys2Proof.Machine

/-- A match that waits is recorded; a unit with WAKE_EN wakes the device (R367, R368). -/
def matchMet (u t : Nat) (s : State) : State :=
  if (s.pattern u).hits ≠ [] then
    let s1 := recordMatch u (s.at t)
    if s1.bit (patBase u) 30 then (wakeOp 0 s1).follow else s1
  else s

/-- BANK_STAT.VCCO_MV and the lowest voltage seen (R349, R374). -/
def vccoMeasured (b mv : Nat) (s : State) : State := (s.setFld (rBankStat b) 15 0 mv).noteVcco b mv

/-- The error kind of a command's end (R369, R378). -/
def endKind (how : SerialEnd) : Option Nat :=
  match how with
  | .ok => none
  | .nack => some 0
  | .arbLost => some 1

/-- VCCO_WARN (R349). -/
def execVccoWarn (b : Fin 20) (mv : BitVec 16) (s : State) : Result := .next (bankWarn b mv.toNat s)

/-- BANK_DISABLED (R349). -/
def execBankDisabled (b : Fin 20) (mv : BitVec 16) (s : State) : Result := .next (bankDisable b mv.toNat s)

/-- BANK_REENABLE (R349). -/
def execBankReenable (b : Fin 20) (s : State) : Result := .next (bankRecovered b s)

/-- BANK_ENABLE (R349). -/
def execBankEnable (m : Master) (b : Fin 20) (v : Word) (s : State) : Result :=
  .next (access (busWrite m.id (regAddr .iobank b 0x058) 15 (v)) s)

/-- BANK_CLR_VMIN (R374). -/
def execBankClrVmin (m : Master) (b : Fin 20) (v : Word) (s : State) : Result :=
  .next (access (busWrite m.id (regAddr .iobank b 0x058) 15 (v)) s)

/-- BANK_VCCO_MEASURE (R374). -/
def execBankVccoMeasure (b : Fin 20) (mv : BitVec 16) (s : State) : Result := .next (vccoMeasured b mv.toNat s)

/-- CHANGEOVER (R361). -/
def execChangeover (m : Master) (p : Fin 960) (v : Word) (t : Nat) (s : State) : Result :=
  .next (access (busWrite m.id (rPinMap p) 15 (v)) (s.at t))

/-- CHANGEOVER_DONE (R361). -/
def execChangeoverDone (p : Fin 960) (t : Nat) (s : State) : Result := .next (changeoverEnd p t (s.at t))

/-- PIN_FILTER_PASS (R353). -/
def execPinFilterPass (p : Fin 960) (level : Bool) (s : State) : Result := .next (filterPass p level s)

/-- DEBOUNCED_VECTOR_CHANGE (R366). -/
def execDebouncedVectorChange (u : Fin 32) (v : BitVec 16) (t : Nat) (s : State) : Result := .next (vectorChange u v.toNat (s.at t))

/-- MATCH (R367). -/
def execMatchUnit (u : Fin 32) (t : Nat) (s : State) : Result := .next (matchMet u t s)

/-- PAT_CMD_CLR (R376). -/
def execPatCmdClr (m : Master) (v : Word) (s : State) : Result := .next (access (busWrite m.id (regAddr .pattern 0 0x040) 15 (v)) s)

/-- I2C_WRITE (R369). -/
def execI2cWrite (m : Master) (u : Fin 4) (len : BitVec 5) (s : State) : Result :=
  .next (access (busWrite m.id (hpBase (u) + 0x04) 15 (hpCommandWord 1 false len.toNat)) s)

/-- I2C_READ (R369). -/
def execI2cRead (m : Master) (u : Fin 4) (len : BitVec 5) (s : State) : Result :=
  .next (access (busWrite m.id (hpBase (u) + 0x04) 15 (hpCommandWord 2 false len.toNat)) s)

/-- I2C_WRITE_READ (R369). -/
def execI2cWriteRead (m : Master) (u : Fin 4) (len : BitVec 5) (s : State) : Result :=
  .next (access (busWrite m.id (hpBase (u) + 0x04) 15 (hpCommandWord 3 false len.toNat)) s)

/-- SPI_TRANSFER (R370). -/
def execSpiTransfer (m : Master) (u : Fin 4) (len : BitVec 5) (holdCs : Bool) (s : State) : Result :=
  .next (access (busWrite m.id (hpBase (4 + u) + 0x04) 15 (hpCommandWord 1 holdCs len.toNat)) s)

/-- UART_FLUSH (R377). -/
def execUartFlush (m : Master) (u : Fin 2) (s : State) : Result :=
  .next (access (busWrite m.id (hpBase (8 + u) + 0x04) 15 (hpCommandWord 1 false 0)) s)

/-- HP_TX (R371). -/
def execHpTx (m : Master) (u : Fin 10) (v : Word) (s : State) : Result := .next (access (busWrite m.id (hpBase u + 0x0C) 15 (v)) s)

/-- HP_RX (R371). -/
def execHpRx (m : Master) (u : Fin 10) (s : State) : Result := .next (access (busRead m.id (hpBase u + 0x10)) s)

/-- HP_COMMAND_DONE (R378). -/
def execHpCommandDone (u : Fin 10) (how : SerialEnd) (rx : List Byte) (s : State) : Result := .next (hpEnd u (endKind how) rx s)

/-- UART_RX_BYTE (R370). -/
def execUartRxByte (u : Fin 2) (line : UartLine) (v : Byte) (s : State) : Result := .next (uartReceive (8 + u) (decide (line = .good)) v s)

end Sys2Proof.Machine
end

