-- ==== Sys2Proof/Machine/PowerCommands.lean ====
section
/-!
DEFINITION. The commands of power, resets, start-up and tests (chapter 19).
-/

namespace Sys2Proof.Machine

/-- RAIL_WARN (R519). -/
def execRailWarn (k : Fin 10) (mv : BitVec 16) (t : Nat) (s : State) : Result := .next ((railWarnOp k mv.toNat t s).afterBolts)

/-- RAIL_RECOVERED (R519). -/
def execRailRecovered (k : Fin 10) (t : Nat) (s : State) : Result := .next (railRecoveredOp k t s)

/-- RAIL_MEASURE (R539). -/
def execRailMeasure (mvs : List (BitVec 16)) (t : Nat) (s : State) : Result :=
  if railsOk mvs then .next (railMeasureOp (mvs.map (fun v => v.toNat)) (s.at t)) else .refused .illFormed

/-- POWER_ON_RESET (R521). -/
def execPowerOnReset (vaon : Bool) (straps : BitVec 4) (s : State) : Result := .next (powerOnResetOp vaon straps.toNat s)

/-- RAIL_RESET (R521). -/
def execRailReset (k : Fin 10) (t : Nat) (s : State) : Result := .next (railResetOp k t s)

/-- DEVICE_RESET (R522). -/
def execDeviceReset (m : Master) (s : State) : Result := .next (access (busWrite m.id (regAddr .reset 0 0x048) 15 (5)) s)

/-- WARP_EXCEPTION (R521). -/
def execWarpException (t : Nat) (s : State) : Result := .next ((s.at t).deviceReset 0x06 0)

/-- PWR_SLEEP (R524). -/
def execPwrSleep (m : Master) (t : Nat) (s : State) : Result := .next (access (busWrite m.id (regAddr .power 0 0x044) 15 (1)) (s.at t))

/-- SLEEP_REFUSED (R524). -/
def execSleepRefused (t : Nat) (s : State) : Result := .next ((sleepRefusedOp t s).follow)

/-- SLEEP_ENTERED (R524). -/
def execSleepEntered (t : Nat) (s : State) : Result := .next ((sleepEnteredOp t s).follow)

/-- PWR_WAKE (R526). -/
def execPwrWake (m : Master) (t : Nat) (s : State) : Result := .next (access (busWrite m.id (regAddr .power 0 0x044) 15 (2)) (s.at t))

/-- WAKE_PIN (R526). -/
def execWakePin (t : Nat) (s : State) : Result := .next ((wakeOp 1 (s.at t)).follow).unparkPorts

/-- WAKE_RAILS_READY (R527). -/
def execWakeRailsReady (upset : Option ShadowUpset) (t : Nat) (s : State) : Result :=
  .next ((wakeRailsReadyOp t (upsetShadow upset s)).follow)

/-- WAKE_LATE (R527). -/
def execWakeLate (t : Nat) (s : State) : Result := .next (wakeLateOp t s)

/-- WAKE_COMPLETE (R527). -/
def execWakeComplete (t : Nat) (s : State) : Result := .next ((wakeCompleteOp t s).follow).unparkPorts

/-- PWR_SHUTDOWN (R531). -/
def execPwrShutdown (m : Master) (t : Nat) (s : State) : Result := .next (access (busWrite m.id (regAddr .power 0 0x044) 15 (3)) (s.at t))

/-- PWRDN_REQ (R531). -/
def execPwrdnReq (t : Nat) (s : State) : Result := .next ((shutdownOp (s.at t)).follow)

/-- DOFF_START (R532). -/
def execDoffStart (expected : Word) (t : Nat) (s : State) : Result := .next (doffStartOp expected t s)

/-- TEST_CLASS_DONE (R533). -/
def execTestClassDone (signature : Dword) (patterns : Word) (good : Bool) (twills : List (Fin 4096)) (t : Nat) (s : State) : Result :=
  .next ((testClassDoneOp signature patterns good (twills.map (fun n => n.val)) t s).follow)

/-- WARP_ROM_BOOT (R528). -/
def execWarpRomBoot (digestOk : Bool) (t : Nat) (s : State) : Result := .next (warpRomBootOp digestOk t s)

/-- SANITY_CHECK_DONE (R530). -/
def execSanityCheckDone (engineOk nvssOk shadowOk : Bool) (failing : List (Fin 4096)) (t : Nat) (s : State) : Result :=
  .next (sanityDoneOp engineOk nvssOk shadowOk (failing.map (fun n => n.val)) t s)

/-- DEVICE_UP (R540). -/
def execDeviceUp (flashImage : Bool) (t : Nat) (s : State) : Result := .next (deviceUpOp flashImage t s)

/-- TEST_START (R537). -/
def execTestStart (m : Master) (mask : BitVec 9) (s : State) : Result :=
  .next (access (busWrite m.id (rTestCmd) 15 (BitVec.ofNat 32 (place 1 31 + mask.toNat))) s)

/-- DIAG_EN (R536). -/
def execDiagEn (m : Master) (v : Word) (s : State) : Result := .next (access (busWrite m.id (rTestCmd) 15 (v)) s)

/-- PWR_CLR (R539). -/
def execPwrClr (m : Master) (v : Word) (s : State) : Result := .next (access (busWrite m.id (regAddr .power 0 0x114) 15 (v)) s)

end Sys2Proof.Machine
end

