-- ==== Sys2Proof/Machine/QueueCommands.lean ====
section
/-!
DEFINITION. The commands of creel queues (chapter 08).
-/

namespace Sys2Proof.Machine

/-- QUEUE_PUSH (R217). -/
def execQueuePush (n : Fin 8192) (perr : Bool) (upset : Option QUpset) (s : State) : Result :=
  .next (upsetQueue n upset (fabricPush n perr false s)).settle

/-- QUEUE_POP (R215). -/
def execQueuePop (n : Fin 8192) (upset : Option QUpset) (s : State) : Result :=
  .next (upsetQueue n upset (fabricPop n false s)).settle

/-- BLOCKED_PUSH_TAKEN (R215). -/
def execBlockedPushTaken (n : Fin 8192) (perr : Bool) (s : State) : Result := .next (fabricPush n perr true s).settle

/-- BLOCKED_POP_TAKEN (R215). -/
def execBlockedPopTaken (n : Fin 8192) (s : State) : Result := .next (fabricPop n true s).settle

/-- Q_PUSH_ELEMENT (R231). -/
def execQPushElement (m : Master) (n : Fin 8192) (perr : Bool) (upset : Option QUpset) (s : State) : Result :=
  .next (upsetQueue n upset (access (busWrite m.id (creelBase n + 0x158) 15 (0)) (markElement n perr s)))

/-- Q_PUSH_LAST (R231). -/
def execQPushLast (m : Master) (n : Fin 8192) (perr : Bool) (s : State) : Result :=
  .next (access (busWrite m.id (creelBase n + 0x158) 15 (1)) (markElement n perr s))

/-- Q_PUSH_ABORT (R217). -/
def execQPushAbort (m : Master) (n : Fin 8192) (s : State) : Result := .next (access (busWrite m.id (creelBase n + 0x158) 15 (2)) s)

/-- Q_POP_LO (R231). -/
def execQPopLo (m : Master) (n : Fin 8192) (upset : Option QUpset) (s : State) : Result :=
  .next (upsetQueue n upset (access (busRead m.id (creelBase n + 0x160)) s))

/-- Q_FLUSH (R226). -/
def execQFlush (m : Master) (n : Fin 8192) (s : State) : Result := .next (access (busWrite m.id (creelBase n + 0x108) 15 (1)) s)

/-- Q_FLUSH_NOW (R228). -/
def execQFlushNow (m : Master) (n : Fin 8192) (s : State) : Result := .next (access (busWrite m.id (creelBase n + 0x108) 15 (2)) s)

/-- Q_CLR_COUNTS (R230). -/
def execQClrCounts (m : Master) (n : Fin 8192) (s : State) : Result := .next (access (busWrite m.id (creelBase n + 0x108) 15 (4)) s)

end Sys2Proof.Machine
end

