-- ==== Sys2Proof/Machine/SelvedgeCommands.lean ====
section
/-!
DEFINITION. The commands of selvedge bridges, fabric bus ports and pace generators (chapter 10).
-/

namespace Sys2Proof.Machine

/-- A flag of a fabric bus port: towards the fabric what waits is presented, and what the port held goes on. After RESYNC waiting target
accesses are let in (R255, R268, R275). -/
def portCrossed (p : Nat) (d : FlagDir) (s : State) : State :=
  let s1 := flagCrossed (portBridge p) d s
  if (s1.bridge (portBridge p)).resync then s1
  else
    let s2 := s1.unparkPort p
    if d = .toFabric ∨ (s.bridge (portBridge p)).resync = true then (s2.admitAll p).presentPort p else s2

/-- A crossing, with the credit that a delivered pulse of a spool DMA bridge brings (R435). -/
def crossed (n : Nat) (d : FlagDir) (s : State) : State :=
  if s.svMode n = brBusport then (portCrossed (n - 256) d s).settle
  else
    let s1 := flagCrossed n d s
    (if 288 ≤ n ∧ n < 304 ∧ (s.bridge n).strobes < (s1.bridge n).strobes then s1.addCredits (n - 288) 1 else s1).settle

/-- A word that the clocked side writes; a lane's receive bridge takes it from the lane's buffer (R391). -/
def wordWritten (n : Nat) (v torn : Dword) (s : State) : State :=
  if 160 ≤ n ∧ n < 256 ∧ n % 8 < 4 then rxBridgeWrite ((n - 160) / 8) (n % 8) v s else sideWrite n v torn s

/-- A word that the clocked side takes: a lane reads its bridge only while it sends from it (R386) and sends it, and a word of a spool DMA
bridge brings credits (R435). -/
def wordTaken (n : Nat) (s : State) : State :=
  if 160 ≤ n ∧ n < 256 ∧ 4 ≤ n % 8 ∧ s.txReads ((n - 160) / 8) (n % 8 - 4) = false then s
  else
    let s1 := clockedRead n s
    let x := (s.bridge n).fifo.headD 0
    if s.hasWord n = false then s1
    else if 160 ≤ n ∧ n < 256 then s1.sendWord ((n - 160) / 8) (n % 8 - 4) x
    else if 288 ≤ n ∧ n < 304 then s1.addCredits (n - 288) (fieldOf x 15 0)
    else s1

/-- SAMPLE2_ATTEMPT (R256). -/
def execSample2Attempt (n : Fin 320) (sampled : SampleTime) (s : State) : Result := .next (sample2 n sampled s)

/-- HOLD_OFFER (R258). -/
def execHoldOffer (n : Fin 320) (v : Dword) (s : State) : Result := .next (offered n v s)

/-- BRIDGE_FLAG_CROSSED (R255). -/
def execBridgeFlagCrossed (n : Fin 320) (d : FlagDir) (s : State) : Result := .next (crossed n d s)

/-- BRIDGE_FABRIC_TOKEN (R254). -/
def execBridgeFabricToken (n : Fin 320) (s : State) : Result := .next (bridgeTokenOp n s)

/-- BRIDGE_CLOCKED_WRITE (R260). -/
def execBridgeClockedWrite (n : Fin 320) (v torn : Dword) (s : State) : Result := .next (wordWritten n v torn s)

/-- BRIDGE_CLOCKED_READ (R260). -/
def execBridgeClockedRead (n : Fin 320) (s : State) : Result := .next (wordTaken n s).settle

/-- BRIDGE_PULSE (R261). -/
def execBridgePulse (n : Fin 320) (s : State) : Result := .next (pulsed n s)

/-- SV_RESYNC (R267). -/
def execSvResync (m : Master) (k : Fin 40) (v : Word) (s : State) : Result :=
  .next (access (busWrite m.id (regAddr .selvedge k 0x040) 15 (v)) s)

/-- SV_CLR_COUNTS (R286). -/
def execSvClrCounts (m : Master) (k : Fin 40) (v : Word) (s : State) : Result :=
  .next (access (busWrite m.id (regAddr .selvedge k 0x040) 15 (v)) s)

/-- CLOCK_LOST (R271). -/
def execClockLost (n : Fin 320) (t : Nat) (s : State) : Result := .next (clockLostOp n t s)

/-- BRIDGE_CLOCK_RETURN (R270). -/
def execBridgeClockReturn (n : Fin 320) (t : Nat) (s : State) : Result := .next (clockBack n (s.at t)).settle

/-- FBP_TARGET_RESPONSE (R274). -/
def execFbpTargetResponse (n : Fin 32) (s : State) : Result := .next (targetResponseOp n s)

/-- FBP_INITIATOR_REQUEST (R276). -/
def execFbpInitiatorRequest (n : Fin 32) (s : State) : Result := .next (initiatorRequestOp n s)

/-- FBP_INITIATOR_RESPONSE (R277). -/
def execFbpInitiatorResponse (n : Fin 32) (s : State) : Result := .next (initiatorResponseOp n s)

/-- FBP_CLR_COUNTS (R288). -/
def execFbpClrCounts (m : Master) (k : Fin 8) (v : Word) (s : State) : Result :=
  .next (access (busWrite m.id (regAddr .fbp k 0x040) 15 (v)) s)

/-- PACE_APPLY (R280). -/
def execPaceApply (m : Master) (g : Fin 32) (v : Word) (s : State) : Result :=
  .next (access (busWrite m.id (regAddr .pace g 0x050) 15 (v)) s)

/-- PACE_SETTINGS_TAKEN (R280). -/
def execPaceSettingsTaken (g : Fin 32) (t : Nat) (s : State) : Result := .next (paceTaken g (s.at t))

/-- PACE_LOCKED (R280). -/
def execPaceLocked (g : Fin 32) (t : Nat) (s : State) : Result := .next (paceLockedOp g (s.at t))

/-- PACE_REF_LOST (R284). -/
def execPaceRefLost (g : Fin 32) (t : Nat) (s : State) : Result := .next (paceRefLostOp g (s.at t))

/-- PACE_REF_RETURN (R284). -/
def execPaceRefReturn (g : Fin 32) (t : Nat) (s : State) : Result := .next (paceRefBack g (s.at t))

/-- PACE_LOCK_LOST (R291). -/
def execPaceLockLost (g : Fin 32) (t : Nat) (s : State) : Result := .next (paceLockLostOp g (s.at t))

/-- PACE_CLR_COUNTS (R290). -/
def execPaceClrCounts (m : Master) (g : Fin 32) (v : Word) (s : State) : Result :=
  .next (access (busWrite m.id (regAddr .pace g 0x050) 15 (v)) s)

/-- PACE_MEASURE (R290). -/
def execPaceMeasure (g : Fin 32) (edges : BitVec 21) (t : Nat) (s : State) : Result :=
  .next ((s.at t).setReg (regAddr .pace g 0x054) (edges.setWidth 32))

end Sys2Proof.Machine
end

