-- ==== Sys2Proof/Machine/SerdesCommands.lean ====
section
/-!
DEFINITION. The commands of SerDes quads and the PCS (chapter 14).
-/

namespace Sys2Proof.Machine

/-- QUAD_PWR (R380). -/
def execQuadPwr (m : Master) (q : Fin 12) (v : Word) (s : State) : Result :=
  .next (access (busWrite m.id (regAddr .serdes q 0x008) 15 (v)) s)

/-- SD_APPLY (R381). -/
def execSdApply (m : Master) (q : Fin 12) (s : State) : Result := .next (access (busWrite m.id (regAddr .serdes q 0x044) 15 (1)) s)

/-- SD_RESET (R380). -/
def execSdReset (m : Master) (q : Fin 12) (s : State) : Result := .next (access (busWrite m.id (regAddr .serdes q 0x044) 15 (2)) s)

/-- SD_CLR_COUNTS (R399). -/
def execSdClrCounts (m : Master) (q : Fin 12) (s : State) : Result := .next (access (busWrite m.id (regAddr .serdes q 0x044) 15 (4)) s)

/-- PLL_LOCKED (R380). -/
def execPllLocked (q : Fin 12) (s : State) : Result := .next (pllLockedOp q s)

/-- SD_REF_LOST (R381). -/
def execSdRefLost (q : Fin 12) (s : State) : Result := .next (sdRefLostOp q s)

/-- QREF_MEASURE (R399). -/
def execQrefMeasure (q : Fin 12) (meas : BitVec 16) (s : State) : Result := .next (qrefMeasureOp q meas.toNat s)

/-- CDR_LOCKED (R382). -/
def execCdrLocked (q : Fin 12) (i : Fin 4) (s : State) : Result := .next (cdrLockedOp q i s)

/-- CDR_LOST (R382). -/
def execCdrLost (q : Fin 12) (i : Fin 4) (s : State) : Result := .next (cdrLostOp q i s)

/-- ADAPT_DONE (R384). -/
def execAdaptDone (q : Fin 12) (i : Fin 4) (vga ctle : BitVec 4) (dfe : List Byte) (s : State) : Result :=
  if dfeOk dfe then .next (adaptDoneOp q i vga.toNat ctle.toNat dfe s) else .refused .illFormed

/-- EB_SLIP (R382). -/
def execEbSlip (q : Fin 12) (i : Fin 4) (level : Fin 33) (s : State) : Result := .next (ebSlipOp q i level s)

/-- PRBS_INJECT (R386). -/
def execPrbsInject (m : Master) (q : Fin 12) (i : Fin 4) (v : Word) (s : State) : Result :=
  .next (access (busWrite m.id (sdLane q i 0x14) 15 (v)) s)

/-- PRBS_LOCK (R386). -/
def execPrbsLock (q : Fin 12) (i : Fin 4) (s : State) : Result := .next (prbsLockOp q i s)

/-- PRBS_LOCK_LOST (R386). -/
def execPrbsLockLost (q : Fin 12) (i : Fin 4) (bits : Word) (s : State) : Result := .next (prbsLockLostOp q i bits.toNat s)

/-- LOOPBACK_CHANGE (R387). -/
def execLoopbackChange (m : Master) (q : Fin 12) (i : Fin 4) (v : Word) (s : State) : Result :=
  .next (access (busWrite m.id (sdLane q i 0x00) 15 (v)) s)

/-- PCS_APPLY (R395). -/
def execPcsApply (m : Master) (q : Fin 12) (s : State) : Result := .next (access (busWrite m.id (regAddr .pcs q 0x044) 15 (1)) s)

/-- PCS_CLR_COUNTS (R401). -/
def execPcsClrCounts (m : Master) (q : Fin 12) (s : State) : Result := .next (access (busWrite m.id (regAddr .pcs q 0x044) 15 (4)) s)

/-- BLOCK_LOCK (R390). -/
def execBlockLock (q : Fin 12) (i : Fin 4) (s : State) : Result := .next (blockLockOp q i s)

/-- BLOCK_LOCK_LOST (R390). -/
def execBlockLockLost (q : Fin 12) (i : Fin 4) (s : State) : Result := .next (blockLockLostOp q i s)

/-- PCS_RX_FRAME (R391). -/
def execPcsRxFrame (q : Fin 12) (i : Fin 4) (blocks : List RxBlock) (s : State) : Result := .next (pcsRxOp q i blocks s)

/-- FEC_CODEWORD (R393). -/
def execFecCodeword (q : Fin 12) (i : Fin 4) (r : FecResult) (s : State) : Result :=
  if fecResultOk r then .next (fecCodewordOp q i r s) else .refused .illFormed

/-- AM_LOCK (R394). -/
def execAmLock (q : Fin 12) (i : Fin 4) (gain : Bool) (s : State) : Result := .next (amLockOp q i gain s)

/-- FEC_ALIGN (R393). -/
def execFecAlign (q : Fin 12) (i : Fin 4) (gain : Bool) (s : State) : Result := .next (fecAlignOp q i gain s)

/-- TX_UNDERRUN (R392). -/
def execTxUnderrun (q : Fin 12) (i : Fin 4) (s : State) : Result := .next (txUnderrunOp q i s)

/-- BOND_ALIGNED (R395). -/
def execBondAligned (q : Fin 12) (skews : List (Fin 17)) (s : State) : Result := .next (bondAlignedOp q (skews.map (fun k => k.val)) s)

/-- BOND_LOST (R395). -/
def execBondLost (q : Fin 12) (s : State) : Result := .next (bondLostOp q s)

end Sys2Proof.Machine
end

