-- ==== Sys2Proof/Machine/ShuttleCommands.lean ====
section
/-!
DEFINITION. The commands of shuttles and semaphores (chapter 16).
-/

namespace Sys2Proof.Machine

/-- SH_BIND (R442). -/
def execShBind (m : Master) (ch : Fin 256) (v : Word) (s : State) : Result := .next (access (busWrite m.id (rShBind ch) 15 (v)) s)

/-- SH_BIND_LOCK (R444). -/
def execShBindLock (m : Master) (v : Word) (s : State) : Result := .next (access (busWrite m.id (regAddr .shuttle 0 0x040) 15 (v)) s)

/-- TX_DATA (R447). -/
def execTxData (m : Master) (ch : Fin 256) (d : Side) (v : Word) (s : State) : Result :=
  .next (access (busWrite m.id (sideBase ch (sideNo d) + 0x00) 15 (v)) s)

/-- TX_SEND (R452). -/
def execTxSend (m : Master) (ch : Fin 256) (d : Side) (v : Word) (s : State) : Result :=
  .next (access (busWrite m.id (sideBase ch (sideNo d) + 0x04) 15 (v)) s)

/-- TX_COMMIT (R452). -/
def execTxCommit (m : Master) (ch : Fin 256) (d : Side) (s : State) : Result :=
  .next (access (busRead m.id (sideBase ch (sideNo d) + 0x08)) s)

/-- RX_DATA (R448). -/
def execRxData (m : Master) (ch : Fin 256) (d : Side) (s : State) : Result :=
  .next (access (busRead m.id (sideBase ch (sideNo d) + 0x18)) s)

/-- RX_ACK (R449). -/
def execRxAck (m : Master) (ch : Fin 256) (d : Side) (v : Word) (s : State) : Result :=
  .next (access (busWrite m.id (sideBase ch (sideNo d) + 0x20) 15 (v)) s)

/-- ACK_CODE (R450). -/
def execAckCode (m : Master) (ch : Fin 256) (d : Side) (s : State) : Result :=
  .next (access (busRead m.id (sideBase ch (sideNo d) + 0x14)) s)

/-- ACK_TIMEOUT (R453). -/
def execAckTimeout (ch : Fin 256) (d : Side) (t : Nat) (s : State) : Result := .next ((ackExpire ch (sideNo d) t s).follow)

/-- FLUSH_RX (R458). -/
def execFlushRx (m : Master) (ch : Fin 256) (d : Side) (code : BitVec 16) (s : State) : Result :=
  .next (access (busWrite m.id (sideBase ch (sideNo d) + 0x24) 15 (sideCommand 1 code.toNat)) s)

/-- CLR_PEER_RESET (R456). -/
def execClrPeerReset (m : Master) (ch : Fin 256) (d : Side) (s : State) : Result :=
  .next (access (busWrite m.id (sideBase ch (sideNo d) + 0x24) 15 (sideCommand 2 0)) s)

/-- SIDE_CLR_COUNTS (R464). -/
def execSideClrCounts (m : Master) (ch : Fin 256) (d : Side) (s : State) : Result :=
  .next (access (busWrite m.id (sideBase ch (sideNo d) + 0x24) 15 (sideCommand 3 0)) s)

/-- SEMA_LOCK_READ (R460). -/
def execSemaLockRead (m : Master) (n : Fin 256) (s : State) : Result := .next (access (busRead m.id (regAddr .sema 0 (0x100 + 4 * n))) s)

/-- SEMA_RELEASE (R460). -/
def execSemaRelease (m : Master) (n : Fin 256) (s : State) : Result :=
  .next (access (busWrite m.id (regAddr .sema 0 (0x100 + 4 * n)) 15 (0)) s)

/-- SEMA_CMD_FREE (R462). -/
def execSemaCmdFree (m : Master) (n : Fin 256) (s : State) : Result :=
  .next (access (busWrite m.id (regAddr .sema 0 0x080) 15 (BitVec.ofNat 32 (place 1 31 + n))) s)

/-- SEMA_CLR_COUNTS (R466). -/
def execSemaClrCounts (m : Master) (v : Word) (s : State) : Result := .next (access (busWrite m.id (regAddr .sema 0 0x08C) 15 (v)) s)

end Sys2Proof.Machine
end

