-- ==== Sys2Proof/Machine/TrustCommands.lean ====
section
/-!
DEFINITION. The commands of firmware, the service protocol, the life cycle and JTAG (chapter 18).
-/

namespace Sys2Proof.Machine

/-- WEFT_RESET (R495). -/
def execWeftReset (m : Master) (v : Word) (s : State) : Result := .next (access (busWrite m.id (rWeftCtrl) 15 (v)) s)

/-- WEFT_CONTAINER_VERIFIED (R494). -/
def execWeftContainerVerified (ok : Bool) (patch : BitVec 16) (version : Word) (s : State) : Result :=
  .next (weftVerifiedOp ok patch.toNat version s)

/-- WEFT_WDOG (R496). -/
def execWeftWdog (t : Nat) (s : State) : Result := .next (weftWdogOp t s)

/-- HEARTBEAT (R496). -/
def execHeartbeat (m : Master) (s : State) : Result := .next (access (busRead m.id (rHeartbeat)) s)

/-- GET_INFO (R511). -/
def execGetInfo (msg : SvcMsg) (s : State) : Result := .next (getInfoOp msg s)

/-- GET_TELEMETRY (R511). -/
def execGetTelemetry (msg : SvcMsg) (power : List Word) (s : State) : Result :=
  if powerWordsOk power then .next (getTelemetryOp msg power s) else .refused .illFormed

/-- LOAD_IMAGE_HOST (R511). -/
def execLoadImageHost (msg : SvcMsg) (s : State) : Result := .next (loadImageHostOp msg s)

/-- LOAD_IMAGE_FLASH (R511). -/
def execLoadImageFlash (msg : SvcMsg) (s : State) : Result := .next (loadImageFlashOp msg s)

/-- REWEAVE (R511). -/
def execReweave (msg : SvcMsg) (s : State) : Result := .next (reweaveOp msg s)

/-- SET_VFAB (R512). -/
def execSetVfab (msg : SvcMsg) (confirmed : Bool) (s : State) : Result := .next (setVfabOp msg confirmed s)

/-- SET_POWER_STATE (R511). -/
def execSetPowerState (msg : SvcMsg) (s : State) : Result := .next (setPowerStateOp msg s)

/-- SERVICE_SHUTDOWN (R531). -/
def execServiceShutdown (msg : SvcMsg) (s : State) : Result := .next (serviceShutdownOp msg s)

/-- RUN_TEST (R537). -/
def execRunTest (msg : SvcMsg) (s : State) : Result := .next (runTestOp msg s)

/-- BIND_CHANNEL (R512). -/
def execBindChannel (msg : SvcMsg) (s : State) : Result := .next (bindChannelOp msg s)

/-- LOCK_BINDINGS (R512). -/
def execLockBindings (msg : SvcMsg) (s : State) : Result := .next (lockBindingsSvc msg s)

/-- ENROL_KEY (R507). -/
def execEnrolKey (msg : SvcMsg) (s : State) : Result := .next (enrolKeyOp msg s)

/-- LC_ADVANCE (R503). -/
def execLcAdvance (msg : SvcMsg) (tokenOk : Bool) (s : State) : Result := .next (lcAdvanceOp msg tokenOk s)

/-- STAGE_TOKEN (R505). -/
def execStageToken (msg : SvcMsg) (s : State) : Result := .next (stageTokenOp msg s)

/-- SET_OWNER (R512). -/
def execSetOwner (msg : SvcMsg) (s : State) : Result := .next (setOwnerOp msg s)

/-- LOAD_WEFT (R494). -/
def execLoadWeft (msg : SvcMsg) (s : State) : Result := .next (loadWeftOp msg s)

/-- SET_POLICY (R512). -/
def execSetPolicy (msg : SvcMsg) (s : State) : Result := .next (setPolicyOp msg s)

/-- RESET_WEFT (R495). -/
def execResetWeft (msg : SvcMsg) (s : State) : Result := .next (resetWeftSvc msg s)

/-- UNKNOWN_OPCODE (R512). -/
def execUnknownOpcode (msg : SvcMsg) (opcode : BitVec 16) (s : State) : Result := .next (unknownOpcodeOp msg opcode.toNat s)

/-- FUSE_BURN_DONE (R504). -/
def execFuseBurnDone (t : Nat) (s : State) : Result := .next (fuseBurnDone t s)

/-- KEY_BURN_DONE (R507). -/
def execKeyBurnDone (t : Nat) (s : State) : Result := .next (keyBurnDone t s)

/-- SUPPLY_FAULT (R519). -/
def execSupplyFault (t : Nat) (s : State) : Result := .next (supplyFaultOp t s)

/-- JTAG_BYPASS (R508). -/
def execJtagBypass (s : State) : Result := .next (jtagInstrOp .bypass s)

/-- JTAG_IDCODE (R508). -/
def execJtagIdcode (s : State) : Result := .next (idcodeOp s)

/-- JTAG_SAMPLE_PRELOAD (R508). -/
def execJtagSamplePreload (preload : List Bool) (s : State) : Result :=
  if preloadOk preload then .next (samplePreloadOp preload s) else .refused .illFormed

/-- JTAG_EXTEST (R508). -/
def execJtagExtest (s : State) : Result := .next (jtagInstrOp .extest s)

/-- JTAG_HIGHZ (R508). -/
def execJtagHighz (s : State) : Result := .next (jtagInstrOp .highz s)

/-- JTAG_CLAMP (R508). -/
def execJtagClamp (s : State) : Result := .next (jtagInstrOp .clamp s)

/-- DBG_ACCESS (R509). -/
def execDbgAccess (write : Bool) (addr : BitVec 32) (v : Word) (s : State) : Result := .next (dbgAccessOp write addr.toNat v s)

/-- TRST (R509). -/
def execTrst (s : State) : Result := .next (trstOp s)

end Sys2Proof.Machine
end

