-- ==== Sys2Proof/Machine/TwillCommands.lean ====
section
/-!
DEFINITION. The commands of twill blocks (chapter 09).
-/

namespace Sys2Proof.Machine

/-- TWILL_OPERATION_CAPTURE (R234). -/
def execTwillOperationCapture (n : Fin 4096) (s : State) : Result := .next (twillCaptureOp n s)

/-- TWILL_RQ_REQ_FALL (R234). -/
def execTwillRqReqFall (n : Fin 4096) (s : State) : Result := .next (twillReqFallOp n s)

/-- TWILL_CASCADE_TOKEN (R238). -/
def execTwillCascadeToken (n : Fin 4096) (s : State) : Result := .next (twillToken n s)

/-- TWILL_OPERATION_COMPLETE (R236). -/
def execTwillOperationComplete (n : Fin 4096) (upset : TwUpset) (s : State) : Result :=
  .next (twillComplete n upset s).settle

/-- TWILL_RESPONSE_ACK (R237). -/
def execTwillResponseAck (n : Fin 4096) (s : State) : Result := .next (twillAckOp n s)

/-- TWILL_CLR_COUNTS (R249). -/
def execTwillClrCounts (m : Master) (k : Fin 256) (v : Word) (s : State) : Result :=
  .next (access (busWrite m.id (regAddr .twill k 0x040) 15 (v)) s)

/-- TW_INJECT (R247). -/
def execTwInject (m : Master) (n : Fin 4096) (v : Word) (s : State) : Result := .next (access (busWrite m.id (rTwInject n) 15 (v)) s)

end Sys2Proof.Machine
end

