-- ==== Sys2Proof/Machine/Dispatch.lean ====
section
/-!
DEFINITION. The dispatch of the commands: one arm per constructor, each a direct call of its meaning.
-/

namespace Sys2Proof.Machine

def exec (i : Instr) (s : State) : Host.Outcome State Fault Refusal :=
  match i with
  | .registerWrite m addr be v => Sys2Proof.Machine.execRegisterWrite m addr be v s
  | .pageLockSet m page v => Sys2Proof.Machine.execPageLockSet m page v s
  | .pairLoRead m addr => Sys2Proof.Machine.execPairLoRead m addr s
  | .busSlotGranted m => Sys2Proof.Machine.execBusSlotGranted m s
  | .busTimeout n t => Sys2Proof.Machine.execBusTimeout n t s
  | .lateCompletion n t => Sys2Proof.Machine.execLateCompletion n t s
  | .hostMemoryRequest f bar off op be last ws len poisoned ecrcBad => Sys2Proof.Machine.execHostMemoryRequest f bar off op be last ws len poisoned ecrcBad s
  | .configRequest f off write v => Sys2Proof.Machine.execConfigRequest f off write v s
  | .fabricWindowAccess m off write v => Sys2Proof.Machine.execFabricWindowAccess m off write v s
  | .sysRefclkLoss t => Sys2Proof.Machine.execSysRefclkLoss t s
  | .sysRefclkReturn t => Sys2Proof.Machine.execSysRefclkReturn t s
  | .bdJoinComplete c => Sys2Proof.Machine.execBdJoinComplete c s
  | .bdDelayExpired c => Sys2Proof.Machine.execBdDelayExpired c s
  | .bdCapture c viol => Sys2Proof.Machine.execBdCapture c viol s
  | .bdInputRequestsFall c => Sys2Proof.Machine.execBdInputRequestsFall c s
  | .bdAckInRise c => Sys2Proof.Machine.execBdAckInRise c s
  | .bdAckInFall c => Sys2Proof.Machine.execBdAckInFall c s
  | .twoSlotTransfer c => Sys2Proof.Machine.execTwoSlotTransfer c s
  | .drRailSet c viol => Sys2Proof.Machine.execDrRailSet c viol s
  | .drAckOutRise c => Sys2Proof.Machine.execDrAckOutRise c s
  | .drRailsClear c => Sys2Proof.Machine.execDrRailsClear c s
  | .drAckOutFall c => Sys2Proof.Machine.execDrAckOutFall c s
  | .drReady c => Sys2Proof.Machine.execDrReady c s
  | .selectCorrupted frame word mask => Sys2Proof.Machine.execSelectCorrupted frame word mask s
  | .domainLeak r tap handshake => Sys2Proof.Machine.execDomainLeak r tap handshake s
  | .pickApply m v => Sys2Proof.Machine.execPickApply m v s
  | .applied t => Sys2Proof.Machine.execApplied t s
  | .closing b t => Sys2Proof.Machine.execClosing b t s
  | .gridPoint t => Sys2Proof.Machine.execGridPoint t s
  | .closingPoint t => Sys2Proof.Machine.execClosingPoint t s
  | .freeze b t => Sys2Proof.Machine.execFreeze b t s
  | .drainConfirm b idle t => Sys2Proof.Machine.execDrainConfirm b idle t s
  | .beatUpEnd b t => Sys2Proof.Machine.execBeatUpEnd b t s
  | .paceGateOpen t => Sys2Proof.Machine.execPaceGateOpen t s
  | .pickOverrun b t => Sys2Proof.Machine.execPickOverrun b t s
  | .clkEdgeInDrain r t => Sys2Proof.Machine.execClkEdgeInDrain r t s
  | .vfabFaultTrip p mv t => Sys2Proof.Machine.execVfabFaultTrip p mv t s
  | .rollback b upset t => Sys2Proof.Machine.execRollback b upset t s
  | .rollbackEnd b t => Sys2Proof.Machine.execRollbackEnd b t s
  | .boltRollback m b => Sys2Proof.Machine.execBoltRollback m b s
  | .boltHalt m b => Sys2Proof.Machine.execBoltHalt m b s
  | .boltResume m b upset => Sys2Proof.Machine.execBoltResume m b upset s
  | .holdEnd b t => Sys2Proof.Machine.execHoldEnd b t s
  | .creelPortRequest n p => Sys2Proof.Machine.execCreelPortRequest n p s
  | .creelArrayAccess n state upset => Sys2Proof.Machine.execCreelArrayAccess n state upset s
  | .creelResponseAck n p => Sys2Proof.Machine.execCreelResponseAck n p s
  | .correctedWriteback n => Sys2Proof.Machine.execCorrectedWriteback n s
  | .creelScrubRead n => Sys2Proof.Machine.execCreelScrubRead n s
  | .winRead m n view word => Sys2Proof.Machine.execWinRead m n view word s
  | .winWrite m n word => Sys2Proof.Machine.execWinWrite m n word s
  | .winInject m n word => Sys2Proof.Machine.execWinInject m n word s
  | .queuePush n perr upset => Sys2Proof.Machine.execQueuePush n perr upset s
  | .queuePop n upset => Sys2Proof.Machine.execQueuePop n upset s
  | .blockedPushTaken n perr => Sys2Proof.Machine.execBlockedPushTaken n perr s
  | .blockedPopTaken n => Sys2Proof.Machine.execBlockedPopTaken n s
  | .qPushElement m n perr upset => Sys2Proof.Machine.execQPushElement m n perr upset s
  | .qPushLast m n perr => Sys2Proof.Machine.execQPushLast m n perr s
  | .qPushAbort m n => Sys2Proof.Machine.execQPushAbort m n s
  | .qPopLo m n upset => Sys2Proof.Machine.execQPopLo m n upset s
  | .qFlush m n => Sys2Proof.Machine.execQFlush m n s
  | .qFlushNow m n => Sys2Proof.Machine.execQFlushNow m n s
  | .twillOperationCapture n => Sys2Proof.Machine.execTwillOperationCapture n s
  | .twillCascadeToken n => Sys2Proof.Machine.execTwillCascadeToken n s
  | .twillOperationComplete n upset => Sys2Proof.Machine.execTwillOperationComplete n upset s
  | .twillResponseAck n => Sys2Proof.Machine.execTwillResponseAck n s
  | .twInject m n v => Sys2Proof.Machine.execTwInject m n v s
  | .sample2Attempt n sampled => Sys2Proof.Machine.execSample2Attempt n sampled s
  | .holdOffer n v => Sys2Proof.Machine.execHoldOffer n v s
  | .bridgeFlagCrossed n d => Sys2Proof.Machine.execBridgeFlagCrossed n d s
  | .bridgeFabricToken n => Sys2Proof.Machine.execBridgeFabricToken n s
  | .bridgeClockedWrite n v torn => Sys2Proof.Machine.execBridgeClockedWrite n v torn s
  | .bridgeClockedRead n => Sys2Proof.Machine.execBridgeClockedRead n s
  | .bridgePulse n => Sys2Proof.Machine.execBridgePulse n s
  | .svResync m k v => Sys2Proof.Machine.execSvResync m k v s
  | .clockLost n t => Sys2Proof.Machine.execClockLost n t s
  | .bridgeClockReturn n t => Sys2Proof.Machine.execBridgeClockReturn n t s
  | .fbpTargetResponse n => Sys2Proof.Machine.execFbpTargetResponse n s
  | .fbpInitiatorRequest n => Sys2Proof.Machine.execFbpInitiatorRequest n s
  | .fbpInitiatorResponse n => Sys2Proof.Machine.execFbpInitiatorResponse n s
  | .paceApply m g v => Sys2Proof.Machine.execPaceApply m g v s
  | .paceSettingsTaken g t => Sys2Proof.Machine.execPaceSettingsTaken g t s
  | .paceLocked g t => Sys2Proof.Machine.execPaceLocked g t s
  | .paceRefLost g t => Sys2Proof.Machine.execPaceRefLost g t s
  | .paceLockLost g t => Sys2Proof.Machine.execPaceLockLost g t s
  | .paceMeasure g edges t => Sys2Proof.Machine.execPaceMeasure g edges t s
  | .startFull m src => Sys2Proof.Machine.execStartFull m src s
  | .startReweave m src => Sys2Proof.Machine.execStartReweave m src s
  | .cfgAbort m => Sys2Proof.Machine.execCfgAbort m s
  | .cfgRelease m => Sys2Proof.Machine.execCfgRelease m s
  | .cfgFifo m v => Sys2Proof.Machine.execCfgFifo m v s
  | .imageHeader ws => Sys2Proof.Machine.execImageHeader ws s
  | .imageDeviceCheck ws => Sys2Proof.Machine.execImageDeviceCheck ws s
  | .imageSettings ws => Sys2Proof.Machine.execImageSettings ws s
  | .imageFrameRun ws => Sys2Proof.Machine.execImageFrameRun ws s
  | .imagePinmap ws => Sys2Proof.Machine.execImagePinmap ws s
  | .imageCreelInitRecord ws => Sys2Proof.Machine.execImageCreelInitRecord ws s
  | .imageDomains ws => Sys2Proof.Machine.execImageDomains ws s
  | .imageAuth ws => Sys2Proof.Machine.execImageAuth ws s
  | .signatureVerified sigOk tagOk t => Sys2Proof.Machine.execSignatureVerified sigOk tagOk t s
  | .clearingDone t => Sys2Proof.Machine.execClearingDone t s
  | .recoverySourceCheck flashAnswers t => Sys2Proof.Machine.execRecoverySourceCheck flashAnswers t s
  | .recoveryGroupRead digest t => Sys2Proof.Machine.execRecoveryGroupRead digest t s
  | .recoveryRewriteDone t => Sys2Proof.Machine.execRecoveryRewriteDone t s
  | .recoveryTimeLimit t => Sys2Proof.Machine.execRecoveryTimeLimit t s
  | .panelHopMeasure p hop temp => Sys2Proof.Machine.execPanelHopMeasure p hop temp s
  | .vccoWarn b mv => Sys2Proof.Machine.execVccoWarn b mv s
  | .bankDisabled b mv => Sys2Proof.Machine.execBankDisabled b mv s
  | .bankReenable b => Sys2Proof.Machine.execBankReenable b s
  | .bankEnable m b v => Sys2Proof.Machine.execBankEnable m b v s
  | .bankVccoMeasure b mv => Sys2Proof.Machine.execBankVccoMeasure b mv s
  | .changeover m p v t => Sys2Proof.Machine.execChangeover m p v t s
  | .changeoverDone p t => Sys2Proof.Machine.execChangeoverDone p t s
  | .pinFilterPass p level => Sys2Proof.Machine.execPinFilterPass p level s
  | .matchUnit u t => Sys2Proof.Machine.execMatchUnit u t s
  | .i2cWrite m u len => Sys2Proof.Machine.execI2cWrite m u len s
  | .i2cRead m u len => Sys2Proof.Machine.execI2cRead m u len s
  | .i2cWriteRead m u len => Sys2Proof.Machine.execI2cWriteRead m u len s
  | .spiTransfer m u len holdCs => Sys2Proof.Machine.execSpiTransfer m u len holdCs s
  | .uartFlush m u => Sys2Proof.Machine.execUartFlush m u s
  | .hpTx m u v => Sys2Proof.Machine.execHpTx m u v s
  | .hpRx m u => Sys2Proof.Machine.execHpRx m u s
  | .hpCommandDone u how rx => Sys2Proof.Machine.execHpCommandDone u how rx s
  | .uartRxByte u line v => Sys2Proof.Machine.execUartRxByte u line v s
  | .quadPwr m q v => Sys2Proof.Machine.execQuadPwr m q v s
  | .sdApply m q => Sys2Proof.Machine.execSdApply m q s
  | .sdReset m q => Sys2Proof.Machine.execSdReset m q s
  | .pllLocked q => Sys2Proof.Machine.execPllLocked q s
  | .sdRefLost q => Sys2Proof.Machine.execSdRefLost q s
  | .qrefMeasure q meas => Sys2Proof.Machine.execQrefMeasure q meas s
  | .cdrLocked q l => Sys2Proof.Machine.execCdrLocked q l s
  | .cdrLost q l => Sys2Proof.Machine.execCdrLost q l s
  | .adaptDone q l vga ctle dfe => Sys2Proof.Machine.execAdaptDone q l vga ctle dfe s
  | .ebSlip q l level => Sys2Proof.Machine.execEbSlip q l level s
  | .prbsInject m q l v => Sys2Proof.Machine.execPrbsInject m q l v s
  | .prbsLock q l => Sys2Proof.Machine.execPrbsLock q l s
  | .prbsLockLost q l bits => Sys2Proof.Machine.execPrbsLockLost q l bits s
  | .loopbackChange m q l v => Sys2Proof.Machine.execLoopbackChange m q l v s
  | .pcsApply m q => Sys2Proof.Machine.execPcsApply m q s
  | .blockLock q l => Sys2Proof.Machine.execBlockLock q l s
  | .blockLockLost q l => Sys2Proof.Machine.execBlockLockLost q l s
  | .pcsRxFrame q l blocks => Sys2Proof.Machine.execPcsRxFrame q l blocks s
  | .fecCodeword q l r => Sys2Proof.Machine.execFecCodeword q l r s
  | .txUnderrun q l => Sys2Proof.Machine.execTxUnderrun q l s
  | .bondAligned q skews => Sys2Proof.Machine.execBondAligned q skews s
  | .bondLost q => Sys2Proof.Machine.execBondLost q s
  | .linkTrainingStart t => Sys2Proof.Machine.execLinkTrainingStart t s
  | .linkUp speed width => Sys2Proof.Machine.execLinkUp speed width s
  | .speedChange speed => Sys2Proof.Machine.execSpeedChange speed s
  | .flr f => Sys2Proof.Machine.execFlr f s
  | .flrComplete f => Sys2Proof.Machine.execFlrComplete f s
  | .bmeClear f => Sys2Proof.Machine.execBmeClear f s
  | .d3Entry f => Sys2Proof.Machine.execD3Entry f s
  | .d0Return f => Sys2Proof.Machine.execD0Return f s
  | .ptmDialogue ok offset t => Sys2Proof.Machine.execPtmDialogue ok offset t s
  | .deviceReadCompletion tag st ws => Sys2Proof.Machine.execDeviceReadCompletion tag st ws s
  | .completionTimeout tag => Sys2Proof.Machine.execCompletionTimeout tag s
  | .dmaEnable m ch => Sys2Proof.Machine.execDmaEnable m ch s
  | .dmaDisable m ch => Sys2Proof.Machine.execDmaDisable m ch s
  | .dmaReset m ch v => Sys2Proof.Machine.execDmaReset m ch v s
  | .dmaDoorbellPi m ch v => Sys2Proof.Machine.execDmaDoorbellPi m ch v s
  | .dmaDoorbellCplCi m ch v => Sys2Proof.Machine.execDmaDoorbellCplCi m ch v s
  | .descriptorFetch ch => Sys2Proof.Machine.execDescriptorFetch ch s
  | .dmaDataReadDone ch => Sys2Proof.Machine.execDmaDataReadDone ch s
  | .dmaLevelPoll ch t => Sys2Proof.Machine.execDmaLevelPoll ch t s
  | .dmaIdleTimeout ch t => Sys2Proof.Machine.execDmaIdleTimeout ch t s
  | .dmaRecord ch => Sys2Proof.Machine.execDmaRecord ch s
  | .tailDiscarded ch => Sys2Proof.Machine.execTailDiscarded ch s
  | .shBind m ch v => Sys2Proof.Machine.execShBind m ch v s
  | .shBindLock m v => Sys2Proof.Machine.execShBindLock m v s
  | .txData m ch d v => Sys2Proof.Machine.execTxData m ch d v s
  | .txSend m ch d v => Sys2Proof.Machine.execTxSend m ch d v s
  | .txCommit m ch d => Sys2Proof.Machine.execTxCommit m ch d s
  | .rxData m ch d => Sys2Proof.Machine.execRxData m ch d s
  | .rxAck m ch d v => Sys2Proof.Machine.execRxAck m ch d v s
  | .ackCode m ch d => Sys2Proof.Machine.execAckCode m ch d s
  | .ackTimeout ch d t => Sys2Proof.Machine.execAckTimeout ch d t s
  | .flushRx m ch d code => Sys2Proof.Machine.execFlushRx m ch d code s
  | .clrPeerReset m ch d => Sys2Proof.Machine.execClrPeerReset m ch d s
  | .semaLockRead m n => Sys2Proof.Machine.execSemaLockRead m n s
  | .semaRelease m n => Sys2Proof.Machine.execSemaRelease m n s
  | .semaCmdFree m n => Sys2Proof.Machine.execSemaCmdFree m n s
  | .recPop m => Sys2Proof.Machine.execRecPop m s
  | .usrRaise m hi v => Sys2Proof.Machine.execUsrRaise m hi v s
  | .logFree m => Sys2Proof.Machine.execLogFree m s
  | .weftReset m v => Sys2Proof.Machine.execWeftReset m v s
  | .weftContainerVerified ok patch version => Sys2Proof.Machine.execWeftContainerVerified ok patch version s
  | .weftWdog t => Sys2Proof.Machine.execWeftWdog t s
  | .heartbeat m => Sys2Proof.Machine.execHeartbeat m s
  | .getInfo msg => Sys2Proof.Machine.execGetInfo msg s
  | .getTelemetry msg power => Sys2Proof.Machine.execGetTelemetry msg power s
  | .loadImageHost msg => Sys2Proof.Machine.execLoadImageHost msg s
  | .loadImageFlash msg => Sys2Proof.Machine.execLoadImageFlash msg s
  | .reweave msg => Sys2Proof.Machine.execReweave msg s
  | .setVfab msg confirmed => Sys2Proof.Machine.execSetVfab msg confirmed s
  | .setPowerState msg => Sys2Proof.Machine.execSetPowerState msg s
  | .serviceShutdown msg => Sys2Proof.Machine.execServiceShutdown msg s
  | .runTest msg => Sys2Proof.Machine.execRunTest msg s
  | .bindChannel msg => Sys2Proof.Machine.execBindChannel msg s
  | .lockBindings msg => Sys2Proof.Machine.execLockBindings msg s
  | .enrolKey msg => Sys2Proof.Machine.execEnrolKey msg s
  | .lcAdvance msg tokenOk => Sys2Proof.Machine.execLcAdvance msg tokenOk s
  | .stageToken msg => Sys2Proof.Machine.execStageToken msg s
  | .setOwner msg => Sys2Proof.Machine.execSetOwner msg s
  | .loadWeft msg => Sys2Proof.Machine.execLoadWeft msg s
  | .setPolicy msg => Sys2Proof.Machine.execSetPolicy msg s
  | .resetWeft msg => Sys2Proof.Machine.execResetWeft msg s
  | .unknownOpcode msg opcode => Sys2Proof.Machine.execUnknownOpcode msg opcode s
  | .fuseBurnDone t => Sys2Proof.Machine.execFuseBurnDone t s
  | .keyBurnDone t => Sys2Proof.Machine.execKeyBurnDone t s
  | .jtagSamplePreload preload => Sys2Proof.Machine.execJtagSamplePreload preload s
  | .dbgAccess write addr v => Sys2Proof.Machine.execDbgAccess write addr v s
  | .railWarn k mv t => Sys2Proof.Machine.execRailWarn k mv t s
  | .railRecovered k t => Sys2Proof.Machine.execRailRecovered k t s
  | .railMeasure mvs t => Sys2Proof.Machine.execRailMeasure mvs t s
  | .powerOnReset vaon straps => Sys2Proof.Machine.execPowerOnReset vaon straps s
  | .railReset k t => Sys2Proof.Machine.execRailReset k t s
  | .deviceReset m => Sys2Proof.Machine.execDeviceReset m s
  | .warpException t => Sys2Proof.Machine.execWarpException t s
  | .pwrSleep m t => Sys2Proof.Machine.execPwrSleep m t s
  | .sleepRefused t => Sys2Proof.Machine.execSleepRefused t s
  | .sleepEntered t => Sys2Proof.Machine.execSleepEntered t s
  | .pwrWake m t => Sys2Proof.Machine.execPwrWake m t s
  | .wakePin t => Sys2Proof.Machine.execWakePin t s
  | .wakeRailsReady upset t => Sys2Proof.Machine.execWakeRailsReady upset t s
  | .wakeLate t => Sys2Proof.Machine.execWakeLate t s
  | .wakeComplete t => Sys2Proof.Machine.execWakeComplete t s
  | .pwrShutdown m t => Sys2Proof.Machine.execPwrShutdown m t s
  | .pwrdnReq t => Sys2Proof.Machine.execPwrdnReq t s
  | .doffStart expected t => Sys2Proof.Machine.execDoffStart expected t s
  | .testClassDone signature patterns good twills t => Sys2Proof.Machine.execTestClassDone signature patterns good twills t s
  | .warpRomBoot digestOk t => Sys2Proof.Machine.execWarpRomBoot digestOk t s
  | .sanityCheckDone engineOk nvssOk shadowOk failing t => Sys2Proof.Machine.execSanityCheckDone engineOk nvssOk shadowOk failing t s
  | .deviceUp flashImage t => Sys2Proof.Machine.execDeviceUp flashImage t s
  | .testStart m mask => Sys2Proof.Machine.execTestStart m mask s
  | .diagEn m v => Sys2Proof.Machine.execDiagEn m v s
  | .clockedCapture c viol race => Sys2Proof.Machine.execClockedCapture c viol race s
  | .paceRefReturn g t => Sys2Proof.Machine.execPaceRefReturn g t s
  | .creelRqReqFall n p => Sys2Proof.Machine.execCreelRqReqFall n p s
  | .twillRqReqFall n => Sys2Proof.Machine.execTwillRqReqFall n s
  | .amLock q l gain => Sys2Proof.Machine.execAmLock q l gain s
  | .fecAlign q l gain => Sys2Proof.Machine.execFecAlign q l gain s
  | .supplyFault t => Sys2Proof.Machine.execSupplyFault t s
  | .debouncedVectorChange u v t => Sys2Proof.Machine.execDebouncedVectorChange u v t s
  | .errCodeClear m page v => Sys2Proof.Machine.execErrCodeClear m page v s
  | .pickClrCounts m v => Sys2Proof.Machine.execPickClrCounts m v s
  | .boltClearCounts m b => Sys2Proof.Machine.execBoltClearCounts m b s
  | .creelClrCounts m n v => Sys2Proof.Machine.execCreelClrCounts m n v s
  | .qClrCounts m n => Sys2Proof.Machine.execQClrCounts m n s
  | .twillClrCounts m k v => Sys2Proof.Machine.execTwillClrCounts m k v s
  | .svClrCounts m k v => Sys2Proof.Machine.execSvClrCounts m k v s
  | .fbpClrCounts m k v => Sys2Proof.Machine.execFbpClrCounts m k v s
  | .paceClrCounts m g v => Sys2Proof.Machine.execPaceClrCounts m g v s
  | .scrubClrCounts m v => Sys2Proof.Machine.execScrubClrCounts m v s
  | .bankClrVmin m b v => Sys2Proof.Machine.execBankClrVmin m b v s
  | .patCmdClr m v => Sys2Proof.Machine.execPatCmdClr m v s
  | .sdClrCounts m q => Sys2Proof.Machine.execSdClrCounts m q s
  | .pcsClrCounts m q => Sys2Proof.Machine.execPcsClrCounts m q s
  | .pcieClrCounts m v => Sys2Proof.Machine.execPcieClrCounts m v s
  | .sideClrCounts m ch d => Sys2Proof.Machine.execSideClrCounts m ch d s
  | .semaClrCounts m v => Sys2Proof.Machine.execSemaClrCounts m v s
  | .clrRing m v => Sys2Proof.Machine.execClrRing m v s
  | .clrLost m v => Sys2Proof.Machine.execClrLost m v s
  | .logClear m => Sys2Proof.Machine.execLogClear m s
  | .pwrClr m v => Sys2Proof.Machine.execPwrClr m v s
  | .scrubFrameRead => Sys2Proof.Machine.execScrubFrameRead s
  | .perst => Sys2Proof.Machine.execPerst s
  | .linkDown => Sys2Proof.Machine.execLinkDown s
  | .msixMessage => Sys2Proof.Machine.execMsixMessage s
  | .recordEntersRing => Sys2Proof.Machine.execRecordEntersRing s
  | .jtagBypass => Sys2Proof.Machine.execJtagBypass s
  | .jtagIdcode => Sys2Proof.Machine.execJtagIdcode s
  | .jtagExtest => Sys2Proof.Machine.execJtagExtest s
  | .jtagHighz => Sys2Proof.Machine.execJtagHighz s
  | .jtagClamp => Sys2Proof.Machine.execJtagClamp s
  | .trst => Sys2Proof.Machine.execTrst s

end Sys2Proof.Machine
end

