-- ==== Sys2Proof/WellFormed.lean ====
section
/-!
DEFINITION. Which commands can happen on this device: operands beyond their types (R43, R384, R393, R403, R508, Tables 18-5 and 19-1).
-/

namespace Sys2Proof

open Sys2Proof.Machine

/-- The operands are those of a happening on this device. -/
def Instr.wellFormed (i : Instr) : Bool :=
  match i with
  | .registerWrite .. | .errCodeClear .. | .pageLockSet .. | .pairLoRead .. | .busSlotGranted .. | .busTimeout ..
  | .lateCompletion .. => true
  | .hostMemoryRequest _ _ off op _ _ ws len _ _ => hostRequestOk off.toNat (decide (op = .write)) ws len
  | .configRequest _ off _ _ => configOffOk off.toNat
  | .fabricWindowAccess .. | .sysRefclkLoss .. | .sysRefclkReturn .. | .bdJoinComplete .. | .bdDelayExpired .. | .bdCapture ..
  | .bdInputRequestsFall .. | .bdAckInRise .. | .bdAckInFall .. | .twoSlotTransfer .. | .drRailSet .. | .drAckOutRise ..
  | .drRailsClear .. | .drAckOutFall .. | .drReady .. | .selectCorrupted .. | .domainLeak .. | .pickApply .. | .pickClrCounts ..
  | .applied .. | .closing .. | .gridPoint .. | .closingPoint .. | .freeze .. | .drainConfirm .. | .beatUpEnd ..
  | .paceGateOpen .. | .pickOverrun .. | .clkEdgeInDrain .. | .vfabFaultTrip .. | .rollback .. | .rollbackEnd ..
  | .boltRollback .. | .boltHalt .. | .boltResume .. | .boltClearCounts .. | .holdEnd .. | .creelPortRequest ..
  | .creelArrayAccess .. | .creelResponseAck .. | .correctedWriteback .. | .creelScrubRead .. | .creelClrCounts .. | .winRead ..
  | .winWrite .. | .winInject .. | .queuePush .. | .queuePop .. | .blockedPushTaken .. | .blockedPopTaken .. | .qPushElement ..
  | .qPushLast .. | .qPushAbort .. | .qPopLo .. | .qFlush .. | .qFlushNow .. | .qClrCounts .. | .twillOperationCapture ..
  | .twillCascadeToken .. | .twillOperationComplete .. | .twillResponseAck .. | .twillClrCounts .. | .twInject ..
  | .sample2Attempt .. | .holdOffer .. | .bridgeFlagCrossed .. | .bridgeFabricToken .. | .bridgeClockedWrite ..
  | .bridgeClockedRead .. | .bridgePulse .. | .svResync .. | .svClrCounts .. | .clockLost .. | .bridgeClockReturn ..
  | .fbpTargetResponse .. | .fbpInitiatorRequest .. | .fbpInitiatorResponse .. | .fbpClrCounts .. | .paceApply ..
  | .paceSettingsTaken .. | .paceLocked .. | .paceRefLost .. | .paceLockLost .. | .paceClrCounts .. | .paceMeasure ..
  | .startFull .. | .startReweave .. | .cfgAbort .. | .cfgRelease .. | .cfgFifo .. | .imageHeader .. | .imageDeviceCheck ..
  | .imageSettings .. | .imageFrameRun .. | .imagePinmap .. | .imageCreelInitRecord .. | .imageDomains .. | .imageAuth ..
  | .signatureVerified .. | .clearingDone .. | .scrubFrameRead | .recoverySourceCheck .. | .recoveryGroupRead ..
  | .recoveryRewriteDone .. | .recoveryTimeLimit .. | .scrubClrCounts .. | .panelHopMeasure .. | .vccoWarn .. | .bankDisabled ..
  | .bankReenable .. | .bankEnable .. | .bankClrVmin .. | .bankVccoMeasure .. | .changeover .. | .changeoverDone ..
  | .pinFilterPass .. | .matchUnit .. | .patCmdClr .. | .i2cWrite .. | .i2cRead .. | .i2cWriteRead .. | .spiTransfer ..
  | .uartFlush .. | .hpTx .. | .hpRx .. | .hpCommandDone .. | .uartRxByte .. | .quadPwr .. | .sdApply .. | .sdReset ..
  | .sdClrCounts .. | .pllLocked .. | .sdRefLost .. | .qrefMeasure .. | .cdrLocked .. | .cdrLost .. => true
  | .adaptDone _ _ _ _ dfe => dfeOk dfe
  | .ebSlip .. | .prbsInject .. | .prbsLock .. | .prbsLockLost .. | .loopbackChange .. | .pcsApply .. | .pcsClrCounts ..
  | .blockLock .. | .blockLockLost .. | .pcsRxFrame .. => true
  | .fecCodeword _ _ r => fecResultOk r
  | .txUnderrun .. | .bondAligned .. | .bondLost .. | .perst | .linkTrainingStart .. => true
  | .linkUp speed width => linkSpeedOk speed.toNat && linkWidthOk width.toNat
  | .linkDown => true
  | .speedChange speed => linkSpeedOk speed.toNat
  | .flr .. | .flrComplete .. | .bmeClear .. | .d3Entry .. | .d0Return .. | .msixMessage | .ptmDialogue ..
  | .deviceReadCompletion .. | .completionTimeout .. | .pcieClrCounts .. | .dmaEnable .. | .dmaDisable .. | .dmaReset ..
  | .dmaDoorbellPi .. | .dmaDoorbellCplCi .. | .descriptorFetch .. | .dmaDataReadDone .. | .dmaLevelPoll .. | .dmaIdleTimeout ..
  | .dmaRecord .. | .tailDiscarded .. | .shBind .. | .shBindLock .. | .txData .. | .txSend .. | .txCommit .. | .rxData ..
  | .rxAck .. | .ackCode .. | .ackTimeout .. | .flushRx .. | .clrPeerReset .. | .sideClrCounts .. | .semaLockRead ..
  | .semaRelease .. | .semaCmdFree .. | .semaClrCounts .. | .recordEntersRing | .recPop .. | .clrRing .. | .clrLost ..
  | .usrRaise .. | .logClear .. | .logFree .. | .weftReset .. | .weftContainerVerified .. | .weftWdog .. | .heartbeat ..
  | .getInfo .. => true
  | .getTelemetry _ power => powerWordsOk power
  | .loadImageHost .. | .loadImageFlash .. | .reweave .. | .setVfab .. | .setPowerState .. | .serviceShutdown .. | .runTest ..
  | .bindChannel .. | .lockBindings .. | .enrolKey .. | .lcAdvance .. | .stageToken .. | .setOwner .. | .loadWeft ..
  | .setPolicy .. | .resetWeft .. | .unknownOpcode .. | .fuseBurnDone .. | .keyBurnDone .. | .jtagBypass | .jtagIdcode => true
  | .jtagSamplePreload preload => preloadOk preload
  | .jtagExtest | .jtagHighz | .jtagClamp | .dbgAccess .. | .trst | .railWarn .. | .railRecovered .. => true
  | .railMeasure mvs _ => railsOk mvs
  | .powerOnReset .. | .railReset .. | .deviceReset .. | .warpException .. | .pwrSleep .. | .sleepRefused .. | .sleepEntered ..
  | .pwrWake .. | .wakePin .. | .wakeRailsReady .. | .wakeLate .. | .wakeComplete .. | .pwrShutdown .. | .pwrdnReq ..
  | .doffStart .. | .testClassDone .. | .warpRomBoot .. | .sanityCheckDone .. | .deviceUp .. | .testStart .. | .diagEn ..
  | .pwrClr .. | .clockedCapture .. | .paceRefReturn .. | .creelRqReqFall .. | .twillRqReqFall .. | .amLock .. | .fecAlign ..
  | .supplyFault .. | .debouncedVectorChange .. => true

end Sys2Proof
end

