-- ==== Sys2Proof/Machine/Step.lean ====
section
/-!
DEFINITION. One step of the block: the command at the front of the queue, or a tick of device time when none waits.
-/

namespace Sys2Proof.Machine

/-- A tick: one D1 cycle of 1 ns, or one D0 cycle of 40 ns while SYS_REFCLK is absent (R5, R19, R522; log entry 3). -/
def State.idle (s : State) : State := { s with now := s.now + (if s.pwr.refLost then 40 else 1) }

/-- One step. -/
def step (s : State) : Host.Outcome State Fault Refusal :=
  match s.pending with
  | [] => .next s.idle
  | c :: rest => exec c { s with pending := rest }

/-- The command that a table word spells, put at the front of the queue. -/
def State.withFetchWord (s : State) (nbits w : Nat) : State :=
  match Sys2Proof.decodeTableWord nbits w with
  | some c => { s with pending := c :: s.pending }
  | none => s

end Sys2Proof.Machine
end

