-- ==== Sys2Proof/Safety.lean ====
section
/-!
DEFINITION. What counts as a safe run, in the terms the statements use: the canonical form of the device's memories, the
invariant that every step keeps, and a run that never stops.
-/

namespace Sys2Proof.Machine

/-- Every sparse memory of the device is in canonical form, so that equal contents are equal data. -/
structure State.Canonical (s : State) : Prop where
  regs : SMap.wf resetOf s.regs = true
  caps : SMap.wf (fun _ => none) s.caps = true
  bolts : SMap.wf (fun _ => {}) s.bolts = true
  cells : SMap.wf (fun _ => {}) s.cells = true
  joins : SMap.wf (fun _ => false) s.joins = true
  cfgMem : SMap.wf (fun _ => {}) s.cfgMem = true
  seamHeld : SMap.wf (fun _ => false) s.seamHeld = true
  taps : SMap.wf (fun _ => none) s.taps = true
  portIn : SMap.wf (fun _ => false) s.portIn = true
  creels : SMap.wf (fun _ => {}) s.creels = true
  arrays : SMap.wf (fun _ => {}) s.arrays = true
  twills : SMap.wf (fun _ => {}) s.twills = true
  bridges : SMap.wf (fun _ => {}) s.bridges = true
  paces : SMap.wf (fun _ => {}) s.paces = true
  fbps : SMap.wf (fun _ => {}) s.fbps = true
  pins : SMap.wf (fun _ => {}) s.pins = true
  portSample : SMap.wf (fun _ => false) s.portSample = true
  bankOk : SMap.wf (fun _ => false) s.bankOk = true
  patterns : SMap.wf (fun _ => {}) s.patterns = true
  periphs : SMap.wf (fun _ => {}) s.periphs = true
  shuttles : SMap.wf (fun _ => {}) s.shuttles = true
  semas : SMap.wf (fun _ => none) s.semas = true
  quads : SMap.wf (fun _ => {}) s.quads = true
  lanes : SMap.wf (fun _ => {}) s.lanes = true
  chans : SMap.wf (fun _ => {}) s.chans = true

/-- Every command that waits is well formed. -/
def State.queueWellFormed (s : State) : Bool := s.pending.all Sys2Proof.Instr.wellFormed

/-- The invariant of the machine. -/
structure State.Inv (s : State) : Prop where
  canonical : s.Canonical
  queue : s.queueWellFormed = true

/-- A run of `n` steps from a state in which no step ends in a fault or a refusal. -/
def SafeRun : Nat → State → Prop
  | 0, _ => True
  | n + 1, s => ∃ t, step s = .next t ∧ SafeRun n t

/-- Device time has not gone back from one state to the other (R19). -/
def TimeKept (s t : State) : Prop := s.now ≤ t.now

/-! What the statements say a command leaves as it was. -/

/-- Every cell but the listed ones reads as before, but for a WIRE clock that is ready for its next edge; a cell is numbered 16 times its
reed plus its place (Table 0-4). -/
def OtherCells (s t : State) (ks : List Nat) : Prop :=
  ∀ k, k ∉ ks → SMap.get {} t.cells k = { SMap.get {} s.cells k with armed := (SMap.get {} t.cells k).armed }

/-- What a bridge, a fabric bus port, a creel or a twill block shows of the wires that answer it may have moved, and nothing else of it. -/
def Bridge.Moved (v w : Bridge) : Prop :=
  w = { v with chan := { v.chan with low := w.chan.low }, sink := { v.sink with ack := w.sink.ack } }

def Fbp.Moved (v w : Fbp) : Prop :=
  w = { v with tReq := { v.tReq with low := w.tReq.low }, tResp := { v.tResp with ack := w.tResp.ack },
               iReq := { v.iReq with ack := w.iReq.ack }, iResp := { v.iResp with low := w.iResp.low } }

def Creel.Moved (v w : Creel) : Prop :=
  w = { v with portA := { v.portA with rsLow := w.portA.rsLow }, portB := { v.portB with rsLow := w.portB.rsLow } }

def Twill.Moved (v w : Twill) : Prop := w = { v with rsLow := w.rsLow }

/-- The hard blocks differ in what they show of the wires that answer them at most. -/
structure BlocksMoved (s t : State) : Prop where
  bridges : ∀ n, (s.bridge n).Moved (t.bridge n)
  fbps : ∀ n, (s.fbp n).Moved (t.fbp n)
  creels : ∀ n, (s.creel n).Moved (t.creel n)
  twills : ∀ n, (s.twill n).Moved (t.twill n)

/-- Only cells, acknowledge joins and the wires that answer hard blocks have moved, and of the cells only the listed ones. -/
structure CellsMoved (s t : State) (ks : List Nat) : Prop where
  rest : t = { s with cells := t.cells, joins := t.joins, bridges := t.bridges, fbps := t.fbps, creels := t.creels, twills := t.twills,
                      free := t.free }
  cells : OtherCells s t ks
  blocks : BlocksMoved s t

/-! Accesses that pass every check of Table 2-5. -/

/-- The device as an access of a page finds it: no answer of an earlier access stands, and a lane whose mode is written holds the
coefficients of this moment (R384). -/
def State.begun (s : State) (p : Page) (off : Nat) : State :=
  if p.kind = .serdes ∧ 0x100 ≤ off ∧ off % 0x40 = 0x00 then s.forgetAnswer.drift p.inst (offLane off) else s.forgetAnswer

/-- A write of one whole register has its turn and its slot on the bus and passes the checks of Table 2-5 (R24, R44). -/
structure State.Accepts (s : State) (m : Nat) (p : Page) (off : Nat) (v : Word) : Prop where
  running : s.inReset = false
  turn : s.waits { master := m, addr := p.base + off, write := true, value := v } = false
  checks : (s.begun p off).writeFails m p off 15 ((s.begun p off).view m p off) v = none
  block : (s.begun p off).refusesAt m p off v = none
  room : (s.begun p off).logFull m p off = false

/-- A read of one register has its turn and its slot, and passes the checks. -/
structure State.AcceptsRead (s : State) (m : Nat) (p : Page) (off : Nat) : Prop where
  running : s.inReset = false
  turn : s.waits { master := m, addr := p.base + off } = false
  checks : s.forgetAnswer.readFails m p off = none
  block : s.forgetAnswer.readRefuses m p off = none

/-- What an accepted write leaves before its effect: its value in the register, and its entry in the change log. -/
def State.recorded (s : State) (m : Nat) (p : Page) (off : Nat) (v : Word) : State :=
  ((s.begun p off).store m p off v).logWrite m p off v

/-- The debug port shows the data that its own access has been answered with (R509). -/
def State.heard (s : State) (m : Nat) : State :=
  if m = 5 then { s with jtag := { s.jtag with out := s.resp.data.headD 0 } } else s

/-- The answer of an accepted write. -/
def State.done (s : State) (m : Nat) (p : Page) (off : Nat) : State := (s.answer m true (p.base + off) [] 0).heard m

/-- The answer of an accepted read. -/
def State.readDone (s : State) (m : Nat) (p : Page) (off : Nat) (v : Word) : State := (s.answer m false (p.base + off) [v] 0).heard m

/-! Requests of the service protocol. -/

/-- A server takes a request of this opcode; on channel 2 it drops the parts that another opcode has staged (Table 18-7). -/
def State.taken (s : State) (op : Nat) (msg : SvcMsg) : State := if msg.channel.val = 2 then s.dropOther op else s

/-- The head message of the channel is this request, its server takes it, it passes the checks of R511 and R512, and the server does its
work itself. -/
structure State.Serves (s : State) (op : Nat) (msg : SvcMsg) : Prop where
  free : s.mayServe msg.channel = true
  head : s.isRequest op msg = true
  up : s.shuttingDown = false
  checks : (s.taken op msg).requestBad op msg = none
  own : ¬ (msg.channel.val = 1 ∧ forwarded op = true)

end Sys2Proof.Machine
end

