-- ==== Sys2Proof/Certificates/Slice0/Obligations.lean ====
section
/-!
DEFINITION. The statements of this model, one `def Obligations.<Name> : Prop` each. A statement about the completion of a command has
as its conclusion that `exec` answers a next state, under conditions on the state and the operands alone.
-/

open Sys2Proof Sys2Proof.Machine

/-! The block as a whole. -/

/-- A step takes the command at the front of the queue and runs it on the queue's rest; on an empty queue it ticks. -/
def Obligations.StepRunsTheCommandInFront : Prop :=
  (∀ (c : Instr) (s : State), step { s with pending := c :: s.pending } = exec c s) ∧
  (∀ s : State, s.pending = [] → step s = .next s.idle ∧ s.idle = { s with now := s.idle.now } ∧ s.now < s.idle.now)

/-- Every step keeps the invariant: memories in canonical form, and a queue of well-formed commands. -/
def Obligations.InvariantKeptByEveryStep : Prop := ∀ s t : State, s.Inv → step s = .next t → t.Inv

/-- The invariant holds after reset. -/
def Obligations.InvariantHoldsAtReset : Prop := State.reset.Inv

/-- A run of any length from a state with well-formed commands meets neither a fault nor a refusal: every command with well-formed
operands completes in every state. A command whose operands are those of no happening on this device is refused as ill formed. -/
def Obligations.WellFormedQueueNeverStops : Prop :=
  (∀ (n : Nat) (s : State), s.queueWellFormed = true → SafeRun n s) ∧
  (∀ (c : Instr) (s : State), c.wellFormed = true → ∃ t, exec c s = .next t) ∧
  (∀ (c : Instr) (s : State), c.wellFormed = false → exec c s = .refused .illFormed)

/-- Device time never goes back, save at a power-on reset, and a command leaves the commands that wait as they are. -/
def Obligations.DeviceTimeNeverGoesBack : Prop :=
  (∀ (c : Instr) (s t : State), (∀ v k, c ≠ .powerOnReset v k) → exec c s = .next t → TimeKept s t) ∧
  (∀ (c : Instr) (s t : State), exec c s = .next t → t.pending = s.pending)

/-! Heddle cells and routing (chapters 03 and 04). -/

/-- Table 3-3 and R64: the steps of a bundled-data cell, each where the state lets it occur. Table 3-4: the steps of a dual-rail pair, `c`
its even cell. A capture after a violation stores open values (R61). The field `armed` is that of a clocked cell (R70), which settling wires
may set. -/
def Obligations.AsynchronousCellsComplete : Prop :=
  (∀ (c : CellRef) (viol : Bool) (s : State), s.Canonical → s.ready (cellReed c) (cellNo c) 1 = true →
     let r := cellReed c
     let k := cellNo c
     let v := s.cell r k
     (v.joined = false → v.ack = false → s.enabledReqs r k true = true →
       ∃ t, exec (.bdJoinComplete c) s = .next t ∧ t.cell r k = { v with joined := true } ∧ CellsMoved s t [16 * r + k]) ∧
     (v.joined = true → v.expired = false → v.ack = false →
       ∃ t, exec (.bdDelayExpired c) s = .next t ∧ t.cell r k = { v with expired := true } ∧ CellsMoved s t [16 * r + k]) ∧
     (ctlTwoSlot (s.liveCtl r k) = true → v.expired = true → v.ack = false → v.slot = false →
       ∃ t, exec (.bdCapture c viol) s = .next t ∧ (viol = false → (t.cell r k).ffA = s.dA r k) ∧
         t.cell r k = { v with ffA := (t.cell r k).ffA, slot := true, ack := true, armed := (t.cell r k).armed } ∧ CellsMoved s t [16 * r + k]) ∧
     (ctlTwoSlot (s.liveCtl r k) = false → v.expired = true → v.ack = false → s.channelEmpty r k = true →
       ∃ t, exec (.bdCapture c viol) s = .next t ∧
         t.cell r k = { v with ffA := (t.cell r k).ffA, ffB := (t.cell r k).ffB, oreq := true, ack := true, busy := true,
                               armed := (t.cell r k).armed } ∧
         (∀ d ∈ s.followers r k, t.cell r d =
           { s.cell r d with ffA := (t.cell r d).ffA, ffB := (t.cell r d).ffB, armed := (t.cell r d).armed }) ∧
         (viol = false → ∀ d ∈ k :: s.followers r k, (t.cell r d).ffA = s.dA r d ∧ (t.cell r d).ffB = s.dB r d) ∧
         CellsMoved s t ((k :: s.followers r k).map (fun d => 16 * r + d))) ∧
     (v.ack = true → s.enabledReqs r k false = true →
       ∃ t, exec (.bdInputRequestsFall c) s = .next t ∧
         t.cell r k = { v with ack := false, joined := false, expired := false, armed := (t.cell r k).armed } ∧ CellsMoved s t [16 * r + k]) ∧
     (v.oreq = true → s.ackIn r k = true →
       ∃ t, exec (.bdAckInRise c) s = .next t ∧ t.cell r k = { v with oreq := false, armed := (t.cell r k).armed } ∧
         CellsMoved s t [16 * r + k]) ∧
     (v.oreq = false → v.busy = true → s.ackIn r k = false →
       ∃ t, exec (.bdAckInFall c) s = .next t ∧ t.cell r k = { v with busy := false } ∧ CellsMoved s t [16 * r + k]) ∧
     (ctlTwoSlot (s.liveCtl r k) = true → v.slot = true → s.channelEmpty r k = true →
       ∃ t, exec (.twoSlotTransfer c) s = .next t ∧
         t.cell r k = { v with ffB := v.ffA, slot := false, oreq := true, busy := true, armed := (t.cell r k).armed } ∧
         CellsMoved s t [16 * r + k])) ∧
  (∀ (c : CellRef) (viol : Bool) (s : State), s.Canonical → s.drReadyPair (cellReed c) (cellNo c) = true →
     let r := cellReed c
     let k := cellNo c
     let v := s.cell r k
     let w := s.cell r (k + 1)
     let both := [16 * r + k, 16 * r + (k + 1)]
     (v.busy = false → v.ffA = false → w.ffA = false → s.ackIn r k = false → (s.drRails r k).1 ≠ (s.drRails r k).2 →
       ∃ t set, exec (.drRailSet c viol) s = .next t ∧ (viol = false → set = true) ∧
         t.cell r k = { v with ffA := (s.drRails r k).1 && set, oreq := set, busy := set, armed := (t.cell r k).armed } ∧
         t.cell r (k + 1) = { w with ffA := (s.drRails r k).2 && set, armed := (t.cell r (k + 1)).armed } ∧ CellsMoved s t both) ∧
     (v.ack = false → (v.ffA || w.ffA) = true → s.drInputs r k validCode false = true →
       ∃ t, exec (.drAckOutRise c) s = .next t ∧ t.cell r k = { v with ack := true, armed := (t.cell r k).armed } ∧
         CellsMoved s t [16 * r + k]) ∧
     (v.ack = true → v.oreq = true → s.drInputs r k spacerCode true = true → s.ackIn r k = true →
       ∃ t, exec (.drRailsClear c) s = .next t ∧ t.cell r k = { v with ffA := false, oreq := false, armed := (t.cell r k).armed } ∧
         t.cell r (k + 1) = { w with ffA := false, armed := (t.cell r (k + 1)).armed } ∧ CellsMoved s t both) ∧
     (v.ack = true → v.ffA = false → w.ffA = false → s.drPairs r k spacerCode = true →
       ∃ t, exec (.drAckOutFall c) s = .next t ∧ t.cell r k = { v with ack := false, armed := (t.cell r k).armed } ∧
         CellsMoved s t [16 * r + k]) ∧
     (v.busy = true → v.oreq = false → v.ack = false → s.ackIn r k = false →
       ∃ t, exec (.drReady c) s = .next t ∧ t.cell r k = { v with busy := false } ∧ CellsMoved s t [16 * r + k]))

/-- R69: a pair never captures both rails, and where its two rails agree it stays where it is. -/
def Obligations.DualRailPairNeverCapturesBothRails : Prop :=
  (∀ (c : CellRef) (viol : Bool) (s t : State), s.Canonical →
    ((s.cell (cellReed c) (cellNo c)).ffA && (s.cell (cellReed c) (cellNo c + 1)).ffA) = false →
    exec (.drRailSet c viol) s = .next t → ((t.cell (cellReed c) (cellNo c)).ffA && (t.cell (cellReed c) (cellNo c + 1)).ffA) = false) ∧
  (∀ (c : CellRef) (viol : Bool) (s : State), (s.drRails (cellReed c) (cellNo c)).1 = (s.drRails (cellReed c) (cellNo c)).2 →
    exec (.drRailSet c viol) s = .next s)

/-- R70, R72 and R73: an active edge of its clock loads both flip-flops of a clocked cell while its enable, if it has one, reads 1. An edge
that coincides with the load of the shadows leaves each shadow latch with the flip-flop value from before or from after the edge. Last,
what stands behind the statements whose next state is a settled one: settling moves no cell but the mark of a WIRE clock that is ready. -/
def Obligations.ClockedCellLoadsOnActiveEdge : Prop :=
  (∀ (c : CellRef) (viol race : Bool) (s : State), s.Canonical →
    let r := cellReed c
    let k := cellNo c
    let v := s.cell r k
    let stage := (s.bolt (s.boltOf r)).stage
    let raced := race && s.atShadowLoad (s.boltOf r)
    ctlMode (s.liveCtl r k) = 5 → s.fenced (reedTile r) = false →
    stage ≠ .notReleased → stage ≠ .halt → stage ≠ .rollback → stage ≠ .recovery → s.clockRuns r k viol = true →
    ∃ t, exec (.clockedCapture c viol race) s = .next t ∧ CellsMoved s t [16 * r + k] ∧
      ((ctlReqEn (s.liveCtl r k) 0 = true → s.reqK r k 0 = true) → viol = false →
        (t.cell r k).ffA = s.dA r k ∧ (t.cell r k).ffB = s.dB r k) ∧
      (ctlReqEn (s.liveCtl r k) 0 = true → s.reqK r k 0 = false → (t.cell r k).ffA = v.ffA ∧ (t.cell r k).ffB = v.ffB) ∧
      (raced = false → t.cell r k = { v with ffA := (t.cell r k).ffA, ffB := (t.cell r k).ffB, armed := (t.cell r k).armed }) ∧
      (raced = true → ((t.cell r k).shA = v.shA ∨ (t.cell r k).shA = (t.cell r k).ffA) ∧
        ((t.cell r k).shB = v.shB ∨ (t.cell r k).shB = (t.cell r k).ffB) ∧
        t.cell r k = { v with ffA := (t.cell r k).ffA, ffB := (t.cell r k).ffB, shA := (t.cell r k).shA, shB := (t.cell r k).shB,
                              shPar := parity4 (t.cell r k).shA (t.cell r k).shB v.shO v.shS, armed := (t.cell r k).armed })) ∧
  (∀ s : State, s.Canonical → CellsMoved s s.settle [])

/-- R99: the bits of a configuration word that an upset names change, and every other word keeps its bits. R148 and R149: a leak is
counted, marked in BOLT_LEAKED, and raises its event once in a pick. -/
def Obligations.UpsetsAndLeaksComplete : Prop :=
  (∀ (f : BitVec 24) (k : Fin 64) (mask : Dword) (s : State), s.Canonical → frameExists f.toNat = true →
    ∃ u : State, CellsMoved { s with cfgMem := u.cfgMem } u [] ∧ exec (.selectCorrupted f k mask) s = .next (u.reload f.toNat) ∧
      u.cfgWord f.toNat k = { s.cfgWord f.toNat k with flip := (s.cfgWord f.toNat k).flip ^^^ mask.setWidth 72 } ∧
      (∀ j, j ≠ 64 * f.toNat + k.val → SMap.get {} u.cfgMem j = SMap.get {} s.cfgMem j)) ∧
  (∀ (r : ReedRef) (tap : Option (Fin 96)) (handshake : Bool) (s : State), s.Canonical →
    let hit := s.leakBolts (reedIx r) (tap.map (fun k => k.val))
    ∃ t, exec (.domainLeak r tap handshake) s = .next t ∧ t = hit.foldl (fun u b => u.leaked handshake b) s ∧
      ∀ b, t.bolt b =
        if b ∈ hit then { s.bolt b with leakPick := true, leakWire := (s.bolt b).leakWire || handshake } else s.bolt b) ∧
  (∀ (b : Fin 16) (handshake : Bool) (s : State), s.Canonical →
    let v := s.bolt b
    let t := s.leaked handshake b
    (v.leakPick = true → t = { s with regs := t.regs, bolts := t.bolts } ∧ t.bit rBoltLeaked b = true ∧
      t.fld (rRollbacks b) 15 8 = min 255 (s.fld (rRollbacks b) 15 8 + 1)) ∧
    (v.leakPick = false → ∃ u : State, t = u.raiseCommit b 0x4 0 ∧ u = { s with regs := u.regs, bolts := u.bolts } ∧
      u.bit rBoltLeaked b = true ∧ u.fld (rRollbacks b) 15 8 = min 255 (s.fld (rRollbacks b) 15 8 + 1)))

/-! The pick cycle (chapter 05). -/

/-- R119, R121, R131: a bolt whose next point is within the guard closes, and the pace gate shuts. R114, R119, R123, R141: what a point of
the grid, and the closing point of a shutdown, do. -/
def Obligations.ClosingAndGridPointsComplete : Prop :=
  ((∀ (b : Fin 16) (t : Nat) (s : State), s.Canonical →
     let v := s.bolt b
     let g := s.nextPoint t
     s.gridRuns = true → s.cycling b = true → v.stage = .open → v.hold = false → s.now ≤ t → g ≤ t + s.actGuard →
     s.takesPart b g = true → s.pointOccurs g = true →
     ∃ z, exec (.closing b t) s = .next z ∧ z.bolt b = { v with stage := .closing, grid := g, gateHeld := true } ∧
       (z.bolt b).phase = 0x2 ∧ z.pick = (if s.pick.gateShut then s.pick else { s.pick with gateShut := true, gateAt := some t }) ∧ z.now = t ∧
           z = { s with now := z.now, bolts := z.bolts, pick := z.pick } ∧
       ∀ c, c ≠ b.val → z.bolt c = s.bolt c) ∧
   (∀ (t : Nat) (s : State), s.pick.gateShut = true → s.now ≤ t →
     (∀ b ∈ allBolts, s.committed b = true → (s.bolt b).gateHeld = false) →
     exec (.paceGateOpen t) s = .next { s with now := t, pick := { s.pick with gateShut := false, gateAt := some t } })) ∧
  ((∀ (t : Nat) (s : State), s.gridRuns = true → s.now ≤ t → s.gridFrom t = t → s.actOrigin ≤ t → s.pick.last ≠ some t →
     s.pointOccurs t = true →
     exec (.gridPoint t) s = .next (((({ s with now := t } : State).pickEvent 6 ((t - s.actOrigin) / s.actPeriod % 2 ^ 32)).pointAt t
       true).engineAtGrid.follow)) ∧
   (∀ (t : Nat) (s : State), s.gridRuns = true → s.now ≤ t → s.pwr.closePoint = some t →
     ∃ u : State, u = ({ s with now := t } : State).pointAt t false ∧
       exec (.closingPoint t) s = .next { u with pwr := { u.pwr with closePoint := none } }) ∧
   (∀ (g b : Nat) (s : State), s.Canonical → s.cycling b = true → (s.bolt b).hold = false → (s.bolt b).dfrozen = false →
     ((s.bolt b).stage = .closing → (s.bolt b).grid = g →
       ((s.pointAtBolt g b).bolt b).stage = .drain ∧ ((s.pointAtBolt g b).bolt b).grid = g ∧ ((s.pointAtBolt g b).bolt b).phase = 0x3) ∧
     ((s.bolt b).stage = .open → s.takesPart b g = true →
       (s.pointAtBolt g b).bolt b = { s.bolt b with
         stage := .drain, grid := g, t0 := none, unbounded := false, deferred := false, gateHeld := true }) ∧
     ((s.bolt b).stage = .overrun →
       ((s.pointAtBolt g b).bolt b).stage = .drain ∧ ((s.pointAtBolt g b).bolt b).grid = g ∧ ((s.pointAtBolt g b).bolt b).deferred = true)))

/-- R125, R127, R172: the freeze at t0, the confirmation 50 ns later, and the end of the beat-up. A beat-up is abandoned where a queue
of the bolt fails the comparison of its items (Table 8-7). R121, R127, R140, R172: how the beat-up
of a bolt ends: it opens again, is final, or was the early one of a HOLD. -/
def Obligations.BeatUpsComplete : Prop :=
  ((∀ (b : Fin 16) (t : Nat) (s : State),
     let v := s.bolt b
     v.t0 = none → s.now ≤ t → s.boltIdle b = true →
     ((s.cycling b = true ∧ v.stage = .drain ∧ (v.hold = true ∨ v.unbounded = true ∨ (v.grid ≤ t ∧ t ≤ v.grid + s.actDrainMax))) ∨
       (v.stage = .direct ∧ v.dfrozen = false ∧ s.pwr.closing = some 0 ∧ s.pwr.closeHit = true ∧
         s.pwr.closeG ≤ t ∧ t ≤ s.pwr.closeG + s.actDrainMax)) →
     exec (.freeze b t) s = .next ((({ s with now := t } : State).setBolt b { v with t0 := some t }).twillsAtFreeze b)) ∧
   (∀ (b : Fin 16) (idle : Bool) (t0 : Nat) (s : State),
     let v := s.bolt b
     let t := t0 + 50
     let u : State := { s with now := t }
     v.t0 = some t0 → s.now ≤ t → (∀ c l td, v.pend = some (c, l, td) → t < td + 20) →
     (v.stage = .drain → idle = true → u.boltIdle b = true → u.endFails b = false →
       exec (.drainConfirm b idle t) s = .next ((u.checkEnds b).beatUp b).unparkPorts) ∧
     (v.stage = .drain → idle = true → u.boltIdle b = true → u.endFails b = true →
       exec (.drainConfirm b idle t) s = .next (u.checkEnds b).unparkPorts) ∧
     (v.stage = .drain → (idle = false ∨ u.boltIdle b = false) → exec (.drainConfirm b idle t) s = .next
       ((((((u.setBolt b { v with t0 := none }).count (rBoltStat b) 7 4 1).pickEvent 4
         (place b 28 + min (2 ^ 28 - 1) (t0 - v.grid))).resumeBridges b).admitFbps b).settle).unparkPorts) ∧
     (v.stage = .direct → idle = true → u.boltIdle b = true → exec (.drainConfirm b idle t) s = .next
       (((u.setBolt b { v with t0 := none, dfrozen := true }).commitCells b).commitTwills b).unparkPorts) ∧
     (v.stage = .direct → (idle = false ∨ u.boltIdle b = false) → exec (.drainConfirm b idle t) s = .next
       (u.setBolt b { v with t0 := none }).unparkPorts))) ∧
  (∀ (b : Fin 16) (t : Nat) (s : State),
     let v := s.bolt b
     let u : State := { s with now := t }
     let f : Bolt := { v.freePace t with t0 := none, unbounded := false, gateHeld := false }
     let early := v.hold = true ∧ v.holdAt ≤ v.t0.getD 0
     let last := v.unbounded = true ∨ (s.pwr.closeHit = true ∧ s.pwr.closeG ≤ v.grid)
     let done (w : State) : State := (if (w.bolt b).stage = .beatUp then w else (w.engineAtBeatUpEnd b).follow).unparkPorts
     v.stage = .beatUp → s.now ≤ t → v.t0.getD 0 + 50 ≤ t →
     (v.hold = false → (s.pwr.closing = none ∨ ¬last) → exec (.beatUpEnd b t) s = .next (done (u.openAfterBeatUp b))) ∧
     (s.pwr.closing ≠ none → ((v.hold = false ∧ last) ∨ early) → exec (.beatUpEnd b t) s = .next
       (done (((u.setBolt b { f with stage := .closed, final := true, holdDone := v.hold }).resumeStalled b).checkFinal))) ∧
     (s.pwr.closing = none → early → exec (.beatUpEnd b t) s = .next
       (done ((u.setBolt b { f with stage := .closed, holdDone := true }).resumeStalled b))) ∧
     (v.hold = true → v.t0.getD 0 < v.holdAt → exec (.beatUpEnd b t) s = .next
       (done ((u.setBolt b { v with stage := .drain, t0 := none, unbounded := true, gateHeld := false }).resumeStalled b))))

/-- R129 and R130: a bolt that is not idle within its drain bound skips its beat-up, and enters HALT at its limit of overruns. R133 and
R155: an edge in the drain, and a fault of VFAB, at their sources. -/
def Obligations.OverrunsAndFaultSourcesComplete : Prop :=
  (∀ (b : Fin 16) (t : Nat) (s : State),
     let v := s.bolt b
     s.cycling b = true → v.stage = .drain → v.t0 = none → v.hold = false → v.unbounded = false → s.now ≤ t →
     v.grid + s.actDrainMax ≤ t →
     let last := decide (s.pwr.closing = some 1 ∧ s.pwr.closeHit = true ∧ s.pwr.closeG ≤ v.grid)
     let skipped := ({ s with now := t } : State).setBolt b
       { v.holdPace t with stage := .overrun, deferred := true, gateHeld := false, dfrozen := last }
     let u := (skipped.count (rBoltStat b) 15 8 1).count (rBoltStat b) 3 0 1
     let w := u.pickEvent 1 (place b 28 + u.fld (rBoltStat b) 3 0)
     (w.actLimit ≤ u.fld (rBoltStat b) 3 0 → exec (.pickOverrun b t) s = .next ((w.overrunHalt b).afterBolts)) ∧
     (u.fld (rBoltStat b) 3 0 < w.actLimit → exec (.pickOverrun b t) s = .next w.afterBolts)) ∧
  ((∀ (r : ReedRef) (t : Nat) (s : State),
     let b := s.boltOf (reedIx r)
     let v := s.bolt b
     let loc := place (reedP (reedIx r)) 16 + place (reedX (reedIx r)) 8 + reedY (reedIx r)
     s.committed b = true → (v.armed || (v.hold && !v.holdDone)) = true → s.watchesClock (reedIx r) = true → s.now ≤ t →
     v.stage ≠ .rollback → v.stage ≠ .halt →
     exec (.clkEdgeInDrain r t) s = .next ((({ s with now := t } : State).pickEvent 3 (place b 28 + loc)).detect b 0x04 loc)) ∧
   (∀ (p : Fin 4) (mv : BitVec 16) (t : Nat) (s : State), s.pwr.removed = false → s.now ≤ t →
     let hit := allBolts.filter (fun b => s.committed b && (s.bolt b).inWindow && (s.bolt b).panels.testBit p)
     (hit = [] → exec (.vfabFaultTrip p mv t) s = .next
       ((({ s with now := t } : State).count (regAddr .power 0 0x10C) (8 * p + 7) (8 * p) 1).raise
         ⟨.power, 0⟩ 5 (BitVec.ofNat 32 (place p 28 + mv.toNat)))) ∧
     (hit ≠ [] → exec (.vfabFaultTrip p mv t) s = .next (hit.foldl (fun s b => s.detect b 0x06 p) { s with now := t }))) ∧
   (∀ (b cause loc : Nat) (s : State), s.Canonical → s.committed b = true → (s.bolt b).stage ≠ .halt →
     (s.bolt b).stage ≠ .notReleased → 
     ((s.bolt b).pend = none → (s.detect b cause loc).bolt b = { s.bolt b with pend := some (cause, loc, s.now) }) ∧
     (∀ l, (s.bolt b).pend = some (1, l, s.now) → cause = 1 →
       (s.detect b cause loc).bolt b = { s.bolt b with pend := some (1, min l loc, s.now) }) ∧
     (∀ c l td, (s.bolt b).pend = some (c, l, td) → ¬ (c = 1 ∧ cause = 1 ∧ td = s.now) → (s.detect b cause loc).bolt b = s.bolt b)))

/-- R116 and R117: the staged settings become the active ones, the grid starts at its first point after the guard, and a bolt in OVERRUN
whose count has reached the new limit halts. R116, R142:
PICK_CMD. APPLY waits for its grid point when the fabric is released, and takes effect at once before. -/
def Obligations.PickSettingsComplete : Prop :=
  ((∀ (t : Nat) (set : List Nat) (g : Nat) (s : State), s.pick.pending = some set → s.pick.released = true → s.pick.last = some g →
     s.pick.g ≤ g → s.now ≤ t →
     (∀ b ∈ allBolts, s.committed b = true → (s.bolt b).grid = s.pick.g →
       (s.bolt b).gateHeld = false ∧ (s.bolt b).stage ≠ .rollback ∧ (s.bolt b).stage ≠ .recovery) →
     let late (u : State) (b : Nat) : Bool :=
       u.committed b && decide ((u.bolt b).stage = .overrun ∧ u.actLimit ≤ u.fld (rBoltStat b) 3 0)
     exec (.applied t) s = .next ((allBolts.foldl (fun u b => if late u b then u.overrunHalt b else u)
       (({ s with now := t } : State).switchTo set)).afterBolts)) ∧
   (∀ (period guard drain window limit origin : Nat) (s : State), s.Canonical →
     period < 2 ^ 32 → guard < 2 ^ 24 → drain < 2 ^ 24 → window < 2 ^ 24 → limit < 16 → origin < 2 ^ 64 →
     let t := s.switchTo [period, guard, drain, window, limit, origin]
     t.actPeriod = period ∧ t.actGuard = guard ∧ t.actDrainMax = drain ∧ t.actMinWindow = window ∧ t.actLimit = limit ∧
       t.actOrigin = origin ∧ t.pick.pending = none ∧ t.pick.first = gridAtOrAfter origin period (s.now + guard + 200))) ∧
  (∀ (m : Master) (v : Word) (s : State), s.Canonical →
     let p : Page := ⟨.pick, 0⟩
     let u := s.recorded m.id p 0x05C v
     let w := if bitOf v 1 then pickClearOp u else u
     s.Accepts m.id p 0x05C v →
     (bitOf v 0 = true → s.pick.released = false → exec (.pickApply m v) s = .next ((w.switchTo w.staged_).done m.id p 0x05C)) ∧
     (bitOf v 0 = true → s.pick.released = true →
       ∃ t, exec (.pickApply m v) s = .next t ∧ t.pick.pending = some s.staged_ ∧ t.resp.code = 0 ∧
         t.pick.g = (match s.pick.pending with | some _ => s.pick.g | none => s.gridFrom s.now) ∧
         t = { s with regs := t.regs, ev := t.ev, log := t.log, pick := t.pick, resp := t.resp, jtag := { s.jtag with out := t.jtag.out } }) ∧
     (bitOf v 0 = false → bitOf v 1 = true →
       ∃ t, exec (.pickClrCounts m v) s = .next t ∧ (∀ b ∈ allBolts, t.fld (rBoltStat b) 31 4 = 0) ∧
         (∀ b ∈ allBolts, t.fld (rBoltStat b) 3 0 = s.fld (rBoltStat b) 3 0) ∧
         t.resp.code = 0 ∧ t = { s with regs := t.regs, ev := t.ev, log := t.log, resp := t.resp, jtag := { s.jtag with out := t.jtag.out } }))

/-! Accesses of register pages (chapter 02). -/

/-- R46, R481: an accepted write leaves its value in the writable fields of its register and an entry in the change log, and touches no
other register than those of that record. R46, R49, R50: a write that fails a check changes no register beside the record of its
rejection, and is answered with the code; a rejected read gives 0, to a host no data.
What a rejection means for a host or for an engine is `State.noteRejection`. -/
def Obligations.WritesLeaveTheirRecord : Prop :=
  (∀ (m off : Nat) (p : Page) (v : Word) (s : State), s.Canonical → (p.kind = .serdes → off < 0x100) → off ≠ 0x020 → perIdentity p off = false →
     off < 0x1000 → p.inst < p.kind.info.2.1 →
     let u := s.recorded m p off v
     u.reg (p.base + off) = writtenWord (fieldsAt p off) (s.reg (p.base + off)) v ∧
     (∀ a, a ≠ p.base + off → a ≠ p.base + 0x028 → a ≠ regAddr .log 0 0x014 → a ≠ regAddr .event 0 0x048 → u.reg a = s.reg a) ∧
     (logged p off = false → u.log = s.log ∧ u.ev = s.ev) ∧
     (logged p off = true → ∃ e : LogEntry, e.time = s.now ∧ e.origin = m ∧ e.addr = p.base + off ∧
       (s.log.entries.length < logSize → u.log.entries = s.log.entries ++ [e])) ∧
     u = { s with regs := u.regs, ev := u.ev, log := u.log, resp := {} }) ∧
  ((∀ (m : Master) (k : PageKind) (n off : Nat) (be : BitVec 4) (v : Word) (c : Nat) (s : State), s.Canonical → s.inReset = false →
     n < k.info.2.1 → off < 0x1000 → off % 4 = 0 → (k = .serdes → off < 0x100) →
     s.waits { master := m.id, addr := regAddr k n off, write := true, value := v, be := be.toNat } = false →
     (s.begun ⟨k, n⟩ off).writeFails m.id ⟨k, n⟩ off be.toNat ((s.begun ⟨k, n⟩ off).view m.id ⟨k, n⟩ off) v = some c →
     ∃ t : State, exec (.registerWrite m (BitVec.ofNat 32 (regAddr k n off)) be v) s = .next t.noteRejection ∧
       t.fld (regAddr k n 0x020) 7 0 = c ∧ t.fld (regAddr k n 0x020) 23 16 = min 255 (s.fld (regAddr k n 0x020) 23 16 + 1) ∧
       t.reg (regAddr k n 0x024) = BitVec.ofNat 32 (place m.id 26 + flag true 25 + off) ∧
       t.resp = ⟨m.id, true, regAddr k n off, [], c, .success⟩ ∧
       (∀ a, a ≠ regAddr k n 0x020 → a ≠ regAddr k n 0x024 → t.reg a = s.reg a) ∧
       t = { s with regs := t.regs, resp := t.resp, jtag := if m = .jtag then { s.jtag with out := 0 } else s.jtag } ∧
       (m.isHost = false → enginePage m.id = none → t.noteRejection = t)) ∧
   (∀ (m : Master) (addr : BitVec 32) (s : State), s.Canonical → s.inReset = false → inFabricWindow addr.toNat = false →
     pageOf addr.toNat = none → s.waits { master := m.id, addr := addr.toNat } = false →
     ∃ t : State, exec (.pairLoRead m addr) s = .next t.noteRejection ∧ t.resp.code = codeUnmapped ∧
       t.resp.data = (if m.isHost then [] else [0]) ∧ t.fld (regAddr .device 0 0x020) 7 0 = codeUnmapped ∧
       t.reg (regAddr .device 0 0x024) = BitVec.ofNat 32 (place m.id 26 + addr.toNat % 0x1000) ∧
       (enginePage m.id = none → t.noteRejection = t)))

/-- R43, R46: an accepted write of a register has its effect, and is answered with code 0. -/
def Obligations.AcceptedWriteHasItsEffect : Prop :=
  ∀ (m : Master) (k : PageKind) (n off : Nat) (v : Word) (s : State), n < k.info.2.1 → off < 0x1000 → off % 4 = 0 →
    s.Accepts m.id ⟨k, n⟩ off v → isStart ⟨k, n⟩ off v = false → ¬ (k = .log ∧ off = 0x058) →
    ((s.begun ⟨k, n⟩ off).effectOf m.id ⟨k, n⟩ off ((s.begun ⟨k, n⟩ off).view m.id ⟨k, n⟩ off) v).waits = false →
    ∃ t, exec (.registerWrite m (BitVec.ofNat 32 (regAddr k n off)) 15 v) s = .next t ∧
      t = (State.effectAt m.id ⟨k, n⟩ off ((s.begun ⟨k, n⟩ off).view m.id ⟨k, n⟩ off) v (s.recorded m.id ⟨k, n⟩ off v)).done m.id ⟨k, n⟩
        off ∧
      t.resp = ⟨m.id, true, regAddr k n off, [], 0, .success⟩

/-! Bolts (chapter 06). -/

/-- R157, R163, R173: a rollback starts and ends, and a HOLD ends. R156, R160, R163, R174: BOLT_CMD rolls a bolt back, halts it, lets it
resume, and clears its counts. -/
def Obligations.BoltsComplete : Prop :=
  ((∀ (b : Fin 16) (upset : Option ShadowUpset) (t cause loc td : Nat) (s : State),
     let v := s.bolt b
     let u : State := { upsetShadow upset s with now := t }
     v.pend = some (cause, loc, td) → s.committed b = true → v.stage ≠ .halt → v.stage ≠ .notReleased → s.now ≤ t →
     (s.atShadowLoad b = true → s.now < t) →
     (v.stage = .rollback → exec (.rollback b upset t) s = .next (u.setBolt b { v with pend := none })) ∧
     (v.stage ≠ .rollback →
       exec (.rollback b upset t) s = .next ((((((((((u.setBolt b
         { v with stage := .rollback, tf := t, pend := none, t0 := none, final := false, resuming := false }).setFld (rCause b) 23 16
         cause).setReg (rFaultLoc b) (BitVec.ofNat 32 loc)).setReg (rLastTime b) (BitVec.ofNat 32 t)).count (rRollbacks b) 31 16 1).count
         (rRollbacks b) 1 0 1).setFld (rBoltStat b) 3 0 0).logBolt b 0x9 cause).raiseCommit b 0x1 cause).restoreBolt b))) ∧
   (∀ (b : Fin 16) (t : Nat) (s : State),
     let v := s.bolt b
     let u : State := { s with now := t }
     let w := if v.resuming then u else u.setFld (rCause b) 15 0 (min 65535 (t - v.tf))
     v.stage = .rollback → v.recov = false → s.now ≤ t →
     (v.shadowBad = true → exec (.rollbackEnd b t) s = .next (w.enterHalt b 0x11).afterBolts.unparkPorts) ∧
     (v.shadowBad = false → v.resuming = false → 3 ≤ s.fld (rRollbacks b) 1 0 →
       exec (.rollbackEnd b t) s = .next (w.enterHalt b 0x10).afterBolts.unparkPorts) ∧
     (v.shadowBad = false → (v.resuming = true ∨ s.fld (rRollbacks b) 1 0 < 3) → v.forceHalt = true →
       exec (.rollbackEnd b t) s = .next (w.enterHalt b 0x14).afterBolts.unparkPorts) ∧
     (v.shadowBad = false → (v.resuming = true ∨ s.fld (rRollbacks b) 1 0 < 3) → v.forceHalt = false →
       exec (.rollbackEnd b t) s = .next (w.resumeOpen b).afterBolts.unparkPorts)) ∧
   (∀ (b : Fin 16) (t : Nat) (s : State),
     let v := s.bolt b
     let u := (({ s with now := t } : State).setBolt b { v with hold := false, holdDone := false }).raiseCommit b 0x6 0
     v.hold = true → s.inWarning b = false → s.now ≤ t →
     (v.stage = .closed → v.final = false → exec (.holdEnd b t) s = .next (u.resumeOpen b).unparkPorts) ∧
     (¬ (v.stage = .closed ∧ v.final = false) → exec (.holdEnd b t) s = .next u.unparkPorts))) ∧
  (∀ (m : Master) (b : Fin 16) (s : State), s.Canonical →
     let p : Page := ⟨.commit, 0⟩
     let v := s.bolt b
     let u (k : Nat) := s.recorded m.id p 0x04C (boltCommand k b)
     (s.Accepts m.id p 0x04C (boltCommand 1 b) →
       ∃ t, exec (.boltRollback m b) s = .next t ∧ t.bolt b = { v with pend := some (v.pend.getD (0x07, 0, s.now)) } ∧
         t = ((u 1).setBolt b { v with pend := some (v.pend.getD (0x07, 0, s.now)) }).done m.id p 0x04C) ∧
     (s.Accepts m.id p 0x04C (boltCommand 2 b) →
       ((v.stage = .rollback ∨ v.stage = .recovery) → exec (.boltHalt m b) s =
         .next (((((u 2).setBolt b { v with forceHalt := true }).engineFollow.follow).done m.id p 0x04C).afterBolts)) ∧
       (v.stage ≠ .rollback → v.stage ≠ .recovery → exec (.boltHalt m b) s =
         .next (((((u 2).enterHalt b 0x14).engineFollow.follow).done m.id p 0x04C).afterBolts))) ∧
     (∀ upset, (upsetShadow upset s).Accepts m.id p 0x04C (boltCommand 3 b) →
       let x := (upsetShadow upset s).recorded m.id p 0x04C (boltCommand 3 b)
       let y := (((x.setFld (rRollbacks b) 1 0 0).setFld (rBoltStat b) 3 0 0).forgetRewoven b).leaveHalt b
       exec (.boltResume m b upset) s = .next (((y.setBolt b
         { v with stage := .rollback, tf := s.now, resuming := true, shadowBad := false }).restoreBolt b).done m.id p 0x04C)) ∧
     (s.Accepts m.id p 0x04C (boltCommand 4 b) →
       ∃ t, exec (.boltClearCounts m b) s = .next t ∧ t.fld (rRollbacks b) 31 16 = 0 ∧ t.fld (rRollbacks b) 15 8 = 0 ∧
         t.fld (rRollbacks b) 7 0 = s.fld (rRollbacks b) 7 0 ∧
         t = { s with regs := t.regs, ev := t.ev, log := t.log, resp := t.resp, jtag := { s.jtag with out := t.jtag.out } } ∧
         t.resp.code = 0))

/-- R58 and R59: what beat-up stores in the shadows of a cell is what a rollback gives back to it, and a stored shadow has even parity. R152:
one changed bit of a stored shadow is found. The field `armed` is that of a clocked cell (R70), which settling wires may set. -/
def Obligations.CheckpointRestoresTheCell : Prop :=
  (∀ (b r c : Nat) (s : State), s.Canonical → c < 16 →
    let u := s.commitCells b
    let w := u.restoreCells (fun r => u.restoresReed b r)
    (s.boltOf r = b → u.cell r c = commitCell (s.cell r c) ∧ shadowBad (u.cell r c) = false ∧
      (w.cell r c = { (if s.fenced (reedTile r) then u.cell r c else restoreCell (u.cell r c)) with armed := (w.cell r c).armed })) ∧
    (s.boltOf r ≠ b → u.cell r c = s.cell r c ∧ w.cell r c = { s.cell r c with armed := (w.cell r c).armed }) ∧
    (∀ v : Cell, (restoreCell (commitCell v)).ffA = v.ffA ∧ (restoreCell (commitCell v)).ffB = v.ffB ∧
      (restoreCell (commitCell v)).oreq = v.oreq ∧ (restoreCell (commitCell v)).slot = v.slot ∧ (restoreCell (commitCell v)).ack = false)) ∧
  (∀ (c : CellRef) (i : Fin 5) (s : State), s.Canonical →
    let t := upsetShadow (some (.cell c (BitVec.ofNat 5 (2 ^ i.val)))) s
    shadowBad (t.cell (cellReed c) (cellNo c)) = !shadowBad (s.cell (cellReed c) (cellNo c)) ∧ t = { s with cells := t.cells })

/-! Creel memory (chapter 07). -/

/-- R178, R182, R189: the handshakes of a fabric port of a creel, by the levels on its wires. R183 to R195: an access of the array in arrival
order, by what it finds; `state` and `upset` are the bits of the word's state and of its log entry that have changed (R187, R188). -/
def Obligations.CreelPortsComplete : Prop :=
  (∀ (n : Fin 8192) (p : PortSide) (s : State), s.Canonical → s.portLive n p = true →
     let v := s.creel n
     let w := v.port p
     let q := s.creelToken n p
     let c := (s.portTarget n p q.adr).1
     (s.creelLevel n p 0 = true → w.rq = false → w.req = none → w.resp = none → w.rsLow = false →
       (s.creelMode n = modeQueue → ∃ t, exec (.creelPortRequest n p) s = .next t ∧
         CellsMoved (s.setCreel n (v.setPort p { w with rq := true, req := some q })) t []) ∧
       (s.creelMode n ≠ modeQueue → q.adr < s.portRange n p → (q.we && s.undoFull n c) = false →
         ∃ t, exec (.creelPortRequest n p) s = .next t ∧
           CellsMoved (s.setCreel n { (v.setPort p { w with rq := true, ack := true, req := some q }) with order := v.order ++ [p] }) t []) ∧
       (s.creelMode n ≠ modeQueue → q.adr < s.portRange n p → (q.we && s.undoFull n c) = true →
         exec (.creelPortRequest n p) s = .next (s.stallWrite n p c q).settle) ∧
       (s.creelMode n ≠ modeQueue → s.portRange n p ≤ q.adr → exec (.creelPortRequest n p) s = .next s.settle)) ∧
     (s.creelLevel n p 0 = false → w.rq = true → w.ack = true →
       ∃ t, exec (.creelRqReqFall n p) s = .next t ∧ CellsMoved (s.setCreel n (v.setPort p { w with rq := false, ack := false })) t []) ∧
     (s.creelLevel n p 1 = true → w.resp ≠ none → w.rsLow = false →
       ∃ t, exec (.creelResponseAck n p) s = .next t ∧ CellsMoved (s.setCreel n (v.setPort p { w with resp := none, rsLow := true })) t [])) ∧
  (∀ (n : Fin 8192) (state : BitVec 3) (upset : BitVec 72) (p : PortSide) (rest : List PortSide) (q : CReq) (s : State),
     let v := s.creel n
     let c := (s.portTarget n p q.adr).1
     let w := (s.portTarget n p q.adr).2.1
     let lane := (s.portTarget n p q.adr).2.2
     let shape := s.creelShape n p
     let rom := s.creelMode n = modeRom
     let mirror := s.creelMode n = modeMirror
     let u := if mirror then (s.setCreel n { v with order := rest }).upsetMirror c w state else s.setCreel n { v with order := rest }
     let phys := u.physOf c w
     let word := u.arrWord c phys
     let bad := mirror ∧ w ∈ (u.creel c).badPar
     v.order = p :: rest → (v.port p).req = some q → s.portLive n p = true →
     (q.we = true → rom → exec (.creelArrayAccess n state upset) s = .next ((u.creelEvent c 4).respond n p ⟨0, true, false, false⟩).settle) ∧
     (q.we = true → ¬rom → shape = 0 → exec (.creelArrayAccess n state upset) s = .next ((u.writeLogical c w q.wdata upset).respond n p
         ⟨0, false, false, false⟩).settle) ∧
     ((q.we = false ∨ (¬rom ∧ shape ≠ 0)) → bad →
       exec (.creelArrayAccess n state upset) s = .next (u.deliverBad n p c phys 5 (laneOf (word.data ^^^ word.flip.setWidth 64) shape lane)
           q.we).settle) ∧
     (q.we = true → ¬rom → shape ≠ 0 → ¬bad →
       (∀ d, word.decode = .clean d →
         exec (.creelArrayAccess n state upset) s = .next ((u.writeLogical c w (mergeLane d q.wdata shape lane) upset).respond n p
             ⟨0, false, false, false⟩).settle) ∧
       (∀ d, word.decode = .corrected d → exec (.creelArrayAccess n state upset) s = .next
         (((u.noteCorrected c phys).writeLogical c w (mergeLane d q.wdata shape lane) upset).respond n p ⟨0, false, false, false⟩).settle)) ∧
     (q.we = false → ¬bad →
       (∀ d, word.decode = .clean d → exec (.creelArrayAccess n state upset) s = .next (u.respond n p ⟨laneOf d shape lane, false, false, false⟩).settle) ∧
       (∀ d, word.decode = .corrected d →
         exec (.creelArrayAccess n state upset) s = .next ((u.noteCorrected c phys).respond n p ⟨laneOf d shape lane, false, false, false⟩).settle)) ∧
     ((q.we = false ∨ (¬rom ∧ shape ≠ 0)) → ¬bad →
       ∀ raw, word.decode = .bad raw → exec (.creelArrayAccess n state upset) s = .next (u.deliverBad n p c phys (portSource p)
           (laneOf raw shape lane) q.we).settle))

/-- R187, R188: in a COMMITTED bolt a MIRROR write leaves the old word in the other slot, and an UNDO write leaves it in the log; so a
rollback gives it back, where at most one bit of the log entry has changed. -/
def Obligations.CreelWritesCanBeUndone : Prop :=
  ∀ (n w : Nat) (d : Dword) (upset : BitVec 72) (s : State), s.Canonical → s.creelCommitted n = true → w < 512 →
    let v := s.creel n
    let t := s.writeLogical n w d upset
    (s.creelMode n = modeMirror → w ∉ v.dirty → v.cur.Nodup →
      t.arrWord n ((t.creel n).slot w) = freshWord d ∧ (t.creel n).slot w ≠ v.slot w ∧ t.arrWord n (v.slot w) = s.arrWord n (v.slot w) ∧
        w ∈ (t.creel n).dirty) ∧
    (s.creelMode n = modeMirror → w ∈ v.dirty → t.arrWord n (v.slot w) = freshWord d ∧
      t.creel n = { v with badPar := v.badPar.erase w }) ∧
    (s.creelMode n = modeUndo →
      t.arrWord n w = freshWord d ∧ (t.creel n).undo = ⟨w, s.arrWord n w, upset⟩ :: v.undo ∧
        (v.undo = [] → weight72 upset ≤ 1 → (t.undoRevert n).arrWord n w = s.arrWord n w ∧ ((t.undoRevert n).creel n).undo = []))

/-- R194, R196: a corrected word goes back to the array, and the scrubber reads the next word. R197, R199, R202: the bus window of a
creel, and the clearing of its counts. -/
def Obligations.CreelScrubberAndWindowComplete : Prop :=
  (∀ (n : Fin 8192) (s : State), s.Canonical →
     let v := s.creel n
     (∀ (w : Nat) (rest : List Nat) (d : Dword), v.writeback = w :: rest → s.vfabRemoved (creelPanel n) = false → (s.arrWord n w).decode = .corrected d →
       ∃ t, exec (.correctedWriteback n) s = .next t ∧ t.arrWord n w = freshWord d ∧ (t.arrWord n w).decode = .clean d ∧
         t.creel n = { v with writeback := rest } ∧ t = { s with arrays := t.arrays, creels := t.creels }) ∧
     (s.fld (creelBase n + 0x048) 23 0 ≠ 0 → s.vfabRemoved (creelPanel n) = false →
       let u := s.setCreel n { v with scrubPos := (v.scrubPos + 1) % 1024 }
       (∀ d, (s.arrWord n v.scrubPos).decode = .clean d → exec (.creelScrubRead n) s = .next u) ∧
       (∀ d, (s.arrWord n v.scrubPos).decode = .corrected d → exec (.creelScrubRead n) s = .next (u.noteCorrected n v.scrubPos)) ∧
       (∀ raw, (s.arrWord n v.scrubPos).decode = .bad raw → exec (.creelScrubRead n) s = .next (u.noteUe n v.scrubPos 4 2)))) ∧
  (∀ (m : Master) (n : Fin 8192) (word : BitVec 10) (s : State), s.Canonical →
     let p : Page := ⟨.creel, n⟩
     let w := word.toNat
     s.winWaits n = false →
     (∀ view, s.Accepts m.id p 0x060 (winCommand 1 view w) →
       exec (.winRead m n view word) s = .next ((winRead n view w (s.recorded m.id p 0x060 (winCommand 1 view w))).done m.id p 0x060)) ∧
     (s.Accepts m.id p 0x060 (winCommand 2 false w) →
       exec (.winWrite m n word) s = .next ((winWrite n w (s.recorded m.id p 0x060 (winCommand 2 false w))).done m.id p 0x060)) ∧
     (s.Accepts m.id p 0x060 (winCommand 3 false w) →
       exec (.winInject m n word) s = .next ((winInject n w (s.recorded m.id p 0x060 (winCommand 3 false w))).done m.id p 0x060)) ∧
     (∀ v, s.Accepts m.id p 0x048 v → bitOf v 31 = true →
       ∃ t, exec (.creelClrCounts m n v) s = .next t ∧ t.reg (creelBase n + 0x04C) = 0 ∧ t.reg (creelBase n + 0x050) = 0 ∧
         t.reg (creelBase n + 0x054) = 0 ∧ t.resp.code = 0 ∧
         t = { s with regs := t.regs, ev := t.ev, log := t.log, resp := t.resp, jtag := { s.jtag with out := t.jtag.out } }))

/-! Creel queues (chapter 08). -/

/-- R215, R217: a push token at the fabric end, and a pop, by what the controller makes of them; `parked` tells a waiting one. R217, R226,
R228, R230, R231: the bus end of a queue and its commands. -/
def Obligations.QueueEndsComplete : Prop :=
  (∀ (n : Fin 8192) (perr : Bool) (upset : Option QUpset) (q : CReq) (s : State), s.isQueue n = true →
     ((s.creel n).portA.req = some q → s.portLive n .a = true →
       let a := queuePushOp n (s.wrKind n) q.wdata q.last q.abort perr s
       let t : State := match a.2 with
         | .mustWait => a.1.setPort n .a { (a.1.creel n).portA with parked := true }
         | .faulty => a.1.setPort n .a { (a.1.creel n).portA with parked := false }
         | .accepted => (a.1.setPort n .a { (a.1.creel n).portA with ack := true }).respond n .a ⟨0, false, false, false⟩
         | .refused => (a.1.setPort n .a { (a.1.creel n).portA with ack := true }).respond n .a ⟨0, true, false, false⟩
       ((s.creel n).portA.parked = false → exec (.queuePush n perr upset) s = .next (upsetQueue n upset t).settle) ∧
       ((s.creel n).portA.parked = true → exec (.blockedPushTaken n perr) s = .next t.settle)) ∧
     ((s.creel n).portB.req = some q → s.portLive n .b = true →
       let a := queuePopOp n (s.rdKind n) 2 s
       let t : State := match a.2 with
         | .mustWait => a.1.setPort n .b { (a.1.creel n).portB with parked := true }
         | .faulty => a.1.setPort n .b { (a.1.creel n).portB with parked := false }
         | .got r => (a.1.setPort n .b { (a.1.creel n).portB with ack := true }).respond n .b ⟨r.value, r.ue, r.nv, r.plast⟩
       ((s.creel n).portB.parked = false → exec (.queuePop n upset) s = .next (upsetQueue n upset t).settle) ∧
       ((s.creel n).portB.parked = true → exec (.blockedPopTaken n) s = .next t.settle))) ∧
  (∀ (m : Master) (n : Fin 8192) (perr : Bool) (upset : Option QUpset) (s : State), s.Canonical →
     let p : Page := ⟨.creel, n⟩
     let u (off : Nat) (v : Word) := s.recorded m.id p off v
     let e := markElement n perr s
     (e.Accepts m.id p 0x158 0 → exec (.qPushElement m n perr upset) s = .next (upsetQueue n upset
       ((busPush n m.id false false (e.recorded m.id p 0x158 0)).1.done m.id p 0x158))) ∧
     (e.Accepts m.id p 0x158 1 →
       exec (.qPushLast m n perr) s = .next ((busPush n m.id true false (e.recorded m.id p 0x158 1)).1.done m.id p 0x158)) ∧
     (s.Accepts m.id p 0x158 2 → exec (.qPushAbort m n) s = .next ((busPush n m.id false true (u 0x158 2)).1.done m.id p 0x158)) ∧
     (s.AcceptsRead m.id p 0x160 → exec (.qPopLo m n upset) s = .next (upsetQueue n upset
       ((busPop n m.id s.forgetAnswer).1.readDone m.id p 0x160 (busPop n m.id s.forgetAnswer).2))) ∧
     (s.Accepts m.id p 0x108 1 → exec (.qFlush m n) s = .next ((queueFlush n (u 0x108 1)).done m.id p 0x108)) ∧
     (s.Accepts m.id p 0x108 2 → exec (.qFlushNow m n) s = .next ((queueFlushNow n (u 0x108 2)).done m.id p 0x108)) ∧
     (s.Accepts m.id p 0x108 4 → ∃ t, exec (.qClrCounts m n) s = .next t ∧
       (∀ o ∈ [0x124, 0x128, 0x12C, 0x130, 0x134, 0x138, 0x13C, 0x140], t.reg (creelBase n + o) = 0) ∧ t.resp.code = 0 ∧
       t = { s with regs := t.regs, ev := t.ev, log := t.log, resp := t.resp, jtag := { s.jtag with out := t.jtag.out } }))

/-- R209 to R216: the controller of a queue without packets keeps its elements in order: the element pushed onto an empty queue is the
one the next pop gives, both pointers advance by one, and the queue is empty again. -/
def Obligations.QueueKeepsItsElements : Prop :=
  ∀ (n kind kind2 source : Nat) (elem : Dword) (last abort : Bool) (s : State), s.Canonical → s.qPacket n = false → s.qTagged n = false →
    s.wrCommitted n = false → s.rdCommitted n = false → s.popStopped n = false →
    let q := s.queue n
    q.live.orphan = false → q.live.open_ = false → q.live.wp = q.live.pc → q.live.wp < 2048 → q.live.rpEff = q.live.wp →
    q.live.fm = q.live.rp →
    ∃ (t u : State), queueStore n kind elem last abort false s = (t, .accepted) ∧ t.qLevel n = 1 ∧
      (t.queue n).live.wp = ptrAdd q.live.wp 1 ∧
      queueTake n kind2 source t = (u, .got ⟨BitVec.ofNat 64 (elem.toNat % 2 ^ s.qWidth n), false, false, false⟩) ∧ u.qLevel n = 0 ∧
      (u.queue n).live.rp = ptrAdd q.live.wp 1

/-! Twill blocks (chapter 09). -/

/-- R234, R237, R238, R239: the handshakes of a twill block by the levels on its wires, a capture with the residues of its operands, and the
token of its cascade. R247, R249: TW_INJECT arms one inversion, and TW_CMD clears the error counts of the blocks it names. -/
def Obligations.TwillHandshakesAndCommandsComplete : Prop :=
  (∀ (n : Fin 4096) (s : State), s.Canonical → s.twillLive n = true →
     let v := s.twill n
     let o := s.twillOperands n
     (s.twillLevel n 0 = true → v.rq = false → v.inHand < 8 →
       ∃ t, exec (.twillOperationCapture n) s = .next t ∧ CellsMoved (s.setTwill n
         { v with rq := true, ack := true, ops := v.ops ++ [{ o with rho := (s.twOperands n o).map residue }] }) t []) ∧
     (s.twillLevel n 0 = false → v.rq = true →
       ∃ t, exec (.twillRqReqFall n) s = .next t ∧ CellsMoved (s.setTwill n { v with rq := false, ack := false }) t []) ∧
     (∀ x rest, v.link = x :: rest → s.twCascIn n = true → v.base = none → v.ops ≠ [] →
       ∃ t, exec (.twillCascadeToken n) s = .next t ∧ t.twill n = { v with link := rest, base := some x } ∧
         (∀ k, k ≠ n.val → t.twill k = s.twill k) ∧ t = { s with twills := t.twills }) ∧
     (s.twillLevel n 1 = true → v.resps ≠ [] → v.rsLow = false →
       ∃ t, exec (.twillResponseAck n) s = .next t ∧ CellsMoved (s.setTwill n { v with resps := v.resps.drop 1, rsLow := true }) t [])) ∧
  ((∀ (m : Master) (n : Fin 4096) (v : Word) (s : State), s.Canonical →
     let p : Page := ⟨.twill, n / 16⟩
     let off := 0x114 + 0x20 * (n.val % 16)
     s.Accepts m.id p off v →
     ∃ t, exec (.twInject m n v) s = .next t ∧ t = (s.recorded m.id p off v).done m.id p off ∧
       t.reg (rTwInject n) = writtenWord (fieldsAt p off) (s.reg (rTwInject n)) v) ∧
   (∀ (m : Master) (k : Fin 256) (v : Word) (s : State), s.Canonical → s.Accepts m.id ⟨.twill, k⟩ 0x040 v →
     ∃ t, exec (.twillClrCounts m k v) s = .next t ∧ t.resp.code = 0 ∧
       (∀ i < 16, v.toNat.testBit i = true → t.reg (rTwErrs (16 * k + i)) = 0) ∧
       (∀ i < 16, v.toNat.testBit i = false → t.reg (rTwErrs (16 * k + i)) = s.reg (rTwErrs (16 * k + i))) ∧
       t = { s with regs := t.regs, ev := t.ev, log := t.log, resp := t.resp, jtag := { s.jtag with out := t.jtag.out } }))

/-- R236, R238, R240, R241, R247: the oldest operation of a block completes: a check point that fails withholds the answer in a COMMITTED bolt;
else the accumulator, the response and the cascade token are those of the operation. R235, R236, R239: without upset and cascade, a
multiply-add adds its exact product to the accumulator modulo 2^64 and passes every check point. -/
def Obligations.TwillOperationCompletes : Prop :=
  (∀ (n : Fin 4096) (upset : TwUpset) (o : TwOp) (rest : List TwOp) (s : State), s.twillLive n = true →
    let v := s.twill n
    let x := o.upset upset
    let r := s.twCompute n x (v.base.map (fun k => k.upset upset)) (s.twInjected n upset)
    let acc : Dword := BitVec.ofNat 64 (wrapTo 64 r.value)
    let res := residue (signedOf 64 acc.toNat)
    let answer (err : Bool) : List TwResp := if x.emit then v.resps ++ [⟨acc, r.wrap, err⟩] else v.resps
    let s0 := if s.bit (rTwInject n) 31 then s.setBit (rTwInject n) 31 false else s
    let after (err : Bool) : State :=
      (s0.setTwill n (({ v with ops := rest, base := none, acc := acc, res := res, resps := answer err } : Twill).upset upset)).sendToken n
        ⟨acc, res⟩
    let wrapped (u : State) : State := if r.wrap then (u.count (rTwErrs n) 15 8 1).pulse .twill (n / 16) (16 + n % 16) else u
    v.ops = o :: rest → v.faulty = false → (s.twCascIn n = true → v.base ≠ none) →
    (∀ st, r.bad = some st → s.committed (s.twOwner n) = true →
      exec (.twillOperationComplete n upset) s = .next ((s0.setTwill n { v with faulty := true }).residueFault n st).settle) ∧
    (∀ st, r.bad = some st → s.committed (s.twOwner n) = false →
      exec (.twillOperationComplete n upset) s = .next (wrapped ((after true).residueFault n st)).settle) ∧
    (r.bad = none → exec (.twillOperationComplete n upset) s = .next (wrapped (after false)).settle)) ∧
  (∀ (n : Nat) (o : TwOp) (s : State), s.twMode n = 2 → s.twPreadd n = 0 → s.twSignA n = true → s.twSignB n = true →
    s.twCascIn n = false → o.rho = (s.twOperands n o).map residue →
    (s.twill n).res = residue (signedOf 64 (s.twill n).acc.toNat) →
    let base := if o.clr then 0 else signedOf 64 (s.twill n).acc.toNat
    let term := signedOf 24 o.a.toNat * signedOf 24 o.b.toNat
    let exact := if o.neg then base - term else base + term
    (s.twCompute n o none {}).value = signedOf 64 (wrapTo 64 exact) ∧ (s.twCompute n o none {}).bad = none)

/-! Bridges, fabric bus ports and pace generators (chapter 10). -/

/-- R256, R257: a SAMPLE2 attempt samples the source register twice; samples that differ are thrown away, and 16 failures in a row raise
UNSTABLE. R258, R259, R261, R262: what a HOLD bridge does with an offered value, and a pulse bridge with a source pulse. R254, R260, R269: a
token of the fabric side of an OUT bridge, and the words of a QUEUE bridge at both sides. R255, R264, Table 10-4: the crossings of an item. -/
def Obligations.BridgesComplete : Prop :=
  (∀ (n : Fin 320) (at_ : SampleTime) (s : State), s.svMode n = brSample2 → (s.bridge n).resync = false → s.svRuns n = true →
     let v := s.bridge n
     let w : Bridge := { v with old := v.src }
     let x := if at_ = .after then v.old else v.src
     (at_ = .during → v.src ≠ v.old → v.fails + 1 = 16 → exec (.sample2Attempt n at_) s = .next
       (((s.setBridge n { w with fails := 16, unstable := true }).count (rSvCnt n) 23 16 1).svEvent n 1)) ∧
     (at_ = .during → v.src ≠ v.old → v.fails + 1 ≠ 16 → exec (.sample2Attempt n at_) s = .next
       (s.setBridge n { w with fails := min 16 (v.fails + 1) })) ∧
     ((at_ = .during → v.src = v.old) → s.svOut n = true → exec (.sample2Attempt n at_) s = .next (s.setBridge n
       { w with fails := 0, unstable := false, last := x, out := if x = v.last then v.out else some x })) ∧
     ((at_ = .during → v.src = v.old) → s.svOut n = false → exec (.sample2Attempt n at_) s = .next
       ((s.setBridge n { w with fails := 0, unstable := false, agreed := some x }).presentNext n))) ∧
  (∀ (n : Fin 320) (x : Dword) (s : State), let v := s.bridge n
     s.svMode n = brHold → v.resync = false → s.svRuns n = true → 160 ≤ n.val → s.svOut n = false →
     (v.hold = none → exec (.holdOffer n x) s = .next (s.setBridge n { v with hold := some (s.svMask n x), hs := 1 })) ∧
     (v.hold ≠ none → v.waiting = none → exec (.holdOffer n x) s = .next (s.setBridge n { v with waiting := some (s.svMask n x) })) ∧
     (v.hold ≠ none → v.waiting ≠ none → exec (.holdOffer n x) s = .next
       (((s.setBridge n { v with waiting := some (s.svMask n x) }).count (rSvCnt n) 31 24 1).svEvent n 0))) ∧
  (∀ (n : Fin 320) (s : State), let v := s.bridge n
     s.svMode n = brCount ∨ s.svMode n = brMerge → v.resync = false → s.svRuns n = true → 160 ≤ n.val → s.svOut n = false →
     let top := if s.svMode n = brMerge then 1 else 15
     (v.pend < top → exec (.bridgePulse n) s = .next (s.setBridge n
       { v with pend := v.pend + 1, hs := if v.hs = 0 ∧ v.read < v.pend + 1 then 1 else v.hs })) ∧
     (top ≤ v.pend → exec (.bridgePulse n) s = .next ((s.count (rSvCnt n) 31 24 1).svEvent n 0))) ∧
  (∀ (n : Fin 320) (s : State), let v := s.bridge n
     s.svOut n = true → s.svMode n ≠ brBusport → s.bridgeLevel n 0 = true → s.bridgeLive n = true → v.sink = {} →
     (s.sinkOpen n = true → exec (.bridgeFabricToken n) s = .next (s.sinkTake n (s.channelWord n 0)).settle) ∧
     (s.sinkOpen n = false → exec (.bridgeFabricToken n) s = .next (s.setBridge n { v with sink := { parked := some (s.channelWord n 0) } }).settle) ∧
     (s.svMode n = brHold → ∀ x, exec (.holdOffer n x) s = exec (.bridgeFabricToken n) s) ∧
     (s.svMode n = brCount ∨ s.svMode n = brMerge → exec (.bridgePulse n) s = exec (.bridgeFabricToken n) s)) ∧
  (∀ (n : Fin 320) (x : Dword) (s : State), let v := s.bridge n
     s.Canonical → s.svMode n = brQueue → ((s.sinkTake n x).bridge n) = { v with sink := { ack := true }, fifo := v.fifo ++ [s.svMask n x] }) ∧
  (∀ (n : Fin 320) (d : FlagDir) (s : State), let v := s.bridge n
     let hold := decide (s.svMode n = brHold)
     let toDest := d == (if s.svOut n then FlagDir.toClocked else .toFabric)
     s.Canonical → s.svMode n = brHold ∨ s.svMode n = brCount ∨ s.svMode n = brMerge → v.resync = false → s.svRuns n = true →
     (v.hs = 1 → toDest = true → s.svOut n = false → exec (.bridgeFlagCrossed n d) s = .next ((s.setBridge n { v with hs := 2 }).presentNext n).settle) ∧
     (v.hs = 1 → toDest = true → s.svOut n = true → hold = true →
       exec (.bridgeFlagCrossed n d) s = .next (s.setBridge n { v with hs := 3, out := v.hold, last := v.hold.getD 0 }).settle) ∧
     (v.hs = 1 → toDest = true → s.svOut n = true → hold = false →
       let t := s.setBridge n { v with hs := 3, strobes := v.strobes + 1 }
       exec (.bridgeFlagCrossed n d) s = .next (if 288 ≤ n.val ∧ n.val < 304 then t.addCredits (n - 288) 1 else t).settle) ∧
     (v.hs = 3 → toDest = false → exec (.bridgeFlagCrossed n d) s = .next (s.setBridge n { v with hs := 4 }).settle) ∧
     (v.hs = 4 → toDest = true → exec (.bridgeFlagCrossed n d) s = .next (s.setBridge n
       { v with hs := 5, chan := if v.chan.stale then v.chan else v.chan.fall }).settle) ∧
     (v.hs = 5 → toDest = false → hold = true → exec (.bridgeFlagCrossed n d) s = .next (s.setBridge n
       { v with hold := v.waiting, waiting := none, taken := false, hs := if v.waiting.isSome then 1 else 0 }).settle) ∧
     (v.hs = 5 → toDest = false → hold = false →
       let pend := if s.svOut n || !s.svCommitted n then v.pend - 1 else v.pend
       exec (.bridgeFlagCrossed n d) s = .next (s.setBridge n
         { v with pend := pend, taken := false, hs := if v.read < pend then 1 else 0 }).settle)) ∧
  (∀ (n : Fin 320) (s : State), let v := s.bridge n
     let com := s.svCommitted n
     let w : Bridge := { v with chan := v.chan.fall }
     s.svMode n ≠ brBusport → s.svOut n = false → s.bridgeLevel n 1 = true → s.bridgeLive n = true → v.chan.token ≠ none →
     (v.chan.stale = true → exec (.bridgeFabricToken n) s = .next (s.setBridge n w).settle) ∧
     (v.chan.stale = false →
       (s.svMode n = brSample2 → exec (.bridgeFabricToken n) s = .next ((s.setBridge n w).presentNext n).settle) ∧
       (s.svMode n = brQueue → exec (.bridgeFabricToken n) s = .next (s.setBridge n
         (if com then { w with read := v.read + 1 } else { w with fifo := v.fifo.drop 1 })).settle) ∧
       (s.svMode n = brHold → v.taken = false → exec (.bridgeFabricToken n) s = .next (s.setBridge n
         (if com then { w with taken := true } else { v with taken := true, hs := 3 })).settle) ∧
       (s.svMode n = brCount ∨ s.svMode n = brMerge → v.taken = false → exec (.bridgeFabricToken n) s = .next (s.setBridge n
         (if com then { w with taken := true, hs := 3, read := v.read + 1 } else { v with taken := true, hs := 3 })).settle))) ∧
  (∀ (n : Fin 320) (s : State), s.hasWord n = true →
     let t := clockedRead n s
     let x := (s.bridge n).fifo.headD 0
     let lane : Prop := 160 ≤ n.val ∧ n.val < 256 ∧ 4 ≤ n.val % 8
     (s.Canonical → (s.bridge n).sink.parked = none → t = s.setBridge n { (s.bridge n) with
       fifo := (s.bridge n).fifo.drop 1, shCount := (s.bridge n).shCount - 1, out := (s.bridge n).fifo.head? }) ∧
     (n.val < 160 ∨ 304 ≤ n.val ∨ 256 ≤ n.val ∧ n.val < 288 → exec (.bridgeClockedRead n) s = .next t.settle) ∧
     (288 ≤ n.val → n.val < 304 → exec (.bridgeClockedRead n) s = .next (t.addCredits (n - 288) (fieldOf x 15 0)).settle) ∧
     (lane → s.txReads ((n.val - 160) / 8) (n.val % 8 - 4) = true →
       exec (.bridgeClockedRead n) s = .next (t.sendWord ((n - 160) / 8) (n % 8 - 4) x).settle) ∧
     (lane → s.txReads ((n.val - 160) / 8) (n.val % 8 - 4) = false → exec (.bridgeClockedRead n) s = .next s.settle)) ∧
  (∀ (n : Fin 320) (x torn : Dword) (s : State), s.svOut n = false → s.svMode n = brQueue →
     let v := s.bridge n
     (160 ≤ n.val → ¬ (n.val < 256 ∧ n.val % 8 < 4) → s.svRuns n = true →
       (v.resync = false → v.fifo.length < 16 → exec (.bridgeClockedWrite n x torn) s = .next
         (s.setBridge n { v with fifo := v.fifo ++ [s.svMask n x] })) ∧
       (v.resync = true ∨ 16 ≤ v.fifo.length → exec (.bridgeClockedWrite n x torn) s = .next s)) ∧
     (160 ≤ n.val → n.val < 256 → n.val % 8 < 4 →
       exec (.bridgeClockedWrite n x torn) s = .next (rxBridgeWrite ((n - 160) / 8) (n % 8) x s)) ∧
     (n.val < 160 → s.svRuns n = true → s.Canonical →
       let y := s.bankWord n torn
       let u := (if torn = 0 then s else { s with free := s.free + 64 }).setBridge n { v with src := y }
       (v.resync = false → v.fifo.length < 16 → exec (.bridgeClockedWrite n x torn) s = .next (u.enqueue n y)) ∧
       (v.resync = true ∨ 16 ≤ v.fifo.length → exec (.bridgeClockedWrite n x torn) s = .next ((u.count (rSvCnt n) 31 24 1).svEvent n 0))))

/-- R266: a rollback of an OUT QUEUE bridge leaves the words of the checkpoint that its reader has not taken, and discards the others;
`taken` words have been taken since, and `more` have been written. The reader of an IN bridge gets back the words it has read, and every
handshake wire of the fabric side starts at zero. R264: the beat-up makes what the fabric has taken final. -/
def Obligations.BridgeRollbackComplete : Prop :=
  (∀ (n : Nat) (s : State), s.Canonical → s.svMode n = brQueue →
    let v := s.bridge n
    (s.svOut n = true → ((s.commitBridge n).bridge n).shCount = v.fifo.length ∧
      ∀ (taken : Nat) (more : List Dword),
        let now := s.setBridge n { v with fifo := (v.fifo ++ more).drop taken, shCount := v.fifo.length - taken }
        let r := (now.restoreBridge n).bridge n
        r.fifo = v.fifo.drop taken ∧ r.out = v.out ∧ r.chan = {} ∧ r.sink = {}) ∧
    (s.svOut n = false →
      ((s.restoreBridge n).bridge n).unread = v.fifo ∧ ((s.restoreBridge n).bridge n).chan = {} ∧
        ((s.commitBridge n).bridge n).unread = v.unread ∧ ((s.commitBridge n).bridge n).fifo = v.unread)) ∧
  (∀ (n : Nat) (s : State), s.Canonical → s.svOut n = false →
    let v := s.bridge n
    (s.svMode n = brSample2 → ((s.commitBridge n).bridge n).shLast = v.last ∧ ((s.restoreBridge n).bridge n).last = v.shLast ∧
      ((s.restoreBridge n).bridge n).offer = none) ∧
    (s.svMode n = brHold → v.hs = 2 → v.taken = true → ((s.commitBridge n).bridge n).hs = 3 ∧ ((s.restoreBridge n).bridge n).taken = false ∧
      ((s.restoreBridge n).bridge n).hold = v.hold) ∧
    (s.svMode n = brCount ∨ s.svMode n = brMerge →
      ((s.commitBridge n).bridge n).pend = v.pend - v.read ∧ ((s.commitBridge n).bridge n).read = 0 ∧
      ((s.restoreBridge n).bridge n).pend = v.pend ∧ ((s.restoreBridge n).bridge n).read = 0))

/-- R267, R268, R270, R271, R286: RESYNC on command and its end, a stopped clock and its return, and the clearing of the counts. Time for
which the gate of a pick-aligned net holds its clock is no stopped clock. -/
def Obligations.ResyncAndStoppedClocksComplete : Prop :=
  (∀ (m : Master) (k : Fin 40) (v : Word) (s : State), s.Accepts m.id ⟨.selvedge, k⟩ 0x040 v →
    let u := (List.range 8).foldl (fun s i => if bitOf v (8 + i) then s.setReg (rSvCnt (8 * k + i)) 0 else s) (s.recorded m.id ⟨.selvedge, k⟩
      0x040 v)
    let t := ((List.range 8).foldl (fun s i => if bitOf v i then s.resyncBridge (8 * k + i) false else s) u).done m.id ⟨.selvedge, k⟩ 0x040
    exec (.svResync m k v) s = .next t ∧ exec (.svClrCounts m k v) s = .next t) ∧
  (∀ (n : Fin 320) (s : State), s.Canonical → s.svMode n ≠ brOff → s.svMode n ≠ brBusport →
    let v := s.bridge n
    let t := s.resyncBridge n false
    let w : Bridge := { v with resync := true, done := false, rsFabric := false, rsStep := 2, chan := { v.chan with stale := v.chan.token.isSome } }
    (s.svOut n = true → t.bridge n = { w with last := if s.svMode n = brSample2 then 0 else v.last, taken := false } ∧
        t = { s with bridges := t.bridges }) ∧
    (s.svOut n = false → t.bridge n = { w with fifo := [], hold := none, waiting := none, pend := 0, hs := 0, offer := none, agreed := none } ∧
      t.fld (rSvCnt n) 15 8 = min 255 (s.fld (rSvCnt n) 15 8 + v.items) ∧ t = { s with bridges := t.bridges, regs := t.regs })) ∧
  (∀ (n : Fin 320) (s : State), let v := s.bridge n
    n.val < 256 → s.svMode n ≠ brBusport → v.resync = true → s.svRuns n = true →
    (v.rsStep = 2 → exec (.bridgeFlagCrossed n v.resyncDir) s = .next ((s.setBridge n { v with rsStep := 3 }).zeroSide n (!v.rsFabric)).settle) ∧
    (v.rsStep = 3 ∨ v.rsStep = 4 → exec (.bridgeFlagCrossed n v.resyncDir) s = .next (s.setBridge n { v with rsStep := v.rsStep + 1 }).settle) ∧
    (v.rsStep = 5 → exec (.bridgeFlagCrossed n v.resyncDir) s = .next (((s.setBridge n
      { v with resync := false, done := true, rsStep := 0 }).takeParked n).svEvent n 3).settle)) ∧
  (∀ (n : Fin 320) (t : Nat) (s : State), s.svMode n ≠ brOff → s.now ≤ t →
    let v := s.bridge n
    let u : State := { s with now := t }
    let aligned := s.netAligned (s.svClock n - 28)
    (v.clkLost = false → s.domainRuns (s.svClock n) = false →
      s.svClock n < 28 ∨ aligned = false ∨ s.pick.gateShut = false ∧ (∀ a, s.pick.gateAt = some a → a + 2560 ≤ t) →
      exec (.clockLost n t) s = .next (((u.setBridge n { v with clkLost := true }).count (rSvCnt n) 7 0 1).svEvent n 2)) ∧
    (s.domainRuns (s.svClock n) = true →
      exec (.bridgeClockReturn n t) s = .next ((u.setBridge n { v with clkLost := false }).takeParked n).settle))

/-- R273 to R277, R288, R269: a fabric bus port answers its masters, issues the requests of user logic, and hands over the answers; in
RESYNC it holds what comes. R24, R38, R44, R51: an access of a fabric window is issued to its port or waits for its slot; one that waits goes
on in its turn; it ends with TIMEOUT after 65,536 ns, and its late answer is counted. -/
def Obligations.BusPortsAndWaitsComplete : Prop :=
  (∀ (n : Fin 32) (s : State),
     let v := s.fbp n
     let br := portBridge n
     (s.bridgeLevel br 66 = true → s.bridgeLive br = true → v.tResp = {} →
       let x := s.channelWord br 66
       let u := s.setFbp n { v with tResp := { ack := true } }
       ((s.bridge br).resync = true → exec (.fbpTargetResponse n) s = .next (s.setFbp n { v with tResp := { parked := some x } }).settle) ∧
       ((s.bridge br).resync = false →
         (s.oldestAccess n = none → exec (.fbpTargetResponse n) s = .next ((u.count (rFbpCnt n) 15 8 1).fbpEvent n 2).settle) ∧
         (∀ (i : Nat) (e : Issued), s.oldestAccess n = some i → s.issued[i]? = some e →
           let w : State := { u with issued := s.issued.eraseIdx i }
           (e.tag ≠ some (fieldOf x 40 33) →
             exec (.fbpTargetResponse n) s = .next ((u.count (rFbpCnt n) 15 8 1).fbpEvent n 2).settle) ∧
           (e.tag = some (fieldOf x 40 33) → e.timedOut = false → bitOf x 32 = false → exec (.fbpTargetResponse n) s = .next
             ((w.deliver e (if e.write then 0 else x.setWidth 32) 0).admitAll n).settle) ∧
           (e.tag = some (fieldOf x 40 33) → e.timedOut = false → bitOf x 32 = true → exec (.fbpTargetResponse n) s = .next
             (((w.recordRejection (fbpPage n) e.master e.write (e.addr % 0x1000) codeNotPermitted).deliver e 0 codeNotPermitted).admitAll
               n).settle) ∧
           (e.tag = some (fieldOf x 40 33) → e.timedOut = true → exec (.fbpTargetResponse n) s = .next
             ((w.setFbp n { (w.fbp n) with late := (w.fbp n).late + 1 }).admitAll n).settle)))) ∧
     (s.bridgeLevel br 132 = true → s.initOpen n = true → v.iReq = {} →
       let x := s.channelWord br 132
       ((s.bridge br).resync = false → v.reqs.length < 16 → exec (.fbpInitiatorRequest n) s = .next
         ((s.setFbp n { v with iReq := { ack := true } }).issueInit n (4 * fieldOf x 29 0) (bitOf x 30) (BitVec.ofNat 32 (fieldOf x 62 31))).settle) ∧
       ((s.bridge br).resync = true ∨ 16 ≤ v.reqs.length → exec (.fbpInitiatorRequest n) s = .next
         (s.setFbp n { v with iReq := { parked := some x } }).settle)) ∧
     (∀ r rest code data, v.reqs = r :: rest → r.answer = some (code, data) → v.iReq.parked = none → s.Canonical →
       (r.discard = true → exec (.fbpInitiatorResponse n) s = .next (s.setFbp n { v with reqs := rest }).settle) ∧
       (r.discard = false → v.queue.length < 16 →
         let w := s.setFbp n { v with reqs := rest, queue := v.queue ++ [⟨code, data, r.ckpt⟩] }
         (code = 0 → exec (.fbpInitiatorResponse n) s = .next w.settle) ∧
         (code ≠ 0 → exec (.fbpInitiatorResponse n) s = .next
           ((((w.count (rFbpCnt n) 7 0 1).setReg (fbpReg n 0x10C) (BitVec.ofNat 32 code)).setReg (fbpReg n 0x110)
             (BitVec.ofNat 32 r.addr)).fbpEvent n 3).settle))) ∧
     (∀ (m : Master) (k : Fin 8) (w : Word), s.Accepts m.id ⟨.fbp, k⟩ 0x040 w → exec (.fbpClrCounts m k w) s = .next
       ((fbpClear k (fieldOf w 3 0) (s.recorded m.id ⟨.fbp, k⟩ 0x040 w)).done m.id ⟨.fbp, k⟩ 0x040))) ∧
  ((∀ (m : Master) (off : BitVec 26) (write : Bool) (data : Word) (s : State), s.inReset = false → (m.isHost && s.shuttingDown) = false →
     (m = .jtag → s.debugOpen = true) →
     let n := off.toNat / 0x0020_0000
     let e : Issued := { master := m.id, addr := 0x0400_0000 + off.toNat / 4 * 4, write := write, value := data }
     (s.waits e = false → exec (.fabricWindowAccess m off write data) s = .next
       (({ s with resp := {}, issued := s.issued ++ [{ e with port := some n, time := s.now }] } : State).admitAll n)) ∧
     (s.slotsUsed m.id = 64 → exec (.fabricWindowAccess m off write data) s = .next
       { s with resp := {}, slotWait := s.slotWait ++ [e] }) ∧
     (s.waits e = true → s.slotsUsed m.id < 64 → (∀ o ∈ s.slotWait, o.master ≠ m.id) → exec (.fabricWindowAccess m off write data) s = .next
       { s with resp := {}, issued := s.issued ++ [{ e with time := s.now }] })) ∧
   (∀ (m : Master) (i : Nat) (e : Issued) (s : State), s.nextHeldBack m.id = some i → s.issued[i]? = some e →
     exec (.busSlotGranted m) s = .next (access (fun s => (e.perform s).conclude e) { s with issued := s.issued.eraseIdx i })) ∧
   (∀ (m : Master) (i : Nat) (e : Issued) (s : State), s.nextHeldBack m.id = none →
     s.slotWait.findIdx? (fun e => decide (e.master = m.id)) = some i → s.slotWait[i]? = some e → s.slotsUsed m.id < 64 →
     let w : State := { s with slotWait := s.slotWait.eraseIdx i }
     let x : Issued := { e with time := s.now }
     ((∀ o ∈ s.issued, o.holds e = false) → exec (.busSlotGranted m) s = .next (access (fun s => (e.perform s).conclude x) w)) ∧
     ((∃ o ∈ s.issued, o.holds e = true) → exec (.busSlotGranted m) s = .next { w with issued := s.issued ++ [x] })) ∧
   (∀ (i t : Nat) (e : Issued) (s : State), s.issued[i]? = some e → e.timedOut = false → e.time + 65536 ≤ t → s.now ≤ t →
     exec (.busTimeout i t) s = .next (({ s with now := t, issued := s.issued.modify i (fun e => { e with timedOut := true }) } :
       State).endTimeout e)) ∧
   (∀ (n t : Nat) (s : State), 0 < (s.fbp n).late → s.now ≤ t → exec (.lateCompletion n t) s = .next
     (((({ s with now := t } : State).setFbp n { (s.fbp n) with late := (s.fbp n).late - 1 }).count (rFbpCnt n) 23 16 1).fbpEvent n 1)))

/-- R279, R280, R284, R290, R291: a pace generator stages and takes its settings, keeps or loses its lock with them, locks, loses and regains
its reference, and measures. -/
def Obligations.PaceGeneratorsComplete : Prop :=
  ∀ (g : Fin 32) (t : Nat) (s : State), s.now ≤ t → s.Canonical →
    let v := s.pace g
    let u : State := { s with now := t }
    let cnt := paceBase g + 0x058
    let turned (on : Bool) : Option Nat := if v.locked = on then v.turn else some t
    (∀ (m : Master) (w : Word), s.Accepts m.id ⟨.pace, g⟩ 0x050 w →
      let r := s.recorded m.id ⟨.pace, g⟩ 0x050 w
      let r1 := if bitOf w 1 then r.setReg cnt 0 else r
      let z := (if bitOf w 0 then r1.setPace g { v with pending := some (s.paceStaged g) } else r1).done m.id ⟨.pace, g⟩ 0x050
      exec (.paceApply m g w) s = .next z ∧ exec (.paceClrCounts m g w) s = .next z) ∧
    (∀ x, v.pending = some x → (x.sameClock v.act && v.locked) = false →
      exec (.paceSettingsTaken g t) s = .next
        ((u.setPace g { v with
          act := x, pending := none, locked := false, relock := bitOf x.cfg 31, turn := turned false,
          refOk := if fieldOf x.cfg 29 28 = 0 then !s.pwr.refLost else v.refOk && decide (fieldOf x.cfg 29 24 = fieldOf v.act.cfg 29 24)
              }).paceEvent g 3)) ∧
    (∀ x, v.pending = some x → x.sameClock v.act = true → v.locked = true → v.refOk = true → s.pwr.refLost = false →
      exec (.paceSettingsTaken g t) s = .next ((u.setPace g { v with act := x, pending := none, relock := false }).paceEvent g 3)) ∧
    (v.relock = true → v.refOk = true → s.pwr.removed = false → exec (.paceLocked g t) s = .next
      ((u.setPace g { v with locked := true, relock := false, turn := turned true }).paceEvent g 0)) ∧
    (v.enabled = true → v.refOk = true → exec (.paceRefLost g t) s = .next
      (((((u.setPace g { v with refOk := false, locked := false, relock := false, turn := turned false }).count cnt 31 16 1).count cnt 15 0
        1).paceEvent g 1).paceEvent g 2)) ∧
    (v.enabled = false → exec (.paceRefLost g t) s = .next
      (u.setPace g { v with refOk := false, locked := false, relock := false, turn := turned false })) ∧
    (v.refOk = false → exec (.paceRefReturn g t) s = .next (u.setPace g { v with refOk := true, relock := v.enabled })) ∧
    (v.locked = true → v.refOk = true → exec (.paceLockLost g t) s = .next
      (((u.setPace g { v with locked := false, relock := true, turn := some t }).count cnt 31 16 1).paceEvent g 1)) ∧
    (∀ edges : BitVec 21, exec (.paceMeasure g edges t) s = .next (u.setReg (regAddr .pace g 0x054) (edges.setWidth 32)))

/-! The header registers of a page, and the host's requests (chapters 02 and 15). -/

/-- R40, R47, R562: ERR_CODE.CLEAR and PAGE_LOCK, and a read that captures the other half of a pair. -/
def Obligations.PageHeaderCommandsComplete : Prop :=
  (∀ (m : Master) (k : PageKind) (n : Nat) (v : Word) (s : State), s.Canonical → n < k.info.2.1 → s.Accepts m.id ⟨k, n⟩ 0x020 v →
    ∃ t, exec (.errCodeClear m (BitVec.ofNat 20 (regAddr k n 0 / 0x1000)) v) s = .next t ∧ t.resp.code = 0 ∧
      (bitOf v 31 = true → t.reg (regAddr k n 0x020) = 0 ∧ t.reg (regAddr k n 0x024) = 0 ∧
        ∀ a, a ≠ regAddr k n 0x020 → a ≠ regAddr k n 0x024 → t.reg a = s.reg a) ∧
      (bitOf v 31 = false → t.regs = s.regs) ∧ t = { s with regs := t.regs, resp := t.resp, jtag := { s.jtag with out := t.jtag.out } }) ∧
  (∀ (m : Master) (k : PageKind) (n : Nat) (v : Word) (s : State), s.Canonical → n < k.info.2.1 → s.Accepts m.id ⟨k, n⟩ 0x030 v →
    exec (.pageLockSet m (BitVec.ofNat 20 (regAddr k n 0 / 0x1000)) v) s = .next ((s.recorded m.id ⟨k, n⟩ 0x030 v).done m.id
      ⟨k, n⟩ 0x030) ∧ ((s.recorded m.id ⟨k, n⟩ 0x030 v).bit (regAddr k n 0x030) 0 = (s.bit (regAddr k n 0x030) 0 || bitOf v 0))) ∧
  (∀ (m : Master) (k : PageKind) (n off : Nat) (s : State), s.Canonical → n < k.info.2.1 → off < 0x1000 → off % 4 = 0 →
    pairLo ⟨k, n⟩ off = true → s.AcceptsRead m.id ⟨k, n⟩ off →
    ∃ t, exec (.pairLoRead m (BitVec.ofNat 32 (regAddr k n off))) s = .next t ∧
      t.resp = ⟨m.id, false, regAddr k n off, [s.forgetAnswer.view m.id ⟨k, n⟩ off], 0, .success⟩ ∧
      t.cap m.id (regAddr k n off + 4) = some (s.forgetAnswer.view m.id ⟨k, n⟩ (off + 4)) ∧
      t = { s with caps := t.caps, resp := t.resp, jtag := { s.jtag with out := t.jtag.out } })

/-- R43, R404, R408, R409, R413, R414, R417: a memory request that the endpoint takes is carried out DWord by DWord, one that it does not
take is unsupported, one that comes without a credit is held in the host, and a configuration request is answered by what its function
lets it do. -/
def Obligations.HostRequestsComplete : Prop :=
  (∀ (f : Fin 4) (bar : Bar) (off : BitVec 32) (op : HostOp) (be last : BitVec 4) (ws : List Word) (len : Fin 1025) (s : State),
    s.linkIsUp = true → hostRequestOk off.toNat (decide (op = .write)) ws len = true →
    let write := decide (op = .write)
    let n := if op = .write then ws.length else len.val
    let live := s.inFlr f = false ∧ s.msEnabled f = true ∧ s.inD3 f = false ∧ (s.pf0Alone = true → f = 0)
    let credit : Prop := if op = .write then s.postedRoom ws.length = true else s.hostWaiting < 256
    (¬ credit → ∀ p e, exec (.hostMemoryRequest f bar off op be last ws len p e) s = .next s.forgetAnswer) ∧
    (credit →
      (∀ p, s.pciBit f pciAerCtl 8 = true → exec (.hostMemoryRequest f bar off op be last ws len p true) s = .next (s.aer f 19).forgetAnswer) ∧
      (∀ p, op = .io ∨ op = .atomic → exec (.hostMemoryRequest f bar off op be last ws len p false) s = .next (s.unsupported f false off.toNat)) ∧
      (op = .read ∨ op = .write →
        (¬ live → ∀ p, exec (.hostMemoryRequest f bar off op be last ws len p false) s = .next (s.unsupported f write off.toNat)) ∧
        (live → exec (.hostMemoryRequest f bar off op be last ws len true false) s = .next ((s.aerAdvisory f 12).unsupported f write off.toNat)) ∧
        (live → barSize f bar < off.toNat + 4 * n → exec (.hostMemoryRequest f bar off op be last ws len false false)
            s = .next (s.unsupported f write off.toNat)) ∧
        (live → off.toNat + 4 * n ≤ barSize f bar → msixSizeBad bar off.toNat n be.toNat last.toNat write = true →
          exec (.hostMemoryRequest f bar off op be last ws len false false)
              s = .next (access (fun s => s.hostAnswer f write off.toNat [] codeBadSize (if write then .success else .abort)) s)) ∧
        (live → off.toNat + 4 * n ≤ barSize f bar → msixSizeBad bar off.toNat n be.toNat last.toNat write = false →
          let u := s.noteHostPeak (s.hostWaiting + 1)
          let id := s.pcie.nextRead
          (op = .write → exec (.hostMemoryRequest f bar off op be last ws len false false) s = .next
            (hostWrite f bar last.toNat id off.toNat 0 be.toNat ws { s with pcie := { s.pcie with nextRead := id + 1 } })) ∧
          (op = .read → n = 1 → exec (.hostMemoryRequest f bar off op be last ws len false false)
              s = .next (access (hostWord f bar off.toNat { master := 8 + f }) u)) ∧
          (op = .read → 1 < n → bar = .bar0 → (∃ k < n, sideEffectAt (bar0Address f off.toNat + 4 * k) = true) →
            exec (.hostMemoryRequest f bar off op be last ws len false false) s = .next (u.hostAnswer f false off.toNat [] codeNotPermitted .abort)) ∧
          (op = .read → 1 < n → (bar = .bar0 → ∀ k < n, sideEffectAt (bar0Address f off.toNat + 4 * k) = false) →
            exec (.hostMemoryRequest f bar off op be last ws len false false) s = .next (hostReadWords f bar off.toNat id n { u with pcie := { u.pcie with
              hostReads := u.pcie.hostReads ++ [⟨id, f, off.toNat, n, [], []⟩], nextRead := id + 1 } }))))))  ∧
  (∀ (f : Fin 4) (off : BitVec 12) (v : Word) (s : State), s.linkIsUp = true → off.toNat % 4 = 0 →
    (s.configurable f = true →
      exec (.configRequest f off false v) s = .next { s with resp := ⟨8 + f, false, off.toNat, [s.pciRead f off.toNat], 0, .success⟩ }.follow ∧
      exec (.configRequest f off true v) s = .next
        { configWrite f off.toNat v s with resp := ⟨8 + f, true, off.toNat, [], 0, .success⟩ }.follow) ∧
    (∀ write, s.boot.stage ≠ .up →
      exec (.configRequest f off write v) s = .next { s with resp := ⟨8 + f, write, off.toNat, [], 0, .retry⟩ }.follow) ∧
    (∀ write, s.boot.stage = .up → s.pf0Alone = true → f ≠ 0 →
      exec (.configRequest f off write v) s = .next { s with resp := ⟨8 + f, write, off.toNat, [], 0, .unsupported⟩ }.follow) ∧
    (∀ write, s.boot.stage = .up → s.pf0Alone = false → s.inFlr f = true →
      exec (.configRequest f off write v) s = .next { s with resp := ⟨8 + f, write, off.toNat, [], 0, .retry⟩ }.follow))

/-- R403, R415 to R418, R437: the link trains, comes up, changes its speed and goes down, and PERST resets the endpoint. R411, R417, R418,
R420, R437: what happens at a function, the oldest vector request, a PTM dialogue, and the clearing of the counts. -/
def Obligations.LinkAndFunctionEventsComplete : Prop :=
  ((∀ (t : Nat) (s : State), s.linkIsUp = false → s.boot.stage ≠ .held → s.now ≤ t →
     exec (.linkTrainingStart t) s = .next { s with now := t, pcie := { s.pcie with training := true } }) ∧
   (∀ (speed : BitVec 3) (width : BitVec 5) (s : State), s.Canonical → linkSpeedOk speed.toNat = true → linkWidthOk width.toNat = true →
     s.pcie.training = true → s.linkIsUp = false →
     ∃ u : State, exec (.linkUp speed width) s = .next (u.pcieEvent 0 0) ∧ u.linkIsUp = true ∧ u.fld rLink 30 28 = speed.toNat ∧
       u.fld rLink 27 23 = width.toNat ∧ u.fld rLink 15 0 = s.fld rLink 15 0 ∧
       u = { s with regs := u.regs, pcie := { s.pcie with training := false } }) ∧
   (∀ (speed : BitVec 3) (s : State), s.Canonical → linkSpeedOk speed.toNat = true → s.linkIsUp = true → s.fld rLink 30 28 ≠ speed.toNat →
     ∃ u : State, exec (.speedChange speed) s = .next (u.pcieEvent 2 0) ∧ u.fld rLink 30 28 = speed.toNat ∧ u.linkIsUp = true ∧
       u.fld rLink 15 0 = min 65535 (s.fld rLink 15 0 + 1) ∧ u = { s with regs := u.regs }) ∧
   (∀ s : State, s.linkIsUp = true → exec .linkDown s = .next (s.endpointReset).follow) ∧
   (∀ s : State, exec .perst s = .next (s.endpointReset).follow)) ∧
  ((∀ (f : Fin 4) (s : State), s.configurable f = true →
     let u := (s.resetFunction f).resetChannels (fun g => decide (g = f.val))
     exec (.flr f) s = .next (((({ u with pcie := { u.pcie with flr := u.pcie.flr ||| 2 ^ f.val } } : State).unhear (fun g => decide (g =
       f.val))).identityReset (8 + f)).pcieEvent 3 f).follow ∧
     (s.bmEnabled f = true → exec (.bmeClear f) s = .next
       (((s.setPci f pciCommand (withBit (s.pciReg f pciCommand) 2 false)).pcieEvent 6 f).advanceAll)) ∧
     (s.inD3 f = false → exec (.d3Entry f) s = .next
       (((s.setPci f pciPmcsr (withField (s.pciReg f pciPmcsr) 1 0 3)).pcieEvent 7 f).advanceAll)) ∧
     (s.inD3 f = true → exec (.d0Return f) s = .next
       ((s.setPci f pciPmcsr (withField (s.pciReg f pciPmcsr) 1 0 0)).functionOpens f)) ∧
     (s.inD3 f = false → s.bmEnabled f = false → exec (.d0Return f) s = .next
       ((s.setPci f pciCommand (withBit (s.pciReg f pciCommand) 2 true)).functionOpens f))) ∧
   (∀ (f : Fin 4) (s : State), s.inFlr f = true →
     exec (.flrComplete f) s = .next { s with pcie := { s.pcie with flr := s.pcie.flr - 2 ^ f.val } }) ∧
   (∀ (k : Nat) (rest : List Nat) (s : State), s.ev.msixWait = k :: rest →
     let u : State := { s with ev := { s.ev with msixWait := rest } }
     (s.sendable k = true → exec .msixMessage s = .next (u.sendVector k)) ∧
     (s.sendable k = false → s.msixOn (k / 256) = true → exec .msixMessage s = .next (u.setPending k true)) ∧
     (s.msixOn (k / 256) = false → exec .msixMessage s = .next u)) ∧
   (∀ (offset : Dword) (t : Nat) (s : State), s.Canonical → s.linkIsUp = true → s.bit rPtmCtrl 31 = true → s.pciBit 0 pciPtmCtl 0 = true →
     s.now ≤ t → (∀ last, s.pcie.ptmAt = some last → last + 1000000 * s.fld rPtmCtrl 15 0 ≤ t) →
     (∃ u : State, exec (.ptmDialogue true offset t) s = .next (u.pulse .time 0 0) ∧ u.pair rOffsetLo rOffsetHi = offset.toNat ∧
       u.bit rPtmStat 31 = true ∧ u.fld rPtmStat 15 0 = min 65535 (s.fld rPtmStat 15 0 + 1) ∧ u.reg rPtmLast = BitVec.ofNat 32 t ∧
       u = { s with now := t, regs := u.regs, pcie := { s.pcie with ptmAt := some t } }) ∧
     (∃ u : State, exec (.ptmDialogue false offset t) s = .next u ∧ u.fld rPtmStat 23 16 = min 255 (s.fld rPtmStat 23 16 + 1) ∧
       u.fld rPtmStat 15 0 = min 65535 (s.fld rPtmStat 15 0 + 1) ∧ u = { s with now := t, regs := u.regs, pcie := { s.pcie with ptmAt := some t } })) ∧
   (∀ (m : Master) (v : Word) (s : State), s.Canonical → s.Accepts m.id ⟨.pcie, 0⟩ 0x054 v → bitOf v 0 = true →
     ∃ t, exec (.pcieClrCounts m v) s = .next t ∧ t.resp.code = 0 ∧ t.fld rLink 15 0 = 0 ∧ t.fld rTagPeak 25 16 = 0 ∧
       t.fld rHostNp 24 16 = 0 ∧ t.reg rDrops = 0 ∧ t.linkIsUp = s.linkIsUp ∧
       t = { s with regs := t.regs, ev := t.ev, log := t.log, resp := t.resp, jtag := { s.jtag with out := t.jtag.out } }))

/-! Spool DMA (chapter 15). -/

/-- R425, R427, R433, R434: a channel is enabled, stopped and reset, and its doorbells rung, by writes of its registers. R427, R429, R430,
R431, R434: a channel polls its queue, ends a descriptor that idles, writes its records, and discards a tail. -/
def Obligations.ChannelsComplete : Prop :=
  (∀ (m : Master) (ch : Fin 64) (s : State),
     let p : Page := ⟨.dma, ch / 4⟩
     let off := 0x100 + 0x80 * (ch.val % 4)
     let v := s.chan ch
     (s.Accepts m.id p (off + 0x18) 1 → v.state = .disabled →
       let u := s.recorded m.id p (off + 0x18) 1
       let w : Chan := { v with
           state := .running, size := elementSize (u.qWidth (u.chCreel ch)), fetched := u.fld (rChCi ch) 15 0, credit := 0,
           polled := none, waiting := false }
       exec (.dmaEnable m ch) s = .next (((u.setChan ch w).advance ch).done m.id p (off + 0x18))) ∧
     (s.Accepts m.id p (off + 0x18) 0 → (v.state = .running ∨ v.state = .paused) →
       exec (.dmaDisable m ch) s = .next ((((s.recorded m.id p (off + 0x18) 0).setChan ch { v with state := .stopping }).settleStop ch).done
         m.id p (off + 0x18))) ∧
     (∀ w, s.Accepts m.id p (off + 0x18) w → bitOf w 1 = true →
       exec (.dmaReset m ch w) s = .next ((dmaResetOp ch (s.recorded m.id p (off + 0x18) w)).done m.id p (off + 0x18))) ∧
     (∀ w, s.Accepts m.id p (off + 0x20) w →
       exec (.dmaDoorbellPi m ch w) s = .next (((s.recorded m.id p (off + 0x20) w).advance ch).done m.id p (off + 0x20))) ∧
     (∀ w, s.Accepts m.id p (off + 0x2C) w →
       exec (.dmaDoorbellCplCi m ch w) s = .next ((cplCiWritten ch (s.recorded m.id p (off + 0x2C) w)).done m.id p (off + 0x2C)))) ∧
  (∀ (ch : Fin 64) (s : State), s.chMoves ch = true →
     let v := s.chan ch
     (∀ t, (v.work ≠ none ∨ v.tail = true) → v.credit = 0 → (∀ p, v.polled = some p → p + 256 ≤ t) → s.chPlays ch = true →
       let u := creelRead 4 (s.chCreel ch) 0x10C s
       let x := u.resp.data.headD 0
       (u.resp.code ≠ 0 → exec (.dmaLevelPoll ch t) s = .next (u.rejectWork ch)) ∧
       (u.resp.code = 0 → s.chOut ch = false → exec (.dmaLevelPoll ch t) s = .next ((u.setChan ch { u.chan ch with
         credit := fieldOf x 26 16, polled := some s.now }).move ch)) ∧
       (u.resp.code = 0 → s.chOut ch = true → exec (.dmaLevelPoll ch t) s = .next ((u.setChan ch { u.chan ch with
         credit := fieldOf x 10 0, polled := some s.now,
         work := (u.chan ch).work.map (fun w => { w with since := if 0 < fieldOf x 10 0 then s.now else w.since }) }).move ch))) ∧
     (∀ t w, v.work = some w → s.chOut ch = true → 0 < w.moved → s.chIdleUs ch ≠ 0 → s.qLevel (s.chCreel ch) = 0 →
       w.since + 1000 * s.chIdleUs ch ≤ t → exec (.dmaIdleTimeout ch t) s = .next ((s.endWork ch 0 true).advance ch)) ∧
     (∀ r, v.record = some r → s.recordHeld ch = false → s.ringFull ch = true → exec (.dmaRecord ch) s = .next (s.waitCpl ch)) ∧
     (∀ r, s.Canonical → v.record = some r → s.recordHeld ch = false → s.ringFull ch = false → s.chBridge ch = none → r.irq = false →
       r.status = 0 → v.state = .running →
       let pi := s.fld (rChCplPi ch) 15 0
       let next := (pi + 1) % s.chRecords ch
       let ring := (joinDword (s.reg (chBase ch + 0x10)) (s.reg (chBase ch + 0x14))).toNat
       let words := r.words ++ [BitVec.ofNat 32 (flag v.phase 31 + s.now % 2 ^ 31)]
       ∃ u : State, exec (.dmaRecord ch) s = .next (u.advance ch) ∧ u.fld (rChCplPi ch) 15 0 = next % 65536 ∧
         u.fld (rChStat ch) 23 16 = 0 ∧ u.reg (chBase ch + 0x30) = s.reg (chBase ch + 0x30) + 1 ∧
         u.chan ch = { v with record := none, waiting := false, phase := if next = 0 then !v.phase else v.phase,
                              lastRecord := some ⟨ring + 16 * pi, wordsBytes words, false⟩ } ∧
         u = { s with regs := u.regs, chans := u.chans }) ∧
     (v.tail = true → v.credit ≠ 0 → s.chPlays ch = true →
       let e := popElement (s.chCreel ch) s
       (e.1.resp.code ≠ 0 ∨ bitOf e.2.2 0 = true → exec (.tailDiscarded ch) s = .next (e.1.setChan ch { e.1.chan ch with credit := 0 })) ∧
       (e.1.resp.code = 0 → bitOf e.2.2 0 = false → bitOf e.2.2 1 = true →
         let a := chBase ch + 0x3C
         let u := (e.1.setChan ch { e.1.chan ch with credit := v.credit - 1 }).setReg a (BitVec.ofNat 32 (satAdd (2 ^ 32 - 1) (e.1.reg a).toNat 1))
         exec (.tailDiscarded ch) s = .next (((u.setChan ch { u.chan ch with tail := false, inPacket := false }).chEvent ch 4).advance ch))))

/-- R421, R423, R427, R428: reads of the device end, and a channel takes what they bring. R295: a read of the configuration engine brings
image words, and one that fails ends the load. -/
def Obligations.DeviceReadsComplete : Prop :=
  (∀ (tag : BitVec 10) (r : DevRead) (s : State), s.pcie.reads.find? (fun r => decide (r.tag = tag.toNat)) = some r →
    let f := s.readFunc r
    let skip := s.readAddr r % 4
    (r.chan ≠ 64 →
      (∀ ws, ws.length = (skip + r.len + 3) / 4 →
        exec (.deviceReadCompletion tag .ok ws) s = .next (s.readEnds r 0 (((wordsBytes ws).drop skip).take r.len)).follow) ∧
      (∀ ws, exec (.deviceReadCompletion tag .poisoned ws) s = .next ((s.aer f 12).readEnds r 3 []).follow) ∧
      (∀ ws st, st = .unsupported ∨ st = .abort → exec (.deviceReadCompletion tag st ws) s = .next (s.readEnds r 2 []).follow) ∧
      (s.pciBit f pciDevCtl2 4 = false → exec (.completionTimeout tag) s = .next ((s.aer f 14).readEnds r 4 []).follow)) ∧
    (r.chan = 64 → r.dead = false →
      let u : State := { s with pcie := { s.pcie with reads := s.pcie.reads.filter (fun q => decide (q.tag ≠ r.tag)) } }
      (∀ ws, ws.length = (skip + r.len + 3) / 4 →
        exec (.deviceReadCompletion tag .ok ws) s = .next ((u.withEng (u.eng.arrived r.off ws)).ask).follow) ∧
      (∀ ws st, st = .unsupported ∨ st = .abort → exec (.deviceReadCompletion tag st ws) s = .next
        ((u.rejectLoad rejSourceFail u.eng.sect (4 * u.eng.words.length)).ask).follow)) ∧
    (s.pciBit f pciDevCtl2 4 = true → exec (.completionTimeout tag) s = .next s.follow)) ∧
  (∀ (tag : BitVec 10) (ws : List Word) (s : State), s.pcie.reads.find? (fun r => decide (r.tag = tag.toNat)) = none →
    exec (.deviceReadCompletion tag .ok ws) s = .next (((s.count rDrops 15 0 1).aerAdvisory 0 16).pcieEvent 5 0).follow) ∧
  (∀ (ch : Fin 64) (r : ReadDone) (s : State), (s.chan ch).fetch = some r →
    (r.status ≠ 0 → exec (.descriptorFetch ch) s = .next ((s.setChan ch { s.chan ch with fetch := none, badFetch := r.status }).advance ch)) ∧
    (r.status = 0 → ∃ ds : List (Nat × List Word), exec (.descriptorFetch ch) s = .next
      ((s.setChan ch { s.chan ch with fetch := none, descs := (s.chan ch).descs ++ ds }).advance ch) ∧ ds.length = r.bytes.length / 32 ∧
      ∀ i (h : i < ds.length), ds[i].1 = (r.off + i) % s.chSlots ch ∧ ds[i].2.length = 8 ∧
        ∀ k, k < 8 → ds[i].2.getD k 0 = BitVec.ofNat 32 (bytesValue ((r.bytes.drop (4 * (8 * i + k))).take 4)))) ∧
  (∀ (ch : Fin 64) (w : Work) (q : ReadDone) (s : State), (s.chan ch).work = some w →
    w.parts.find? (fun q => decide (q.off = w.moved + w.ready.length)) = some q →
    (q.status ≠ 0 → exec (.dmaDataReadDone ch) s = .next ((s.endWork ch q.status false).advance ch)) ∧
    (q.status = 0 → exec (.dmaDataReadDone ch) s = .next ((s.setChan ch { s.chan ch with
      work := some { w with ready := w.ready ++ q.bytes, parts := w.parts.filter (fun p => decide (p.off ≠ q.off)) } }).move ch)))

/-! Configuration (chapters 11 and 12). -/

/-- R294, R298 to R303, R307: the commands of the engine. A START is logged after it has taken effect, with CFG_STAT as it then reads.
A START_FULL during a reweave abandons that reweave first. A word for a full FIFO waits.
R297, R300: warp firmware's verdict on an image, and the clearing of the frames of a load that failed. -/
def Obligations.LoadsComplete : Prop :=
  (∀ (m : Master) (src : BitVec 2) (s : State), s.Canonical →
     let p : Page := ⟨.config, 0⟩
     let after (z : State) : State := (z.logEntry m.id 0x2 rCfgCmd (z.view m.id p 0x048)).done m.id p 0x044
     let stored (cmd : Nat) := s.forgetAnswer.store m.id p 0x044 (cfgCommand src.toNat cmd)
     (s.Accepts m.id p 0x044 (cfgCommand src.toNat 1) → (s.loadRuns && s.engReweave) = false →
       exec (.startFull m src) s = .next (after (startFull m.id src.toNat (stored 1)).ask.follow)) ∧
     (s.Accepts m.id p 0x044 (cfgCommand src.toNat 1) → (s.loadRuns && s.engReweave) = true →
       exec (.startFull m src) s = .next (after (startFull m.id src.toNat (stored 1).abortLoad).ask.follow)) ∧
     (s.Accepts m.id p 0x044 (cfgCommand src.toNat 2) →
       exec (.startReweave m src) s = .next (after (startReweave m.id src.toNat (stored 2)).ask.follow)) ∧
     (s.Accepts m.id p 0x044 (cfgCommand 0 3) →
       exec (.cfgAbort m) s = .next ((s.recorded m.id p 0x044 (cfgCommand 0 3)).abortLoad.follow.done m.id p 0x044)) ∧
     (s.Accepts m.id p 0x044 (cfgCommand 0 4) →
       exec (.cfgRelease m) s = .next ((s.recorded m.id p 0x044 (cfgCommand 0 4)).releaseNow.follow.done m.id p 0x044)) ∧
     (∀ v, s.Accepts m.id p 0x080 v → s.fifoFull = false →
       exec (.cfgFifo m v) s = .next (((s.recorded m.id p 0x080 v).fifoWord v).done m.id p 0x080)) ∧
     (∀ v, s.Accepts m.id p 0x080 v → s.fifoFull = true →
       ∃ t : State, exec (.cfgFifo m v) s = .next t ∧ t.eng = s.eng ∧
         t.issued = s.issued ++ [{ master := m.id, addr := rCfgFifo, write := true, value := v, checked := true, time := s.now }])) ∧
  ((∀ (sigOk tagOk : Bool) (t : Nat) (s : State), s.engState = engVerifying → s.now ≤ t →
     let u : State := { s with now := t }
     (s.eng.authKind = 1 → sigOk = false →
       exec (.signatureVerified sigOk tagOk t) s = .next (u.rejectLoad 0x17 8 s.eng.secOff).afterBolts) ∧
     ((s.eng.authKind ≠ 1 ∨ sigOk = true) → s.encrypted = true → tagOk = false →
       exec (.signatureVerified sigOk tagOk t) s = .next (u.rejectLoad 0x18 8 s.eng.secOff).afterBolts) ∧
     (s.eng.authKind = 1 → sigOk = true → (s.encrypted = true → tagOk = true) →
       exec (.signatureVerified sigOk tagOk t) s = .next (u.setFld rCfgStat 24 23 2).acceptLoad.afterBolts) ∧
     (s.eng.authKind ≠ 1 → (s.encrypted = true → tagOk = true) →
       exec (.signatureVerified sigOk tagOk t) s = .next u.acceptLoad.afterBolts)) ∧
   (∀ (t : Nat) (s : State), s.engState = engClearing → s.now ≤ t →
     exec (.clearingDone t) s = .next (clearingDone { s with now := t }).follow) ∧
   (∀ s : State, s.Canonical → s.engState = engClearing →
     let u := clearingDone s
     u.engState = engIdle ∧ u.eng.frames = [] ∧ (∀ f k, k < 64 → f ∈ s.eng.frames.map (fun e => e.1) → u.cfgWord f k = {}) ∧
       (∀ f k, k < 64 → f ∉ s.eng.frames.map (fun e => e.1) → u.cfgWord f k = s.cfgWord f k) ∧
       u.eng.groups = s.eng.groups.filter (fun g => decide (g.1 ∉ s.eng.frames.map (fun e => frameGroup e.1)))))

/-- R299, R320 to R347: a unit of an image that passes the checks of its section is taken; `ps` are its plain words, the section header
before them where it opens its section. R299, R346: the first check of an image that fails ends its load with the code of that check: for
the header's magic number and a flash that cannot hold the image, for a section header, and for the words of DEVICE_CHECK. -/
def Obligations.ImageUnitsComplete : Prop :=
  (∀ (ws ps : List Word) (s : State),
     let u (k : Nat) : State := (s.consume ws).enterSection k s.imageOff ps
     let left (k next : Nat) : State := (u k).leaveSection next
     let off := s.imageOff + 16
     let b := ps.drop 4
     let w (k : Nat) : Word := ws.getD k 0
     let whole (k : Nat) : Prop := s.openUnit k ws = .body ps ∧ ps.length = 4 + (ps.getD 1 0).toNat / 4
     let empty : Prop := s.eng.inside = false ∧ ps.getD 2 0 = 0 ∧ ps.length = 4
     (s.hasWords ws = true → s.eng.sect = secHeader → ws.length = 16 → s.headerFaults w = [] → s.beyondFlash (w 4).toNat = false →
       let z := s.consume ws
       exec (.imageHeader ws) s = .next ((z.setBit rCfgStat 22 (bitOf (w 2) 2)).withEng
         { z.eng with sect := secDevice, total := (w 4).toNat, imageId := w 3, iv := [w 6, w 7, w 8] }).follow) ∧
     (whole secDevice → b.getD 0 0 = 0x50 → b.getD 1 0 = 0x4096 → fieldOf (b.getD 2 0) 7 0 ≤ s.fld 0x044 7 0 →
       fieldOf (b.getD 2 0) 31 8 = 0 → b.getD 3 0 = 0 →
       exec (.imageDeviceCheck ws) s = .next (left secDevice secSettings).follow) ∧
     (whole secSettings → (u secSettings).settingsFaults off b = [] →
       let z := (left secSettings secFrames).withEng { (left secSettings secFrames).eng with settings := b.take 7, region := regionOf b }
       exec (.imageSettings ws) s = .next (if s.engReweave then (z.setEng engFencing).engineFollow else z).afterBolts) ∧
     (s.eng.inside = true → s.openUnit secFrames ws = .body ps → 2 ≤ ps.length → ps.length = 2 + 128 * fieldOf (ps.getD 1 0) 8 0 →
       (s.consume ws).runFaults s.imageOff ps = [] →
       exec (.imageFrameRun ws) s = .next ((s.consume ws).takeRun s.imageOff ps).follow) ∧
     (s.eng.inside = false → s.openUnit secFrames ws = .body ps → ps.getD 2 0 ≠ 0 → 2 ≤ b.length →
       b.length = 2 + 128 * fieldOf (b.getD 1 0) 8 0 → (u secFrames).runFaults off b = [] →
       exec (.imageFrameRun ws) s = .next ((u secFrames).takeRun off b).follow) ∧
     (s.openUnit secFrames ws = .body ps → empty → exec (.imageFrameRun ws) s = .next (u secFrames).framesEnd.follow) ∧
     (whole secPinmap → (u secPinmap).pinmapFaults off b = [] →
       exec (.imagePinmap ws) s = .next ((left secPinmap secCreelInit).withEng { (left secPinmap secCreelInit).eng with pinmap := b }).follow) ∧
     (s.eng.inside = true → s.openUnit secCreelInit ws = .body ps → 4 ≤ ps.length → ps.length = 4 + 2 * (ps.getD 2 0).toNat →
       (s.consume ws).creelInitFaults s.imageOff ps = [] →
       exec (.imageCreelInitRecord ws) s = .next ((s.consume ws).takeRecord s.imageOff ps).follow) ∧
     (s.eng.inside = false → s.openUnit secCreelInit ws = .body ps → ps.getD 2 0 ≠ 0 → 4 ≤ b.length →
       b.length = 4 + 2 * (b.getD 2 0).toNat → (u secCreelInit).creelInitFaults off b = [] →
       exec (.imageCreelInitRecord ws) s = .next ((u secCreelInit).takeRecord off b).follow) ∧
     (s.openUnit secCreelInit ws = .body ps → empty → exec (.imageCreelInitRecord ws) s = .next (left secCreelInit secDomains).follow) ∧
     (whole secDomains → let z := (u secDomains).withEng { (u secDomains).eng with domains := b }
       z.domainsFaults off b = [] → exec (.imageDomains ws) s = .next (z.leaveSection secAuth).follow) ∧
     (whole secAuth → (u secAuth).authFaults off b = [] →
       let kind := fieldOf (b.getD 0 0) 1 0
       let signed := decide (kind = 1) && s.keyValid 0
       let z := ((left secAuth 9).withEng { (left secAuth 9).eng with authKind := if signed then 1 else 0, digest := beValue b 2 12 }).setFld
         rCfgStat 24 23 (if kind = 0 then 1 else if signed then 0 else 3)
       exec (.imageAuth ws) s = .next (if signed || s.encrypted then z.setEng engVerifying else z.acceptLoad).follow)) ∧
  ((∀ (ws : List Word) (s : State), s.hasWords ws = true → s.eng.sect = secHeader → ws.length = 16 →
     (ws.getD 0 0 ≠ 0x4B4E_4249 → exec (.imageHeader ws) s = .next ((s.consume ws).rejectLoad 0x03 1 0x00).follow) ∧
     (s.headerFaults (fun k => ws.getD k 0) = [] → s.beyondFlash (ws.getD 4 0).toNat = true →
       exec (.imageHeader ws) s = .next ((s.consume ws).rejectLoad 0x01 1 (s.consume ws).imageOff).follow)) ∧
   (∀ (ws : List Word) (off code : Nat) (s : State), s.openUnit secDevice ws = .bad off code →
     exec (.imageDeviceCheck ws) s = .next ((s.consume ws).rejectLoad code 2 off).follow) ∧
   (∀ (ws : List Word) (s : State), s.openUnit secDevice ws = .absent →
     exec (.imageDeviceCheck ws) s = .next (s.rejectLoad 0x08 2 s.imageOff).follow) ∧
   (∀ (ws ps : List Word) (s : State), s.openUnit secDevice ws = .body ps → ps.length = 4 + (ps.getD 1 0).toNat / 4 →
     ps.getD 4 0 ≠ 0x50 →
     exec (.imageDeviceCheck ws) s = .next (((s.consume ws).enterSection 2 s.imageOff ps).rejectLoad 0x07 2 (s.imageOff + 16)).follow) ∧
   (∀ (code sect off : Nat) (s : State), s.Canonical → code < 256 → sect < 256 → off < 2 ^ 32 →
     (∀ e ∈ s.issued, e.fifoHeld = false) → (∀ e ∈ s.slotWait, e.fifoWrite = false) →
     let t := s.rejectLoad code sect off
     t.engState = engClearing ∧ t.reg rCfgReject = BitVec.ofNat 32 (sect * 65536 + code) ∧ t.reg rCfgRejectOff = BitVec.ofNat 32 off ∧
       t.fld rCfgCounts 15 8 = min 255 (s.fld rCfgCounts 15 8 + 1) ∧ t.cells = s.cells ∧ t.cfgMem = s.cfgMem ∧
       t.issued = s.issued ∧ t.slotWait = s.slotWait))

/-- R310, R315, R317: the scrubber reads a frame word by word and goes on to the next, its counts are cleared, and a panel is measured;
a corrected select may move what it drives (R100).
R311: the steps of a recovery, `r` the one in turn, and how each of them can fail; the time limit is that of any of them. -/
def Obligations.ScrubbingAndRecoveryComplete : Prop :=
  ((∀ s : State, s.scrubOff = false →
     let f := s.fld rScrubPos 23 0
     let u := if s.scrubSkips f then s else (List.range 64).foldl (fun s k => s.scrubWord f k) s
     (∀ g, nextFrame f = some g → exec .scrubFrameRead s = .next (u.setReg rScrubPos (BitVec.ofNat 32 g))) ∧
     (nextFrame f = none → exec .scrubFrameRead s = .next (((u.setReg rScrubPos 0).countWrap rScrubPasses).scrubEvent 3))) ∧
   (∀ (f k bit : Nat) (s : State), s.Canonical → k < 64 → bit < 72 → (s.cfgWord f k).flip = 1#72 <<< bit →
     s.scrubWord f k = s.corrected f k bit ∧
     ∃ u : State, s.corrected f k bit =
         (if bit < 64 ∧ s.pick.released = true then selectMoved f (8 * k + bit / 8) (u.reload f) else u.reload f) ∧ (u.cfgWord f k).flip = 0 ∧
             (u.cfgWord f k).data = (s.cfgWord f k).data ∧
       u.fld rScrubErrs 31 16 = min 65535 (s.fld rScrubErrs 31 16 + 1) ∧ u.reg rScrubLastCe = BitVec.ofNat 32 (place k 24 + f)) ∧
   (∀ (m : Master) (v : Word) (s : State), s.Canonical → s.Accepts m.id ⟨.scrub, 0⟩ 0x060 v → bitOf v 0 = true →
     ∃ t, exec (.scrubClrCounts m v) s = .next t ∧ t.resp.code = 0 ∧
       (∀ a ∈ [rScrubErrs, rScrubLastCe, rScrubLastUe, rRecovStat, rPanelErrs 0, rPanelErrs 1, rPanelErrs 2, rPanelErrs 3], t.reg a = 0) ∧
       t = { s with regs := t.regs, ev := t.ev, log := t.log, resp := t.resp, jtag := { s.jtag with out := t.jtag.out } }) ∧
   (∀ (p : Fin 4) (hop : BitVec 12) (temp : BitVec 10) (s : State), s.Canonical →
     ∃ t, exec (.panelHopMeasure p hop temp) s = .next t ∧ t = { s with regs := t.regs } ∧
       t.reg (regAddr .panel p 0x044) = BitVec.ofNat 32 temp.toNat ∧
       t.reg (regAddr .panel p 0x040) = (if s.pwr.warn.testBit p || s.pwr.removed then 0 else BitVec.ofNat 32 hop.toNat) ∧
       ∀ a, a ≠ regAddr .panel p 0x040 → a ≠ regAddr .panel p 0x044 → t.reg a = s.reg a)) ∧
  (∀ (r : Recovery) (rest : List Recovery) (t : Nat) (s : State), s.eng.recovs = r :: rest → s.now ≤ t →
     let u : State := { s with now := t }
     let stored := (SMap.get none s.eng.groups r.group).map (fun g => g.digest)
     (∀ flash, r.step = 0 → s.sourceAvailable r.group flash = true → exec (.recoverySourceCheck flash t) s =
       .next (u.withEng { s.eng with recovs := { r with step := 1 } :: rest }).afterBolts) ∧
     (∀ flash, r.step = 0 → s.sourceAvailable r.group flash = false → exec (.recoverySourceCheck flash t) s = .next (u.recoveryFails r 2).afterBolts) ∧
     (∀ digest, r.step = 1 → stored = some digest →
       exec (.recoveryGroupRead digest t) s = .next ((u.withEng { s.eng with
         recovs := { r with step := 2 } :: rest
         interrupted := if s.engState = engRecovering then s.eng.interrupted else some s.engState }).setEng engRecovering).afterBolts) ∧
     (∀ digest, r.step = 1 → stored ≠ some digest → exec (.recoveryGroupRead digest t) s = .next (u.recoveryFails r 3).afterBolts) ∧
     (r.step = 2 →
       let v := (u.withEng { s.eng with recovs := rest }).rewriteFrames r.frames
       let w := (((((v.count rRecovStat 31 24 1).setFld rRecovStat 3 0 1).count rCfgCounts 7 0 1).scrubEvent 2).resumeLoad)
       exec (.recoveryRewriteDone t) s = .next (((w.recoveryBolts r).foldl (fun s b => s.recoverBolt t (s.faultFrame r b) b) w).settle).afterBolts)) ∧
  (∀ (t : Nat) (s : State), s.now ≤ t →
     (∀ r, s.eng.recovs.find? (fun r => decide (r.since + 10000000 ≤ t)) = some r →
       exec (.recoveryTimeLimit t) s = .next (({ s with now := t } : State).recoveryFails r 4).afterBolts) ∧
     (s.eng.recovs.find? (fun r => decide (r.since + 10000000 ≤ t)) = none → exec (.recoveryTimeLimit t) s = .next s.afterBolts))

/-! Banks, pins, pattern units and hard peripherals (chapter 13). -/

/-- R349, R374: what a bank's supply does to the bank, below −7 % and below −10 % of its nominal voltage, and the commands of BANK_CMD;
BANK_VMIN keeps the lowest voltage seen. -/
def Obligations.BanksComplete : Prop :=
  ∀ (b : Fin 20) (mv : BitVec 16) (s : State), s.Canonical →
    let nominal := [1800, 1500, 1350, 1200, 1000, 2500, 3300].getD (s.fld (rBankCfg b) 2 0) 0
    let low := BitVec.ofNat 32 (min (s.fld (rBankVmin b) 15 0) mv.toNat)
    let u := (({ s with bankOk := SMap.set false s.bankOk b false } : State).setReg (rBankVmin b) low)
    let ok := ({ s with bankOk := SMap.set false s.bankOk b true } : State).setBit (rBankStat b) 30 false
    let back := ((ok.setBit (rBankStat b) 31 false).refreshPins (bankPins b)).settle.pulse .iobank b 2
    (93 * nominal ≤ 100 * mv.toNat → exec (.vccoWarn b mv) s = .next s ∧ exec (.bankDisabled b mv) s = .next s) ∧
    (100 * mv.toNat < 93 * nominal →
      (s.bit (rBankStat b) 30 = true → exec (.vccoWarn b mv) s = .next u) ∧
      (s.bit (rBankStat b) 30 = false → exec (.vccoWarn b mv) s = .next ((u.setBit (rBankStat b) 30 true).pulse .iobank b 0))) ∧
    (s.bankDisabled b = true ∨ 90 * nominal ≤ 100 * mv.toNat → exec (.bankDisabled b mv) s = exec (.vccoWarn b mv) s) ∧
    (s.bankDisabled b = false → 100 * mv.toNat < 90 * nominal → ∃ t : State, exec (.bankDisabled b mv) s = .next t ∧
      t.bankDisabled b = true ∧ (∀ p, bankOfPin p = b.val → t.pinLevel p = false) ∧
      t.fld (rBankVmin b) 15 0 = min (s.fld (rBankVmin b) 15 0) mv.toNat ∧
      t.log = s.log ∧ t.bolts = s.bolts ∧ ∀ r c, t.cell r c = { s.cell r c with armed := (t.cell r c).armed }) ∧
    (s.bit (rBankCfg b) 5 = true → s.bankDisabled b = true → exec (.bankReenable b) s = .next back) ∧
    ((s.bit (rBankCfg b) 5 = false ∨ s.bankDisabled b = false) → exec (.bankReenable b) s = .next ok) ∧
    (exec (.bankVccoMeasure b mv) s = .next ((s.setFld (rBankStat b) 15 0 mv.toNat).setReg (rBankVmin b) low)) ∧
    (∀ (m : Master) (v : Word), s.Accepts m.id ⟨.iobank, b⟩ 0x058 v →
      let r := s.recorded m.id ⟨.iobank, b⟩ 0x058 v
      let r1 := if bitOf v 1 then r.setReg (rBankVmin b) 0xFFFF else r
      let z := (if bitOf v 0 then r1.enableBank b else r1).done m.id ⟨.iobank, b⟩ 0x058
      exec (.bankEnable m b v) s = .next z ∧ exec (.bankClrVmin m b v) s = .next z)

/-- R353, R361, R362: a pin that is mapped anew leaves its source, stays in its sleep state, and takes its new source no earlier than the
third edge of D0, a picked output at a commit point of its bolt; and a level that has passed the filter reaches the pin's input. R366,
R367, R368, R376: a debounced vector is evaluated by the unit's mode, a match is recorded, and a unit's records are cleared. `level` is what
the receivers of the unit's lanes show. -/
def Obligations.PinsAndPatternUnitsComplete : Prop :=
  ((∀ (m : Master) (p : Fin 960) (v : Word) (t : Nat) (s : State), s.Canonical → s.now ≤ t →
     let page : Page := ⟨.pinmap, p / 128⟩
     let off := 0x100 + 8 * (p.val % 128)
     let u : State := { s with now := t }
     u.Accepts m.id page off v →
     let r := u.recorded m.id page off v
     let port := r.inSelReg p - 1
     ∃ z : State, exec (.changeover m p v t) s = .next (z.done m.id page off) ∧
       (r.reg (rPinMap p) = s.reg (rPinMap p) → z = r) ∧
       (r.reg (rPinMap p) ≠ s.reg (rPinMap p) →
         z.pin p = { s.pin p with chg := some t, waiting := false, kept := r.pinLevel p, outSel := 0 } ∧ z.padAsleep p = true ∧
         (r.pickedReg p = true → isPort (r.inSelReg p) = true → port ∈ z.pickedIn ∧
           (port ∉ s.pickedIn → SMap.get false z.portSample port = SMap.get false s.portIn port)) ∧
         z.bolts = s.bolts ∧ ∀ a c, z.cell a c = { s.cell a c with armed := (z.cell a c).armed })) ∧
   (∀ (p : Fin 960) (t t0 : Nat) (s : State), (s.pin p).chg = some t0 → (s.pin p).waiting = false → t0 + 80 ≤ t → s.now ≤ t →
     let u : State := { s with now := t }
     ((s.pickedReg p && isPort (s.outSelReg p)) = true → exec (.changeoverDone p t) s = .next (u.setPin p { s.pin p with waiting := true })) ∧
     ((s.pickedReg p && isPort (s.outSelReg p)) = false → exec (.changeoverDone p t) s = .next (u.connectPin p))) ∧
   (∀ (p : Fin 960) (s : State), s.Canonical →
     (s.connectPin p).pin p = { s.pin p with chg := none, waiting := false, outSel := s.outSelReg p, inSel := s.inSelReg p, picked := s.pickedReg p }) ∧
   (∀ (p : Fin 960) (level : Bool) (s : State), s.Canonical → ∃ t : State, exec (.pinFilterPass p level) s = .next t ∧
     t.pin p = { s.pin p with level := level, filt := level } ∧ (∀ q, q ≠ p.val → t.pin q = s.pin q) ∧ t.regs = s.regs ∧
     t.bolts = s.bolts ∧ ∀ a c, t.cell a c = { s.cell a c with armed := (t.cell a c).armed })) ∧
  ((∀ (u : Fin 32) (level : BitVec 16) (t : Nat) (s : State), s.now ≤ t →
     let a : State := { s with now := t }
     let x := ((a.countedLanes u).foldl (fun s l => s.receive (s.lanePin u l) (level.toNat.testBit l)) a).settle
     let v := x.pattern u
     let new := x.laneVector u
     let ends (mark : Option Nat) (hits : List Nat) := exec (.debouncedVectorChange u level t) s = .next
       (x.setPattern u { v := new, evaluated := true, aAt := mark, hits := hits })
     (s.bit (patBase u) 31 = false → exec (.debouncedVectorChange u level t) s = .next a) ∧
     (s.bit (patBase u) 31 = true → v.evaluated = true → new = v.v → exec (.debouncedVectorChange u level t) s = .next x) ∧
     (s.bit (patBase u) 31 = true → v.evaluated = true → new ≠ v.v →
       (x.fld (patBase u) 29 28 = 0 → new = x.patA u → ends (some x.now) (v.hits ++ [new])) ∧
       (x.fld (patBase u) 29 28 = 0 → new ≠ x.patA u → ends v.aAt v.hits) ∧
       (x.fld (patBase u) 29 28 = 1 → v.v = x.patA u → ends v.aAt (v.hits ++ [new])) ∧
       (x.fld (patBase u) 29 28 = 2 → new ≠ x.patA u → ends v.aAt (v.hits ++ [new])) ∧
       (∀ t0, x.fld (patBase u) 29 28 = 3 → v.aAt = some t0 → new = x.patB u → new ≠ x.patA u →
         ends v.aAt (if x.now ≤ t0 + 40 * x.fld (patBase u + 8) 31 16 then v.hits ++ [new] else v.hits))) ∧
     (s.bit (patBase u) 31 = true → v.evaluated = false →
       (x.fld (patBase u) 29 28 = 0 → new = x.patA u → ends (some x.now) (v.hits ++ [new])) ∧
       (x.fld (patBase u) 29 28 = 1 → new ≠ x.patA u → ends v.aAt (v.hits ++ [new])) ∧
       (x.fld (patBase u) 29 28 = 2 → new ≠ x.patA u → ends v.aAt (v.hits ++ [new])))) ∧
   (∀ (u : Fin 32) (t k : Nat) (ks : List Nat) (s : State), s.Canonical → (s.pattern u).hits = k :: ks → s.now ≤ t → k < 65536 →
     ∃ z : State, recordMatch u { s with now := t } = z.pulse .pattern 0 u ∧ (z.pattern u).hits = ks ∧
       z.fld (patBase u + 0x0C) 23 16 = min 255 (s.fld (patBase u + 0x0C) 23 16 + 1) ∧
       (s.bit (patBase u + 0x10) 31 = false → z.reg (patBase u + 0x10) = BitVec.ofNat 32 (2 ^ 31 + k) ∧
         z.reg (patBase u + 0x14) = BitVec.ofNat 32 t) ∧
       (s.bit (patBase u + 0x10) 31 = true → z.reg (patBase u + 0x10) = s.reg (patBase u + 0x10) ∧
         z.reg (patBase u + 0x14) = s.reg (patBase u + 0x14)) ∧
       z = { s with now := t, regs := z.regs, patterns := z.patterns } ∧
       (s.bit (patBase u) 30 = false → exec (.matchUnit u t) s = .next (z.pulse .pattern 0 u)) ∧
       (s.bit (patBase u) 30 = true → exec (.matchUnit u t) s = .next (wakeOp 0 (z.pulse .pattern 0 u)).follow)) ∧
   (∀ (u : Fin 32) (t : Nat) (s : State), (s.pattern u).hits = [] → exec (.matchUnit u t) s = .next s) ∧
   (∀ (m : Master) (v : Word) (s : State), s.Canonical → s.Accepts m.id ⟨.pattern, 0⟩ 0x040 v →
     ∃ t, exec (.patCmdClr m v) s = .next t ∧ t.resp.code = 0 ∧
       (∀ u < 32, v.toNat.testBit u = true → t.fld (patBase u + 0x0C) 23 16 = 0 ∧ t.reg (patBase u + 0x10) = 0) ∧
       (∀ u < 32, v.toNat.testBit u = false → t.fld (patBase u + 0x0C) 23 16 = s.fld (patBase u + 0x0C) 23 16 ∧
         t.reg (patBase u + 0x10) = s.reg (patBase u + 0x10)) ∧
       t = { s with regs := t.regs, ev := t.ev, log := t.log, resp := t.resp, jtag := { s.jtag with out := t.jtag.out } }))

/-- R369, R370, R371, R377: the commands and FIFOs of the serial units. A command on a unit that is not enabled clears the last error alone.
R369, R370, R378: a command of a serial unit ends, and a UART receives a character. How far a command that failed had come is open (log
entry 24). -/
def Obligations.SerialUnitsComplete : Prop :=
  ((∀ (m : Master) (u : Fin 4) (len : BitVec 5) (s : State), s.Canonical →
     let p : Page := ⟨.hostper, 0⟩
     let off := 0x104 + 0x20 * u.val
     let after (op : Nat) : State := ((s.recorded m.id p off (hpCommandWord op false len.toNat)).setPeriph u
       { s.periph u with cmd := if s.hpEnabled u then some (op, len.toNat) else none, err := none }).done m.id p off
     (s.Accepts m.id p off (hpCommandWord 1 false len.toNat) → exec (.i2cWrite m u len) s = .next (after 1)) ∧
     (s.Accepts m.id p off (hpCommandWord 2 false len.toNat) → exec (.i2cRead m u len) s = .next (after 2)) ∧
     (s.Accepts m.id p off (hpCommandWord 3 false len.toNat) → exec (.i2cWriteRead m u len) s = .next (after 3))) ∧
   (∀ (m : Master) (u : Fin 4) (len : BitVec 5) (hold : Bool) (s : State), s.Canonical →
     let off := 0x184 + 0x20 * u.val
     let v := s.periph (4 + u)
     s.Accepts m.id ⟨.hostper, 0⟩ off (hpCommandWord 1 hold len.toNat) → exec (.spiTransfer m u len hold) s = .next
       (((s.recorded m.id ⟨.hostper, 0⟩ off (hpCommandWord 1 hold len.toNat)).setPeriph (4 + u)
         (if s.hpEnabled (4 + u) then
            { v with cmd := some (1, len.toNat), holdCs := hold, csLow := some (s.fld (hpBase (4 + u)) 27 26), err := none }
          else { v with cmd := none, err := none })).done m.id ⟨.hostper, 0⟩ off)) ∧
   (∀ (m : Master) (u : Fin 2) (s : State),
     let off := 0x204 + 0x20 * u.val
     s.Accepts m.id ⟨.hostper, 0⟩ off (hpCommandWord 1 false 0) → exec (.uartFlush m u) s = .next
       ((((s.recorded m.id ⟨.hostper, 0⟩ off (hpCommandWord 1 false 0)).setPeriph (8 + u)
         { s.periph (8 + u) with tx := [], rx := [], err := none }).hpEvent (8 + u) 0).done m.id ⟨.hostper, 0⟩ off)) ∧
   (∀ (m : Master) (u : Fin 10) (v : Word) (s : State),
     let off := 0x10C + 0x20 * u.val
     s.Accepts m.id ⟨.hostper, 0⟩ off v → exec (.hpTx m u v) s = .next (((s.recorded m.id ⟨.hostper, 0⟩ off v).setPeriph u
       { s.periph u with tx := (s.periph u).tx ++ [v.setWidth 8] }).done m.id ⟨.hostper, 0⟩ off)) ∧
   (∀ (m : Master) (u : Fin 10) (s : State), s.AcceptsRead m.id ⟨.hostper, 0⟩ (0x110 + 0x20 * u.val) →
     ((s.periph u).rx = [] → ∃ t, exec (.hpRx m u) s = .next t ∧ t.resp.data = [0x8000_0000] ∧ t.resp.code = 0 ∧
       t = { s with resp := t.resp, jtag := { s.jtag with out := t.jtag.out } }) ∧
     (∀ b rest, (s.periph u).rx = b :: rest → ∃ t, exec (.hpRx m u) s = .next t ∧ t.resp.data = [b.setWidth 32] ∧ t.resp.code = 0 ∧
       t = { s.setPeriph u { s.periph u with rx := rest } with resp := t.resp, jtag := { s.jtag with out := t.jtag.out } }))) ∧
  ((∀ (u : Fin 10) (op len : Nat) (bs : List Byte) (s : State), u.val < 8 → (s.periph u).cmd = some (op, len) →
     let v := s.periph u
     let sent := if hpSends u op then (if isI2c u then v.tx.length else len) else 0
     (bs.length = (if hpReceives u op then len else 0) →
       exec (.hpCommandDone u .ok bs) s = .next (((s.setPeriph u
         { v with tx := v.tx.drop sent, cmd := none, csLow := if v.holdCs then v.csLow else none }).hpEvent u 0).hpReceive u bs)) ∧
     (u.val < 4 → ∀ (how : SerialEnd) (kind : Nat), how = .nack ∧ kind = 0 ∨ how = .arbLost ∧ kind = 1 →
       ∃ n k : Nat, exec (.hpCommandDone u how bs) s = .next (((((s.setPeriph u { v with
         tx := v.tx.drop n, cmd := none, err := some kind }).tick.hpEvent u 0).hpEvent u 1).hpReceive u (bs.take k))) ∧
         n ≤ sent ∧ k ≤ len)) ∧
   (∀ (u : Fin 10) (bs : List Byte) (s : State), 8 ≤ u.val → s.hpBusy u = true →
     exec (.hpCommandDone u .ok bs) s = .next ((s.setPeriph u { s.periph u with tx := [] }).hpEvent u 0)) ∧
   (∀ (u : Fin 2) (b : Byte) (line : UartLine) (s : State), s.hpEnabled (8 + u) = false → exec (.uartRxByte u line b) s = .next s) ∧
   (∀ (u : Fin 2) (b : Byte) (s : State), s.hpEnabled (8 + u) = true →
     let v := s.periph (8 + u)
     let n := 8 + u.val
     (1 ≤ v.rx.length → v.rx.length < 16 → exec (.uartRxByte u .good b) s = .next (s.setPeriph n { v with rx := v.rx ++ [b] })) ∧
     (v.rx = [] → exec (.uartRxByte u .good b) s = .next ((s.setPeriph n { v with rx := [b] }).hpEvent n 2)) ∧
     (16 ≤ v.rx.length → exec (.uartRxByte u .good b) s = .next ((s.setPeriph n { v with err := some 3 }).hpEvent n 1)) ∧
     (∀ line, line ≠ .good → exec (.uartRxByte u line b) s = .next ((s.setPeriph n { v with err := some 2 }).hpEvent n 1))))

/-! SerDes quads and the PCS (chapter 14). -/

/-- R380, R381, R383, R386, R387, R399: the commands of a quad and of its lanes. R380 to R387, R399: what happens at a quad's PLL, its
reference, the CDR of a lane (the coefficients of an adapting lane move until then, and the clock
lane has no elastic buffer), its adaptation, its elastic buffer and its checker. -/
def Obligations.QuadsAndLanesComplete : Prop :=
  (∀ (m : Master) (q : Fin 12) (i : Fin 4) (v : Word) (s : State), s.Canonical →
     let p : Page := ⟨.serdes, q⟩
     let u (off : Nat) (v : Word) : State := s.recorded m.id p off v
     let lane := 0x100 + 0x40 * i.val
     (s.Accepts m.id p 0x008 v → bitOf v 0 = true → s.quadOn q = false → exec (.quadPwr m q v) s = .next
       (((u 0x008 v).setQuad q { s.quad q with relock := true, refLost := false }).done m.id p 0x008)) ∧
     (s.Accepts m.id p 0x008 v → bitOf v 0 = false → s.quadOn q = true → ∃ t, exec (.quadPwr m q v) s = .next t ∧ t.quadOn q = false ∧
       (t.quad q).pll = false ∧ (t.quad q).relock = false ∧
       ∀ k < 4, (t.lane q k).cdr = false ∧ (t.lane q k).signal = false ∧ (t.lane q k).level = 0) ∧
     (s.Accepts m.id p 0x044 1 → exec (.sdApply m q) s = .next (((((u 0x044 1).setQuad q
       { s.quad q with qcfg := s.reg (sdReg q 0x040), refLost := false }).resetQuad q true)).done m.id p 0x044)) ∧
     (s.Accepts m.id p 0x044 2 → exec (.sdReset m q) s = .next (((u 0x044 2).resetQuad q true).done m.id p 0x044)) ∧
     (s.Accepts m.id p 0x044 4 → ∃ t, exec (.sdClrCounts m q) s = .next t ∧ t.resp.code = 0 ∧
       (∀ k < 4, t.reg (sdLane q k 0x18) = 0 ∧ t.reg (sdLane q k 0x1C) = 0) ∧ 
       t = { s with regs := t.regs, ev := t.ev, log := t.log, resp := t.resp, jtag := { s.jtag with out := t.jtag.out } }) ∧
     (s.Accepts m.id p (lane + 0x14) v →
       let r := prbsWritten q i (s.reg (sdLane q i 0x14)) (u (lane + 0x14) v)
       exec (.prbsInject m q i v) s = .next ((if bitOf v 0 then prbsInjectOp q i r else r).done m.id p (lane + 0x14))) ∧
     (s.Accepts m.id p lane v → exec (.loopbackChange m q i v) s = .next
       ((lcfgWritten q i (s.reg (sdLane q i 0x00)) (u lane v)).done m.id p lane))) ∧
  (∀ (q : Fin 12) (i : Fin 4) (s : State), s.Canonical →
     let c := s.quad q
     let v := s.lane q i
     (s.quadOn q = true →
       (c.relock = true → s.refBad q = false → s.pwr.removed = false → exec (.pllLocked q) s = .next
         (((List.range 4).foldl (fun s k => s.setLane q k { s.lane q k with inject := false })
           (s.setQuad q { c with pll := true, relock := false })).sdEvent q 16)) ∧
       (c.refLost = false → s.refBad q = true → exec (.sdRefLost q) s = .next
         ((s.setQuad q { c with pll := false, relock := true, refLost := true }).sdEvent q 17)) ∧
       (c.pll = true → s.receives q i = true → v.cdr = false → exec (.cdrLocked q i) s = .next
         ((s.setLane q i { v with cdr := true, signal := true, adapted := false }).sdEvent q (4 * i))) ∧
       (v.cdr = true →
         (∀ level, i.val ≠ fieldOf c.qcfg 19 18 → exec (.ebSlip q i level) s = .next
           (((s.setLane q i { v with level := level }).count (sdLane q i 0x1C) 31 16 1).sdEvent q (4 * i + 3))) ∧
         (s.prbsRx q i ≠ 0 → exec (.prbsLock q i) s = .next (s.setLane q i { v with prbs := true })) ∧
         (∀ (vga ctle : BitVec 4) (dfe : List Byte), dfeOk dfe = true → s.weftUp = true → s.fld (sdLane q i 0x00) 26 25 = 2 → v.adapted = false →
           ∃ z : State, exec (.adaptDone q i vga ctle dfe) s = .next (z.sdEvent q (4 * i + 2)) ∧ z.fld (sdLane q i 0x08) 11 8 = vga.toNat ∧
             z.fld (sdLane q i 0x08) 3 0 = ctle.toNat ∧ z = { s with regs := z.regs, lanes := z.lanes } ∧ (z.lane q i).adapted = true ∧
             (SMap.wf (fun _ => (0 : Byte)) v.dfe = true → ∀ k < 24, SMap.get 0 (z.lane q i).dfe k = dfe.getD k 0)))) ∧
     (v.cdr = true → let d := s.drift q i
       ∃ sig : Bool, exec (.cdrLost q i) s = .next
         (((d.tick.setLane q i { d.lane q i with cdr := false, signal := sig, adapted := false }).count (sdLane q i 0x1C) 15 8 1).sdEvent q
           (4 * i + 1))) ∧
     (s.adapting q i = false → s.drift q i = s) ∧
     (∀ bits : Word, v.prbs = true → exec (.prbsLockLost q i bits) s = .next
       ((s.setLane q i { v with prbs := false }).count (sdLane q i 0x18) 31 0 bits.toNat)) ∧
     (∀ meas : BitVec 16, let z := s.setReg (sdReg q 0x048) (BitVec.ofNat 32 meas.toNat)
       exec (.qrefMeasure q meas) s = .next (if z.refBad q then z else z.setQuad q { c with refLost := false })))

/-- R388 to R396, R401: the commands of the PCS, its locks, and what it makes of a received frame or word. R389 to R391: a received frame
enters the buffer whole, its header word before it, or is dropped whole and counted. -/
def Obligations.PcsAndFramesComplete : Prop :=
  (∀ (q : Fin 12) (i : Fin 4) (s : State), s.Canonical →
     let v := s.lane q i
     let g := bondLanes q (s.quad q).bond
     (∀ m : Master, s.Accepts m.id ⟨.pcs, q⟩ 0x044 1 →
       exec (.pcsApply m q) s = .next ((pcsApplyOp q (s.recorded m.id ⟨.pcs, q⟩ 0x044 1)).done m.id ⟨.pcs, q⟩ 0x044)) ∧
     (∀ m : Master, s.Accepts m.id ⟨.pcs, q⟩ 0x044 4 → ∃ t, exec (.pcsClrCounts m q) s = .next t ∧ t.resp.code = 0 ∧
       (∀ k < 4, ∀ o ∈ [0x08, 0x0C, 0x10, 0x14], t.reg (pcsLane q k o) = 0) ∧
       t = { s with regs := t.regs, ev := t.ev, log := t.log, resp := t.resp, jtag := { s.jtag with out := t.jtag.out } }) ∧
     (s.pcsRuns q i = true →
       (framed (s.lcfg q i) = true → exec (.blockLock q i) s = .next (s.setLane q i { v with block := true })) ∧
       (∀ blocks : List RxBlock, s.prbsRx q i = 0 → framed (s.lcfg q i) = true → v.block = true → blocks.length = 32 →
         exec (.pcsRxFrame q i blocks) s = .next (rxFrame q i blocks s)) ∧
       (∀ b : RxBlock, s.prbsRx q i = 0 → framed (s.lcfg q i) = false →
         (v.buffer.length < 64 → exec (.pcsRxFrame q i [b]) s = .next (s.setLane q i { v with buffer := v.buffer ++ [b.payload] })) ∧
         (64 ≤ v.buffer.length → exec (.pcsRxFrame q i [b]) s = .next ((s.count (pcsLane q i 0x14) 31 16 1).pcsEvent q (4 * i + 2)))) ∧
       (bitOf (s.lcfg q i) 27 = true → exec (.amLock q i true) s = .next (s.setLane q i { v with marker := true })) ∧
       (fieldOf (s.lcfg q i) 29 28 ≠ 0 → exec (.fecAlign q i true) s = .next (s.setLane q i { v with codeword := true })) ∧
       (v.codeword = true →
         exec (.fecCodeword q i .clean) s = .next s ∧
         (∀ n, fecResultOk (.corrected n) = true → exec (.fecCodeword q i (.corrected n)) s = .next
           ((s.count (pcsLane q i 0x0C) 31 16 1).count (pcsLane q i 0x10) 31 0 n)) ∧
         exec (.fecCodeword q i .uncorrectable) s = .next ((s.count (pcsLane q i 0x0C) 15 0 1).pcsEvent q (4 * i + 1)))) ∧
     (exec (.amLock q i false) s = .next (s.setLane q i { v with marker := false })) ∧
     (exec (.fecAlign q i false) s = .next (s.setLane q i { v with codeword := false })) ∧
     (v.block = true → exec (.blockLockLost q i) s = .next
       (((s.setLane q i { v with block := false }).count (pcsLane q i 0x08) 15 0 1).pcsEvent q (4 * i))) ∧
     (s.txReads q i = true → (s.bridge (txBridge q i)).fifo = [] → exec (.txUnderrun q i) s = .next
       (((s.setLane q i { v with txSent := some (s.fillBlock q i) }).count (pcsLane q i 0x14) 15 0 1).pcsEvent q (4 * i + 3))) ∧
     ((∀ skews : List (Fin 17), g ≠ [] → skews.length = g.length →
         (∀ l ∈ g, s.pcsRuns l.1 l.2 = true ∧ (s.lane l.1 l.2).marker = true ∧ (s.lane l.1 l.2).aligned = false) →
         ∃ z : State, exec (.bondAligned q skews) s = .next (z.pcsEvent q 16) ∧ z = { s with lanes := z.lanes } ∧
           (∀ x ∈ g.zip skews, z.lane x.1.1 x.1.2 =
             { s.lane x.1.1 x.1.2 with aligned := true, skew := x.2, seq := (s.lane (g.headD (q, 0)).1 (g.headD (q, 0)).2).seq }) ∧
           ∀ k, k ∉ g.map (fun l => 4 * l.1 + l.2) → SMap.get {} z.lanes k = SMap.get {} s.lanes k) ∧
       (∀ l ∈ g, (s.lane l.1 l.2).aligned = true → exec (.bondLost q) s = .next ((s.unalign q).pcsEvent q 17) ∧
         ∀ k ∈ g, (s.unalign q).lane k.1 k.2 = { s.lane k.1 k.2 with aligned := false }))) ∧
  (∀ (q : Fin 12) (i : Fin 4) (blocks : List RxBlock) (s : State), s.Canonical → blocks.length = 32 →
     let v := s.lane q i
     let t := rxFrame q i blocks s
     (t.lane q i).seq = (v.seq + 1) % 65536 ∧
     (v.buffer.length + 33 ≤ 64 → (t.lane q i).dropped = 0 ∧
       (t.lane q i).buffer = v.buffer ++ rxHeader v blocks :: blocks.map (fun b => (deliveredBlock b).1)) ∧
     (64 < v.buffer.length + 33 → (t.lane q i).buffer = v.buffer ∧ (t.lane q i).dropped = min 255 (v.dropped + 1) ∧
       t.fld (pcsLane q i 0x14) 31 16 = min 65535 (s.fld (pcsLane q i 0x14) 31 16 + 33)) ∧
     ∀ k j, 4 * k + j ≠ 4 * q.val + i.val → t.lane k j = s.lane k j)

/-! Shuttles and semaphores (chapter 16). -/

/-- R441, R442, R444: binding a channel anew empties it, and the lock sets PAGE_LOCK in every SHUTTLE page. R453, R456, R458, R464: a
message that is not acknowledged in time, and the commands of a side. -/
def Obligations.BindingsAndSidesComplete : Prop :=
  ((∀ (m : Master) (c : Fin 256) (v : Word) (s : State), s.Canonical →
     let p : Page := ⟨.shuttle, c / 4⟩
     let off := 0x100 + 0x200 * (c.val % 4)
     let u := s.recorded m.id p off v
     s.Accepts m.id p off v →
     (u.reg (rShBind c) = s.reg (rShBind c) → exec (.shBind m c v) s = .next (u.done m.id p off)) ∧
     (u.reg (rShBind c) ≠ s.reg (rShBind c) → ∃ t, exec (.shBind m c v) s = .next t ∧ t.sh c 0 = {} ∧ t.sh c 1 = {} ∧
       (∀ k j, j < 2 → k ≠ c.val → t.sh k j = s.sh k j) ∧ t.reg (rSideCnt c 0) = s.reg (rSideCnt c 0) ∧
       t.reg (rSideCnt c 1) = s.reg (rSideCnt c 1) ∧
       t = { s with regs := t.regs, ev := t.ev, log := t.log, shuttles := t.shuttles, resp := t.resp, jtag := { s.jtag with out := t.jtag.out } })) ∧
   (∀ (m : Master) (v : Word) (s : State), s.Canonical → s.Accepts m.id ⟨.shuttle, 0⟩ 0x040 v → bitOf v 0 = true →
     ∃ t, exec (.shBindLock m v) s = .next t ∧ t.bit (regAddr .shuttle 0 0x040) 0 = true ∧
       (∀ k < 64, t.bit (regAddr .shuttle k 0x030) 0 = true) ∧ t.resp.code = 0 ∧
       t = { s with regs := t.regs, ev := t.ev, log := t.log, resp := t.resp, jtag := { s.jtag with out := t.jtag.out } })) ∧
  ((∀ (c : Fin 256) (d : Side) (t due : Nat) (g : ShMsg) (rest : List ShMsg) (s : State), (s.sh c (sideNo d)).msgs = g :: rest →
     g.due = some due → due ≤ t → g.acked = false → s.now ≤ t →
     let k := sideNo d
     let u : State := { s with now := t }
     exec (.ackTimeout c d t) s = .next ((((u.setSh c k { s.sh c k with msgs := { g with acked := true, due := none } :: rest }).count
       (rSideCnt c k) 23 16 1).deviceAck c k g.seq 0xFFFE).follow)) ∧
   (∀ (m : Master) (c : Fin 256) (d : Side) (code : BitVec 16) (s : State), s.Canonical →
     let p : Page := ⟨.shuttle, c / 4⟩
     let k := sideNo d
     let off := 0x164 + 0x200 * (c.val % 4) + 0x80 * k
     (s.Accepts m.id p off (sideCommand 1 code.toNat) →
       exec (.flushRx m c d code) s = .next ((flushRxOp c k code.toNat (s.recorded m.id p off (sideCommand 1 code.toNat))).done m.id p off)) ∧
     (s.Accepts m.id p off (sideCommand 2 0) → ∃ t, exec (.clrPeerReset m c d) s = .next t ∧ t.resp.code = 0 ∧
       t.sh c k = { s.sh c k with peerReset := false } ∧ t.sh c (1 - k) = { s.sh c (1 - k) with rxPeerReset := false }) ∧
     (s.Accepts m.id p off (sideCommand 3 0) → ∃ t, exec (.sideClrCounts m c d) s = .next t ∧ t.reg (rSideCnt c k) = 0 ∧ t.resp.code = 0 ∧
       t = { s with regs := t.regs, ev := t.ev, log := t.log, resp := t.resp, jtag := { s.jtag with out := t.jtag.out } })) ∧
   (∀ (c k code : Nat) (s : State), s.Canonical → k < 2 → (∀ g ∈ (s.sh c (1 - k)).msgs, g.old = false ∧ g.acked = false) →
     (s.sh c (1 - k)).acks = [] → (s.sh c (1 - k)).waiting = [] → (s.sh c (1 - k)).msgs.length ≤ 4 →
     let t := flushRxOp c k code s
     (t.sh c (1 - k)).msgs = [] ∧ (t.sh c (1 - k)).acks = (s.sh c (1 - k)).msgs.map (fun g => (g.seq, code)) ∧
       t.fld (rSideCnt c k) 7 0 = min 255 (s.fld (rSideCnt c k) 7 0 + (s.sh c (1 - k)).msgs.length)))

/-- R447, R451, R452: a sender's words accumulate, and are committed whole as one message, or discarded whole if one of them was dropped.
R448, R449, R450: the receiver reads the words of the head message in order, and acknowledges it; the sender reads the acknowledge. -/
def Obligations.SendersAndReceiversComplete : Prop :=
  (∀ (m : Master) (c : Fin 256) (d : Side) (v : Word) (s : State), s.Canonical →
     let p : Page := ⟨.shuttle, c / 4⟩
     let k := sideNo d
     let off := 0x140 + 0x200 * (c.val % 4) + 0x80 * k
     let x := s.sh c k
     (s.Accepts m.id p off v →
       (x.reject = false → ∃ t, exec (.txData m c d v) s = .next t ∧
         t.sh c k = { x with accum := x.accum ++ [v], lenWritten := min 15 (x.lenWritten + 1) } ∧
         (∀ j, j ≠ 2 * c.val + k → SMap.get {} t.shuttles j = SMap.get {} s.shuttles j) ∧ t.resp.code = 0 ∧
         t = { s with regs := t.regs, ev := t.ev, log := t.log, shuttles := t.shuttles, resp := t.resp, jtag := { s.jtag with out := t.jtag.out } }) ∧
       (x.reject = true → ∃ t, exec (.txData m c d v) s = .next t ∧ t.sh c k = { x with lenWritten := min 15 (x.lenWritten + 1) } ∧
         t = { s with regs := t.regs, ev := t.ev, log := t.log, shuttles := t.shuttles, resp := t.resp, jtag := { s.jtag with out := t.jtag.out } })) ∧
     (s.Accepts m.id p (off + 4) v → bitOf v 0 = true →
       let u := s.recorded m.id p (off + 4) v
       (x.reject = true → exec (.txSend m c d v) s = .next ((u.setSh c k { x with accum := [], reject := false, lenWritten := 0 }).done m.id
         p (off + 4))) ∧
       (x.reject = false → x.accum ≠ [] → exec (.txSend m c d v) s = .next ((u.commitMsg c k).done m.id p (off + 4)))) ∧
     (s.AcceptsRead m.id p (off + 8) →
       let u := s.forgetAnswer
       let word (result : Nat) : Word := BitVec.ofNat 32 (place result 30 + place x.seq 15 + x.lenWritten)
       let done (z : State) (result : Nat) : State := z.readDone m.id p (off + 8) (word result)
       (x.reject = true → exec (.txCommit m c d) s = .next (done (u.setSh c k { x with accum := [], reject := false, lenWritten := 0 }) 2)) ∧
       (x.reject = false → x.accum = [] → exec (.txCommit m c d) s = .next (done u 0)) ∧
       (x.reject = false → x.accum ≠ [] → exec (.txCommit m c d) s = .next (done (u.commitMsg c k) 1)))) ∧
  (∀ (m : Master) (c : Fin 256) (d : Side) (s : State), s.Canonical →
     let p : Page := ⟨.shuttle, c / 4⟩
     let k := sideNo d
     let off := 0x140 + 0x200 * (c.val % 4) + 0x80 * k
     let x := s.sh c (1 - k)
     (s.AcceptsRead m.id p (off + 0x18) →
       (∀ g rest w, x.msgs = g :: rest → g.words[g.read]? = some w → ∃ t, exec (.rxData m c d) s = .next t ∧
         t.resp = ⟨m.id, false, sideBase c k + 0x18, [w], 0, .success⟩ ∧
         t.sh c (1 - k) = { x with msgs := { g with read := g.read + 1 } :: rest } ∧ (t.sh c (1 - k)).space = x.space ∧
         t = { s with shuttles := t.shuttles, resp := t.resp, jtag := { s.jtag with out := t.jtag.out } }) ∧
       ((x.msgs = [] ∨ ∃ g rest, x.msgs = g :: rest ∧ g.words.length ≤ g.read) → ∃ t, exec (.rxData m c d) s = .next t ∧
         t.resp = ⟨m.id, false, sideBase c k + 0x18, [0], 0, .success⟩ ∧ t = { s with resp := t.resp, jtag := { s.jtag with out := t.jtag.out } })) ∧
     (∀ v g rest, s.Accepts m.id p (off + 0x20) v → x.msgs = g :: rest →
       let u := s.recorded m.id p (off + 0x20) v
       let y : ShDir := { x with msgs := rest, ackReject := false }
       (g.acked = false → g.old = false → exec (.rxAck m c d v) s = .next ((((u.setSh c (1 - k)
         { y with acks := x.acks ++ [(g.seq, fieldOf v 15 0)] }).shEvent c (1 - k) 1).startHead c (1 - k)).done m.id p (off + 0x20))) ∧
       ((g.acked = true ∨ g.old = true) → exec (.rxAck m c d v) s = .next ((((u.setSh c (1 - k) y).count (rSideCnt c k) 31 24
         1).startHead c (1 - k)).done m.id p (off + 0x20)))) ∧
     (s.AcceptsRead m.id p (off + 0x14) →
       ((s.sh c k).acks = [] → exec (.ackCode m c d) s = .next (s.forgetAnswer.follow.readDone m.id p (off + 0x14) 0)) ∧
       (∀ seq code rest, (s.sh c k).acks = (seq, code) :: rest → exec (.ackCode m c d) s = .next
         ((State.drainAcks 1 (s.forgetAnswer.setSh c k { s.sh c k with acks := rest }) c k).follow.readDone m.id p (off + 0x14)
           (BitVec.ofNat 32 (place 1 31 + place seq 16 + code)))))) ∧
  (∀ (c k : Nat) (s : State), s.Canonical → k < 2 → s.pwrState ≠ pwrEntering → ∃ due, (s.commitMsg c k).sh c k = { s.sh c k with
     accum := [], lenWritten := 0, seq := ((s.sh c k).seq + 1) % 32768,
     msgs := (s.sh c k).msgs ++ [⟨(s.sh c k).seq, (s.sh c k).accum, 0, false, false, due, s.now⟩] })

/-- R460, R462, R466: reading a semaphore takes it if it is free, its holder's write of 0 frees it, any other write is rejected, SEMA_CMD
frees it whoever holds it, and no command touches another semaphore. -/
def Obligations.SemaphoresComplete : Prop :=
  (∀ (m : Master) (n : Fin 256) (s : State), s.Canonical → s.AcceptsRead m.id ⟨.sema, 0⟩ (0x100 + 4 * n.val) →
    ∃ t, exec (.semaLockRead m n) s = .next t ∧ t = { s with semas := t.semas, resp := t.resp, jtag := { s.jtag with out := t.jtag.out } } ∧
        t.resp.code = 0 ∧
      (∀ k, k ≠ n.val → t.holder k = s.holder k) ∧
      (s.holder n = none → t.holder n = some m.id ∧ t.resp.data = [BitVec.ofNat 32 (2 ^ 31 + m.id)]) ∧
      (∀ h, s.holder n = some h → t.holder n = some h ∧ t.resp.data = [BitVec.ofNat 32 ((if h = m.id then 2 ^ 31 else 0) + h)])) ∧
  (∀ (m : Master) (n : Fin 256) (s : State), s.Canonical → s.Accepts m.id ⟨.sema, 0⟩ (0x100 + 4 * n.val) 0 →
    s.holder n = some m.id ∧ ∃ t, exec (.semaRelease m n) s = .next t ∧ t.holder n = none ∧ (∀ k, k ≠ n.val → t.holder k = s.holder k) ∧
      t.resp.code = 0 ∧ t.log = s.log ∧ t = { s with regs := t.regs, semas := t.semas, resp := t.resp, jtag := { s.jtag with out := t.jtag.out } }) ∧
  (∀ (m : Master) (n : Fin 256) (v : Word) (s : State), s.Canonical → s.inReset = false →
    let p : Page := ⟨.sema, 0⟩
    let off := 0x100 + 4 * n.val
    s.waits { master := m.id, addr := p.base + off, write := true, value := v } = false →
    let u := s.begun p off
    u.pageClosed m.id p off = none → u.writeClosed m.id p off v = false → u.mayWrite m.id p off v = true →
    (v = 0 → s.holder n ≠ some m.id → ∃ t : State, exec (.semaRelease m n) s = .next t.noteRejection ∧ t.resp.code = codeNotPermitted ∧ t.semas = s.semas ∧
      t.fld rSemaCnt 15 0 = min 65535 (s.fld rSemaCnt 15 0 + 1)) ∧
    (v ≠ 0 → ∃ t : State, exec (.registerWrite m (BitVec.ofNat 32 (regAddr .sema 0 off)) 15 v) s = .next t.noteRejection ∧
      t.resp.code = codeBadEncoding ∧ t.semas = s.semas) ∧
    (∀ u : State, enginePage u.resp.master = none → u.noteRejection.semas = u.semas)) ∧
  (∀ (m : Master) (n : Fin 256) (h : Nat) (s : State), s.Canonical → s.holder n = some h →
    let v := BitVec.ofNat 32 (2 ^ 31 + n.val)
    s.Accepts m.id ⟨.sema, 0⟩ 0x080 v →
    exec (.semaCmdFree m n) s = .next (((s.recorded m.id ⟨.sema, 0⟩ 0x080 v).forceRelease n h 2).done m.id ⟨.sema, 0⟩ 0x080)) ∧
  (∀ (n h kind : Nat) (s : State), s.Canonical →
    let t := s.forceRelease n h kind
    t.holder n = none ∧ (∀ k, k ≠ n → t.holder k = s.holder k) ∧ t.fld rSemaCnt 31 16 = min 65535 (s.fld rSemaCnt 31 16 + 1) ∧
      t.reg rSemaLast = BitVec.ofNat 32 (place kind 16 + place n 8 + h)) ∧
  (∀ (m : Master) (v : Word) (s : State), s.Canonical → s.Accepts m.id ⟨.sema, 0⟩ 0x08C v → bitOf v 31 = true →
    ∃ t, exec (.semaClrCounts m v) s = .next t ∧ t.reg rSemaCnt = 0 ∧ t.reg rSemaLast = 0 ∧ t.resp.code = 0 ∧
      t = { s with regs := t.regs, ev := t.ev, log := t.log, resp := t.resp, jtag := { s.jtag with out := t.jtag.out } })

/-! Events and the change log (chapter 17). -/

/-- R476 to R480, R490: a record enters the ring or is lost, is read out of it, and the ring is cleared; user events occur. -/
def Obligations.EventRingComplete : Prop :=
  (∀ (e : EvRec) (rest : List EvRec) (s : State), s.Canonical → s.ev.wait = e :: rest →
    (s.ev.ring.length < 4096 → s.ev.ring.length ≠ 2047 → exec .recordEntersRing s = .next
      { s with ev := { s.ev with wait := rest, ring := s.ev.ring ++ [{ e with lost := s.ev.lostMark }], lostMark := false } }) ∧
    (s.ev.ring.length = 2047 → exec .recordEntersRing s = .next (({ s with
      ev := { s.ev with wait := rest, ring := s.ev.ring ++ [{ e with lost := s.ev.lostMark }], lostMark := false } } : State).pulse .event 0 0)) ∧
    (4096 ≤ s.ev.ring.length → ∃ u : State, exec .recordEntersRing s = .next (u.pulse .event 0 1) ∧
      u.ev = { s.ev with wait := rest, lostMark := true } ∧ u = { s with regs := u.regs, ev := u.ev } ∧
      u.reg (regAddr .event 0 0x044) = BitVec.ofNat 32 (min (2 ^ 32 - 1) ((s.reg (regAddr .event 0 0x044)).toNat + 1)))) ∧
  (∀ (m : Master) (s : State), s.Canonical → s.AcceptsRead m.id ⟨.event, 0⟩ 0x100 →
    ∃ t, exec (.recPop m) s = .next t ∧ t.resp.code = 0 ∧
      t = { s with ev := t.ev, caps := t.caps, resp := t.resp, jtag := { s.jtag with out := t.jtag.out } } ∧
      (∀ e rest, s.ev.ring = e :: rest → t.resp.data = [e.seq] ∧ t.ev = { s.ev with ring := rest } ∧
        t.cap m.id (regAddr .event 0 0x104) = some (e.word 1) ∧ t.cap m.id (regAddr .event 0 0x108) = some (e.word 2) ∧
        t.cap m.id (regAddr .event 0 0x10C) = some (e.word 3)) ∧
      (s.ev.ring = [] → t.resp.data = [0] ∧ t.ev = s.ev ∧ ∀ k ∈ [0x104, 0x108, 0x10C], t.cap m.id (regAddr .event 0 k) = some 0)) ∧
  (∀ (m : Master) (v : Word) (s : State), s.Canonical → s.Accepts m.id ⟨.event, 0⟩ 0x04C v →
    ∃ t, exec (.clrRing m v) s = .next t ∧ exec (.clrLost m v) s = .next t ∧ t.resp.code = 0 ∧
      (bitOf v 0 = true → t.ev.ring = [] ∧ t.ev.wait = []) ∧ (bitOf v 0 = false → t.ev.ring = s.ev.ring) ∧
      (bitOf v 1 = true → t.reg (regAddr .event 0 0x044) = 0) ∧ (bitOf v 1 = false → t.reg (regAddr .event 0 0x044) = s.reg (regAddr .event 0 0x044)) ∧
      t = { s with regs := t.regs, ev := t.ev, log := t.log, resp := t.resp, jtag := { s.jtag with out := t.jtag.out } }) ∧
  (∀ (m : Master) (hi : Bool) (v : Word) (s : State), s.Canonical →
    let half := if hi then 1 else 0
    let off := if hi then 0x054 else 0x050
    s.Accepts m.id ⟨.event, 0⟩ off v →
    ∃ t, exec (.usrRaise m hi v) s = .next t ∧ t.resp.code = 0 ∧ t.log = s.log ∧
      (∀ k < 32, t.bit (regAddr .event 0 (0x058 + 4 * half)) k = (s.bit (regAddr .event 0 (0x058 + 4 * half)) k || bitOf v k)) ∧
      ((∀ k < 32, bitOf v k = true → s.bit (regAddr .event 0 (0x060 + 4 * half)) k = false) → t.ev = s.ev) ∧
      t = { s with regs := t.regs, ev := t.ev, resp := t.resp, jtag := { s.jtag with out := t.jtag.out } })

/-- R469: an occurrence of a page's bit sets its sticky bit, and has no other effect while the bit is not enabled. R474: one that is
routed to the ring takes the next sequence number, and within one D1 cycle the numbers follow the event number and the bit. -/
def Obligations.OccurrencesSetStickyBits : Prop :=
  ∀ (k : PageKind) (n bit : Nat) (detail : Word) (s : State), s.Canonical → bit < 32 → n < k.info.2.1 →
    let p : Page := ⟨k, n⟩
    let t := s.raise p bit detail
    t.bit (regAddr k n 0x014) bit = true ∧
    (s.bit (regAddr k n 0x018) bit = false → t.ev = s.ev ∧ ∀ a, a ≠ regAddr k n 0x014 → t.reg a = s.reg a) ∧
    (s.bit (regAddr k n 0x018) bit = true → t = (s.setBit (regAddr k n 0x014) bit true).occur (p.eventOfBit bit) bit detail) ∧
    (s.bit (regAddr k n 0x018) bit = true → bitOf (s.route (p.eventOfBit bit)) 31 = true →
      let r : EvRec := ⟨s.reg (regAddr .event 0 0x048), s.now, p.eventOfBit bit, bit, false, detail⟩
      let later (w : EvRec) : Prop := w.time = s.now ∧ 32 * r.source + bit < 32 * w.source + w.bit
      t.reg (regAddr .event 0 0x048) = s.reg (regAddr .event 0 0x048) + 1 ∧
      ((∀ w ∈ s.ev.wait, ¬ later w) → t.ev.wait = s.ev.wait ++ [r]) ∧
      (∀ before w after, s.ev.wait = before ++ w :: after → (∀ x ∈ before, ¬ later x) → later w →
        t.ev.wait = before ++ { r with seq := w.seq } :: (w :: after).map (fun x => { x with seq := x.seq + 1 }))) ∧
    t = { s with regs := t.regs, ev := t.ev }

/-- R485, R487, R488: LOG_CMD frees entries and is then entered itself; a new entry takes the next number, and where it finds the log full
the oldest goes (WRAP), or the entry is lost and the next one says so (STRICT). -/
def Obligations.ChangeLogComplete : Prop :=
  (∀ (m : Master) (s : State), s.Canonical → s.Accepts m.id ⟨.log, 0⟩ 0x058 1 →
    ∃ t e, exec (.logClear m) s = .next t ∧ t.log.entries = [e] ∧ e.kind = 0xC ∧ e.origin = m.id ∧ e.addr = regAddr .log 0 0x058 ∧
      e.value = BitVec.ofNat 32 s.log.head ∧ t.log.head = (s.log.head + 1) % 2 ^ 32 ∧ t.log.lost = s.log.lost ∧ t.resp.code = 0 ∧
      t = { s with regs := t.regs, ev := t.ev, log := t.log, resp := t.resp, jtag := { s.jtag with out := t.jtag.out } }) ∧
  (∀ (m : Master) (k : Nat) (s : State), s.Canonical → s.Accepts m.id ⟨.log, 0⟩ 0x058 2 → s.freeable = some k →
    let kept := s.log.entries.drop k
    ∃ t e, exec (.logFree m) s = .next t ∧ e.kind = 0xD ∧ e.origin = m.id ∧ e.addr = regAddr .log 0 0x058 ∧ t.resp.code = 0 ∧
      (s.log.entries.length ≤ logSize → e.value = BitVec.ofNat 32 (s.log.oldest + k)) ∧
      (kept.length < logSize → t.log.entries = kept ++ [e]) ∧
      (logSize ≤ kept.length → t.log.entries = if s.logStrict then kept else kept.drop 1 ++ [e]) ∧
      t = { s with regs := t.regs, ev := t.ev, log := t.log, resp := t.resp, jtag := { s.jtag with out := t.jtag.out } }) ∧
  (∀ (origin kind addr : Nat) (value : Word) (s : State), s.Canonical →
    let t := s.logEntry origin kind addr value
    let n := s.log.entries.length
    let e : LogEntry := { time := s.now, origin, kind, late := false, afterLoss := s.log.afterLoss,
                          reserve := s.logStrict && decide (logSize - n ≤ 64), addr, value }
    (n < logSize → t.log.entries = s.log.entries ++ [e] ∧ t.log.head = (s.log.head + 1) % 2 ^ 32 ∧ t.log.lost = s.log.lost ∧
      t.log.afterLoss = false) ∧
    (logSize ≤ n → s.logStrict = false → t.log.entries = s.log.entries.drop 1 ++ [e] ∧ t.log.head = (s.log.head + 1) % 2 ^ 32 ∧
      (n = logSize → s.log.head < 2 ^ 32 → t.log.oldest = (s.log.oldest + 1) % 2 ^ 32) ∧
      t.log.lost = min (2 ^ 32 - 1) (s.log.lost + 1) ∧ t.log.afterLoss = false) ∧
    (s.logStrict = false → ∀ m, s.logRefuses m = false) ∧
    (logSize ≤ n → s.logStrict = true → t.log.entries = s.log.entries ∧ t.log.head = s.log.head ∧ t.log.afterLoss = true ∧
      t.log.lost = min (2 ^ 32 - 1) (s.log.lost + 1)))

/-! Firmware, services, the life cycle and JTAG (chapter 18). -/

/-- R494 to R496: a weft reset, the verdict on a weft container, the watchdog, and HEARTBEAT. -/
def Obligations.WeftCoreComplete : Prop :=
  (∀ (m : Master) (v : Word) (s : State), s.Accepts m.id ⟨.mgmt, 0⟩ 0x044 v →
    let u := s.recorded m.id ⟨.mgmt, 0⟩ 0x044 v
    (bitOf v 0 = true → exec (.weftReset m v) s = .next ((weftResetOp u).follow.done m.id ⟨.mgmt, 0⟩ 0x044)) ∧
    (bitOf v 0 = false → bitOf v 1 = false → u.weftState = weftHeld →
      exec (.weftReset m v) s = .next (u.weftRuns.follow.done m.id ⟨.mgmt, 0⟩ 0x044))) ∧
  (∀ s : State, s.Canonical →
    let z := s.driftAll.identityReset 1
    let t := weftResetOp s
    t.weftState = (if z.fld rWeftSrc 1 0 = 0 then weftNotLoaded else weftLoading) ∧ t.trust.wdog = none ∧ (SMap.wf (fun _ => none)
        z.trust.serving = true → t.serving 1 = none) ∧
      t.fld rWeftResets 15 0 = min 65535 (z.fld rWeftResets 15 0 + 1)) ∧
  (∀ (ok : Bool) (patch : BitVec 16) (version : Word) (s : State), s.weftState = weftLoading →
    let r := (s.setFld rFwVer 15 0 patch.toNat).setBit rCoreStat 3 (decide (patch ≠ 0))
    let u : State := { r with trust := { r.trust with version := version } }
    (ok = true → s.bit rWeftCtrl 1 = true → exec (.weftContainerVerified ok patch version) s = .next (u.setWeft weftHeld).follow) ∧
    (ok = true → s.bit rWeftCtrl 1 = false → exec (.weftContainerVerified ok patch version) s = .next
      ((((u.setWeft weftRunning).setReg rWeftVer version).restartWdog).mgmtEvent 0).follow) ∧
    (ok = false → exec (.weftContainerVerified ok patch version) s = .next ((s.setWeft weftFailed).mgmtEvent 1).follow)) ∧
  (∀ (t due : Nat) (s : State), s.trust.wdog = some due → s.weftState = weftRunning → due ≤ t → s.now ≤ t →
    exec (.weftWdog t) s = .next (((weftResetOp { s with now := t }).count rWeftResets 31 16 1).mgmtEvent 2)) ∧
  (∀ (m : Master) (s : State), s.Canonical → s.AcceptsRead m.id ⟨.mgmt, 0⟩ 0x04C →
    (m.id = 1 → ∃ t, exec (.heartbeat m) s = .next t ∧ t.reg rHeartbeat = s.reg rHeartbeat + 1 ∧ t.resp.data = [s.reg rHeartbeat + 1] ∧
      t.resp.code = 0 ∧ t.trust.wdog = (if s.fld rPolicy 31 16 = 0 then none else some (s.now + 1000000 * s.fld rPolicy 31 16)) ∧
      t = { s with regs := t.regs, trust := t.trust, resp := t.resp }) ∧
    (m.id ≠ 1 → ∃ t, exec (.heartbeat m) s = .next t ∧ t.resp.data = [s.reg rHeartbeat] ∧ t.resp.code = 0 ∧
      t = { s with resp := t.resp, jtag := { s.jtag with out := t.jtag.out } }))

/-- R508, R509: the instructions of the JTAG port, TRST_N, and the debug port, which is closed in PRODUCTION and RETIRED. -/
def Obligations.JtagComplete : Prop :=
  ∀ s : State,
    let now (u : State) (j : Jtag) : State := ((u.withJtag j).refreshPins (List.range 960)).settle
    let cur (i : JtagInstr) : State := now s { s.jtag with instr := i }
    let d := cur .debug
    let code := place (s.fld 0x044 3 0) 28 + place 0x4096 12 + place Config.jtagMaker.toNat 1 + 1
    exec .jtagBypass s = .next (cur .bypass) ∧ exec .jtagExtest s = .next (cur .extest) ∧ exec .jtagHighz s = .next (cur .highz) ∧
    exec .jtagClamp s = .next (cur .clamp) ∧
    exec .jtagIdcode s = .next (now s { s.jtag with instr := .idcode, out := BitVec.ofNat 32 code }) ∧
    (∀ levels : List Bool, levels.length = 960 → exec (.jtagSamplePreload levels) s = .next
      (now s { s.jtag with instr := .sample, captured := (List.range 960).map (fun p => s.pinLevel p), boundary := levels })) ∧
    (let u := (s.withJtag {}).identityReset 5
     exec .trst s = .next (now u { u.jtag with instr := .idcode })) ∧
    (∀ (k : PageKind) (n off : Nat) (v : Word), n < k.info.2.1 → off < 0x1000 → off % 4 = 0 →
      let p : Page := ⟨k, n⟩
      let a : BitVec 32 := BitVec.ofNat 32 (regAddr k n off)
      (d.AcceptsRead 5 p off → ¬ (k = .creel ∧ off = 0x160) →
        let r := readEffect 5 p off d.forgetAnswer
        ∃ t, exec (.dbgAccess false a v) s = .next t ∧ t.resp = ⟨5, false, regAddr k n off, [r.2], 0, .success⟩ ∧ t.jtag.out = r.2) ∧
      (d.Accepts 5 p off v → isStart p off v = false → ¬ (k = .log ∧ off = 0x058) →
        ((d.begun p off).effectOf 5 p off ((d.begun p off).view 5 p off) v).waits = false →
        let w := (State.effectAt 5 p off ((d.begun p off).view 5 p off) v (d.recorded 5 p off v)).done 5 p off
        exec (.dbgAccess true a v) s = .next w ∧ w.jtag.out = 0) ∧
      (d.inReset = false → d.debugOpen = false → d.unpowered p off = false → d.testBusy p off = false → (k = .serdes → off < 0x100) →
        ∀ write, d.waits { master := 5, addr := regAddr k n off, write := write, value := v } = false → ∃ t, exec (.dbgAccess write a v)
            s = .next t ∧ t.resp.code = codeLifecycle ∧ t.resp.master = 5))

/-- R511 to R513: every request is checked before it is served: a device that shuts down, a request of the wrong length or on a channel
that does not carry it, an opcode that no row has; and weft firmware forwards what warp firmware serves. -/
def Obligations.ServiceChecksComplete : Prop :=
  (∀ (msg : SvcMsg) (ok : Bool) (op : Nat) (i : Instr) (s : State),
    (op, i) ∈ [(0x001, Instr.getInfo msg), (0x010, .loadImageHost msg), (0x011, .loadImageFlash msg), (0x012, .reweave msg),
      (0x020, .setVfab msg ok), (0x021, .setPowerState msg), (0x022, .serviceShutdown msg), (0x030, .runTest msg), (0x040, .bindChannel msg),
      (0x041, .lockBindings msg), (0x100, .enrolKey msg), (0x101, .lcAdvance msg ok), (0x102, .stageToken msg), (0x103, .setOwner msg),
      (0x104, .loadWeft msg), (0x105, .setPolicy msg), (0x106, .resetWeft msg)] →
    let ch := msg.channel.val
    let z := s.taken op msg
    ((s.mayServe ch = false ∨ s.isRequest op msg = false) → exec i s = .next s) ∧
    (s.mayServe ch = true → s.isRequest op msg = true →
      (s.shuttingDown = true → exec i s = .next (z.finish ch op codeShuttingDown)) ∧
      (∀ c, s.shuttingDown = false → z.requestBad op msg = some c → exec i s = .next (z.finish ch op c)) ∧
      (s.shuttingDown = false → z.requestBad op msg = none → ch = 1 → forwarded op = true → exec i s = .next (s.forwardRequest op)))) ∧
  (∀ (msg : SvcMsg) (op : BitVec 16) (s : State), s.mayServe msg.channel = true → s.isRequest op.toNat msg = true → s.shuttingDown = false →
    (∀ e ∈ opcodes, e.1 ≠ op.toNat) → exec (.unknownOpcode msg op) s = .next
      ((s.taken op.toNat msg).finish msg.channel op.toNat (if msg.channel = 0 then codeNotPermitted else codeUnknown))) ∧
  (∀ (op code : Nat) (s : State), s.Canonical → op < 2 ^ 16 → code < 2 ^ 16 →
    let t := s.countAnswer op code
    t.reg rSvcLast = BitVec.ofNat 32 (place op 16 + code) ∧ t.fld rSvcCounts 31 16 = min 65535 (s.fld rSvcCounts 31 16 + 1) ∧
      t.fld rSvcCounts 15 0 = (if code = 0 then s.fld rSvcCounts 15 0 else min 65535 (s.fld rSvcCounts 15 0 + 1)))

/-- R511, R512: reports, loads, supply and power requests of weft firmware. -/
def Obligations.WeftServicesComplete : Prop :=
  (∀ (msg : SvcMsg) (s : State), s.Serves 0x01 msg →
    let z := s.taken 0x01 msg
    let ch := msg.channel.val
    let ws := [0x040, 0x044, 0x048, 0x04C, 0x050, 0x05C, 0x060].map (fun off => z.view ch ⟨.device, 0⟩ off)
    (z.replyFits ch ws = true → exec (.getInfo msg) s = .next ((z.reply ch 0x01 msg.tag.toNat ws).finish ch 0x01 0)) ∧
    (z.replyFits ch ws = false → exec (.getInfo msg) s = .next z)) ∧
  (∀ (msg : SvcMsg) (power : List Word) (s : State), power.length = 5 → s.Serves 0x02 msg →
    let z := s.taken 0x02 msg
    let g := fieldOf (paramOf msg 1) 7 0
    let ws := if g = 0 then packPairs ((List.range 10).map (fun k => z.fld (rRailMv k) 15 0))
      else if g = 1 then packPairs ((List.range 4).map (fun p => z.fld (regAddr .panel p 0x044) 9 0)) else power
    (g ≤ 2 → z.replyFits msg.channel ws = true → exec (.getTelemetry msg power) s = .next
      ((z.reply msg.channel 0x02 msg.tag.toNat ws).finish msg.channel 0x02 0)) ∧
    (g ≤ 2 → z.replyFits msg.channel ws = false → exec (.getTelemetry msg power) s = .next z) ∧
    (2 < g → exec (.getTelemetry msg power) s = .next (z.finish 1 0x02 codeBadEncoding))) ∧
  (∀ (msg : SvcMsg) (s : State),
    let load (op : Nat) (hold : Bool) (writes : List (Nat × Word)) (cmd : Word) : State :=
      let z := s.taken op msg
      let a := z.fwWrites 1 ((rCfgCtrl, withBit (z.reg rCfgCtrl) 0 hold) :: writes ++ [(rCfgCmd, cmd)])
      if a.2 = 0 then a.1.await 1 op hold else a.1.finish 1 op a.2
    let host := [(regAddr .config 0 0x054, paramOf msg 1), (regAddr .config 0 0x058, paramOf msg 2), (regAddr .config 0 0x05C, paramOf msg 3)]
    (s.Serves 0x10 msg → (paramOf msg 4).toNat ≤ 1 →
      exec (.loadImageHost msg) s = .next (load 0x10 (bitOf (paramOf msg 4) 0) host (cfgCommand 1 1))) ∧
    (s.Serves 0x11 msg → (paramOf msg 2).toNat ≤ 1 → exec (.loadImageFlash msg) s = .next
      (load 0x11 (bitOf (paramOf msg 2) 0) [(regAddr .config 0 0x060, paramOf msg 1)] (cfgCommand 2 1))) ∧
    (s.Serves 0x12 msg → paramOf msg 4 = 0 → exec (.reweave msg) s = .next (load 0x12 false host (cfgCommand 1 2)))) ∧
  (∀ (msg : SvcMsg) (confirmed : Bool) (s : State), s.Serves 0x20 msg →
    let z := s.taken 0x20 msg
    let w := paramOf msg 1
    ((fieldOf w 31 18 ≠ 0 ∨ fieldOf w 15 0 < 550 ∨ 900 < fieldOf w 15 0) →
      exec (.setVfab msg confirmed) s = .next (z.finish 1 0x20 codeBadEncoding)) ∧
    (fieldOf w 31 18 = 0 → 550 ≤ fieldOf w 15 0 → fieldOf w 15 0 ≤ 900 → exec (.setVfab msg confirmed) s = .next
      (z.finish 1 0x20 (if s.pwr.removed then codeUnpowered else if confirmed then 0 else codeSupplyFault)))) ∧
  (∀ (msg : SvcMsg) (s : State), s.Serves 0x21 msg →
    let sleep := bitOf (paramOf msg 1) 0
    let a := access (Issued.perform { master := 1, addr := regAddr .power 0 0x044, write := true, value := if sleep then 1 else 2 }) (s.taken 0x21 msg)
    (a.resp.code = 0 → exec (.setPowerState msg) s = .next (a.await 1 0x21 sleep)) ∧
    (a.resp.code ≠ 0 → exec (.setPowerState msg) s = .next (a.finish 1 0x21 a.resp.code)))

/-- R512: the requests that warp firmware serves for power, tests, bindings, page owners, policy and the weft core. -/
def Obligations.WarpServicesComplete : Prop :=
  ∀ (msg : SvcMsg) (s : State),
    let ch := msg.channel.val
    let w := paramOf msg 1
    let write (op a : Nat) (v : Word) : State := access (Issued.perform { master := 0, addr := a, write := true, value := v }) (s.taken op msg)
    (s.Serves 0x22 msg → exec (.serviceShutdown msg) s = .next ((shutdownOp (s.taken 0x22 msg)).finish ch 0x22 0).follow) ∧
    (s.Serves 0x30 msg → fieldOf w 30 9 = 0 → fieldOf w 8 0 ≠ 0 →
      let z := write 0x30 rTestCmd (BitVec.ofNat 32 (flag true 31 + flag (bitOf w 31) 30 + fieldOf w 8 0))
      (z.resp.code = 0 → exec (.runTest msg) s = .next (z.await ch 0x30 false)) ∧
      (z.resp.code ≠ 0 → exec (.runTest msg) s = .next (z.finish ch 0x30 z.resp.code))) ∧
    (s.Serves 0x30 msg → fieldOf w 30 9 = 0 → fieldOf w 8 0 = 0 → bitOf w 31 = true →
      let z := write 0x30 rTestCmd (BitVec.ofNat 32 (flag true 30))
      exec (.runTest msg) s = .next (z.finish ch 0x30 z.resp.code)) ∧
    (s.Serves 0x30 msg → (fieldOf w 30 9 ≠ 0 ∨ (fieldOf w 8 0 = 0 ∧ bitOf w 31 = false)) →
      exec (.runTest msg) s = .next ((s.taken 0x30 msg).finish ch 0x30 codeBadEncoding)) ∧
    (s.Serves 0x40 msg → fieldOf w 30 24 = 0 → fieldOf w 15 14 = 0 → fieldOf w 7 6 = 0 →
      let c := fieldOf w 23 16
      let z := write 0x40 (rShBind c) (BitVec.ofNat 32 (flag (bitOf w 31) 31 + place (fieldOf w 13 8) 16 + fieldOf w 5 0))
      (c < 8 → exec (.bindChannel msg) s = .next ((s.taken 0x40 msg).finish ch 0x40 codeNotPermitted)) ∧
      (8 ≤ c → s.bit (regAddr .shuttle 0 0x040) 0 = true → exec (.bindChannel msg) s = .next ((s.taken 0x40 msg).finish ch 0x40 codeLocked)) ∧
      (8 ≤ c → s.bit (regAddr .shuttle 0 0x040) 0 = false → exec (.bindChannel msg) s = .next (z.finish ch 0x40 z.resp.code))) ∧
    (s.Serves 0x41 msg → let z := write 0x41 (regAddr .shuttle 0 0x040) 1
      exec (.lockBindings msg) s = .next (z.finish ch 0x41 z.resp.code)) ∧
    (s.Serves 0x103 msg → ∀ ps, pageRange w.toNat (paramOf msg 2).toNat = some ps →
      let id := BitVec.ofNat 32 (fieldOf (paramOf msg 3) 5 0)
      let z := s.taken 0x103 msg
      (∀ p ∈ ps, z.valueBad p 0x02C id = none) → (∀ p ∈ ps, ownerFixed p.kind = false) → (∀ p ∈ ps, z.bit (p.base + 0x030) 0 = false) →
      let a := z.fwWrites 0 (ps.map (fun p => (p.base + 0x02C, id)))
      ps ≠ [] → exec (.setOwner msg) s = .next (a.1.finish 2 0x103 a.2)) ∧
    (s.Serves 0x104 msg → 0 < (paramOf msg 3).toNat → (paramOf msg 3).toNat ≤ 2 ^ 21 → exec (.loadWeft msg) s = .next
      ((((s.taken 0x104 msg).setWeft weftLoading).setFld rWeftSrc 1 0 2).setServing 2 (some { opcode := 0x104, since := s.now }))) ∧
    (s.Serves 0x105 msg → fieldOf w 15 0 = 0 → let z := write 0x105 rPolicy w
      exec (.setPolicy msg) s = .next (z.finish 2 0x105 z.resp.code)) ∧
    (s.Serves 0x106 msg → exec (.resetWeft msg) s = .next ((weftResetOp (s.taken 0x106 msg)).finish 2 0x106 0))

/-- R503 to R507, R519: the staging of keys and tokens part by part, the transitions of the life cycle, and the burns that end them. -/
def Obligations.LifeCycleComplete : Prop :=
  (∀ (msg : SvcMsg) (s : State), s.Serves 0x100 msg →
    let z := s.taken 0x100 msg
    let w := paramOf msg 1
    let slot := fieldOf w 31 28
    let part := fieldOf w 27 24
    let count := fieldOf w 23 20
    let ws := msg.params.drop 1
    slot < 2 → (z.lcState = 2 ∨ z.lcState = 3) → z.fld rKeyStat (2 * slot + 1) (2 * slot) = 0 →
    (z.trust.staged = none → count = (if slot = 0 then 6 else 2) → part = 0 → ws.length = 4 → exec (.enrolKey msg) s = .next
      ((z.setStaged ⟨slot, count, ws⟩).finish 2 0x100 0)) ∧
    (z.trust.staged = none → count = (if slot = 0 then 6 else 2) → 0 < part → exec (.enrolKey msg) s = .next
      (z.dropStaged.finish 2 0x100 (if part < count then codeSequence else codeBadEncoding))) ∧
    (∀ g, z.trust.staged = some g → g.slot = slot → g.count = count → g.words.length = 4 * part → ws.length = 4 →
      (part + 1 < count → exec (.enrolKey msg) s = .next ((z.setStaged ⟨slot, count, g.words ++ ws⟩).finish 2 0x100 0)) ∧
      (count ≤ part + 1 → exec (.enrolKey msg) s = .next (z.dropStaged.startBurn (.key slot (g.words ++ ws)) 0x100)))) ∧
  (∀ (msg : SvcMsg) (s : State), s.Serves 0x102 msg →
    let z := s.taken 0x102 msg
    let w := paramOf msg 1
    let part := fieldOf w 27 24
    let ws := msg.params.drop 1
    part < 7 → ws.length = 4 →
    (z.trust.staged = none → fieldOf w 23 20 = 7 → part = 0 → exec (.stageToken msg) s = .next ((z.setStaged ⟨16, 7, ws⟩).finish 2 0x102 0)) ∧
    (∀ g, z.trust.staged = some g → g.slot = 16 → g.count = 7 → fieldOf w 23 20 = 7 → g.words.length = 4 * part →
      (part < 6 → exec (.stageToken msg) s = .next ((z.setStaged ⟨16, 7, g.words ++ ws⟩).finish 2 0x102 0)) ∧
      (part = 6 → ∃ u : State, exec (.stageToken msg) s = .next (u.finish 2 0x102 0) ∧
        u = { z with trust := { z.trust with staged := none, token := some (g.words ++ ws) } }))) ∧
  (∀ (msg : SvcMsg) (tokenOk : Bool) (s : State), s.Serves 0x101 msg →
    let z := s.taken 0x101 msg
    let target := fieldOf (paramOf msg 1) 3 0
    (7 ≤ target → exec (.lcAdvance msg tokenOk) s = .next (z.finish 2 0x101 codeBadEncoding)) ∧
    (target < 7 → paramOf msg 2 ≠ z.reg rSerialLo → exec (.lcAdvance msg tokenOk) s = .next (z.finish 2 0x101 codeConfirm)) ∧
    (target < 7 → paramOf msg 2 = z.reg rSerialLo →
      (lcKnown z.lcState target = false → exec (.lcAdvance msg tokenOk) s = .next (z.finish 2 0x101 codeLifecycle)) ∧
      (lcKnown z.lcState target = true → z.lcCondition target = false → exec (.lcAdvance msg tokenOk) s = .next (z.finish 2 0x101 codeCondition)) ∧
      (lcKnown z.lcState target = true → z.lcCondition target = true →
        (∀ kind, lcToken z.lcState target = some kind → z.tokenGood kind target tokenOk = false → exec (.lcAdvance msg tokenOk)
            s = .next (z.finish 2 0x101 codeToken)) ∧
        ((∀ kind, lcToken z.lcState target = some kind → z.tokenGood kind target tokenOk = true) → exec (.lcAdvance msg tokenOk)
            s = .next (z.startBurn (.life target) 0x101))))) ∧
  (∀ (t target : Nat) (s : State), s.trust.burn = some (.life target) → s.burnWaits = false → s.now ≤ t →
    ∃ u : State, exec (.fuseBurnDone t) s = .next ((u.enterLc target).finish 2 0x101 0) ∧
      u = { s with now := t, trust := { s.trust with burn := none } }) ∧
  (∀ (target : Nat) (s : State), s.Canonical → target < 7 →
    (s.enterLc target).lcState = target ∧ (s.enterLc target).fld rLcStat 31 24 = (s.fld rLcStat 31 24 + 1) % 256) ∧
  (∀ (t slot : Nat) (ws : List Word) (s : State), s.trust.burn = some (.key slot ws) → s.burnWaits = false → s.now ≤ t →
    ∃ u : State, exec (.keyBurnDone t) s = .next ((u.enterKey slot ws).finish 2 0x100 0) ∧
      u = { s with now := t, trust := { s.trust with burn := none } }) ∧
  (∀ (t : Nat) (b : Burn) (v : Service) (s : State), s.trust.burn = some b → s.serving 2 = some v → s.burnWaits = true →
    v.since + 100000000 ≤ t → s.now ≤ t → ∃ u : State, exec (.supplyFault t) s = .next (u.finish 2 v.opcode codeSupplyFault) ∧
      u = { s with now := t, trust := { s.trust with burn := none } })

/-! Power, resets, start-up and tests (chapters 02 and 19). -/

/-- R518 to R520, R539: a rail's warning and its end, the measured levels, and the clearing of the records. -/
def Obligations.RailEventsComplete : Prop :=
  (∀ (k : Fin 10) (mv : BitVec 16) (t : Nat) (s : State), s.now ≤ t →
    let u : State := { s with now := t }
    let noted (x : State) : State := (x.withPwr { x.pwr with
        warn := x.pwr.warn + 2 ^ k.val, dipMin := SMap.set 0 x.pwr.dipMin k mv.toNat,
        dipStart := SMap.set 0 x.pwr.dipStart k x.now }).raise ⟨.power, 0⟩ 0 (BitVec.ofNat 32 (place k 28 + mv.toNat))
    ((s.pwr.warn.testBit k = true ∨ (s.pwr.removed = true ∧ k.val < 4) ∨ warnLevel k ≤ mv.toNat) →
      exec (.railWarn k mv t) s = .next s.afterBolts) ∧
    (s.pwr.warn.testBit k = false → mv.toNat < warnLevel k → 4 ≤ k.val → exec (.railWarn k mv t) s = .next (noted u).afterBolts) ∧
    (s.pwr.warn.testBit k = false → mv.toNat < warnLevel k → k.val < 4 → s.pwr.removed = false → exec (.railWarn k mv t) s = .next
      (((noted ((sendingSeams k).foldl (fun s f => s.holdSeamFrame f) u)).setReg (regAddr .panel k 0x040) 0).holdPanel k).afterBolts)) ∧
  (∀ (k : Fin 10) (t : Nat) (s : State), s.Canonical → s.now ≤ t → s.pwr.warn.testBit k = true →
    let low := SMap.get 0 s.pwr.dipMin k
    let began := SMap.get 0 s.pwr.dipStart k
    low < 2 ^ 16 →
    ∃ u : State, exec (.railRecovered k t) s = .next (u.raise ⟨.power, 0⟩ 1 (BitVec.ofNat 32 (place k 28 + low))).settle ∧
      u.fld rDipRec 31 28 = k.val ∧ u.fld rDipRec 15 0 = low ∧ u.reg rDipTime = BitVec.ofNat 32 began ∧
      u.reg rDipLen = BitVec.ofNat 32 (min (2 ^ 32 - 1) ((t - began) / 1000)) ∧
      u = { s with
          now := t, regs := u.regs,
          pwr := { s.pwr with
            warn := s.pwr.warn - 2 ^ k.val, dipMin := SMap.set 0 s.pwr.dipMin k 0, dipStart := SMap.set 0 s.pwr.dipStart k 0 } }) ∧
  (∀ (mvs : List (BitVec 16)) (t : Nat) (s : State), s.Canonical → s.now ≤ t → mvs.length = 10 →
    ∃ z, exec (.railMeasure mvs t) s = .next z ∧ z = { s with now := t, regs := z.regs, pwr := z.pwr } ∧
      (∀ k < 10, z.fld (rRailMv k) 15 0 = (mvs.getD k 0).toNat ∧
        z.reg (rRailMin k) = BitVec.ofNat 32 (min (s.fld (rRailMin k) 15 0) (mvs.getD k 0).toNat)) ∧
      z.pwr.warn = s.pwr.warn ∧ ∀ a, (∀ k < 10, a ≠ rRailMv k ∧ a ≠ rRailMin k) → z.reg a = s.reg a) ∧
  (∀ (m : Master) (v : Word) (s : State), s.Canonical → s.Accepts m.id ⟨.power, 0⟩ 0x114 v → bitOf v 0 = true →
    ∃ t, exec (.pwrClr m v) s = .next t ∧ t.resp.code = 0 ∧ (∀ k < 10, t.reg (rRailMin k) = 0xFFFF) ∧
      (∀ a ∈ [rDipRec, rDipTime, rDipLen, rFaultTrips, rPwrCounts], t.reg a = 0) ∧
      t = { s with regs := t.regs, ev := t.ev, log := t.log, resp := t.resp, jtag := { s.jtag with out := t.jtag.out } })

/-- R20, R521, R522: the resets, and what each of them keeps. -/
def Obligations.ResetsComplete : Prop :=
  (∀ (cause rail : Nat) (s : State), s.Canonical → s.trust.burn = none →
    let t := s.deviceReset cause rail
    t.reg rRstCause = BitVec.ofNat 32 (place rail 8 + cause) ∧ t.reg rRstCount = s.reg rRstCount + 1 ∧ t.log = s.log ∧ t.jtag = s.jtag ∧
      t.cells = [] ∧ t.cfgMem = [] ∧ t.bolts = [] ∧ t.creels = [] ∧ t.arrays = [] ∧ t.shuttles = [] ∧ t.semas = [] ∧ t.ev = {} ∧
      t.boot.stage = .rom ∧ t.pending = s.pending ∧ t.lcState = s.lcState ∧ t.reg rSerialLo = s.reg rSerialLo ∧
      t.reg rNvssBoot = s.reg rNvssBoot ∧ (∀ a, fusedReg a = false → keptReg a = false → a ≠ 0x050 → a ≠ rFwVer → t.reg a = resetOf a)) ∧
  (∀ (vaon : Bool) (straps : BitVec 4) (s : State), s.Canonical → s.trust.burn = none →
    ∃ t, exec (.powerOnReset vaon straps) s = .next t ∧ t.now = 0 ∧ t.reg rRstCause = (if vaon then 2 else 1) ∧
      t.reg 0x058 = BitVec.ofNat 32 (place (straps.toNat / 8) 4 + flag (decide (5 ≤ straps.toNat % 8)) 3 + straps.toNat % 8) ∧ t.log = {} ∧
      t.cells = [] ∧ t.cfgMem = [] ∧ t.bolts = [] ∧ t.pending = s.pending ∧ t.lcState = s.lcState ∧ t.reg rSerialLo = s.reg rSerialLo ∧
      t.reg rNvssBoot = s.reg rNvssBoot ∧ ∀ a, fusedReg a = false → a ≠ 0x050 → a ≠ rFwVer → a ≠ rRstCause → t.reg a = resetOf a) ∧
  (∀ (k : Fin 10) (t : Nat) (s : State), s.now ≤ t →
    (k.val ≠ 6 → s.masked k = false → exec (.railReset k t) s = .next (({ s with now := t } : State).deviceReset 0x03 k)) ∧
    ((k.val = 6 ∨ s.masked k = true) → exec (.railReset k t) s = .next s)) ∧
  (∀ (m : Master) (s : State), s.Accepts m.id ⟨.reset, 0⟩ 0x048 5 → exec (.deviceReset m) s = .next
    (((s.recorded m.id ⟨.reset, 0⟩ 0x048 5).deviceReset 0x05 0).done m.id ⟨.reset, 0⟩ 0x048)) ∧
  (∀ (t : Nat) (s : State), s.now ≤ t →
    exec (.warpException t) s = .next (({ s with now := t } : State).deviceReset 0x06 0) ∧
    (s.pwr.refLost = false → exec (.sysRefclkLoss t) s = .next
      (({ s with now := t, pwr := { s.pwr with refLost := true } } : State).deviceReset 0x04 0)) ∧
    (s.pwr.refLost = true → exec (.sysRefclkReturn t) s = .next
      { s with now := t, pwr := { s.pwr with refLost := false }, boot := { s.boot with start := t, faultLow := false } }))

/-- R523 to R527: SLEEP is commanded, refused and entered; a wake source wakes the device, its rails come ready, and it goes on. -/
def Obligations.SleepAndWakeComplete : Prop :=
  ∀ (m : Master) (t : Nat) (s : State), s.now ≤ t →
    let p : Page := ⟨.power, 0⟩
    let u : State := { s with now := t }
    (u.Accepts m.id p 0x044 1 →
      let r := ((u.recorded m.id p 0x044 1).setReg rWakeCause 0).setPwr pwrEntering
      (s.pick.released = false → exec (.pwrSleep m t) s = .next (r.fallAsleep.advanceAll.follow.done m.id p 0x044)) ∧
      (s.pick.released = true → exec (.pwrSleep m t) s = .next ((r.requestClose 0).advanceAll.follow.done m.id p 0x044))) ∧
    (s.pwrState = pwrEntering → s.entryFails t = true → exec (.sleepRefused t) s = .next
      ((u.abandonEntry.countSleepRefused).pwrEvent 4 codeNotQuiescent).advanceAll.follow) ∧
    (s.pwrState = pwrEntering → s.allClosed = true → exec (.sleepEntered t) s = .next u.fallAsleep.follow) ∧
    (∃ v : State, u.fallAsleep = (v.refreshPins (List.range 960)).settle ∧ v.pwr.removed = true ∧ v.pwr.fabPwrEn = false ∧
      v.pwr.warn = s.pwr.warn / 16 * 16 ∧ v.pinsAsleep = true ∧
      (s.Canonical → v.pwrState = pwrSleeping ∧ (∀ g, (v.pace g).locked = false) ∧ ∀ q < 12, (v.quad q).pll = false)) ∧
    (u.Accepts m.id p 0x044 2 → exec (.pwrWake m t) s = .next ((wakeOp 3 (u.recorded m.id p 0x044 2)).follow.done m.id p 0x044)) ∧
    (exec (.wakePin t) s = .next (wakeOp 1 u).follow.unparkPorts) ∧
    (s.Canonical → ∀ k < 4, (k < 3 → s.bit rWakeCfg k = true) →
      (s.pwrState = pwrSleeping → wakeOp k u = ((({ u with pwr := { u.pwr with tw := t, fabPwrEn := true } } : State).setReg rWakeCause
        (BitVec.ofNat 32 (2 ^ k))).setPwr pwrWaking)) ∧
      (s.pwrState = pwrEntering → let w := (u.setReg rWakeCause (BitVec.ofNat 32 (2 ^ k))).abandonEntry
        wakeOp k u = (w.pwrEvent 3 (w.fld rWakeCause 3 0)).advanceAll) ∧
      (s.pwrState = pwrWaking → wakeOp k u = u.setBit rWakeCause k true) ∧
      (s.pwrState = pwrActive → wakeOp k u = u)) ∧
    (∀ upset : Option ShadowUpset, s.pwr.removed = true → s.pwr.warn.testBit 4 = false → s.pwr.fabPwrEn = true →
      let q : State := { upsetShadow upset s with now := t }
      let z := q.withPwr { q.pwr with removed := false }
      let bad := allBolts.filter (fun b => z.committed b && (z.cellShadowsBad (fun r => z.boltOf r == b) || z.twillShadowsBad b) &&
        decide ((z.bolt b).stage ∉ [BoltStage.halt, .notReleased]))
      let y := bad.foldl (fun s b => s.enterHalt b 0x11) (allBolts.foldl (fun s b => s.restoreTwills b) (z.restoreCells (fun _ => true)))
      let x : State := { y with
          creels := y.creels.foldl (fun m e => SMap.set {} m e.1 { e.2 with scrubPos := 0 }) [],
          paces := y.paces.foldl (fun m e => SMap.set {} m e.1 { e.2 with relock := e.2.enabled && e.2.refOk }) [] }
      (s.pwrState ≠ pwrWaking → exec (.wakeRailsReady upset t) s = .next z.follow) ∧
      (s.pwrState = pwrWaking → exec (.wakeRailsReady upset t) s = .next ((x.setReg rScrubPos 0).wakeQuads).settle.follow)) ∧
    (s.pwr.removed = true → s.pwrState = pwrWaking → s.pwr.tw + 2500000 ≤ t → exec (.wakeLate t) s = .next (u.setBit rDipRec 27 true)) ∧
    (s.pwr.removed = false → s.pwrState = pwrWaking →
      let z := ((List.range 320).foldl (fun s n => s.resyncBoth n) ({ u with pinsAsleep := false } : State).abandonEntry)
      let y := (z.refreshPins (List.range 960)).settle
      exec (.wakeComplete t) s = .next ((y.pwrEvent 3 (y.fld rWakeCause 3 0)).advanceAll).follow.unparkPorts)

/-- R531, R532: SHUTDOWN is commanded or asked for by its pin, and the doff test starts when every bolt is closed. R528 to R530, R540:
warp ROM boots on the quick or the full path, the quick path's check of the device ends, and the device is up. -/
def Obligations.ShutdownAndStartUpComplete : Prop :=
  (∀ (m : Master) (t : Nat) (s : State), s.now ≤ t →
     let p : Page := ⟨.power, 0⟩
     let u : State := { s with now := t }
     (u.Accepts m.id p 0x044 3 → exec (.pwrShutdown m t) s = .next ((shutdownOp (u.recorded m.id p 0x044 3)).follow.done m.id p 0x044)) ∧
     (exec (.pwrdnReq t) s = .next (shutdownOp u).follow) ∧
     ((s.shuttingDown = true ∨ s.boot.stage = .held) → shutdownOp s = s) ∧
     (s.shuttingDown = false →
       (s.boot.stage ≠ .held → s.boot.stage ≠ .up → shutdownOp s =
         ({ s with boot := { s.boot with stage := .held, left := [], safeOff := true } }.setReg rTestStat 0).setPwr pwrOffReady) ∧
       (s.boot.stage = .up →
         let a := (s.setPwr pwrShutdown).stopChannels
         let b := if a.abortRefused then a else a.abortLoad
         ((s.pwrState = pwrSleeping ∨ s.pwrState = pwrWaking) → shutdownOp s = { b with pwr := { b.pwr with
             closing := some 1, closeHit := false,
             fabPwrEn := true } }) ∧
         (s.pwrState ≠ pwrSleeping → s.pwrState ≠ pwrWaking → shutdownOp s = b.requestClose 1))) ∧
     (∀ expected : Word, s.pwrState = pwrShutdown → s.pwr.removed = false → s.allClosed = true → s.boot.left = [] → s.burnWaits = false →
       let v : State := { u.keepLevels with pinsAsleep := true }
       let w := (v.withBoot { v.boot with newest := 1 - v.boot.newest }).setDoffRec ⟨v.reg rNvssBoot, 0, expected, 0, [], 0, false⟩
       exec (.doffStart expected t) s = .next (((w.setPwr pwrDoff).startTest testDoff 63 [1, 2, 3, 4, 5, 6, 7, 8, 9]).refreshPins (List.range
         960)).settle)) ∧
  (∀ (t : Nat) (s : State), s.Canonical → s.now ≤ t →
     let u : State := { s with now := t }
     (s.boot.stage = .rom → s.pwr.refLost = false →
       exec (.warpRomBoot false t) s = .next u.holdInReset ∧
       (s.burnWaits = false → ∃ w : State, w.boot.reason = s.fullReason ∧ w.bit rCoreStat 0 = true ∧ w.reg rNvssBoot = s.reg rNvssBoot + 1 ∧
         w.boot.stage = (if s.fullReason = 0 then .sanity else .full) ∧ w.boot.quick = decide (s.fullReason = 0) ∧
         w.reg rNvssQuick = BitVec.ofNat 32 (if s.fullReason = 0 then s.fld rNvssQuick 5 0 + 1 else 0) ∧
         w = { s with now := t, regs := w.regs, boot := w.boot } ∧
         exec (.warpRomBoot true t) s = .next (if s.fullReason = 0 then w.startTest testQuick 63 [] else
           w.startTest testFull 63 [1, 2, 3, 4, 5, 6, 7, 8, 9]))) ∧
     (s.boot.stage = .sanity → ∀ (engineOk nvssOk shadowOk : Bool) (failing : List (Fin 4096)),
       let c := u.checkersTested (failing.map (fun n => n.val))
       let failed := flag (!shadowOk) 2 + flag (!failing.isEmpty) 3 + flag (!nvssOk) 6
       ((engineOk = false ∨ nvssOk = false) → exec (.sanityCheckDone engineOk nvssOk shadowOk failing t) s = .next
         (c.endTest false failed).holdInReset) ∧
       ((shadowOk = false ∨ failing ≠ []) → let w := (c.endTest false (flag (!shadowOk) 2 + flag (!failing.isEmpty) 3)).enterSafe
         exec (.sanityCheckDone true true shadowOk failing t) s = .next (w.withBoot { w.boot with stage := .clearing })) ∧
       (let w := (u.checkersTested []).endTest true 0
        exec (.sanityCheckDone true true true [] t) s = .next (w.withBoot { w.boot with stage := .clearing })) ∧
       ∀ n : Fin 4096, (c.bit (rTwSelftest (n / 16)) (n % 16) = true ↔ n ∈ failing)) ∧
     (s.boot.stage = .clearing →
       let w := u.bootOwners.bootBindings
       let x := (w.withBoot { w.boot with stage := .up }).setReg rStartInfo w.startInfo
       let y := x.raise ⟨.reset, 0⟩ 0 (BitVec.ofNat 32 (x.fld rStartInfo 15 0))
       (y.qspiBoot = false → ∀ image, exec (.deviceUp image t) s = .next y) ∧
       (y.qspiBoot = true → exec (.deviceUp true t) s = .next ((y.setWeft weftLoading).setFld rWeftSrc 1 0 1).strapLoad ∧
         exec (.deviceUp false t) s = .next y.strapLoad)))

/-- R532, R533, R536, R537: a class of the running test ends, a test starts on command, and DIAG_EN. -/
def Obligations.TestsComplete : Prop :=
  (∀ (signature : Dword) (patterns : Word) (good : Bool) (twills : List (Fin 4096)) (t c : Nat) (rest : List Nat) (s : State),
    s.boot.left = c :: rest → s.testWaits = false → s.now ≤ t →
    let u : State := { s with now := t }
    let v := if c = 4 then u.checkersTested (twills.map (fun n => n.val)) else u
    let passed := good && !(decide (c = 3) && v.anyShadowBad) && !(decide (c = 4) && !twills.isEmpty)
    let w := v.recordClass c signature patterns passed
    let failed := w.fld rTestResult 24 16 - w.fld rTestResult 8 0
    let stops := w.testState = testFull ∧ (failed.testBit 1 = true ∨ failed.testBit 6 = true)
    (stops → exec (.testClassDone signature patterns good twills t) s = .next (w.endFull false failed).follow) ∧
    (¬ stops → rest ≠ [] → exec (.testClassDone signature patterns good twills t) s = .next (w.withBoot { w.boot with left := rest }).showClass.follow) ∧
    (¬ stops → rest = [] → w.testState = testFull → exec (.testClassDone signature patterns good twills t)
        s = .next (w.endFull (decide (failed = 0)) failed).follow) ∧
    (rest = [] → w.testState = testDoff → exec (.testClassDone signature patterns good twills t) s = .next (w.endDoff (decide (failed = 0))
        failed).follow) ∧
    (rest = [] → w.testState ≠ testFull → w.testState ≠ testDoff → exec (.testClassDone signature patterns good twills t)
        s = .next (w.endTest (decide (failed = 0)) failed).follow)) ∧
  (∀ (m : Master) (mask : BitVec 9) (s : State),
    let p : Page := ⟨.test, 0⟩
    let v := BitVec.ofNat 32 (place 1 31 + mask.toNat)
    s.Accepts m.id p 0x040 v →
    (mask ≠ 0 → exec (.testStart m mask) s = .next (((s.recorded m.id p 0x040 v).startTest testOnDemand m.id (maskClasses mask.toNat)).done
      m.id p 0x040)) ∧
    (mask = 0 → exec (.testStart m mask) s = .next ((s.recorded m.id p 0x040 v).done m.id p 0x040))) ∧
  (∀ (m : Master) (v : Word) (s : State), s.Accepts m.id ⟨.test, 0⟩ 0x040 v → bitOf v 31 = false →
    exec (.diagEn m v) s = .next ((s.recorded m.id ⟨.test, 0⟩ 0x040 v).done m.id ⟨.test, 0⟩ 0x040)) ∧
  (∀ (st origin : Nat) (classes : List Nat) (s : State), s.Canonical → st < 16 → (∀ c ∈ classes, 1 ≤ c ∧ c ≤ 9) →
    let t := s.startTest st origin classes
    t.testState = st ∧ t.boot.left = classes ∧ t.reg rTestResult = 0 ∧ t.reg rTestPatterns = 0 ∧
      t.fld rTestStat 27 24 = classes.headD 0 ∧ t.cells = s.cells ∧ t.bolts = s.bolts)

/-- R10, R542 and the register tables: the reset values of the spec's tables, and what is empty after reset. The fuses that log entries 1
and 43 name are the model's choice. -/
def Obligations.ResetValuesHold : Prop :=
  let s := State.reset
  (∀ a, a ≠ 0x050 → a ≠ 0x054 → s.reg a = resetOf a) ∧
  s.pending = [] ∧ s.now = 0 ∧ s.cells = [] ∧ s.cfgMem = [] ∧ s.log.entries = [] ∧ s.ev.ring = [] ∧ s.semas = [] ∧ s.issued = [] ∧
  s.engState = engIdle ∧ s.pwrState = pwrActive ∧ s.weftState = weftNotLoaded ∧ s.linkIsUp = false ∧ s.pick.released = false ∧
  (∀ k < 10, s.reg (rRailMin k) = 0xFFFF) ∧ (∀ b, s.cell b 0 = {}) ∧ (∀ n, s.holder n = none)
end

