-- ==== Sys2Proof/Laws/Memory.lean ====
section
/-!
SUPPORT. The laws of the sparse map: read after write, the canonical form that every operation keeps, and that two maps in
canonical form that read alike are equal data.
-/

namespace Sys2Proof.Machine

variable {α : Type}

theorem SMap.get_insert_same (d : α) (m : SMap α) (k : Nat) (v : α) : SMap.get d (SMap.insert m k v) k = v := by
  induction m with
  | nil => simp [SMap.insert, SMap.get]
  | cons e m ih =>
    obtain ⟨j, w⟩ := e
    by_cases h1 : k < j
    · simp [SMap.insert, SMap.get, h1]
    · by_cases h2 : k = j
      · simp [SMap.insert, SMap.get, h2]
      · simp [SMap.insert, SMap.get, h1, h2, ih, Ne.symm h2]

theorem SMap.get_insert_other (d : α) (m : SMap α) {k j : Nat} (v : α) (h : j ≠ k) :
    SMap.get d (SMap.insert m k v) j = SMap.get d m j := by
  induction m with
  | nil => simp [SMap.insert, SMap.get, Ne.symm h]
  | cons e m ih =>
    obtain ⟨i, w⟩ := e
    by_cases h1 : k < i
    · simp [SMap.insert, SMap.get, h1, Ne.symm h]
    · by_cases h2 : k = i
      · subst h2; simp [SMap.insert, SMap.get, Ne.symm h]
      · simp [SMap.insert, SMap.get, h1, h2, ih]

theorem SMap.get_erase_other (d : α) (m : SMap α) {k j : Nat} (h : j ≠ k) :
    SMap.get d (SMap.erase m k) j = SMap.get d m j := by
  induction m with
  | nil => rfl
  | cons e m ih =>
    obtain ⟨i, w⟩ := e
    by_cases h2 : i = k
    · subst h2; simp [SMap.erase, SMap.get, Ne.symm h]
    · simp [SMap.erase, SMap.get, h2, ih]

/-- Writing one key leaves every other as it reads. -/
theorem SMap.get_set_other [DecidableEq α] (d e : α) (m : SMap α) {k j : Nat} (v : α) (h : j ≠ k) :
    SMap.get d (SMap.set e m k v) j = SMap.get d m j := by
  unfold SMap.set
  split
  · exact SMap.get_erase_other d m h
  · exact SMap.get_insert_other d m v h

/-! The canonical form as an ordering of keys. -/

/-- Every key is at least `b`. -/
def SMap.above (b : Nat) (m : SMap α) : Prop := ∀ e ∈ m, b ≤ e.1

theorem SMap.sorted_cons (j : Nat) (w : α) (m : SMap α) :
    SMap.sorted ((j, w) :: m) = true ↔ SMap.above (j + 1) m ∧ SMap.sorted m = true := by
  induction m generalizing j w with
  | nil => simp [SMap.sorted, SMap.above]
  | cons e m ih =>
    obtain ⟨k, x⟩ := e
    simp only [SMap.sorted, Bool.and_eq_true, decide_eq_true_eq]
    constructor
    · rintro ⟨h, hs⟩
      refine ⟨?_, hs⟩
      intro e he
      rcases List.mem_cons.mp he with rfl | he
      · exact h
      · exact Nat.le_trans (Nat.le_succ_of_le h) (((ih k x).mp hs).1 e he)
    · rintro ⟨ha, hs⟩
      exact ⟨ha (k, x) (by simp), hs⟩

theorem SMap.get_of_above (d : α) (m : SMap α) {k : Nat} (h : SMap.above (k + 1) m) : SMap.get d m k = d := by
  induction m with
  | nil => rfl
  | cons e m ih =>
    obtain ⟨j, w⟩ := e
    have hj := h (j, w) (by simp)
    have : j ≠ k := by simp at hj; omega
    simp only [SMap.get, this, if_false]
    exact ih (fun e he => h e (List.mem_cons_of_mem _ he))

theorem SMap.get_erase_same (d : α) (m : SMap α) (k : Nat) (h : SMap.sorted m = true) : SMap.get d (SMap.erase m k) k = d := by
  induction m with
  | nil => rfl
  | cons e m ih =>
    obtain ⟨j, w⟩ := e
    have hs := (SMap.sorted_cons j w m).mp h
    by_cases hj : j = k
    · subst hj; simpa [SMap.erase] using SMap.get_of_above d m hs.1
    · simp [SMap.erase, SMap.get, hj, ih hs.2]

theorem SMap.wf_cons [DecidableEq α] (d : Nat → α) (j : Nat) (w : α) (m : SMap α) :
    SMap.wf d ((j, w) :: m) = true ↔ SMap.above (j + 1) m ∧ w ≠ d j ∧ SMap.wf d m = true := by
  simp only [SMap.wf, Bool.and_eq_true, List.all_cons, decide_eq_true_eq, SMap.sorted_cons]
  tauto

theorem SMap.wf_sorted [DecidableEq α] {d : Nat → α} {m : SMap α} (h : SMap.wf d m = true) : SMap.sorted m = true := by
  simp only [SMap.wf, Bool.and_eq_true] at h
  exact h.1

/-- A key just written reads back. -/
theorem SMap.get_set_same [DecidableEq α] (d : α) (m : SMap α) (k : Nat) (v : α) (h : SMap.sorted m = true) :
    SMap.get d (SMap.set d m k v) k = v := by
  unfold SMap.set
  split
  · rename_i hv; rw [SMap.get_erase_same d m k h, hv]
  · exact SMap.get_insert_same d m k v

/-! Every operation keeps the canonical form. -/

theorem SMap.get_set [DecidableEq α] (d : α) (m : SMap α) (k j : Nat) (v : α) (h : SMap.sorted m = true) :
    SMap.get d (SMap.set d m k v) j = if j = k then v else SMap.get d m j := by
  split
  · subst_vars; exact SMap.get_set_same d m _ v h
  · exact SMap.get_set_other d d m v ‹_›

/-- Every entry is what its key holds. -/
theorem SMap.get_of_mem (d : α) (m : SMap α) (h : SMap.sorted m = true) : ∀ e ∈ m, SMap.get d m e.1 = e.2 := by
  induction m with
  | nil => simp
  | cons e m ih =>
    obtain ⟨j, w⟩ := e
    rw [SMap.sorted_cons] at h
    intro e he
    rcases List.mem_cons.mp he with rfl | he
    · simp [SMap.get]
    · have := h.1 e he
      have : j ≠ e.1 := by omega
      simp [SMap.get, this, ih h.2 e he]

theorem SMap.get_of_not_mem (d : α) (m : SMap α) (k : Nat) (h : ∀ e ∈ m, e.1 ≠ k) : SMap.get d m k = d := by
  induction m with
  | nil => rfl
  | cons e m ih =>
    obtain ⟨j, w⟩ := e
    have := h (j, w) (by simp)
    simp at this
    simp [SMap.get, this, ih (fun e he => h e (by simp [he]))]

theorem SMap.pairwise_of_sorted (m : SMap α) (h : SMap.sorted m = true) : m.Pairwise (fun a b => a.1 < b.1) := by
  induction m with
  | nil => exact List.Pairwise.nil
  | cons e m ih =>
    obtain ⟨j, w⟩ := e
    rw [SMap.sorted_cons] at h
    exact List.Pairwise.cons (fun e he => h.1 e he) (ih h.2)

theorem SMap.wf_nil [DecidableEq α] (d : Nat → α) : SMap.wf d [] = true := rfl

theorem SMap.above_erase {b k : Nat} {m : SMap α} (h : SMap.above b m) : SMap.above b (SMap.erase m k) := by
  induction m with
  | nil => exact h
  | cons e m ih =>
    obtain ⟨j, w⟩ := e
    have hm : SMap.above b m := fun e he => h e (List.mem_cons_of_mem _ he)
    unfold SMap.erase
    split
    · exact hm
    · intro e he
      rcases List.mem_cons.mp he with rfl | he
      · exact h _ (by simp)
      · exact ih hm e he

theorem SMap.above_insert {b k : Nat} {m : SMap α} {v : α} (h : SMap.above b m) (hk : b ≤ k) : SMap.above b (SMap.insert m k v) := by
  induction m with
  | nil => intro e he; simp [SMap.insert] at he; subst he; exact hk
  | cons e m ih =>
    obtain ⟨j, w⟩ := e
    have hm : SMap.above b m := fun e he => h e (List.mem_cons_of_mem _ he)
    have hj : b ≤ j := h (j, w) (by simp)
    unfold SMap.insert
    split
    · intro e he
      rcases List.mem_cons.mp he with rfl | he
      · exact hk
      · exact h e he
    · split
      · intro e he
        rcases List.mem_cons.mp he with rfl | he
        · exact hk
        · exact hm e he
      · intro e he
        rcases List.mem_cons.mp he with rfl | he
        · exact hj
        · exact ih hm e he

theorem SMap.wf_erase [DecidableEq α] {d : Nat → α} {m : SMap α} (k : Nat) (h : SMap.wf d m = true) :
    SMap.wf d (SMap.erase m k) = true := by
  induction m with
  | nil => exact h
  | cons e m ih =>
    obtain ⟨j, w⟩ := e
    have hc := (SMap.wf_cons d j w m).mp h
    unfold SMap.erase
    split
    · exact hc.2.2
    · exact (SMap.wf_cons d j w _).mpr ⟨SMap.above_erase hc.1, hc.2.1, ih hc.2.2⟩

theorem SMap.wf_insert [DecidableEq α] {d : Nat → α} {m : SMap α} {k : Nat} {v : α} (h : SMap.wf d m = true) (hv : v ≠ d k) :
    SMap.wf d (SMap.insert m k v) = true := by
  induction m with
  | nil => exact (SMap.wf_cons d k v []).mpr ⟨fun _ he => (List.not_mem_nil he).elim, hv, rfl⟩
  | cons e m ih =>
    obtain ⟨j, w⟩ := e
    have hc := (SMap.wf_cons d j w m).mp h
    unfold SMap.insert
    split
    · rename_i hk
      refine (SMap.wf_cons d k v _).mpr ⟨?_, hv, h⟩
      intro e he
      rcases List.mem_cons.mp he with rfl | he
      · exact hk
      · exact Nat.le_trans (Nat.succ_le_succ (Nat.le_of_lt hk)) (hc.1 e he)
    · split
      · rename_i hk
        exact (SMap.wf_cons d k v m).mpr ⟨by subst hk; exact hc.1, hv, hc.2.2⟩
      · exact (SMap.wf_cons d j w _).mpr ⟨SMap.above_insert hc.1 (by omega), hc.2.1, ih hc.2.2⟩

theorem SMap.wf_set [DecidableEq α] {d : Nat → α} {m : SMap α} {k : Nat} {v : α} (h : SMap.wf d m = true) :
    SMap.wf d (SMap.set (d k) m k v) = true := by
  unfold SMap.set
  split
  · exact SMap.wf_erase k h
  · rename_i hv; exact SMap.wf_insert h hv

theorem SMap.wf_filter [DecidableEq α] {d : Nat → α} {m : SMap α} (p : Nat × α → Bool) (h : SMap.wf d m = true) :
    SMap.wf d (m.filter p) = true := by
  induction m with
  | nil => exact h
  | cons e m ih =>
    obtain ⟨j, w⟩ := e
    have hc := (SMap.wf_cons d j w m).mp h
    rw [List.filter_cons]
    split
    · exact (SMap.wf_cons d j w _).mpr ⟨fun e he => hc.1 e (List.mem_of_mem_filter he), hc.2.1, ih hc.2.2⟩
    · exact ih hc.2.2

/-- Writes one after another, of any values to any keys. -/
theorem SMap.wf_foldl [DecidableEq α] {β : Type} {d : Nat → α} (l : List β) (f : SMap α → β → SMap α)
    (hf : ∀ m x, SMap.wf d m = true → SMap.wf d (f m x) = true) {m : SMap α} (h : SMap.wf d m = true) :
    SMap.wf d (l.foldl f m) = true := by
  induction l generalizing m with
  | nil => exact h
  | cons x l ih => exact ih (hf m x h)

/-- Two maps in canonical form that read alike are equal data. -/
theorem SMap.eq_of_get [DecidableEq α] {d : Nat → α} {m n : SMap α} (hm : SMap.wf d m = true) (hn : SMap.wf d n = true)
    (h : ∀ k, SMap.get (d k) m k = SMap.get (d k) n k) : m = n := by
  induction m generalizing n with
  | nil =>
    cases n with
    | nil => rfl
    | cons e n =>
      obtain ⟨j, w⟩ := e
      have := h j
      simp only [SMap.get, if_true] at this
      exact absurd this.symm ((SMap.wf_cons d j w n).mp hn).2.1
  | cons e m ih =>
    obtain ⟨j, w⟩ := e
    have hc := (SMap.wf_cons d j w m).mp hm
    cases n with
    | nil =>
      have := h j
      simp only [SMap.get, if_true] at this
      exact absurd this hc.2.1
    | cons e n =>
      obtain ⟨i, x⟩ := e
      have hd := (SMap.wf_cons d i x n).mp hn
      have hij : j = i := by
        rcases Nat.lt_trichotomy j i with hlt | heq | hlt
        · have := h j
          simp only [SMap.get, if_true, Nat.ne_of_gt hlt, if_false] at this
          rw [SMap.get_of_above (d j) n (fun e he => by have := hd.1 e he; omega)] at this
          exact absurd this hc.2.1
        · exact heq
        · have := h i
          simp only [SMap.get, if_true, Nat.ne_of_gt hlt, if_false] at this
          rw [SMap.get_of_above (d i) m (fun e he => by have := hc.1 e he; omega)] at this
          exact absurd this.symm hd.2.1
      subst hij
      have hw : w = x := by have := h j; simpa [SMap.get] using this
      subst hw
      have : m = n := ih hc.2.2 hd.2.2 (fun k => by
        by_cases hk : j = k
        · subst hk
          rw [SMap.get_of_above (d j) m hc.1, SMap.get_of_above (d j) n hd.1]
        · have := h k
          simpa [SMap.get, hk] using this)
      rw [this]

end Sys2Proof.Machine
end

