-- ==== Sys2Proof/Laws/Follows.lean ====
section
/-!
SUPPORT. What every operation of the device keeps: the queue stays as it is, device time does not go back, and memories in
canonical form stay so. `Follows s t` says this of a state `t` reached from `s`; the lemma of an operation carries it over
that operation, so that no later proof unfolds it.
-/

namespace Sys2Proof.Machine

structure Follows (s t : State) : Prop where
  queue : t.pending = s.pending
  time : s.now ≤ t.now
  memory : s.Canonical → t.Canonical

theorem Follows.refl (s : State) : Follows s s := ⟨rfl, Nat.le_refl _, id⟩

theorem Follows.trans {s u t : State} (h : Follows s u) (k : Follows u t) : Follows s t :=
  ⟨k.queue.trans h.queue, Nat.le_trans h.time k.time, fun c => k.memory (h.memory c)⟩

theorem Follows.ite {s a b : State} {c : Prop} [Decidable c] (h : Follows s a) (k : Follows s b) :
    Follows s (if c then a else b) := by
  split
  · exact h
  · exact k

theorem Follows.foldl {β : Type} {s u : State} (l : List β) (f : State → β → State) (h : Follows s u)
    (hf : ∀ t x, Follows s t → Follows s (f t x)) : Follows s (l.foldl f u) := by
  induction l generalizing u with
  | nil => exact h
  | cons x l ih => exact ih (hf u x h)

theorem Follows.foldlMem {β : Type} {s u : State} (l : List β) (f : State → β → State) (h : Follows s u)
    (hf : ∀ t, ∀ x ∈ l, Follows s t → Follows s (f t x)) : Follows s (l.foldl f u) := by
  induction l generalizing u with
  | nil => exact h
  | cons x l ih => exact ih (hf u x (by simp) h) (fun t y hy => hf t y (List.mem_cons_of_mem x hy))

theorem Follows.foldlFst {β γ : Type} {s : State} {p : State × γ} (l : List β) (f : State × γ → β → State × γ) (h : Follows s p.1)
    (hf : ∀ q x, Follows s q.1 → Follows s (f q x).1) : Follows s (l.foldl f p).1 := by
  induction l generalizing p with
  | nil => exact h
  | cons x l ih => exact ih (hf p x h)

theorem Follows.iteFst {γ : Type} {s : State} {a b : State × γ} {c : Prop} [Decidable c] (h : Follows s a.1) (k : Follows s b.1) :
    Follows s (if c then a else b).1 := by
  split
  · exact h
  · exact k

theorem Follows.ofEq {γ : Type} {s t : State} {p : State × γ} {b : γ} (e : p = (t, b)) (h : Follows s p.1) : Follows s t := by
  subst e; exact h

section

variable
    {free : Nat} {resp : Response} {ev : Events} {log : ChangeLog} {pick : PickState} {pwr : Power} {glitch : Option (Nat ×
    Bool)} {held : List Nat} {issued : List Issued} {slotWait : List Issued} {pickedIn : List Nat} {pinsCfg : Bool}
    {pinsAsleep : Bool} {eng : Engine} {trust : Trust} {jtag : Jtag} {boot : Boot} {pcie : Pcie}

/-- An update of fields that are neither the queue, the time nor a sparse memory. -/
theorem Follows.same {s u : State} (h : Follows s u) :
    Follows s
      { u with
        free := free, resp := resp, ev := ev, log := log, pick := pick, pwr := pwr,
        glitch := glitch, held := held, issued := issued, slotWait := slotWait, pickedIn := pickedIn, pinsCfg := pinsCfg,
        pinsAsleep := pinsAsleep, eng := eng, trust := trust, jtag := jtag, boot := boot, pcie := pcie } :=
  h.trans ⟨rfl, Nat.le_refl _, fun c => { c with }⟩

end

theorem Follows.regs {s u : State} {m} (hm : u.Canonical → SMap.wf resetOf m = true) (h : Follows s u) :
    Follows s { u with regs := m } :=
  h.trans ⟨rfl, Nat.le_refl _, fun c => { c with regs := hm c }⟩

theorem Follows.caps {s u : State} {m} (hm : u.Canonical → SMap.wf (fun _ => none) m = true) (h : Follows s u) :
    Follows s { u with caps := m } :=
  h.trans ⟨rfl, Nat.le_refl _, fun c => { c with caps := hm c }⟩

theorem Follows.bolts {s u : State} {m} (hm : u.Canonical → SMap.wf (fun _ => {}) m = true) (h : Follows s u) :
    Follows s { u with bolts := m } :=
  h.trans ⟨rfl, Nat.le_refl _, fun c => { c with bolts := hm c }⟩

theorem Follows.cells {s u : State} {m} (hm : u.Canonical → SMap.wf (fun _ => {}) m = true) (h : Follows s u) :
    Follows s { u with cells := m } :=
  h.trans ⟨rfl, Nat.le_refl _, fun c => { c with cells := hm c }⟩

theorem Follows.joins {s u : State} {m} (hm : u.Canonical → SMap.wf (fun _ => false) m = true) (h : Follows s u) :
    Follows s { u with joins := m } :=
  h.trans ⟨rfl, Nat.le_refl _, fun c => { c with joins := hm c }⟩

theorem Follows.cfgMem {s u : State} {m} (hm : u.Canonical → SMap.wf (fun _ => {}) m = true) (h : Follows s u) :
    Follows s { u with cfgMem := m } :=
  h.trans ⟨rfl, Nat.le_refl _, fun c => { c with cfgMem := hm c }⟩

theorem Follows.seamHeld {s u : State} {m} (hm : u.Canonical → SMap.wf (fun _ => false) m = true) (h : Follows s u) :
    Follows s { u with seamHeld := m } :=
  h.trans ⟨rfl, Nat.le_refl _, fun c => { c with seamHeld := hm c }⟩

theorem Follows.taps {s u : State} {m} (hm : u.Canonical → SMap.wf (fun _ => none) m = true) (h : Follows s u) :
    Follows s { u with taps := m } :=
  h.trans ⟨rfl, Nat.le_refl _, fun c => { c with taps := hm c }⟩

theorem Follows.portIn {s u : State} {m} (hm : u.Canonical → SMap.wf (fun _ => false) m = true) (h : Follows s u) :
    Follows s { u with portIn := m } :=
  h.trans ⟨rfl, Nat.le_refl _, fun c => { c with portIn := hm c }⟩

theorem Follows.creels {s u : State} {m} (hm : u.Canonical → SMap.wf (fun _ => {}) m = true) (h : Follows s u) :
    Follows s { u with creels := m } :=
  h.trans ⟨rfl, Nat.le_refl _, fun c => { c with creels := hm c }⟩

theorem Follows.arrays {s u : State} {m} (hm : u.Canonical → SMap.wf (fun _ => {}) m = true) (h : Follows s u) :
    Follows s { u with arrays := m } :=
  h.trans ⟨rfl, Nat.le_refl _, fun c => { c with arrays := hm c }⟩

theorem Follows.twills {s u : State} {m} (hm : u.Canonical → SMap.wf (fun _ => {}) m = true) (h : Follows s u) :
    Follows s { u with twills := m } :=
  h.trans ⟨rfl, Nat.le_refl _, fun c => { c with twills := hm c }⟩

theorem Follows.bridges {s u : State} {m} (hm : u.Canonical → SMap.wf (fun _ => {}) m = true) (h : Follows s u) :
    Follows s { u with bridges := m } :=
  h.trans ⟨rfl, Nat.le_refl _, fun c => { c with bridges := hm c }⟩

theorem Follows.paces {s u : State} {m} (hm : u.Canonical → SMap.wf (fun _ => {}) m = true) (h : Follows s u) :
    Follows s { u with paces := m } :=
  h.trans ⟨rfl, Nat.le_refl _, fun c => { c with paces := hm c }⟩

theorem Follows.fbps {s u : State} {m} (hm : u.Canonical → SMap.wf (fun _ => {}) m = true) (h : Follows s u) :
    Follows s { u with fbps := m } :=
  h.trans ⟨rfl, Nat.le_refl _, fun c => { c with fbps := hm c }⟩

theorem Follows.pins {s u : State} {m} (hm : u.Canonical → SMap.wf (fun _ => {}) m = true) (h : Follows s u) :
    Follows s { u with pins := m } :=
  h.trans ⟨rfl, Nat.le_refl _, fun c => { c with pins := hm c }⟩

theorem Follows.portSample {s u : State} {m} (hm : u.Canonical → SMap.wf (fun _ => false) m = true) (h : Follows s u) :
    Follows s { u with portSample := m } :=
  h.trans ⟨rfl, Nat.le_refl _, fun c => { c with portSample := hm c }⟩

theorem Follows.bankOk {s u : State} {m} (hm : u.Canonical → SMap.wf (fun _ => false) m = true) (h : Follows s u) :
    Follows s { u with bankOk := m } :=
  h.trans ⟨rfl, Nat.le_refl _, fun c => { c with bankOk := hm c }⟩

theorem Follows.patterns {s u : State} {m} (hm : u.Canonical → SMap.wf (fun _ => {}) m = true) (h : Follows s u) :
    Follows s { u with patterns := m } :=
  h.trans ⟨rfl, Nat.le_refl _, fun c => { c with patterns := hm c }⟩

theorem Follows.periphs {s u : State} {m} (hm : u.Canonical → SMap.wf (fun _ => {}) m = true) (h : Follows s u) :
    Follows s { u with periphs := m } :=
  h.trans ⟨rfl, Nat.le_refl _, fun c => { c with periphs := hm c }⟩

theorem Follows.shuttles {s u : State} {m} (hm : u.Canonical → SMap.wf (fun _ => {}) m = true) (h : Follows s u) :
    Follows s { u with shuttles := m } :=
  h.trans ⟨rfl, Nat.le_refl _, fun c => { c with shuttles := hm c }⟩

theorem Follows.semas {s u : State} {m} (hm : u.Canonical → SMap.wf (fun _ => none) m = true) (h : Follows s u) :
    Follows s { u with semas := m } :=
  h.trans ⟨rfl, Nat.le_refl _, fun c => { c with semas := hm c }⟩

theorem Follows.quads {s u : State} {m} (hm : u.Canonical → SMap.wf (fun _ => {}) m = true) (h : Follows s u) :
    Follows s { u with quads := m } :=
  h.trans ⟨rfl, Nat.le_refl _, fun c => { c with quads := hm c }⟩

theorem Follows.lanes {s u : State} {m} (hm : u.Canonical → SMap.wf (fun _ => {}) m = true) (h : Follows s u) :
    Follows s { u with lanes := m } :=
  h.trans ⟨rfl, Nat.le_refl _, fun c => { c with lanes := hm c }⟩

theorem Follows.chans {s u : State} {m} (hm : u.Canonical → SMap.wf (fun _ => {}) m = true) (h : Follows s u) :
    Follows s { u with chans := m } :=
  h.trans ⟨rfl, Nat.le_refl _, fun c => { c with chans := hm c }⟩

theorem Follows.pacesAsleep {s u : State} {m b} (hm : u.Canonical → SMap.wf (fun _ => {}) m = true) (h : Follows s u) :
    Follows s { u with paces := m, pinsAsleep := b } :=
  h.trans ⟨rfl, Nat.le_refl _, fun c => { c with paces := hm c }⟩

theorem Follows.creelsPaces {s u : State} {m n} (hm : u.Canonical → SMap.wf (fun _ => {}) m = true)
    (hn : u.Canonical → SMap.wf (fun _ => {}) n = true) (h : Follows s u) : Follows s { u with creels := m, paces := n } :=
  h.trans ⟨rfl, Nat.le_refl _, fun c => { c with creels := hm c, paces := hn c }⟩

theorem Follows.pickedSample {s u : State} {m l} (hm : u.Canonical → SMap.wf (fun _ => false) m = true) (h : Follows s u) :
    Follows s { u with portSample := m, pickedIn := l } :=
  h.trans ⟨rfl, Nat.le_refl _, fun c => { c with portSample := hm c }⟩

/-- Cells, joins and hard blocks as another state that follows has them. -/
theorem Follows.blocks {s u g : State} (hg : Follows u g) (h : Follows s u) :
    Follows s { u with cells := g.cells, joins := g.joins, bridges := g.bridges, fbps := g.fbps, creels := g.creels, twills := g.twills } :=
  h.trans ⟨rfl, Nat.le_refl _, fun c =>
    { c with cells := (hg.memory c).cells, joins := (hg.memory c).joins, bridges := (hg.memory c).bridges, fbps := (hg.memory c).fbps,
             creels := (hg.memory c).creels, twills := (hg.memory c).twills }⟩

theorem State.at_follows {s u : State} (t : Nat) (h : Follows s u) : Follows s (u.at t) :=
  h.trans ⟨rfl, Nat.le_max_left _ _, fun c => { c with }⟩

end Sys2Proof.Machine
end

