-- ==== Sys2Proof/Laws/FollowsOps.lean ====
section
/-!
SUPPORT. What `Follows` says, kept by the operations of the shared operations, cells, creels, queues and twill blocks.
-/

namespace Sys2Proof.Machine

/-! Machine/Ops.lean -/

theorem State.tick_follows {z : State} (s : State) (hz : Follows z s) : Follows z (State.tick s) := by
  unfold State.tick
  repeat' first | with_reducible assumption | fail_if_no_progress with_reducible apply Follows.same

theorem State.setReg_follows {z : State} (s : State) (a : Nat) (v : Word) (hz : Follows z s) : Follows z (State.setReg s a v) :=
  hz.regs (fun c => SMap.wf_set c.regs)

theorem State.setFld_follows {z : State} (s : State) (a hi lo v : Nat) (hz : Follows z s) : Follows z (State.setFld s a hi lo v) := by
  unfold State.setFld; repeat' with_reducible (first | assumption | apply State.setReg_follows)

theorem State.setBit_follows {z : State} (s : State) (a k : Nat) (b : Bool) (hz : Follows z s) : Follows z (State.setBit s a k b) := by
  unfold State.setBit; repeat' with_reducible (first | assumption | apply State.setReg_follows)

theorem State.count_follows {z : State} (s : State) (a hi lo n : Nat) (hz : Follows z s) : Follows z (State.count s a hi lo n) := by
  unfold State.count; repeat' with_reducible (first | assumption | apply State.setFld_follows)

theorem State.countWrap_follows {z : State} (s : State) (a : Nat) (hz : Follows z s) : Follows z (State.countWrap s a) := by
  unfold State.countWrap; repeat' with_reducible (first | assumption | apply State.setReg_follows)

theorem State.setPair_follows {z : State} (s : State) (lo hi : Nat) (v : Nat) (hz : Follows z s) :
    Follows z (State.setPair s lo hi v) := by
  unfold State.setPair; repeat' with_reducible (first | assumption | apply State.setReg_follows)

theorem State.setCap_follows {z : State} (s : State) (m a : Nat) (v : Option Word) (hz : Follows z s) : Follows z (State.setCap s m a v) :=
  hz.caps (fun c => SMap.wf_set c.caps)

theorem State.occur_follows {z : State} (s : State) (n bit : Nat) (detail : Word) (hz : Follows z s) :
    Follows z (State.occur s n bit detail) := by
  unfold State.occur
  repeat' first
    | with_reducible assumption | with_reducible apply State.countWrap_follows | with_reducible apply Follows.ite
    | fail_if_no_progress with_reducible apply Follows.same

theorem State.raise_follows {z : State} (s : State) (p : Page) (k : Nat) (detail : Word) (hz : Follows z s) :
    Follows z (State.raise s p k detail) := by
  unfold State.raise
  repeat' with_reducible (first | assumption | apply State.setBit_follows | apply State.occur_follows | apply Follows.ite)

theorem State.pulse_follows {z : State} (s : State) (k : PageKind) (n bit : Nat) (hz : Follows z s) :
    Follows z (State.pulse s k n bit) := by
  unfold State.pulse; repeat' with_reducible (first | assumption | apply State.raise_follows)

theorem State.countChange_follows {z : State} (s : State) (a : Nat) (hz : Follows z s) : Follows z (State.countChange s a) := by
  unfold State.countChange
  repeat' first | with_reducible (first | assumption | apply State.countWrap_follows) | split

theorem State.logPut_follows {z : State} (s : State) (late : Bool) (origin kind addr : Nat) (value : Word) (hz : Follows z s) :
    Follows z (State.logPut s late origin kind addr value) := by
  unfold State.logPut
  repeat' first
    | with_reducible assumption | with_reducible apply State.pulse_follows | with_reducible apply Follows.ite
    | fail_if_no_progress with_reducible apply Follows.same

theorem State.logAs_follows {z : State} (s : State) (late : Bool) (origin kind addr : Nat) (value : Word) (hz : Follows z s) :
    Follows z (State.logAs s late origin kind addr value) := by
  unfold State.logAs
  repeat' with_reducible (first | assumption | apply State.countChange_follows | apply State.logPut_follows)

theorem State.logEntry_follows {z : State} (s : State) (origin kind addr : Nat) (value : Word) (hz : Follows z s) :
    Follows z (State.logEntry s origin kind addr value) := by
  unfold State.logEntry; repeat' with_reducible (first | assumption | apply State.logAs_follows)

theorem State.answer_follows {z : State} (s : State) (m : Nat) (write : Bool) (a : Nat) (data : List Word) (code : Nat) (hz : Follows z s) :
    Follows z (State.answer s m write a data code) := by
  unfold State.answer
  repeat' first | with_reducible assumption | fail_if_no_progress with_reducible apply Follows.same

theorem State.recordRejection_follows {z : State} (s : State) (p : Page) (m : Nat) (write : Bool) (off code : Nat) (hz : Follows z s) :
    Follows z (State.recordRejection s p m write off code) := by
  unfold State.recordRejection
  repeat' with_reducible (first | assumption | apply State.setReg_follows | apply State.setFld_follows | apply State.count_follows)

theorem State.recordUnmapped_follows {z : State} (s : State) (m : Nat) (write : Bool) (a : Nat) (hz : Follows z s) :
    Follows z (State.recordUnmapped s m write a) := by
  unfold State.recordUnmapped
  repeat' with_reducible (first | assumption | apply State.pulse_follows | apply State.recordRejection_follows)

/-! Machine/Events.lean -/

theorem recordEnters_follows {z : State} (s : State) (hz : Follows z s) : Follows z (recordEnters s) := by
  unfold recordEnters
  try dsimp only
  repeat' first
    | with_reducible assumption | with_reducible apply State.setReg_follows | with_reducible apply State.pulse_follows | split
    | fail_if_no_progress with_reducible apply Follows.same

theorem popRecord_follows {z : State} (m : Nat) (s : State) (hz : Follows z s) : Follows z (popRecord m s).1 := by
  unfold popRecord
  repeat' first
    | with_reducible assumption | with_reducible apply State.setCap_follows | split
    | fail_if_no_progress with_reducible apply Follows.same

theorem clearRing_follows {z : State} (s : State) (hz : Follows z s) : Follows z (clearRing s) := by
  unfold clearRing
  repeat' first | with_reducible assumption | fail_if_no_progress with_reducible apply Follows.same

theorem userRaise_follows {z : State} (m half v : Nat) (s : State) (hz : Follows z s) : Follows z (userRaise m half v s) := by
  unfold userRaise
  repeat' first
    | intro _ | with_reducible assumption | with_reducible apply State.setBit_follows | with_reducible apply State.occur_follows
    | with_reducible apply Follows.ite | with_reducible apply Follows.foldl

theorem logClearOp_follows {z : State} (s : State) (hz : Follows z s) : Follows z (logClearOp s) := by
  unfold logClearOp
  repeat' first | with_reducible (first | assumption | apply State.pulse_follows) | fail_if_no_progress with_reducible apply Follows.same

theorem logFreeOp_follows {z : State} (s : State) (hz : Follows z s) : Follows z (logFreeOp s) := by
  unfold logFreeOp
  repeat' first | with_reducible (first | assumption | apply State.pulse_follows) | fail_if_no_progress with_reducible apply Follows.same

/-! Machine/Bolts.lean -/

theorem State.setBolt_follows {z : State} (s : State) (b : Nat) (v : Bolt) (hz : Follows z s) : Follows z (State.setBolt s b v) :=
  hz.bolts (fun c => SMap.wf_set c.bolts)

theorem State.detect_follows {z : State} (s : State) (b cause loc : Nat) (hz : Follows z s) : Follows z (State.detect s b cause loc) := by
  unfold State.detect
  repeat' with_reducible (first | assumption | apply State.setBolt_follows | apply Follows.ite)

theorem State.raiseCommit_follows {z : State} (s : State) (b kind cause : Nat) (hz : Follows z s) :
    Follows z (State.raiseCommit s b kind cause) := by
  unfold State.raiseCommit; repeat' with_reducible (first | assumption | apply State.raise_follows)

theorem State.logBolt_follows {z : State} (s : State) (b kind cause : Nat) (hz : Follows z s) :
    Follows z (State.logBolt s b kind cause) := by
  unfold State.logBolt; repeat' with_reducible (first | assumption | apply State.logEntry_follows)

theorem State.enterHold_follows {z : State} (s : State) (b : Nat) (hz : Follows z s) : Follows z (State.enterHold s b) := by
  unfold State.enterHold
  repeat' with_reducible (first | assumption | apply State.setBolt_follows | apply State.raiseCommit_follows | apply Follows.ite)

theorem State.openBolt_follows {z : State} (s : State) (b : Nat) (hz : Follows z s) : Follows z (State.openBolt s b) := by
  unfold State.openBolt
  repeat' with_reducible (first | assumption | apply State.setBolt_follows | apply State.enterHold_follows | apply Follows.ite)

/-! Machine/CfgMem.lean -/

theorem State.setCfgWord_follows {z : State} (s : State) (f k : Nat) (w : CfgWord) (hz : Follows z s) : Follows z
    (State.setCfgWord s f k w) :=
  hz.cfgMem (fun c => SMap.wf_set c.cfgMem)

/-! Machine/Slots.lean -/

/-! Machine/Creel.lean -/

theorem State.setCreel_follows {z : State} (s : State) (n : Nat) (v : Creel) (hz : Follows z s) : Follows z (State.setCreel s n v) :=
  hz.creels (fun c => SMap.wf_set c.creels)

theorem State.setPort_follows {z : State} (s : State) (n : Nat) (p : PortSide) (w : CPort) (hz : Follows z s) :
    Follows z (State.setPort s n p w) := by
  unfold State.setPort; repeat' with_reducible (first | assumption | apply State.setCreel_follows)

theorem State.setArr_follows {z : State} (s : State) (n w : Nat) (v : ArrWord) (hz : Follows z s) : Follows z (State.setArr s n w v) :=
  hz.arrays (fun c => SMap.wf_set c.arrays)

theorem State.creelEvent_follows {z : State} (s : State) (n bit : Nat) (hz : Follows z s) : Follows z (State.creelEvent s n bit) := by
  unfold State.creelEvent; repeat' with_reducible (first | assumption | apply State.pulse_follows)

theorem State.noteCorrected_follows {z : State} (s : State) (n w : Nat) (hz : Follows z s) : Follows z (State.noteCorrected s n w) := by
  unfold State.noteCorrected
  repeat' with_reducible (first | assumption | apply State.count_follows | apply State.setCreel_follows | apply State.creelEvent_follows)

theorem State.countUe_follows {z : State} (s : State) (n w source : Nat) (hz : Follows z s) : Follows z (State.countUe s n w source) := by
  unfold State.countUe
  repeat' with_reducible (first | assumption | apply State.setReg_follows | apply State.count_follows)

theorem State.noteUe_follows {z : State} (s : State) (n w source bit : Nat) (hz : Follows z s) :
    Follows z (State.noteUe s n w source bit) := by
  unfold State.noteUe
  repeat' with_reducible (first | assumption | apply State.creelEvent_follows | apply State.countUe_follows)

theorem State.upsetMirror_follows {z : State} (s : State) (n w : Nat) (m : BitVec 3) (hz : Follows z s) :
    Follows z (State.upsetMirror s n w m) := by
  unfold State.upsetMirror; repeat' with_reducible (first | assumption | apply State.setCreel_follows)

theorem State.logUndo_follows {z : State} (s : State) (n w : Nat) (upset : BitVec 72) (hz : Follows z s) :
    Follows z (State.logUndo s n w upset) := by
  unfold State.logUndo
  repeat' with_reducible (first | assumption | apply State.setFld_follows | apply State.setCreel_follows | apply Follows.ite)

theorem State.writeLogical_follows {z : State} (s : State) (n w : Nat) (d : Dword) (upset : BitVec 72) (hz : Follows z s) :
    Follows z (State.writeLogical s n w d upset) := by
  unfold State.writeLogical
  repeat' first
    | with_reducible assumption | with_reducible apply State.setCreel_follows | with_reducible apply State.setArr_follows
    | with_reducible apply State.logUndo_follows | with_reducible apply Follows.ite

theorem State.stallWrite_follows {z : State} (s : State) (n : Nat) (p : PortSide) (c : Nat) (q : CReq) (hz : Follows z s) :
    Follows z (State.stallWrite s n p c q) := by
  unfold State.stallWrite
  repeat' with_reducible (first | assumption | apply State.count_follows | apply State.setPort_follows | apply State.creelEvent_follows)

theorem portRequest_follows {z : State} (n : Nat) (p : PortSide) (q : CReq) (s : State) (hz : Follows z s) :
    Follows z (portRequest n p q s) := by
  unfold portRequest
  repeat' first
    | with_reducible assumption | with_reducible apply State.setCreel_follows | with_reducible apply State.setPort_follows
    | with_reducible apply State.stallWrite_follows | with_reducible apply Follows.ite

theorem portReqFall_follows {z : State} (n : Nat) (p : PortSide) (s : State) (hz : Follows z s) : Follows z (portReqFall n p s) := by
  unfold portReqFall
  repeat' with_reducible (first | assumption | apply State.setPort_follows | apply Follows.ite)

theorem portRespAck_follows {z : State} (n : Nat) (p : PortSide) (s : State) (hz : Follows z s) : Follows z (portRespAck n p s) := by
  unfold portRespAck
  repeat' with_reducible (first | assumption | apply State.setPort_follows | apply Follows.ite)

theorem State.respond_follows {z : State} (s : State) (n : Nat) (p : PortSide) (r : CResp) (hz : Follows z s) :
    Follows z (State.respond s n p r) := by
  unfold State.respond; repeat' with_reducible (first | assumption | apply State.setPort_follows)

theorem State.deliverBad_follows {z : State} (s : State) (n : Nat) (p : PortSide) (c w source : Nat) (raw : Dword) (we : Bool)
    (hz : Follows z s) :
    Follows z (State.deliverBad s n p c w source raw we) := by
  unfold State.deliverBad
  repeat' first
    | with_reducible assumption | with_reducible apply State.detect_follows | with_reducible apply State.noteUe_follows
    | with_reducible apply State.respond_follows | with_reducible apply Follows.ite

theorem arrayAccess_follows {z : State} (n : Nat) (state : BitVec 3) (upset : BitVec 72) (s : State) (hz : Follows z s) :
    Follows z (arrayAccess n state upset s) := by
  unfold arrayAccess
  try dsimp only
  repeat' first
    | with_reducible assumption | with_reducible apply State.setCreel_follows | with_reducible apply State.creelEvent_follows
    | with_reducible apply State.noteCorrected_follows | with_reducible apply State.upsetMirror_follows
    | with_reducible apply State.writeLogical_follows | with_reducible apply State.respond_follows
    | with_reducible apply State.deliverBad_follows | split

theorem correctedWriteback_follows {z : State} (n : Nat) (s : State) (hz : Follows z s) : Follows z (correctedWriteback n s) := by
  unfold correctedWriteback
  try dsimp only
  repeat' first | with_reducible (first | assumption | apply State.setCreel_follows | apply State.setArr_follows) | split

theorem scrubRead_follows {z : State} (n : Nat) (s : State) (hz : Follows z s) : Follows z (scrubRead n s) := by
  unfold scrubRead
  try dsimp only
  repeat' first
    | with_reducible assumption | with_reducible apply State.setCreel_follows | with_reducible apply State.noteCorrected_follows
    | with_reducible apply State.noteUe_follows | split

theorem State.winResult_follows {z : State} (s : State) (n : Nat) (d : Dword) (chk : BitVec 8) (stat : Nat) (hz : Follows z s) :
    Follows z (State.winResult s n d chk stat) := by
  unfold State.winResult; repeat' with_reducible (first | assumption | apply State.setReg_follows)

theorem winRead_follows {z : State} (n : Nat) (view : Bool) (w : Nat) (s : State) (hz : Follows z s) :
    Follows z (winRead n view w s) := by
  unfold winRead
  repeat' first
    | with_reducible assumption | with_reducible apply State.noteCorrected_follows | with_reducible apply State.noteUe_follows
    | with_reducible apply State.winResult_follows | split

theorem winWrite_follows {z : State} (n w : Nat) (s : State) (hz : Follows z s) : Follows z (winWrite n w s) := by
  unfold winWrite
  repeat' with_reducible (first | assumption | apply State.setCreel_follows | apply State.setArr_follows | apply Follows.ite)

theorem winInject_follows {z : State} (n w : Nat) (s : State) (hz : Follows z s) : Follows z (winInject n w s) := by
  unfold winInject; repeat' with_reducible (first | assumption | apply State.setArr_follows)

theorem winOp_follows {z : State} (n op : Nat) (view : Bool) (w : Nat) (s : State) (hz : Follows z s) :
    Follows z (winOp n op view w s) := by
  unfold winOp
  repeat' first | with_reducible (first | assumption | apply winRead_follows | apply winWrite_follows | apply winInject_follows) | split

theorem State.commitCreels_follows {z : State} (s : State) (b : Nat) (hz : Follows z s) : Follows z (State.commitCreels s b) := by
  unfold State.commitCreels
  repeat' first | intro _ | with_reducible (first | assumption | apply State.setCreel_follows | apply Follows.foldl)

theorem State.resumeStalled_follows {z : State} (s : State) (b : Nat) (hz : Follows z s) : Follows z (State.resumeStalled s b) := by
  unfold State.resumeStalled
  repeat' first | intro _ | with_reducible (first | assumption | apply State.setCreel_follows | apply Follows.ite | apply Follows.foldl)

theorem State.abandonPorts_follows {z : State} (s : State) (b : Nat) (hz : Follows z s) : Follows z (State.abandonPorts s b) := by
  unfold State.abandonPorts
  repeat' first | intro _ | with_reducible (first | assumption | apply State.setCreel_follows | apply Follows.ite | apply Follows.foldl)

theorem State.undoRevert_follows {z : State} (s : State) (n : Nat) (hz : Follows z s) : Follows z (State.undoRevert s n) := by
  unfold State.undoRevert
  repeat' first
    | intro _ | with_reducible assumption | with_reducible apply State.setCreel_follows | with_reducible apply State.setArr_follows
    | with_reducible apply State.creelEvent_follows | with_reducible apply State.countUe_follows | with_reducible apply Follows.foldlFst
    | with_reducible apply Follows.foldl | split

theorem State.revertCreels_follows {z : State} (s : State) (b : Nat) (hz : Follows z s) : Follows z (State.revertCreels s b) := by
  unfold State.revertCreels
  repeat' first
    | intro _ | with_reducible assumption | with_reducible apply State.setCreel_follows | with_reducible apply State.undoRevert_follows
    | with_reducible apply Follows.ite | with_reducible apply Follows.foldl

theorem State.initCreel_follows {z : State} (s : State) (n : Nat) (ws : List Dword) (hz : Follows z s) :
    Follows z (State.initCreel s n ws) := by
  unfold State.initCreel
  repeat' first
    | intro _ | with_reducible assumption | with_reducible apply Follows.arrays (fun c => SMap.wf_filter _ c.arrays)
    | with_reducible apply State.setCreel_follows | with_reducible apply State.setArr_follows | with_reducible apply Follows.ite
    | with_reducible apply Follows.foldl

theorem State.keepCreel_follows {z : State} (s : State) (n : Nat) (hz : Follows z s) : Follows z (State.keepCreel s n) := by
  unfold State.keepCreel; repeat' with_reducible (first | assumption | apply State.setCreel_follows)

/-! Machine/Queue.lean -/

theorem State.setQueue_follows {z : State} (s : State) (n : Nat) (q : Queue) (hz : Follows z s) : Follows z (State.setQueue s n q) := by
  unfold State.setQueue; repeat' with_reducible (first | assumption | apply State.setCreel_follows)

theorem upsetQueue_follows {z : State} (n : Nat) (u : Option QUpset) (s : State) (hz : Follows z s) : Follows z (upsetQueue n u s) := by
  unfold upsetQueue
  repeat' first | with_reducible (first | assumption | apply State.setQueue_follows) | split

theorem State.crossing_follows {z : State} (s : State) (n bit hi lo rec : Nat) (level : Nat) (hz : Follows z s) :
    Follows z (State.crossing s n bit hi lo rec level) := by
  unfold State.crossing
  repeat' first
    | with_reducible assumption | with_reducible apply State.setReg_follows | with_reducible apply State.count_follows
    | with_reducible apply State.creelEvent_follows | with_reducible apply Follows.ite

theorem State.levelChanged_follows {z : State} (s : State) (n before : Nat) (hz : Follows z s) :
    Follows z (State.levelChanged s n before) := by
  unfold State.levelChanged
  repeat' with_reducible (first | assumption | apply State.crossing_follows | apply Follows.ite)

theorem State.asOneChange_follows {z : State} (s : State) (n : Nat) (f : State → State) (hf : ∀ t, Follows z t → Follows z (f t))
    (hz : Follows z s) :
    Follows z (State.asOneChange s n f) := by
  unfold State.asOneChange; repeat' with_reducible (first | assumption | apply State.levelChanged_follows | apply hf)

theorem State.queueReset_follows {z : State} (s : State) (n : Nat) (hz : Follows z s) : Follows z (State.queueReset s n) := by
  unfold State.queueReset
  repeat' first | intro _ | with_reducible (first | assumption | apply State.setQueue_follows | apply State.asOneChange_follows)

theorem State.checkPointers_follows {z : State} (s : State) (n : Nat) (hz : Follows z s) : Follows z (State.checkPointers s n) := by
  unfold State.checkPointers
  repeat' first
    | with_reducible assumption | with_reducible apply State.count_follows | with_reducible apply State.detect_follows
    | with_reducible apply State.creelEvent_follows | with_reducible apply State.queueReset_follows | with_reducible apply Follows.ite

theorem queueStore_follows {z : State} (n kind : Nat) (elem : Dword) (last0 abort0 perr : Bool) (s : State) (hz : Follows z s) :
    Follows z (queueStore n kind elem last0 abort0 perr s).1 := by
  unfold queueStore
  repeat' first
    | with_reducible assumption | with_reducible apply State.setReg_follows | with_reducible apply State.count_follows
    | with_reducible apply State.setArr_follows | with_reducible apply State.creelEvent_follows
    | with_reducible apply State.setQueue_follows | with_reducible apply Follows.ite | with_reducible apply Follows.iteFst

theorem queuePushOp_follows {z : State} (n kind : Nat) (elem : Dword) (last abort perr : Bool) (s : State) (hz : Follows z s) :
    Follows z (queuePushOp n kind elem last abort perr s).1 := by
  unfold queuePushOp
  repeat' first
    | with_reducible assumption | with_reducible apply State.levelChanged_follows | with_reducible apply State.checkPointers_follows
    | with_reducible apply queueStore_follows | with_reducible apply Follows.iteFst

theorem queueTake_follows {z : State} (n kind source : Nat) (s : State) (hz : Follows z s) : Follows z (queueTake n kind source s).1 := by
  unfold queueTake
  try dsimp only
  repeat' first
    | with_reducible assumption | with_reducible apply State.count_follows | with_reducible apply State.detect_follows
    | with_reducible apply State.creelEvent_follows | with_reducible apply State.noteCorrected_follows
    | with_reducible apply State.noteUe_follows | with_reducible apply State.setQueue_follows | split

theorem queuePopOp_follows {z : State} (n kind source : Nat) (s : State) (hz : Follows z s) :
    Follows z (queuePopOp n kind source s).1 := by
  unfold queuePopOp
  repeat' first
    | with_reducible assumption | with_reducible apply State.levelChanged_follows | with_reducible apply State.checkPointers_follows
    | with_reducible apply queueTake_follows | with_reducible apply Follows.iteFst

theorem fabricPush_follows {z : State} (n : Nat) (perr parked : Bool) (s : State) (hz : Follows z s) :
    Follows z (fabricPush n perr parked s) := by
  unfold fabricPush
  try dsimp only
  repeat' first
    | with_reducible assumption | with_reducible apply State.setPort_follows | with_reducible apply State.respond_follows
    | with_reducible apply queuePushOp_follows | split

theorem fabricPop_follows {z : State} (n : Nat) (parked : Bool) (s : State) (hz : Follows z s) : Follows z (fabricPop n parked s) := by
  unfold fabricPop
  try dsimp only
  repeat' first
    | with_reducible assumption | with_reducible apply State.setPort_follows | with_reducible apply State.respond_follows
    | with_reducible apply queuePopOp_follows | split

theorem State.noteFlush_follows {z : State} (s : State) (n : Nat) (hz : Follows z s) : Follows z (State.noteFlush s n) := by
  unfold State.noteFlush
  repeat' with_reducible (first | assumption | apply State.count_follows | apply State.creelEvent_follows)

theorem State.flushEffect_follows {z : State} (s : State) (n : Nat) (shadows : Bool) (hz : Follows z s) :
    Follows z (State.flushEffect s n shadows) := by
  unfold State.flushEffect
  repeat' first
    | intro _ | with_reducible assumption | with_reducible apply State.setQueue_follows | with_reducible apply State.asOneChange_follows
    | with_reducible apply State.checkPointers_follows | with_reducible apply State.noteFlush_follows

theorem queueFlush_follows {z : State} (n : Nat) (s : State) (hz : Follows z s) : Follows z (queueFlush n s) := by
  unfold queueFlush
  repeat' with_reducible (first | assumption | apply State.setQueue_follows | apply State.flushEffect_follows | apply Follows.ite)

theorem queueFlushNow_follows {z : State} (n : Nat) (s : State) (hz : Follows z s) : Follows z (queueFlushNow n s) := by
  unfold queueFlushNow
  repeat' with_reducible (first | assumption | apply State.setQueue_follows | apply State.flushEffect_follows)

theorem queueClearCounts_follows {z : State} (n : Nat) (s : State) (hz : Follows z s) : Follows z (queueClearCounts n s) := by
  unfold queueClearCounts
  repeat' first | intro _ | with_reducible (first | assumption | apply State.setReg_follows | apply Follows.foldl)

theorem busPush_follows {z : State} (n m : Nat) (last abort : Bool) (s : State) (hz : Follows z s) :
    Follows z (busPush n m last abort s).1 := by
  unfold busPush
  repeat' with_reducible (first | assumption | apply State.setCreel_follows | apply queuePushOp_follows)

theorem markElement_follows {z : State} (n : Nat) (perr : Bool) (s : State) (hz : Follows z s) : Follows z (markElement n perr s) := by
  unfold markElement
  repeat' with_reducible (first | assumption | apply State.setCreel_follows | apply Follows.ite)

theorem busPop_follows {z : State} (n m : Nat) (s : State) (hz : Follows z s) : Follows z (busPop n m s).1 := by
  unfold busPop
  try dsimp only
  repeat' first | with_reducible (first | assumption | apply State.setCap_follows | apply queuePopOp_follows) | split

theorem State.checkEnds_follows {z : State} (s : State) (b : Nat) (hz : Follows z s) : Follows z (State.checkEnds s b) := by
  unfold State.checkEnds
  repeat' with_reducible (first | assumption | apply State.checkPointers_follows | apply Follows.foldl)

theorem State.commitQueue_follows {z : State} (s : State) (b n : Nat) (hz : Follows z s) : Follows z (State.commitQueue s b n) := by
  unfold State.commitQueue
  repeat' first
    | intro _ | with_reducible assumption | with_reducible apply State.setQueue_follows | with_reducible apply State.asOneChange_follows
    | with_reducible apply State.noteFlush_follows | with_reducible apply Follows.ite

theorem State.commitQueues_follows {z : State} (s : State) (b : Nat) (hz : Follows z s) : Follows z (State.commitQueues s b) := by
  unfold State.commitQueues
  repeat' first | intro _ | with_reducible (first | assumption | apply State.commitQueue_follows | apply Follows.foldl)

theorem State.restoreQueue_follows {z : State} (s : State) (b n : Nat) (hz : Follows z s) : Follows z (State.restoreQueue s b n) := by
  unfold State.restoreQueue
  repeat' first
    | intro _ | with_reducible assumption | with_reducible apply State.count_follows | with_reducible apply State.creelEvent_follows
    | with_reducible apply State.setQueue_follows | with_reducible apply State.asOneChange_follows | with_reducible apply Follows.ite

theorem State.restoreQueues_follows {z : State} (s : State) (b : Nat) (hz : Follows z s) : Follows z (State.restoreQueues s b) := by
  unfold State.restoreQueues
  repeat' first | intro _ | with_reducible (first | assumption | apply State.restoreQueue_follows | apply Follows.foldl)

theorem State.abortProducer_follows {z : State} (s : State) (n : Nat) (hz : Follows z s) : Follows z (State.abortProducer s n) := by
  unfold State.abortProducer
  repeat' first
    | intro _ | with_reducible assumption | with_reducible apply State.count_follows | with_reducible apply State.creelEvent_follows
    | with_reducible apply State.setQueue_follows | with_reducible apply State.asOneChange_follows
    | with_reducible apply State.checkPointers_follows | with_reducible apply Follows.ite

/-! Machine/Twill.lean -/

theorem State.setTwill_follows {z : State} (s : State) (n : Nat) (v : Twill) (hz : Follows z s) : Follows z (State.setTwill s n v) :=
  hz.twills (fun c => SMap.wf_set c.twills)

theorem twillCapture_follows {z : State} (n : Nat) (o : TwOp) (s : State) (hz : Follows z s) : Follows z (twillCapture n o s) := by
  unfold twillCapture
  repeat' with_reducible (first | assumption | apply State.setTwill_follows | apply Follows.ite)

theorem twillReqFall_follows {z : State} (n : Nat) (s : State) (hz : Follows z s) : Follows z (twillReqFall n s) := by
  unfold twillReqFall
  repeat' with_reducible (first | assumption | apply State.setTwill_follows | apply Follows.ite)

theorem twillToken_follows {z : State} (n : Nat) (s : State) (hz : Follows z s) : Follows z (twillToken n s) := by
  unfold twillToken
  try dsimp only
  repeat' first | with_reducible (first | assumption | apply State.setTwill_follows) | split

theorem twillRespAck_follows {z : State} (n : Nat) (s : State) (hz : Follows z s) : Follows z (twillRespAck n s) := by
  unfold twillRespAck
  repeat' with_reducible (first | assumption | apply State.setTwill_follows | apply Follows.ite)

theorem State.residueFault_follows {z : State} (s : State) (n : Nat) (st : TwStage) (hz : Follows z s) :
    Follows z (State.residueFault s n st) := by
  unfold State.residueFault
  repeat' first
    | with_reducible assumption | with_reducible apply State.setFld_follows | with_reducible apply State.count_follows
    | with_reducible apply State.pulse_follows | with_reducible apply State.detect_follows

theorem State.sendToken_follows {z : State} (s : State) (n : Nat) (t : TwToken) (hz : Follows z s) :
    Follows z (State.sendToken s n t) := by
  unfold State.sendToken
  repeat' with_reducible (first | assumption | apply State.setTwill_follows | apply Follows.ite)

theorem twillComplete_follows {z : State} (n : Nat) (upset : TwUpset) (s : State) (hz : Follows z s) :
    Follows z (twillComplete n upset s) := by
  unfold twillComplete
  try dsimp only
  repeat' first
    | with_reducible assumption | with_reducible apply State.setBit_follows | with_reducible apply State.count_follows
    | with_reducible apply State.pulse_follows | with_reducible apply State.setTwill_follows
    | with_reducible apply State.residueFault_follows | with_reducible apply State.sendToken_follows | split

theorem State.commitTwills_follows {z : State} (s : State) (b : Nat) (hz : Follows z s) : Follows z (State.commitTwills s b) := by
  unfold State.commitTwills
  repeat' first | intro _ | with_reducible (first | assumption | apply State.setTwill_follows | apply Follows.foldl)

theorem State.restoreTwills_follows {z : State} (s : State) (b : Nat) (hz : Follows z s) : Follows z (State.restoreTwills s b) := by
  unfold State.restoreTwills
  repeat' first | intro _ | with_reducible (first | assumption | apply State.setTwill_follows | apply Follows.foldl)

theorem State.twillsAtFreeze_follows {z : State} (s : State) (b : Nat) (hz : Follows z s) : Follows z (State.twillsAtFreeze s b) := by
  unfold State.twillsAtFreeze
  repeat' first
    | intro _ | with_reducible assumption | with_reducible apply State.residueFault_follows | with_reducible apply Follows.ite
    | with_reducible apply Follows.foldl

theorem twillClear_follows {z : State} (k mask : Nat) (s : State) (hz : Follows z s) : Follows z (twillClear k mask s) := by
  unfold twillClear
  repeat' first | intro _ | with_reducible (first | assumption | apply State.setReg_follows | apply Follows.ite | apply Follows.foldl)

end Sys2Proof.Machine
end

