-- ==== Sys2Proof/Laws/State.lean ====
section
/-!
SUPPORT. One lemma per field per update of the state, so that no proof unfolds a record update; and what a register or a block
reads after it, or another, is written.
-/

namespace Sys2Proof.Machine

@[simp] theorem State.at_pending (s : State) (t : Nat) : (s.at t).pending = s.pending := rfl
@[simp] theorem State.at_now (s : State) (t : Nat) : (s.at t).now = max s.now t := rfl
@[simp] theorem State.at_free (s : State) (t : Nat) : (s.at t).free = s.free := rfl
@[simp] theorem State.at_resp (s : State) (t : Nat) : (s.at t).resp = s.resp := rfl
@[simp] theorem State.at_regs (s : State) (t : Nat) : (s.at t).regs = s.regs := rfl
@[simp] theorem State.at_caps (s : State) (t : Nat) : (s.at t).caps = s.caps := rfl
@[simp] theorem State.at_ev (s : State) (t : Nat) : (s.at t).ev = s.ev := rfl
@[simp] theorem State.at_log (s : State) (t : Nat) : (s.at t).log = s.log := rfl
@[simp] theorem State.at_bolts (s : State) (t : Nat) : (s.at t).bolts = s.bolts := rfl
@[simp] theorem State.at_pick (s : State) (t : Nat) : (s.at t).pick = s.pick := rfl
@[simp] theorem State.at_pwr (s : State) (t : Nat) : (s.at t).pwr = s.pwr := rfl
@[simp] theorem State.at_cells (s : State) (t : Nat) : (s.at t).cells = s.cells := rfl
@[simp] theorem State.at_joins (s : State) (t : Nat) : (s.at t).joins = s.joins := rfl
@[simp] theorem State.at_cfgMem (s : State) (t : Nat) : (s.at t).cfgMem = s.cfgMem := rfl
@[simp] theorem State.at_glitch (s : State) (t : Nat) : (s.at t).glitch = s.glitch := rfl
@[simp] theorem State.at_seamHeld (s : State) (t : Nat) : (s.at t).seamHeld = s.seamHeld := rfl
@[simp] theorem State.at_taps (s : State) (t : Nat) : (s.at t).taps = s.taps := rfl
@[simp] theorem State.at_portIn (s : State) (t : Nat) : (s.at t).portIn = s.portIn := rfl
@[simp] theorem State.at_held (s : State) (t : Nat) : (s.at t).held = s.held := rfl
@[simp] theorem State.at_creels (s : State) (t : Nat) : (s.at t).creels = s.creels := rfl
@[simp] theorem State.at_arrays (s : State) (t : Nat) : (s.at t).arrays = s.arrays := rfl
@[simp] theorem State.at_twills (s : State) (t : Nat) : (s.at t).twills = s.twills := rfl
@[simp] theorem State.at_bridges (s : State) (t : Nat) : (s.at t).bridges = s.bridges := rfl
@[simp] theorem State.at_paces (s : State) (t : Nat) : (s.at t).paces = s.paces := rfl
@[simp] theorem State.at_issued (s : State) (t : Nat) : (s.at t).issued = s.issued := rfl
@[simp] theorem State.at_slotWait (s : State) (t : Nat) : (s.at t).slotWait = s.slotWait := rfl
@[simp] theorem State.at_fbps (s : State) (t : Nat) : (s.at t).fbps = s.fbps := rfl
@[simp] theorem State.at_pins (s : State) (t : Nat) : (s.at t).pins = s.pins := rfl
@[simp] theorem State.at_portSample (s : State) (t : Nat) : (s.at t).portSample = s.portSample := rfl
@[simp] theorem State.at_pickedIn (s : State) (t : Nat) : (s.at t).pickedIn = s.pickedIn := rfl
@[simp] theorem State.at_pinsCfg (s : State) (t : Nat) : (s.at t).pinsCfg = s.pinsCfg := rfl
@[simp] theorem State.at_pinsAsleep (s : State) (t : Nat) : (s.at t).pinsAsleep = s.pinsAsleep := rfl
@[simp] theorem State.at_bankOk (s : State) (t : Nat) : (s.at t).bankOk = s.bankOk := rfl
@[simp] theorem State.at_patterns (s : State) (t : Nat) : (s.at t).patterns = s.patterns := rfl
@[simp] theorem State.at_periphs (s : State) (t : Nat) : (s.at t).periphs = s.periphs := rfl
@[simp] theorem State.at_shuttles (s : State) (t : Nat) : (s.at t).shuttles = s.shuttles := rfl
@[simp] theorem State.at_semas (s : State) (t : Nat) : (s.at t).semas = s.semas := rfl
@[simp] theorem State.at_eng (s : State) (t : Nat) : (s.at t).eng = s.eng := rfl
@[simp] theorem State.at_trust (s : State) (t : Nat) : (s.at t).trust = s.trust := rfl
@[simp] theorem State.at_quads (s : State) (t : Nat) : (s.at t).quads = s.quads := rfl
@[simp] theorem State.at_lanes (s : State) (t : Nat) : (s.at t).lanes = s.lanes := rfl
@[simp] theorem State.at_jtag (s : State) (t : Nat) : (s.at t).jtag = s.jtag := rfl
@[simp] theorem State.at_boot (s : State) (t : Nat) : (s.at t).boot = s.boot := rfl
@[simp] theorem State.at_pcie (s : State) (t : Nat) : (s.at t).pcie = s.pcie := rfl
@[simp] theorem State.at_chans (s : State) (t : Nat) : (s.at t).chans = s.chans := rfl

@[simp] theorem State.tick_pending (s : State) : (s.tick).pending = s.pending := rfl
@[simp] theorem State.tick_now (s : State) : (s.tick).now = s.now := rfl
@[simp] theorem State.tick_free (s : State) : (s.tick).free = s.free + 1 := rfl
@[simp] theorem State.tick_resp (s : State) : (s.tick).resp = s.resp := rfl
@[simp] theorem State.tick_regs (s : State) : (s.tick).regs = s.regs := rfl
@[simp] theorem State.tick_caps (s : State) : (s.tick).caps = s.caps := rfl
@[simp] theorem State.tick_ev (s : State) : (s.tick).ev = s.ev := rfl
@[simp] theorem State.tick_log (s : State) : (s.tick).log = s.log := rfl
@[simp] theorem State.tick_bolts (s : State) : (s.tick).bolts = s.bolts := rfl
@[simp] theorem State.tick_pick (s : State) : (s.tick).pick = s.pick := rfl
@[simp] theorem State.tick_pwr (s : State) : (s.tick).pwr = s.pwr := rfl
@[simp] theorem State.tick_cells (s : State) : (s.tick).cells = s.cells := rfl
@[simp] theorem State.tick_joins (s : State) : (s.tick).joins = s.joins := rfl
@[simp] theorem State.tick_cfgMem (s : State) : (s.tick).cfgMem = s.cfgMem := rfl
@[simp] theorem State.tick_glitch (s : State) : (s.tick).glitch = s.glitch := rfl
@[simp] theorem State.tick_seamHeld (s : State) : (s.tick).seamHeld = s.seamHeld := rfl
@[simp] theorem State.tick_taps (s : State) : (s.tick).taps = s.taps := rfl
@[simp] theorem State.tick_portIn (s : State) : (s.tick).portIn = s.portIn := rfl
@[simp] theorem State.tick_held (s : State) : (s.tick).held = s.held := rfl
@[simp] theorem State.tick_creels (s : State) : (s.tick).creels = s.creels := rfl
@[simp] theorem State.tick_arrays (s : State) : (s.tick).arrays = s.arrays := rfl
@[simp] theorem State.tick_twills (s : State) : (s.tick).twills = s.twills := rfl
@[simp] theorem State.tick_bridges (s : State) : (s.tick).bridges = s.bridges := rfl
@[simp] theorem State.tick_paces (s : State) : (s.tick).paces = s.paces := rfl
@[simp] theorem State.tick_issued (s : State) : (s.tick).issued = s.issued := rfl
@[simp] theorem State.tick_slotWait (s : State) : (s.tick).slotWait = s.slotWait := rfl
@[simp] theorem State.tick_fbps (s : State) : (s.tick).fbps = s.fbps := rfl
@[simp] theorem State.tick_pins (s : State) : (s.tick).pins = s.pins := rfl
@[simp] theorem State.tick_portSample (s : State) : (s.tick).portSample = s.portSample := rfl
@[simp] theorem State.tick_pickedIn (s : State) : (s.tick).pickedIn = s.pickedIn := rfl
@[simp] theorem State.tick_pinsCfg (s : State) : (s.tick).pinsCfg = s.pinsCfg := rfl
@[simp] theorem State.tick_pinsAsleep (s : State) : (s.tick).pinsAsleep = s.pinsAsleep := rfl
@[simp] theorem State.tick_bankOk (s : State) : (s.tick).bankOk = s.bankOk := rfl
@[simp] theorem State.tick_patterns (s : State) : (s.tick).patterns = s.patterns := rfl
@[simp] theorem State.tick_periphs (s : State) : (s.tick).periphs = s.periphs := rfl
@[simp] theorem State.tick_shuttles (s : State) : (s.tick).shuttles = s.shuttles := rfl
@[simp] theorem State.tick_semas (s : State) : (s.tick).semas = s.semas := rfl
@[simp] theorem State.tick_eng (s : State) : (s.tick).eng = s.eng := rfl
@[simp] theorem State.tick_trust (s : State) : (s.tick).trust = s.trust := rfl
@[simp] theorem State.tick_quads (s : State) : (s.tick).quads = s.quads := rfl
@[simp] theorem State.tick_lanes (s : State) : (s.tick).lanes = s.lanes := rfl
@[simp] theorem State.tick_jtag (s : State) : (s.tick).jtag = s.jtag := rfl
@[simp] theorem State.tick_boot (s : State) : (s.tick).boot = s.boot := rfl
@[simp] theorem State.tick_pcie (s : State) : (s.tick).pcie = s.pcie := rfl
@[simp] theorem State.tick_chans (s : State) : (s.tick).chans = s.chans := rfl

@[simp] theorem State.setReg_pending (s : State) (a : Nat) (v : Word) : (s.setReg a v).pending = s.pending := rfl
@[simp] theorem State.setReg_now (s : State) (a : Nat) (v : Word) : (s.setReg a v).now = s.now := rfl
@[simp] theorem State.setReg_free (s : State) (a : Nat) (v : Word) : (s.setReg a v).free = s.free := rfl
@[simp] theorem State.setReg_resp (s : State) (a : Nat) (v : Word) : (s.setReg a v).resp = s.resp := rfl
@[simp] theorem State.setReg_regs (s : State) (a : Nat) (v : Word) : (s.setReg a v).regs = SMap.set (resetOf a) s.regs a v := rfl
@[simp] theorem State.setReg_caps (s : State) (a : Nat) (v : Word) : (s.setReg a v).caps = s.caps := rfl
@[simp] theorem State.setReg_ev (s : State) (a : Nat) (v : Word) : (s.setReg a v).ev = s.ev := rfl
@[simp] theorem State.setReg_log (s : State) (a : Nat) (v : Word) : (s.setReg a v).log = s.log := rfl
@[simp] theorem State.setReg_bolts (s : State) (a : Nat) (v : Word) : (s.setReg a v).bolts = s.bolts := rfl
@[simp] theorem State.setReg_pick (s : State) (a : Nat) (v : Word) : (s.setReg a v).pick = s.pick := rfl
@[simp] theorem State.setReg_pwr (s : State) (a : Nat) (v : Word) : (s.setReg a v).pwr = s.pwr := rfl
@[simp] theorem State.setReg_cells (s : State) (a : Nat) (v : Word) : (s.setReg a v).cells = s.cells := rfl
@[simp] theorem State.setReg_joins (s : State) (a : Nat) (v : Word) : (s.setReg a v).joins = s.joins := rfl
@[simp] theorem State.setReg_cfgMem (s : State) (a : Nat) (v : Word) : (s.setReg a v).cfgMem = s.cfgMem := rfl
@[simp] theorem State.setReg_glitch (s : State) (a : Nat) (v : Word) : (s.setReg a v).glitch = s.glitch := rfl
@[simp] theorem State.setReg_seamHeld (s : State) (a : Nat) (v : Word) : (s.setReg a v).seamHeld = s.seamHeld := rfl
@[simp] theorem State.setReg_taps (s : State) (a : Nat) (v : Word) : (s.setReg a v).taps = s.taps := rfl
@[simp] theorem State.setReg_portIn (s : State) (a : Nat) (v : Word) : (s.setReg a v).portIn = s.portIn := rfl
@[simp] theorem State.setReg_held (s : State) (a : Nat) (v : Word) : (s.setReg a v).held = s.held := rfl
@[simp] theorem State.setReg_creels (s : State) (a : Nat) (v : Word) : (s.setReg a v).creels = s.creels := rfl
@[simp] theorem State.setReg_arrays (s : State) (a : Nat) (v : Word) : (s.setReg a v).arrays = s.arrays := rfl
@[simp] theorem State.setReg_twills (s : State) (a : Nat) (v : Word) : (s.setReg a v).twills = s.twills := rfl
@[simp] theorem State.setReg_bridges (s : State) (a : Nat) (v : Word) : (s.setReg a v).bridges = s.bridges := rfl
@[simp] theorem State.setReg_paces (s : State) (a : Nat) (v : Word) : (s.setReg a v).paces = s.paces := rfl
@[simp] theorem State.setReg_issued (s : State) (a : Nat) (v : Word) : (s.setReg a v).issued = s.issued := rfl
@[simp] theorem State.setReg_slotWait (s : State) (a : Nat) (v : Word) : (s.setReg a v).slotWait = s.slotWait := rfl
@[simp] theorem State.setReg_fbps (s : State) (a : Nat) (v : Word) : (s.setReg a v).fbps = s.fbps := rfl
@[simp] theorem State.setReg_pins (s : State) (a : Nat) (v : Word) : (s.setReg a v).pins = s.pins := rfl
@[simp] theorem State.setReg_portSample (s : State) (a : Nat) (v : Word) : (s.setReg a v).portSample = s.portSample := rfl
@[simp] theorem State.setReg_pickedIn (s : State) (a : Nat) (v : Word) : (s.setReg a v).pickedIn = s.pickedIn := rfl
@[simp] theorem State.setReg_pinsCfg (s : State) (a : Nat) (v : Word) : (s.setReg a v).pinsCfg = s.pinsCfg := rfl
@[simp] theorem State.setReg_pinsAsleep (s : State) (a : Nat) (v : Word) : (s.setReg a v).pinsAsleep = s.pinsAsleep := rfl
@[simp] theorem State.setReg_bankOk (s : State) (a : Nat) (v : Word) : (s.setReg a v).bankOk = s.bankOk := rfl
@[simp] theorem State.setReg_patterns (s : State) (a : Nat) (v : Word) : (s.setReg a v).patterns = s.patterns := rfl
@[simp] theorem State.setReg_periphs (s : State) (a : Nat) (v : Word) : (s.setReg a v).periphs = s.periphs := rfl
@[simp] theorem State.setReg_shuttles (s : State) (a : Nat) (v : Word) : (s.setReg a v).shuttles = s.shuttles := rfl
@[simp] theorem State.setReg_semas (s : State) (a : Nat) (v : Word) : (s.setReg a v).semas = s.semas := rfl
@[simp] theorem State.setReg_eng (s : State) (a : Nat) (v : Word) : (s.setReg a v).eng = s.eng := rfl
@[simp] theorem State.setReg_trust (s : State) (a : Nat) (v : Word) : (s.setReg a v).trust = s.trust := rfl
@[simp] theorem State.setReg_quads (s : State) (a : Nat) (v : Word) : (s.setReg a v).quads = s.quads := rfl
@[simp] theorem State.setReg_lanes (s : State) (a : Nat) (v : Word) : (s.setReg a v).lanes = s.lanes := rfl
@[simp] theorem State.setReg_jtag (s : State) (a : Nat) (v : Word) : (s.setReg a v).jtag = s.jtag := rfl
@[simp] theorem State.setReg_boot (s : State) (a : Nat) (v : Word) : (s.setReg a v).boot = s.boot := rfl
@[simp] theorem State.setReg_pcie (s : State) (a : Nat) (v : Word) : (s.setReg a v).pcie = s.pcie := rfl
@[simp] theorem State.setReg_chans (s : State) (a : Nat) (v : Word) : (s.setReg a v).chans = s.chans := rfl

@[simp] theorem State.setCap_pending (s : State) (m a : Nat) (v : Option Word) : (s.setCap m a v).pending = s.pending := rfl
@[simp] theorem State.setCap_now (s : State) (m a : Nat) (v : Option Word) : (s.setCap m a v).now = s.now := rfl
@[simp] theorem State.setCap_free (s : State) (m a : Nat) (v : Option Word) : (s.setCap m a v).free = s.free := rfl
@[simp] theorem State.setCap_resp (s : State) (m a : Nat) (v : Option Word) : (s.setCap m a v).resp = s.resp := rfl
@[simp] theorem State.setCap_regs (s : State) (m a : Nat) (v : Option Word) : (s.setCap m a v).regs = s.regs := rfl
@[simp] theorem State.setCap_caps (s : State) (m a : Nat) (v : Option Word) :
    (s.setCap m a v).caps = SMap.set none s.caps (idKey m a) v := rfl
@[simp] theorem State.setCap_ev (s : State) (m a : Nat) (v : Option Word) : (s.setCap m a v).ev = s.ev := rfl
@[simp] theorem State.setCap_log (s : State) (m a : Nat) (v : Option Word) : (s.setCap m a v).log = s.log := rfl
@[simp] theorem State.setCap_bolts (s : State) (m a : Nat) (v : Option Word) : (s.setCap m a v).bolts = s.bolts := rfl
@[simp] theorem State.setCap_pick (s : State) (m a : Nat) (v : Option Word) : (s.setCap m a v).pick = s.pick := rfl
@[simp] theorem State.setCap_pwr (s : State) (m a : Nat) (v : Option Word) : (s.setCap m a v).pwr = s.pwr := rfl
@[simp] theorem State.setCap_cells (s : State) (m a : Nat) (v : Option Word) : (s.setCap m a v).cells = s.cells := rfl
@[simp] theorem State.setCap_joins (s : State) (m a : Nat) (v : Option Word) : (s.setCap m a v).joins = s.joins := rfl
@[simp] theorem State.setCap_cfgMem (s : State) (m a : Nat) (v : Option Word) : (s.setCap m a v).cfgMem = s.cfgMem := rfl
@[simp] theorem State.setCap_glitch (s : State) (m a : Nat) (v : Option Word) : (s.setCap m a v).glitch = s.glitch := rfl
@[simp] theorem State.setCap_seamHeld (s : State) (m a : Nat) (v : Option Word) : (s.setCap m a v).seamHeld = s.seamHeld := rfl
@[simp] theorem State.setCap_taps (s : State) (m a : Nat) (v : Option Word) : (s.setCap m a v).taps = s.taps := rfl
@[simp] theorem State.setCap_portIn (s : State) (m a : Nat) (v : Option Word) : (s.setCap m a v).portIn = s.portIn := rfl
@[simp] theorem State.setCap_held (s : State) (m a : Nat) (v : Option Word) : (s.setCap m a v).held = s.held := rfl
@[simp] theorem State.setCap_creels (s : State) (m a : Nat) (v : Option Word) : (s.setCap m a v).creels = s.creels := rfl
@[simp] theorem State.setCap_arrays (s : State) (m a : Nat) (v : Option Word) : (s.setCap m a v).arrays = s.arrays := rfl
@[simp] theorem State.setCap_twills (s : State) (m a : Nat) (v : Option Word) : (s.setCap m a v).twills = s.twills := rfl
@[simp] theorem State.setCap_bridges (s : State) (m a : Nat) (v : Option Word) : (s.setCap m a v).bridges = s.bridges := rfl
@[simp] theorem State.setCap_paces (s : State) (m a : Nat) (v : Option Word) : (s.setCap m a v).paces = s.paces := rfl
@[simp] theorem State.setCap_issued (s : State) (m a : Nat) (v : Option Word) : (s.setCap m a v).issued = s.issued := rfl
@[simp] theorem State.setCap_slotWait (s : State) (m a : Nat) (v : Option Word) : (s.setCap m a v).slotWait = s.slotWait := rfl
@[simp] theorem State.setCap_fbps (s : State) (m a : Nat) (v : Option Word) : (s.setCap m a v).fbps = s.fbps := rfl
@[simp] theorem State.setCap_pins (s : State) (m a : Nat) (v : Option Word) : (s.setCap m a v).pins = s.pins := rfl
@[simp] theorem State.setCap_portSample (s : State) (m a : Nat) (v : Option Word) : (s.setCap m a v).portSample = s.portSample := rfl
@[simp] theorem State.setCap_pickedIn (s : State) (m a : Nat) (v : Option Word) : (s.setCap m a v).pickedIn = s.pickedIn := rfl
@[simp] theorem State.setCap_pinsCfg (s : State) (m a : Nat) (v : Option Word) : (s.setCap m a v).pinsCfg = s.pinsCfg := rfl
@[simp] theorem State.setCap_pinsAsleep (s : State) (m a : Nat) (v : Option Word) : (s.setCap m a v).pinsAsleep = s.pinsAsleep := rfl
@[simp] theorem State.setCap_bankOk (s : State) (m a : Nat) (v : Option Word) : (s.setCap m a v).bankOk = s.bankOk := rfl
@[simp] theorem State.setCap_patterns (s : State) (m a : Nat) (v : Option Word) : (s.setCap m a v).patterns = s.patterns := rfl
@[simp] theorem State.setCap_periphs (s : State) (m a : Nat) (v : Option Word) : (s.setCap m a v).periphs = s.periphs := rfl
@[simp] theorem State.setCap_shuttles (s : State) (m a : Nat) (v : Option Word) : (s.setCap m a v).shuttles = s.shuttles := rfl
@[simp] theorem State.setCap_semas (s : State) (m a : Nat) (v : Option Word) : (s.setCap m a v).semas = s.semas := rfl
@[simp] theorem State.setCap_eng (s : State) (m a : Nat) (v : Option Word) : (s.setCap m a v).eng = s.eng := rfl
@[simp] theorem State.setCap_trust (s : State) (m a : Nat) (v : Option Word) : (s.setCap m a v).trust = s.trust := rfl
@[simp] theorem State.setCap_quads (s : State) (m a : Nat) (v : Option Word) : (s.setCap m a v).quads = s.quads := rfl
@[simp] theorem State.setCap_lanes (s : State) (m a : Nat) (v : Option Word) : (s.setCap m a v).lanes = s.lanes := rfl
@[simp] theorem State.setCap_jtag (s : State) (m a : Nat) (v : Option Word) : (s.setCap m a v).jtag = s.jtag := rfl
@[simp] theorem State.setCap_boot (s : State) (m a : Nat) (v : Option Word) : (s.setCap m a v).boot = s.boot := rfl
@[simp] theorem State.setCap_pcie (s : State) (m a : Nat) (v : Option Word) : (s.setCap m a v).pcie = s.pcie := rfl
@[simp] theorem State.setCap_chans (s : State) (m a : Nat) (v : Option Word) : (s.setCap m a v).chans = s.chans := rfl

@[simp] theorem State.setBolt_pending (s : State) (b : Nat) (v : Bolt) : (s.setBolt b v).pending = s.pending := rfl
@[simp] theorem State.setBolt_now (s : State) (b : Nat) (v : Bolt) : (s.setBolt b v).now = s.now := rfl
@[simp] theorem State.setBolt_free (s : State) (b : Nat) (v : Bolt) : (s.setBolt b v).free = s.free := rfl
@[simp] theorem State.setBolt_resp (s : State) (b : Nat) (v : Bolt) : (s.setBolt b v).resp = s.resp := rfl
@[simp] theorem State.setBolt_regs (s : State) (b : Nat) (v : Bolt) : (s.setBolt b v).regs = s.regs := rfl
@[simp] theorem State.setBolt_caps (s : State) (b : Nat) (v : Bolt) : (s.setBolt b v).caps = s.caps := rfl
@[simp] theorem State.setBolt_ev (s : State) (b : Nat) (v : Bolt) : (s.setBolt b v).ev = s.ev := rfl
@[simp] theorem State.setBolt_log (s : State) (b : Nat) (v : Bolt) : (s.setBolt b v).log = s.log := rfl
@[simp] theorem State.setBolt_bolts (s : State) (b : Nat) (v : Bolt) : (s.setBolt b v).bolts = SMap.set {} s.bolts b v := rfl
@[simp] theorem State.setBolt_pick (s : State) (b : Nat) (v : Bolt) : (s.setBolt b v).pick = s.pick := rfl
@[simp] theorem State.setBolt_pwr (s : State) (b : Nat) (v : Bolt) : (s.setBolt b v).pwr = s.pwr := rfl
@[simp] theorem State.setBolt_cells (s : State) (b : Nat) (v : Bolt) : (s.setBolt b v).cells = s.cells := rfl
@[simp] theorem State.setBolt_joins (s : State) (b : Nat) (v : Bolt) : (s.setBolt b v).joins = s.joins := rfl
@[simp] theorem State.setBolt_cfgMem (s : State) (b : Nat) (v : Bolt) : (s.setBolt b v).cfgMem = s.cfgMem := rfl
@[simp] theorem State.setBolt_glitch (s : State) (b : Nat) (v : Bolt) : (s.setBolt b v).glitch = s.glitch := rfl
@[simp] theorem State.setBolt_seamHeld (s : State) (b : Nat) (v : Bolt) : (s.setBolt b v).seamHeld = s.seamHeld := rfl
@[simp] theorem State.setBolt_taps (s : State) (b : Nat) (v : Bolt) : (s.setBolt b v).taps = s.taps := rfl
@[simp] theorem State.setBolt_portIn (s : State) (b : Nat) (v : Bolt) : (s.setBolt b v).portIn = s.portIn := rfl
@[simp] theorem State.setBolt_held (s : State) (b : Nat) (v : Bolt) : (s.setBolt b v).held = s.held := rfl
@[simp] theorem State.setBolt_creels (s : State) (b : Nat) (v : Bolt) : (s.setBolt b v).creels = s.creels := rfl
@[simp] theorem State.setBolt_arrays (s : State) (b : Nat) (v : Bolt) : (s.setBolt b v).arrays = s.arrays := rfl
@[simp] theorem State.setBolt_twills (s : State) (b : Nat) (v : Bolt) : (s.setBolt b v).twills = s.twills := rfl
@[simp] theorem State.setBolt_bridges (s : State) (b : Nat) (v : Bolt) : (s.setBolt b v).bridges = s.bridges := rfl
@[simp] theorem State.setBolt_paces (s : State) (b : Nat) (v : Bolt) : (s.setBolt b v).paces = s.paces := rfl
@[simp] theorem State.setBolt_issued (s : State) (b : Nat) (v : Bolt) : (s.setBolt b v).issued = s.issued := rfl
@[simp] theorem State.setBolt_slotWait (s : State) (b : Nat) (v : Bolt) : (s.setBolt b v).slotWait = s.slotWait := rfl
@[simp] theorem State.setBolt_fbps (s : State) (b : Nat) (v : Bolt) : (s.setBolt b v).fbps = s.fbps := rfl
@[simp] theorem State.setBolt_pins (s : State) (b : Nat) (v : Bolt) : (s.setBolt b v).pins = s.pins := rfl
@[simp] theorem State.setBolt_portSample (s : State) (b : Nat) (v : Bolt) : (s.setBolt b v).portSample = s.portSample := rfl
@[simp] theorem State.setBolt_pickedIn (s : State) (b : Nat) (v : Bolt) : (s.setBolt b v).pickedIn = s.pickedIn := rfl
@[simp] theorem State.setBolt_pinsCfg (s : State) (b : Nat) (v : Bolt) : (s.setBolt b v).pinsCfg = s.pinsCfg := rfl
@[simp] theorem State.setBolt_pinsAsleep (s : State) (b : Nat) (v : Bolt) : (s.setBolt b v).pinsAsleep = s.pinsAsleep := rfl
@[simp] theorem State.setBolt_bankOk (s : State) (b : Nat) (v : Bolt) : (s.setBolt b v).bankOk = s.bankOk := rfl
@[simp] theorem State.setBolt_patterns (s : State) (b : Nat) (v : Bolt) : (s.setBolt b v).patterns = s.patterns := rfl
@[simp] theorem State.setBolt_periphs (s : State) (b : Nat) (v : Bolt) : (s.setBolt b v).periphs = s.periphs := rfl
@[simp] theorem State.setBolt_shuttles (s : State) (b : Nat) (v : Bolt) : (s.setBolt b v).shuttles = s.shuttles := rfl
@[simp] theorem State.setBolt_semas (s : State) (b : Nat) (v : Bolt) : (s.setBolt b v).semas = s.semas := rfl
@[simp] theorem State.setBolt_eng (s : State) (b : Nat) (v : Bolt) : (s.setBolt b v).eng = s.eng := rfl
@[simp] theorem State.setBolt_trust (s : State) (b : Nat) (v : Bolt) : (s.setBolt b v).trust = s.trust := rfl
@[simp] theorem State.setBolt_quads (s : State) (b : Nat) (v : Bolt) : (s.setBolt b v).quads = s.quads := rfl
@[simp] theorem State.setBolt_lanes (s : State) (b : Nat) (v : Bolt) : (s.setBolt b v).lanes = s.lanes := rfl
@[simp] theorem State.setBolt_jtag (s : State) (b : Nat) (v : Bolt) : (s.setBolt b v).jtag = s.jtag := rfl
@[simp] theorem State.setBolt_boot (s : State) (b : Nat) (v : Bolt) : (s.setBolt b v).boot = s.boot := rfl
@[simp] theorem State.setBolt_pcie (s : State) (b : Nat) (v : Bolt) : (s.setBolt b v).pcie = s.pcie := rfl
@[simp] theorem State.setBolt_chans (s : State) (b : Nat) (v : Bolt) : (s.setBolt b v).chans = s.chans := rfl

@[simp] theorem State.setBridge_pending (s : State) (n : Nat) (v : Bridge) : (s.setBridge n v).pending = s.pending := rfl
@[simp] theorem State.setBridge_now (s : State) (n : Nat) (v : Bridge) : (s.setBridge n v).now = s.now := rfl
@[simp] theorem State.setBridge_free (s : State) (n : Nat) (v : Bridge) : (s.setBridge n v).free = s.free := rfl
@[simp] theorem State.setBridge_resp (s : State) (n : Nat) (v : Bridge) : (s.setBridge n v).resp = s.resp := rfl
@[simp] theorem State.setBridge_regs (s : State) (n : Nat) (v : Bridge) : (s.setBridge n v).regs = s.regs := rfl
@[simp] theorem State.setBridge_caps (s : State) (n : Nat) (v : Bridge) : (s.setBridge n v).caps = s.caps := rfl
@[simp] theorem State.setBridge_ev (s : State) (n : Nat) (v : Bridge) : (s.setBridge n v).ev = s.ev := rfl
@[simp] theorem State.setBridge_log (s : State) (n : Nat) (v : Bridge) : (s.setBridge n v).log = s.log := rfl
@[simp] theorem State.setBridge_bolts (s : State) (n : Nat) (v : Bridge) : (s.setBridge n v).bolts = s.bolts := rfl
@[simp] theorem State.setBridge_pick (s : State) (n : Nat) (v : Bridge) : (s.setBridge n v).pick = s.pick := rfl
@[simp] theorem State.setBridge_pwr (s : State) (n : Nat) (v : Bridge) : (s.setBridge n v).pwr = s.pwr := rfl
@[simp] theorem State.setBridge_cells (s : State) (n : Nat) (v : Bridge) : (s.setBridge n v).cells = s.cells := rfl
@[simp] theorem State.setBridge_joins (s : State) (n : Nat) (v : Bridge) : (s.setBridge n v).joins = s.joins := rfl
@[simp] theorem State.setBridge_cfgMem (s : State) (n : Nat) (v : Bridge) : (s.setBridge n v).cfgMem = s.cfgMem := rfl
@[simp] theorem State.setBridge_glitch (s : State) (n : Nat) (v : Bridge) : (s.setBridge n v).glitch = s.glitch := rfl
@[simp] theorem State.setBridge_seamHeld (s : State) (n : Nat) (v : Bridge) : (s.setBridge n v).seamHeld = s.seamHeld := rfl
@[simp] theorem State.setBridge_taps (s : State) (n : Nat) (v : Bridge) : (s.setBridge n v).taps = s.taps := rfl
@[simp] theorem State.setBridge_portIn (s : State) (n : Nat) (v : Bridge) : (s.setBridge n v).portIn = s.portIn := rfl
@[simp] theorem State.setBridge_held (s : State) (n : Nat) (v : Bridge) : (s.setBridge n v).held = s.held := rfl
@[simp] theorem State.setBridge_creels (s : State) (n : Nat) (v : Bridge) : (s.setBridge n v).creels = s.creels := rfl
@[simp] theorem State.setBridge_arrays (s : State) (n : Nat) (v : Bridge) : (s.setBridge n v).arrays = s.arrays := rfl
@[simp] theorem State.setBridge_twills (s : State) (n : Nat) (v : Bridge) : (s.setBridge n v).twills = s.twills := rfl
@[simp] theorem State.setBridge_bridges (s : State) (n : Nat) (v : Bridge) : (s.setBridge n v).bridges = SMap.set {} s.bridges n v := rfl
@[simp] theorem State.setBridge_paces (s : State) (n : Nat) (v : Bridge) : (s.setBridge n v).paces = s.paces := rfl
@[simp] theorem State.setBridge_issued (s : State) (n : Nat) (v : Bridge) : (s.setBridge n v).issued = s.issued := rfl
@[simp] theorem State.setBridge_slotWait (s : State) (n : Nat) (v : Bridge) : (s.setBridge n v).slotWait = s.slotWait := rfl
@[simp] theorem State.setBridge_fbps (s : State) (n : Nat) (v : Bridge) : (s.setBridge n v).fbps = s.fbps := rfl
@[simp] theorem State.setBridge_pins (s : State) (n : Nat) (v : Bridge) : (s.setBridge n v).pins = s.pins := rfl
@[simp] theorem State.setBridge_portSample (s : State) (n : Nat) (v : Bridge) : (s.setBridge n v).portSample = s.portSample := rfl
@[simp] theorem State.setBridge_pickedIn (s : State) (n : Nat) (v : Bridge) : (s.setBridge n v).pickedIn = s.pickedIn := rfl
@[simp] theorem State.setBridge_pinsCfg (s : State) (n : Nat) (v : Bridge) : (s.setBridge n v).pinsCfg = s.pinsCfg := rfl
@[simp] theorem State.setBridge_pinsAsleep (s : State) (n : Nat) (v : Bridge) : (s.setBridge n v).pinsAsleep = s.pinsAsleep := rfl
@[simp] theorem State.setBridge_bankOk (s : State) (n : Nat) (v : Bridge) : (s.setBridge n v).bankOk = s.bankOk := rfl
@[simp] theorem State.setBridge_patterns (s : State) (n : Nat) (v : Bridge) : (s.setBridge n v).patterns = s.patterns := rfl
@[simp] theorem State.setBridge_periphs (s : State) (n : Nat) (v : Bridge) : (s.setBridge n v).periphs = s.periphs := rfl
@[simp] theorem State.setBridge_shuttles (s : State) (n : Nat) (v : Bridge) : (s.setBridge n v).shuttles = s.shuttles := rfl
@[simp] theorem State.setBridge_semas (s : State) (n : Nat) (v : Bridge) : (s.setBridge n v).semas = s.semas := rfl
@[simp] theorem State.setBridge_eng (s : State) (n : Nat) (v : Bridge) : (s.setBridge n v).eng = s.eng := rfl
@[simp] theorem State.setBridge_trust (s : State) (n : Nat) (v : Bridge) : (s.setBridge n v).trust = s.trust := rfl
@[simp] theorem State.setBridge_quads (s : State) (n : Nat) (v : Bridge) : (s.setBridge n v).quads = s.quads := rfl
@[simp] theorem State.setBridge_lanes (s : State) (n : Nat) (v : Bridge) : (s.setBridge n v).lanes = s.lanes := rfl
@[simp] theorem State.setBridge_jtag (s : State) (n : Nat) (v : Bridge) : (s.setBridge n v).jtag = s.jtag := rfl
@[simp] theorem State.setBridge_boot (s : State) (n : Nat) (v : Bridge) : (s.setBridge n v).boot = s.boot := rfl
@[simp] theorem State.setBridge_pcie (s : State) (n : Nat) (v : Bridge) : (s.setBridge n v).pcie = s.pcie := rfl
@[simp] theorem State.setBridge_chans (s : State) (n : Nat) (v : Bridge) : (s.setBridge n v).chans = s.chans := rfl

@[simp] theorem State.setPace_pending (s : State) (g : Nat) (v : Pace) : (s.setPace g v).pending = s.pending := rfl
@[simp] theorem State.setPace_now (s : State) (g : Nat) (v : Pace) : (s.setPace g v).now = s.now := rfl
@[simp] theorem State.setPace_free (s : State) (g : Nat) (v : Pace) : (s.setPace g v).free = s.free := rfl
@[simp] theorem State.setPace_resp (s : State) (g : Nat) (v : Pace) : (s.setPace g v).resp = s.resp := rfl
@[simp] theorem State.setPace_regs (s : State) (g : Nat) (v : Pace) : (s.setPace g v).regs = s.regs := rfl
@[simp] theorem State.setPace_caps (s : State) (g : Nat) (v : Pace) : (s.setPace g v).caps = s.caps := rfl
@[simp] theorem State.setPace_ev (s : State) (g : Nat) (v : Pace) : (s.setPace g v).ev = s.ev := rfl
@[simp] theorem State.setPace_log (s : State) (g : Nat) (v : Pace) : (s.setPace g v).log = s.log := rfl
@[simp] theorem State.setPace_bolts (s : State) (g : Nat) (v : Pace) : (s.setPace g v).bolts = s.bolts := rfl
@[simp] theorem State.setPace_pick (s : State) (g : Nat) (v : Pace) : (s.setPace g v).pick = s.pick := rfl
@[simp] theorem State.setPace_pwr (s : State) (g : Nat) (v : Pace) : (s.setPace g v).pwr = s.pwr := rfl
@[simp] theorem State.setPace_cells (s : State) (g : Nat) (v : Pace) : (s.setPace g v).cells = s.cells := rfl
@[simp] theorem State.setPace_joins (s : State) (g : Nat) (v : Pace) : (s.setPace g v).joins = s.joins := rfl
@[simp] theorem State.setPace_cfgMem (s : State) (g : Nat) (v : Pace) : (s.setPace g v).cfgMem = s.cfgMem := rfl
@[simp] theorem State.setPace_glitch (s : State) (g : Nat) (v : Pace) : (s.setPace g v).glitch = s.glitch := rfl
@[simp] theorem State.setPace_seamHeld (s : State) (g : Nat) (v : Pace) : (s.setPace g v).seamHeld = s.seamHeld := rfl
@[simp] theorem State.setPace_taps (s : State) (g : Nat) (v : Pace) : (s.setPace g v).taps = s.taps := rfl
@[simp] theorem State.setPace_portIn (s : State) (g : Nat) (v : Pace) : (s.setPace g v).portIn = s.portIn := rfl
@[simp] theorem State.setPace_held (s : State) (g : Nat) (v : Pace) : (s.setPace g v).held = s.held := rfl
@[simp] theorem State.setPace_creels (s : State) (g : Nat) (v : Pace) : (s.setPace g v).creels = s.creels := rfl
@[simp] theorem State.setPace_arrays (s : State) (g : Nat) (v : Pace) : (s.setPace g v).arrays = s.arrays := rfl
@[simp] theorem State.setPace_twills (s : State) (g : Nat) (v : Pace) : (s.setPace g v).twills = s.twills := rfl
@[simp] theorem State.setPace_bridges (s : State) (g : Nat) (v : Pace) : (s.setPace g v).bridges = s.bridges := rfl
@[simp] theorem State.setPace_paces (s : State) (g : Nat) (v : Pace) : (s.setPace g v).paces = SMap.set {} s.paces g v := rfl
@[simp] theorem State.setPace_issued (s : State) (g : Nat) (v : Pace) : (s.setPace g v).issued = s.issued := rfl
@[simp] theorem State.setPace_slotWait (s : State) (g : Nat) (v : Pace) : (s.setPace g v).slotWait = s.slotWait := rfl
@[simp] theorem State.setPace_fbps (s : State) (g : Nat) (v : Pace) : (s.setPace g v).fbps = s.fbps := rfl
@[simp] theorem State.setPace_pins (s : State) (g : Nat) (v : Pace) : (s.setPace g v).pins = s.pins := rfl
@[simp] theorem State.setPace_portSample (s : State) (g : Nat) (v : Pace) : (s.setPace g v).portSample = s.portSample := rfl
@[simp] theorem State.setPace_pickedIn (s : State) (g : Nat) (v : Pace) : (s.setPace g v).pickedIn = s.pickedIn := rfl
@[simp] theorem State.setPace_pinsCfg (s : State) (g : Nat) (v : Pace) : (s.setPace g v).pinsCfg = s.pinsCfg := rfl
@[simp] theorem State.setPace_pinsAsleep (s : State) (g : Nat) (v : Pace) : (s.setPace g v).pinsAsleep = s.pinsAsleep := rfl
@[simp] theorem State.setPace_bankOk (s : State) (g : Nat) (v : Pace) : (s.setPace g v).bankOk = s.bankOk := rfl
@[simp] theorem State.setPace_patterns (s : State) (g : Nat) (v : Pace) : (s.setPace g v).patterns = s.patterns := rfl
@[simp] theorem State.setPace_periphs (s : State) (g : Nat) (v : Pace) : (s.setPace g v).periphs = s.periphs := rfl
@[simp] theorem State.setPace_shuttles (s : State) (g : Nat) (v : Pace) : (s.setPace g v).shuttles = s.shuttles := rfl
@[simp] theorem State.setPace_semas (s : State) (g : Nat) (v : Pace) : (s.setPace g v).semas = s.semas := rfl
@[simp] theorem State.setPace_eng (s : State) (g : Nat) (v : Pace) : (s.setPace g v).eng = s.eng := rfl
@[simp] theorem State.setPace_trust (s : State) (g : Nat) (v : Pace) : (s.setPace g v).trust = s.trust := rfl
@[simp] theorem State.setPace_quads (s : State) (g : Nat) (v : Pace) : (s.setPace g v).quads = s.quads := rfl
@[simp] theorem State.setPace_lanes (s : State) (g : Nat) (v : Pace) : (s.setPace g v).lanes = s.lanes := rfl
@[simp] theorem State.setPace_jtag (s : State) (g : Nat) (v : Pace) : (s.setPace g v).jtag = s.jtag := rfl
@[simp] theorem State.setPace_boot (s : State) (g : Nat) (v : Pace) : (s.setPace g v).boot = s.boot := rfl
@[simp] theorem State.setPace_pcie (s : State) (g : Nat) (v : Pace) : (s.setPace g v).pcie = s.pcie := rfl
@[simp] theorem State.setPace_chans (s : State) (g : Nat) (v : Pace) : (s.setPace g v).chans = s.chans := rfl

@[simp] theorem State.setCfgWord_pending (s : State) (f k : Nat) (w : CfgWord) : (s.setCfgWord f k w).pending = s.pending := rfl
@[simp] theorem State.setCfgWord_now (s : State) (f k : Nat) (w : CfgWord) : (s.setCfgWord f k w).now = s.now := rfl
@[simp] theorem State.setCfgWord_free (s : State) (f k : Nat) (w : CfgWord) : (s.setCfgWord f k w).free = s.free := rfl
@[simp] theorem State.setCfgWord_resp (s : State) (f k : Nat) (w : CfgWord) : (s.setCfgWord f k w).resp = s.resp := rfl
@[simp] theorem State.setCfgWord_regs (s : State) (f k : Nat) (w : CfgWord) : (s.setCfgWord f k w).regs = s.regs := rfl
@[simp] theorem State.setCfgWord_caps (s : State) (f k : Nat) (w : CfgWord) : (s.setCfgWord f k w).caps = s.caps := rfl
@[simp] theorem State.setCfgWord_ev (s : State) (f k : Nat) (w : CfgWord) : (s.setCfgWord f k w).ev = s.ev := rfl
@[simp] theorem State.setCfgWord_log (s : State) (f k : Nat) (w : CfgWord) : (s.setCfgWord f k w).log = s.log := rfl
@[simp] theorem State.setCfgWord_bolts (s : State) (f k : Nat) (w : CfgWord) : (s.setCfgWord f k w).bolts = s.bolts := rfl
@[simp] theorem State.setCfgWord_pick (s : State) (f k : Nat) (w : CfgWord) : (s.setCfgWord f k w).pick = s.pick := rfl
@[simp] theorem State.setCfgWord_pwr (s : State) (f k : Nat) (w : CfgWord) : (s.setCfgWord f k w).pwr = s.pwr := rfl
@[simp] theorem State.setCfgWord_cells (s : State) (f k : Nat) (w : CfgWord) : (s.setCfgWord f k w).cells = s.cells := rfl
@[simp] theorem State.setCfgWord_joins (s : State) (f k : Nat) (w : CfgWord) : (s.setCfgWord f k w).joins = s.joins := rfl
@[simp] theorem State.setCfgWord_cfgMem (s : State) (f k : Nat) (w : CfgWord) :
    (s.setCfgWord f k w).cfgMem = SMap.set {} s.cfgMem (64 * f + k) w := rfl
@[simp] theorem State.setCfgWord_glitch (s : State) (f k : Nat) (w : CfgWord) : (s.setCfgWord f k w).glitch = s.glitch := rfl
@[simp] theorem State.setCfgWord_seamHeld (s : State) (f k : Nat) (w : CfgWord) : (s.setCfgWord f k w).seamHeld = s.seamHeld := rfl
@[simp] theorem State.setCfgWord_taps (s : State) (f k : Nat) (w : CfgWord) : (s.setCfgWord f k w).taps = s.taps := rfl
@[simp] theorem State.setCfgWord_portIn (s : State) (f k : Nat) (w : CfgWord) : (s.setCfgWord f k w).portIn = s.portIn := rfl
@[simp] theorem State.setCfgWord_held (s : State) (f k : Nat) (w : CfgWord) : (s.setCfgWord f k w).held = s.held := rfl
@[simp] theorem State.setCfgWord_creels (s : State) (f k : Nat) (w : CfgWord) : (s.setCfgWord f k w).creels = s.creels := rfl
@[simp] theorem State.setCfgWord_arrays (s : State) (f k : Nat) (w : CfgWord) : (s.setCfgWord f k w).arrays = s.arrays := rfl
@[simp] theorem State.setCfgWord_twills (s : State) (f k : Nat) (w : CfgWord) : (s.setCfgWord f k w).twills = s.twills := rfl
@[simp] theorem State.setCfgWord_bridges (s : State) (f k : Nat) (w : CfgWord) : (s.setCfgWord f k w).bridges = s.bridges := rfl
@[simp] theorem State.setCfgWord_paces (s : State) (f k : Nat) (w : CfgWord) : (s.setCfgWord f k w).paces = s.paces := rfl
@[simp] theorem State.setCfgWord_issued (s : State) (f k : Nat) (w : CfgWord) : (s.setCfgWord f k w).issued = s.issued := rfl
@[simp] theorem State.setCfgWord_slotWait (s : State) (f k : Nat) (w : CfgWord) : (s.setCfgWord f k w).slotWait = s.slotWait := rfl
@[simp] theorem State.setCfgWord_fbps (s : State) (f k : Nat) (w : CfgWord) : (s.setCfgWord f k w).fbps = s.fbps := rfl
@[simp] theorem State.setCfgWord_pins (s : State) (f k : Nat) (w : CfgWord) : (s.setCfgWord f k w).pins = s.pins := rfl
@[simp] theorem State.setCfgWord_portSample (s : State) (f k : Nat) (w : CfgWord) : (s.setCfgWord f k w).portSample = s.portSample := rfl
@[simp] theorem State.setCfgWord_pickedIn (s : State) (f k : Nat) (w : CfgWord) : (s.setCfgWord f k w).pickedIn = s.pickedIn := rfl
@[simp] theorem State.setCfgWord_pinsCfg (s : State) (f k : Nat) (w : CfgWord) : (s.setCfgWord f k w).pinsCfg = s.pinsCfg := rfl
@[simp] theorem State.setCfgWord_pinsAsleep (s : State) (f k : Nat) (w : CfgWord) : (s.setCfgWord f k w).pinsAsleep = s.pinsAsleep := rfl
@[simp] theorem State.setCfgWord_bankOk (s : State) (f k : Nat) (w : CfgWord) : (s.setCfgWord f k w).bankOk = s.bankOk := rfl
@[simp] theorem State.setCfgWord_patterns (s : State) (f k : Nat) (w : CfgWord) : (s.setCfgWord f k w).patterns = s.patterns := rfl
@[simp] theorem State.setCfgWord_periphs (s : State) (f k : Nat) (w : CfgWord) : (s.setCfgWord f k w).periphs = s.periphs := rfl
@[simp] theorem State.setCfgWord_shuttles (s : State) (f k : Nat) (w : CfgWord) : (s.setCfgWord f k w).shuttles = s.shuttles := rfl
@[simp] theorem State.setCfgWord_semas (s : State) (f k : Nat) (w : CfgWord) : (s.setCfgWord f k w).semas = s.semas := rfl
@[simp] theorem State.setCfgWord_eng (s : State) (f k : Nat) (w : CfgWord) : (s.setCfgWord f k w).eng = s.eng := rfl
@[simp] theorem State.setCfgWord_trust (s : State) (f k : Nat) (w : CfgWord) : (s.setCfgWord f k w).trust = s.trust := rfl
@[simp] theorem State.setCfgWord_quads (s : State) (f k : Nat) (w : CfgWord) : (s.setCfgWord f k w).quads = s.quads := rfl
@[simp] theorem State.setCfgWord_lanes (s : State) (f k : Nat) (w : CfgWord) : (s.setCfgWord f k w).lanes = s.lanes := rfl
@[simp] theorem State.setCfgWord_jtag (s : State) (f k : Nat) (w : CfgWord) : (s.setCfgWord f k w).jtag = s.jtag := rfl
@[simp] theorem State.setCfgWord_boot (s : State) (f k : Nat) (w : CfgWord) : (s.setCfgWord f k w).boot = s.boot := rfl
@[simp] theorem State.setCfgWord_pcie (s : State) (f k : Nat) (w : CfgWord) : (s.setCfgWord f k w).pcie = s.pcie := rfl
@[simp] theorem State.setCfgWord_chans (s : State) (f k : Nat) (w : CfgWord) : (s.setCfgWord f k w).chans = s.chans := rfl

@[simp] theorem State.setCreel_pending (s : State) (n : Nat) (v : Creel) : (s.setCreel n v).pending = s.pending := rfl
@[simp] theorem State.setCreel_now (s : State) (n : Nat) (v : Creel) : (s.setCreel n v).now = s.now := rfl
@[simp] theorem State.setCreel_free (s : State) (n : Nat) (v : Creel) : (s.setCreel n v).free = s.free := rfl
@[simp] theorem State.setCreel_resp (s : State) (n : Nat) (v : Creel) : (s.setCreel n v).resp = s.resp := rfl
@[simp] theorem State.setCreel_regs (s : State) (n : Nat) (v : Creel) : (s.setCreel n v).regs = s.regs := rfl
@[simp] theorem State.setCreel_caps (s : State) (n : Nat) (v : Creel) : (s.setCreel n v).caps = s.caps := rfl
@[simp] theorem State.setCreel_ev (s : State) (n : Nat) (v : Creel) : (s.setCreel n v).ev = s.ev := rfl
@[simp] theorem State.setCreel_log (s : State) (n : Nat) (v : Creel) : (s.setCreel n v).log = s.log := rfl
@[simp] theorem State.setCreel_bolts (s : State) (n : Nat) (v : Creel) : (s.setCreel n v).bolts = s.bolts := rfl
@[simp] theorem State.setCreel_pick (s : State) (n : Nat) (v : Creel) : (s.setCreel n v).pick = s.pick := rfl
@[simp] theorem State.setCreel_pwr (s : State) (n : Nat) (v : Creel) : (s.setCreel n v).pwr = s.pwr := rfl
@[simp] theorem State.setCreel_cells (s : State) (n : Nat) (v : Creel) : (s.setCreel n v).cells = s.cells := rfl
@[simp] theorem State.setCreel_joins (s : State) (n : Nat) (v : Creel) : (s.setCreel n v).joins = s.joins := rfl
@[simp] theorem State.setCreel_cfgMem (s : State) (n : Nat) (v : Creel) : (s.setCreel n v).cfgMem = s.cfgMem := rfl
@[simp] theorem State.setCreel_glitch (s : State) (n : Nat) (v : Creel) : (s.setCreel n v).glitch = s.glitch := rfl
@[simp] theorem State.setCreel_seamHeld (s : State) (n : Nat) (v : Creel) : (s.setCreel n v).seamHeld = s.seamHeld := rfl
@[simp] theorem State.setCreel_taps (s : State) (n : Nat) (v : Creel) : (s.setCreel n v).taps = s.taps := rfl
@[simp] theorem State.setCreel_portIn (s : State) (n : Nat) (v : Creel) : (s.setCreel n v).portIn = s.portIn := rfl
@[simp] theorem State.setCreel_held (s : State) (n : Nat) (v : Creel) : (s.setCreel n v).held = s.held := rfl
@[simp] theorem State.setCreel_creels (s : State) (n : Nat) (v : Creel) : (s.setCreel n v).creels = SMap.set {} s.creels n v := rfl
@[simp] theorem State.setCreel_arrays (s : State) (n : Nat) (v : Creel) : (s.setCreel n v).arrays = s.arrays := rfl
@[simp] theorem State.setCreel_twills (s : State) (n : Nat) (v : Creel) : (s.setCreel n v).twills = s.twills := rfl
@[simp] theorem State.setCreel_bridges (s : State) (n : Nat) (v : Creel) : (s.setCreel n v).bridges = s.bridges := rfl
@[simp] theorem State.setCreel_paces (s : State) (n : Nat) (v : Creel) : (s.setCreel n v).paces = s.paces := rfl
@[simp] theorem State.setCreel_issued (s : State) (n : Nat) (v : Creel) : (s.setCreel n v).issued = s.issued := rfl
@[simp] theorem State.setCreel_slotWait (s : State) (n : Nat) (v : Creel) : (s.setCreel n v).slotWait = s.slotWait := rfl
@[simp] theorem State.setCreel_fbps (s : State) (n : Nat) (v : Creel) : (s.setCreel n v).fbps = s.fbps := rfl
@[simp] theorem State.setCreel_pins (s : State) (n : Nat) (v : Creel) : (s.setCreel n v).pins = s.pins := rfl
@[simp] theorem State.setCreel_portSample (s : State) (n : Nat) (v : Creel) : (s.setCreel n v).portSample = s.portSample := rfl
@[simp] theorem State.setCreel_pickedIn (s : State) (n : Nat) (v : Creel) : (s.setCreel n v).pickedIn = s.pickedIn := rfl
@[simp] theorem State.setCreel_pinsCfg (s : State) (n : Nat) (v : Creel) : (s.setCreel n v).pinsCfg = s.pinsCfg := rfl
@[simp] theorem State.setCreel_pinsAsleep (s : State) (n : Nat) (v : Creel) : (s.setCreel n v).pinsAsleep = s.pinsAsleep := rfl
@[simp] theorem State.setCreel_bankOk (s : State) (n : Nat) (v : Creel) : (s.setCreel n v).bankOk = s.bankOk := rfl
@[simp] theorem State.setCreel_patterns (s : State) (n : Nat) (v : Creel) : (s.setCreel n v).patterns = s.patterns := rfl
@[simp] theorem State.setCreel_periphs (s : State) (n : Nat) (v : Creel) : (s.setCreel n v).periphs = s.periphs := rfl
@[simp] theorem State.setCreel_shuttles (s : State) (n : Nat) (v : Creel) : (s.setCreel n v).shuttles = s.shuttles := rfl
@[simp] theorem State.setCreel_semas (s : State) (n : Nat) (v : Creel) : (s.setCreel n v).semas = s.semas := rfl
@[simp] theorem State.setCreel_eng (s : State) (n : Nat) (v : Creel) : (s.setCreel n v).eng = s.eng := rfl
@[simp] theorem State.setCreel_trust (s : State) (n : Nat) (v : Creel) : (s.setCreel n v).trust = s.trust := rfl
@[simp] theorem State.setCreel_quads (s : State) (n : Nat) (v : Creel) : (s.setCreel n v).quads = s.quads := rfl
@[simp] theorem State.setCreel_lanes (s : State) (n : Nat) (v : Creel) : (s.setCreel n v).lanes = s.lanes := rfl
@[simp] theorem State.setCreel_jtag (s : State) (n : Nat) (v : Creel) : (s.setCreel n v).jtag = s.jtag := rfl
@[simp] theorem State.setCreel_boot (s : State) (n : Nat) (v : Creel) : (s.setCreel n v).boot = s.boot := rfl
@[simp] theorem State.setCreel_pcie (s : State) (n : Nat) (v : Creel) : (s.setCreel n v).pcie = s.pcie := rfl
@[simp] theorem State.setCreel_chans (s : State) (n : Nat) (v : Creel) : (s.setCreel n v).chans = s.chans := rfl

@[simp] theorem State.setArr_pending (s : State) (n w : Nat) (v : ArrWord) : (s.setArr n w v).pending = s.pending := rfl
@[simp] theorem State.setArr_now (s : State) (n w : Nat) (v : ArrWord) : (s.setArr n w v).now = s.now := rfl
@[simp] theorem State.setArr_free (s : State) (n w : Nat) (v : ArrWord) : (s.setArr n w v).free = s.free := rfl
@[simp] theorem State.setArr_resp (s : State) (n w : Nat) (v : ArrWord) : (s.setArr n w v).resp = s.resp := rfl
@[simp] theorem State.setArr_regs (s : State) (n w : Nat) (v : ArrWord) : (s.setArr n w v).regs = s.regs := rfl
@[simp] theorem State.setArr_caps (s : State) (n w : Nat) (v : ArrWord) : (s.setArr n w v).caps = s.caps := rfl
@[simp] theorem State.setArr_ev (s : State) (n w : Nat) (v : ArrWord) : (s.setArr n w v).ev = s.ev := rfl
@[simp] theorem State.setArr_log (s : State) (n w : Nat) (v : ArrWord) : (s.setArr n w v).log = s.log := rfl
@[simp] theorem State.setArr_bolts (s : State) (n w : Nat) (v : ArrWord) : (s.setArr n w v).bolts = s.bolts := rfl
@[simp] theorem State.setArr_pick (s : State) (n w : Nat) (v : ArrWord) : (s.setArr n w v).pick = s.pick := rfl
@[simp] theorem State.setArr_pwr (s : State) (n w : Nat) (v : ArrWord) : (s.setArr n w v).pwr = s.pwr := rfl
@[simp] theorem State.setArr_cells (s : State) (n w : Nat) (v : ArrWord) : (s.setArr n w v).cells = s.cells := rfl
@[simp] theorem State.setArr_joins (s : State) (n w : Nat) (v : ArrWord) : (s.setArr n w v).joins = s.joins := rfl
@[simp] theorem State.setArr_cfgMem (s : State) (n w : Nat) (v : ArrWord) : (s.setArr n w v).cfgMem = s.cfgMem := rfl
@[simp] theorem State.setArr_glitch (s : State) (n w : Nat) (v : ArrWord) : (s.setArr n w v).glitch = s.glitch := rfl
@[simp] theorem State.setArr_seamHeld (s : State) (n w : Nat) (v : ArrWord) : (s.setArr n w v).seamHeld = s.seamHeld := rfl
@[simp] theorem State.setArr_taps (s : State) (n w : Nat) (v : ArrWord) : (s.setArr n w v).taps = s.taps := rfl
@[simp] theorem State.setArr_portIn (s : State) (n w : Nat) (v : ArrWord) : (s.setArr n w v).portIn = s.portIn := rfl
@[simp] theorem State.setArr_held (s : State) (n w : Nat) (v : ArrWord) : (s.setArr n w v).held = s.held := rfl
@[simp] theorem State.setArr_creels (s : State) (n w : Nat) (v : ArrWord) : (s.setArr n w v).creels = s.creels := rfl
@[simp] theorem State.setArr_arrays (s : State) (n w : Nat) (v : ArrWord) :
    (s.setArr n w v).arrays = SMap.set {} s.arrays (1024 * n + w) v := rfl
@[simp] theorem State.setArr_twills (s : State) (n w : Nat) (v : ArrWord) : (s.setArr n w v).twills = s.twills := rfl
@[simp] theorem State.setArr_bridges (s : State) (n w : Nat) (v : ArrWord) : (s.setArr n w v).bridges = s.bridges := rfl
@[simp] theorem State.setArr_paces (s : State) (n w : Nat) (v : ArrWord) : (s.setArr n w v).paces = s.paces := rfl
@[simp] theorem State.setArr_issued (s : State) (n w : Nat) (v : ArrWord) : (s.setArr n w v).issued = s.issued := rfl
@[simp] theorem State.setArr_slotWait (s : State) (n w : Nat) (v : ArrWord) : (s.setArr n w v).slotWait = s.slotWait := rfl
@[simp] theorem State.setArr_fbps (s : State) (n w : Nat) (v : ArrWord) : (s.setArr n w v).fbps = s.fbps := rfl
@[simp] theorem State.setArr_pins (s : State) (n w : Nat) (v : ArrWord) : (s.setArr n w v).pins = s.pins := rfl
@[simp] theorem State.setArr_portSample (s : State) (n w : Nat) (v : ArrWord) : (s.setArr n w v).portSample = s.portSample := rfl
@[simp] theorem State.setArr_pickedIn (s : State) (n w : Nat) (v : ArrWord) : (s.setArr n w v).pickedIn = s.pickedIn := rfl
@[simp] theorem State.setArr_pinsCfg (s : State) (n w : Nat) (v : ArrWord) : (s.setArr n w v).pinsCfg = s.pinsCfg := rfl
@[simp] theorem State.setArr_pinsAsleep (s : State) (n w : Nat) (v : ArrWord) : (s.setArr n w v).pinsAsleep = s.pinsAsleep := rfl
@[simp] theorem State.setArr_bankOk (s : State) (n w : Nat) (v : ArrWord) : (s.setArr n w v).bankOk = s.bankOk := rfl
@[simp] theorem State.setArr_patterns (s : State) (n w : Nat) (v : ArrWord) : (s.setArr n w v).patterns = s.patterns := rfl
@[simp] theorem State.setArr_periphs (s : State) (n w : Nat) (v : ArrWord) : (s.setArr n w v).periphs = s.periphs := rfl
@[simp] theorem State.setArr_shuttles (s : State) (n w : Nat) (v : ArrWord) : (s.setArr n w v).shuttles = s.shuttles := rfl
@[simp] theorem State.setArr_semas (s : State) (n w : Nat) (v : ArrWord) : (s.setArr n w v).semas = s.semas := rfl
@[simp] theorem State.setArr_eng (s : State) (n w : Nat) (v : ArrWord) : (s.setArr n w v).eng = s.eng := rfl
@[simp] theorem State.setArr_trust (s : State) (n w : Nat) (v : ArrWord) : (s.setArr n w v).trust = s.trust := rfl
@[simp] theorem State.setArr_quads (s : State) (n w : Nat) (v : ArrWord) : (s.setArr n w v).quads = s.quads := rfl
@[simp] theorem State.setArr_lanes (s : State) (n w : Nat) (v : ArrWord) : (s.setArr n w v).lanes = s.lanes := rfl
@[simp] theorem State.setArr_jtag (s : State) (n w : Nat) (v : ArrWord) : (s.setArr n w v).jtag = s.jtag := rfl
@[simp] theorem State.setArr_boot (s : State) (n w : Nat) (v : ArrWord) : (s.setArr n w v).boot = s.boot := rfl
@[simp] theorem State.setArr_pcie (s : State) (n w : Nat) (v : ArrWord) : (s.setArr n w v).pcie = s.pcie := rfl
@[simp] theorem State.setArr_chans (s : State) (n w : Nat) (v : ArrWord) : (s.setArr n w v).chans = s.chans := rfl

@[simp] theorem State.setChan_pending (s : State) (ch : Nat) (v : Chan) : (s.setChan ch v).pending = s.pending := rfl
@[simp] theorem State.setChan_now (s : State) (ch : Nat) (v : Chan) : (s.setChan ch v).now = s.now := rfl
@[simp] theorem State.setChan_free (s : State) (ch : Nat) (v : Chan) : (s.setChan ch v).free = s.free := rfl
@[simp] theorem State.setChan_resp (s : State) (ch : Nat) (v : Chan) : (s.setChan ch v).resp = s.resp := rfl
@[simp] theorem State.setChan_regs (s : State) (ch : Nat) (v : Chan) : (s.setChan ch v).regs = s.regs := rfl
@[simp] theorem State.setChan_caps (s : State) (ch : Nat) (v : Chan) : (s.setChan ch v).caps = s.caps := rfl
@[simp] theorem State.setChan_ev (s : State) (ch : Nat) (v : Chan) : (s.setChan ch v).ev = s.ev := rfl
@[simp] theorem State.setChan_log (s : State) (ch : Nat) (v : Chan) : (s.setChan ch v).log = s.log := rfl
@[simp] theorem State.setChan_bolts (s : State) (ch : Nat) (v : Chan) : (s.setChan ch v).bolts = s.bolts := rfl
@[simp] theorem State.setChan_pick (s : State) (ch : Nat) (v : Chan) : (s.setChan ch v).pick = s.pick := rfl
@[simp] theorem State.setChan_pwr (s : State) (ch : Nat) (v : Chan) : (s.setChan ch v).pwr = s.pwr := rfl
@[simp] theorem State.setChan_cells (s : State) (ch : Nat) (v : Chan) : (s.setChan ch v).cells = s.cells := rfl
@[simp] theorem State.setChan_joins (s : State) (ch : Nat) (v : Chan) : (s.setChan ch v).joins = s.joins := rfl
@[simp] theorem State.setChan_cfgMem (s : State) (ch : Nat) (v : Chan) : (s.setChan ch v).cfgMem = s.cfgMem := rfl
@[simp] theorem State.setChan_glitch (s : State) (ch : Nat) (v : Chan) : (s.setChan ch v).glitch = s.glitch := rfl
@[simp] theorem State.setChan_seamHeld (s : State) (ch : Nat) (v : Chan) : (s.setChan ch v).seamHeld = s.seamHeld := rfl
@[simp] theorem State.setChan_taps (s : State) (ch : Nat) (v : Chan) : (s.setChan ch v).taps = s.taps := rfl
@[simp] theorem State.setChan_portIn (s : State) (ch : Nat) (v : Chan) : (s.setChan ch v).portIn = s.portIn := rfl
@[simp] theorem State.setChan_held (s : State) (ch : Nat) (v : Chan) : (s.setChan ch v).held = s.held := rfl
@[simp] theorem State.setChan_creels (s : State) (ch : Nat) (v : Chan) : (s.setChan ch v).creels = s.creels := rfl
@[simp] theorem State.setChan_arrays (s : State) (ch : Nat) (v : Chan) : (s.setChan ch v).arrays = s.arrays := rfl
@[simp] theorem State.setChan_twills (s : State) (ch : Nat) (v : Chan) : (s.setChan ch v).twills = s.twills := rfl
@[simp] theorem State.setChan_bridges (s : State) (ch : Nat) (v : Chan) : (s.setChan ch v).bridges = s.bridges := rfl
@[simp] theorem State.setChan_paces (s : State) (ch : Nat) (v : Chan) : (s.setChan ch v).paces = s.paces := rfl
@[simp] theorem State.setChan_issued (s : State) (ch : Nat) (v : Chan) : (s.setChan ch v).issued = s.issued := rfl
@[simp] theorem State.setChan_slotWait (s : State) (ch : Nat) (v : Chan) : (s.setChan ch v).slotWait = s.slotWait := rfl
@[simp] theorem State.setChan_fbps (s : State) (ch : Nat) (v : Chan) : (s.setChan ch v).fbps = s.fbps := rfl
@[simp] theorem State.setChan_pins (s : State) (ch : Nat) (v : Chan) : (s.setChan ch v).pins = s.pins := rfl
@[simp] theorem State.setChan_portSample (s : State) (ch : Nat) (v : Chan) : (s.setChan ch v).portSample = s.portSample := rfl
@[simp] theorem State.setChan_pickedIn (s : State) (ch : Nat) (v : Chan) : (s.setChan ch v).pickedIn = s.pickedIn := rfl
@[simp] theorem State.setChan_pinsCfg (s : State) (ch : Nat) (v : Chan) : (s.setChan ch v).pinsCfg = s.pinsCfg := rfl
@[simp] theorem State.setChan_pinsAsleep (s : State) (ch : Nat) (v : Chan) : (s.setChan ch v).pinsAsleep = s.pinsAsleep := rfl
@[simp] theorem State.setChan_bankOk (s : State) (ch : Nat) (v : Chan) : (s.setChan ch v).bankOk = s.bankOk := rfl
@[simp] theorem State.setChan_patterns (s : State) (ch : Nat) (v : Chan) : (s.setChan ch v).patterns = s.patterns := rfl
@[simp] theorem State.setChan_periphs (s : State) (ch : Nat) (v : Chan) : (s.setChan ch v).periphs = s.periphs := rfl
@[simp] theorem State.setChan_shuttles (s : State) (ch : Nat) (v : Chan) : (s.setChan ch v).shuttles = s.shuttles := rfl
@[simp] theorem State.setChan_semas (s : State) (ch : Nat) (v : Chan) : (s.setChan ch v).semas = s.semas := rfl
@[simp] theorem State.setChan_eng (s : State) (ch : Nat) (v : Chan) : (s.setChan ch v).eng = s.eng := rfl
@[simp] theorem State.setChan_trust (s : State) (ch : Nat) (v : Chan) : (s.setChan ch v).trust = s.trust := rfl
@[simp] theorem State.setChan_quads (s : State) (ch : Nat) (v : Chan) : (s.setChan ch v).quads = s.quads := rfl
@[simp] theorem State.setChan_lanes (s : State) (ch : Nat) (v : Chan) : (s.setChan ch v).lanes = s.lanes := rfl
@[simp] theorem State.setChan_jtag (s : State) (ch : Nat) (v : Chan) : (s.setChan ch v).jtag = s.jtag := rfl
@[simp] theorem State.setChan_boot (s : State) (ch : Nat) (v : Chan) : (s.setChan ch v).boot = s.boot := rfl
@[simp] theorem State.setChan_pcie (s : State) (ch : Nat) (v : Chan) : (s.setChan ch v).pcie = s.pcie := rfl
@[simp] theorem State.setChan_chans (s : State) (ch : Nat) (v : Chan) : (s.setChan ch v).chans = SMap.set {} s.chans ch v := rfl

@[simp] theorem State.setPeriph_pending (s : State) (u : Nat) (v : Periph) : (s.setPeriph u v).pending = s.pending := rfl
@[simp] theorem State.setPeriph_now (s : State) (u : Nat) (v : Periph) : (s.setPeriph u v).now = s.now := rfl
@[simp] theorem State.setPeriph_free (s : State) (u : Nat) (v : Periph) : (s.setPeriph u v).free = s.free := rfl
@[simp] theorem State.setPeriph_resp (s : State) (u : Nat) (v : Periph) : (s.setPeriph u v).resp = s.resp := rfl
@[simp] theorem State.setPeriph_regs (s : State) (u : Nat) (v : Periph) : (s.setPeriph u v).regs = s.regs := rfl
@[simp] theorem State.setPeriph_caps (s : State) (u : Nat) (v : Periph) : (s.setPeriph u v).caps = s.caps := rfl
@[simp] theorem State.setPeriph_ev (s : State) (u : Nat) (v : Periph) : (s.setPeriph u v).ev = s.ev := rfl
@[simp] theorem State.setPeriph_log (s : State) (u : Nat) (v : Periph) : (s.setPeriph u v).log = s.log := rfl
@[simp] theorem State.setPeriph_bolts (s : State) (u : Nat) (v : Periph) : (s.setPeriph u v).bolts = s.bolts := rfl
@[simp] theorem State.setPeriph_pick (s : State) (u : Nat) (v : Periph) : (s.setPeriph u v).pick = s.pick := rfl
@[simp] theorem State.setPeriph_pwr (s : State) (u : Nat) (v : Periph) : (s.setPeriph u v).pwr = s.pwr := rfl
@[simp] theorem State.setPeriph_cells (s : State) (u : Nat) (v : Periph) : (s.setPeriph u v).cells = s.cells := rfl
@[simp] theorem State.setPeriph_joins (s : State) (u : Nat) (v : Periph) : (s.setPeriph u v).joins = s.joins := rfl
@[simp] theorem State.setPeriph_cfgMem (s : State) (u : Nat) (v : Periph) : (s.setPeriph u v).cfgMem = s.cfgMem := rfl
@[simp] theorem State.setPeriph_glitch (s : State) (u : Nat) (v : Periph) : (s.setPeriph u v).glitch = s.glitch := rfl
@[simp] theorem State.setPeriph_seamHeld (s : State) (u : Nat) (v : Periph) : (s.setPeriph u v).seamHeld = s.seamHeld := rfl
@[simp] theorem State.setPeriph_taps (s : State) (u : Nat) (v : Periph) : (s.setPeriph u v).taps = s.taps := rfl
@[simp] theorem State.setPeriph_portIn (s : State) (u : Nat) (v : Periph) : (s.setPeriph u v).portIn = s.portIn := rfl
@[simp] theorem State.setPeriph_held (s : State) (u : Nat) (v : Periph) : (s.setPeriph u v).held = s.held := rfl
@[simp] theorem State.setPeriph_creels (s : State) (u : Nat) (v : Periph) : (s.setPeriph u v).creels = s.creels := rfl
@[simp] theorem State.setPeriph_arrays (s : State) (u : Nat) (v : Periph) : (s.setPeriph u v).arrays = s.arrays := rfl
@[simp] theorem State.setPeriph_twills (s : State) (u : Nat) (v : Periph) : (s.setPeriph u v).twills = s.twills := rfl
@[simp] theorem State.setPeriph_bridges (s : State) (u : Nat) (v : Periph) : (s.setPeriph u v).bridges = s.bridges := rfl
@[simp] theorem State.setPeriph_paces (s : State) (u : Nat) (v : Periph) : (s.setPeriph u v).paces = s.paces := rfl
@[simp] theorem State.setPeriph_issued (s : State) (u : Nat) (v : Periph) : (s.setPeriph u v).issued = s.issued := rfl
@[simp] theorem State.setPeriph_slotWait (s : State) (u : Nat) (v : Periph) : (s.setPeriph u v).slotWait = s.slotWait := rfl
@[simp] theorem State.setPeriph_fbps (s : State) (u : Nat) (v : Periph) : (s.setPeriph u v).fbps = s.fbps := rfl
@[simp] theorem State.setPeriph_pins (s : State) (u : Nat) (v : Periph) : (s.setPeriph u v).pins = s.pins := rfl
@[simp] theorem State.setPeriph_portSample (s : State) (u : Nat) (v : Periph) : (s.setPeriph u v).portSample = s.portSample := rfl
@[simp] theorem State.setPeriph_pickedIn (s : State) (u : Nat) (v : Periph) : (s.setPeriph u v).pickedIn = s.pickedIn := rfl
@[simp] theorem State.setPeriph_pinsCfg (s : State) (u : Nat) (v : Periph) : (s.setPeriph u v).pinsCfg = s.pinsCfg := rfl
@[simp] theorem State.setPeriph_pinsAsleep (s : State) (u : Nat) (v : Periph) : (s.setPeriph u v).pinsAsleep = s.pinsAsleep := rfl
@[simp] theorem State.setPeriph_bankOk (s : State) (u : Nat) (v : Periph) : (s.setPeriph u v).bankOk = s.bankOk := rfl
@[simp] theorem State.setPeriph_patterns (s : State) (u : Nat) (v : Periph) : (s.setPeriph u v).patterns = s.patterns := rfl
@[simp] theorem State.setPeriph_periphs (s : State) (u : Nat) (v : Periph) : (s.setPeriph u v).periphs = SMap.set {} s.periphs u v := rfl
@[simp] theorem State.setPeriph_shuttles (s : State) (u : Nat) (v : Periph) : (s.setPeriph u v).shuttles = s.shuttles := rfl
@[simp] theorem State.setPeriph_semas (s : State) (u : Nat) (v : Periph) : (s.setPeriph u v).semas = s.semas := rfl
@[simp] theorem State.setPeriph_eng (s : State) (u : Nat) (v : Periph) : (s.setPeriph u v).eng = s.eng := rfl
@[simp] theorem State.setPeriph_trust (s : State) (u : Nat) (v : Periph) : (s.setPeriph u v).trust = s.trust := rfl
@[simp] theorem State.setPeriph_quads (s : State) (u : Nat) (v : Periph) : (s.setPeriph u v).quads = s.quads := rfl
@[simp] theorem State.setPeriph_lanes (s : State) (u : Nat) (v : Periph) : (s.setPeriph u v).lanes = s.lanes := rfl
@[simp] theorem State.setPeriph_jtag (s : State) (u : Nat) (v : Periph) : (s.setPeriph u v).jtag = s.jtag := rfl
@[simp] theorem State.setPeriph_boot (s : State) (u : Nat) (v : Periph) : (s.setPeriph u v).boot = s.boot := rfl
@[simp] theorem State.setPeriph_pcie (s : State) (u : Nat) (v : Periph) : (s.setPeriph u v).pcie = s.pcie := rfl
@[simp] theorem State.setPeriph_chans (s : State) (u : Nat) (v : Periph) : (s.setPeriph u v).chans = s.chans := rfl

@[simp] theorem State.withEng_pending (s : State) (e : Engine) : (s.withEng e).pending = s.pending := rfl
@[simp] theorem State.withEng_now (s : State) (e : Engine) : (s.withEng e).now = s.now := rfl
@[simp] theorem State.withEng_free (s : State) (e : Engine) : (s.withEng e).free = s.free := rfl
@[simp] theorem State.withEng_resp (s : State) (e : Engine) : (s.withEng e).resp = s.resp := rfl
@[simp] theorem State.withEng_regs (s : State) (e : Engine) : (s.withEng e).regs = s.regs := rfl
@[simp] theorem State.withEng_caps (s : State) (e : Engine) : (s.withEng e).caps = s.caps := rfl
@[simp] theorem State.withEng_ev (s : State) (e : Engine) : (s.withEng e).ev = s.ev := rfl
@[simp] theorem State.withEng_log (s : State) (e : Engine) : (s.withEng e).log = s.log := rfl
@[simp] theorem State.withEng_bolts (s : State) (e : Engine) : (s.withEng e).bolts = s.bolts := rfl
@[simp] theorem State.withEng_pick (s : State) (e : Engine) : (s.withEng e).pick = s.pick := rfl
@[simp] theorem State.withEng_pwr (s : State) (e : Engine) : (s.withEng e).pwr = s.pwr := rfl
@[simp] theorem State.withEng_cells (s : State) (e : Engine) : (s.withEng e).cells = s.cells := rfl
@[simp] theorem State.withEng_joins (s : State) (e : Engine) : (s.withEng e).joins = s.joins := rfl
@[simp] theorem State.withEng_cfgMem (s : State) (e : Engine) : (s.withEng e).cfgMem = s.cfgMem := rfl
@[simp] theorem State.withEng_glitch (s : State) (e : Engine) : (s.withEng e).glitch = s.glitch := rfl
@[simp] theorem State.withEng_seamHeld (s : State) (e : Engine) : (s.withEng e).seamHeld = s.seamHeld := rfl
@[simp] theorem State.withEng_taps (s : State) (e : Engine) : (s.withEng e).taps = s.taps := rfl
@[simp] theorem State.withEng_portIn (s : State) (e : Engine) : (s.withEng e).portIn = s.portIn := rfl
@[simp] theorem State.withEng_held (s : State) (e : Engine) : (s.withEng e).held = s.held := rfl
@[simp] theorem State.withEng_creels (s : State) (e : Engine) : (s.withEng e).creels = s.creels := rfl
@[simp] theorem State.withEng_arrays (s : State) (e : Engine) : (s.withEng e).arrays = s.arrays := rfl
@[simp] theorem State.withEng_twills (s : State) (e : Engine) : (s.withEng e).twills = s.twills := rfl
@[simp] theorem State.withEng_bridges (s : State) (e : Engine) : (s.withEng e).bridges = s.bridges := rfl
@[simp] theorem State.withEng_paces (s : State) (e : Engine) : (s.withEng e).paces = s.paces := rfl
@[simp] theorem State.withEng_issued (s : State) (e : Engine) : (s.withEng e).issued = s.issued := rfl
@[simp] theorem State.withEng_slotWait (s : State) (e : Engine) : (s.withEng e).slotWait = s.slotWait := rfl
@[simp] theorem State.withEng_fbps (s : State) (e : Engine) : (s.withEng e).fbps = s.fbps := rfl
@[simp] theorem State.withEng_pins (s : State) (e : Engine) : (s.withEng e).pins = s.pins := rfl
@[simp] theorem State.withEng_portSample (s : State) (e : Engine) : (s.withEng e).portSample = s.portSample := rfl
@[simp] theorem State.withEng_pickedIn (s : State) (e : Engine) : (s.withEng e).pickedIn = s.pickedIn := rfl
@[simp] theorem State.withEng_pinsCfg (s : State) (e : Engine) : (s.withEng e).pinsCfg = s.pinsCfg := rfl
@[simp] theorem State.withEng_pinsAsleep (s : State) (e : Engine) : (s.withEng e).pinsAsleep = s.pinsAsleep := rfl
@[simp] theorem State.withEng_bankOk (s : State) (e : Engine) : (s.withEng e).bankOk = s.bankOk := rfl
@[simp] theorem State.withEng_patterns (s : State) (e : Engine) : (s.withEng e).patterns = s.patterns := rfl
@[simp] theorem State.withEng_periphs (s : State) (e : Engine) : (s.withEng e).periphs = s.periphs := rfl
@[simp] theorem State.withEng_shuttles (s : State) (e : Engine) : (s.withEng e).shuttles = s.shuttles := rfl
@[simp] theorem State.withEng_semas (s : State) (e : Engine) : (s.withEng e).semas = s.semas := rfl
@[simp] theorem State.withEng_eng (s : State) (e : Engine) : (s.withEng e).eng = e := rfl
@[simp] theorem State.withEng_trust (s : State) (e : Engine) : (s.withEng e).trust = s.trust := rfl
@[simp] theorem State.withEng_quads (s : State) (e : Engine) : (s.withEng e).quads = s.quads := rfl
@[simp] theorem State.withEng_lanes (s : State) (e : Engine) : (s.withEng e).lanes = s.lanes := rfl
@[simp] theorem State.withEng_jtag (s : State) (e : Engine) : (s.withEng e).jtag = s.jtag := rfl
@[simp] theorem State.withEng_boot (s : State) (e : Engine) : (s.withEng e).boot = s.boot := rfl
@[simp] theorem State.withEng_pcie (s : State) (e : Engine) : (s.withEng e).pcie = s.pcie := rfl
@[simp] theorem State.withEng_chans (s : State) (e : Engine) : (s.withEng e).chans = s.chans := rfl

@[simp] theorem State.setPin_pending (s : State) (p : Nat) (v : Pin) : (s.setPin p v).pending = s.pending := rfl
@[simp] theorem State.setPin_now (s : State) (p : Nat) (v : Pin) : (s.setPin p v).now = s.now := rfl
@[simp] theorem State.setPin_free (s : State) (p : Nat) (v : Pin) : (s.setPin p v).free = s.free := rfl
@[simp] theorem State.setPin_resp (s : State) (p : Nat) (v : Pin) : (s.setPin p v).resp = s.resp := rfl
@[simp] theorem State.setPin_regs (s : State) (p : Nat) (v : Pin) : (s.setPin p v).regs = s.regs := rfl
@[simp] theorem State.setPin_caps (s : State) (p : Nat) (v : Pin) : (s.setPin p v).caps = s.caps := rfl
@[simp] theorem State.setPin_ev (s : State) (p : Nat) (v : Pin) : (s.setPin p v).ev = s.ev := rfl
@[simp] theorem State.setPin_log (s : State) (p : Nat) (v : Pin) : (s.setPin p v).log = s.log := rfl
@[simp] theorem State.setPin_bolts (s : State) (p : Nat) (v : Pin) : (s.setPin p v).bolts = s.bolts := rfl
@[simp] theorem State.setPin_pick (s : State) (p : Nat) (v : Pin) : (s.setPin p v).pick = s.pick := rfl
@[simp] theorem State.setPin_pwr (s : State) (p : Nat) (v : Pin) : (s.setPin p v).pwr = s.pwr := rfl
@[simp] theorem State.setPin_cells (s : State) (p : Nat) (v : Pin) : (s.setPin p v).cells = s.cells := rfl
@[simp] theorem State.setPin_joins (s : State) (p : Nat) (v : Pin) : (s.setPin p v).joins = s.joins := rfl
@[simp] theorem State.setPin_cfgMem (s : State) (p : Nat) (v : Pin) : (s.setPin p v).cfgMem = s.cfgMem := rfl
@[simp] theorem State.setPin_glitch (s : State) (p : Nat) (v : Pin) : (s.setPin p v).glitch = s.glitch := rfl
@[simp] theorem State.setPin_seamHeld (s : State) (p : Nat) (v : Pin) : (s.setPin p v).seamHeld = s.seamHeld := rfl
@[simp] theorem State.setPin_taps (s : State) (p : Nat) (v : Pin) : (s.setPin p v).taps = s.taps := rfl
@[simp] theorem State.setPin_portIn (s : State) (p : Nat) (v : Pin) : (s.setPin p v).portIn = s.portIn := rfl
@[simp] theorem State.setPin_held (s : State) (p : Nat) (v : Pin) : (s.setPin p v).held = s.held := rfl
@[simp] theorem State.setPin_creels (s : State) (p : Nat) (v : Pin) : (s.setPin p v).creels = s.creels := rfl
@[simp] theorem State.setPin_arrays (s : State) (p : Nat) (v : Pin) : (s.setPin p v).arrays = s.arrays := rfl
@[simp] theorem State.setPin_twills (s : State) (p : Nat) (v : Pin) : (s.setPin p v).twills = s.twills := rfl
@[simp] theorem State.setPin_bridges (s : State) (p : Nat) (v : Pin) : (s.setPin p v).bridges = s.bridges := rfl
@[simp] theorem State.setPin_paces (s : State) (p : Nat) (v : Pin) : (s.setPin p v).paces = s.paces := rfl
@[simp] theorem State.setPin_issued (s : State) (p : Nat) (v : Pin) : (s.setPin p v).issued = s.issued := rfl
@[simp] theorem State.setPin_slotWait (s : State) (p : Nat) (v : Pin) : (s.setPin p v).slotWait = s.slotWait := rfl
@[simp] theorem State.setPin_fbps (s : State) (p : Nat) (v : Pin) : (s.setPin p v).fbps = s.fbps := rfl
@[simp] theorem State.setPin_pins (s : State) (p : Nat) (v : Pin) : (s.setPin p v).pins = SMap.set {} s.pins p v := rfl
@[simp] theorem State.setPin_portSample (s : State) (p : Nat) (v : Pin) : (s.setPin p v).portSample = s.portSample := rfl
@[simp] theorem State.setPin_pickedIn (s : State) (p : Nat) (v : Pin) : (s.setPin p v).pickedIn = s.pickedIn := rfl
@[simp] theorem State.setPin_pinsCfg (s : State) (p : Nat) (v : Pin) : (s.setPin p v).pinsCfg = s.pinsCfg := rfl
@[simp] theorem State.setPin_pinsAsleep (s : State) (p : Nat) (v : Pin) : (s.setPin p v).pinsAsleep = s.pinsAsleep := rfl
@[simp] theorem State.setPin_bankOk (s : State) (p : Nat) (v : Pin) : (s.setPin p v).bankOk = s.bankOk := rfl
@[simp] theorem State.setPin_patterns (s : State) (p : Nat) (v : Pin) : (s.setPin p v).patterns = s.patterns := rfl
@[simp] theorem State.setPin_periphs (s : State) (p : Nat) (v : Pin) : (s.setPin p v).periphs = s.periphs := rfl
@[simp] theorem State.setPin_shuttles (s : State) (p : Nat) (v : Pin) : (s.setPin p v).shuttles = s.shuttles := rfl
@[simp] theorem State.setPin_semas (s : State) (p : Nat) (v : Pin) : (s.setPin p v).semas = s.semas := rfl
@[simp] theorem State.setPin_eng (s : State) (p : Nat) (v : Pin) : (s.setPin p v).eng = s.eng := rfl
@[simp] theorem State.setPin_trust (s : State) (p : Nat) (v : Pin) : (s.setPin p v).trust = s.trust := rfl
@[simp] theorem State.setPin_quads (s : State) (p : Nat) (v : Pin) : (s.setPin p v).quads = s.quads := rfl
@[simp] theorem State.setPin_lanes (s : State) (p : Nat) (v : Pin) : (s.setPin p v).lanes = s.lanes := rfl
@[simp] theorem State.setPin_jtag (s : State) (p : Nat) (v : Pin) : (s.setPin p v).jtag = s.jtag := rfl
@[simp] theorem State.setPin_boot (s : State) (p : Nat) (v : Pin) : (s.setPin p v).boot = s.boot := rfl
@[simp] theorem State.setPin_pcie (s : State) (p : Nat) (v : Pin) : (s.setPin p v).pcie = s.pcie := rfl
@[simp] theorem State.setPin_chans (s : State) (p : Nat) (v : Pin) : (s.setPin p v).chans = s.chans := rfl

@[simp] theorem State.setPattern_pending (s : State) (u : Nat) (v : Pattern) : (s.setPattern u v).pending = s.pending := rfl
@[simp] theorem State.setPattern_now (s : State) (u : Nat) (v : Pattern) : (s.setPattern u v).now = s.now := rfl
@[simp] theorem State.setPattern_free (s : State) (u : Nat) (v : Pattern) : (s.setPattern u v).free = s.free := rfl
@[simp] theorem State.setPattern_resp (s : State) (u : Nat) (v : Pattern) : (s.setPattern u v).resp = s.resp := rfl
@[simp] theorem State.setPattern_regs (s : State) (u : Nat) (v : Pattern) : (s.setPattern u v).regs = s.regs := rfl
@[simp] theorem State.setPattern_caps (s : State) (u : Nat) (v : Pattern) : (s.setPattern u v).caps = s.caps := rfl
@[simp] theorem State.setPattern_ev (s : State) (u : Nat) (v : Pattern) : (s.setPattern u v).ev = s.ev := rfl
@[simp] theorem State.setPattern_log (s : State) (u : Nat) (v : Pattern) : (s.setPattern u v).log = s.log := rfl
@[simp] theorem State.setPattern_bolts (s : State) (u : Nat) (v : Pattern) : (s.setPattern u v).bolts = s.bolts := rfl
@[simp] theorem State.setPattern_pick (s : State) (u : Nat) (v : Pattern) : (s.setPattern u v).pick = s.pick := rfl
@[simp] theorem State.setPattern_pwr (s : State) (u : Nat) (v : Pattern) : (s.setPattern u v).pwr = s.pwr := rfl
@[simp] theorem State.setPattern_cells (s : State) (u : Nat) (v : Pattern) : (s.setPattern u v).cells = s.cells := rfl
@[simp] theorem State.setPattern_joins (s : State) (u : Nat) (v : Pattern) : (s.setPattern u v).joins = s.joins := rfl
@[simp] theorem State.setPattern_cfgMem (s : State) (u : Nat) (v : Pattern) : (s.setPattern u v).cfgMem = s.cfgMem := rfl
@[simp] theorem State.setPattern_glitch (s : State) (u : Nat) (v : Pattern) : (s.setPattern u v).glitch = s.glitch := rfl
@[simp] theorem State.setPattern_seamHeld (s : State) (u : Nat) (v : Pattern) : (s.setPattern u v).seamHeld = s.seamHeld := rfl
@[simp] theorem State.setPattern_taps (s : State) (u : Nat) (v : Pattern) : (s.setPattern u v).taps = s.taps := rfl
@[simp] theorem State.setPattern_portIn (s : State) (u : Nat) (v : Pattern) : (s.setPattern u v).portIn = s.portIn := rfl
@[simp] theorem State.setPattern_held (s : State) (u : Nat) (v : Pattern) : (s.setPattern u v).held = s.held := rfl
@[simp] theorem State.setPattern_creels (s : State) (u : Nat) (v : Pattern) : (s.setPattern u v).creels = s.creels := rfl
@[simp] theorem State.setPattern_arrays (s : State) (u : Nat) (v : Pattern) : (s.setPattern u v).arrays = s.arrays := rfl
@[simp] theorem State.setPattern_twills (s : State) (u : Nat) (v : Pattern) : (s.setPattern u v).twills = s.twills := rfl
@[simp] theorem State.setPattern_bridges (s : State) (u : Nat) (v : Pattern) : (s.setPattern u v).bridges = s.bridges := rfl
@[simp] theorem State.setPattern_paces (s : State) (u : Nat) (v : Pattern) : (s.setPattern u v).paces = s.paces := rfl
@[simp] theorem State.setPattern_issued (s : State) (u : Nat) (v : Pattern) : (s.setPattern u v).issued = s.issued := rfl
@[simp] theorem State.setPattern_slotWait (s : State) (u : Nat) (v : Pattern) : (s.setPattern u v).slotWait = s.slotWait := rfl
@[simp] theorem State.setPattern_fbps (s : State) (u : Nat) (v : Pattern) : (s.setPattern u v).fbps = s.fbps := rfl
@[simp] theorem State.setPattern_pins (s : State) (u : Nat) (v : Pattern) : (s.setPattern u v).pins = s.pins := rfl
@[simp] theorem State.setPattern_portSample (s : State) (u : Nat) (v : Pattern) : (s.setPattern u v).portSample = s.portSample := rfl
@[simp] theorem State.setPattern_pickedIn (s : State) (u : Nat) (v : Pattern) : (s.setPattern u v).pickedIn = s.pickedIn := rfl
@[simp] theorem State.setPattern_pinsCfg (s : State) (u : Nat) (v : Pattern) : (s.setPattern u v).pinsCfg = s.pinsCfg := rfl
@[simp] theorem State.setPattern_pinsAsleep (s : State) (u : Nat) (v : Pattern) : (s.setPattern u v).pinsAsleep = s.pinsAsleep := rfl
@[simp] theorem State.setPattern_bankOk (s : State) (u : Nat) (v : Pattern) : (s.setPattern u v).bankOk = s.bankOk := rfl
@[simp] theorem State.setPattern_patterns (s : State) (u : Nat) (v : Pattern) :
    (s.setPattern u v).patterns = SMap.set {} s.patterns u v := rfl
@[simp] theorem State.setPattern_periphs (s : State) (u : Nat) (v : Pattern) : (s.setPattern u v).periphs = s.periphs := rfl
@[simp] theorem State.setPattern_shuttles (s : State) (u : Nat) (v : Pattern) : (s.setPattern u v).shuttles = s.shuttles := rfl
@[simp] theorem State.setPattern_semas (s : State) (u : Nat) (v : Pattern) : (s.setPattern u v).semas = s.semas := rfl
@[simp] theorem State.setPattern_eng (s : State) (u : Nat) (v : Pattern) : (s.setPattern u v).eng = s.eng := rfl
@[simp] theorem State.setPattern_trust (s : State) (u : Nat) (v : Pattern) : (s.setPattern u v).trust = s.trust := rfl
@[simp] theorem State.setPattern_quads (s : State) (u : Nat) (v : Pattern) : (s.setPattern u v).quads = s.quads := rfl
@[simp] theorem State.setPattern_lanes (s : State) (u : Nat) (v : Pattern) : (s.setPattern u v).lanes = s.lanes := rfl
@[simp] theorem State.setPattern_jtag (s : State) (u : Nat) (v : Pattern) : (s.setPattern u v).jtag = s.jtag := rfl
@[simp] theorem State.setPattern_boot (s : State) (u : Nat) (v : Pattern) : (s.setPattern u v).boot = s.boot := rfl
@[simp] theorem State.setPattern_pcie (s : State) (u : Nat) (v : Pattern) : (s.setPattern u v).pcie = s.pcie := rfl
@[simp] theorem State.setPattern_chans (s : State) (u : Nat) (v : Pattern) : (s.setPattern u v).chans = s.chans := rfl

@[simp] theorem State.setCell_pending (s : State) (r c : Nat) (v : Cell) : (s.setCell r c v).pending = s.pending := rfl
@[simp] theorem State.setCell_now (s : State) (r c : Nat) (v : Cell) : (s.setCell r c v).now = s.now := rfl
@[simp] theorem State.setCell_free (s : State) (r c : Nat) (v : Cell) : (s.setCell r c v).free = s.free := rfl
@[simp] theorem State.setCell_resp (s : State) (r c : Nat) (v : Cell) : (s.setCell r c v).resp = s.resp := rfl
@[simp] theorem State.setCell_regs (s : State) (r c : Nat) (v : Cell) : (s.setCell r c v).regs = s.regs := rfl
@[simp] theorem State.setCell_caps (s : State) (r c : Nat) (v : Cell) : (s.setCell r c v).caps = s.caps := rfl
@[simp] theorem State.setCell_ev (s : State) (r c : Nat) (v : Cell) : (s.setCell r c v).ev = s.ev := rfl
@[simp] theorem State.setCell_log (s : State) (r c : Nat) (v : Cell) : (s.setCell r c v).log = s.log := rfl
@[simp] theorem State.setCell_bolts (s : State) (r c : Nat) (v : Cell) : (s.setCell r c v).bolts = s.bolts := rfl
@[simp] theorem State.setCell_pick (s : State) (r c : Nat) (v : Cell) : (s.setCell r c v).pick = s.pick := rfl
@[simp] theorem State.setCell_pwr (s : State) (r c : Nat) (v : Cell) : (s.setCell r c v).pwr = s.pwr := rfl
@[simp] theorem State.setCell_cells (s : State) (r c : Nat) (v : Cell) : (s.setCell r c v).cells = SMap.set {} s.cells (16 * r + c) v := rfl
@[simp] theorem State.setCell_joins (s : State) (r c : Nat) (v : Cell) : (s.setCell r c v).joins = s.joins := rfl
@[simp] theorem State.setCell_cfgMem (s : State) (r c : Nat) (v : Cell) : (s.setCell r c v).cfgMem = s.cfgMem := rfl
@[simp] theorem State.setCell_glitch (s : State) (r c : Nat) (v : Cell) : (s.setCell r c v).glitch = s.glitch := rfl
@[simp] theorem State.setCell_seamHeld (s : State) (r c : Nat) (v : Cell) : (s.setCell r c v).seamHeld = s.seamHeld := rfl
@[simp] theorem State.setCell_taps (s : State) (r c : Nat) (v : Cell) : (s.setCell r c v).taps = s.taps := rfl
@[simp] theorem State.setCell_portIn (s : State) (r c : Nat) (v : Cell) : (s.setCell r c v).portIn = s.portIn := rfl
@[simp] theorem State.setCell_held (s : State) (r c : Nat) (v : Cell) : (s.setCell r c v).held = s.held := rfl
@[simp] theorem State.setCell_creels (s : State) (r c : Nat) (v : Cell) : (s.setCell r c v).creels = s.creels := rfl
@[simp] theorem State.setCell_arrays (s : State) (r c : Nat) (v : Cell) : (s.setCell r c v).arrays = s.arrays := rfl
@[simp] theorem State.setCell_twills (s : State) (r c : Nat) (v : Cell) : (s.setCell r c v).twills = s.twills := rfl
@[simp] theorem State.setCell_bridges (s : State) (r c : Nat) (v : Cell) : (s.setCell r c v).bridges = s.bridges := rfl
@[simp] theorem State.setCell_paces (s : State) (r c : Nat) (v : Cell) : (s.setCell r c v).paces = s.paces := rfl
@[simp] theorem State.setCell_issued (s : State) (r c : Nat) (v : Cell) : (s.setCell r c v).issued = s.issued := rfl
@[simp] theorem State.setCell_slotWait (s : State) (r c : Nat) (v : Cell) : (s.setCell r c v).slotWait = s.slotWait := rfl
@[simp] theorem State.setCell_fbps (s : State) (r c : Nat) (v : Cell) : (s.setCell r c v).fbps = s.fbps := rfl
@[simp] theorem State.setCell_pins (s : State) (r c : Nat) (v : Cell) : (s.setCell r c v).pins = s.pins := rfl
@[simp] theorem State.setCell_portSample (s : State) (r c : Nat) (v : Cell) : (s.setCell r c v).portSample = s.portSample := rfl
@[simp] theorem State.setCell_pickedIn (s : State) (r c : Nat) (v : Cell) : (s.setCell r c v).pickedIn = s.pickedIn := rfl
@[simp] theorem State.setCell_pinsCfg (s : State) (r c : Nat) (v : Cell) : (s.setCell r c v).pinsCfg = s.pinsCfg := rfl
@[simp] theorem State.setCell_pinsAsleep (s : State) (r c : Nat) (v : Cell) : (s.setCell r c v).pinsAsleep = s.pinsAsleep := rfl
@[simp] theorem State.setCell_bankOk (s : State) (r c : Nat) (v : Cell) : (s.setCell r c v).bankOk = s.bankOk := rfl
@[simp] theorem State.setCell_patterns (s : State) (r c : Nat) (v : Cell) : (s.setCell r c v).patterns = s.patterns := rfl
@[simp] theorem State.setCell_periphs (s : State) (r c : Nat) (v : Cell) : (s.setCell r c v).periphs = s.periphs := rfl
@[simp] theorem State.setCell_shuttles (s : State) (r c : Nat) (v : Cell) : (s.setCell r c v).shuttles = s.shuttles := rfl
@[simp] theorem State.setCell_semas (s : State) (r c : Nat) (v : Cell) : (s.setCell r c v).semas = s.semas := rfl
@[simp] theorem State.setCell_eng (s : State) (r c : Nat) (v : Cell) : (s.setCell r c v).eng = s.eng := rfl
@[simp] theorem State.setCell_trust (s : State) (r c : Nat) (v : Cell) : (s.setCell r c v).trust = s.trust := rfl
@[simp] theorem State.setCell_quads (s : State) (r c : Nat) (v : Cell) : (s.setCell r c v).quads = s.quads := rfl
@[simp] theorem State.setCell_lanes (s : State) (r c : Nat) (v : Cell) : (s.setCell r c v).lanes = s.lanes := rfl
@[simp] theorem State.setCell_jtag (s : State) (r c : Nat) (v : Cell) : (s.setCell r c v).jtag = s.jtag := rfl
@[simp] theorem State.setCell_boot (s : State) (r c : Nat) (v : Cell) : (s.setCell r c v).boot = s.boot := rfl
@[simp] theorem State.setCell_pcie (s : State) (r c : Nat) (v : Cell) : (s.setCell r c v).pcie = s.pcie := rfl
@[simp] theorem State.setCell_chans (s : State) (r c : Nat) (v : Cell) : (s.setCell r c v).chans = s.chans := rfl

@[simp] theorem State.setFbp_pending (s : State) (n : Nat) (v : Fbp) : (s.setFbp n v).pending = s.pending := rfl
@[simp] theorem State.setFbp_now (s : State) (n : Nat) (v : Fbp) : (s.setFbp n v).now = s.now := rfl
@[simp] theorem State.setFbp_free (s : State) (n : Nat) (v : Fbp) : (s.setFbp n v).free = s.free := rfl
@[simp] theorem State.setFbp_resp (s : State) (n : Nat) (v : Fbp) : (s.setFbp n v).resp = s.resp := rfl
@[simp] theorem State.setFbp_regs (s : State) (n : Nat) (v : Fbp) : (s.setFbp n v).regs = s.regs := rfl
@[simp] theorem State.setFbp_caps (s : State) (n : Nat) (v : Fbp) : (s.setFbp n v).caps = s.caps := rfl
@[simp] theorem State.setFbp_ev (s : State) (n : Nat) (v : Fbp) : (s.setFbp n v).ev = s.ev := rfl
@[simp] theorem State.setFbp_log (s : State) (n : Nat) (v : Fbp) : (s.setFbp n v).log = s.log := rfl
@[simp] theorem State.setFbp_bolts (s : State) (n : Nat) (v : Fbp) : (s.setFbp n v).bolts = s.bolts := rfl
@[simp] theorem State.setFbp_pick (s : State) (n : Nat) (v : Fbp) : (s.setFbp n v).pick = s.pick := rfl
@[simp] theorem State.setFbp_pwr (s : State) (n : Nat) (v : Fbp) : (s.setFbp n v).pwr = s.pwr := rfl
@[simp] theorem State.setFbp_cells (s : State) (n : Nat) (v : Fbp) : (s.setFbp n v).cells = s.cells := rfl
@[simp] theorem State.setFbp_joins (s : State) (n : Nat) (v : Fbp) : (s.setFbp n v).joins = s.joins := rfl
@[simp] theorem State.setFbp_cfgMem (s : State) (n : Nat) (v : Fbp) : (s.setFbp n v).cfgMem = s.cfgMem := rfl
@[simp] theorem State.setFbp_glitch (s : State) (n : Nat) (v : Fbp) : (s.setFbp n v).glitch = s.glitch := rfl
@[simp] theorem State.setFbp_seamHeld (s : State) (n : Nat) (v : Fbp) : (s.setFbp n v).seamHeld = s.seamHeld := rfl
@[simp] theorem State.setFbp_taps (s : State) (n : Nat) (v : Fbp) : (s.setFbp n v).taps = s.taps := rfl
@[simp] theorem State.setFbp_portIn (s : State) (n : Nat) (v : Fbp) : (s.setFbp n v).portIn = s.portIn := rfl
@[simp] theorem State.setFbp_held (s : State) (n : Nat) (v : Fbp) : (s.setFbp n v).held = s.held := rfl
@[simp] theorem State.setFbp_creels (s : State) (n : Nat) (v : Fbp) : (s.setFbp n v).creels = s.creels := rfl
@[simp] theorem State.setFbp_arrays (s : State) (n : Nat) (v : Fbp) : (s.setFbp n v).arrays = s.arrays := rfl
@[simp] theorem State.setFbp_twills (s : State) (n : Nat) (v : Fbp) : (s.setFbp n v).twills = s.twills := rfl
@[simp] theorem State.setFbp_bridges (s : State) (n : Nat) (v : Fbp) : (s.setFbp n v).bridges = s.bridges := rfl
@[simp] theorem State.setFbp_paces (s : State) (n : Nat) (v : Fbp) : (s.setFbp n v).paces = s.paces := rfl
@[simp] theorem State.setFbp_issued (s : State) (n : Nat) (v : Fbp) : (s.setFbp n v).issued = s.issued := rfl
@[simp] theorem State.setFbp_slotWait (s : State) (n : Nat) (v : Fbp) : (s.setFbp n v).slotWait = s.slotWait := rfl
@[simp] theorem State.setFbp_fbps (s : State) (n : Nat) (v : Fbp) : (s.setFbp n v).fbps = SMap.set {} s.fbps n v := rfl
@[simp] theorem State.setFbp_pins (s : State) (n : Nat) (v : Fbp) : (s.setFbp n v).pins = s.pins := rfl
@[simp] theorem State.setFbp_portSample (s : State) (n : Nat) (v : Fbp) : (s.setFbp n v).portSample = s.portSample := rfl
@[simp] theorem State.setFbp_pickedIn (s : State) (n : Nat) (v : Fbp) : (s.setFbp n v).pickedIn = s.pickedIn := rfl
@[simp] theorem State.setFbp_pinsCfg (s : State) (n : Nat) (v : Fbp) : (s.setFbp n v).pinsCfg = s.pinsCfg := rfl
@[simp] theorem State.setFbp_pinsAsleep (s : State) (n : Nat) (v : Fbp) : (s.setFbp n v).pinsAsleep = s.pinsAsleep := rfl
@[simp] theorem State.setFbp_bankOk (s : State) (n : Nat) (v : Fbp) : (s.setFbp n v).bankOk = s.bankOk := rfl
@[simp] theorem State.setFbp_patterns (s : State) (n : Nat) (v : Fbp) : (s.setFbp n v).patterns = s.patterns := rfl
@[simp] theorem State.setFbp_periphs (s : State) (n : Nat) (v : Fbp) : (s.setFbp n v).periphs = s.periphs := rfl
@[simp] theorem State.setFbp_shuttles (s : State) (n : Nat) (v : Fbp) : (s.setFbp n v).shuttles = s.shuttles := rfl
@[simp] theorem State.setFbp_semas (s : State) (n : Nat) (v : Fbp) : (s.setFbp n v).semas = s.semas := rfl
@[simp] theorem State.setFbp_eng (s : State) (n : Nat) (v : Fbp) : (s.setFbp n v).eng = s.eng := rfl
@[simp] theorem State.setFbp_trust (s : State) (n : Nat) (v : Fbp) : (s.setFbp n v).trust = s.trust := rfl
@[simp] theorem State.setFbp_quads (s : State) (n : Nat) (v : Fbp) : (s.setFbp n v).quads = s.quads := rfl
@[simp] theorem State.setFbp_lanes (s : State) (n : Nat) (v : Fbp) : (s.setFbp n v).lanes = s.lanes := rfl
@[simp] theorem State.setFbp_jtag (s : State) (n : Nat) (v : Fbp) : (s.setFbp n v).jtag = s.jtag := rfl
@[simp] theorem State.setFbp_boot (s : State) (n : Nat) (v : Fbp) : (s.setFbp n v).boot = s.boot := rfl
@[simp] theorem State.setFbp_pcie (s : State) (n : Nat) (v : Fbp) : (s.setFbp n v).pcie = s.pcie := rfl
@[simp] theorem State.setFbp_chans (s : State) (n : Nat) (v : Fbp) : (s.setFbp n v).chans = s.chans := rfl

@[simp] theorem State.withPwr_pending (s : State) (p : Power) : (s.withPwr p).pending = s.pending := rfl
@[simp] theorem State.withPwr_now (s : State) (p : Power) : (s.withPwr p).now = s.now := rfl
@[simp] theorem State.withPwr_free (s : State) (p : Power) : (s.withPwr p).free = s.free := rfl
@[simp] theorem State.withPwr_resp (s : State) (p : Power) : (s.withPwr p).resp = s.resp := rfl
@[simp] theorem State.withPwr_regs (s : State) (p : Power) : (s.withPwr p).regs = s.regs := rfl
@[simp] theorem State.withPwr_caps (s : State) (p : Power) : (s.withPwr p).caps = s.caps := rfl
@[simp] theorem State.withPwr_ev (s : State) (p : Power) : (s.withPwr p).ev = s.ev := rfl
@[simp] theorem State.withPwr_log (s : State) (p : Power) : (s.withPwr p).log = s.log := rfl
@[simp] theorem State.withPwr_bolts (s : State) (p : Power) : (s.withPwr p).bolts = s.bolts := rfl
@[simp] theorem State.withPwr_pick (s : State) (p : Power) : (s.withPwr p).pick = s.pick := rfl
@[simp] theorem State.withPwr_pwr (s : State) (p : Power) : (s.withPwr p).pwr = p := rfl
@[simp] theorem State.withPwr_cells (s : State) (p : Power) : (s.withPwr p).cells = s.cells := rfl
@[simp] theorem State.withPwr_joins (s : State) (p : Power) : (s.withPwr p).joins = s.joins := rfl
@[simp] theorem State.withPwr_cfgMem (s : State) (p : Power) : (s.withPwr p).cfgMem = s.cfgMem := rfl
@[simp] theorem State.withPwr_glitch (s : State) (p : Power) : (s.withPwr p).glitch = s.glitch := rfl
@[simp] theorem State.withPwr_seamHeld (s : State) (p : Power) : (s.withPwr p).seamHeld = s.seamHeld := rfl
@[simp] theorem State.withPwr_taps (s : State) (p : Power) : (s.withPwr p).taps = s.taps := rfl
@[simp] theorem State.withPwr_portIn (s : State) (p : Power) : (s.withPwr p).portIn = s.portIn := rfl
@[simp] theorem State.withPwr_held (s : State) (p : Power) : (s.withPwr p).held = s.held := rfl
@[simp] theorem State.withPwr_creels (s : State) (p : Power) : (s.withPwr p).creels = s.creels := rfl
@[simp] theorem State.withPwr_arrays (s : State) (p : Power) : (s.withPwr p).arrays = s.arrays := rfl
@[simp] theorem State.withPwr_twills (s : State) (p : Power) : (s.withPwr p).twills = s.twills := rfl
@[simp] theorem State.withPwr_bridges (s : State) (p : Power) : (s.withPwr p).bridges = s.bridges := rfl
@[simp] theorem State.withPwr_paces (s : State) (p : Power) : (s.withPwr p).paces = s.paces := rfl
@[simp] theorem State.withPwr_issued (s : State) (p : Power) : (s.withPwr p).issued = s.issued := rfl
@[simp] theorem State.withPwr_slotWait (s : State) (p : Power) : (s.withPwr p).slotWait = s.slotWait := rfl
@[simp] theorem State.withPwr_fbps (s : State) (p : Power) : (s.withPwr p).fbps = s.fbps := rfl
@[simp] theorem State.withPwr_pins (s : State) (p : Power) : (s.withPwr p).pins = s.pins := rfl
@[simp] theorem State.withPwr_portSample (s : State) (p : Power) : (s.withPwr p).portSample = s.portSample := rfl
@[simp] theorem State.withPwr_pickedIn (s : State) (p : Power) : (s.withPwr p).pickedIn = s.pickedIn := rfl
@[simp] theorem State.withPwr_pinsCfg (s : State) (p : Power) : (s.withPwr p).pinsCfg = s.pinsCfg := rfl
@[simp] theorem State.withPwr_pinsAsleep (s : State) (p : Power) : (s.withPwr p).pinsAsleep = s.pinsAsleep := rfl
@[simp] theorem State.withPwr_bankOk (s : State) (p : Power) : (s.withPwr p).bankOk = s.bankOk := rfl
@[simp] theorem State.withPwr_patterns (s : State) (p : Power) : (s.withPwr p).patterns = s.patterns := rfl
@[simp] theorem State.withPwr_periphs (s : State) (p : Power) : (s.withPwr p).periphs = s.periphs := rfl
@[simp] theorem State.withPwr_shuttles (s : State) (p : Power) : (s.withPwr p).shuttles = s.shuttles := rfl
@[simp] theorem State.withPwr_semas (s : State) (p : Power) : (s.withPwr p).semas = s.semas := rfl
@[simp] theorem State.withPwr_eng (s : State) (p : Power) : (s.withPwr p).eng = s.eng := rfl
@[simp] theorem State.withPwr_trust (s : State) (p : Power) : (s.withPwr p).trust = s.trust := rfl
@[simp] theorem State.withPwr_quads (s : State) (p : Power) : (s.withPwr p).quads = s.quads := rfl
@[simp] theorem State.withPwr_lanes (s : State) (p : Power) : (s.withPwr p).lanes = s.lanes := rfl
@[simp] theorem State.withPwr_jtag (s : State) (p : Power) : (s.withPwr p).jtag = s.jtag := rfl
@[simp] theorem State.withPwr_boot (s : State) (p : Power) : (s.withPwr p).boot = s.boot := rfl
@[simp] theorem State.withPwr_pcie (s : State) (p : Power) : (s.withPwr p).pcie = s.pcie := rfl
@[simp] theorem State.withPwr_chans (s : State) (p : Power) : (s.withPwr p).chans = s.chans := rfl

@[simp] theorem State.withBoot_pending (s : State) (b : Boot) : (s.withBoot b).pending = s.pending := rfl
@[simp] theorem State.withBoot_now (s : State) (b : Boot) : (s.withBoot b).now = s.now := rfl
@[simp] theorem State.withBoot_free (s : State) (b : Boot) : (s.withBoot b).free = s.free := rfl
@[simp] theorem State.withBoot_resp (s : State) (b : Boot) : (s.withBoot b).resp = s.resp := rfl
@[simp] theorem State.withBoot_regs (s : State) (b : Boot) : (s.withBoot b).regs = s.regs := rfl
@[simp] theorem State.withBoot_caps (s : State) (b : Boot) : (s.withBoot b).caps = s.caps := rfl
@[simp] theorem State.withBoot_ev (s : State) (b : Boot) : (s.withBoot b).ev = s.ev := rfl
@[simp] theorem State.withBoot_log (s : State) (b : Boot) : (s.withBoot b).log = s.log := rfl
@[simp] theorem State.withBoot_bolts (s : State) (b : Boot) : (s.withBoot b).bolts = s.bolts := rfl
@[simp] theorem State.withBoot_pick (s : State) (b : Boot) : (s.withBoot b).pick = s.pick := rfl
@[simp] theorem State.withBoot_pwr (s : State) (b : Boot) : (s.withBoot b).pwr = s.pwr := rfl
@[simp] theorem State.withBoot_cells (s : State) (b : Boot) : (s.withBoot b).cells = s.cells := rfl
@[simp] theorem State.withBoot_joins (s : State) (b : Boot) : (s.withBoot b).joins = s.joins := rfl
@[simp] theorem State.withBoot_cfgMem (s : State) (b : Boot) : (s.withBoot b).cfgMem = s.cfgMem := rfl
@[simp] theorem State.withBoot_glitch (s : State) (b : Boot) : (s.withBoot b).glitch = s.glitch := rfl
@[simp] theorem State.withBoot_seamHeld (s : State) (b : Boot) : (s.withBoot b).seamHeld = s.seamHeld := rfl
@[simp] theorem State.withBoot_taps (s : State) (b : Boot) : (s.withBoot b).taps = s.taps := rfl
@[simp] theorem State.withBoot_portIn (s : State) (b : Boot) : (s.withBoot b).portIn = s.portIn := rfl
@[simp] theorem State.withBoot_held (s : State) (b : Boot) : (s.withBoot b).held = s.held := rfl
@[simp] theorem State.withBoot_creels (s : State) (b : Boot) : (s.withBoot b).creels = s.creels := rfl
@[simp] theorem State.withBoot_arrays (s : State) (b : Boot) : (s.withBoot b).arrays = s.arrays := rfl
@[simp] theorem State.withBoot_twills (s : State) (b : Boot) : (s.withBoot b).twills = s.twills := rfl
@[simp] theorem State.withBoot_bridges (s : State) (b : Boot) : (s.withBoot b).bridges = s.bridges := rfl
@[simp] theorem State.withBoot_paces (s : State) (b : Boot) : (s.withBoot b).paces = s.paces := rfl
@[simp] theorem State.withBoot_issued (s : State) (b : Boot) : (s.withBoot b).issued = s.issued := rfl
@[simp] theorem State.withBoot_slotWait (s : State) (b : Boot) : (s.withBoot b).slotWait = s.slotWait := rfl
@[simp] theorem State.withBoot_fbps (s : State) (b : Boot) : (s.withBoot b).fbps = s.fbps := rfl
@[simp] theorem State.withBoot_pins (s : State) (b : Boot) : (s.withBoot b).pins = s.pins := rfl
@[simp] theorem State.withBoot_portSample (s : State) (b : Boot) : (s.withBoot b).portSample = s.portSample := rfl
@[simp] theorem State.withBoot_pickedIn (s : State) (b : Boot) : (s.withBoot b).pickedIn = s.pickedIn := rfl
@[simp] theorem State.withBoot_pinsCfg (s : State) (b : Boot) : (s.withBoot b).pinsCfg = s.pinsCfg := rfl
@[simp] theorem State.withBoot_pinsAsleep (s : State) (b : Boot) : (s.withBoot b).pinsAsleep = s.pinsAsleep := rfl
@[simp] theorem State.withBoot_bankOk (s : State) (b : Boot) : (s.withBoot b).bankOk = s.bankOk := rfl
@[simp] theorem State.withBoot_patterns (s : State) (b : Boot) : (s.withBoot b).patterns = s.patterns := rfl
@[simp] theorem State.withBoot_periphs (s : State) (b : Boot) : (s.withBoot b).periphs = s.periphs := rfl
@[simp] theorem State.withBoot_shuttles (s : State) (b : Boot) : (s.withBoot b).shuttles = s.shuttles := rfl
@[simp] theorem State.withBoot_semas (s : State) (b : Boot) : (s.withBoot b).semas = s.semas := rfl
@[simp] theorem State.withBoot_eng (s : State) (b : Boot) : (s.withBoot b).eng = s.eng := rfl
@[simp] theorem State.withBoot_trust (s : State) (b : Boot) : (s.withBoot b).trust = s.trust := rfl
@[simp] theorem State.withBoot_quads (s : State) (b : Boot) : (s.withBoot b).quads = s.quads := rfl
@[simp] theorem State.withBoot_lanes (s : State) (b : Boot) : (s.withBoot b).lanes = s.lanes := rfl
@[simp] theorem State.withBoot_jtag (s : State) (b : Boot) : (s.withBoot b).jtag = s.jtag := rfl
@[simp] theorem State.withBoot_boot (s : State) (b : Boot) : (s.withBoot b).boot = b := rfl
@[simp] theorem State.withBoot_pcie (s : State) (b : Boot) : (s.withBoot b).pcie = s.pcie := rfl
@[simp] theorem State.withBoot_chans (s : State) (b : Boot) : (s.withBoot b).chans = s.chans := rfl

@[simp] theorem State.setQuad_pending (s : State) (q : Nat) (v : Quad) : (s.setQuad q v).pending = s.pending := rfl
@[simp] theorem State.setQuad_now (s : State) (q : Nat) (v : Quad) : (s.setQuad q v).now = s.now := rfl
@[simp] theorem State.setQuad_free (s : State) (q : Nat) (v : Quad) : (s.setQuad q v).free = s.free := rfl
@[simp] theorem State.setQuad_resp (s : State) (q : Nat) (v : Quad) : (s.setQuad q v).resp = s.resp := rfl
@[simp] theorem State.setQuad_regs (s : State) (q : Nat) (v : Quad) : (s.setQuad q v).regs = s.regs := rfl
@[simp] theorem State.setQuad_caps (s : State) (q : Nat) (v : Quad) : (s.setQuad q v).caps = s.caps := rfl
@[simp] theorem State.setQuad_ev (s : State) (q : Nat) (v : Quad) : (s.setQuad q v).ev = s.ev := rfl
@[simp] theorem State.setQuad_log (s : State) (q : Nat) (v : Quad) : (s.setQuad q v).log = s.log := rfl
@[simp] theorem State.setQuad_bolts (s : State) (q : Nat) (v : Quad) : (s.setQuad q v).bolts = s.bolts := rfl
@[simp] theorem State.setQuad_pick (s : State) (q : Nat) (v : Quad) : (s.setQuad q v).pick = s.pick := rfl
@[simp] theorem State.setQuad_pwr (s : State) (q : Nat) (v : Quad) : (s.setQuad q v).pwr = s.pwr := rfl
@[simp] theorem State.setQuad_cells (s : State) (q : Nat) (v : Quad) : (s.setQuad q v).cells = s.cells := rfl
@[simp] theorem State.setQuad_joins (s : State) (q : Nat) (v : Quad) : (s.setQuad q v).joins = s.joins := rfl
@[simp] theorem State.setQuad_cfgMem (s : State) (q : Nat) (v : Quad) : (s.setQuad q v).cfgMem = s.cfgMem := rfl
@[simp] theorem State.setQuad_glitch (s : State) (q : Nat) (v : Quad) : (s.setQuad q v).glitch = s.glitch := rfl
@[simp] theorem State.setQuad_seamHeld (s : State) (q : Nat) (v : Quad) : (s.setQuad q v).seamHeld = s.seamHeld := rfl
@[simp] theorem State.setQuad_taps (s : State) (q : Nat) (v : Quad) : (s.setQuad q v).taps = s.taps := rfl
@[simp] theorem State.setQuad_portIn (s : State) (q : Nat) (v : Quad) : (s.setQuad q v).portIn = s.portIn := rfl
@[simp] theorem State.setQuad_held (s : State) (q : Nat) (v : Quad) : (s.setQuad q v).held = s.held := rfl
@[simp] theorem State.setQuad_creels (s : State) (q : Nat) (v : Quad) : (s.setQuad q v).creels = s.creels := rfl
@[simp] theorem State.setQuad_arrays (s : State) (q : Nat) (v : Quad) : (s.setQuad q v).arrays = s.arrays := rfl
@[simp] theorem State.setQuad_twills (s : State) (q : Nat) (v : Quad) : (s.setQuad q v).twills = s.twills := rfl
@[simp] theorem State.setQuad_bridges (s : State) (q : Nat) (v : Quad) : (s.setQuad q v).bridges = s.bridges := rfl
@[simp] theorem State.setQuad_paces (s : State) (q : Nat) (v : Quad) : (s.setQuad q v).paces = s.paces := rfl
@[simp] theorem State.setQuad_issued (s : State) (q : Nat) (v : Quad) : (s.setQuad q v).issued = s.issued := rfl
@[simp] theorem State.setQuad_slotWait (s : State) (q : Nat) (v : Quad) : (s.setQuad q v).slotWait = s.slotWait := rfl
@[simp] theorem State.setQuad_fbps (s : State) (q : Nat) (v : Quad) : (s.setQuad q v).fbps = s.fbps := rfl
@[simp] theorem State.setQuad_pins (s : State) (q : Nat) (v : Quad) : (s.setQuad q v).pins = s.pins := rfl
@[simp] theorem State.setQuad_portSample (s : State) (q : Nat) (v : Quad) : (s.setQuad q v).portSample = s.portSample := rfl
@[simp] theorem State.setQuad_pickedIn (s : State) (q : Nat) (v : Quad) : (s.setQuad q v).pickedIn = s.pickedIn := rfl
@[simp] theorem State.setQuad_pinsCfg (s : State) (q : Nat) (v : Quad) : (s.setQuad q v).pinsCfg = s.pinsCfg := rfl
@[simp] theorem State.setQuad_pinsAsleep (s : State) (q : Nat) (v : Quad) : (s.setQuad q v).pinsAsleep = s.pinsAsleep := rfl
@[simp] theorem State.setQuad_bankOk (s : State) (q : Nat) (v : Quad) : (s.setQuad q v).bankOk = s.bankOk := rfl
@[simp] theorem State.setQuad_patterns (s : State) (q : Nat) (v : Quad) : (s.setQuad q v).patterns = s.patterns := rfl
@[simp] theorem State.setQuad_periphs (s : State) (q : Nat) (v : Quad) : (s.setQuad q v).periphs = s.periphs := rfl
@[simp] theorem State.setQuad_shuttles (s : State) (q : Nat) (v : Quad) : (s.setQuad q v).shuttles = s.shuttles := rfl
@[simp] theorem State.setQuad_semas (s : State) (q : Nat) (v : Quad) : (s.setQuad q v).semas = s.semas := rfl
@[simp] theorem State.setQuad_eng (s : State) (q : Nat) (v : Quad) : (s.setQuad q v).eng = s.eng := rfl
@[simp] theorem State.setQuad_trust (s : State) (q : Nat) (v : Quad) : (s.setQuad q v).trust = s.trust := rfl
@[simp] theorem State.setQuad_quads (s : State) (q : Nat) (v : Quad) : (s.setQuad q v).quads = SMap.set {} s.quads q v := rfl
@[simp] theorem State.setQuad_lanes (s : State) (q : Nat) (v : Quad) : (s.setQuad q v).lanes = s.lanes := rfl
@[simp] theorem State.setQuad_jtag (s : State) (q : Nat) (v : Quad) : (s.setQuad q v).jtag = s.jtag := rfl
@[simp] theorem State.setQuad_boot (s : State) (q : Nat) (v : Quad) : (s.setQuad q v).boot = s.boot := rfl
@[simp] theorem State.setQuad_pcie (s : State) (q : Nat) (v : Quad) : (s.setQuad q v).pcie = s.pcie := rfl
@[simp] theorem State.setQuad_chans (s : State) (q : Nat) (v : Quad) : (s.setQuad q v).chans = s.chans := rfl

@[simp] theorem State.setLane_pending (s : State) (q i : Nat) (v : Lane) : (s.setLane q i v).pending = s.pending := rfl
@[simp] theorem State.setLane_now (s : State) (q i : Nat) (v : Lane) : (s.setLane q i v).now = s.now := rfl
@[simp] theorem State.setLane_free (s : State) (q i : Nat) (v : Lane) : (s.setLane q i v).free = s.free := rfl
@[simp] theorem State.setLane_resp (s : State) (q i : Nat) (v : Lane) : (s.setLane q i v).resp = s.resp := rfl
@[simp] theorem State.setLane_regs (s : State) (q i : Nat) (v : Lane) : (s.setLane q i v).regs = s.regs := rfl
@[simp] theorem State.setLane_caps (s : State) (q i : Nat) (v : Lane) : (s.setLane q i v).caps = s.caps := rfl
@[simp] theorem State.setLane_ev (s : State) (q i : Nat) (v : Lane) : (s.setLane q i v).ev = s.ev := rfl
@[simp] theorem State.setLane_log (s : State) (q i : Nat) (v : Lane) : (s.setLane q i v).log = s.log := rfl
@[simp] theorem State.setLane_bolts (s : State) (q i : Nat) (v : Lane) : (s.setLane q i v).bolts = s.bolts := rfl
@[simp] theorem State.setLane_pick (s : State) (q i : Nat) (v : Lane) : (s.setLane q i v).pick = s.pick := rfl
@[simp] theorem State.setLane_pwr (s : State) (q i : Nat) (v : Lane) : (s.setLane q i v).pwr = s.pwr := rfl
@[simp] theorem State.setLane_cells (s : State) (q i : Nat) (v : Lane) : (s.setLane q i v).cells = s.cells := rfl
@[simp] theorem State.setLane_joins (s : State) (q i : Nat) (v : Lane) : (s.setLane q i v).joins = s.joins := rfl
@[simp] theorem State.setLane_cfgMem (s : State) (q i : Nat) (v : Lane) : (s.setLane q i v).cfgMem = s.cfgMem := rfl
@[simp] theorem State.setLane_glitch (s : State) (q i : Nat) (v : Lane) : (s.setLane q i v).glitch = s.glitch := rfl
@[simp] theorem State.setLane_seamHeld (s : State) (q i : Nat) (v : Lane) : (s.setLane q i v).seamHeld = s.seamHeld := rfl
@[simp] theorem State.setLane_taps (s : State) (q i : Nat) (v : Lane) : (s.setLane q i v).taps = s.taps := rfl
@[simp] theorem State.setLane_portIn (s : State) (q i : Nat) (v : Lane) : (s.setLane q i v).portIn = s.portIn := rfl
@[simp] theorem State.setLane_held (s : State) (q i : Nat) (v : Lane) : (s.setLane q i v).held = s.held := rfl
@[simp] theorem State.setLane_creels (s : State) (q i : Nat) (v : Lane) : (s.setLane q i v).creels = s.creels := rfl
@[simp] theorem State.setLane_arrays (s : State) (q i : Nat) (v : Lane) : (s.setLane q i v).arrays = s.arrays := rfl
@[simp] theorem State.setLane_twills (s : State) (q i : Nat) (v : Lane) : (s.setLane q i v).twills = s.twills := rfl
@[simp] theorem State.setLane_bridges (s : State) (q i : Nat) (v : Lane) : (s.setLane q i v).bridges = s.bridges := rfl
@[simp] theorem State.setLane_paces (s : State) (q i : Nat) (v : Lane) : (s.setLane q i v).paces = s.paces := rfl
@[simp] theorem State.setLane_issued (s : State) (q i : Nat) (v : Lane) : (s.setLane q i v).issued = s.issued := rfl
@[simp] theorem State.setLane_slotWait (s : State) (q i : Nat) (v : Lane) : (s.setLane q i v).slotWait = s.slotWait := rfl
@[simp] theorem State.setLane_fbps (s : State) (q i : Nat) (v : Lane) : (s.setLane q i v).fbps = s.fbps := rfl
@[simp] theorem State.setLane_pins (s : State) (q i : Nat) (v : Lane) : (s.setLane q i v).pins = s.pins := rfl
@[simp] theorem State.setLane_portSample (s : State) (q i : Nat) (v : Lane) : (s.setLane q i v).portSample = s.portSample := rfl
@[simp] theorem State.setLane_pickedIn (s : State) (q i : Nat) (v : Lane) : (s.setLane q i v).pickedIn = s.pickedIn := rfl
@[simp] theorem State.setLane_pinsCfg (s : State) (q i : Nat) (v : Lane) : (s.setLane q i v).pinsCfg = s.pinsCfg := rfl
@[simp] theorem State.setLane_pinsAsleep (s : State) (q i : Nat) (v : Lane) : (s.setLane q i v).pinsAsleep = s.pinsAsleep := rfl
@[simp] theorem State.setLane_bankOk (s : State) (q i : Nat) (v : Lane) : (s.setLane q i v).bankOk = s.bankOk := rfl
@[simp] theorem State.setLane_patterns (s : State) (q i : Nat) (v : Lane) : (s.setLane q i v).patterns = s.patterns := rfl
@[simp] theorem State.setLane_periphs (s : State) (q i : Nat) (v : Lane) : (s.setLane q i v).periphs = s.periphs := rfl
@[simp] theorem State.setLane_shuttles (s : State) (q i : Nat) (v : Lane) : (s.setLane q i v).shuttles = s.shuttles := rfl
@[simp] theorem State.setLane_semas (s : State) (q i : Nat) (v : Lane) : (s.setLane q i v).semas = s.semas := rfl
@[simp] theorem State.setLane_eng (s : State) (q i : Nat) (v : Lane) : (s.setLane q i v).eng = s.eng := rfl
@[simp] theorem State.setLane_trust (s : State) (q i : Nat) (v : Lane) : (s.setLane q i v).trust = s.trust := rfl
@[simp] theorem State.setLane_quads (s : State) (q i : Nat) (v : Lane) : (s.setLane q i v).quads = s.quads := rfl
@[simp] theorem State.setLane_lanes (s : State) (q i : Nat) (v : Lane) : (s.setLane q i v).lanes = SMap.set {} s.lanes (4 * q + i) v := rfl
@[simp] theorem State.setLane_jtag (s : State) (q i : Nat) (v : Lane) : (s.setLane q i v).jtag = s.jtag := rfl
@[simp] theorem State.setLane_boot (s : State) (q i : Nat) (v : Lane) : (s.setLane q i v).boot = s.boot := rfl
@[simp] theorem State.setLane_pcie (s : State) (q i : Nat) (v : Lane) : (s.setLane q i v).pcie = s.pcie := rfl
@[simp] theorem State.setLane_chans (s : State) (q i : Nat) (v : Lane) : (s.setLane q i v).chans = s.chans := rfl

@[simp] theorem State.setSh_pending (st : State) (c s : Nat) (v : ShDir) : (st.setSh c s v).pending = st.pending := rfl
@[simp] theorem State.setSh_now (st : State) (c s : Nat) (v : ShDir) : (st.setSh c s v).now = st.now := rfl
@[simp] theorem State.setSh_free (st : State) (c s : Nat) (v : ShDir) : (st.setSh c s v).free = st.free := rfl
@[simp] theorem State.setSh_resp (st : State) (c s : Nat) (v : ShDir) : (st.setSh c s v).resp = st.resp := rfl
@[simp] theorem State.setSh_regs (st : State) (c s : Nat) (v : ShDir) : (st.setSh c s v).regs = st.regs := rfl
@[simp] theorem State.setSh_caps (st : State) (c s : Nat) (v : ShDir) : (st.setSh c s v).caps = st.caps := rfl
@[simp] theorem State.setSh_ev (st : State) (c s : Nat) (v : ShDir) : (st.setSh c s v).ev = st.ev := rfl
@[simp] theorem State.setSh_log (st : State) (c s : Nat) (v : ShDir) : (st.setSh c s v).log = st.log := rfl
@[simp] theorem State.setSh_bolts (st : State) (c s : Nat) (v : ShDir) : (st.setSh c s v).bolts = st.bolts := rfl
@[simp] theorem State.setSh_pick (st : State) (c s : Nat) (v : ShDir) : (st.setSh c s v).pick = st.pick := rfl
@[simp] theorem State.setSh_pwr (st : State) (c s : Nat) (v : ShDir) : (st.setSh c s v).pwr = st.pwr := rfl
@[simp] theorem State.setSh_cells (st : State) (c s : Nat) (v : ShDir) : (st.setSh c s v).cells = st.cells := rfl
@[simp] theorem State.setSh_joins (st : State) (c s : Nat) (v : ShDir) : (st.setSh c s v).joins = st.joins := rfl
@[simp] theorem State.setSh_cfgMem (st : State) (c s : Nat) (v : ShDir) : (st.setSh c s v).cfgMem = st.cfgMem := rfl
@[simp] theorem State.setSh_glitch (st : State) (c s : Nat) (v : ShDir) : (st.setSh c s v).glitch = st.glitch := rfl
@[simp] theorem State.setSh_seamHeld (st : State) (c s : Nat) (v : ShDir) : (st.setSh c s v).seamHeld = st.seamHeld := rfl
@[simp] theorem State.setSh_taps (st : State) (c s : Nat) (v : ShDir) : (st.setSh c s v).taps = st.taps := rfl
@[simp] theorem State.setSh_portIn (st : State) (c s : Nat) (v : ShDir) : (st.setSh c s v).portIn = st.portIn := rfl
@[simp] theorem State.setSh_held (st : State) (c s : Nat) (v : ShDir) : (st.setSh c s v).held = st.held := rfl
@[simp] theorem State.setSh_creels (st : State) (c s : Nat) (v : ShDir) : (st.setSh c s v).creels = st.creels := rfl
@[simp] theorem State.setSh_arrays (st : State) (c s : Nat) (v : ShDir) : (st.setSh c s v).arrays = st.arrays := rfl
@[simp] theorem State.setSh_twills (st : State) (c s : Nat) (v : ShDir) : (st.setSh c s v).twills = st.twills := rfl
@[simp] theorem State.setSh_bridges (st : State) (c s : Nat) (v : ShDir) : (st.setSh c s v).bridges = st.bridges := rfl
@[simp] theorem State.setSh_paces (st : State) (c s : Nat) (v : ShDir) : (st.setSh c s v).paces = st.paces := rfl
@[simp] theorem State.setSh_issued (st : State) (c s : Nat) (v : ShDir) : (st.setSh c s v).issued = st.issued := rfl
@[simp] theorem State.setSh_slotWait (st : State) (c s : Nat) (v : ShDir) : (st.setSh c s v).slotWait = st.slotWait := rfl
@[simp] theorem State.setSh_fbps (st : State) (c s : Nat) (v : ShDir) : (st.setSh c s v).fbps = st.fbps := rfl
@[simp] theorem State.setSh_pins (st : State) (c s : Nat) (v : ShDir) : (st.setSh c s v).pins = st.pins := rfl
@[simp] theorem State.setSh_portSample (st : State) (c s : Nat) (v : ShDir) : (st.setSh c s v).portSample = st.portSample := rfl
@[simp] theorem State.setSh_pickedIn (st : State) (c s : Nat) (v : ShDir) : (st.setSh c s v).pickedIn = st.pickedIn := rfl
@[simp] theorem State.setSh_pinsCfg (st : State) (c s : Nat) (v : ShDir) : (st.setSh c s v).pinsCfg = st.pinsCfg := rfl
@[simp] theorem State.setSh_pinsAsleep (st : State) (c s : Nat) (v : ShDir) : (st.setSh c s v).pinsAsleep = st.pinsAsleep := rfl
@[simp] theorem State.setSh_bankOk (st : State) (c s : Nat) (v : ShDir) : (st.setSh c s v).bankOk = st.bankOk := rfl
@[simp] theorem State.setSh_patterns (st : State) (c s : Nat) (v : ShDir) : (st.setSh c s v).patterns = st.patterns := rfl
@[simp] theorem State.setSh_periphs (st : State) (c s : Nat) (v : ShDir) : (st.setSh c s v).periphs = st.periphs := rfl
@[simp] theorem State.setSh_shuttles (st : State) (c s : Nat) (v : ShDir) :
    (st.setSh c s v).shuttles = SMap.set {} st.shuttles (2 * c + s) v := rfl
@[simp] theorem State.setSh_semas (st : State) (c s : Nat) (v : ShDir) : (st.setSh c s v).semas = st.semas := rfl
@[simp] theorem State.setSh_eng (st : State) (c s : Nat) (v : ShDir) : (st.setSh c s v).eng = st.eng := rfl
@[simp] theorem State.setSh_trust (st : State) (c s : Nat) (v : ShDir) : (st.setSh c s v).trust = st.trust := rfl
@[simp] theorem State.setSh_quads (st : State) (c s : Nat) (v : ShDir) : (st.setSh c s v).quads = st.quads := rfl
@[simp] theorem State.setSh_lanes (st : State) (c s : Nat) (v : ShDir) : (st.setSh c s v).lanes = st.lanes := rfl
@[simp] theorem State.setSh_jtag (st : State) (c s : Nat) (v : ShDir) : (st.setSh c s v).jtag = st.jtag := rfl
@[simp] theorem State.setSh_boot (st : State) (c s : Nat) (v : ShDir) : (st.setSh c s v).boot = st.boot := rfl
@[simp] theorem State.setSh_pcie (st : State) (c s : Nat) (v : ShDir) : (st.setSh c s v).pcie = st.pcie := rfl
@[simp] theorem State.setSh_chans (st : State) (c s : Nat) (v : ShDir) : (st.setSh c s v).chans = st.chans := rfl

@[simp] theorem State.setHolder_pending (st : State) (n : Nat) (h : Option Nat) : (st.setHolder n h).pending = st.pending := rfl
@[simp] theorem State.setHolder_now (st : State) (n : Nat) (h : Option Nat) : (st.setHolder n h).now = st.now := rfl
@[simp] theorem State.setHolder_free (st : State) (n : Nat) (h : Option Nat) : (st.setHolder n h).free = st.free := rfl
@[simp] theorem State.setHolder_resp (st : State) (n : Nat) (h : Option Nat) : (st.setHolder n h).resp = st.resp := rfl
@[simp] theorem State.setHolder_regs (st : State) (n : Nat) (h : Option Nat) : (st.setHolder n h).regs = st.regs := rfl
@[simp] theorem State.setHolder_caps (st : State) (n : Nat) (h : Option Nat) : (st.setHolder n h).caps = st.caps := rfl
@[simp] theorem State.setHolder_ev (st : State) (n : Nat) (h : Option Nat) : (st.setHolder n h).ev = st.ev := rfl
@[simp] theorem State.setHolder_log (st : State) (n : Nat) (h : Option Nat) : (st.setHolder n h).log = st.log := rfl
@[simp] theorem State.setHolder_bolts (st : State) (n : Nat) (h : Option Nat) : (st.setHolder n h).bolts = st.bolts := rfl
@[simp] theorem State.setHolder_pick (st : State) (n : Nat) (h : Option Nat) : (st.setHolder n h).pick = st.pick := rfl
@[simp] theorem State.setHolder_pwr (st : State) (n : Nat) (h : Option Nat) : (st.setHolder n h).pwr = st.pwr := rfl
@[simp] theorem State.setHolder_cells (st : State) (n : Nat) (h : Option Nat) : (st.setHolder n h).cells = st.cells := rfl
@[simp] theorem State.setHolder_joins (st : State) (n : Nat) (h : Option Nat) : (st.setHolder n h).joins = st.joins := rfl
@[simp] theorem State.setHolder_cfgMem (st : State) (n : Nat) (h : Option Nat) : (st.setHolder n h).cfgMem = st.cfgMem := rfl
@[simp] theorem State.setHolder_glitch (st : State) (n : Nat) (h : Option Nat) : (st.setHolder n h).glitch = st.glitch := rfl
@[simp] theorem State.setHolder_seamHeld (st : State) (n : Nat) (h : Option Nat) : (st.setHolder n h).seamHeld = st.seamHeld := rfl
@[simp] theorem State.setHolder_taps (st : State) (n : Nat) (h : Option Nat) : (st.setHolder n h).taps = st.taps := rfl
@[simp] theorem State.setHolder_portIn (st : State) (n : Nat) (h : Option Nat) : (st.setHolder n h).portIn = st.portIn := rfl
@[simp] theorem State.setHolder_held (st : State) (n : Nat) (h : Option Nat) : (st.setHolder n h).held = st.held := rfl
@[simp] theorem State.setHolder_creels (st : State) (n : Nat) (h : Option Nat) : (st.setHolder n h).creels = st.creels := rfl
@[simp] theorem State.setHolder_arrays (st : State) (n : Nat) (h : Option Nat) : (st.setHolder n h).arrays = st.arrays := rfl
@[simp] theorem State.setHolder_twills (st : State) (n : Nat) (h : Option Nat) : (st.setHolder n h).twills = st.twills := rfl
@[simp] theorem State.setHolder_bridges (st : State) (n : Nat) (h : Option Nat) : (st.setHolder n h).bridges = st.bridges := rfl
@[simp] theorem State.setHolder_paces (st : State) (n : Nat) (h : Option Nat) : (st.setHolder n h).paces = st.paces := rfl
@[simp] theorem State.setHolder_issued (st : State) (n : Nat) (h : Option Nat) : (st.setHolder n h).issued = st.issued := rfl
@[simp] theorem State.setHolder_slotWait (st : State) (n : Nat) (h : Option Nat) : (st.setHolder n h).slotWait = st.slotWait := rfl
@[simp] theorem State.setHolder_fbps (st : State) (n : Nat) (h : Option Nat) : (st.setHolder n h).fbps = st.fbps := rfl
@[simp] theorem State.setHolder_pins (st : State) (n : Nat) (h : Option Nat) : (st.setHolder n h).pins = st.pins := rfl
@[simp] theorem State.setHolder_portSample (st : State) (n : Nat) (h : Option Nat) : (st.setHolder n h).portSample = st.portSample := rfl
@[simp] theorem State.setHolder_pickedIn (st : State) (n : Nat) (h : Option Nat) : (st.setHolder n h).pickedIn = st.pickedIn := rfl
@[simp] theorem State.setHolder_pinsCfg (st : State) (n : Nat) (h : Option Nat) : (st.setHolder n h).pinsCfg = st.pinsCfg := rfl
@[simp] theorem State.setHolder_pinsAsleep (st : State) (n : Nat) (h : Option Nat) : (st.setHolder n h).pinsAsleep = st.pinsAsleep := rfl
@[simp] theorem State.setHolder_bankOk (st : State) (n : Nat) (h : Option Nat) : (st.setHolder n h).bankOk = st.bankOk := rfl
@[simp] theorem State.setHolder_patterns (st : State) (n : Nat) (h : Option Nat) : (st.setHolder n h).patterns = st.patterns := rfl
@[simp] theorem State.setHolder_periphs (st : State) (n : Nat) (h : Option Nat) : (st.setHolder n h).periphs = st.periphs := rfl
@[simp] theorem State.setHolder_shuttles (st : State) (n : Nat) (h : Option Nat) : (st.setHolder n h).shuttles = st.shuttles := rfl
@[simp] theorem State.setHolder_semas (st : State) (n : Nat) (h : Option Nat) : (st.setHolder n h).semas = SMap.set none st.semas n h := rfl
@[simp] theorem State.setHolder_eng (st : State) (n : Nat) (h : Option Nat) : (st.setHolder n h).eng = st.eng := rfl
@[simp] theorem State.setHolder_trust (st : State) (n : Nat) (h : Option Nat) : (st.setHolder n h).trust = st.trust := rfl
@[simp] theorem State.setHolder_quads (st : State) (n : Nat) (h : Option Nat) : (st.setHolder n h).quads = st.quads := rfl
@[simp] theorem State.setHolder_lanes (st : State) (n : Nat) (h : Option Nat) : (st.setHolder n h).lanes = st.lanes := rfl
@[simp] theorem State.setHolder_jtag (st : State) (n : Nat) (h : Option Nat) : (st.setHolder n h).jtag = st.jtag := rfl
@[simp] theorem State.setHolder_boot (st : State) (n : Nat) (h : Option Nat) : (st.setHolder n h).boot = st.boot := rfl
@[simp] theorem State.setHolder_pcie (st : State) (n : Nat) (h : Option Nat) : (st.setHolder n h).pcie = st.pcie := rfl
@[simp] theorem State.setHolder_chans (st : State) (n : Nat) (h : Option Nat) : (st.setHolder n h).chans = st.chans := rfl

@[simp] theorem State.withJtag_pending (s : State) (j : Jtag) : (s.withJtag j).pending = s.pending := rfl
@[simp] theorem State.withJtag_now (s : State) (j : Jtag) : (s.withJtag j).now = s.now := rfl
@[simp] theorem State.withJtag_free (s : State) (j : Jtag) : (s.withJtag j).free = s.free := rfl
@[simp] theorem State.withJtag_resp (s : State) (j : Jtag) : (s.withJtag j).resp = s.resp := rfl
@[simp] theorem State.withJtag_regs (s : State) (j : Jtag) : (s.withJtag j).regs = s.regs := rfl
@[simp] theorem State.withJtag_caps (s : State) (j : Jtag) : (s.withJtag j).caps = s.caps := rfl
@[simp] theorem State.withJtag_ev (s : State) (j : Jtag) : (s.withJtag j).ev = s.ev := rfl
@[simp] theorem State.withJtag_log (s : State) (j : Jtag) : (s.withJtag j).log = s.log := rfl
@[simp] theorem State.withJtag_bolts (s : State) (j : Jtag) : (s.withJtag j).bolts = s.bolts := rfl
@[simp] theorem State.withJtag_pick (s : State) (j : Jtag) : (s.withJtag j).pick = s.pick := rfl
@[simp] theorem State.withJtag_pwr (s : State) (j : Jtag) : (s.withJtag j).pwr = s.pwr := rfl
@[simp] theorem State.withJtag_cells (s : State) (j : Jtag) : (s.withJtag j).cells = s.cells := rfl
@[simp] theorem State.withJtag_joins (s : State) (j : Jtag) : (s.withJtag j).joins = s.joins := rfl
@[simp] theorem State.withJtag_cfgMem (s : State) (j : Jtag) : (s.withJtag j).cfgMem = s.cfgMem := rfl
@[simp] theorem State.withJtag_glitch (s : State) (j : Jtag) : (s.withJtag j).glitch = s.glitch := rfl
@[simp] theorem State.withJtag_seamHeld (s : State) (j : Jtag) : (s.withJtag j).seamHeld = s.seamHeld := rfl
@[simp] theorem State.withJtag_taps (s : State) (j : Jtag) : (s.withJtag j).taps = s.taps := rfl
@[simp] theorem State.withJtag_portIn (s : State) (j : Jtag) : (s.withJtag j).portIn = s.portIn := rfl
@[simp] theorem State.withJtag_held (s : State) (j : Jtag) : (s.withJtag j).held = s.held := rfl
@[simp] theorem State.withJtag_creels (s : State) (j : Jtag) : (s.withJtag j).creels = s.creels := rfl
@[simp] theorem State.withJtag_arrays (s : State) (j : Jtag) : (s.withJtag j).arrays = s.arrays := rfl
@[simp] theorem State.withJtag_twills (s : State) (j : Jtag) : (s.withJtag j).twills = s.twills := rfl
@[simp] theorem State.withJtag_bridges (s : State) (j : Jtag) : (s.withJtag j).bridges = s.bridges := rfl
@[simp] theorem State.withJtag_paces (s : State) (j : Jtag) : (s.withJtag j).paces = s.paces := rfl
@[simp] theorem State.withJtag_issued (s : State) (j : Jtag) : (s.withJtag j).issued = s.issued := rfl
@[simp] theorem State.withJtag_slotWait (s : State) (j : Jtag) : (s.withJtag j).slotWait = s.slotWait := rfl
@[simp] theorem State.withJtag_fbps (s : State) (j : Jtag) : (s.withJtag j).fbps = s.fbps := rfl
@[simp] theorem State.withJtag_pins (s : State) (j : Jtag) : (s.withJtag j).pins = s.pins := rfl
@[simp] theorem State.withJtag_portSample (s : State) (j : Jtag) : (s.withJtag j).portSample = s.portSample := rfl
@[simp] theorem State.withJtag_pickedIn (s : State) (j : Jtag) : (s.withJtag j).pickedIn = s.pickedIn := rfl
@[simp] theorem State.withJtag_pinsCfg (s : State) (j : Jtag) : (s.withJtag j).pinsCfg = s.pinsCfg := rfl
@[simp] theorem State.withJtag_pinsAsleep (s : State) (j : Jtag) : (s.withJtag j).pinsAsleep = s.pinsAsleep := rfl
@[simp] theorem State.withJtag_bankOk (s : State) (j : Jtag) : (s.withJtag j).bankOk = s.bankOk := rfl
@[simp] theorem State.withJtag_patterns (s : State) (j : Jtag) : (s.withJtag j).patterns = s.patterns := rfl
@[simp] theorem State.withJtag_periphs (s : State) (j : Jtag) : (s.withJtag j).periphs = s.periphs := rfl
@[simp] theorem State.withJtag_shuttles (s : State) (j : Jtag) : (s.withJtag j).shuttles = s.shuttles := rfl
@[simp] theorem State.withJtag_semas (s : State) (j : Jtag) : (s.withJtag j).semas = s.semas := rfl
@[simp] theorem State.withJtag_eng (s : State) (j : Jtag) : (s.withJtag j).eng = s.eng := rfl
@[simp] theorem State.withJtag_trust (s : State) (j : Jtag) : (s.withJtag j).trust = s.trust := rfl
@[simp] theorem State.withJtag_quads (s : State) (j : Jtag) : (s.withJtag j).quads = s.quads := rfl
@[simp] theorem State.withJtag_lanes (s : State) (j : Jtag) : (s.withJtag j).lanes = s.lanes := rfl
@[simp] theorem State.withJtag_jtag (s : State) (j : Jtag) : (s.withJtag j).jtag = j := rfl
@[simp] theorem State.withJtag_boot (s : State) (j : Jtag) : (s.withJtag j).boot = s.boot := rfl
@[simp] theorem State.withJtag_pcie (s : State) (j : Jtag) : (s.withJtag j).pcie = s.pcie := rfl
@[simp] theorem State.withJtag_chans (s : State) (j : Jtag) : (s.withJtag j).chans = s.chans := rfl

@[simp] theorem State.setTwill_pending (s : State) (n : Nat) (v : Twill) : (s.setTwill n v).pending = s.pending := rfl
@[simp] theorem State.setTwill_now (s : State) (n : Nat) (v : Twill) : (s.setTwill n v).now = s.now := rfl
@[simp] theorem State.setTwill_free (s : State) (n : Nat) (v : Twill) : (s.setTwill n v).free = s.free := rfl
@[simp] theorem State.setTwill_resp (s : State) (n : Nat) (v : Twill) : (s.setTwill n v).resp = s.resp := rfl
@[simp] theorem State.setTwill_regs (s : State) (n : Nat) (v : Twill) : (s.setTwill n v).regs = s.regs := rfl
@[simp] theorem State.setTwill_caps (s : State) (n : Nat) (v : Twill) : (s.setTwill n v).caps = s.caps := rfl
@[simp] theorem State.setTwill_ev (s : State) (n : Nat) (v : Twill) : (s.setTwill n v).ev = s.ev := rfl
@[simp] theorem State.setTwill_log (s : State) (n : Nat) (v : Twill) : (s.setTwill n v).log = s.log := rfl
@[simp] theorem State.setTwill_bolts (s : State) (n : Nat) (v : Twill) : (s.setTwill n v).bolts = s.bolts := rfl
@[simp] theorem State.setTwill_pick (s : State) (n : Nat) (v : Twill) : (s.setTwill n v).pick = s.pick := rfl
@[simp] theorem State.setTwill_pwr (s : State) (n : Nat) (v : Twill) : (s.setTwill n v).pwr = s.pwr := rfl
@[simp] theorem State.setTwill_cells (s : State) (n : Nat) (v : Twill) : (s.setTwill n v).cells = s.cells := rfl
@[simp] theorem State.setTwill_joins (s : State) (n : Nat) (v : Twill) : (s.setTwill n v).joins = s.joins := rfl
@[simp] theorem State.setTwill_cfgMem (s : State) (n : Nat) (v : Twill) : (s.setTwill n v).cfgMem = s.cfgMem := rfl
@[simp] theorem State.setTwill_glitch (s : State) (n : Nat) (v : Twill) : (s.setTwill n v).glitch = s.glitch := rfl
@[simp] theorem State.setTwill_seamHeld (s : State) (n : Nat) (v : Twill) : (s.setTwill n v).seamHeld = s.seamHeld := rfl
@[simp] theorem State.setTwill_taps (s : State) (n : Nat) (v : Twill) : (s.setTwill n v).taps = s.taps := rfl
@[simp] theorem State.setTwill_portIn (s : State) (n : Nat) (v : Twill) : (s.setTwill n v).portIn = s.portIn := rfl
@[simp] theorem State.setTwill_held (s : State) (n : Nat) (v : Twill) : (s.setTwill n v).held = s.held := rfl
@[simp] theorem State.setTwill_creels (s : State) (n : Nat) (v : Twill) : (s.setTwill n v).creels = s.creels := rfl
@[simp] theorem State.setTwill_arrays (s : State) (n : Nat) (v : Twill) : (s.setTwill n v).arrays = s.arrays := rfl
@[simp] theorem State.setTwill_twills (s : State) (n : Nat) (v : Twill) : (s.setTwill n v).twills = SMap.set {} s.twills n v := rfl
@[simp] theorem State.setTwill_bridges (s : State) (n : Nat) (v : Twill) : (s.setTwill n v).bridges = s.bridges := rfl
@[simp] theorem State.setTwill_paces (s : State) (n : Nat) (v : Twill) : (s.setTwill n v).paces = s.paces := rfl
@[simp] theorem State.setTwill_issued (s : State) (n : Nat) (v : Twill) : (s.setTwill n v).issued = s.issued := rfl
@[simp] theorem State.setTwill_slotWait (s : State) (n : Nat) (v : Twill) : (s.setTwill n v).slotWait = s.slotWait := rfl
@[simp] theorem State.setTwill_fbps (s : State) (n : Nat) (v : Twill) : (s.setTwill n v).fbps = s.fbps := rfl
@[simp] theorem State.setTwill_pins (s : State) (n : Nat) (v : Twill) : (s.setTwill n v).pins = s.pins := rfl
@[simp] theorem State.setTwill_portSample (s : State) (n : Nat) (v : Twill) : (s.setTwill n v).portSample = s.portSample := rfl
@[simp] theorem State.setTwill_pickedIn (s : State) (n : Nat) (v : Twill) : (s.setTwill n v).pickedIn = s.pickedIn := rfl
@[simp] theorem State.setTwill_pinsCfg (s : State) (n : Nat) (v : Twill) : (s.setTwill n v).pinsCfg = s.pinsCfg := rfl
@[simp] theorem State.setTwill_pinsAsleep (s : State) (n : Nat) (v : Twill) : (s.setTwill n v).pinsAsleep = s.pinsAsleep := rfl
@[simp] theorem State.setTwill_bankOk (s : State) (n : Nat) (v : Twill) : (s.setTwill n v).bankOk = s.bankOk := rfl
@[simp] theorem State.setTwill_patterns (s : State) (n : Nat) (v : Twill) : (s.setTwill n v).patterns = s.patterns := rfl
@[simp] theorem State.setTwill_periphs (s : State) (n : Nat) (v : Twill) : (s.setTwill n v).periphs = s.periphs := rfl
@[simp] theorem State.setTwill_shuttles (s : State) (n : Nat) (v : Twill) : (s.setTwill n v).shuttles = s.shuttles := rfl
@[simp] theorem State.setTwill_semas (s : State) (n : Nat) (v : Twill) : (s.setTwill n v).semas = s.semas := rfl
@[simp] theorem State.setTwill_eng (s : State) (n : Nat) (v : Twill) : (s.setTwill n v).eng = s.eng := rfl
@[simp] theorem State.setTwill_trust (s : State) (n : Nat) (v : Twill) : (s.setTwill n v).trust = s.trust := rfl
@[simp] theorem State.setTwill_quads (s : State) (n : Nat) (v : Twill) : (s.setTwill n v).quads = s.quads := rfl
@[simp] theorem State.setTwill_lanes (s : State) (n : Nat) (v : Twill) : (s.setTwill n v).lanes = s.lanes := rfl
@[simp] theorem State.setTwill_jtag (s : State) (n : Nat) (v : Twill) : (s.setTwill n v).jtag = s.jtag := rfl
@[simp] theorem State.setTwill_boot (s : State) (n : Nat) (v : Twill) : (s.setTwill n v).boot = s.boot := rfl
@[simp] theorem State.setTwill_pcie (s : State) (n : Nat) (v : Twill) : (s.setTwill n v).pcie = s.pcie := rfl
@[simp] theorem State.setTwill_chans (s : State) (n : Nat) (v : Twill) : (s.setTwill n v).chans = s.chans := rfl

@[simp] theorem State.forgetAnswer_pending (s : State) : (s.forgetAnswer).pending = s.pending := rfl
@[simp] theorem State.forgetAnswer_now (s : State) : (s.forgetAnswer).now = s.now := rfl
@[simp] theorem State.forgetAnswer_free (s : State) : (s.forgetAnswer).free = s.free := rfl
@[simp] theorem State.forgetAnswer_resp (s : State) : (s.forgetAnswer).resp = {} := rfl
@[simp] theorem State.forgetAnswer_regs (s : State) : (s.forgetAnswer).regs = s.regs := rfl
@[simp] theorem State.forgetAnswer_caps (s : State) : (s.forgetAnswer).caps = s.caps := rfl
@[simp] theorem State.forgetAnswer_ev (s : State) : (s.forgetAnswer).ev = s.ev := rfl
@[simp] theorem State.forgetAnswer_log (s : State) : (s.forgetAnswer).log = s.log := rfl
@[simp] theorem State.forgetAnswer_bolts (s : State) : (s.forgetAnswer).bolts = s.bolts := rfl
@[simp] theorem State.forgetAnswer_pick (s : State) : (s.forgetAnswer).pick = s.pick := rfl
@[simp] theorem State.forgetAnswer_pwr (s : State) : (s.forgetAnswer).pwr = s.pwr := rfl
@[simp] theorem State.forgetAnswer_cells (s : State) : (s.forgetAnswer).cells = s.cells := rfl
@[simp] theorem State.forgetAnswer_joins (s : State) : (s.forgetAnswer).joins = s.joins := rfl
@[simp] theorem State.forgetAnswer_cfgMem (s : State) : (s.forgetAnswer).cfgMem = s.cfgMem := rfl
@[simp] theorem State.forgetAnswer_glitch (s : State) : (s.forgetAnswer).glitch = s.glitch := rfl
@[simp] theorem State.forgetAnswer_seamHeld (s : State) : (s.forgetAnswer).seamHeld = s.seamHeld := rfl
@[simp] theorem State.forgetAnswer_taps (s : State) : (s.forgetAnswer).taps = s.taps := rfl
@[simp] theorem State.forgetAnswer_portIn (s : State) : (s.forgetAnswer).portIn = s.portIn := rfl
@[simp] theorem State.forgetAnswer_held (s : State) : (s.forgetAnswer).held = s.held := rfl
@[simp] theorem State.forgetAnswer_creels (s : State) : (s.forgetAnswer).creels = s.creels := rfl
@[simp] theorem State.forgetAnswer_arrays (s : State) : (s.forgetAnswer).arrays = s.arrays := rfl
@[simp] theorem State.forgetAnswer_twills (s : State) : (s.forgetAnswer).twills = s.twills := rfl
@[simp] theorem State.forgetAnswer_bridges (s : State) : (s.forgetAnswer).bridges = s.bridges := rfl
@[simp] theorem State.forgetAnswer_paces (s : State) : (s.forgetAnswer).paces = s.paces := rfl
@[simp] theorem State.forgetAnswer_issued (s : State) : (s.forgetAnswer).issued = s.issued := rfl
@[simp] theorem State.forgetAnswer_slotWait (s : State) : (s.forgetAnswer).slotWait = s.slotWait := rfl
@[simp] theorem State.forgetAnswer_fbps (s : State) : (s.forgetAnswer).fbps = s.fbps := rfl
@[simp] theorem State.forgetAnswer_pins (s : State) : (s.forgetAnswer).pins = s.pins := rfl
@[simp] theorem State.forgetAnswer_portSample (s : State) : (s.forgetAnswer).portSample = s.portSample := rfl
@[simp] theorem State.forgetAnswer_pickedIn (s : State) : (s.forgetAnswer).pickedIn = s.pickedIn := rfl
@[simp] theorem State.forgetAnswer_pinsCfg (s : State) : (s.forgetAnswer).pinsCfg = s.pinsCfg := rfl
@[simp] theorem State.forgetAnswer_pinsAsleep (s : State) : (s.forgetAnswer).pinsAsleep = s.pinsAsleep := rfl
@[simp] theorem State.forgetAnswer_bankOk (s : State) : (s.forgetAnswer).bankOk = s.bankOk := rfl
@[simp] theorem State.forgetAnswer_patterns (s : State) : (s.forgetAnswer).patterns = s.patterns := rfl
@[simp] theorem State.forgetAnswer_periphs (s : State) : (s.forgetAnswer).periphs = s.periphs := rfl
@[simp] theorem State.forgetAnswer_shuttles (s : State) : (s.forgetAnswer).shuttles = s.shuttles := rfl
@[simp] theorem State.forgetAnswer_semas (s : State) : (s.forgetAnswer).semas = s.semas := rfl
@[simp] theorem State.forgetAnswer_eng (s : State) : (s.forgetAnswer).eng = s.eng := rfl
@[simp] theorem State.forgetAnswer_trust (s : State) : (s.forgetAnswer).trust = s.trust := rfl
@[simp] theorem State.forgetAnswer_quads (s : State) : (s.forgetAnswer).quads = s.quads := rfl
@[simp] theorem State.forgetAnswer_lanes (s : State) : (s.forgetAnswer).lanes = s.lanes := rfl
@[simp] theorem State.forgetAnswer_jtag (s : State) : (s.forgetAnswer).jtag = s.jtag := rfl
@[simp] theorem State.forgetAnswer_boot (s : State) : (s.forgetAnswer).boot = s.boot := rfl
@[simp] theorem State.forgetAnswer_pcie (s : State) : (s.forgetAnswer).pcie = s.pcie := rfl
@[simp] theorem State.forgetAnswer_chans (s : State) : (s.forgetAnswer).chans = s.chans := rfl

/-! Read after write. -/

@[simp] theorem State.reg_setReg_same (s : State) (a : Nat) (v : Word) (h : SMap.sorted s.regs = true) : (s.setReg a v).reg a = v :=
  SMap.get_set_same _ _ _ _ h

theorem State.reg_setReg_other (s : State) {a j : Nat} (v : Word) (h : j ≠ a) : (s.setReg a v).reg j = s.reg j :=
  SMap.get_set_other _ _ _ _ h

@[simp] theorem State.cap_setCap_same (s : State) (m a : Nat) (v : Option Word) (h : SMap.sorted s.caps = true) : (s.setCap m a v).cap m a = v :=
  SMap.get_set_same _ _ _ _ h

@[simp] theorem State.bolt_setBolt_same (s : State) (b : Nat) (v : Bolt) (h : SMap.sorted s.bolts = true) : (s.setBolt b v).bolt b = v :=
  SMap.get_set_same _ _ _ _ h

theorem State.bolt_setBolt_other (s : State) {b j : Nat} (v : Bolt) (h : j ≠ b) : (s.setBolt b v).bolt j = s.bolt j :=
  SMap.get_set_other _ _ _ _ h

@[simp] theorem State.bridge_setBridge_same (s : State) (n : Nat) (v : Bridge) (h : SMap.sorted s.bridges = true) : (s.setBridge n v).bridge n = v :=
  SMap.get_set_same _ _ _ _ h

theorem State.bridge_setBridge_other (s : State) {n j : Nat} (v : Bridge) (h : j ≠ n) : (s.setBridge n v).bridge j = s.bridge j :=
  SMap.get_set_other _ _ _ _ h

@[simp] theorem State.pace_setPace_same (s : State) (g : Nat) (v : Pace) (h : SMap.sorted s.paces = true) : (s.setPace g v).pace g = v :=
  SMap.get_set_same _ _ _ _ h

theorem State.pace_setPace_other (s : State) {g j : Nat} (v : Pace) (h : j ≠ g) : (s.setPace g v).pace j = s.pace j :=
  SMap.get_set_other _ _ _ _ h

@[simp] theorem State.cfgWord_setCfgWord_same (s : State) (f k : Nat) (w : CfgWord) (h : SMap.sorted s.cfgMem = true) : (s.setCfgWord f k w).cfgWord f k = w :=
  SMap.get_set_same _ _ _ _ h

@[simp] theorem State.creel_setCreel_same (s : State) (n : Nat) (v : Creel) (h : SMap.sorted s.creels = true) : (s.setCreel n v).creel n = v :=
  SMap.get_set_same _ _ _ _ h

theorem State.creel_setCreel_other (s : State) {n j : Nat} (v : Creel) (h : j ≠ n) : (s.setCreel n v).creel j = s.creel j :=
  SMap.get_set_other _ _ _ _ h

@[simp] theorem State.chan_setChan_same (s : State) (ch : Nat) (v : Chan) (h : SMap.sorted s.chans = true) : (s.setChan ch v).chan ch = v :=
  SMap.get_set_same _ _ _ _ h

theorem State.chan_setChan_other (s : State) {ch j : Nat} (v : Chan) (h : j ≠ ch) : (s.setChan ch v).chan j = s.chan j :=
  SMap.get_set_other _ _ _ _ h

@[simp] theorem State.periph_setPeriph_same (s : State) (u : Nat) (v : Periph) (h : SMap.sorted s.periphs = true) : (s.setPeriph u v).periph u = v :=
  SMap.get_set_same _ _ _ _ h

theorem State.periph_setPeriph_other (s : State) {u j : Nat} (v : Periph) (h : j ≠ u) : (s.setPeriph u v).periph j = s.periph j :=
  SMap.get_set_other _ _ _ _ h

@[simp] theorem State.pin_setPin_same (s : State) (p : Nat) (v : Pin) (h : SMap.sorted s.pins = true) : (s.setPin p v).pin p = v :=
  SMap.get_set_same _ _ _ _ h

theorem State.pin_setPin_other (s : State) {p j : Nat} (v : Pin) (h : j ≠ p) : (s.setPin p v).pin j = s.pin j :=
  SMap.get_set_other _ _ _ _ h

@[simp] theorem State.pattern_setPattern_same (s : State) (u : Nat) (v : Pattern) (h : SMap.sorted s.patterns = true) : (s.setPattern u v).pattern u = v :=
  SMap.get_set_same _ _ _ _ h

theorem State.pattern_setPattern_other (s : State) {u j : Nat} (v : Pattern) (h : j ≠ u) : (s.setPattern u v).pattern j = s.pattern j :=
  SMap.get_set_other _ _ _ _ h

@[simp] theorem State.cell_setCell_same (s : State) (r c : Nat) (v : Cell) (h : SMap.sorted s.cells = true) : (s.setCell r c v).cell r c = v :=
  SMap.get_set_same _ _ _ _ h

@[simp] theorem State.fbp_setFbp_same (s : State) (n : Nat) (v : Fbp) (h : SMap.sorted s.fbps = true) : (s.setFbp n v).fbp n = v :=
  SMap.get_set_same _ _ _ _ h

theorem State.fbp_setFbp_other (s : State) {n j : Nat} (v : Fbp) (h : j ≠ n) : (s.setFbp n v).fbp j = s.fbp j :=
  SMap.get_set_other _ _ _ _ h

@[simp] theorem State.quad_setQuad_same (s : State) (q : Nat) (v : Quad) (h : SMap.sorted s.quads = true) : (s.setQuad q v).quad q = v :=
  SMap.get_set_same _ _ _ _ h

theorem State.quad_setQuad_other (s : State) {q j : Nat} (v : Quad) (h : j ≠ q) : (s.setQuad q v).quad j = s.quad j :=
  SMap.get_set_other _ _ _ _ h

@[simp] theorem State.lane_setLane_same (s : State) (q i : Nat) (v : Lane) (h : SMap.sorted s.lanes = true) : (s.setLane q i v).lane q i = v :=
  SMap.get_set_same _ _ _ _ h

@[simp] theorem State.sh_setSh_same (st : State) (c s : Nat) (v : ShDir) (h : SMap.sorted st.shuttles = true) : (st.setSh c s v).sh c s = v :=
  SMap.get_set_same _ _ _ _ h

@[simp] theorem State.holder_setHolder_same (st : State) (n : Nat) (w : Option Nat) (h : SMap.sorted st.semas = true) : (st.setHolder n w).holder n = w :=
  SMap.get_set_same _ _ _ _ h

theorem State.holder_setHolder_other (st : State) {n j : Nat} (w : Option Nat) (h : j ≠ n) : (st.setHolder n w).holder j = st.holder j :=
  SMap.get_set_other _ _ _ _ h

@[simp] theorem State.twill_setTwill_same (s : State) (n : Nat) (v : Twill) (h : SMap.sorted s.twills = true) : (s.setTwill n v).twill n = v :=
  SMap.get_set_same _ _ _ _ h

theorem State.twill_setTwill_other (s : State) {n j : Nat} (v : Twill) (h : j ≠ n) : (s.setTwill n v).twill j = s.twill j :=
  SMap.get_set_other _ _ _ _ h

/-! A register reads as before where the update is of another field. -/

@[simp] theorem State.at_reg (s : State) (t : Nat) (x : Nat) : (s.at t).reg x = s.reg x := rfl
@[simp] theorem State.tick_reg (s : State) (x : Nat) : (s.tick).reg x = s.reg x := rfl
@[simp] theorem State.setCap_reg (s : State) (m a : Nat) (v : Option Word) (x : Nat) : (s.setCap m a v).reg x = s.reg x := rfl
@[simp] theorem State.setBolt_reg (s : State) (b : Nat) (v : Bolt) (x : Nat) : (s.setBolt b v).reg x = s.reg x := rfl
@[simp] theorem State.setBridge_reg (s : State) (n : Nat) (v : Bridge) (x : Nat) : (s.setBridge n v).reg x = s.reg x := rfl
@[simp] theorem State.setPace_reg (s : State) (g : Nat) (v : Pace) (x : Nat) : (s.setPace g v).reg x = s.reg x := rfl
@[simp] theorem State.setCfgWord_reg (s : State) (f k : Nat) (w : CfgWord) (x : Nat) : (s.setCfgWord f k w).reg x = s.reg x := rfl
@[simp] theorem State.setCreel_reg (s : State) (n : Nat) (v : Creel) (x : Nat) : (s.setCreel n v).reg x = s.reg x := rfl
@[simp] theorem State.setArr_reg (s : State) (n w : Nat) (v : ArrWord) (x : Nat) : (s.setArr n w v).reg x = s.reg x := rfl
@[simp] theorem State.setChan_reg (s : State) (ch : Nat) (v : Chan) (x : Nat) : (s.setChan ch v).reg x = s.reg x := rfl
@[simp] theorem State.setPeriph_reg (s : State) (u : Nat) (v : Periph) (x : Nat) : (s.setPeriph u v).reg x = s.reg x := rfl
@[simp] theorem State.withEng_reg (s : State) (e : Engine) (x : Nat) : (s.withEng e).reg x = s.reg x := rfl
@[simp] theorem State.setPin_reg (s : State) (p : Nat) (v : Pin) (x : Nat) : (s.setPin p v).reg x = s.reg x := rfl
@[simp] theorem State.setPattern_reg (s : State) (u : Nat) (v : Pattern) (x : Nat) : (s.setPattern u v).reg x = s.reg x := rfl
@[simp] theorem State.setCell_reg (s : State) (r c : Nat) (v : Cell) (x : Nat) : (s.setCell r c v).reg x = s.reg x := rfl
@[simp] theorem State.setFbp_reg (s : State) (n : Nat) (v : Fbp) (x : Nat) : (s.setFbp n v).reg x = s.reg x := rfl
@[simp] theorem State.withPwr_reg (s : State) (p : Power) (x : Nat) : (s.withPwr p).reg x = s.reg x := rfl
@[simp] theorem State.withBoot_reg (s : State) (b : Boot) (x : Nat) : (s.withBoot b).reg x = s.reg x := rfl
@[simp] theorem State.setQuad_reg (s : State) (q : Nat) (v : Quad) (x : Nat) : (s.setQuad q v).reg x = s.reg x := rfl
@[simp] theorem State.setLane_reg (s : State) (q i : Nat) (v : Lane) (x : Nat) : (s.setLane q i v).reg x = s.reg x := rfl
@[simp] theorem State.setSh_reg (st : State) (c s : Nat) (v : ShDir) (x : Nat) : (st.setSh c s v).reg x = st.reg x := rfl
@[simp] theorem State.setHolder_reg (st : State) (n : Nat) (h : Option Nat) (x : Nat) : (st.setHolder n h).reg x = st.reg x := rfl
@[simp] theorem State.withJtag_reg (s : State) (j : Jtag) (x : Nat) : (s.withJtag j).reg x = s.reg x := rfl
@[simp] theorem State.setTwill_reg (s : State) (n : Nat) (v : Twill) (x : Nat) : (s.setTwill n v).reg x = s.reg x := rfl
@[simp] theorem State.forgetAnswer_reg (s : State) (x : Nat) : (s.forgetAnswer).reg x = s.reg x := rfl

end Sys2Proof.Machine
end

