-- ==== Sys2Proof/Laws/Fields.lean ====
section
/-!
SUPPORT. What the shared operations over registers, events and the change log leave as they were: a field reads what was written and
its neighbours read as before, and an event or a log entry touches the registers of its own record only.
-/

namespace Sys2Proof.Machine

/-! Bit fields. -/

/-- Which bits are ones in a field's mask. -/
theorem fieldMask_getLsbD (hi lo i : Nat) (h : hi < 32) : (fieldMask hi lo).getLsbD i = decide (lo ≤ i ∧ i ≤ hi) := by
  rw [fieldMask, BitVec.getLsbD_ofNat, Nat.testBit_shiftLeft, Nat.testBit_two_pow_sub_one, Bool.eq_iff_iff]
  simp only [Bool.and_eq_true, decide_eq_true_eq]
  omega

/-- Every bit of a word with a field replaced. -/
theorem withField_testBit (w : Word) (hi lo v i : Nat) (h : hi < 32) :
    (withField w hi lo v).toNat.testBit i = if lo ≤ i ∧ i ≤ hi then v.testBit (i - lo) else w.toNat.testBit i := by
  simp only [BitVec.testBit_toNat, withField, BitVec.getLsbD_or, BitVec.getLsbD_and, BitVec.getLsbD_not, fieldMask_getLsbD hi lo i h,
    BitVec.getLsbD_ofNat, Nat.testBit_shiftLeft]
  split
  · rename_i hin
    have top : i < 32 := Nat.lt_of_le_of_lt hin.2 h
    simp [hin, top]
  · rename_i hout
    simp only [hout, decide_false, Bool.not_false, Bool.and_true, Bool.and_false, Bool.or_false]
    cases set : w.getLsbD i
    · rfl
    · simpa using BitVec.lt_of_getLsbD set

theorem fieldOf_testBit {n : Nat} (w : BitVec n) (hi lo i : Nat) :
    (fieldOf w hi lo).testBit i = (decide (i < hi + 1 - lo) && w.toNat.testBit (lo + i)) := by
  simp [fieldOf, Nat.testBit_mod_two_pow, Nat.testBit_shiftRight]

/-- A field reads what was written into it. -/
theorem fieldOf_withField (w : Word) (hi lo v : Nat) (h : hi < 32) (hl : lo ≤ hi) :
    fieldOf (withField w hi lo v) hi lo = v % 2 ^ (hi + 1 - lo) := by
  have bit (i : Nat) : (fieldOf (withField w hi lo v) hi lo).testBit i = (v % 2 ^ (hi + 1 - lo)).testBit i := by
    rw [Nat.testBit_mod_two_pow, fieldOf_testBit, withField_testBit w hi lo v _ h]
    rcases Nat.lt_or_ge i (hi + 1 - lo) with low | high
    · rw [if_pos ⟨Nat.le_add_right lo i, by omega⟩, Nat.add_sub_cancel_left]
    · simp only [Nat.not_lt.mpr high, decide_false, Bool.false_and]
  exact Nat.eq_of_testBit_eq bit

/-- A field reads as before after a write of a field that lies apart from it. -/
theorem fieldOf_withField_other (w : Word) (hi lo v h' l' : Nat) (h : hi < 32) (d : h' < lo ∨ hi < l') :
    fieldOf (withField w hi lo v) h' l' = fieldOf w h' l' :=
  Nat.eq_of_testBit_eq (fun i => by
    simp only [fieldOf_testBit, withField_testBit w hi lo v _ h]
    split
    · rename_i inside
      simp only [show ¬ i < h' + 1 - l' by omega, decide_false, Bool.false_and]
    · rfl)

theorem bitOf_withBit (w : Word) (k : Nat) (b : Bool) (h : k < 32) : bitOf (withBit w k b) k = b := by
  rw [bitOf, withBit, withField_testBit _ _ _ _ _ h, if_pos ⟨Nat.le_refl k, Nat.le_refl k⟩, Nat.sub_self]
  cases b <;> rfl

theorem bitOf_withField_other (w : Word) (hi lo v k : Nat) (h : hi < 32) (d : k < lo ∨ hi < k) :
    bitOf (withField w hi lo v) k = bitOf w k := by
  rw [bitOf, bitOf, withField_testBit _ _ _ _ _ h, if_neg (by omega)]

/-! Registers. -/

theorem State.reg_setReg {s : State} (h : s.Canonical) (a b : Nat) (v : Word) :
    (s.setReg a v).reg b = if b = a then v else s.reg b := by
  split
  · subst_vars; exact State.reg_setReg_same s _ v (SMap.wf_sorted h.regs)
  · exact State.reg_setReg_other s v ‹_›

theorem State.Canonical.setReg {s : State} (h : s.Canonical) (a : Nat) (v : Word) : (s.setReg a v).Canonical :=
  (State.setReg_follows s a v (Follows.refl s)).memory h

theorem State.reg_setFld_other (s : State) {a b : Nat} (hi lo v : Nat) (h : b ≠ a) : (s.setFld a hi lo v).reg b = s.reg b :=
  State.reg_setReg_other s _ h

theorem State.fld_setFld {s : State} (hc : s.Canonical) (a hi lo v : Nat) (h : hi < 32) (hl : lo ≤ hi) :
    (s.setFld a hi lo v).fld a hi lo = v % 2 ^ (hi + 1 - lo) := by
  simp only [State.fld, State.setFld, State.reg_setReg hc, if_true]
  exact fieldOf_withField _ _ _ _ h hl

theorem State.fld_setFld_other {s : State} (hc : s.Canonical) (a hi lo v h' l' : Nat) (h : hi < 32)
    (d : h' < lo ∨ hi < l') : (s.setFld a hi lo v).fld a h' l' = s.fld a h' l' := by
  simp only [State.fld, State.setFld, State.reg_setReg hc, if_true]
  exact fieldOf_withField_other _ _ _ _ _ _ h d

/-- A write of one field leaves every field and bit that lies apart from it, and those of every other register. -/
theorem State.fld_setFld_apart {s : State} (hc : s.Canonical) {a b hi lo h' l' : Nat} (v : Nat) (h : hi < 32)
    (d : a ≠ b ∨ h' < lo ∨ hi < l') : (s.setFld a hi lo v).fld b h' l' = s.fld b h' l' := by
  rcases Decidable.em (b = a) with rfl | n
  · exact State.fld_setFld_other hc _ _ _ _ _ _ h (d.resolve_left (fun x => x rfl))
  · exact congrArg (fun w => fieldOf w h' l') (State.reg_setReg_other s _ n)

theorem State.bit_setFld_apart {s : State} (hc : s.Canonical) {a b hi lo k : Nat} (v : Nat) (h : hi < 32)
    (d : a ≠ b ∨ k < lo ∨ hi < k) : (s.setFld a hi lo v).bit b k = s.bit b k := by
  rcases Decidable.em (b = a) with rfl | n
  · rw [State.bit, State.setFld, State.reg_setReg hc, if_pos rfl]
    exact bitOf_withField_other _ _ _ _ _ h (d.resolve_left (fun x => x rfl))
  · exact congrArg (fun w => bitOf w k) (State.reg_setReg_other s _ n)

/-- A write of one bit is a write of a field of one bit. -/
theorem State.setBit_eq (s : State) (a k : Nat) (v : Bool) : s.setBit a k v = s.setFld a k k v.toNat := rfl

theorem State.fld_setBit_apart {s : State} (hc : s.Canonical) {a b k h' l' : Nat} (v : Bool) (h : k < 32)
    (d : a ≠ b ∨ h' < k ∨ k < l') : (s.setBit a k v).fld b h' l' = s.fld b h' l' := by
  rw [State.setBit_eq]; exact State.fld_setFld_apart hc _ h d

theorem State.bit_setBit_apart {s : State} (hc : s.Canonical) {a b k j : Nat} (v : Bool) (h : k < 32)
    (d : a ≠ b ∨ j ≠ k) : (s.setBit a k v).bit b j = s.bit b j := by
  rw [State.setBit_eq]; exact State.bit_setFld_apart hc _ h (d.imp id (fun n => Nat.lt_or_gt_of_ne n))

theorem State.bit_setBit {s : State} (hc : s.Canonical) (a k : Nat) (v : Bool) (h : k < 32) : (s.setBit a k v).bit a k = v := by
  rw [State.bit, State.setBit, State.reg_setReg hc, if_pos rfl]; exact bitOf_withBit _ _ _ h

theorem State.setFld_frame (s : State) (a hi lo v : Nat) : s.setFld a hi lo v = { s with regs := (s.setFld a hi lo v).regs } := rfl

/-! Events. -/

/-- The registers that an event of a page writes: its EVT_STICKY and the number of records (R469, R474). -/
def eventRegisters (p : Page) : List Nat := [p.base + 0x014, regAddr .event 0 0x048]

theorem State.occur_frame (s : State) (n bit : Nat) (d : Word) :
    s.occur n bit d = { s with regs := (s.occur n bit d).regs, ev := (s.occur n bit d).ev } := by
  unfold State.occur; dsimp only
  generalize _ ++ s.userVectors n = vs
  cases bitOf (s.reg (regAddr .eventMap 0 (0x100 + 4 * n))) 31
  · simp only [Bool.false_eq_true, if_false]; split <;> rfl
  · simp only [if_true]; split <;> rfl

theorem State.occur_reg (s : State) (n bit : Nat) (d : Word) {a : Nat} (h : a ≠ regAddr .event 0 0x048) :
    (s.occur n bit d).reg a = s.reg a := by
  have e : ∀ s : State, (s.countWrap (regAddr .event 0 0x048)).reg a = s.reg a := fun s => State.reg_setReg_other s _ h
  unfold State.occur; dsimp only
  generalize _ ++ s.userVectors n = vs
  cases bitOf (s.reg (regAddr .eventMap 0 (0x100 + 4 * n))) 31
  · simp only [Bool.false_eq_true, if_false]; split <;> rfl
  · simp only [if_true]; split <;> exact e s

theorem State.raise_frame (s : State) (p : Page) (k : Nat) (d : Word) :
    s.raise p k d = { s with regs := (s.raise p k d).regs, ev := (s.raise p k d).ev } := by
  unfold State.raise; dsimp only
  split
  · rw [State.occur_frame]; rfl
  · rfl

/-- An event changes no register beside EVT_STICKY of its page and the number of records. -/
theorem State.raise_reg (s : State) (p : Page) (k : Nat) (d : Word) {a : Nat} (h : a ∉ eventRegisters p) :
    (s.raise p k d).reg a = s.reg a := by
  simp only [eventRegisters, List.mem_cons, List.not_mem_nil, or_false, not_or] at h
  unfold State.raise; dsimp only
  split
  · rw [State.occur_reg _ _ _ _ h.2]; exact State.reg_setFld_other s _ _ _ h.1
  · exact State.reg_setFld_other s _ _ _ h.1

/-! The change log. -/

theorem State.countChange_frame (s : State) (a : Nat) : s.countChange a = { s with regs := (s.countChange a).regs } := by
  unfold State.countChange; split <;> rfl

theorem State.logPut_frame (s : State) (late : Bool) (o k a : Nat) (v : Word) :
    s.logPut late o k a v = { s with regs := (s.logPut late o k a v).regs, ev := (s.logPut late o k a v).ev,
                                     log := (s.logPut late o k a v).log } := by
  unfold State.logPut; dsimp only
  split
  · unfold State.pulse; rw [State.raise_frame]
  · split
    · unfold State.pulse; rw [State.raise_frame]
    · split
      · unfold State.pulse; rw [State.raise_frame]
      · rfl

theorem State.logPut_reg (s : State) (late : Bool) (o k a : Nat) (v : Word) {b : Nat} (h : b ∉ eventRegisters ⟨.log, 0⟩) :
    (s.logPut late o k a v).reg b = s.reg b := by
  unfold State.logPut; dsimp only
  split
  · unfold State.pulse; rw [State.raise_reg _ _ _ _ h]; rfl
  · split
    · unfold State.pulse; rw [State.raise_reg _ _ _ _ h]; rfl
    · split
      · unfold State.pulse; rw [State.raise_reg _ _ _ _ h]; rfl
      · rfl

theorem State.logEntry_frame (s : State) (o k a : Nat) (v : Word) :
    s.logEntry o k a v = { s with regs := (s.logEntry o k a v).regs, ev := (s.logEntry o k a v).ev,
                                  log := (s.logEntry o k a v).log } := by
  unfold State.logEntry State.logAs; rw [State.logPut_frame, State.countChange_frame]

/-- A log entry changes no register beside CHG_COUNT of the entry's page and those of the log's own events. -/
theorem State.logEntry_reg (s : State) (o k a : Nat) (v : Word) {b : Nat} (h : b ∉ eventRegisters ⟨.log, 0⟩)
    (hp : ∀ p, pageOf a = some p → b ≠ p.base + 0x028) : (s.logEntry o k a v).reg b = s.reg b := by
  unfold State.logEntry State.logAs
  rw [State.logPut_reg _ _ _ _ _ _ h]
  unfold State.countChange; split
  · exact State.reg_setReg_other s _ (hp _ ‹_›)
  · rfl

end Sys2Proof.Machine
end

