-- ==== Sys2Proof/Laws/Access.lean ====
section
/-!
SUPPORT. What an access of a page register that passes the checks of Table 2-5 does: a write leaves its record, has its effect and is
answered with code 0; a read answers with its word.
-/

namespace Sys2Proof.Machine

/-- Pages whose addresses rise: the first that holds an address is the one that holds it. -/
theorem find_page (a : Nat) (k : PageKind) (h1 : k.info.1 ≤ a) (h2 : a < k.info.1 + k.info.2.1 * 0x1000) :
    ∀ l : List PageKind, l.Pairwise (fun j k => j.info.1 + j.info.2.1 * 0x1000 ≤ k.info.1) → k ∈ l →
      l.find? (fun k => decide (k.info.1 ≤ a) && decide (a < k.info.1 + k.info.2.1 * 0x1000)) = some k
  | [], _, h => nomatch h
  | j :: l, hp, h => by
    rw [List.pairwise_cons] at hp
    rcases List.mem_cons.mp h with rfl | h
    · simp [h1, h2]
    · have := hp.1 k h
      have e : (decide (j.info.1 ≤ a) && decide (a < j.info.1 + j.info.2.1 * 0x1000)) = false := by
        simp only [Bool.and_eq_false_iff, decide_eq_false_iff_not]; right; omega
      rw [List.find?_cons, e]
      exact find_page a k h1 h2 l hp.2 h

theorem pageOf_reg (k : PageKind) (n off : Nat) (hn : n < k.info.2.1) (ho : off < 0x1000) :
    pageOf (k.info.1 + n * 0x1000 + off) = some ⟨k, n⟩ ∧ inFabricWindow (k.info.1 + n * 0x1000 + off) = false ∧
      (k.info.1 + n * 0x1000 + off) % 0x1000 = off := by
  have key := find_page (k.info.1 + n * 0x1000 + off) k (by omega) (by omega) PageKind.all (by decide) (by cases k <;> decide)
  refine ⟨?_, ?_, ?_⟩
  · rw [pageOf, key]
    have e : (k.info.1 + n * 0x1000 + off - k.info.1) / 0x1000 = n := by omega
    simp [e]
  · simp only [inFabricWindow, Bool.and_eq_false_iff, decide_eq_false_iff_not]
    cases k <;> simp only [PageKind.info] at hn ⊢ <;> omega
  · cases k <;> simp only [PageKind.info] at hn ⊢ <;> omega

/-- An access that its target has answered with code 0. -/
theorem conclude_answered (u : State) (e : Issued) (d : List Word) (h : e.timedOut = false) (hu : e.unheard = false) (hi : e.init = false)
    (hp : e.part = none) : (u.answer e.master e.write e.addr d 0).conclude e = (u.answer e.master e.write e.addr d 0).heard e.master := by
  have hr : (u.answer e.master e.write e.addr d 0).resp.master = e.master := rfl
  simp only [State.conclude, hr, if_true, h, hu, Bool.or_self, Bool.false_eq_true, if_false, State.passOn, hi, hp, State.heard]

theorem heard_code (u : State) (m : Nat) : (u.heard m).resp = u.resp := by unfold State.heard; split <;> rfl

theorem noteRejection_good {u : State} (h : u.resp.code = 0) : u.noteRejection = u := by simp only [State.noteRejection, h, if_true]

/-! What an access leaves. -/

/-- The header of a page does not depend on its instance. -/
theorem fields_header (k : PageKind) (n off : Nat) (h : off < 0x40) : fieldsAt ⟨k, n⟩ off = fieldsAt ⟨k, 0⟩ off := by
  simp [fieldsAt, h]

/-- No write of EVT_STICKY or CHG_COUNT makes an entry. -/
theorem logged_header (p : Page) (off : Nat) (h : off = 0x014 ∨ off = 0x028) : logged p off = false := by
  obtain ⟨k, n⟩ := p
  have e : ∀ k, logged ⟨k, 0⟩ 0x014 = false := by intro k; cases k <;> decide
  have e' : ∀ k, logged ⟨k, 0⟩ 0x028 = false := by intro k; cases k <;> decide
  rcases h with rfl | rfl
  · unfold logged; rw [fields_header k n _ (by decide)]
    have : ∀ k, (decide (((fieldsAt ⟨k, 0⟩ 0x014).filter (fun f => decide (f.acc ≠ .ro))) ≠ []) && decide (0x014 ≠ 0x020) && !((fieldsAt ⟨k, 0⟩ 0x014).filter (fun f => decide (f.acc ≠ .ro))).all (fun f => decide (f.acc = .w1c))) = false := by
      intro k; cases k <;> decide
    simp only [this, Bool.false_and]
  · unfold logged; rw [fields_header k n _ (by decide)]
    have : ∀ k, (decide (((fieldsAt ⟨k, 0⟩ 0x028).filter (fun f => decide (f.acc ≠ .ro))) ≠ []) && decide (0x028 ≠ 0x020) && !((fieldsAt ⟨k, 0⟩ 0x028).filter (fun f => decide (f.acc ≠ .ro))).all (fun f => decide (f.acc = .w1c))) = false := by
      intro k; cases k <;> decide
    simp only [this, Bool.false_and]

/-- The number of records is no writable register. -/
theorem logged_count : logged ⟨.event, 0⟩ 0x048 = false := by decide

theorem recorded_begun {s : State} {p : Page} {off : Nat} (h : p.kind = .serdes → off < 0x100) : s.begun p off = s.forgetAnswer := by
  rw [State.begun, if_neg (by rintro ⟨a, b, -⟩; have := h a; omega)]

theorem State.Canonical.forget {s : State} (h : s.Canonical) : s.forgetAnswer.Canonical :=
  ⟨h.1,h.2,h.3,h.4,h.5,h.6,h.7,h.8,h.9,h.10,h.11,h.12,h.13,h.14,h.15,h.16,h.17,h.18,h.19,h.20,h.21,h.22,h.23,h.24,h.25⟩

/-- What an accepted write leaves in the registers. -/
theorem recorded_regs {s : State} (h : s.Canonical) {m off : Nat} {p : Page} {v : Word} (hk : p.kind = .serdes → off < 0x100) (ho : off ≠ 0x020) (hi : perIdentity p off = false)
    (hlt : off < 0x1000) (hn : p.inst < p.kind.info.2.1) :
    (s.recorded m p off v).reg (p.base + off) = writtenWord (fieldsAt p off) (s.reg (p.base + off)) v ∧
    (∀ a, a ≠ p.base + off → a ≠ p.base + 0x028 → a ≠ regAddr .log 0 0x014 → a ≠ regAddr .event 0 0x048 → (s.recorded m p off v).reg a = s.reg a) := by
  obtain ⟨e1, e2, e3⟩ := pageOf_reg p.kind p.inst off hn hlt
  have hp : pageOf (p.base + off) = some p := e1
  have est : s.forgetAnswer.store m p off v = s.forgetAnswer.setReg (p.base + off) (writtenWord (fieldsAt p off) (s.reg (p.base + off)) v) := by
    simp only [State.store, hi, Bool.false_eq_true, if_false, State.storeHeader, ho]; rfl
  simp only [State.recorded, recorded_begun hk, est, State.logWrite]
  have r0 : ∀ a, (s.forgetAnswer.setReg (p.base + off) (writtenWord (fieldsAt p off) (s.reg (p.base + off)) v)).reg a = if a = p.base + off then writtenWord (fieldsAt p off) (s.reg (p.base + off)) v else s.reg a := by
    intro a; rw [State.reg_setReg (h.forget)]; rfl
  constructor
  · by_cases hl : logged p off = true
    · simp only [hl, if_true]
      rw [State.logEntry_reg, r0, if_pos rfl]
      · intro hm
        simp only [eventRegisters, List.mem_cons, List.not_mem_nil, or_false] at hm
        rcases hm with hm | hm
        · have hm' : p.base + off = Page.base ⟨.log, 0⟩ + 0x014 := hm
          have := pageOf_reg .log 0 0x014 (by decide) (by decide)
          have e : pageOf (p.base + off) = some ⟨.log, 0⟩ := by rw [hm']; exact this.1
          rw [hp] at e; injection e with e; subst e
          have : off = 0x014 := by omega
          rw [logged_header _ _ (Or.inl this)] at hl; exact absurd hl (by decide)
        · have hm' : p.base + off = (PageKind.info .event).1 + 0 * 0x1000 + 0x048 := hm
          have := pageOf_reg .event 0 0x048 (by decide) (by decide)
          have e : pageOf (p.base + off) = some ⟨.event, 0⟩ := by rw [hm']; exact this.1
          rw [hp] at e; injection e with e; subst e
          have : off = 0x048 := by simp only [Page.base, PageKind.info] at hm'; omega
          subst this; rw [logged_count] at hl; exact absurd hl (by decide)
      · intro q hq
        rw [hp] at hq; injection hq with hq; subst hq
        intro hm
        have : off = 0x028 := by omega
        rw [logged_header _ _ (Or.inr this)] at hl; exact absurd hl (by decide)
    · simp only [hl, Bool.false_eq_true, if_false]; rw [r0, if_pos rfl]
  · intro a h1 h2 h3 h4
    by_cases hl : logged p off = true
    · simp only [hl, if_true]
      rw [State.logEntry_reg, r0, if_neg h1]
      · simp only [eventRegisters, List.mem_cons, List.not_mem_nil, or_false, not_or]; exact ⟨h3, h4⟩
      · intro q hq; rw [hp] at hq; injection hq with hq; subst hq; exact h2
    · simp only [hl, Bool.false_eq_true, if_false]; rw [r0, if_neg h1]

/-- What an accepted write leaves beside them. -/
theorem recorded_frame {s : State} {m off : Nat} {p : Page} {v : Word} (hk : p.kind = .serdes → off < 0x100) (hi : perIdentity p off = false) :
    s.recorded m p off v = { s with regs := (s.recorded m p off v).regs, ev := (s.recorded m p off v).ev, log := (s.recorded m p off v).log, resp := {} } := by
  have est : s.forgetAnswer.store m p off v = { s with regs := (s.forgetAnswer.store m p off v).regs, resp := {} } := by
    simp only [State.store, hi, Bool.false_eq_true, if_false, State.storeHeader]
    split
    · split <;> rfl
    · rfl
  simp only [State.recorded, recorded_begun hk, State.logWrite]
  split
  · rw [State.logEntry_frame, est]
  · rw [est]

/-- The codes of Table 2-4. -/
theorem fail_code {s : State} {m : Nat} {p : Page} {off be : Nat} {old v : Word} {c : Nat} (h : s.writeFails m p off be old v = some c) : c < 16 := by
  unfold State.writeFails at h
  split at h
  · cases h; decide
  · split at h
    · rename_i hh
      unfold State.pageClosed at hh
      cases h
      repeat' first | (cases hh; done) | (cases hh; decide) | split at hh
    · repeat' first | (cases h; done) | (cases h; decide) | split at h
      rename_i hh
      unfold State.valueBad at h; dsimp only at h
      repeat' first | (cases h; done) | (cases h; decide) | split at h

theorem isHostId_id (m : Master) : isHostId m.id = m.isHost := by
  cases m with
  | pf f =>
    have h1 : 8 ≤ 8 + f.val := by omega
    have h2 : 8 + f.val ≤ 11 := by omega
    simp only [Master.isHost, Master.id, isHostId, h1, h2, decide_true, Bool.and_self]
  | fbp n =>
    have h2 : ¬ 16 + n.val ≤ 11 := by omega
    simp only [Master.isHost, Master.id, isHostId, h2, decide_false, Bool.and_false]
  | _ => rfl

/-- Everything a rejected write leaves. -/
theorem refuse_spec {u : State} (c0 : u.Canonical) (m : Nat) (p : Page) (off c : Nat) (hc : c < 16) :
    let t := u.refuse m p true off c
    t.fld (p.base + 0x020) 7 0 = c ∧ t.fld (p.base + 0x020) 23 16 = min 255 (u.fld (p.base + 0x020) 23 16 + 1) ∧
      t.reg (p.base + 0x024) = BitVec.ofNat 32 (place m 26 + flag true 25 + off) ∧ t.resp = ⟨m, true, p.base + off, [], c, .success⟩ ∧
      (∀ a, a ≠ p.base + 0x020 → a ≠ p.base + 0x024 → t.reg a = u.reg a) ∧ t = { u with regs := t.regs, resp := t.resp } := by
  have hne : p.base + 0x020 ≠ p.base + 0x024 := by omega
  generalize h20 : p.base + 0x020 = a20 at hne ⊢
  generalize h24 : p.base + 0x024 = a24 at hne ⊢
  dsimp only
  have hw : ∃ w : State, w = ((u.count a20 23 16 1).setFld a20 7 0 c).setReg a24 (BitVec.ofNat 32 (place m 26 + flag true 25 + off)) := ⟨_, rfl⟩
  obtain ⟨w, hw⟩ := hw
  have e' : u.refuse m p true off c = w.answer m true (p.base + off) [] c := by
    simp only [State.refuse, State.recordRejection, h20, h24, hw, rejectedData, if_true]
  have c1 : (u.count a20 23 16 1).Canonical := c0.setReg _ _
  have c2 : ((u.count a20 23 16 1).setFld a20 7 0 c).Canonical := c1.setReg _ _
  have ef : ∀ a hi lo, (u.refuse m p true off c).fld a hi lo = w.fld a hi lo := by intro a hi lo; rw [e']; rfl
  have er : ∀ a, (u.refuse m p true off c).reg a = w.reg a := by intro a; rw [e']; rfl
  rw [ef, ef, er]
  refine ⟨?_, ?_, ?_, ?_, ?_, ?_⟩
  · have : w.fld a20 7 0 = ((u.count a20 23 16 1).setFld a20 7 0 c).fld a20 7 0 := by
      simp only [State.fld, hw]; rw [State.reg_setReg_other _ _ hne]
    rw [this, State.fld_setFld c1 _ _ _ _ (by decide) (by decide)]; omega
  · have : w.fld a20 23 16 = ((u.count a20 23 16 1).setFld a20 7 0 c).fld a20 23 16 := by
      simp only [State.fld, hw]; rw [State.reg_setReg_other _ _ hne]
    rw [this, State.fld_setFld_other c1 _ _ _ _ _ _ (by decide) (by decide), State.count, State.fld_setFld c0 _ _ _ _ (by decide) (by decide)]
    simp only [satAdd]; omega
  · rw [hw, State.reg_setReg c2, if_pos rfl]
  · rw [e']; simp only [State.answer, Bool.not_true, Bool.and_false, Bool.not_false, decide_true, Bool.or_true, if_true]
  · intro a h1 h2
    rw [er, hw, State.reg_setReg_other _ _ h2, State.reg_setFld_other _ _ _ _ h1, State.count, State.reg_setFld_other _ _ _ _ h1]
  · have hw' : w = { u with regs := w.regs } := by rw [hw]; rfl
    rw [e']; unfold State.answer; dsimp only; rw [hw']

/-- An access of a page register that has its turn reaches the page. -/
theorem busAccess_page {s : State} {e : Issued} {p : Page} {off : Nat} (hw : s.waits e = false) (ht : e.timedOut = false) (hb : e.bell = false)
    (he : e.addr = p.base + off) (hn : p.inst < p.kind.info.2.1) (ho : off < 0x1000) (h4 : off % 4 = 0) :
    busAccess e s = (if e.write then pageWrite e.master p off e.be e.value s else pageRead e.master p off s).conclude { e with time := s.now } := by
  obtain ⟨k, n⟩ := p
  obtain ⟨e1, e2, e3⟩ := pageOf_reg k n off hn ho
  have e4 : (k.info.1 + n * 0x1000 + off) % 0x1000 / 4 * 4 = off := by rw [e3]; omega
  have hp : e.arrive s = if e.write then pageWrite e.master ⟨k, n⟩ off e.be e.value s else pageRead e.master ⟨k, n⟩ off s := by
    simp only [Issued.arrive, he, Page.base, e1, e2, pageAccess, e4, hb, Bool.false_and, Bool.false_eq_true, if_false]
  simp only [busAccess, hw, Issued.perform, ht, hp, Bool.false_eq_true, if_false]

/-- An accepted write that neither starts a load nor is LOG_CMD, and whose answer does not wait. -/
theorem access_write {s : State} {m off : Nat} {p : Page} {v : Word} (h : s.Accepts m p off v) (hn : p.inst < p.kind.info.2.1)
    (ho : off < 0x1000) (h4 : off % 4 = 0) (hs : isStart p off v = false) (hl : ¬ (p.kind = .log ∧ off = 0x058))
    (hw : ((s.begun p off).effectOf m p off ((s.begun p off).view m p off) v).waits = false) :
    access (busWrite m (p.base + off) 15 v) s =
      (State.effectAt m p off ((s.begun p off).view m p off) v (s.recorded m p off v)).done m p off := by
  have hr : ((s.begun p off).effectOf m p off ((s.begun p off).view m p off) v).refuses = none := h.block
  have hla : ((s.begun p off).effectOf m p off ((s.begun p off).view m p off) v).logAfter = false := by
    simp only [State.effectOf, hs, Bool.false_or, decide_eq_false_iff_not]; exact hl
  have hen : ((s.begun p off).effectOf m p off ((s.begun p off).view m p off) v).entry = none := by
    simp only [State.effectOf, hs, Bool.false_eq_true, if_false]; rw [if_neg hl]
  have hpw : pageWrite m p off 15 v s.forgetAnswer =
      (State.effectAt m p off ((s.begun p off).view m p off) v (s.recorded m p off v)).answer m true (p.base + off) [] 0 := by
    have hb : s.begun p off =
        if p.kind = .serdes ∧ 0x100 ≤ off ∧ off % 0x40 = 0x00 then s.forgetAnswer.drift p.inst (offLane off) else s.forgetAnswer := rfl
    simp only [pageWrite]
    rw [← hb]
    simp only [State.writeReg, h.checks, hr, h.room, hla, hw, State.logEffect, hen, Bool.false_eq_true, if_false]
    rfl
  have hb := busAccess_page (s := s.forgetAnswer) (e := { master := m, addr := p.base + off, write := true, value := v }) (p := p) (off := off)
    h.turn rfl rfl rfl hn ho h4
  simp only [if_true, hpw] at hb
  have hc := conclude_answered (State.effectAt m p off ((s.begun p off).view m p off) v (s.recorded m p off v))
    { master := m, addr := p.base + off, write := true, value := v, time := s.now } [] rfl rfl rfl rfl
  have e : busWrite m (p.base + off) 15 v s.forgetAnswer =
      (State.effectAt m p off ((s.begun p off).view m p off) v (s.recorded m p off v)).done m p off := hb.trans hc
  simp only [access, h.running, Bool.false_eq_true, if_false, e]
  exact noteRejection_good (by simp only [State.done, heard_code]; rfl)

/-- An accepted read. -/
theorem access_read {s : State} {m off : Nat} {p : Page} (h : s.AcceptsRead m p off) (hn : p.inst < p.kind.info.2.1)
    (ho : off < 0x1000) (h4 : off % 4 = 0) :
    let r := if p.kind = .creel ∧ off = 0x160 then busPop p.inst m s.forgetAnswer else readEffect m p off s.forgetAnswer
    access (busRead m (p.base + off)) s = r.1.readDone m p off r.2 := by
  intro r
  have hpr : pageRead m p off s.forgetAnswer = r.1.answer m false (p.base + off) [r.2] 0 := by
    simp only [pageRead, State.readReg, h.checks, h.block]; rfl
  have hb := busAccess_page (s := s.forgetAnswer) (e := { master := m, addr := p.base + off }) (p := p) (off := off)
    h.turn rfl rfl rfl hn ho h4
  simp only [Bool.false_eq_true, if_false, hpr] at hb
  have hc := conclude_answered r.1 { master := m, addr := p.base + off, time := s.now } [r.2] rfl rfl rfl rfl
  have e : busRead m (p.base + off) s.forgetAnswer = r.1.readDone m p off r.2 := hb.trans hc
  simp only [access, h.running, Bool.false_eq_true, if_false, e]
  exact noteRejection_good (by simp only [State.readDone, heard_code]; rfl)

end Sys2Proof.Machine
end

