-- ==== Sys2Proof/Laws/FollowsFabric.lean ====
section
/-!
SUPPORT. What `Follows` says, kept by the operations of bridges, ports, cells, pins, shuttles, fabric bus ports and the pick cycle.
-/

namespace Sys2Proof.Machine

/-! Machine/Bridge.lean -/

theorem State.setBridge_follows {z : State} (s : State) (n : Nat) (v : Bridge) (hz : Follows z s) : Follows z (State.setBridge s n v) :=
  hz.bridges (fun c => SMap.wf_set c.bridges)

theorem State.svEvent_follows {z : State} (s : State) (n j : Nat) (hz : Follows z s) : Follows z (State.svEvent s n j) := by
  unfold State.svEvent; repeat' with_reducible (first | assumption | apply State.pulse_follows)

theorem State.overrun_follows {z : State} (s : State) (n : Nat) (hz : Follows z s) : Follows z (State.overrun s n) := by
  unfold State.overrun
  repeat' with_reducible (first | assumption | apply State.count_follows | apply State.svEvent_follows)

theorem State.setPace_follows {z : State} (s : State) (g : Nat) (v : Pace) (hz : Follows z s) : Follows z (State.setPace s g v) :=
  hz.paces (fun c => SMap.wf_set c.paces)

theorem State.presentNext_follows {z : State} (s : State) (n : Nat) (hz : Follows z s) : Follows z (State.presentNext s n) := by
  unfold State.presentNext
  try dsimp only
  repeat' first | with_reducible (first | assumption | apply State.setBridge_follows) | split

theorem sample2_follows {z : State} (n : Nat) (sampled : SampleTime) (s : State) (hz : Follows z s) :
    Follows z (sample2 n sampled s) := by
  unfold sample2
  repeat' first
    | with_reducible assumption | with_reducible apply State.count_follows | with_reducible apply State.setBridge_follows
    | with_reducible apply State.svEvent_follows | with_reducible apply State.presentNext_follows | with_reducible apply Follows.ite

theorem holdOfferOp_follows {z : State} (n : Nat) (x : Dword) (s : State) (hz : Follows z s) : Follows z (holdOfferOp n x s) := by
  unfold holdOfferOp
  repeat' with_reducible (first | assumption | apply State.setBridge_follows | apply State.overrun_follows | apply Follows.ite)

theorem pulseIn_follows {z : State} (n : Nat) (s : State) (hz : Follows z s) : Follows z (pulseIn n s) := by
  unfold pulseIn
  repeat' with_reducible (first | assumption | apply State.setBridge_follows | apply State.overrun_follows | apply Follows.ite)

theorem State.enqueue_follows {z : State} (s : State) (n : Nat) (x : Dword) (hz : Follows z s) : Follows z (State.enqueue s n x) := by
  unfold State.enqueue; repeat' with_reducible (first | assumption | apply State.setBridge_follows)

theorem State.sinkTake_follows {z : State} (s : State) (n : Nat) (x : Dword) (hz : Follows z s) : Follows z (State.sinkTake s n x) := by
  unfold State.sinkTake
  repeat' first
    | with_reducible assumption | with_reducible apply State.setBridge_follows | with_reducible apply holdOfferOp_follows
    | with_reducible apply pulseIn_follows | with_reducible apply State.enqueue_follows | with_reducible apply Follows.ite

theorem State.takeParked_follows {z : State} (s : State) (n : Nat) (hz : Follows z s) : Follows z (State.takeParked s n) := by
  unfold State.takeParked
  repeat' first | with_reducible (first | assumption | apply State.sinkTake_follows) | split

theorem sinkToken_follows {z : State} (n : Nat) (x : Dword) (s : State) (hz : Follows z s) : Follows z (sinkToken n x s) := by
  unfold sinkToken
  repeat' with_reducible (first | assumption | apply State.setBridge_follows | apply State.sinkTake_follows | apply Follows.ite)

theorem chanTaken_follows {z : State} (n : Nat) (s : State) (hz : Follows z s) : Follows z (chanTaken n s) := by
  unfold chanTaken
  repeat' with_reducible (first | assumption | apply State.setBridge_follows | apply State.presentNext_follows | apply Follows.ite)

theorem clockedWrite_follows {z : State} (n : Nat) (x : Dword) (s : State) (hz : Follows z s) : Follows z (clockedWrite n x s) := by
  unfold clockedWrite
  repeat' first
    | with_reducible assumption | with_reducible apply State.setBridge_follows | with_reducible apply holdOfferOp_follows
    | with_reducible apply pulseIn_follows | with_reducible apply State.enqueue_follows | with_reducible apply Follows.ite

theorem clockedRead_follows {z : State} (n : Nat) (s : State) (hz : Follows z s) : Follows z (clockedRead n s) := by
  unfold clockedRead
  repeat' with_reducible (first | assumption | apply State.setBridge_follows | apply State.takeParked_follows | apply Follows.ite)

theorem State.zeroSide_follows {z : State} (s : State) (n : Nat) (fabric : Bool) (hz : Follows z s) :
    Follows z (State.zeroSide s n fabric) := by
  unfold State.zeroSide
  repeat' with_reducible (first | assumption | apply State.count_follows | apply State.setBridge_follows | apply Follows.ite)

theorem State.startResync_follows {z : State} (s : State) (n : Nat) (fabric : Bool) (hz : Follows z s) :
    Follows z (State.startResync s n fabric) := by
  unfold State.startResync
  repeat' with_reducible (first | assumption | apply State.setBridge_follows | apply State.zeroSide_follows | apply Follows.ite)

theorem State.resyncCross_follows {z : State} (s : State) (n : Nat) (hz : Follows z s) : Follows z (State.resyncCross s n) := by
  unfold State.resyncCross
  repeat' first
    | with_reducible assumption | with_reducible apply State.setBridge_follows | with_reducible apply State.svEvent_follows
    | with_reducible apply State.takeParked_follows | with_reducible apply State.zeroSide_follows | with_reducible apply Follows.ite

theorem State.itemCross_follows {z : State} (s : State) (n : Nat) (d : FlagDir) (hz : Follows z s) :
    Follows z (State.itemCross s n d) := by
  unfold State.itemCross
  try dsimp only
  repeat' first | with_reducible (first | assumption | apply State.setBridge_follows | apply State.presentNext_follows) | split

theorem flagCrossed_follows {z : State} (n : Nat) (d : FlagDir) (s : State) (hz : Follows z s) : Follows z (flagCrossed n d s) := by
  unfold flagCrossed
  try dsimp only
  repeat' first
    | with_reducible assumption | with_reducible apply State.setBridge_follows | with_reducible apply State.presentNext_follows
    | with_reducible apply State.resyncCross_follows | with_reducible apply State.itemCross_follows | split

theorem clockLostOp_follows {z : State} (n : Nat) (t : Nat) (s : State) (hz : Follows z s) : Follows z (clockLostOp n t s) := by
  unfold clockLostOp
  repeat' first
    | with_reducible assumption | with_reducible apply State.at_follows | with_reducible apply State.count_follows
    | with_reducible apply State.setBridge_follows | with_reducible apply State.svEvent_follows | with_reducible apply Follows.ite

theorem clockBack_follows {z : State} (n : Nat) (s : State) (hz : Follows z s) : Follows z (clockBack n s) := by
  unfold clockBack
  repeat' with_reducible (first | assumption | apply State.setBridge_follows | apply State.takeParked_follows | apply Follows.ite)

theorem State.commitBridge_follows {z : State} (s : State) (n : Nat) (hz : Follows z s) : Follows z (State.commitBridge s n) := by
  unfold State.commitBridge
  repeat' with_reducible (first | assumption | apply State.setBridge_follows | apply Follows.ite)

theorem State.commitBridges_follows {z : State} (s : State) (b : Nat) (hz : Follows z s) : Follows z (State.commitBridges s b) := by
  unfold State.commitBridges
  repeat' with_reducible (first | assumption | apply State.commitBridge_follows | apply Follows.foldl)

theorem State.restoreBridge_follows {z : State} (s : State) (n : Nat) (hz : Follows z s) : Follows z (State.restoreBridge s n) := by
  unfold State.restoreBridge
  repeat' with_reducible (first | assumption | apply State.setBridge_follows | apply Follows.ite)

theorem State.restoreBridges_follows {z : State} (s : State) (b : Nat) (hz : Follows z s) : Follows z (State.restoreBridges s b) := by
  unfold State.restoreBridges
  repeat' with_reducible (first | assumption | apply State.restoreBridge_follows | apply Follows.foldl)

theorem State.resumeBridges_follows {z : State} (s : State) (b : Nat) (hz : Follows z s) : Follows z (State.resumeBridges s b) := by
  unfold State.resumeBridges
  repeat' first
    | intro _ | with_reducible assumption | with_reducible apply State.presentNext_follows
    | with_reducible apply State.takeParked_follows | with_reducible apply Follows.foldl

theorem State.paceEvent_follows {z : State} (s : State) (g j : Nat) (hz : Follows z s) : Follows z (State.paceEvent s g j) := by
  unfold State.paceEvent; repeat' with_reducible (first | assumption | apply State.pulse_follows)

theorem State.paceLock_follows {z : State} (s : State) (g : Nat) (on relock : Bool) (hz : Follows z s) :
    Follows z (State.paceLock s g on relock) := by
  unfold State.paceLock; repeat' with_reducible (first | assumption | apply State.setPace_follows)

theorem paceTaken_follows {z : State} (g : Nat) (s : State) (hz : Follows z s) : Follows z (paceTaken g s) := by
  unfold paceTaken
  try dsimp only
  repeat' first
    | with_reducible assumption | with_reducible apply State.setPace_follows | with_reducible apply State.paceEvent_follows
    | with_reducible apply State.paceLock_follows | split

theorem paceLockedOp_follows {z : State} (g : Nat) (s : State) (hz : Follows z s) : Follows z (paceLockedOp g s) := by
  unfold paceLockedOp
  repeat' with_reducible (first | assumption | apply State.paceEvent_follows | apply State.paceLock_follows | apply Follows.ite)

theorem paceRefLostOp_follows {z : State} (g : Nat) (s : State) (hz : Follows z s) : Follows z (paceRefLostOp g s) := by
  unfold paceRefLostOp
  repeat' first
    | with_reducible assumption | with_reducible apply State.count_follows | with_reducible apply State.setPace_follows
    | with_reducible apply State.paceEvent_follows | with_reducible apply State.paceLock_follows | with_reducible apply Follows.ite

theorem paceRefBack_follows {z : State} (g : Nat) (s : State) (hz : Follows z s) : Follows z (paceRefBack g s) := by
  unfold paceRefBack
  repeat' with_reducible (first | assumption | apply State.setPace_follows | apply Follows.ite)

theorem paceLockLostOp_follows {z : State} (g : Nat) (s : State) (hz : Follows z s) : Follows z (paceLockLostOp g s) := by
  unfold paceLockLostOp
  repeat' first
    | with_reducible assumption | with_reducible apply State.count_follows | with_reducible apply State.paceEvent_follows
    | with_reducible apply State.paceLock_follows | with_reducible apply Follows.ite

/-! Machine/BusPorts.lean -/

theorem State.setFbp_follows {z : State} (s : State) (n : Nat) (v : Fbp) (hz : Follows z s) : Follows z (State.setFbp s n v) :=
  hz.fbps (fun c => SMap.wf_set c.fbps)

theorem State.fbpEvent_follows {z : State} (s : State) (n j : Nat) (hz : Follows z s) : Follows z (State.fbpEvent s n j) := by
  unfold State.fbpEvent; repeat' with_reducible (first | assumption | apply State.pulse_follows)

theorem State.admitOne_follows {z : State} (s : State) (n : Nat) (hz : Follows z s) : Follows z (State.admitOne s n) := by
  unfold State.admitOne
  repeat' first
    | with_reducible assumption | with_reducible apply State.setFbp_follows | split
    | fail_if_no_progress with_reducible apply Follows.same

theorem State.admitAll_follows {z : State} (s : State) (n : Nat) (hz : Follows z s) : Follows z (State.admitAll s n) := by
  unfold State.admitAll
  repeat' first | intro _ | with_reducible (first | assumption | apply State.admitOne_follows | apply Follows.foldl)

theorem State.presentPort_follows {z : State} (s : State) (n : Nat) (hz : Follows z s) : Follows z (State.presentPort s n) := by
  unfold State.presentPort
  repeat' with_reducible (first | assumption | apply State.setFbp_follows | apply Follows.ite)

theorem requestTaken_follows {z : State} (n : Nat) (s : State) (hz : Follows z s) : Follows z (requestTaken n s) := by
  unfold requestTaken
  repeat' with_reducible (first | assumption | apply State.setFbp_follows | apply Follows.ite)

theorem responseTaken_follows {z : State} (n : Nat) (s : State) (hz : Follows z s) : Follows z (responseTaken n s) := by
  unfold responseTaken
  repeat' with_reducible (first | assumption | apply State.setFbp_follows | apply Follows.ite)

theorem State.admitFbps_follows {z : State} (s : State) (b : Nat) (hz : Follows z s) : Follows z (State.admitFbps s b) := by
  unfold State.admitFbps
  repeat' first
    | intro _ | with_reducible assumption | with_reducible apply State.admitAll_follows | with_reducible apply State.presentPort_follows
    | with_reducible apply Follows.foldl

/-! Machine/Ports.lean -/

theorem State.setCell_follows {z : State} (s : State) (r c : Nat) (v : Cell) (hz : Follows z s) : Follows z (State.setCell s r c v) :=
  hz.cells (fun c => SMap.wf_set c.cells)

/-! Machine/Cells.lean -/

theorem State.settleBlocks_follows {z : State} (s : State) (hz : Follows z s) : Follows z (State.settleBlocks s) :=
  hz.trans ⟨rfl, Nat.le_refl _, fun c => { c with bridges := SMap.wf_foldl _ _ (fun _ _ hm => SMap.wf_set hm) c.bridges, fbps := SMap.wf_foldl _ _ (fun _ _ hm => SMap.wf_set hm) c.fbps, creels := SMap.wf_foldl _ _ (fun _ _ hm => SMap.wf_set hm) c.creels, twills := SMap.wf_foldl _ _ (fun _ _ hm => SMap.wf_set hm) c.twills }⟩

theorem State.settleAll_follows {z : State} (n : Nat) (s : State) (hz : Follows z s) : Follows z (State.settleAll n s) := by
  induction n generalizing s with
  | zero => exact hz
  | succ n ih =>
    have h := State.settleBlocks_follows s hz
    simp only [State.settleAll]
    split
    · exact h
    · exact ih _ h

theorem State.settleCells_follows {z : State} (s : State) (hz : Follows z s) : Follows z (State.settleCells s) :=
  hz.trans ⟨rfl, Nat.le_refl _, fun c => { c with joins := SMap.wf_foldl _ _ (fun _ _ hm => SMap.wf_set hm) c.joins, cells := SMap.wf_foldl _ _ (fun _ _ hm => SMap.wf_set hm) c.cells }⟩

theorem State.settle_follows {z : State} (s : State) (hz : Follows z s) : Follows z (State.settle s) := by
  unfold State.settle
  repeat' with_reducible (first | assumption | apply State.settleAll_follows | apply State.settleCells_follows)

theorem State.loadFF_follows {z : State} (s0 : State) (viol : Bool) (r : Nat) (s : State) (c : Nat) (hzs0 : Follows z s0)
    (hzs : Follows z s) :
    Follows z (State.loadFF s0 viol r s c) := by
  unfold State.loadFF; repeat' with_reducible (first | assumption | apply State.setCell_follows)

theorem State.used_follows {z : State} (s : State) (viol : Bool) (hz : Follows z s) : Follows z (State.used s viol) := by
  unfold State.used
  repeat' first | with_reducible (first | assumption | apply Follows.ite) | fail_if_no_progress with_reducible apply Follows.same

theorem bdJoin_follows {z : State} (r c : Nat) (s : State) (hz : Follows z s) : Follows z (bdJoin r c s) := by
  unfold bdJoin
  repeat' with_reducible (first | assumption | apply State.setCell_follows | apply Follows.ite)

theorem bdDelay_follows {z : State} (r c : Nat) (s : State) (hz : Follows z s) : Follows z (bdDelay r c s) := by
  unfold bdDelay
  repeat' with_reducible (first | assumption | apply State.setCell_follows | apply Follows.ite)

theorem bdCapture_follows {z : State} (r c : Nat) (viol : Bool) (s : State) (hz : Follows z s) : Follows z (bdCapture r c viol s) := by
  unfold bdCapture
  repeat' first
    | intro _ | with_reducible assumption | with_reducible apply State.setCell_follows | with_reducible apply State.settle_follows
    | with_reducible apply State.loadFF_follows | with_reducible apply State.used_follows | with_reducible apply Follows.ite
    | with_reducible apply Follows.foldl

theorem bdReqsFall_follows {z : State} (r c : Nat) (s : State) (hz : Follows z s) : Follows z (bdReqsFall r c s) := by
  unfold bdReqsFall
  repeat' with_reducible (first | assumption | apply State.setCell_follows | apply State.settle_follows | apply Follows.ite)

theorem bdAckRise_follows {z : State} (r c : Nat) (s : State) (hz : Follows z s) : Follows z (bdAckRise r c s) := by
  unfold bdAckRise
  repeat' with_reducible (first | assumption | apply State.setCell_follows | apply State.settle_follows | apply Follows.ite)

theorem bdAckFall_follows {z : State} (r c : Nat) (s : State) (hz : Follows z s) : Follows z (bdAckFall r c s) := by
  unfold bdAckFall
  repeat' with_reducible (first | assumption | apply State.setCell_follows | apply Follows.ite)

theorem twoSlot_follows {z : State} (r c : Nat) (s : State) (hz : Follows z s) : Follows z (twoSlot r c s) := by
  unfold twoSlot
  repeat' with_reducible (first | assumption | apply State.setCell_follows | apply State.settle_follows | apply Follows.ite)

theorem drSet_follows {z : State} (r c : Nat) (viol : Bool) (s : State) (hz : Follows z s) : Follows z (drSet r c viol s) := by
  unfold drSet
  repeat' first
    | with_reducible assumption | with_reducible apply State.setCell_follows | with_reducible apply State.settle_follows
    | with_reducible apply State.used_follows | with_reducible apply Follows.ite

theorem drAckRise_follows {z : State} (r c : Nat) (s : State) (hz : Follows z s) : Follows z (drAckRise r c s) := by
  unfold drAckRise
  repeat' with_reducible (first | assumption | apply State.setCell_follows | apply State.settle_follows | apply Follows.ite)

theorem drClear_follows {z : State} (r c : Nat) (s : State) (hz : Follows z s) : Follows z (drClear r c s) := by
  unfold drClear
  repeat' with_reducible (first | assumption | apply State.setCell_follows | apply State.settle_follows | apply Follows.ite)

theorem drAckFall_follows {z : State} (r c : Nat) (s : State) (hz : Follows z s) : Follows z (drAckFall r c s) := by
  unfold drAckFall
  repeat' with_reducible (first | assumption | apply State.setCell_follows | apply State.settle_follows | apply Follows.ite)

theorem drDone_follows {z : State} (r c : Nat) (s : State) (hz : Follows z s) : Follows z (drDone r c s) := by
  unfold drDone
  repeat' with_reducible (first | assumption | apply State.setCell_follows | apply Follows.ite)

theorem clockedLoad_follows {z : State} (r c : Nat) (viol race : Bool) (s : State) (hz : Follows z s) :
    Follows z (clockedLoad r c viol race s) := by
  unfold clockedLoad
  repeat' first
    | with_reducible assumption | with_reducible apply State.setCell_follows | with_reducible apply State.settle_follows
    | with_reducible apply State.loadFF_follows | with_reducible apply State.used_follows | with_reducible apply Follows.ite

theorem State.releaseCells_follows {z : State} (s : State) (which : Nat → Bool) (hz : Follows z s) : Follows z
    (State.releaseCells s which) :=
  hz.trans ⟨rfl, Nat.le_refl _, fun c => { c with cells := SMap.wf_foldl _ _ (fun _ _ hm => SMap.wf_set hm) (SMap.wf_filter _ c.cells), joins := SMap.wf_filter _ c.joins }⟩

theorem State.mapCells_follows {z : State} (s : State) (which : Nat → Bool) (f : Cell → Cell) (hz : Follows z s) : Follows z
    (State.mapCells s which f) :=
  hz.trans ⟨rfl, Nat.le_refl _, fun c => { c with cells := SMap.wf_foldl _ _ (fun _ _ hm => by split; exacts [SMap.wf_set hm, hm]) c.cells }⟩

theorem State.commitCells_follows {z : State} (s : State) (b : Nat) (hz : Follows z s) : Follows z (State.commitCells s b) := by
  unfold State.commitCells; repeat' with_reducible (first | assumption | apply State.mapCells_follows)

theorem State.restoreCells_follows {z : State} (s : State) (which : Nat → Bool) (hz : Follows z s) :
    Follows z (State.restoreCells s which) := by
  unfold State.restoreCells
  repeat' with_reducible (first | assumption | apply State.settle_follows | apply State.mapCells_follows)

theorem corrupt_follows {z : State} (f k : Nat) (mask : Dword) (s : State) (hz : Follows z s) : Follows z (corrupt f k mask s) := by
  unfold corrupt
  repeat' with_reducible (first | assumption | apply State.setCfgWord_follows | apply State.settle_follows)

theorem strayOps_follows {z : State} : ∀ op ∈ strayOps, ∀ r c s, Follows z s → Follows z (op r c s) := by
  intro op h r c s hz
  simp only [strayOps, List.mem_cons, List.not_mem_nil, or_false] at h
  rcases h with rfl | rfl | rfl | rfl | rfl | rfl | rfl | rfl | rfl
  exacts [bdJoin_follows _ _ _ hz, bdReqsFall_follows _ _ _ hz, bdAckRise_follows _ _ _ hz, bdAckFall_follows _ _ _ hz,
    drSet_follows _ _ _ _ hz, drAckRise_follows _ _ _ hz, drClear_follows _ _ _ hz, drAckFall_follows _ _ _ hz, drDone_follows _ _ _ hz]

theorem State.straySteps_follows {z : State} (s : State) (hz : Follows z s) : Follows z s.straySteps := by
  unfold State.straySteps
  dsimp only
  refine Follows.foldlMem _ _ hz (fun t e he ht => ?_)
  split
  · obtain ⟨c, -, hc⟩ := List.mem_flatMap.mp (List.fst_mem_of_mem_zipIdx he)
    obtain ⟨op, ho, h⟩ := List.mem_map.mp hc
    rw [← h]; exact strayOps_follows op ho _ _ t ht
  · exact ht

theorem State.strayAt_follows {z : State} (s : State) (r off : Nat) (hz : Follows z s) : Follows z (State.strayAt s r off) := by
  unfold State.strayAt
  repeat' first
    | with_reducible assumption | with_reducible apply State.setCfgWord_follows | with_reducible apply Follows.ite
    | fail_if_no_progress with_reducible apply Follows.same

theorem selectMoved_follows {z : State} (f off : Nat) (s : State) (hz : Follows z s) : Follows z (selectMoved f off s) := by
  unfold selectMoved
  dsimp only
  split
  · refine Follows.same ?_
    split
    · exact State.settle_follows _ (Follows.blocks
        (State.straySteps_follows _ (State.settle_follows _ (State.strayAt_follows s _ _ (Follows.refl s)))) hz)
    · exact hz
  · exact hz

theorem State.leaked_follows {z : State} (s : State) (handshake : Bool) (b : Nat) (hz : Follows z s) :
    Follows z (State.leaked s handshake b) := by
  unfold State.leaked
  repeat' first
    | with_reducible assumption | with_reducible apply State.setBit_follows | with_reducible apply State.count_follows
    | with_reducible apply State.setBolt_follows | with_reducible apply State.raiseCommit_follows | with_reducible apply Follows.ite

theorem domainLeak_follows {z : State} (r : Nat) (tap : Option Nat) (handshake : Bool) (s : State) (hz : Follows z s) :
    Follows z (domainLeak r tap handshake s) := by
  unfold domainLeak
  repeat' first | intro _ | with_reducible (first | assumption | apply State.leaked_follows | apply Follows.foldl)

/-! Machine/Pins.lean -/

theorem State.setPin_follows {z : State} (s : State) (p : Nat) (v : Pin) (hz : Follows z s) : Follows z (State.setPin s p v) :=
  hz.pins (fun c => SMap.wf_set c.pins)

theorem State.pinEvent_follows {z : State} (s : State) (p j : Nat) (hz : Follows z s) : Follows z (State.pinEvent s p j) := by
  unfold State.pinEvent; repeat' with_reducible (first | assumption | apply State.pulse_follows)

theorem State.refreshPort_follows {z : State} (s : State) (n : Nat) (hz : Follows z s) : Follows z (State.refreshPort s n) := by
  unfold State.refreshPort
  repeat' with_reducible (first | assumption | apply Follows.portIn (fun c => SMap.wf_set c.portIn) | apply Follows.ite)

theorem State.refreshCode_follows {z : State} (s : State) (code : Nat) (hz : Follows z s) : Follows z (State.refreshCode s code) := by
  unfold State.refreshCode
  repeat' with_reducible (first | assumption | apply State.refreshPort_follows | apply Follows.ite)

theorem State.refreshPins_follows {z : State} (s : State) (ps : List Nat) (hz : Follows z s) : Follows z (State.refreshPins s ps) := by
  unfold State.refreshPins
  repeat' first | intro _ | with_reducible (first | assumption | apply State.refreshCode_follows | apply Follows.foldl)

theorem pinMapWritten_follows {z : State} (p : Nat) (before : Word) (s : State) (hz : Follows z s) :
    Follows z (pinMapWritten p before s) := by
  unfold pinMapWritten
  repeat' first
    | with_reducible assumption | with_reducible apply Follows.pickedSample (fun c => SMap.wf_set c.portSample)
    | with_reducible apply State.settle_follows | with_reducible apply State.setPin_follows | with_reducible apply State.pinEvent_follows
    | with_reducible apply State.refreshCode_follows | with_reducible apply Follows.ite

theorem pinPadWritten_follows {z : State} (p : Nat) (before : Word) (s : State) (hz : Follows z s) :
    Follows z (pinPadWritten p before s) := by
  unfold pinPadWritten
  repeat' first
    | with_reducible assumption | with_reducible apply State.settle_follows | with_reducible apply State.setPin_follows
    | with_reducible apply State.refreshPort_follows | with_reducible apply State.refreshPins_follows | with_reducible apply Follows.ite

theorem State.connectPin_follows {z : State} (s : State) (p : Nat) (hz : Follows z s) : Follows z (State.connectPin s p) := by
  unfold State.connectPin
  repeat' first
    | with_reducible assumption | with_reducible apply State.settle_follows | with_reducible apply State.setPin_follows
    | with_reducible apply State.pinEvent_follows | with_reducible apply State.refreshCode_follows

theorem changeoverEnd_follows {z : State} (p : Nat) (t : Nat) (s : State) (hz : Follows z s) : Follows z (changeoverEnd p t s) := by
  unfold changeoverEnd
  try dsimp only
  repeat' first | with_reducible (first | assumption | apply State.setPin_follows | apply State.connectPin_follows) | split

theorem filterPass_follows {z : State} (p : Nat) (level : Bool) (s : State) (hz : Follows z s) : Follows z (filterPass p level s) := by
  unfold filterPass
  repeat' with_reducible (first | assumption | apply State.settle_follows | apply State.setPin_follows | apply State.refreshPins_follows)

theorem State.receive_follows {z : State} (s : State) (p : Nat) (level : Bool) (hz : Follows z s) :
    Follows z (State.receive s p level) := by
  unfold State.receive
  repeat' with_reducible (first | assumption | apply State.setPin_follows | apply State.refreshPins_follows)

theorem State.commitOutputs_follows {z : State} (s : State) (b : Nat) (hz : Follows z s) : Follows z (State.commitOutputs s b) := by
  unfold State.commitOutputs
  repeat' first
    | intro _ | with_reducible assumption | with_reducible apply State.setPin_follows | with_reducible apply State.connectPin_follows
    | with_reducible apply Follows.ite | with_reducible apply Follows.foldl

theorem State.sampleInputs_follows {z : State} (s : State) (b : Nat) (hz : Follows z s) : Follows z (State.sampleInputs s b) := by
  unfold State.sampleInputs
  repeat' first
    | intro _ | with_reducible assumption | with_reducible apply Follows.portSample (fun c => SMap.wf_set c.portSample)
    | with_reducible apply Follows.foldl

theorem State.presentInputs_follows {z : State} (s : State) (b : Nat) (hz : Follows z s) : Follows z (State.presentInputs s b) := by
  unfold State.presentInputs
  repeat' first
    | intro _ | with_reducible assumption | with_reducible apply Follows.portIn (fun c => SMap.wf_set c.portIn)
    | with_reducible apply State.refreshPort_follows | with_reducible apply Follows.foldl
    | fail_if_no_progress with_reducible apply Follows.same

theorem State.clearPinRegs_follows {z : State} (s : State) (which : Nat → Bool) (hz : Follows z s) :
    Follows z (State.clearPinRegs s which) := by
  unfold State.clearPinRegs
  repeat' first
    | with_reducible assumption
    | with_reducible apply Follows.pins (fun c => SMap.wf_foldl _ _ (fun _ _ hm => by split; exacts [SMap.wf_set hm, hm]) c.pins)

theorem State.keepLevels_follows {z : State} (s : State) (hz : Follows z s) : Follows z (State.keepLevels s) := by
  unfold State.keepLevels
  repeat' first
    | with_reducible assumption
    | with_reducible apply Follows.pins (fun c => SMap.wf_foldl _ _ (fun _ _ hm => SMap.wf_set hm) (by first | exact c.pins | exact SMap.wf_nil _))

theorem State.noteVcco_follows {z : State} (s : State) (b mv : Nat) (hz : Follows z s) : Follows z (State.noteVcco s b mv) := by
  unfold State.noteVcco; repeat' with_reducible (first | assumption | apply State.setReg_follows)

theorem bankWarn_follows {z : State} (b mv : Nat) (s : State) (hz : Follows z s) : Follows z (bankWarn b mv s) := by
  unfold bankWarn
  repeat' first
    | with_reducible assumption | with_reducible apply Follows.bankOk (fun c => SMap.wf_set c.bankOk)
    | with_reducible apply State.setBit_follows | with_reducible apply State.pulse_follows | with_reducible apply State.noteVcco_follows
    | with_reducible apply Follows.ite

theorem State.resetBankBridges_follows {z : State} (s : State) (b : Nat) (hz : Follows z s) : Follows z (State.resetBankBridges s b) := by
  unfold State.resetBankBridges
  repeat' first | intro _ | with_reducible (first | assumption | apply State.startResync_follows | apply Follows.foldl)

theorem bankDisable_follows {z : State} (b mv : Nat) (s : State) (hz : Follows z s) : Follows z (bankDisable b mv s) := by
  unfold bankDisable
  repeat' first
    | with_reducible assumption | with_reducible apply State.setBit_follows | with_reducible apply State.pulse_follows
    | with_reducible apply State.settle_follows | with_reducible apply State.refreshPins_follows | with_reducible apply bankWarn_follows
    | with_reducible apply State.resetBankBridges_follows | with_reducible apply Follows.ite

theorem State.enableBank_follows {z : State} (s : State) (b : Nat) (hz : Follows z s) : Follows z (State.enableBank s b) := by
  unfold State.enableBank
  repeat' first
    | with_reducible assumption | with_reducible apply State.setBit_follows | with_reducible apply State.pulse_follows
    | with_reducible apply State.settle_follows | with_reducible apply State.refreshPins_follows | with_reducible apply Follows.ite

theorem bankRecovered_follows {z : State} (b : Nat) (s : State) (hz : Follows z s) : Follows z (bankRecovered b s) := by
  unfold bankRecovered
  repeat' first
    | with_reducible assumption | with_reducible apply Follows.bankOk (fun c => SMap.wf_set c.bankOk)
    | with_reducible apply State.setBit_follows | with_reducible apply State.enableBank_follows | with_reducible apply Follows.ite

theorem State.bankRecoded_follows {z : State} (s : State) (b old : Nat) (hz : Follows z s) : Follows z (State.bankRecoded s b old) := by
  unfold State.bankRecoded
  repeat' with_reducible (first | assumption | apply Follows.bankOk (fun c => SMap.wf_set c.bankOk) | apply Follows.ite)

theorem State.setPattern_follows {z : State} (s : State) (u : Nat) (v : Pattern) (hz : Follows z s) : Follows z (State.setPattern s u v) :=
  hz.patterns (fun c => SMap.wf_set c.patterns)

theorem patternWritten_follows {z : State} (u : Nat) (wasOn : Bool) (s : State) (hz : Follows z s) :
    Follows z (patternWritten u wasOn s) := by
  unfold patternWritten; repeat' with_reducible (first | assumption | apply State.setPattern_follows)

theorem vectorChange_follows {z : State} (u seen : Nat) (s0 : State) (hz : Follows z s0) : Follows z (vectorChange u seen s0) := by
  unfold vectorChange
  repeat' first
    | intro _ | with_reducible assumption | with_reducible apply State.settle_follows | with_reducible apply State.receive_follows
    | with_reducible apply State.setPattern_follows | with_reducible apply Follows.ite | with_reducible apply Follows.foldl

theorem recordMatch_follows {z : State} (u : Nat) (s : State) (hz : Follows z s) : Follows z (recordMatch u s) := by
  unfold recordMatch
  repeat' first
    | with_reducible assumption | with_reducible apply State.setReg_follows | with_reducible apply State.count_follows
    | with_reducible apply State.pulse_follows | with_reducible apply State.setPattern_follows | with_reducible apply Follows.ite

theorem patternClear_follows {z : State} (mask : Nat) (s : State) (hz : Follows z s) : Follows z (patternClear mask s) := by
  unfold patternClear
  repeat' first
    | intro _ | with_reducible assumption | with_reducible apply State.setReg_follows | with_reducible apply State.setFld_follows
    | with_reducible apply Follows.ite | with_reducible apply Follows.foldl

theorem patternStickyCleared_follows {z : State} (mask : Nat) (s : State) (hz : Follows z s) :
    Follows z (patternStickyCleared mask s) := by
  unfold patternStickyCleared
  repeat' first | intro _ | with_reducible (first | assumption | apply State.setBit_follows | apply Follows.ite | apply Follows.foldl)

/-! Machine/Resume.lean -/

theorem State.resumeOpen_follows {z : State} (s : State) (b : Nat) (hz : Follows z s) : Follows z (State.resumeOpen s b) := by
  unfold State.resumeOpen
  repeat' first
    | with_reducible assumption | with_reducible apply State.openBolt_follows | with_reducible apply State.resumeStalled_follows
    | with_reducible apply State.resumeBridges_follows | with_reducible apply State.admitFbps_follows
    | with_reducible apply State.settle_follows | with_reducible apply State.presentInputs_follows | with_reducible apply Follows.ite

theorem State.setPwr_follows {z : State} (s : State) (k : Nat) (hz : Follows z s) : Follows z (State.setPwr s k) := by
  unfold State.setPwr; repeat' with_reducible (first | assumption | apply State.setReg_follows)

theorem State.pwrEvent_follows {z : State} (s : State) (bit v : Nat) (hz : Follows z s) : Follows z (State.pwrEvent s bit v) := by
  unfold State.pwrEvent; repeat' with_reducible (first | assumption | apply State.raise_follows)

theorem State.abandonEntry_follows {z : State} (s : State) (hz : Follows z s) : Follows z (State.abandonEntry s) := by
  unfold State.abandonEntry
  repeat' first
    | intro _ | with_reducible assumption | with_reducible apply State.setBolt_follows | with_reducible apply State.resumeOpen_follows
    | with_reducible apply State.setPwr_follows | with_reducible apply Follows.ite | with_reducible apply Follows.foldl
    | fail_if_no_progress with_reducible apply Follows.same

theorem State.wakeSource_follows {z : State} (s : State) (k : Nat) (hz : Follows z s) : Follows z (State.wakeSource s k) := by
  unfold State.wakeSource
  repeat' first
    | with_reducible assumption | with_reducible apply State.setReg_follows | with_reducible apply State.setBit_follows
    | with_reducible apply State.setPwr_follows | with_reducible apply State.pwrEvent_follows
    | with_reducible apply State.abandonEntry_follows | with_reducible apply Follows.ite
    | fail_if_no_progress with_reducible apply Follows.same

/-! Machine/Flags.lean -/

/-! Machine/Shuttle.lean -/

theorem State.setSh_follows {z : State} (st : State) (c s : Nat) (v : ShDir) (hz : Follows z st) : Follows z (State.setSh st c s v) :=
  hz.shuttles (fun c => SMap.wf_set c.shuttles)

theorem State.shEvent_follows {z : State} (st : State) (c s j : Nat) (hz : Follows z st) : Follows z (State.shEvent st c s j) := by
  unfold State.shEvent; repeat' with_reducible (first | assumption | apply State.pulse_follows)

theorem State.ackDropped_follows {z : State} (st : State) (c s n : Nat) (hz : Follows z st) : Follows z (State.ackDropped st c s n) := by
  unfold State.ackDropped; repeat' with_reducible (first | assumption | apply State.count_follows)

theorem State.countReject_follows {z : State} (st : State) (c s : Nat) (hz : Follows z st) : Follows z (State.countReject st c s) := by
  unfold State.countReject; repeat' with_reducible (first | assumption | apply State.count_follows)

theorem State.drainAcks_follows {z : State}  (a0 : Nat) (a1 : State) (a2 : Nat) (a3 : Nat) (hz : Follows z a1) :
    Follows z (State.drainAcks a0 a1 a2 a3) := by
  induction a0 generalizing a1 a2 a3 with
  | zero => unfold State.drainAcks; exact hz
  | succ k ih =>
    unfold State.drainAcks
    try dsimp only
    repeat' first | with_reducible (first | assumption | apply ih | apply State.setSh_follows | apply State.shEvent_follows) | split

theorem State.deviceAck_follows {z : State} (st : State) (c s seq code : Nat) (hz : Follows z st) :
    Follows z (State.deviceAck st c s seq code) := by
  unfold State.deviceAck
  repeat' with_reducible (first | assumption | apply State.setSh_follows | apply State.drainAcks_follows)

theorem State.startHead_follows {z : State} (st : State) (c s : Nat) (hz : Follows z st) : Follows z (State.startHead st c s) := by
  unfold State.startHead
  try dsimp only
  repeat' first | with_reducible (first | assumption | apply State.setSh_follows) | split

theorem txDropped_follows {z : State} (c s : Nat) (st : State) (hz : Follows z st) : Follows z (txDropped c s st) := by
  unfold txDropped
  repeat' with_reducible (first | assumption | apply State.setSh_follows | apply State.shEvent_follows | apply State.countReject_follows)

theorem txAppend_follows {z : State} (c s : Nat) (w : Word) (st : State) (hz : Follows z st) : Follows z (txAppend c s w st) := by
  unfold txAppend; repeat' with_reducible (first | assumption | apply State.setSh_follows)

theorem State.commitMsg_follows {z : State} (st : State) (c s : Nat) (hz : Follows z st) : Follows z (State.commitMsg st c s) := by
  unfold State.commitMsg
  repeat' first
    | with_reducible assumption | with_reducible apply State.wakeSource_follows | with_reducible apply State.setSh_follows
    | with_reducible apply State.shEvent_follows | with_reducible apply State.startHead_follows | with_reducible apply Follows.ite

theorem txCommitOrDrop_follows {z : State} (c s : Nat) (st : State) (hz : Follows z st) : Follows z (txCommitOrDrop c s st) := by
  unfold txCommitOrDrop
  repeat' with_reducible (first | assumption | apply State.setSh_follows | apply State.commitMsg_follows | apply Follows.ite)

theorem rxNext_follows {z : State} (c s : Nat) (st : State) (hz : Follows z st) : Follows z (rxNext c s st).1 := by
  unfold rxNext
  try dsimp only
  repeat' first | with_reducible (first | assumption | apply State.setSh_follows) | split

theorem ackDroppedWrite_follows {z : State} (c s : Nat) (st : State) (hz : Follows z st) : Follows z (ackDroppedWrite c s st) := by
  unfold ackDroppedWrite
  repeat' with_reducible (first | assumption | apply State.setSh_follows | apply State.shEvent_follows | apply State.countReject_follows)

theorem rxAckOp_follows {z : State} (c s code : Nat) (st : State) (hz : Follows z st) : Follows z (rxAckOp c s code st) := by
  unfold rxAckOp
  try dsimp only
  repeat' first
    | with_reducible assumption | with_reducible apply State.setSh_follows | with_reducible apply State.shEvent_follows
    | with_reducible apply State.ackDropped_follows | with_reducible apply State.startHead_follows | split

theorem ackPop_follows {z : State} (c s : Nat) (st : State) (hz : Follows z st) : Follows z (ackPop c s st).1 := by
  unfold ackPop
  try dsimp only
  repeat' first | with_reducible (first | assumption | apply State.setSh_follows | apply State.drainAcks_follows) | split

theorem ackExpire_follows {z : State} (c s t : Nat) (st : State) (hz : Follows z st) : Follows z (ackExpire c s t st) := by
  unfold ackExpire
  try dsimp only
  repeat' first
    | with_reducible assumption | with_reducible apply State.at_follows | with_reducible apply State.count_follows
    | with_reducible apply State.setSh_follows | with_reducible apply State.deviceAck_follows | split

theorem flushRxOp_follows {z : State} (c s code : Nat) (st : State) (hz : Follows z st) : Follows z (flushRxOp c s code st) := by
  unfold flushRxOp
  repeat' first
    | intro _ | with_reducible assumption | with_reducible apply State.count_follows | with_reducible apply State.setSh_follows
    | with_reducible apply State.ackDropped_follows | with_reducible apply State.deviceAck_follows | with_reducible apply Follows.ite
    | with_reducible apply Follows.foldl

theorem clearPeerReset_follows {z : State} (c s : Nat) (st : State) (hz : Follows z st) : Follows z (clearPeerReset c s st) := by
  unfold clearPeerReset; repeat' with_reducible (first | assumption | apply State.setSh_follows)

theorem State.sideReset_follows {z : State} (st : State) (c s : Nat) (hz : Follows z st) : Follows z (State.sideReset st c s) := by
  unfold State.sideReset
  repeat' with_reducible (first | assumption | apply State.setSh_follows | apply State.shEvent_follows | apply State.ackDropped_follows)

theorem rebound_follows {z : State} (c : Nat) (before : Word) (st : State) (hz : Follows z st) : Follows z (rebound c before st) := by
  unfold rebound
  repeat' with_reducible (first | assumption | apply State.setSh_follows | apply Follows.ite)

theorem State.lockBindingsOp_follows {z : State} (st : State) (hz : Follows z st) : Follows z (State.lockBindingsOp st) := by
  unfold State.lockBindingsOp
  repeat' first | intro _ | with_reducible (first | assumption | apply State.setBit_follows | apply Follows.foldl)

theorem State.setHolder_follows {z : State} (st : State) (n : Nat) (h : Option Nat) (hz : Follows z st) : Follows z
    (State.setHolder st n h) :=
  hz.semas (fun c => SMap.wf_set c.semas)

theorem lockRead_follows {z : State} (m n : Nat) (st : State) (hz : Follows z st) : Follows z (lockRead m n st).1 := by
  unfold lockRead
  repeat' first | with_reducible (first | assumption | apply State.setHolder_follows) | split

theorem releaseRefused_follows {z : State} (m n : Nat) (st : State) (hz : Follows z st) : Follows z (releaseRefused m n st) := by
  unfold releaseRefused
  repeat' with_reducible (first | assumption | apply State.count_follows | apply State.raise_follows)

theorem State.forceRelease_follows {z : State} (st : State) (n h kind : Nat) (hz : Follows z st) :
    Follows z (State.forceRelease st n h kind) := by
  unfold State.forceRelease
  repeat' first
    | with_reducible assumption | with_reducible apply State.setReg_follows | with_reducible apply State.count_follows
    | with_reducible apply State.raise_follows | with_reducible apply State.setHolder_follows

theorem State.semaHolderReset_follows {z : State} (st : State) (m : Nat) (hz : Follows z st) :
    Follows z (State.semaHolderReset st m) := by
  unfold State.semaHolderReset
  repeat' first
    | intro _ | with_reducible assumption | with_reducible apply State.logEntry_follows | with_reducible apply State.forceRelease_follows
    | with_reducible apply Follows.foldl

theorem State.identityReset_follows {z : State} (st : State) (m : Nat) (hz : Follows z st) : Follows z (State.identityReset st m) := by
  unfold State.identityReset
  repeat' first
    | intro _ | with_reducible assumption | with_reducible apply State.sideReset_follows
    | with_reducible apply State.semaHolderReset_follows | with_reducible apply Follows.ite | with_reducible apply Follows.foldl

/-! Machine/Aer.lean -/

theorem State.setPci_follows {z : State} (s : State) (f off : Nat) (v : Word) (hz : Follows z s) :
    Follows z (State.setPci s f off v) := by
  unfold State.setPci
  repeat' first | with_reducible assumption | fail_if_no_progress with_reducible apply Follows.same

theorem State.pciRaise_follows {z : State} (s : State) (f off k : Nat) (hz : Follows z s) : Follows z (State.pciRaise s f off k) := by
  unfold State.pciRaise; repeat' with_reducible (first | assumption | apply State.setPci_follows)

theorem State.pcieEvent_follows {z : State} (s : State) (k f : Nat) (hz : Follows z s) : Follows z (State.pcieEvent s k f) := by
  unfold State.pcieEvent; repeat' with_reducible (first | assumption | apply State.raise_follows)

theorem State.logHeader_follows {z : State} (s : State) (f : Nat) (hz : Follows z s) : Follows z (State.logHeader s f) := by
  unfold State.logHeader
  repeat' first
    | intro _ | with_reducible assumption | with_reducible apply State.tick_follows | with_reducible apply State.setPci_follows
    | with_reducible apply Follows.foldl

theorem State.aer_follows {z : State} (s : State) (f k : Nat) (hz : Follows z s) : Follows z (State.aer s f k) := by
  unfold State.aer
  repeat' first
    | with_reducible assumption | with_reducible apply State.setPci_follows | with_reducible apply State.pciRaise_follows
    | with_reducible apply State.logHeader_follows | with_reducible apply Follows.ite

theorem State.aerAdvisory_follows {z : State} (s : State) (f k : Nat) (hz : Follows z s) : Follows z (State.aerAdvisory s f k) := by
  unfold State.aerAdvisory
  repeat' with_reducible (first | assumption | apply State.pciRaise_follows | apply State.aer_follows)

theorem State.dropPosted_follows {z : State} (s : State) (hz : Follows z s) : Follows z (State.dropPosted s) := by
  unfold State.dropPosted
  repeat' with_reducible (first | assumption | apply State.count_follows | apply State.pcieEvent_follows)

/-! Machine/Fbp.lean -/

theorem State.hostDrop_follows {z : State} (s : State) (m : Nat) (hz : Follows z s) : Follows z (State.hostDrop s m) := by
  unfold State.hostDrop
  repeat' with_reducible (first | assumption | apply State.aerAdvisory_follows | apply State.dropPosted_follows)

theorem State.initAnswered_follows {z : State} (s : State) (n a : Nat) (we : Bool) (code : Nat) (data : Word) (hz : Follows z s) :
    Follows z (State.initAnswered s n a we code data) := by
  unfold State.initAnswered
  try dsimp only
  repeat' first | with_reducible (first | assumption | apply State.setFbp_follows) | split

theorem State.forgetAnswer_follows {z : State} (s : State) (hz : Follows z s) : Follows z (State.forgetAnswer s) := by
  unfold State.forgetAnswer
  repeat' first | with_reducible assumption | fail_if_no_progress with_reducible apply Follows.same

theorem State.partAnswered_follows {z : State} (s : State) (id k : Nat) (hz : Follows z s) : Follows z (State.partAnswered s id k) := by
  unfold State.partAnswered
  try dsimp only
  repeat' first
    | with_reducible assumption | with_reducible apply State.forgetAnswer_follows | split
    | fail_if_no_progress with_reducible apply Follows.same

theorem State.passOn_follows {z : State} (s : State) (e : Issued) (code : Nat) (data : Word) (hz : Follows z s) :
    Follows z (State.passOn s e code data) := by
  unfold State.passOn
  repeat' first
    | with_reducible assumption | with_reducible apply State.initAnswered_follows | with_reducible apply State.partAnswered_follows
    | split | fail_if_no_progress with_reducible apply Follows.same

theorem State.deliver_follows {z : State} (s : State) (e : Issued) (data : Word) (code : Nat) (hz : Follows z s) :
    Follows z (State.deliver s e data code) := by
  unfold State.deliver
  repeat' first
    | with_reducible assumption | with_reducible apply State.answer_follows | with_reducible apply State.hostDrop_follows
    | with_reducible apply State.passOn_follows | with_reducible apply Follows.ite

theorem State.endTimeout_follows {z : State} (s : State) (e : Issued) (hz : Follows z s) : Follows z (State.endTimeout s e) := by
  unfold State.endTimeout
  repeat' first
    | with_reducible assumption | with_reducible apply State.count_follows | with_reducible apply State.recordRejection_follows
    | with_reducible apply State.fbpEvent_follows | with_reducible apply State.deliver_follows | split

theorem busTimeoutOp_follows {z : State} (n t : Nat) (s : State) (hz : Follows z s) : Follows z (busTimeoutOp n t s) := by
  unfold busTimeoutOp
  repeat' first
    | with_reducible assumption | with_reducible apply State.at_follows | with_reducible apply State.endTimeout_follows | split
    | fail_if_no_progress with_reducible apply Follows.same

theorem State.issue_follows {z : State} (s : State) (e : Issued) (hz : Follows z s) : Follows z (State.issue s e) := by
  unfold State.issue
  repeat' first
    | with_reducible assumption | with_reducible apply State.admitAll_follows | split
    | fail_if_no_progress with_reducible apply Follows.same

theorem State.park_follows {z : State} (s : State) (e : Issued) (hz : Follows z s) : Follows z (State.park s e) := by
  unfold State.park
  repeat' first
    | with_reducible assumption | with_reducible apply State.forgetAnswer_follows | with_reducible apply Follows.ite
    | fail_if_no_progress with_reducible apply Follows.same

theorem State.duplicate_follows {z : State} (s : State) (n : Nat) (hz : Follows z s) : Follows z (State.duplicate s n) := by
  unfold State.duplicate
  repeat' with_reducible (first | assumption | apply State.count_follows | apply State.fbpEvent_follows)

theorem State.takeAnswer_follows {z : State} (s : State) (n : Nat) (x : Dword) (hz : Follows z s) :
    Follows z (State.takeAnswer s n x) := by
  unfold State.takeAnswer
  repeat' first
    | with_reducible assumption | with_reducible apply State.recordRejection_follows | with_reducible apply State.setFbp_follows
    | with_reducible apply State.admitAll_follows | with_reducible apply State.deliver_follows
    | with_reducible apply State.duplicate_follows | split | fail_if_no_progress with_reducible apply Follows.same

theorem targetResponse_follows {z : State} (n : Nat) (x : Dword) (s : State) (hz : Follows z s) : Follows z (targetResponse n x s) := by
  unfold targetResponse
  repeat' with_reducible (first | assumption | apply State.setFbp_follows | apply State.takeAnswer_follows | apply Follows.ite)

theorem State.unparkAnswer_follows {z : State} (s : State) (n : Nat) (hz : Follows z s) : Follows z (State.unparkAnswer s n) := by
  unfold State.unparkAnswer
  try dsimp only
  repeat' first | with_reducible (first | assumption | apply State.setFbp_follows | apply State.takeAnswer_follows) | split

theorem lateComplete_follows {z : State} (n : Nat) (s : State) (hz : Follows z s) : Follows z (lateComplete n s) := by
  unfold lateComplete
  repeat' first
    | with_reducible assumption | with_reducible apply State.count_follows | with_reducible apply State.setFbp_follows
    | with_reducible apply State.fbpEvent_follows | with_reducible apply Follows.ite

theorem State.endPortAccesses_follows {z : State} (s : State) (n : Nat) (hz : Follows z s) : Follows z (State.endPortAccesses s n) := by
  unfold State.endPortAccesses
  repeat' first
    | intro _ | with_reducible assumption | with_reducible apply State.count_follows | with_reducible apply State.setFbp_follows
    | with_reducible apply State.endTimeout_follows | with_reducible apply Follows.ite | with_reducible apply Follows.foldl
    | fail_if_no_progress with_reducible apply Follows.same

theorem State.resyncBridge_follows {z : State} (s : State) (br : Nat) (fabric : Bool) (hz : Follows z s) :
    Follows z (State.resyncBridge s br fabric) := by
  unfold State.resyncBridge
  repeat' with_reducible (first | assumption | apply State.startResync_follows | apply State.endPortAccesses_follows | apply Follows.ite)

theorem State.resyncBoth_follows {z : State} (s : State) (br : Nat) (hz : Follows z s) : Follows z (State.resyncBoth s br) := by
  unfold State.resyncBoth
  repeat' with_reducible (first | assumption | apply State.zeroSide_follows | apply State.resyncBridge_follows | apply Follows.ite)

theorem initiatorResponse_follows {z : State} (n : Nat) (s : State) (hz : Follows z s) : Follows z (initiatorResponse n s) := by
  unfold initiatorResponse
  try dsimp only
  repeat' first
    | with_reducible assumption | with_reducible apply State.setReg_follows | with_reducible apply State.count_follows
    | with_reducible apply State.setFbp_follows | with_reducible apply State.fbpEvent_follows | split

theorem State.commitFbp_follows {z : State} (s : State) (n : Nat) (hz : Follows z s) : Follows z (State.commitFbp s n) := by
  unfold State.commitFbp; repeat' with_reducible (first | assumption | apply State.setFbp_follows)

theorem State.commitFbps_follows {z : State} (s : State) (b : Nat) (hz : Follows z s) : Follows z (State.commitFbps s b) := by
  unfold State.commitFbps
  repeat' with_reducible (first | assumption | apply State.commitFbp_follows | apply Follows.foldl)

theorem State.restoreFbp_follows {z : State} (s : State) (n : Nat) (hz : Follows z s) : Follows z (State.restoreFbp s n) := by
  unfold State.restoreFbp; repeat' with_reducible (first | assumption | apply State.setFbp_follows)

theorem State.restoreFbps_follows {z : State} (s : State) (b : Nat) (hz : Follows z s) : Follows z (State.restoreFbps s b) := by
  unfold State.restoreFbps
  repeat' with_reducible (first | assumption | apply State.restoreFbp_follows | apply Follows.foldl)

theorem State.resetFbpIdentities_follows {z : State} (s : State) (b : Nat) (hz : Follows z s) :
    Follows z (State.resetFbpIdentities s b) := by
  unfold State.resetFbpIdentities
  repeat' first | intro _ | with_reducible (first | assumption | apply State.identityReset_follows | apply Follows.foldl)

theorem fbpClear_follows {z : State} (k mask : Nat) (s : State) (hz : Follows z s) : Follows z (fbpClear k mask s) := by
  unfold fbpClear
  repeat' first | intro _ | with_reducible (first | assumption | apply State.setReg_follows | apply Follows.ite | apply Follows.foldl)

/-! Machine/BlockPorts.lean -/

theorem creelRequestOp_follows {z : State} (n : Nat) (p : PortSide) (s : State) (hz : Follows z s) :
    Follows z (creelRequestOp n p s) := by
  unfold creelRequestOp
  repeat' with_reducible (first | assumption | apply portRequest_follows | apply State.settle_follows | apply Follows.ite)

theorem creelReqFallOp_follows {z : State} (n : Nat) (p : PortSide) (s : State) (hz : Follows z s) :
    Follows z (creelReqFallOp n p s) := by
  unfold creelReqFallOp
  repeat' with_reducible (first | assumption | apply portReqFall_follows | apply State.settle_follows | apply Follows.ite)

theorem creelAckOp_follows {z : State} (n : Nat) (p : PortSide) (s : State) (hz : Follows z s) : Follows z (creelAckOp n p s) := by
  unfold creelAckOp
  repeat' with_reducible (first | assumption | apply portRespAck_follows | apply State.settle_follows | apply Follows.ite)

theorem twillCaptureOp_follows {z : State} (n : Nat) (s : State) (hz : Follows z s) : Follows z (twillCaptureOp n s) := by
  unfold twillCaptureOp
  repeat' with_reducible (first | assumption | apply twillCapture_follows | apply State.settle_follows | apply Follows.ite)

theorem twillReqFallOp_follows {z : State} (n : Nat) (s : State) (hz : Follows z s) : Follows z (twillReqFallOp n s) := by
  unfold twillReqFallOp
  repeat' with_reducible (first | assumption | apply twillReqFall_follows | apply State.settle_follows | apply Follows.ite)

theorem twillAckOp_follows {z : State} (n : Nat) (s : State) (hz : Follows z s) : Follows z (twillAckOp n s) := by
  unfold twillAckOp
  repeat' with_reducible (first | assumption | apply twillRespAck_follows | apply State.settle_follows | apply Follows.ite)

theorem bridgeTokenOp_follows {z : State} (n : Nat) (s : State) (hz : Follows z s) : Follows z (bridgeTokenOp n s) := by
  unfold bridgeTokenOp
  repeat' first
    | with_reducible assumption | with_reducible apply sinkToken_follows | with_reducible apply chanTaken_follows
    | with_reducible apply requestTaken_follows | with_reducible apply responseTaken_follows | with_reducible apply State.settle_follows
    | with_reducible apply Follows.ite

theorem bankEdge_follows {z : State} (n : Nat) (torn : Dword) (s : State) (hz : Follows z s) : Follows z (bankEdge n torn s) := by
  unfold bankEdge
  repeat' first
    | with_reducible assumption | with_reducible apply State.setBridge_follows | with_reducible apply State.overrun_follows
    | with_reducible apply holdOfferOp_follows | with_reducible apply pulseIn_follows | with_reducible apply State.enqueue_follows
    | with_reducible apply Follows.ite | fail_if_no_progress with_reducible apply Follows.same

theorem sideWrite_follows {z : State} (n : Nat) (x torn : Dword) (s : State) (hz : Follows z s) : Follows z (sideWrite n x torn s) := by
  unfold sideWrite
  repeat' with_reducible (first | assumption | apply clockedWrite_follows | apply bankEdge_follows | apply Follows.ite)

theorem offered_follows {z : State} (n : Nat) (x : Dword) (s : State) (hz : Follows z s) : Follows z (offered n x s) := by
  unfold offered
  repeat' with_reducible (first | assumption | apply bridgeTokenOp_follows | apply sideWrite_follows | apply Follows.ite)

theorem pulsed_follows {z : State} (n : Nat) (s : State) (hz : Follows z s) : Follows z (pulsed n s) := by
  unfold pulsed
  repeat' with_reducible (first | assumption | apply bridgeTokenOp_follows | apply sideWrite_follows | apply Follows.ite)

theorem targetResponseOp_follows {z : State} (n : Nat) (s : State) (hz : Follows z s) : Follows z (targetResponseOp n s) := by
  unfold targetResponseOp
  repeat' with_reducible (first | assumption | apply State.settle_follows | apply targetResponse_follows | apply Follows.ite)

/-! Machine/Pick.lean -/

theorem State.pickEvent_follows {z : State} (s : State) (k : Nat) (detail : Nat) (hz : Follows z s) :
    Follows z (State.pickEvent s k detail) := by
  unfold State.pickEvent; repeat' with_reducible (first | assumption | apply State.raise_follows)

theorem State.shutGate_follows {z : State} (s : State) (t : Nat) (hz : Follows z s) : Follows z (State.shutGate s t) := by
  unfold State.shutGate
  repeat' first | with_reducible (first | assumption | apply Follows.ite) | fail_if_no_progress with_reducible apply Follows.same

theorem State.switchTo_follows {z : State} (s : State) (set : List Nat) (hz : Follows z s) : Follows z (State.switchTo s set) := by
  unfold State.switchTo
  repeat' first
    | with_reducible assumption | with_reducible apply State.setReg_follows | with_reducible apply State.setPair_follows
    | with_reducible apply State.pickEvent_follows | fail_if_no_progress with_reducible apply Follows.same

theorem pickApplyOp_follows {z : State} (s : State) (hz : Follows z s) : Follows z (pickApplyOp s) := by
  unfold pickApplyOp
  repeat' first
    | with_reducible assumption | with_reducible apply State.switchTo_follows | split
    | fail_if_no_progress with_reducible apply Follows.same

theorem pickClearOp_follows {z : State} (s : State) (hz : Follows z s) : Follows z (pickClearOp s) := by
  unfold pickClearOp
  repeat' first | intro _ | with_reducible (first | assumption | apply State.setFld_follows | apply Follows.foldl)

theorem State.checkFinal_follows {z : State} (s : State) (hz : Follows z s) : Follows z (State.checkFinal s) := by
  unfold State.checkFinal
  repeat' first
    | with_reducible assumption | with_reducible apply State.pickEvent_follows | with_reducible apply Follows.ite
    | fail_if_no_progress with_reducible apply Follows.same

theorem State.forgetRewoven_follows {z : State} (s : State) (b : Nat) (hz : Follows z s) : Follows z (State.forgetRewoven s b) := by
  unfold State.forgetRewoven
  repeat' first | with_reducible assumption | fail_if_no_progress with_reducible apply Follows.same

theorem State.enterHalt_follows {z : State} (s : State) (b cause : Nat) (hz : Follows z s) : Follows z (State.enterHalt s b cause) := by
  unfold State.enterHalt
  repeat' first
    | with_reducible assumption | with_reducible apply State.setFld_follows | with_reducible apply State.setBolt_follows
    | with_reducible apply State.raiseCommit_follows | with_reducible apply State.logBolt_follows
    | with_reducible apply State.keepLevels_follows | with_reducible apply State.resetFbpIdentities_follows
    | with_reducible apply State.checkFinal_follows | with_reducible apply State.forgetRewoven_follows

theorem State.overrunHalt_follows {z : State} (s : State) (b : Nat) (hz : Follows z s) : Follows z (State.overrunHalt s b) := by
  unfold State.overrunHalt
  repeat' with_reducible (first | assumption | apply State.pickEvent_follows | apply State.enterHalt_follows)

theorem appliedOp_follows {z : State} (t : Nat) (s : State) (hz : Follows z s) : Follows z (appliedOp t s) := by
  unfold appliedOp
  try dsimp only
  repeat' first
    | intro _ | with_reducible assumption | with_reducible apply State.at_follows | with_reducible apply State.switchTo_follows
    | with_reducible apply State.overrunHalt_follows | with_reducible apply Follows.foldl | split

theorem closingOp_follows {z : State} (b t : Nat) (s : State) (hz : Follows z s) : Follows z (closingOp b t s) := by
  unfold closingOp
  repeat' first
    | with_reducible assumption | with_reducible apply State.at_follows | with_reducible apply State.setBolt_follows
    | with_reducible apply State.shutGate_follows | with_reducible apply Follows.ite

theorem State.pointAtBolt_follows {z : State} (s : State) (g b : Nat) (hz : Follows z s) : Follows z (State.pointAtBolt s g b) := by
  unfold State.pointAtBolt
  try dsimp only
  repeat' first | with_reducible (first | assumption | apply State.setBolt_follows) | split

theorem State.pointAtDirect_follows {z : State} (s : State) (g : Nat) (pins : Bool) (b : Nat) (hz : Follows z s) :
    Follows z (State.pointAtDirect s g pins b) := by
  unfold State.pointAtDirect
  repeat' first
    | with_reducible assumption | with_reducible apply State.countWrap_follows | with_reducible apply State.setBolt_follows
    | with_reducible apply State.commitOutputs_follows | with_reducible apply State.sampleInputs_follows
    | with_reducible apply State.presentInputs_follows | with_reducible apply Follows.ite

theorem State.pointAt_follows {z : State} (s : State) (g : Nat) (pins : Bool) (hz : Follows z s) :
    Follows z (State.pointAt s g pins) := by
  unfold State.pointAt
  repeat' first
    | intro _ | with_reducible assumption | with_reducible apply State.settle_follows | with_reducible apply State.shutGate_follows
    | with_reducible apply State.pointAtBolt_follows | with_reducible apply State.pointAtDirect_follows
    | with_reducible apply Follows.ite | with_reducible apply Follows.foldl | fail_if_no_progress with_reducible apply Follows.same

theorem gridPointOp_follows {z : State} (t : Nat) (s : State) (hz : Follows z s) : Follows z (gridPointOp t s) := by
  unfold gridPointOp
  repeat' first
    | with_reducible assumption | with_reducible apply State.at_follows | with_reducible apply State.pickEvent_follows
    | with_reducible apply State.pointAt_follows | with_reducible apply Follows.ite

theorem closingPointOp_follows {z : State} (t : Nat) (s : State) (hz : Follows z s) : Follows z (closingPointOp t s) := by
  unfold closingPointOp
  repeat' first
    | with_reducible assumption | with_reducible apply State.at_follows | with_reducible apply State.pointAt_follows
    | with_reducible apply Follows.ite | fail_if_no_progress with_reducible apply Follows.same

theorem freezeOp_follows {z : State} (b t : Nat) (s : State) (hz : Follows z s) : Follows z (freezeOp b t s) := by
  unfold freezeOp
  repeat' first
    | with_reducible assumption | with_reducible apply State.at_follows | with_reducible apply State.setBolt_follows
    | with_reducible apply State.twillsAtFreeze_follows | with_reducible apply Follows.ite

theorem State.beatUp_follows {z : State} (s : State) (b : Nat) (hz : Follows z s) : Follows z (State.beatUp s b) := by
  unfold State.beatUp
  repeat' first
    | with_reducible assumption | with_reducible apply State.setFld_follows | with_reducible apply State.count_follows
    | with_reducible apply State.countWrap_follows | with_reducible apply State.setBolt_follows
    | with_reducible apply State.commitCreels_follows | with_reducible apply State.commitQueues_follows
    | with_reducible apply State.commitTwills_follows | with_reducible apply State.commitBridges_follows
    | with_reducible apply State.commitCells_follows | with_reducible apply State.commitOutputs_follows
    | with_reducible apply State.sampleInputs_follows | with_reducible apply State.commitFbps_follows
    | with_reducible apply State.pickEvent_follows | with_reducible apply Follows.ite

theorem drainConfirmOp_follows {z : State} (b : Nat) (idle : Bool) (t : Nat) (s : State) (hz : Follows z s) :
    Follows z (drainConfirmOp b idle t s) := by
  unfold drainConfirmOp
  try dsimp only
  repeat' first
    | with_reducible assumption | with_reducible apply State.at_follows | with_reducible apply State.count_follows
    | with_reducible apply State.setBolt_follows | with_reducible apply State.checkEnds_follows
    | with_reducible apply State.commitTwills_follows | with_reducible apply State.resumeBridges_follows
    | with_reducible apply State.admitFbps_follows | with_reducible apply State.settle_follows
    | with_reducible apply State.commitCells_follows | with_reducible apply State.pickEvent_follows
    | with_reducible apply State.beatUp_follows | split

theorem State.openAfterBeatUp_follows {z : State} (s : State) (b : Nat) (hz : Follows z s) : Follows z (State.openAfterBeatUp s b) := by
  unfold State.openAfterBeatUp
  repeat' first
    | with_reducible assumption | with_reducible apply State.setBolt_follows | with_reducible apply State.resumeStalled_follows
    | with_reducible apply State.resumeBridges_follows | with_reducible apply State.admitFbps_follows
    | with_reducible apply State.settle_follows | with_reducible apply State.presentInputs_follows

theorem beatUpEndOp_follows {z : State} (b t : Nat) (s : State) (hz : Follows z s) : Follows z (beatUpEndOp b t s) := by
  unfold beatUpEndOp
  repeat' first
    | with_reducible assumption | with_reducible apply State.at_follows | with_reducible apply State.setBolt_follows
    | with_reducible apply State.resumeStalled_follows | with_reducible apply State.checkFinal_follows
    | with_reducible apply State.openAfterBeatUp_follows | with_reducible apply Follows.ite

theorem gateOpenOp_follows {z : State} (t : Nat) (s : State) (hz : Follows z s) : Follows z (gateOpenOp t s) := by
  unfold gateOpenOp
  repeat' first
    | with_reducible assumption | with_reducible apply State.at_follows | with_reducible apply Follows.ite
    | fail_if_no_progress with_reducible apply Follows.same

theorem pickOverrunOp_follows {z : State} (b t : Nat) (s : State) (hz : Follows z s) : Follows z (pickOverrunOp b t s) := by
  unfold pickOverrunOp
  repeat' first
    | with_reducible assumption | with_reducible apply State.at_follows | with_reducible apply State.count_follows
    | with_reducible apply State.setBolt_follows | with_reducible apply State.pickEvent_follows
    | with_reducible apply State.overrunHalt_follows | with_reducible apply Follows.ite

theorem clkEdgeOp_follows {z : State} (r t : Nat) (s : State) (hz : Follows z s) : Follows z (clkEdgeOp r t s) := by
  unfold clkEdgeOp
  repeat' first
    | with_reducible assumption | with_reducible apply State.at_follows | with_reducible apply State.detect_follows
    | with_reducible apply State.pickEvent_follows | with_reducible apply Follows.ite

theorem faultTripOp_follows {z : State} (p mv t : Nat) (s : State) (hz : Follows z s) : Follows z (faultTripOp p mv t s) := by
  unfold faultTripOp
  repeat' first
    | intro _ | with_reducible assumption | with_reducible apply State.at_follows | with_reducible apply State.count_follows
    | with_reducible apply State.raise_follows | with_reducible apply State.detect_follows | with_reducible apply Follows.ite
    | with_reducible apply Follows.foldl

theorem upsetShadow_follows {z : State} (u : Option ShadowUpset) (s : State) (hz : Follows z s) : Follows z (upsetShadow u s) := by
  unfold upsetShadow
  repeat' first | with_reducible (first | assumption | apply State.setTwill_follows | apply State.setCell_follows) | split

theorem State.restoreBolt_follows {z : State} (s : State) (b : Nat) (hz : Follows z s) : Follows z (State.restoreBolt s b) := by
  unfold State.restoreBolt
  repeat' first
    | with_reducible assumption | with_reducible apply State.setBolt_follows | with_reducible apply State.abandonPorts_follows
    | with_reducible apply State.revertCreels_follows | with_reducible apply State.restoreQueues_follows
    | with_reducible apply State.restoreTwills_follows | with_reducible apply State.restoreBridges_follows
    | with_reducible apply State.settle_follows | with_reducible apply State.restoreCells_follows
    | with_reducible apply State.presentInputs_follows | with_reducible apply State.restoreFbps_follows

theorem rollbackOp_follows {z : State} (b t : Nat) (s : State) (hz : Follows z s) : Follows z (rollbackOp b t s) := by
  unfold rollbackOp
  try dsimp only
  repeat' first
    | with_reducible assumption | with_reducible apply State.at_follows | with_reducible apply State.setReg_follows
    | with_reducible apply State.setFld_follows | with_reducible apply State.count_follows | with_reducible apply State.setBolt_follows
    | with_reducible apply State.raiseCommit_follows | with_reducible apply State.logBolt_follows
    | with_reducible apply State.restoreBolt_follows | split

theorem rollbackEndOp_follows {z : State} (b t : Nat) (s : State) (hz : Follows z s) : Follows z (rollbackEndOp b t s) := by
  unfold rollbackEndOp
  repeat' first
    | with_reducible assumption | with_reducible apply State.at_follows | with_reducible apply State.setFld_follows
    | with_reducible apply State.resumeOpen_follows | with_reducible apply State.enterHalt_follows | with_reducible apply Follows.ite

theorem boltRollbackOp_follows {z : State} (b : Nat) (s : State) (hz : Follows z s) : Follows z (boltRollbackOp b s) := by
  unfold boltRollbackOp; repeat' with_reducible (first | assumption | apply State.detect_follows)

theorem boltHaltOp_follows {z : State} (b : Nat) (s : State) (hz : Follows z s) : Follows z (boltHaltOp b s) := by
  unfold boltHaltOp
  repeat' with_reducible (first | assumption | apply State.setBolt_follows | apply State.enterHalt_follows | apply Follows.ite)

theorem State.leaveHalt_follows {z : State} (s : State) (b : Nat) (hz : Follows z s) : Follows z (State.leaveHalt s b) := by
  unfold State.leaveHalt
  repeat' with_reducible (first | assumption | apply State.raiseCommit_follows | apply State.logBolt_follows)

theorem boltResumeOp_follows {z : State} (b : Nat) (s : State) (hz : Follows z s) : Follows z (boltResumeOp b s) := by
  unfold boltResumeOp
  repeat' first
    | with_reducible assumption | with_reducible apply State.setFld_follows | with_reducible apply State.setBolt_follows
    | with_reducible apply State.forgetRewoven_follows | with_reducible apply State.restoreBolt_follows
    | with_reducible apply State.leaveHalt_follows

theorem boltClearOp_follows {z : State} (b : Nat) (s : State) (hz : Follows z s) : Follows z (boltClearOp b s) := by
  unfold boltClearOp; repeat' with_reducible (first | assumption | apply State.setFld_follows)

theorem State.holdInRecovery_follows {z : State} (s : State) (b : Nat) (hz : Follows z s) : Follows z (State.holdInRecovery s b) := by
  unfold State.holdInRecovery
  repeat' with_reducible (first | assumption | apply State.setBolt_follows | apply State.raiseCommit_follows)

theorem State.holdPanel_follows {z : State} (s : State) (p : Nat) (hz : Follows z s) : Follows z (State.holdPanel s p) := by
  unfold State.holdPanel
  repeat' first
    | intro _ | with_reducible assumption | with_reducible apply State.enterHold_follows
    | with_reducible apply State.holdInRecovery_follows | with_reducible apply Follows.ite | with_reducible apply Follows.foldl

theorem holdEndOp_follows {z : State} (b t : Nat) (s : State) (hz : Follows z s) : Follows z (holdEndOp b t s) := by
  unfold holdEndOp
  repeat' first
    | with_reducible assumption | with_reducible apply State.at_follows | with_reducible apply State.setBolt_follows
    | with_reducible apply State.raiseCommit_follows | with_reducible apply State.resumeOpen_follows | with_reducible apply Follows.ite

theorem State.requestClose_follows {z : State} (s : State) (kind : Nat) (hz : Follows z s) : Follows z (State.requestClose s kind) := by
  unfold State.requestClose
  repeat' first
    | intro _ | with_reducible assumption | with_reducible apply State.setBolt_follows | with_reducible apply State.checkFinal_follows
    | with_reducible apply Follows.ite | with_reducible apply Follows.foldl | fail_if_no_progress with_reducible apply Follows.same

/-! Machine/Hostper.lean -/

theorem State.setPeriph_follows {z : State} (s : State) (u : Nat) (v : Periph) (hz : Follows z s) : Follows z (State.setPeriph s u v) :=
  hz.periphs (fun c => SMap.wf_set c.periphs)

theorem State.hpEvent_follows {z : State} (s : State) (u e : Nat) (hz : Follows z s) : Follows z (State.hpEvent s u e) := by
  unfold State.hpEvent; repeat' with_reducible (first | assumption | apply State.pulse_follows)

theorem hpCommand_follows {z : State} (u op len : Nat) (holdCs : Bool) (s : State) (hz : Follows z s) :
    Follows z (hpCommand u op len holdCs s) := by
  unfold hpCommand
  repeat' with_reducible (first | assumption | apply State.setPeriph_follows | apply State.hpEvent_follows | apply Follows.ite)

theorem hpPush_follows {z : State} (u : Nat) (b : Byte) (s : State) (hz : Follows z s) : Follows z (hpPush u b s) := by
  unfold hpPush; repeat' with_reducible (first | assumption | apply State.setPeriph_follows)

theorem hpPop_follows {z : State} (u : Nat) (s : State) (hz : Follows z s) : Follows z (hpPop u s).1 := by
  unfold hpPop
  repeat' first | with_reducible (first | assumption | apply State.setPeriph_follows) | split

theorem hpConfigured_follows {z : State} (u : Nat) (s : State) (hz : Follows z s) : Follows z (hpConfigured u s) := by
  unfold hpConfigured
  repeat' with_reducible (first | assumption | apply State.setPeriph_follows | apply Follows.ite)

theorem State.hpReceive_follows {z : State} (s : State) (u : Nat) (bs : List Byte) (hz : Follows z s) :
    Follows z (State.hpReceive s u bs) := by
  unfold State.hpReceive
  repeat' with_reducible (first | assumption | apply State.setPeriph_follows | apply State.hpEvent_follows | apply Follows.ite)

theorem hpEnd_follows {z : State} (u : Nat) (err : Option Nat) (bs : List Byte) (s : State) (hz : Follows z s) :
    Follows z (hpEnd u err bs s) := by
  unfold hpEnd
  try dsimp only
  repeat' first
    | with_reducible assumption | with_reducible apply State.tick_follows | with_reducible apply State.setPeriph_follows
    | with_reducible apply State.hpEvent_follows | with_reducible apply State.hpReceive_follows | split

theorem uartReceive_follows {z : State} (u : Nat) (good : Bool) (b : Byte) (s : State) (hz : Follows z s) :
    Follows z (uartReceive u good b s) := by
  unfold uartReceive
  repeat' first
    | with_reducible assumption | with_reducible apply State.setPeriph_follows | with_reducible apply State.hpEvent_follows
    | with_reducible apply State.hpReceive_follows | with_reducible apply Follows.ite

/-! Machine/Checks.lean -/

end Sys2Proof.Machine
end

