-- ==== Sys2Proof/Laws/FollowsLoad.lean ====
section
/-!
SUPPORT. What `Follows` says, kept by the operations of configuration, scrubbing, SerDes and the checks of an access.
-/

namespace Sys2Proof.Machine

/-! Machine/FrameCheck.lean -/

theorem State.retap_follows {z : State} (s : State) (f : Nat) (hz : Follows z s) : Follows z (State.retap s f) :=
  hz.trans ⟨rfl, Nat.le_refl _, fun c => { c with taps := SMap.wf_foldl _ _ (fun _ _ hm => SMap.wf_set hm) (SMap.wf_filter _ c.taps) }⟩

theorem State.loadSettings_follows {z : State} (s : State) (f : Nat) (hz : Follows z s) : Follows z (State.loadSettings s f) := by
  unfold State.loadSettings
  try dsimp only
  repeat' first
    | intro _ | with_reducible assumption | with_reducible apply State.setReg_follows | with_reducible apply State.retap_follows
    | with_reducible apply Follows.foldl | split

theorem State.reload_follows {z : State} (s : State) (f : Nat) (hz : Follows z s) : Follows z (State.reload s f) := by
  unfold State.reload
  repeat' with_reducible (first | assumption | apply State.settle_follows | apply State.loadSettings_follows | apply Follows.ite)

/-! Machine/Load.lean -/

theorem State.setEng_follows {z : State} (s : State) (k : Nat) (hz : Follows z s) : Follows z (State.setEng s k) := by
  unfold State.setEng; repeat' with_reducible (first | assumption | apply State.setFld_follows)

theorem State.withEng_follows {z : State} (s : State) (e : Engine) (hz : Follows z s) : Follows z (State.withEng s e) := by
  unfold State.withEng
  repeat' first | with_reducible assumption | fail_if_no_progress with_reducible apply Follows.same

theorem State.cfgEvent_follows {z : State} (s : State) (k : Nat) (hz : Follows z s) : Follows z (State.cfgEvent s k) := by
  unfold State.cfgEvent; repeat' with_reducible (first | assumption | apply State.pulse_follows)

theorem State.stopFabric_follows {z : State} (s : State) (hz : Follows z s) : Follows z s.stopFabric := by
  unfold State.stopFabric
  dsimp only
  have h1 : Follows z (match s.pick.pending with | some set => s.switchTo set | none => s) := by
    split
    · exact State.switchTo_follows _ _ hz
    · exact hz
  exact h1.trans ⟨rfl, Nat.le_refl _, fun c => { c with
    bolts := rfl, cells := rfl, joins := rfl, cfgMem := rfl, taps := rfl, portIn := rfl, portSample := rfl, creels := rfl, arrays := rfl,
    twills := rfl, bridges := rfl, fbps := rfl, regs := SMap.wf_filter _ c.regs,
    pins := SMap.wf_foldl _ _ (fun _ _ hm => SMap.wf_set hm) (SMap.wf_nil _) }⟩

theorem State.beginLoad_follows {z : State} (s : State) (m src : Nat) (reweave : Bool) (hz : Follows z s) :
    Follows z (State.beginLoad s m src reweave) := by
  unfold State.beginLoad
  repeat' with_reducible (first | assumption | apply State.setReg_follows | apply State.withEng_follows)

theorem startFull_follows {z : State} (m src : Nat) (s : State) (hz : Follows z s) : Follows z (startFull m src s) := by
  unfold startFull
  repeat' first
    | with_reducible assumption | with_reducible apply State.setReg_follows | with_reducible apply State.settle_follows
    | with_reducible apply State.withEng_follows | with_reducible apply State.stopFabric_follows
    | with_reducible apply State.beginLoad_follows

theorem startReweave_follows {z : State} (m src : Nat) (s : State) (hz : Follows z s) : Follows z (startReweave m src s) := by
  unfold startReweave; repeat' with_reducible (first | assumption | apply State.beginLoad_follows)

theorem State.rejectLoad_follows {z : State} (s : State) (code sect off : Nat) (hz : Follows z s) :
    Follows z (State.rejectLoad s code sect off) := by
  unfold State.rejectLoad
  repeat' first
    | intro _ | with_reducible assumption | with_reducible apply State.setReg_follows | with_reducible apply State.count_follows
    | with_reducible apply State.logEntry_follows | with_reducible apply State.deliver_follows
    | with_reducible apply State.setEng_follows | with_reducible apply State.withEng_follows
    | with_reducible apply State.cfgEvent_follows | with_reducible apply Follows.ite | with_reducible apply Follows.foldl
    | fail_if_no_progress with_reducible apply Follows.same

theorem State.abortLoad_follows {z : State} (s : State) (hz : Follows z s) : Follows z (State.abortLoad s) := by
  unfold State.abortLoad; repeat' with_reducible (first | assumption | apply State.rejectLoad_follows)

theorem clearingDone_follows {z : State} (s : State) (hz : Follows z s) : Follows z (clearingDone s) := by
  unfold clearingDone
  repeat' first
    | with_reducible assumption | with_reducible apply Follows.cfgMem (fun c => SMap.wf_filter _ c.cfgMem)
    | with_reducible apply State.settle_follows | with_reducible apply State.loadSettings_follows
    | with_reducible apply State.setEng_follows | with_reducible apply State.withEng_follows | with_reducible apply Follows.ite
    | with_reducible apply Follows.foldl

theorem State.fifoWord_follows {z : State} (s : State) (v : Word) (hz : Follows z s) : Follows z (State.fifoWord s v) := by
  unfold State.fifoWord
  repeat' with_reducible (first | assumption | apply State.setReg_follows | apply State.withEng_follows | apply Follows.ite)

theorem cfgFifoWrite_follows {z : State} (m : Nat) (v : Word) (s : State) (hz : Follows z s) : Follows z (cfgFifoWrite m v s) := by
  unfold cfgFifoWrite
  repeat' with_reducible (first | assumption | apply State.issue_follows | apply State.fifoWord_follows | apply Follows.ite)

theorem State.fifoEnter_follows {z : State} (s : State) (e : Issued) (hz : Follows z s) : Follows z (State.fifoEnter s e) := by
  unfold State.fifoEnter
  repeat' with_reducible (first | assumption | apply State.deliver_follows | apply State.fifoWord_follows | apply Follows.ite)

theorem State.fifoAdmit_follows {z : State}  (a0 : Nat) (a1 : State) (hz : Follows z a1) : Follows z (State.fifoAdmit a0 a1) := by
  induction a0 generalizing a1 with
  | zero => unfold State.fifoAdmit; exact hz
  | succ k ih =>
    unfold State.fifoAdmit
    try dsimp only
    repeat' first
      | with_reducible assumption | with_reducible apply ih | with_reducible apply State.fifoEnter_follows | split
      | fail_if_no_progress with_reducible apply Follows.same

theorem State.resumeReceiving_follows {z : State} (s : State) (hz : Follows z s) : Follows z (State.resumeReceiving s) := by
  unfold State.resumeReceiving
  repeat' with_reducible (first | assumption | apply State.setEng_follows | apply State.withEng_follows | apply State.fifoAdmit_follows)

theorem State.setFence_follows {z : State} (s : State) (t : Nat) (b : Bool) (hz : Follows z s) : Follows z (State.setFence s t b) := by
  unfold State.setFence; repeat' with_reducible (first | assumption | apply State.setBit_follows)

theorem State.fenceBolt_follows {z : State} (s : State) (b : Nat) (hz : Follows z s) : Follows z (State.fenceBolt s b) := by
  unfold State.fenceBolt
  repeat' first
    | intro _ | with_reducible assumption | with_reducible apply State.setBit_follows | with_reducible apply State.pulse_follows
    | with_reducible apply State.settle_follows | with_reducible apply State.keepLevels_follows
    | with_reducible apply State.resetFbpIdentities_follows | with_reducible apply State.setFence_follows
    | with_reducible apply Follows.ite | with_reducible apply Follows.foldl

theorem State.fenceCheck_follows {z : State} (s : State) (hz : Follows z s) : Follows z (State.fenceCheck s) := by
  unfold State.fenceCheck
  repeat' first
    | with_reducible assumption | with_reducible apply State.withEng_follows | with_reducible apply State.cfgEvent_follows
    | with_reducible apply State.resumeReceiving_follows | with_reducible apply Follows.ite

theorem State.releaseCreel_follows {z : State} (s : State) (n : Nat) (hz : Follows z s) : Follows z (State.releaseCreel s n) := by
  unfold State.releaseCreel
  repeat' first
    | with_reducible assumption | with_reducible apply State.setBit_follows | with_reducible apply State.initCreel_follows
    | with_reducible apply State.keepCreel_follows | with_reducible apply State.loadSettings_follows | with_reducible apply Follows.ite

theorem State.releaseTiles_follows {z : State} (s : State) (b : Nat) (ts : List Nat) (hz : Follows z s) :
    Follows z (State.releaseTiles s b ts) := by
  unfold State.releaseTiles
  repeat' first
    | intro _ | with_reducible assumption | with_reducible apply State.setReg_follows | with_reducible apply State.setFld_follows
    | with_reducible apply State.setBit_follows | with_reducible apply State.pulse_follows
    | with_reducible apply State.abortProducer_follows | with_reducible apply State.setTwill_follows
    | with_reducible apply State.settle_follows | with_reducible apply State.releaseCells_follows
    | with_reducible apply State.clearPinRegs_follows | with_reducible apply State.resumeOpen_follows
    | with_reducible apply State.resyncBridge_follows | with_reducible apply State.leaveHalt_follows
    | with_reducible apply State.loadSettings_follows | with_reducible apply State.withEng_follows
    | with_reducible apply State.setFence_follows | with_reducible apply State.releaseCreel_follows | with_reducible apply Follows.ite
    | with_reducible apply Follows.foldl

theorem State.regionDone_follows {z : State} (s : State) (hz : Follows z s) : Follows z (State.regionDone s) := by
  unfold State.regionDone
  repeat' first
    | with_reducible assumption | with_reducible apply State.setReg_follows | with_reducible apply State.count_follows
    | with_reducible apply State.logEntry_follows | with_reducible apply State.setEng_follows
    | with_reducible apply State.withEng_follows | with_reducible apply State.cfgEvent_follows | with_reducible apply Follows.ite

theorem State.releaseRegion_follows {z : State} (s : State) (b : Nat) (hz : Follows z s) : Follows z (State.releaseRegion s b) := by
  unfold State.releaseRegion
  repeat' with_reducible (first | assumption | apply State.releaseTiles_follows | apply State.regionDone_follows | apply Follows.ite)

theorem State.engineAtBeatUpEnd_follows {z : State} (s : State) (b : Nat) (hz : Follows z s) :
    Follows z (State.engineAtBeatUpEnd s b) := by
  unfold State.engineAtBeatUpEnd
  repeat' first
    | with_reducible assumption | with_reducible apply State.fenceBolt_follows | with_reducible apply State.fenceCheck_follows
    | with_reducible apply State.releaseRegion_follows | with_reducible apply Follows.ite

theorem State.engineAtGrid_follows {z : State} (s : State) (hz : Follows z s) : Follows z (State.engineAtGrid s) := by
  unfold State.engineAtGrid
  repeat' with_reducible (first | assumption | apply State.releaseRegion_follows | apply Follows.foldl)

theorem State.engineFollow_follows {z : State} (s : State) (hz : Follows z s) : Follows z (State.engineFollow s) := by
  unfold State.engineFollow
  repeat' first
    | with_reducible assumption | with_reducible apply State.fenceBolt_follows | with_reducible apply State.fenceCheck_follows
    | with_reducible apply State.releaseRegion_follows | with_reducible apply Follows.ite | with_reducible apply Follows.foldl

theorem State.connectAtRelease_follows {z : State} (s : State) (p : Nat) (hz : Follows z s) : Follows z (State.connectAtRelease s p) := by
  unfold State.connectAtRelease; repeat' with_reducible (first | assumption | apply State.setPin_follows)

theorem State.applySettings_follows {z : State} (s : State) (hz : Follows z s) : Follows z (State.applySettings s) := by
  unfold State.applySettings
  repeat' first
    | intro _ | with_reducible assumption | with_reducible apply State.setReg_follows | with_reducible apply State.logEntry_follows
    | with_reducible apply State.switchTo_follows | with_reducible apply Follows.ite | with_reducible apply Follows.foldl

theorem State.releaseBolt_follows {z : State} (s : State) (b : Nat) (hz : Follows z s) : Follows z (State.releaseBolt s b) := by
  unfold State.releaseBolt
  repeat' first
    | with_reducible assumption | with_reducible apply State.setReg_follows | with_reducible apply State.setFld_follows
    | with_reducible apply State.setBolt_follows | with_reducible apply State.openBolt_follows | with_reducible apply Follows.ite

theorem State.autoBindLock_follows {z : State} (s : State) (hz : Follows z s) : Follows z (State.autoBindLock s) := by
  unfold State.autoBindLock
  repeat' with_reducible (first | assumption | apply State.logEntry_follows | apply State.lockBindingsOp_follows | apply Follows.ite)

/-- Entries replaced one for one, or removed. -/
theorem SMap.wf_filterMap {α : Type} [DecidableEq α] {d : Nat → α} {m : SMap α} (f : Nat × α → Option (Nat × α))
    (hf : ∀ e e', e.2 ≠ d e.1 → f e = some e' → e'.1 = e.1 ∧ e'.2 ≠ d e'.1) (h : SMap.wf d m = true) :
    SMap.wf d (m.filterMap f) = true := by
  have above : ∀ (b : Nat) (m : SMap α), SMap.above b m → SMap.wf d m = true → SMap.above b (m.filterMap f) := by
    intro b m hb hm e he
    obtain ⟨x, hx, hxe⟩ := List.mem_filterMap.mp he
    have hd : x.2 ≠ d x.1 := by
      have := (Bool.and_eq_true_iff.mp hm).2
      have := (List.all_eq_true.mp this) x hx
      simpa using this
    rw [(hf x e hd hxe).1]
    exact hb x hx
  induction m with
  | nil => rfl
  | cons e m ih =>
    obtain ⟨j, w⟩ := e
    have hc := (SMap.wf_cons d j w m).mp h
    rw [List.filterMap_cons]
    cases he : f (j, w) with
    | none => exact ih hc.2.2
    | some e' =>
      obtain ⟨j', w'⟩ := e'
      have := hf _ _ hc.2.1 he
      simp only at this
      refine (SMap.wf_cons d j' w' _).mpr ⟨?_, this.2, ih hc.2.2⟩
      rw [this.1]
      exact above _ _ hc.1 hc.2.2

theorem State.takeOwners_follows {z : State} (s : State) (hz : Follows z s) : Follows z s.takeOwners := by
  unfold State.takeOwners
  dsimp only
  refine Follows.foldl _ _ (Follows.foldl _ _ ?_ (fun t x ht => State.setFld_follows _ _ _ _ _ ht)) (fun t x ht => State.setFld_follows _ _ _ _ _ ht)
  refine Follows.regs (fun c => SMap.wf_filterMap _ ?_ c.regs) hz
  rintro ⟨j, w⟩ ⟨j', w'⟩ hd hf
  split_ifs at hf with h1 h2
  · cases hf
    exact ⟨rfl, h2⟩
  · cases hf
    exact ⟨rfl, hd⟩

theorem State.releaseFabric_follows {z : State} (s : State) (hz : Follows z s) : Follows z (State.releaseFabric s) := by
  unfold State.releaseFabric
  repeat' first
    | intro _ | with_reducible assumption | with_reducible apply State.setReg_follows | with_reducible apply State.logEntry_follows
    | with_reducible apply State.settle_follows | with_reducible apply State.releaseCells_follows | with_reducible apply State.pulse_follows
    | with_reducible apply State.pinEvent_follows | with_reducible apply State.refreshPins_follows
    | with_reducible apply State.bankRecoded_follows | with_reducible apply State.resyncBoth_follows
    | with_reducible apply State.loadSettings_follows | with_reducible apply State.setEng_follows
    | with_reducible apply State.withEng_follows | with_reducible apply State.cfgEvent_follows
    | with_reducible apply State.releaseCreel_follows | with_reducible apply State.connectAtRelease_follows
    | with_reducible apply State.applySettings_follows | with_reducible apply State.releaseBolt_follows
    | with_reducible apply State.autoBindLock_follows | with_reducible apply State.takeOwners_follows | with_reducible apply Follows.ite
    | with_reducible apply Follows.foldl | fail_if_no_progress with_reducible apply Follows.same

theorem State.recordGroups_follows {z : State} (s : State) (hz : Follows z s) : Follows z (State.recordGroups s) := by
  unfold State.recordGroups; repeat' with_reducible (first | assumption | apply State.withEng_follows)

theorem State.releaseNow_follows {z : State} (s : State) (hz : Follows z s) : Follows z (State.releaseNow s) := by
  unfold State.releaseNow
  repeat' first
    | with_reducible assumption | with_reducible apply State.withEng_follows | with_reducible apply State.engineFollow_follows
    | with_reducible apply State.releaseFabric_follows | with_reducible apply Follows.ite

theorem State.acceptLoad_follows {z : State} (s : State) (hz : Follows z s) : Follows z (State.acceptLoad s) := by
  unfold State.acceptLoad
  repeat' first
    | intro _ | with_reducible assumption | with_reducible apply State.setReg_follows | with_reducible apply State.count_follows
    | with_reducible apply State.logEntry_follows | with_reducible apply State.setEng_follows
    | with_reducible apply State.cfgEvent_follows | with_reducible apply State.recordGroups_follows
    | with_reducible apply State.releaseNow_follows | with_reducible apply Follows.ite | with_reducible apply Follows.foldl

/-! Machine/Image.lean -/

theorem State.consume_follows {z : State} (s : State) (ws : List Word) (hz : Follows z s) : Follows z (State.consume s ws) := by
  unfold State.consume
  repeat' with_reducible (first | assumption | apply State.setReg_follows | apply State.withEng_follows)

theorem State.sourceEnded_follows {z : State} (s : State) (sect : Nat) (ws : List Word) (hz : Follows z s) :
    Follows z (State.sourceEnded s sect ws) := by
  unfold State.sourceEnded
  repeat' with_reducible (first | assumption | apply State.rejectLoad_follows | apply State.consume_follows | apply Follows.ite)

theorem imageHeader_follows {z : State} (ws : List Word) (s : State) (hz : Follows z s) : Follows z (imageHeader ws s) := by
  unfold imageHeader
  try dsimp only
  repeat' first
    | with_reducible assumption | with_reducible apply State.setBit_follows | with_reducible apply State.withEng_follows
    | with_reducible apply State.rejectLoad_follows | with_reducible apply State.consume_follows
    | with_reducible apply State.sourceEnded_follows | split

theorem State.enterSection_follows {z : State} (s : State) (k off : Nat) (ps : List Word) (hz : Follows z s) :
    Follows z (State.enterSection s k off ps) := by
  unfold State.enterSection; repeat' with_reducible (first | assumption | apply State.withEng_follows)

theorem State.wholeSection_follows {z : State} (s : State) (k : Nat) (ws : List Word) (f : State → Nat → List Word → State)
    (hf : ∀ t x1 x2, Follows z t → Follows z (f t x1 x2)) (hz : Follows z s) :
    Follows z (State.wholeSection s k ws f) := by
  unfold State.wholeSection
  try dsimp only
  repeat' first
    | with_reducible assumption | with_reducible apply State.rejectLoad_follows | with_reducible apply State.consume_follows
    | with_reducible apply State.sourceEnded_follows | with_reducible apply State.enterSection_follows | with_reducible apply hf | split

theorem State.leaveSection_follows {z : State} (s : State) (next : Nat) (hz : Follows z s) : Follows z (State.leaveSection s next) := by
  unfold State.leaveSection; repeat' with_reducible (first | assumption | apply State.withEng_follows)

theorem State.orReject_follows {z : State} (s : State) (sect : Nat) (fs : Faults) (ok : State) (hzs : Follows z s) (hzok : Follows z ok) :
    Follows z (State.orReject s sect fs ok) := by
  unfold State.orReject
  repeat' first | with_reducible (first | assumption | apply State.rejectLoad_follows) | split

theorem imageDevice_follows {z : State} (ws : List Word) (s : State) (hz : Follows z s) : Follows z (imageDevice ws s) := by
  unfold imageDevice
  repeat' first
    | intro _ | with_reducible assumption | with_reducible apply State.wholeSection_follows
    | with_reducible apply State.leaveSection_follows | with_reducible apply State.orReject_follows

theorem imageSettings_follows {z : State} (ws : List Word) (s : State) (hz : Follows z s) : Follows z (imageSettings ws s) := by
  unfold imageSettings
  repeat' first
    | intro _ | with_reducible assumption | with_reducible apply State.setEng_follows | with_reducible apply State.withEng_follows
    | with_reducible apply State.engineFollow_follows | with_reducible apply State.wholeSection_follows
    | with_reducible apply State.leaveSection_follows | with_reducible apply State.orReject_follows | with_reducible apply Follows.ite

theorem State.writeFrame_follows {z : State} (s : State) (f : Nat) (ps : List Word) (at_ off : Nat) (hz : Follows z s) :
    Follows z (State.writeFrame s f ps at_ off) := by
  unfold State.writeFrame
  repeat' first
    | intro _ | with_reducible assumption | with_reducible apply State.setCfgWord_follows | with_reducible apply State.withEng_follows
    | with_reducible apply Follows.foldl

theorem State.takeFrames_follows {z : State} (ps : List Word) (off : Nat) (a0 : Nat) (a1 : State) (a2 : Nat) (a3 : Nat)
    (hz : Follows z a1) :
    Follows z (State.takeFrames ps off a0 a1 a2 a3).1 := by
  induction a0 generalizing a1 a2 a3 with
  | zero => unfold State.takeFrames; exact hz
  | succ k ih =>
    unfold State.takeFrames
    try dsimp only
    repeat' first | with_reducible (first | assumption | apply ih | apply State.writeFrame_follows) | split

theorem State.framesEnd_follows {z : State} (s : State) (hz : Follows z s) : Follows z (State.framesEnd s) := by
  unfold State.framesEnd
  repeat' with_reducible (first | assumption | apply State.leaveSection_follows | apply State.orReject_follows)

theorem State.takeRun_follows {z : State} (s : State) (off : Nat) (ps : List Word) (hz : Follows z s) :
    Follows z (State.takeRun s off ps) := by
  unfold State.takeRun
  try dsimp only
  repeat' first
    | with_reducible assumption | with_reducible apply State.withEng_follows | with_reducible apply State.rejectLoad_follows
    | with_reducible apply State.takeFrames_follows | with_reducible apply State.framesEnd_follows
    | with_reducible refine Follows.ofEq (by assumption) ?_ | split

theorem State.partRun_follows {z : State} (s : State) (off : Nat) (ps : List Word) (cut : State) (hzs : Follows z s)
    (hzcut : Follows z cut) :
    Follows z (State.partRun s off ps cut) := by
  unfold State.partRun
  repeat' first
    | with_reducible assumption | with_reducible apply State.rejectLoad_follows | with_reducible apply State.takeFrames_follows
    | with_reducible refine Follows.ofEq (by assumption) ?_ | split

theorem imageFrameRun_follows {z : State} (ws : List Word) (s : State) (hz : Follows z s) : Follows z (imageFrameRun ws s) := by
  unfold imageFrameRun
  try dsimp only
  repeat' first
    | with_reducible assumption | with_reducible apply State.rejectLoad_follows | with_reducible apply State.consume_follows
    | with_reducible apply State.sourceEnded_follows | with_reducible apply State.enterSection_follows
    | with_reducible apply State.framesEnd_follows | with_reducible apply State.takeRun_follows
    | with_reducible apply State.partRun_follows | split

theorem State.pinTrial_follows {z : State} (s : State) (b : List Word) (hz : Follows z s) : Follows z (State.pinTrial s b) := by
  unfold State.pinTrial
  repeat' first
    | intro _ | with_reducible assumption | with_reducible apply State.setReg_follows | with_reducible apply State.loadSettings_follows
    | with_reducible apply Follows.ite | with_reducible apply Follows.foldl

theorem imagePinmap_follows {z : State} (ws : List Word) (s : State) (hz : Follows z s) : Follows z (imagePinmap ws s) := by
  unfold imagePinmap
  repeat' first
    | intro _ | with_reducible assumption | with_reducible apply State.withEng_follows | with_reducible apply State.wholeSection_follows
    | with_reducible apply State.leaveSection_follows | with_reducible apply State.orReject_follows

theorem State.takeRecord_follows {z : State} (s : State) (off : Nat) (ps : List Word) (hz : Follows z s) :
    Follows z (State.takeRecord s off ps) := by
  unfold State.takeRecord
  repeat' first
    | with_reducible assumption | with_reducible apply State.withEng_follows | with_reducible apply State.rejectLoad_follows
    | with_reducible apply State.leaveSection_follows | with_reducible apply Follows.ite

theorem imageCreelInit_follows {z : State} (ws : List Word) (s : State) (hz : Follows z s) : Follows z (imageCreelInit ws s) := by
  unfold imageCreelInit
  try dsimp only
  repeat' first
    | with_reducible assumption | with_reducible apply State.rejectLoad_follows | with_reducible apply State.consume_follows
    | with_reducible apply State.sourceEnded_follows | with_reducible apply State.enterSection_follows
    | with_reducible apply State.leaveSection_follows | with_reducible apply State.takeRecord_follows | split

theorem imageDomains_follows {z : State} (ws : List Word) (s : State) (hz : Follows z s) : Follows z (imageDomains ws s) := by
  unfold imageDomains
  repeat' first
    | intro _ | with_reducible assumption | with_reducible apply State.withEng_follows | with_reducible apply State.wholeSection_follows
    | with_reducible apply State.leaveSection_follows | with_reducible apply State.orReject_follows

theorem imageAuth_follows {z : State} (ws : List Word) (s : State) (hz : Follows z s) : Follows z (imageAuth ws s) := by
  unfold imageAuth
  repeat' first
    | intro _ | with_reducible assumption | with_reducible apply State.setFld_follows | with_reducible apply State.setEng_follows
    | with_reducible apply State.withEng_follows | with_reducible apply State.acceptLoad_follows
    | with_reducible apply State.wholeSection_follows | with_reducible apply State.leaveSection_follows
    | with_reducible apply State.orReject_follows | with_reducible apply Follows.ite

theorem signatureVerified_follows {z : State} (sigOk tagOk : Bool) (t : Nat) (s : State) (hz : Follows z s) :
    Follows z (signatureVerified sigOk tagOk t s) := by
  unfold signatureVerified
  repeat' first
    | with_reducible assumption | with_reducible apply State.at_follows | with_reducible apply State.setFld_follows
    | with_reducible apply State.rejectLoad_follows | with_reducible apply State.acceptLoad_follows | with_reducible apply Follows.ite

/-! Machine/Scrub.lean -/

theorem State.scrubEvent_follows {z : State} (s : State) (k : Nat) (hz : Follows z s) : Follows z (State.scrubEvent s k) := by
  unfold State.scrubEvent; repeat' with_reducible (first | assumption | apply State.pulse_follows)

theorem State.holdSeamFrame_follows {z : State} (s : State) (f : Nat) (hz : Follows z s) : Follows z (State.holdSeamFrame s f) := by
  unfold State.holdSeamFrame
  repeat' first
    | with_reducible assumption
    | with_reducible apply Follows.seamHeld (fun c => SMap.wf_foldl _ _ (fun _ _ hm => SMap.wf_set hm) (by first | exact c.seamHeld | exact SMap.wf_nil _))
    | with_reducible apply Follows.ite

theorem State.freezeForRecovery_follows {z : State} (s : State) (b : Nat) (hz : Follows z s) :
    Follows z (State.freezeForRecovery s b) := by
  unfold State.freezeForRecovery
  repeat' with_reducible (first | assumption | apply State.setBolt_follows | apply Follows.ite)

theorem State.joinRecovery_follows {z : State} (s : State) (f : Nat) (hz : Follows z s) : Follows z (State.joinRecovery s f) := by
  unfold State.joinRecovery; repeat' with_reducible (first | assumption | apply State.withEng_follows)

theorem State.holdFrame_follows {z : State} (s : State) (f : Nat) (hz : Follows z s) : Follows z (State.holdFrame s f) := by
  unfold State.holdFrame
  repeat' first
    | with_reducible assumption | with_reducible apply State.settle_follows | with_reducible apply State.keepLevels_follows
    | with_reducible apply State.holdSeamFrame_follows | with_reducible apply Follows.ite
    | fail_if_no_progress with_reducible apply Follows.same

theorem State.uncorrectable_follows {z : State} (s : State) (f k : Nat) (hz : Follows z s) : Follows z (State.uncorrectable s f k) := by
  unfold State.uncorrectable
  repeat' first
    | with_reducible assumption | with_reducible apply State.setReg_follows | with_reducible apply State.count_follows
    | with_reducible apply State.scrubEvent_follows | with_reducible apply State.freezeForRecovery_follows
    | with_reducible apply State.joinRecovery_follows | with_reducible apply State.holdFrame_follows | with_reducible apply Follows.foldl

theorem State.corrected_follows {z : State} (s : State) (f k bit : Nat) (hz : Follows z s) : Follows z (State.corrected s f k bit) := by
  unfold State.corrected
  repeat' first
    | with_reducible assumption | with_reducible apply State.setReg_follows | with_reducible apply State.count_follows
    | with_reducible apply State.setCfgWord_follows | with_reducible apply selectMoved_follows
    | with_reducible apply State.reload_follows | with_reducible apply State.scrubEvent_follows | with_reducible apply Follows.ite

theorem State.scrubWord_follows {z : State} (s : State) (f k : Nat) (hz : Follows z s) : Follows z (State.scrubWord s f k) := by
  unfold State.scrubWord
  repeat' first | with_reducible (first | assumption | apply State.uncorrectable_follows | apply State.corrected_follows) | split

theorem scrubFrame_follows {z : State} (s : State) (hz : Follows z s) : Follows z (scrubFrame s) := by
  unfold scrubFrame
  try dsimp only
  repeat' first
    | intro _ | with_reducible assumption | with_reducible apply State.setReg_follows | with_reducible apply State.countWrap_follows
    | with_reducible apply State.scrubEvent_follows | with_reducible apply State.scrubWord_follows | with_reducible apply Follows.foldl
    | split

theorem State.resumeLoad_follows {z : State} (s : State) (hz : Follows z s) : Follows z (State.resumeLoad s) := by
  unfold State.resumeLoad
  repeat' first
    | with_reducible assumption | with_reducible apply State.setEng_follows | with_reducible apply State.withEng_follows
    | with_reducible apply State.resumeReceiving_follows | split

theorem State.afterRewrite_follows {z : State} (s : State) (r : Recovery) (hz : Follows z s) : Follows z (State.afterRewrite s r) := by
  unfold State.afterRewrite
  repeat' with_reducible (first | assumption | apply State.resumeLoad_follows | apply Follows.ite)

theorem State.recoveryFails_follows {z : State} (s : State) (r : Recovery) (result : Nat) (hz : Follows z s) :
    Follows z (State.recoveryFails s r result) := by
  unfold State.recoveryFails
  repeat' first
    | intro _ | with_reducible assumption | with_reducible apply State.setFld_follows | with_reducible apply State.setBit_follows
    | with_reducible apply State.count_follows | with_reducible apply State.enterHalt_follows
    | with_reducible apply State.withEng_follows | with_reducible apply State.afterRewrite_follows | with_reducible apply Follows.ite
    | with_reducible apply Follows.foldl

theorem recoverySource_follows {z : State} (flashAnswers : Bool) (t : Nat) (s : State) (hz : Follows z s) :
    Follows z (recoverySource flashAnswers t s) := by
  unfold recoverySource
  try dsimp only
  repeat' first
    | with_reducible assumption | with_reducible apply State.at_follows | with_reducible apply State.withEng_follows
    | with_reducible apply State.recoveryFails_follows | split

theorem recoveryRead_follows {z : State} (digest : BitVec 128) (t : Nat) (s : State) (hz : Follows z s) :
    Follows z (recoveryRead digest t s) := by
  unfold recoveryRead
  try dsimp only
  repeat' first
    | with_reducible assumption | with_reducible apply State.at_follows | with_reducible apply State.setEng_follows
    | with_reducible apply State.withEng_follows | with_reducible apply State.recoveryFails_follows | split

theorem State.rewriteFrames_follows {z : State} (s : State) (fs : List Nat) (hz : Follows z s) :
    Follows z (State.rewriteFrames s fs) := by
  unfold State.rewriteFrames
  repeat' first
    | intro _ | with_reducible assumption | with_reducible apply State.setCfgWord_follows | with_reducible apply State.reload_follows
    | with_reducible apply Follows.foldl | fail_if_no_progress with_reducible apply Follows.same

theorem State.recoverBolt_follows {z : State} (s : State) (t f b : Nat) (hz : Follows z s) : Follows z (State.recoverBolt s t f b) := by
  unfold State.recoverBolt
  repeat' with_reducible (first | assumption | apply State.setBolt_follows | apply rollbackOp_follows | apply Follows.ite)

theorem recoveryRewritten_follows {z : State} (t : Nat) (s : State) (hz : Follows z s) : Follows z (recoveryRewritten t s) := by
  unfold recoveryRewritten
  repeat' first
    | intro _ | with_reducible assumption | with_reducible apply State.at_follows | with_reducible apply State.setFld_follows
    | with_reducible apply State.count_follows | with_reducible apply State.settle_follows | with_reducible apply State.withEng_follows
    | with_reducible apply State.scrubEvent_follows | with_reducible apply State.resumeLoad_follows
    | with_reducible apply State.rewriteFrames_follows | with_reducible apply State.recoverBolt_follows
    | with_reducible apply Follows.foldl | split

theorem recoveryTimeout_follows {z : State} (t : Nat) (s : State) (hz : Follows z s) : Follows z (recoveryTimeout t s) := by
  unfold recoveryTimeout
  repeat' first | with_reducible (first | assumption | apply State.at_follows | apply State.recoveryFails_follows) | split

theorem scrubClear_follows {z : State} (s : State) (hz : Follows z s) : Follows z (scrubClear s) := by
  unfold scrubClear
  repeat' first | intro _ | with_reducible (first | assumption | apply State.setReg_follows | apply Follows.foldl)

theorem panelMeasure_follows {z : State} (p hop temp : Nat) (s : State) (hz : Follows z s) : Follows z (panelMeasure p hop temp s) := by
  unfold panelMeasure; repeat' with_reducible (first | assumption | apply State.setReg_follows)

theorem selectCorrupted_follows {z : State} (f k : Nat) (mask : Dword) (s : State) (hz : Follows z s) :
    Follows z (selectCorrupted f k mask s) := by
  unfold selectCorrupted
  repeat' with_reducible (first | assumption | apply corrupt_follows | apply State.reload_follows | apply Follows.ite)

/-! Machine/Serdes.lean -/

theorem State.setQuad_follows {z : State} (s : State) (q : Nat) (v : Quad) (hz : Follows z s) : Follows z (State.setQuad s q v) :=
  hz.quads (fun c => SMap.wf_set c.quads)

theorem State.setLane_follows {z : State} (s : State) (q i : Nat) (v : Lane) (hz : Follows z s) : Follows z (State.setLane s q i v) :=
  hz.lanes (fun c => SMap.wf_set c.lanes)

theorem State.sdEvent_follows {z : State} (s : State) (q k : Nat) (hz : Follows z s) : Follows z (State.sdEvent s q k) := by
  unfold State.sdEvent; repeat' with_reducible (first | assumption | apply State.pulse_follows)

theorem State.pcsEvent_follows {z : State} (s : State) (q k : Nat) (hz : Follows z s) : Follows z (State.pcsEvent s q k) := by
  unfold State.pcsEvent; repeat' with_reducible (first | assumption | apply State.pulse_follows)

theorem State.drift_follows {z : State} (s : State) (q i : Nat) (hz : Follows z s) : Follows z (State.drift s q i) := by
  unfold State.drift
  repeat' first
    | with_reducible assumption | with_reducible apply State.tick_follows | with_reducible apply State.setFld_follows
    | with_reducible apply State.setLane_follows | with_reducible apply Follows.ite

theorem State.unalign_follows {z : State} (s : State) (q : Nat) (hz : Follows z s) : Follows z (State.unalign s q) := by
  unfold State.unalign
  repeat' first | intro _ | with_reducible (first | assumption | apply State.setLane_follows | apply Follows.foldl)

theorem State.groupLost_follows {z : State} (s : State) (q i : Nat) (hz : Follows z s) : Follows z (State.groupLost s q i) := by
  unfold State.groupLost
  repeat' first | with_reducible (first | assumption | apply State.pcsEvent_follows | apply State.unalign_follows) | split

theorem State.relockPcs_follows {z : State} (s : State) (q i : Nat) (hz : Follows z s) : Follows z (State.relockPcs s q i) := by
  unfold State.relockPcs
  repeat' with_reducible (first | assumption | apply State.count_follows | apply State.setLane_follows | apply State.groupLost_follows)

theorem State.driftAll_follows {z : State} (s : State) (hz : Follows z s) : Follows z (State.driftAll s) := by
  unfold State.driftAll
  repeat' first | intro _ | with_reducible (first | assumption | apply State.drift_follows | apply Follows.foldl)

theorem State.relockLane_follows {z : State} (s : State) (q i : Nat) (hz : Follows z s) : Follows z (State.relockLane s q i) := by
  unfold State.relockLane
  repeat' with_reducible (first | assumption | apply State.setLane_follows | apply State.drift_follows | apply State.relockPcs_follows)

theorem State.resetLaneBridges_follows {z : State} (s : State) (q i : Nat) (hz : Follows z s) :
    Follows z (State.resetLaneBridges s q i) := by
  unfold State.resetLaneBridges; repeat' with_reducible (first | assumption | apply State.startResync_follows)

theorem State.resetQuad_follows {z : State} (s : State) (q : Nat) (relock : Bool) (hz : Follows z s) :
    Follows z (State.resetQuad s q relock) := by
  unfold State.resetQuad
  repeat' first
    | intro _ | with_reducible assumption | with_reducible apply State.setQuad_follows | with_reducible apply State.relockLane_follows
    | with_reducible apply State.resetLaneBridges_follows | with_reducible apply Follows.foldl

theorem quadPwrOp_follows {z : State} (q : Nat) (was : Bool) (s : State) (hz : Follows z s) : Follows z (quadPwrOp q was s) := by
  unfold quadPwrOp
  repeat' first
    | intro _ | with_reducible assumption | with_reducible apply State.setQuad_follows | with_reducible apply State.setLane_follows
    | with_reducible apply State.resetQuad_follows | with_reducible apply Follows.ite | with_reducible apply Follows.foldl

theorem sdApplyOp_follows {z : State} (q : Nat) (s : State) (hz : Follows z s) : Follows z (sdApplyOp q s) := by
  unfold sdApplyOp
  repeat' with_reducible (first | assumption | apply State.setQuad_follows | apply State.resetQuad_follows)

theorem sdResetOp_follows {z : State} (q : Nat) (s : State) (hz : Follows z s) : Follows z (sdResetOp q s) := by
  unfold sdResetOp; repeat' with_reducible (first | assumption | apply State.resetQuad_follows)

theorem sdClear_follows {z : State} (q : Nat) (s : State) (hz : Follows z s) : Follows z (sdClear q s) := by
  unfold sdClear
  repeat' first | intro _ | with_reducible (first | assumption | apply State.setReg_follows | apply Follows.foldl)

theorem State.stopQuads_follows {z : State} (s : State) (hz : Follows z s) : Follows z (State.stopQuads s) := by
  unfold State.stopQuads
  repeat' first
    | intro _ | with_reducible assumption | with_reducible apply State.setQuad_follows | with_reducible apply State.relockLane_follows
    | with_reducible apply Follows.foldl

theorem State.wakeQuads_follows {z : State} (s : State) (hz : Follows z s) : Follows z (State.wakeQuads s) := by
  unfold State.wakeQuads
  repeat' first | intro _ | with_reducible (first | assumption | apply State.setQuad_follows | apply Follows.foldl)

theorem pllLockedOp_follows {z : State} (q : Nat) (s : State) (hz : Follows z s) : Follows z (pllLockedOp q s) := by
  unfold pllLockedOp
  repeat' first
    | intro _ | with_reducible assumption | with_reducible apply State.setQuad_follows | with_reducible apply State.setLane_follows
    | with_reducible apply State.sdEvent_follows | with_reducible apply Follows.ite | with_reducible apply Follows.foldl

theorem sdRefLostOp_follows {z : State} (q : Nat) (s : State) (hz : Follows z s) : Follows z (sdRefLostOp q s) := by
  unfold sdRefLostOp
  repeat' with_reducible (first | assumption | apply State.setQuad_follows | apply State.sdEvent_follows | apply Follows.ite)

theorem qrefMeasureOp_follows {z : State} (q meas : Nat) (s : State) (hz : Follows z s) : Follows z (qrefMeasureOp q meas s) := by
  unfold qrefMeasureOp
  repeat' with_reducible (first | assumption | apply State.setReg_follows | apply State.setQuad_follows | apply Follows.ite)

theorem cdrLockedOp_follows {z : State} (q i : Nat) (s : State) (hz : Follows z s) : Follows z (cdrLockedOp q i s) := by
  unfold cdrLockedOp
  repeat' with_reducible (first | assumption | apply State.setLane_follows | apply State.sdEvent_follows | apply Follows.ite)

theorem cdrLostOp_follows {z : State} (q i : Nat) (s : State) (hz : Follows z s) : Follows z (cdrLostOp q i s) := by
  unfold cdrLostOp
  repeat' first
    | with_reducible assumption | with_reducible apply State.tick_follows | with_reducible apply State.count_follows
    | with_reducible apply State.setLane_follows | with_reducible apply State.sdEvent_follows | with_reducible apply State.drift_follows
    | with_reducible apply Follows.ite

theorem adaptDoneOp_follows {z : State} (q i vga ctle : Nat) (dfe : List Byte) (s : State) (hz : Follows z s) :
    Follows z (adaptDoneOp q i vga ctle dfe s) := by
  unfold adaptDoneOp
  repeat' first
    | with_reducible assumption | with_reducible apply State.setFld_follows | with_reducible apply State.setLane_follows
    | with_reducible apply State.sdEvent_follows | with_reducible apply Follows.ite

theorem ebSlipOp_follows {z : State} (q i level : Nat) (s : State) (hz : Follows z s) : Follows z (ebSlipOp q i level s) := by
  unfold ebSlipOp
  repeat' first
    | with_reducible assumption | with_reducible apply State.count_follows | with_reducible apply State.setLane_follows
    | with_reducible apply State.sdEvent_follows | with_reducible apply Follows.ite

theorem State.wrongBit_follows {z : State} (s : State) (q i : Nat) (hz : Follows z s) : Follows z (State.wrongBit s q i) := by
  unfold State.wrongBit
  repeat' with_reducible (first | assumption | apply State.count_follows | apply Follows.ite)

theorem prbsInjectOp_follows {z : State} (q i : Nat) (s : State) (hz : Follows z s) : Follows z (prbsInjectOp q i s) := by
  unfold prbsInjectOp
  repeat' with_reducible (first | assumption | apply State.setLane_follows | apply State.wrongBit_follows | apply Follows.ite)

theorem prbsLockOp_follows {z : State} (q i : Nat) (s : State) (hz : Follows z s) : Follows z (prbsLockOp q i s) := by
  unfold prbsLockOp
  repeat' with_reducible (first | assumption | apply State.setLane_follows | apply Follows.ite)

theorem prbsLockLostOp_follows {z : State} (q i : Nat) (bits : Nat) (s : State) (hz : Follows z s) :
    Follows z (prbsLockLostOp q i bits s) := by
  unfold prbsLockLostOp
  repeat' with_reducible (first | assumption | apply State.count_follows | apply State.setLane_follows | apply Follows.ite)

theorem lcfgWritten_follows {z : State} (q i : Nat) (before : Word) (s : State) (hz : Follows z s) :
    Follows z (lcfgWritten q i before s) := by
  unfold lcfgWritten
  repeat' first
    | with_reducible assumption | with_reducible apply State.setReg_follows | with_reducible apply State.setLane_follows
    | with_reducible apply State.drift_follows | with_reducible apply State.relockLane_follows | with_reducible apply Follows.ite

theorem dfeWritten_follows {z : State} (q i : Nat) (s : State) (hz : Follows z s) : Follows z (dfeWritten q i s) := by
  unfold dfeWritten; repeat' with_reducible (first | assumption | apply State.setLane_follows)

theorem prbsWritten_follows {z : State} (q i : Nat) (before : Word) (s : State) (hz : Follows z s) :
    Follows z (prbsWritten q i before s) := by
  unfold prbsWritten
  repeat' with_reducible (first | assumption | apply State.setLane_follows | apply Follows.ite)

theorem pcsApplyOp_follows {z : State} (q : Nat) (s : State) (hz : Follows z s) : Follows z (pcsApplyOp q s) := by
  unfold pcsApplyOp
  repeat' first
    | intro _ | with_reducible assumption | with_reducible apply State.setQuad_follows | with_reducible apply State.groupLost_follows
    | with_reducible apply State.relockPcs_follows | with_reducible apply State.resetLaneBridges_follows
    | with_reducible apply Follows.foldl

theorem pcsClear_follows {z : State} (q : Nat) (s : State) (hz : Follows z s) : Follows z (pcsClear q s) := by
  unfold pcsClear
  repeat' first | intro _ | with_reducible (first | assumption | apply State.setReg_follows | apply Follows.foldl)

theorem blockLockOp_follows {z : State} (q i : Nat) (s : State) (hz : Follows z s) : Follows z (blockLockOp q i s) := by
  unfold blockLockOp
  repeat' with_reducible (first | assumption | apply State.setLane_follows | apply Follows.ite)

theorem blockLockLostOp_follows {z : State} (q i : Nat) (s : State) (hz : Follows z s) : Follows z (blockLockLostOp q i s) := by
  unfold blockLockLostOp
  repeat' first
    | with_reducible assumption | with_reducible apply State.count_follows | with_reducible apply State.setLane_follows
    | with_reducible apply State.pcsEvent_follows | with_reducible apply Follows.ite

theorem amLockOp_follows {z : State} (q i : Nat) (gain : Bool) (s : State) (hz : Follows z s) : Follows z (amLockOp q i gain s) := by
  unfold amLockOp
  repeat' with_reducible (first | assumption | apply State.setLane_follows | apply Follows.ite)

theorem fecAlignOp_follows {z : State} (q i : Nat) (gain : Bool) (s : State) (hz : Follows z s) : Follows z (fecAlignOp q i gain s) := by
  unfold fecAlignOp
  repeat' with_reducible (first | assumption | apply State.setLane_follows | apply Follows.ite)

theorem fecCodewordOp_follows {z : State} (q i : Nat) (r : FecResult) (s : State) (hz : Follows z s) :
    Follows z (fecCodewordOp q i r s) := by
  unfold fecCodewordOp
  repeat' first | with_reducible (first | assumption | apply State.count_follows | apply State.pcsEvent_follows) | split

theorem rxFrame_follows {z : State} (q i : Nat) (blocks : List RxBlock) (s : State) (hz : Follows z s) :
    Follows z (rxFrame q i blocks s) := by
  unfold rxFrame
  repeat' first
    | with_reducible assumption | with_reducible apply State.count_follows | with_reducible apply State.setLane_follows
    | with_reducible apply State.pcsEvent_follows | with_reducible apply Follows.ite

theorem rxWord_follows {z : State} (q i : Nat) (w : Dword) (s : State) (hz : Follows z s) : Follows z (rxWord q i w s) := by
  unfold rxWord
  repeat' first
    | with_reducible assumption | with_reducible apply State.count_follows | with_reducible apply State.setLane_follows
    | with_reducible apply State.pcsEvent_follows | with_reducible apply Follows.ite

theorem pcsRxOp_follows {z : State} (q i : Nat) (blocks : List RxBlock) (s : State) (hz : Follows z s) :
    Follows z (pcsRxOp q i blocks s) := by
  unfold pcsRxOp
  repeat' first | with_reducible (first | assumption | apply rxFrame_follows | apply rxWord_follows) | split

theorem State.sendWord_follows {z : State} (s : State) (q i : Nat) (x : Dword) (hz : Follows z s) :
    Follows z (State.sendWord s q i x) := by
  unfold State.sendWord
  repeat' with_reducible (first | assumption | apply State.setLane_follows | apply Follows.ite)

theorem txUnderrunOp_follows {z : State} (q i : Nat) (s : State) (hz : Follows z s) : Follows z (txUnderrunOp q i s) := by
  unfold txUnderrunOp
  repeat' first
    | with_reducible assumption | with_reducible apply State.count_follows | with_reducible apply State.setLane_follows
    | with_reducible apply State.pcsEvent_follows | with_reducible apply Follows.ite

theorem rxBridgeWrite_follows {z : State} (q i : Nat) (w : Dword) (s : State) (hz : Follows z s) : Follows z (rxBridgeWrite q i w s) := by
  unfold rxBridgeWrite
  try dsimp only
  repeat' first | with_reducible (first | assumption | apply clockedWrite_follows | apply State.setLane_follows) | split

theorem bondAlignedOp_follows {z : State} (q : Nat) (skews : List Nat) (s : State) (hz : Follows z s) :
    Follows z (bondAlignedOp q skews s) := by
  unfold bondAlignedOp
  try dsimp only
  repeat' first
    | intro _ | with_reducible assumption | with_reducible apply State.setLane_follows | with_reducible apply State.pcsEvent_follows
    | with_reducible apply Follows.foldl | split

theorem bondLostOp_follows {z : State} (q : Nat) (s : State) (hz : Follows z s) : Follows z (bondLostOp q s) := by
  unfold bondLostOp
  repeat' with_reducible (first | assumption | apply State.pcsEvent_follows | apply State.unalign_follows | apply Follows.ite)

/-! Machine/Access.lean -/

theorem State.noteLogFull_follows {z : State} (s : State) (hz : Follows z s) : Follows z (State.noteLogFull s) := by
  unfold State.noteLogFull
  repeat' first | with_reducible (first | assumption | apply State.pulse_follows) | fail_if_no_progress with_reducible apply Follows.same

theorem State.refuse_follows {z : State} (s : State) (m : Nat) (p : Page) (write : Bool) (off code : Nat) (hz : Follows z s) :
    Follows z (State.refuse s m p write off code) := by
  unfold State.refuse
  repeat' with_reducible (first | assumption | apply State.answer_follows | apply State.recordRejection_follows)

theorem State.storeHeader_follows {z : State} (s : State) (p : Page) (off : Nat) (v : Word) (hz : Follows z s) :
    Follows z (State.storeHeader s p off v) := by
  unfold State.storeHeader
  repeat' with_reducible (first | assumption | apply State.setReg_follows | apply Follows.ite)

theorem State.logWrite_follows {z : State} (s : State) (m : Nat) (p : Page) (off : Nat) (v : Word) (hz : Follows z s) :
    Follows z (State.logWrite s m p off v) := by
  unfold State.logWrite
  repeat' with_reducible (first | assumption | apply State.logEntry_follows | apply Follows.ite)

theorem State.store_follows {z : State} (s : State) (m : Nat) (p : Page) (off : Nat) (v : Word) (hz : Follows z s) :
    Follows z (State.store s m p off v) := by
  unfold State.store
  repeat' with_reducible (first | assumption | apply State.setCap_follows | apply State.storeHeader_follows | apply Follows.ite)

theorem State.logEffect_follows {z : State} (s : State) (m : Nat) (p : Page) (off : Nat) (v : Word) (e : Effect)
    (hrun : ∀ t, Follows z t → Follows z (e.run t)) (href : ∀ t, Follows z t → Follows z (e.onRefuse t)) (hz : Follows z s) :
    Follows z (State.logEffect s m p off v e) := by
  unfold State.logEffect
  repeat' first | with_reducible (first | assumption | apply State.logEntry_follows | apply State.logWrite_follows) | split

theorem State.writeReg_follows {z : State} (s : State) (m : Nat) (p : Page) (off be : Nat) (old v : Word) (e : Effect)
    (hrun : ∀ t, Follows z t → Follows z (e.run t)) (href : ∀ t, Follows z t → Follows z (e.onRefuse t)) (hz : Follows z s) :
    Follows z (State.writeReg s m p off be old v e) := by
  unfold State.writeReg
  repeat' first
    | with_reducible assumption | with_reducible apply State.answer_follows | with_reducible apply State.noteLogFull_follows
    | with_reducible apply State.refuse_follows | with_reducible apply State.store_follows | with_reducible apply State.logEffect_follows
    | with_reducible apply hrun | with_reducible apply href | split

theorem State.readReg_follows {z : State} (s : State) (m : Nat) (p : Page) (off : Nat) (refuses : Option Nat)
    (read : State → State × Word) (hread : ∀ t, Follows z t → Follows z (read t).1) (hz : Follows z s) :
    Follows z (State.readReg s m p off refuses read) := by
  unfold State.readReg
  repeat' first | with_reducible (first | assumption | apply State.answer_follows | apply State.refuse_follows | apply hread) | split

end Sys2Proof.Machine
end

