-- ==== Sys2Proof/Laws/FollowsHost.lean ====
section
/-!
SUPPORT. What `Follows` says, kept by the operations of the pages, the endpoint, DMA, trust, power and the bus.
-/

namespace Sys2Proof.Machine

/-! Machine/CreelPage.lean -/

theorem State.setChan_follows {z : State} (s : State) (ch : Nat) (v : Chan) (hz : Follows z s) : Follows z (State.setChan s ch v) :=
  hz.chans (fun c => SMap.wf_set c.chans)

theorem State.creelOnRefuse_follows {z : State} (s : State) (m n off : Nat) (v : Word) (hz : Follows z s) :
    Follows z (State.creelOnRefuse s m n off v) := by
  unfold State.creelOnRefuse; repeat' with_reducible (first | assumption | apply busPush_follows | apply Follows.ite)

theorem creelClear_follows {z : State} (n : Nat) (s : State) (hz : Follows z s) : Follows z (creelClear n s) := by
  unfold creelClear
  repeat' first | intro _ | with_reducible (first | assumption | apply State.setReg_follows | apply Follows.foldl)

theorem crossingCleared_follows {z : State} (n : Nat) (v : Word) (s : State) (hz : Follows z s) : Follows z (crossingCleared n v s) := by
  unfold crossingCleared
  repeat' with_reducible (first | assumption | apply State.setBit_follows | apply Follows.ite)

theorem windowOp_follows {z : State} (m n : Nat) (v : Word) (s : State) (hz : Follows z s) : Follows z (windowOp m n v s) := by
  unfold windowOp
  repeat' with_reducible (first | assumption | apply winOp_follows | apply State.issue_follows | apply Follows.ite)

theorem State.creelEffect_follows {z : State} (m n off : Nat) (v : Word) (s : State) (hz : Follows z s) :
    Follows z (State.creelEffect m n off v s) := by
  unfold State.creelEffect
  repeat' first
    | with_reducible assumption | with_reducible apply queueFlush_follows | with_reducible apply queueFlushNow_follows
    | with_reducible apply queueClearCounts_follows | with_reducible apply busPush_follows | with_reducible apply creelClear_follows
    | with_reducible apply crossingCleared_follows | with_reducible apply windowOp_follows | split

theorem State.completeWindows_follows {z : State}  (a0 : Nat) (a1 : State) (hz : Follows z a1) :
    Follows z (State.completeWindows a0 a1) := by
  induction a0 generalizing a1 with
  | zero => unfold State.completeWindows; exact hz
  | succ k ih =>
    unfold State.completeWindows
    try dsimp only
    repeat' first
      | with_reducible assumption | with_reducible apply ih | with_reducible apply winOp_follows
      | with_reducible apply State.deliver_follows | split | fail_if_no_progress with_reducible apply Follows.same

theorem creelWrite_follows {z : State} (m n off be : Nat) (v : Word) (s : State) (hz : Follows z s) :
    Follows z (creelWrite m n off be v s) := by
  unfold creelWrite
  repeat' first
    | intro _ | with_reducible assumption | with_reducible apply State.writeReg_follows
    | with_reducible apply State.creelOnRefuse_follows | with_reducible apply State.creelEffect_follows

theorem creelRead_follows {z : State} (m n off : Nat) (s : State) (hz : Follows z s) : Follows z (creelRead m n off s) := by
  unfold creelRead
  repeat' first
    | intro _ | with_reducible assumption | with_reducible apply busPop_follows | with_reducible apply State.readReg_follows
    | with_reducible apply Follows.iteFst

/-! Machine/Pci.lean -/

theorem State.pciStore_follows {z : State} (s : State) (f off : Nat) (v : Word) (hz : Follows z s) :
    Follows z (State.pciStore s f off v) := by
  unfold State.pciStore; repeat' with_reducible (first | assumption | apply State.setPci_follows)

theorem State.setMsix_follows {z : State} (s : State) (f off : Nat) (v : Word) (hz : Follows z s) :
    Follows z (State.setMsix s f off v) := by
  unfold State.setMsix
  repeat' first | with_reducible assumption | fail_if_no_progress with_reducible apply Follows.same

theorem State.setPending_follows {z : State} (s : State) (k : Nat) (b : Bool) (hz : Follows z s) :
    Follows z (State.setPending s k b) := by
  unfold State.setPending
  repeat' first | with_reducible assumption | fail_if_no_progress with_reducible apply Follows.same

theorem State.sendVector_follows {z : State} (s : State) (k : Nat) (hz : Follows z s) : Follows z (State.sendVector s k) := by
  unfold State.sendVector
  repeat' first | with_reducible assumption | fail_if_no_progress with_reducible apply Follows.same

theorem msixMessageOp_follows {z : State} (s : State) (hz : Follows z s) : Follows z (msixMessageOp s) := by
  unfold msixMessageOp
  try dsimp only
  repeat' first
    | with_reducible assumption | with_reducible apply State.setPending_follows | with_reducible apply State.sendVector_follows | split
    | fail_if_no_progress with_reducible apply Follows.same

theorem State.releasePending_follows {z : State} (s : State) (f : Nat) (hz : Follows z s) : Follows z (State.releasePending s f) := by
  unfold State.releasePending
  repeat' first
    | intro _ | with_reducible assumption | with_reducible apply State.setPending_follows | with_reducible apply Follows.foldl
    | fail_if_no_progress with_reducible apply Follows.same

theorem State.resetFunction_follows {z : State} (s : State) (f : Nat) (hz : Follows z s) : Follows z (State.resetFunction s f) := by
  unfold State.resetFunction
  repeat' first | with_reducible assumption | fail_if_no_progress with_reducible apply Follows.same

/-! Machine/Dma.lean -/

theorem State.chEvent_follows {z : State} (s : State) (ch j : Nat) (hz : Follows z s) : Follows z (State.chEvent s ch j) := by
  unfold State.chEvent; repeat' with_reducible (first | assumption | apply State.pulse_follows)

theorem State.waitCpl_follows {z : State} (s : State) (ch : Nat) (hz : Follows z s) : Follows z (State.waitCpl s ch) := by
  unfold State.waitCpl
  repeat' with_reducible (first | assumption | apply State.setChan_follows | apply State.chEvent_follows | apply Follows.ite)

theorem State.killReads_follows {z : State} (s : State) (ch : Nat) (hz : Follows z s) : Follows z (State.killReads s ch) := by
  unfold State.killReads
  repeat' first | with_reducible assumption | fail_if_no_progress with_reducible apply Follows.same

theorem State.abortPacket_follows {z : State} (s : State) (ch : Nat) (hz : Follows z s) : Follows z (State.abortPacket s ch) := by
  unfold State.abortPacket
  repeat' with_reducible (first | assumption | apply State.setChan_follows | apply creelWrite_follows | apply Follows.ite)

theorem State.endDesc_follows {z : State} (s : State) (ch slot : Nat) (cookie : Word) (status moved : Nat) (idle raw last irq : Bool)
    (hz : Follows z s) :
    Follows z (State.endDesc s ch slot cookie status moved idle raw last irq) := by
  unfold State.endDesc
  repeat' first
    | with_reducible assumption | with_reducible apply State.setReg_follows | with_reducible apply State.setChan_follows
    | with_reducible apply State.killReads_follows | with_reducible apply State.abortPacket_follows | with_reducible apply Follows.ite

theorem State.endWork_follows {z : State} (s : State) (ch status : Nat) (idle : Bool) (hz : Follows z s) :
    Follows z (State.endWork s ch status idle) := by
  unfold State.endWork; repeat' first | with_reducible (first | assumption | apply State.endDesc_follows) | split

theorem State.rejectWork_follows {z : State} (s : State) (ch : Nat) (hz : Follows z s) : Follows z (State.rejectWork s ch) := by
  unfold State.rejectWork
  repeat' with_reducible (first | assumption | apply State.setFld_follows | apply State.endWork_follows)

theorem State.takeCredit_follows {z : State} (s : State) (ch : Nat) (hz : Follows z s) : Follows z (State.takeCredit s ch) := by
  unfold State.takeCredit; repeat' first | with_reducible (first | assumption | apply State.setFld_follows) | split

theorem State.startDesc_follows {z : State} (s : State) (ch : Nat) (hz : Follows z s) : Follows z (State.startDesc s ch) := by
  unfold State.startDesc
  try dsimp only
  repeat' first
    | with_reducible assumption | with_reducible apply State.setChan_follows | with_reducible apply State.waitCpl_follows
    | with_reducible apply State.endDesc_follows | with_reducible apply State.endWork_follows
    | with_reducible apply State.takeCredit_follows | split

theorem State.notePeak_follows {z : State} (s : State) (hz : Follows z s) : Follows z (State.notePeak s) := by
  unfold State.notePeak; repeat' with_reducible (first | assumption | apply State.setFld_follows)

theorem State.grantTags_follows {z : State}  (a0 : Nat) (a1 : State) (hz : Follows z a1) : Follows z (State.grantTags a0 a1) := by
  induction a0 generalizing a1 with
  | zero => unfold State.grantTags; exact hz
  | succ k ih =>
    unfold State.grantTags
    repeat' first
      | with_reducible assumption | with_reducible apply ih | with_reducible apply State.withEng_follows
      | with_reducible apply State.setChan_follows | with_reducible apply State.notePeak_follows | split
      | fail_if_no_progress with_reducible apply Follows.same

theorem State.ask_follows {z : State} (s : State) (hz : Follows z s) : Follows z (State.ask s) := by
  unfold State.ask; repeat' with_reducible (first | assumption | apply State.grantTags_follows)

theorem State.advance_follows {z : State} (s : State) (ch : Nat) (hz : Follows z s) : Follows z (State.advance s ch) := by
  unfold State.advance
  repeat' first
    | with_reducible assumption | with_reducible apply State.setChan_follows | with_reducible apply State.startDesc_follows
    | with_reducible apply State.ask_follows | with_reducible apply Follows.ite

theorem State.settleStop_follows {z : State} (s : State) (ch : Nat) (hz : Follows z s) : Follows z (State.settleStop s ch) := by
  unfold State.settleStop
  repeat' first
    | with_reducible assumption | with_reducible apply State.setBit_follows | with_reducible apply State.setChan_follows
    | with_reducible apply State.chEvent_follows | with_reducible apply State.killReads_follows | with_reducible apply Follows.ite

theorem State.countMoved_follows {z : State} (s : State) (ch e : Nat) (hz : Follows z s) : Follows z (State.countMoved s ch e) := by
  unfold State.countMoved; repeat' with_reducible (first | assumption | apply State.setPair_follows)

theorem pushElement_follows {z : State} (n : Nat) (v : Nat) (last : Bool) (s : State) (hz : Follows z s) :
    Follows z (pushElement n v last s) := by
  unfold pushElement
  repeat' with_reducible (first | assumption | apply creelWrite_follows | apply Follows.ite)

theorem pushReady_follows {z : State} (ch : Nat) (a0 : Nat) (a1 : State) (hz : Follows z a1) : Follows z (pushReady ch a0 a1) := by
  induction a0 generalizing a1 with
  | zero => unfold pushReady; exact hz
  | succ k ih =>
    unfold pushReady
    try dsimp only
    repeat' first
      | with_reducible assumption | with_reducible apply ih | with_reducible apply State.setChan_follows
      | with_reducible apply State.endWork_follows | with_reducible apply State.rejectWork_follows
      | with_reducible apply State.countMoved_follows | with_reducible apply pushElement_follows | split

theorem popElement_follows {z : State} (n : Nat) (s : State) (hz : Follows z s) : Follows z (popElement n s).1 := by
  unfold popElement
  repeat' with_reducible (first | assumption | apply creelRead_follows | apply Follows.ite | apply Follows.iteFst)

theorem popReady_follows {z : State} (ch : Nat) (a0 : Nat) (a1 : State) (hz : Follows z a1) : Follows z (popReady ch a0 a1) := by
  induction a0 generalizing a1 with
  | zero => unfold popReady; exact hz
  | succ k ih =>
    unfold popReady
    try dsimp only
    repeat' first
      | with_reducible assumption | with_reducible apply ih | with_reducible apply State.setChan_follows
      | with_reducible apply State.endWork_follows | with_reducible apply State.rejectWork_follows
      | with_reducible apply State.countMoved_follows | with_reducible apply popElement_follows | split

theorem State.move_follows {z : State} (s : State) (ch : Nat) (hz : Follows z s) : Follows z (State.move s ch) := by
  unfold State.move
  repeat' first
    | with_reducible assumption | with_reducible apply State.advance_follows | with_reducible apply pushReady_follows
    | with_reducible apply popReady_follows | with_reducible apply Follows.ite

theorem State.advanceAll_follows {z : State} (s : State) (hz : Follows z s) : Follows z (State.advanceAll s) := by
  unfold State.advanceAll
  repeat' first
    | intro _ | with_reducible assumption | with_reducible apply State.ask_follows | with_reducible apply State.advance_follows
    | with_reducible apply State.move_follows | with_reducible apply Follows.foldl

theorem levelPoll_follows {z : State} (ch t : Nat) (s : State) (hz : Follows z s) : Follows z (levelPoll ch t s) := by
  unfold levelPoll
  repeat' first
    | with_reducible assumption | with_reducible apply State.setChan_follows | with_reducible apply creelRead_follows
    | with_reducible apply State.rejectWork_follows | with_reducible apply State.move_follows | with_reducible apply Follows.ite

theorem idleTimeout_follows {z : State} (ch t : Nat) (s : State) (hz : Follows z s) : Follows z (idleTimeout ch t s) := by
  unfold idleTimeout
  repeat' first | with_reducible (first | assumption | apply State.endWork_follows | apply State.advance_follows) | split

theorem discardTail_follows {z : State} (ch : Nat) (a0 : Nat) (a1 : State) (hz : Follows z a1) : Follows z (discardTail ch a0 a1) := by
  induction a0 generalizing a1 with
  | zero => unfold discardTail; exact hz
  | succ k ih =>
    unfold discardTail
    repeat' first
      | with_reducible assumption | with_reducible apply ih | with_reducible apply State.setReg_follows
      | with_reducible apply State.setChan_follows | with_reducible apply State.chEvent_follows
      | with_reducible apply State.advance_follows | with_reducible apply popElement_follows | with_reducible apply Follows.ite

theorem tailDiscardedOp_follows {z : State} (ch : Nat) (s : State) (hz : Follows z s) : Follows z (tailDiscardedOp ch s) := by
  unfold tailDiscardedOp; repeat' with_reducible (first | assumption | apply discardTail_follows)

theorem descriptorFetch_follows {z : State} (ch : Nat) (s : State) (hz : Follows z s) : Follows z (descriptorFetch ch s) := by
  unfold descriptorFetch
  try dsimp only
  repeat' first | with_reducible (first | assumption | apply State.setChan_follows | apply State.advance_follows) | split

theorem dataReadDone_follows {z : State} (ch : Nat) (s : State) (hz : Follows z s) : Follows z (dataReadDone ch s) := by
  unfold dataReadDone
  try dsimp only
  repeat' first
    | with_reducible assumption | with_reducible apply State.setChan_follows | with_reducible apply State.endWork_follows
    | with_reducible apply State.advance_follows | with_reducible apply State.move_follows | split

theorem State.readEnds_follows {z : State} (s : State) (r : DevRead) (status : Nat) (bytes : List Byte) (hz : Follows z s) :
    Follows z (State.readEnds s r status bytes) := by
  unfold State.readEnds
  repeat' first
    | with_reducible assumption | with_reducible apply State.setChan_follows | with_reducible apply State.ask_follows
    | with_reducible apply State.advance_follows | with_reducible apply Follows.ite
    | fail_if_no_progress with_reducible apply Follows.same

theorem State.engineReadEnds_follows {z : State} (s : State) (r : DevRead) (ok : Bool) (ws : List Word) (hz : Follows z s) :
    Follows z (State.engineReadEnds s r ok ws) := by
  unfold State.engineReadEnds
  repeat' first
    | with_reducible assumption | with_reducible apply State.withEng_follows | with_reducible apply State.rejectLoad_follows
    | with_reducible apply State.ask_follows | with_reducible apply Follows.ite | fail_if_no_progress with_reducible apply Follows.same

theorem State.deviceReadEnds_follows {z : State} (s : State) (r : DevRead) (status : Nat) (ws : List Word) (bytes : List Byte)
    (hz : Follows z s) :
    Follows z (State.deviceReadEnds s r status ws bytes) := by
  unfold State.deviceReadEnds
  repeat' with_reducible (first | assumption | apply State.readEnds_follows | apply State.engineReadEnds_follows | apply Follows.ite)

theorem readCompletion_follows {z : State} (tag : Nat) (st : CplStatus) (ws : List Word) (s : State) (hz : Follows z s) :
    Follows z (readCompletion tag st ws s) := by
  unfold readCompletion
  try dsimp only
  repeat' first
    | with_reducible assumption | with_reducible apply State.count_follows | with_reducible apply State.pcieEvent_follows
    | with_reducible apply State.aer_follows | with_reducible apply State.aerAdvisory_follows
    | with_reducible apply State.deviceReadEnds_follows | split

theorem readTimeout_follows {z : State} (tag : Nat) (s : State) (hz : Follows z s) : Follows z (readTimeout tag s) := by
  unfold readTimeout
  repeat' first | with_reducible (first | assumption | apply State.aer_follows | apply State.deviceReadEnds_follows) | split

theorem dmaRecordOp_follows {z : State} (ch : Nat) (s : State) (hz : Follows z s) : Follows z (dmaRecordOp ch s) := by
  unfold dmaRecordOp
  try dsimp only
  repeat' first
    | with_reducible assumption | with_reducible apply State.setReg_follows | with_reducible apply State.setFld_follows
    | with_reducible apply State.countWrap_follows | with_reducible apply clockedWrite_follows
    | with_reducible apply State.setChan_follows | with_reducible apply State.chEvent_follows
    | with_reducible apply State.waitCpl_follows | with_reducible apply State.advance_follows
    | with_reducible apply State.settleStop_follows | split

theorem dmaEnableOp_follows {z : State} (ch : Nat) (s : State) (hz : Follows z s) : Follows z (dmaEnableOp ch s) := by
  unfold dmaEnableOp
  repeat' with_reducible (first | assumption | apply State.setChan_follows | apply State.advance_follows | apply Follows.ite)

theorem dmaDisableOp_follows {z : State} (ch : Nat) (s : State) (hz : Follows z s) : Follows z (dmaDisableOp ch s) := by
  unfold dmaDisableOp
  repeat' with_reducible (first | assumption | apply State.setChan_follows | apply State.settleStop_follows | apply Follows.ite)

theorem dmaResetOp_follows {z : State} (ch : Nat) (s : State) (hz : Follows z s) : Follows z (dmaResetOp ch s) := by
  unfold dmaResetOp
  try dsimp only
  repeat' first
    | intro _ | with_reducible assumption | with_reducible apply State.setReg_follows | with_reducible apply State.setBit_follows
    | with_reducible apply State.startResync_follows | with_reducible apply State.setChan_follows
    | with_reducible apply State.killReads_follows | with_reducible apply State.abortPacket_follows | with_reducible apply Follows.foldl
    | split

theorem ctrlWritten_follows {z : State} (ch : Nat) (v : Word) (s : State) (hz : Follows z s) : Follows z (ctrlWritten ch v s) := by
  unfold ctrlWritten
  repeat' first
    | with_reducible assumption | with_reducible apply dmaEnableOp_follows | with_reducible apply dmaDisableOp_follows
    | with_reducible apply dmaResetOp_follows | with_reducible apply Follows.ite

theorem cplCiWritten_follows {z : State} (ch : Nat) (s : State) (hz : Follows z s) : Follows z (cplCiWritten ch s) := by
  unfold cplCiWritten
  repeat' with_reducible (first | assumption | apply State.setChan_follows | apply State.advance_follows | apply Follows.ite)

theorem State.dmaEffect_follows {z : State} (p : Page) (off : Nat) (v : Word) (s : State) (hz : Follows z s) :
    Follows z (State.dmaEffect p off v s) := by
  unfold State.dmaEffect
  repeat' first
    | with_reducible assumption | with_reducible apply State.advance_follows | with_reducible apply ctrlWritten_follows
    | with_reducible apply cplCiWritten_follows | split

theorem State.addCredits_follows {z : State} (s : State) (k n : Nat) (hz : Follows z s) : Follows z (State.addCredits s k n) := by
  unfold State.addCredits
  repeat' first | with_reducible (first | assumption | apply State.setFld_follows | apply State.advance_follows) | split

theorem State.stopChannels_follows {z : State} (s : State) (hz : Follows z s) : Follows z (State.stopChannels s) := by
  unfold State.stopChannels
  repeat' first
    | intro _ | with_reducible assumption | with_reducible apply State.setBit_follows | with_reducible apply dmaDisableOp_follows
    | with_reducible apply Follows.foldl

theorem State.resetChannels_follows {z : State} (s : State) (which : Nat → Bool) (hz : Follows z s) :
    Follows z (State.resetChannels s which) := by
  unfold State.resetChannels
  repeat' first
    | intro _ | with_reducible assumption | with_reducible apply State.rejectLoad_follows | with_reducible apply dmaResetOp_follows
    | with_reducible apply Follows.ite | with_reducible apply Follows.foldl

/-! Machine/Pcie.lean -/

theorem State.unhear_follows {z : State} (s : State) (which : Nat → Bool) (hz : Follows z s) : Follows z (State.unhear s which) := by
  unfold State.unhear
  repeat' first | with_reducible assumption | fail_if_no_progress with_reducible apply Follows.same

theorem State.invalidatePtm_follows {z : State} (s : State) (hz : Follows z s) : Follows z (State.invalidatePtm s) := by
  unfold State.invalidatePtm
  repeat' with_reducible (first | assumption | apply State.setBit_follows | apply State.pulse_follows | apply Follows.ite)

theorem State.endpointReset_follows {z : State} (s : State) (hz : Follows z s) : Follows z (State.endpointReset s) := by
  unfold State.endpointReset
  repeat' first
    | with_reducible assumption | with_reducible apply State.setFld_follows | with_reducible apply State.identityReset_follows
    | with_reducible apply State.pcieEvent_follows | with_reducible apply State.resetFunction_follows
    | with_reducible apply State.resetChannels_follows | with_reducible apply State.unhear_follows
    | with_reducible apply State.invalidatePtm_follows | with_reducible apply Follows.ite | with_reducible apply Follows.foldl
    | fail_if_no_progress with_reducible apply Follows.same

theorem linkDownOp_follows {z : State} (s : State) (hz : Follows z s) : Follows z (linkDownOp s) := by
  unfold linkDownOp
  repeat' with_reducible (first | assumption | apply State.endpointReset_follows | apply Follows.ite)

theorem trainingStartOp_follows {z : State} (s : State) (hz : Follows z s) : Follows z (trainingStartOp s) := by
  unfold trainingStartOp
  repeat' first | with_reducible (first | assumption | apply Follows.ite) | fail_if_no_progress with_reducible apply Follows.same

theorem linkUpOp_follows {z : State} (speed width : Nat) (s : State) (hz : Follows z s) : Follows z (linkUpOp speed width s) := by
  unfold linkUpOp
  repeat' first
    | with_reducible assumption | with_reducible apply State.setFld_follows | with_reducible apply State.setBit_follows
    | with_reducible apply State.pcieEvent_follows | with_reducible apply Follows.ite
    | fail_if_no_progress with_reducible apply Follows.same

theorem speedChangeOp_follows {z : State} (speed : Nat) (s : State) (hz : Follows z s) : Follows z (speedChangeOp speed s) := by
  unfold speedChangeOp
  repeat' first
    | with_reducible assumption | with_reducible apply State.setFld_follows | with_reducible apply State.count_follows
    | with_reducible apply State.pcieEvent_follows | with_reducible apply Follows.ite

theorem flrOp_follows {z : State} (f : Nat) (s : State) (hz : Follows z s) : Follows z (flrOp f s) := by
  unfold flrOp
  repeat' first
    | with_reducible assumption | with_reducible apply State.identityReset_follows | with_reducible apply State.pcieEvent_follows
    | with_reducible apply State.resetFunction_follows | with_reducible apply State.resetChannels_follows
    | with_reducible apply State.unhear_follows | with_reducible apply Follows.ite
    | fail_if_no_progress with_reducible apply Follows.same

theorem flrCompleteOp_follows {z : State} (f : Nat) (s : State) (hz : Follows z s) : Follows z (flrCompleteOp f s) := by
  unfold flrCompleteOp
  repeat' first | with_reducible (first | assumption | apply Follows.ite) | fail_if_no_progress with_reducible apply Follows.same

theorem State.functionOpens_follows {z : State} (s : State) (f : Nat) (hz : Follows z s) : Follows z (State.functionOpens s f) := by
  unfold State.functionOpens
  repeat' with_reducible (first | assumption | apply State.releasePending_follows | apply State.advanceAll_follows)

theorem bmeClearOp_follows {z : State} (f : Nat) (s : State) (hz : Follows z s) : Follows z (bmeClearOp f s) := by
  unfold bmeClearOp
  repeat' first
    | with_reducible assumption | with_reducible apply State.setPci_follows | with_reducible apply State.pcieEvent_follows
    | with_reducible apply State.advanceAll_follows | with_reducible apply Follows.ite

theorem d3EntryOp_follows {z : State} (f : Nat) (s : State) (hz : Follows z s) : Follows z (d3EntryOp f s) := by
  unfold d3EntryOp
  repeat' first
    | with_reducible assumption | with_reducible apply State.setPci_follows | with_reducible apply State.pcieEvent_follows
    | with_reducible apply State.advanceAll_follows | with_reducible apply Follows.ite

theorem d0ReturnOp_follows {z : State} (f : Nat) (s : State) (hz : Follows z s) : Follows z (d0ReturnOp f s) := by
  unfold d0ReturnOp
  repeat' with_reducible (first | assumption | apply State.setPci_follows | apply State.functionOpens_follows | apply Follows.ite)

theorem configWrite_follows {z : State} (f off : Nat) (v : Word) (s : State) (hz : Follows z s) : Follows z (configWrite f off v s) := by
  unfold configWrite
  repeat' first
    | with_reducible assumption | with_reducible apply State.setPci_follows | with_reducible apply State.pciStore_follows
    | with_reducible apply State.advanceAll_follows | with_reducible apply flrOp_follows
    | with_reducible apply State.functionOpens_follows | with_reducible apply bmeClearOp_follows | with_reducible apply d3EntryOp_follows
    | with_reducible apply d0ReturnOp_follows | with_reducible apply Follows.ite

theorem configRequestOp_follows {z : State} (f off : Nat) (write : Bool) (v : Word) (s : State) (hz : Follows z s) :
    Follows z (configRequestOp f off write v s) := by
  unfold configRequestOp
  repeat' first
    | with_reducible assumption | with_reducible apply configWrite_follows | with_reducible apply Follows.ite
    | fail_if_no_progress with_reducible apply Follows.same

theorem ptmDialogueOp_follows {z : State} (ok : Bool) (offset : Nat) (s : State) (hz : Follows z s) :
    Follows z (ptmDialogueOp ok offset s) := by
  unfold ptmDialogueOp
  repeat' first
    | with_reducible assumption | with_reducible apply State.setReg_follows | with_reducible apply State.setBit_follows
    | with_reducible apply State.count_follows | with_reducible apply State.setPair_follows | with_reducible apply State.pulse_follows
    | with_reducible apply Follows.ite | fail_if_no_progress with_reducible apply Follows.same

theorem pcieClear_follows {z : State} (s : State) (hz : Follows z s) : Follows z (pcieClear s) := by
  unfold pcieClear
  repeat' with_reducible (first | assumption | apply State.setReg_follows | apply State.setFld_follows)

/-! Machine/Trust.lean -/

theorem State.mgmtEvent_follows {z : State} (s : State) (k : Nat) (hz : Follows z s) : Follows z (State.mgmtEvent s k) := by
  unfold State.mgmtEvent; repeat' with_reducible (first | assumption | apply State.pulse_follows)

theorem State.setWeft_follows {z : State} (s : State) (k : Nat) (hz : Follows z s) : Follows z (State.setWeft s k) := by
  unfold State.setWeft; repeat' with_reducible (first | assumption | apply State.setFld_follows)

theorem State.restartWdog_follows {z : State} (s : State) (hz : Follows z s) : Follows z (State.restartWdog s) := by
  unfold State.restartWdog
  repeat' first | with_reducible assumption | fail_if_no_progress with_reducible apply Follows.same

theorem weftResetOp_follows {z : State} (s : State) (hz : Follows z s) : Follows z (weftResetOp s) := by
  unfold weftResetOp
  repeat' first
    | with_reducible assumption | with_reducible apply State.count_follows | with_reducible apply State.identityReset_follows
    | with_reducible apply State.driftAll_follows | with_reducible apply State.setWeft_follows
    | fail_if_no_progress with_reducible apply Follows.same

theorem State.weftRuns_follows {z : State} (s : State) (hz : Follows z s) : Follows z (State.weftRuns s) := by
  unfold State.weftRuns
  repeat' first
    | with_reducible assumption | with_reducible apply State.setReg_follows | with_reducible apply State.mgmtEvent_follows
    | with_reducible apply State.setWeft_follows | with_reducible apply State.restartWdog_follows

theorem containerVerified_follows {z : State} (ok : Bool) (patch : Nat) (version : Word) (s : State) (hz : Follows z s) :
    Follows z (containerVerified ok patch version s) := by
  unfold containerVerified
  repeat' first
    | with_reducible assumption | with_reducible apply State.setFld_follows | with_reducible apply State.setBit_follows
    | with_reducible apply State.mgmtEvent_follows | with_reducible apply State.setWeft_follows
    | with_reducible apply State.weftRuns_follows | with_reducible apply Follows.ite
    | fail_if_no_progress with_reducible apply Follows.same

theorem weftCtrlWritten_follows {z : State} (v : Word) (s : State) (hz : Follows z s) : Follows z (weftCtrlWritten v s) := by
  unfold weftCtrlWritten
  repeat' with_reducible (first | assumption | apply weftResetOp_follows | apply State.weftRuns_follows | apply Follows.ite)

theorem weftWdogOp_follows {z : State} (t : Nat) (s : State) (hz : Follows z s) : Follows z (weftWdogOp t s) := by
  unfold weftWdogOp
  repeat' first
    | with_reducible assumption | with_reducible apply State.at_follows | with_reducible apply State.count_follows
    | with_reducible apply State.mgmtEvent_follows | with_reducible apply weftResetOp_follows | split

theorem heartbeatRead_follows {z : State} (m : Nat) (s : State) (hz : Follows z s) : Follows z (heartbeatRead m s).1 := by
  unfold heartbeatRead
  repeat' with_reducible (first | assumption | apply State.countWrap_follows | apply State.restartWdog_follows | apply Follows.iteFst)

theorem State.setKeySlot_follows {z : State} (s : State) (slot v : Nat) (hz : Follows z s) : Follows z (State.setKeySlot s slot v) := by
  unfold State.setKeySlot; repeat' with_reducible (first | assumption | apply State.setFld_follows)

theorem State.enterLc_follows {z : State} (s : State) (target : Nat) (hz : Follows z s) : Follows z (State.enterLc s target) := by
  unfold State.enterLc
  repeat' first
    | with_reducible assumption | with_reducible apply State.setFld_follows | with_reducible apply State.pulse_follows
    | with_reducible apply State.logEntry_follows | with_reducible apply State.setKeySlot_follows | with_reducible apply Follows.ite

theorem State.enterKey_follows {z : State} (s : State) (slot : Nat) (ws : List Word) (hz : Follows z s) :
    Follows z (State.enterKey s slot ws) := by
  unfold State.enterKey
  repeat' first
    | with_reducible assumption | with_reducible apply State.logEntry_follows | with_reducible apply State.setKeySlot_follows
    | fail_if_no_progress with_reducible apply Follows.same

theorem State.dropStaged_follows {z : State} (s : State) (hz : Follows z s) : Follows z (State.dropStaged s) := by
  unfold State.dropStaged
  repeat' first | with_reducible assumption | fail_if_no_progress with_reducible apply Follows.same

theorem State.withJtag_follows {z : State} (s : State) (j : Jtag) (hz : Follows z s) : Follows z (State.withJtag s j) := by
  unfold State.withJtag
  repeat' first | with_reducible assumption | fail_if_no_progress with_reducible apply Follows.same

theorem jtagInstrOp_follows {z : State} (i : JtagInstr) (s : State) (hz : Follows z s) : Follows z (jtagInstrOp i s) := by
  unfold jtagInstrOp
  repeat' first
    | with_reducible assumption | with_reducible apply State.settle_follows | with_reducible apply State.refreshPins_follows
    | with_reducible apply State.withJtag_follows

theorem idcodeOp_follows {z : State} (s : State) (hz : Follows z s) : Follows z (idcodeOp s) := by
  unfold idcodeOp
  repeat' with_reducible (first | assumption | apply State.withJtag_follows | apply jtagInstrOp_follows)

theorem samplePreloadOp_follows {z : State} (preload : List Bool) (s : State) (hz : Follows z s) :
    Follows z (samplePreloadOp preload s) := by
  unfold samplePreloadOp
  repeat' with_reducible (first | assumption | apply State.withJtag_follows | apply jtagInstrOp_follows)

theorem trstOp_follows {z : State} (s : State) (hz : Follows z s) : Follows z (trstOp s) := by
  unfold trstOp
  repeat' first
    | with_reducible assumption | with_reducible apply State.identityReset_follows | with_reducible apply State.withJtag_follows
    | with_reducible apply jtagInstrOp_follows

/-! Machine/Power.lean -/

theorem State.withPwr_follows {z : State} (s : State) (p : Power) (hz : Follows z s) : Follows z (State.withPwr s p) := by
  unfold State.withPwr
  repeat' first | with_reducible assumption | fail_if_no_progress with_reducible apply Follows.same

theorem State.withBoot_follows {z : State} (s : State) (b : Boot) (hz : Follows z s) : Follows z (State.withBoot s b) := by
  unfold State.withBoot
  repeat' first | with_reducible assumption | fail_if_no_progress with_reducible apply Follows.same

theorem railWarnOp_follows {z : State} (k mv t : Nat) (s : State) (hz : Follows z s) : Follows z (railWarnOp k mv t s) := by
  unfold railWarnOp
  repeat' first
    | with_reducible assumption | with_reducible apply State.at_follows | with_reducible apply State.setReg_follows
    | with_reducible apply State.raise_follows | with_reducible apply State.holdPanel_follows
    | with_reducible apply State.holdSeamFrame_follows | with_reducible apply State.withPwr_follows | with_reducible apply Follows.ite
    | with_reducible apply Follows.foldl

theorem railRecoveredOp_follows {z : State} (k t : Nat) (s : State) (hz : Follows z s) : Follows z (railRecoveredOp k t s) := by
  unfold railRecoveredOp
  repeat' first
    | with_reducible assumption | with_reducible apply State.at_follows | with_reducible apply State.setReg_follows
    | with_reducible apply State.raise_follows | with_reducible apply State.settle_follows | with_reducible apply State.withPwr_follows
    | with_reducible apply Follows.ite

theorem railMeasureOp_follows {z : State} (mvs : List Nat) (s : State) (hz : Follows z s) : Follows z (railMeasureOp mvs s) := by
  unfold railMeasureOp
  repeat' first
    | intro _ | with_reducible assumption | with_reducible apply State.setReg_follows | with_reducible apply State.setFld_follows
    | with_reducible apply State.withPwr_follows | with_reducible apply Follows.ite | with_reducible apply Follows.foldl

theorem pwrClear_follows {z : State} (s : State) (hz : Follows z s) : Follows z (pwrClear s) := by
  unfold pwrClear
  repeat' first | intro _ | with_reducible (first | assumption | apply State.setReg_follows | apply Follows.foldl)

theorem State.burnAtReset_follows {z : State} (s : State) (hz : Follows z s) : Follows z (State.burnAtReset s) := by
  unfold State.burnAtReset
  try dsimp only
  repeat' first
    | with_reducible assumption | with_reducible apply State.tick_follows | with_reducible apply State.enterLc_follows
    | with_reducible apply State.enterKey_follows | split | fail_if_no_progress with_reducible apply Follows.same

theorem State.bare_follows {z : State} (s : State) (keep : Nat → Bool) (hz : Follows z s) : Follows z (s.bare keep) := by
  unfold State.bare
  dsimp only
  refine State.setReg_follows _ _ _ (State.setReg_follows _ _ _ (hz.trans ⟨rfl, Nat.le_refl _, fun c => ?_⟩))
  exact {
    regs := SMap.wf_filter _ c.regs, caps := rfl, bolts := rfl, cells := rfl, joins := rfl, cfgMem := rfl, seamHeld := rfl, taps := rfl,
    portIn := rfl, creels := rfl, arrays := rfl, twills := rfl, bridges := rfl, paces := rfl, fbps := rfl,
    pins := SMap.wf_foldl _ _ (fun _ _ hm => SMap.wf_set hm) (SMap.wf_nil _), portSample := rfl, bankOk := rfl, patterns := rfl,
    periphs := rfl, shuttles := rfl, semas := rfl, quads := rfl, lanes := rfl, chans := rfl }

theorem State.deviceReset_follows {z : State} (s : State) (cause rail : Nat) (hz : Follows z s) :
    Follows z (State.deviceReset s cause rail) := by
  unfold State.deviceReset
  repeat' first
    | with_reducible assumption | with_reducible apply State.setReg_follows | with_reducible apply State.countWrap_follows
    | with_reducible apply State.burnAtReset_follows | with_reducible apply State.bare_follows
    | fail_if_no_progress with_reducible apply Follows.same

theorem railResetOp_follows {z : State} (k t : Nat) (s : State) (hz : Follows z s) : Follows z (railResetOp k t s) := by
  unfold railResetOp
  repeat' with_reducible (first | assumption | apply State.at_follows | apply State.deviceReset_follows | apply Follows.ite)

theorem refclkLossOp_follows {z : State} (t : Nat) (s : State) (hz : Follows z s) : Follows z (refclkLossOp t s) := by
  unfold refclkLossOp
  repeat' first
    | with_reducible assumption | with_reducible apply State.at_follows | with_reducible apply State.withPwr_follows
    | with_reducible apply State.deviceReset_follows | with_reducible apply Follows.ite

theorem refclkReturnOp_follows {z : State} (t : Nat) (s : State) (hz : Follows z s) : Follows z (refclkReturnOp t s) := by
  unfold refclkReturnOp
  repeat' first
    | with_reducible assumption | with_reducible apply State.at_follows | with_reducible apply State.withPwr_follows
    | with_reducible apply State.withBoot_follows | with_reducible apply Follows.ite

theorem State.countSleepRefused_follows {z : State} (s : State) (hz : Follows z s) : Follows z (State.countSleepRefused s) := by
  unfold State.countSleepRefused; repeat' with_reducible (first | assumption | apply State.count_follows)

theorem State.fallAsleep_follows {z : State} (s : State) (hz : Follows z s) : Follows z (State.fallAsleep s) := by
  unfold State.fallAsleep
  repeat' first
    | intro _ | with_reducible assumption | with_reducible apply State.count_follows | with_reducible apply State.paceLock_follows
    | with_reducible apply State.settle_follows | with_reducible apply State.refreshPins_follows
    | with_reducible apply State.keepLevels_follows | with_reducible apply State.setPwr_follows
    | with_reducible apply State.pwrEvent_follows | with_reducible apply State.stopQuads_follows
    | with_reducible apply State.withPwr_follows | with_reducible apply Follows.foldl
    | fail_if_no_progress with_reducible apply Follows.same

theorem sleepOp_follows {z : State} (s : State) (hz : Follows z s) : Follows z (sleepOp s) := by
  unfold sleepOp
  repeat' first
    | with_reducible assumption | with_reducible apply State.setReg_follows | with_reducible apply State.setPwr_follows
    | with_reducible apply State.requestClose_follows | with_reducible apply State.advanceAll_follows
    | with_reducible apply State.fallAsleep_follows | with_reducible apply Follows.ite

theorem sleepRefusedOp_follows {z : State} (t : Nat) (s : State) (hz : Follows z s) : Follows z (sleepRefusedOp t s) := by
  unfold sleepRefusedOp
  repeat' first
    | with_reducible assumption | with_reducible apply State.at_follows | with_reducible apply State.pwrEvent_follows
    | with_reducible apply State.abandonEntry_follows | with_reducible apply State.advanceAll_follows
    | with_reducible apply State.countSleepRefused_follows | with_reducible apply Follows.ite

theorem sleepEnteredOp_follows {z : State} (t : Nat) (s : State) (hz : Follows z s) : Follows z (sleepEnteredOp t s) := by
  unfold sleepEnteredOp
  repeat' with_reducible (first | assumption | apply State.at_follows | apply State.fallAsleep_follows | apply Follows.ite)

theorem wakeOp_follows {z : State} (k : Nat) (s : State) (hz : Follows z s) : Follows z (wakeOp k s) := by
  unfold wakeOp
  repeat' with_reducible (first | assumption | apply State.wakeSource_follows | apply State.advanceAll_follows | apply Follows.ite)

theorem wakeRailsReadyOp_follows {z : State} (t : Nat) (s : State) (hz : Follows z s) : Follows z (wakeRailsReadyOp t s) := by
  unfold wakeRailsReadyOp
  repeat' first
    | intro _ | with_reducible assumption
    | with_reducible apply Follows.creelsPaces (fun c => SMap.wf_foldl _ _ (fun _ _ hm => SMap.wf_set hm) (SMap.wf_nil _)) (fun c => SMap.wf_foldl _ _ (fun _ _ hm => SMap.wf_set hm) (SMap.wf_nil _))
    | with_reducible apply State.at_follows | with_reducible apply State.setReg_follows
    | with_reducible apply State.restoreTwills_follows | with_reducible apply State.settle_follows
    | with_reducible apply State.restoreCells_follows | with_reducible apply State.enterHalt_follows
    | with_reducible apply State.wakeQuads_follows | with_reducible apply State.withPwr_follows | with_reducible apply Follows.ite
    | with_reducible apply Follows.foldl

theorem wakeLateOp_follows {z : State} (t : Nat) (s : State) (hz : Follows z s) : Follows z (wakeLateOp t s) := by
  unfold wakeLateOp
  repeat' with_reducible (first | assumption | apply State.at_follows | apply State.setBit_follows | apply Follows.ite)

theorem wakeCompleteOp_follows {z : State} (t : Nat) (s : State) (hz : Follows z s) : Follows z (wakeCompleteOp t s) := by
  unfold wakeCompleteOp
  repeat' first
    | with_reducible assumption | with_reducible apply State.at_follows | with_reducible apply State.settle_follows
    | with_reducible apply State.refreshPins_follows | with_reducible apply State.pwrEvent_follows
    | with_reducible apply State.abandonEntry_follows | with_reducible apply State.resyncBoth_follows
    | with_reducible apply State.advanceAll_follows | with_reducible apply Follows.ite | with_reducible apply Follows.foldl
    | fail_if_no_progress with_reducible apply Follows.same

theorem shutdownOp_follows {z : State} (s : State) (hz : Follows z s) : Follows z (shutdownOp s) := by
  unfold shutdownOp
  repeat' first
    | with_reducible assumption | with_reducible apply State.setReg_follows | with_reducible apply State.setPwr_follows
    | with_reducible apply State.requestClose_follows | with_reducible apply State.abortLoad_follows
    | with_reducible apply State.stopChannels_follows | with_reducible apply State.withPwr_follows
    | with_reducible apply State.withBoot_follows | with_reducible apply Follows.ite

theorem State.showClass_follows {z : State} (s : State) (hz : Follows z s) : Follows z (State.showClass s) := by
  unfold State.showClass; repeat' first | with_reducible (first | assumption | apply State.setFld_follows) | split

theorem State.startTest_follows {z : State} (s : State) (st origin : Nat) (classes : List Nat) (hz : Follows z s) :
    Follows z (State.startTest s st origin classes) := by
  unfold State.startTest
  repeat' first
    | with_reducible assumption | with_reducible apply State.setReg_follows | with_reducible apply State.raise_follows
    | with_reducible apply State.logEntry_follows | with_reducible apply State.withBoot_follows
    | with_reducible apply State.showClass_follows

theorem State.endTest_follows {z : State} (s : State) (pass : Bool) (failed : Nat) (hz : Follows z s) :
    Follows z (State.endTest s pass failed) := by
  unfold State.endTest
  repeat' first
    | with_reducible assumption | with_reducible apply State.setReg_follows | with_reducible apply State.raise_follows
    | with_reducible apply State.logEntry_follows | with_reducible apply State.withBoot_follows | with_reducible apply Follows.ite

theorem State.setDoffRec_follows {z : State} (s : State) (r : DoffRec) (hz : Follows z s) : Follows z (State.setDoffRec s r) := by
  unfold State.setDoffRec; repeat' with_reducible (first | assumption | apply State.withBoot_follows)

theorem doffStartOp_follows {z : State} (expected : Word) (t : Nat) (s : State) (hz : Follows z s) :
    Follows z (doffStartOp expected t s) := by
  unfold doffStartOp
  repeat' first
    | with_reducible assumption | with_reducible apply State.at_follows | with_reducible apply State.settle_follows
    | with_reducible apply State.refreshPins_follows | with_reducible apply State.keepLevels_follows
    | with_reducible apply State.setPwr_follows | with_reducible apply State.withBoot_follows
    | with_reducible apply State.startTest_follows | with_reducible apply State.setDoffRec_follows | with_reducible apply Follows.ite
    | fail_if_no_progress with_reducible apply Follows.same

theorem State.endDoff_follows {z : State} (s : State) (pass : Bool) (failed : Nat) (hz : Follows z s) :
    Follows z (State.endDoff s pass failed) := by
  unfold State.endDoff
  repeat' first
    | with_reducible assumption | with_reducible apply State.raise_follows | with_reducible apply State.setPwr_follows
    | with_reducible apply State.withBoot_follows | with_reducible apply State.endTest_follows
    | with_reducible apply State.setDoffRec_follows | split

theorem State.checkersTested_follows {z : State} (s : State) (failing : List Nat) (hz : Follows z s) :
    Follows z (State.checkersTested s failing) := by
  unfold State.checkersTested
  repeat' first
    | intro _ | with_reducible assumption | with_reducible apply State.setReg_follows | with_reducible apply State.setBit_follows
    | with_reducible apply Follows.foldl

theorem State.holdInReset_follows {z : State} (s : State) (hz : Follows z s) : Follows z (State.holdInReset s) := by
  unfold State.holdInReset
  repeat' first
    | with_reducible assumption | with_reducible apply State.setReg_follows | with_reducible apply State.endpointReset_follows
    | with_reducible apply State.withBoot_follows

theorem State.enterSafe_follows {z : State} (s : State) (hz : Follows z s) : Follows z (State.enterSafe s) := by
  unfold State.enterSafe
  repeat' with_reducible (first | assumption | apply State.setBit_follows | apply State.withBoot_follows)

theorem warpRomBootOp_follows {z : State} (digestOk : Bool) (t : Nat) (s : State) (hz : Follows z s) :
    Follows z (warpRomBootOp digestOk t s) := by
  unfold warpRomBootOp
  try dsimp only
  repeat' first
    | with_reducible assumption | with_reducible apply State.at_follows | with_reducible apply State.setReg_follows
    | with_reducible apply State.setBit_follows | with_reducible apply State.countWrap_follows
    | with_reducible apply State.withBoot_follows | with_reducible apply State.startTest_follows
    | with_reducible apply State.setDoffRec_follows | with_reducible apply State.holdInReset_follows | split

theorem sanityDoneOp_follows {z : State} (engineOk nvssOk shadowOk : Bool) (failing : List Nat) (t : Nat) (s : State) (hz : Follows z s) :
    Follows z (sanityDoneOp engineOk nvssOk shadowOk failing t s) := by
  unfold sanityDoneOp
  repeat' first
    | with_reducible assumption | with_reducible apply State.at_follows | with_reducible apply State.withBoot_follows
    | with_reducible apply State.endTest_follows | with_reducible apply State.checkersTested_follows
    | with_reducible apply State.holdInReset_follows | with_reducible apply State.enterSafe_follows | with_reducible apply Follows.ite

theorem State.endFull_follows {z : State} (s : State) (pass : Bool) (failed : Nat) (hz : Follows z s) :
    Follows z (State.endFull s pass failed) := by
  unfold State.endFull
  repeat' first
    | with_reducible assumption | with_reducible apply State.withBoot_follows | with_reducible apply State.endTest_follows
    | with_reducible apply State.holdInReset_follows | with_reducible apply State.enterSafe_follows | with_reducible apply Follows.ite

theorem State.recordClass_follows {z : State} (s : State) (c : Nat) (signature : Dword) (patterns : Word) (good : Bool) (hz : Follows z s) :
    Follows z (State.recordClass s c signature patterns good) := by
  unfold State.recordClass
  try dsimp only
  repeat' first
    | with_reducible assumption | with_reducible apply State.setReg_follows | with_reducible apply State.setBit_follows
    | with_reducible apply State.setDoffRec_follows | split

theorem testClassDoneOp_follows {z : State} (signature : Dword) (patterns : Word) (good : Bool) (failing : List Nat) (t : Nat)
    (s : State) (hz : Follows z s) :
    Follows z (testClassDoneOp signature patterns good failing t s) := by
  unfold testClassDoneOp
  try dsimp only
  repeat' first
    | with_reducible assumption | with_reducible apply State.at_follows | with_reducible apply State.withBoot_follows
    | with_reducible apply State.showClass_follows | with_reducible apply State.endTest_follows
    | with_reducible apply State.endDoff_follows | with_reducible apply State.checkersTested_follows
    | with_reducible apply State.endFull_follows | with_reducible apply State.recordClass_follows | split

theorem testStartOp_follows {z : State} (m : Nat) (v : Word) (s : State) (hz : Follows z s) : Follows z (testStartOp m v s) := by
  unfold testStartOp
  repeat' with_reducible (first | assumption | apply State.startTest_follows | apply Follows.ite)

theorem State.setServing_follows {z : State} (s : State) (ch : Nat) (v : Option Service) (hz : Follows z s) :
    Follows z (State.setServing s ch v) := by
  unfold State.setServing
  repeat' first | with_reducible assumption | fail_if_no_progress with_reducible apply Follows.same

/-! Machine/Service.lean -/

theorem State.countAnswer_follows {z : State} (s : State) (op code : Nat) (hz : Follows z s) :
    Follows z (State.countAnswer s op code) := by
  unfold State.countAnswer
  repeat' first
    | with_reducible assumption | with_reducible apply State.setReg_follows | with_reducible apply State.count_follows
    | with_reducible apply State.mgmtEvent_follows | with_reducible apply Follows.ite

theorem State.acknowledge_follows {z : State} (s : State) (ch op code : Nat) (hz : Follows z s) :
    Follows z (State.acknowledge s ch op code) := by
  unfold State.acknowledge
  repeat' first
    | with_reducible assumption | with_reducible apply rxAckOp_follows | with_reducible apply State.setServing_follows
    | with_reducible apply State.countAnswer_follows | with_reducible apply Follows.ite

theorem State.returnForwarded_follows {z : State} (s : State) (hz : Follows z s) : Follows z (State.returnForwarded s) := by
  unfold State.returnForwarded
  repeat' first | with_reducible (first | assumption | apply ackPop_follows | apply State.acknowledge_follows) | split

theorem State.finish_follows {z : State} (s : State) (ch op code : Nat) (hz : Follows z s) : Follows z (State.finish s ch op code) := by
  unfold State.finish
  repeat' with_reducible (first | assumption | apply State.acknowledge_follows | apply State.returnForwarded_follows)

theorem State.reply_follows {z : State} (s : State) (ch op tag : Nat) (ws : List Word) (hz : Follows z s) :
    Follows z (State.reply s ch op tag ws) := by
  unfold State.reply
  repeat' first
    | intro _ | with_reducible assumption | with_reducible apply txAppend_follows | with_reducible apply State.commitMsg_follows
    | with_reducible apply Follows.foldl

theorem State.forward_follows {z : State} (s : State) (ws : List Word) (hz : Follows z s) : Follows z (State.forward s ws) := by
  unfold State.forward
  repeat' first
    | intro _ | with_reducible assumption | with_reducible apply txAppend_follows | with_reducible apply State.commitMsg_follows
    | with_reducible apply Follows.foldl

theorem State.followOne_follows {z : State} (s : State) (ch : Nat) (hz : Follows z s) : Follows z (State.followOne s ch) := by
  unfold State.followOne
  repeat' first
    | with_reducible assumption | with_reducible apply State.tick_follows | with_reducible apply State.returnForwarded_follows
    | with_reducible apply State.finish_follows | split

theorem State.follow_follows {z : State} (s : State) (hz : Follows z s) : Follows z (State.follow s) := by
  unfold State.follow; repeat' with_reducible (first | assumption | apply State.followOne_follows)

theorem fuseBurnDone_follows {z : State} (t : Nat) (s : State) (hz : Follows z s) : Follows z (fuseBurnDone t s) := by
  unfold fuseBurnDone
  repeat' first
    | with_reducible assumption | with_reducible apply State.at_follows | with_reducible apply State.enterLc_follows
    | with_reducible apply State.finish_follows | split | fail_if_no_progress with_reducible apply Follows.same

theorem keyBurnDone_follows {z : State} (t : Nat) (s : State) (hz : Follows z s) : Follows z (keyBurnDone t s) := by
  unfold keyBurnDone
  repeat' first
    | with_reducible assumption | with_reducible apply State.at_follows | with_reducible apply State.enterKey_follows
    | with_reducible apply State.finish_follows | split | fail_if_no_progress with_reducible apply Follows.same

theorem supplyFaultOp_follows {z : State} (t : Nat) (s : State) (hz : Follows z s) : Follows z (supplyFaultOp t s) := by
  unfold supplyFaultOp
  repeat' first
    | with_reducible assumption | with_reducible apply State.at_follows | with_reducible apply State.finish_follows | split
    | fail_if_no_progress with_reducible apply Follows.same

/-! Machine/Bus.lean -/

theorem readPair_follows {z : State} (m : Nat) (p : Page) (off : Nat) (s : State) (hz : Follows z s) :
    Follows z (readPair m p off s).1 := by
  unfold readPair
  repeat' with_reducible (first | assumption | apply State.setCap_follows | apply Follows.iteFst)

theorem readEffect_follows {z : State} (m : Nat) (p : Page) (off : Nat) (s : State) (hz : Follows z s) :
    Follows z (readEffect m p off s).1 := by
  unfold readEffect
  repeat' first
    | with_reducible assumption | with_reducible apply popRecord_follows | with_reducible apply txCommitOrDrop_follows
    | with_reducible apply rxNext_follows | with_reducible apply ackPop_follows | with_reducible apply lockRead_follows
    | with_reducible apply hpPop_follows | with_reducible apply State.drift_follows | with_reducible apply heartbeatRead_follows
    | with_reducible apply State.follow_follows | with_reducible apply readPair_follows | split

theorem State.refusedAt_follows {z : State} (m : Nat) (p : Page) (off : Nat) (v : Word) (s : State) (hz : Follows z s) :
    Follows z (State.refusedAt m p off v s) := by
  unfold State.refusedAt
  repeat' first
    | with_reducible assumption | with_reducible apply txDropped_follows | with_reducible apply ackDroppedWrite_follows
    | with_reducible apply releaseRefused_follows | with_reducible apply State.creelOnRefuse_follows
    | with_reducible apply State.countSleepRefused_follows | split

theorem boltCmdWritten_follows {z : State} (v : Word) (s : State) (hz : Follows z s) : Follows z (boltCmdWritten v s) := by
  unfold boltCmdWritten
  repeat' first
    | with_reducible assumption | with_reducible apply boltRollbackOp_follows | with_reducible apply boltHaltOp_follows
    | with_reducible apply boltResumeOp_follows | with_reducible apply boltClearOp_follows
    | with_reducible apply State.engineFollow_follows | with_reducible apply State.follow_follows | split

theorem cfgCmdWritten_follows {z : State} (m : Nat) (v : Word) (s : State) (hz : Follows z s) : Follows z (cfgCmdWritten m v s) := by
  unfold cfgCmdWritten
  repeat' first
    | with_reducible assumption | with_reducible apply startFull_follows | with_reducible apply startReweave_follows
    | with_reducible apply State.abortLoad_follows | with_reducible apply State.releaseNow_follows
    | with_reducible apply State.ask_follows | with_reducible apply State.follow_follows | split

theorem shuttleWritten_follows {z : State} (p : Page) (off : Nat) (old v : Word) (s : State) (hz : Follows z s) :
    Follows z (shuttleWritten p off old v s) := by
  unfold shuttleWritten
  repeat' first
    | with_reducible assumption | with_reducible apply State.setReg_follows | with_reducible apply txAppend_follows
    | with_reducible apply txCommitOrDrop_follows | with_reducible apply rxAckOp_follows | with_reducible apply flushRxOp_follows
    | with_reducible apply clearPeerReset_follows | with_reducible apply rebound_follows
    | with_reducible apply State.lockBindingsOp_follows | split

theorem semaWritten_follows {z : State} (off : Nat) (v : Word) (s : State) (hz : Follows z s) : Follows z (semaWritten off v s) := by
  unfold semaWritten
  repeat' first
    | with_reducible assumption | with_reducible apply State.setReg_follows | with_reducible apply State.setHolder_follows
    | with_reducible apply State.forceRelease_follows | split

theorem pinWritten_follows {z : State} (p : Page) (off : Nat) (old : Word) (s : State) (hz : Follows z s) :
    Follows z (pinWritten p off old s) := by
  unfold pinWritten
  repeat' with_reducible (first | assumption | apply pinMapWritten_follows | apply pinPadWritten_follows | apply Follows.ite)

theorem bankWritten_follows {z : State} (b off : Nat) (old v : Word) (s : State) (hz : Follows z s) :
    Follows z (bankWritten b off old v s) := by
  unfold bankWritten
  repeat' first
    | with_reducible assumption | with_reducible apply State.setReg_follows | with_reducible apply State.settle_follows
    | with_reducible apply State.enableBank_follows | with_reducible apply State.bankRecoded_follows | with_reducible apply Follows.ite

theorem patternPageWritten_follows {z : State} (off : Nat) (old v : Word) (s : State) (hz : Follows z s) :
    Follows z (patternPageWritten off old v s) := by
  unfold patternPageWritten
  repeat' first
    | with_reducible assumption | with_reducible apply patternWritten_follows | with_reducible apply patternClear_follows
    | with_reducible apply patternStickyCleared_follows | with_reducible apply Follows.ite

theorem hostperWritten_follows {z : State} (off : Nat) (v : Word) (s : State) (hz : Follows z s) :
    Follows z (hostperWritten off v s) := by
  unfold hostperWritten
  repeat' first
    | with_reducible assumption | with_reducible apply hpCommand_follows | with_reducible apply hpPush_follows
    | with_reducible apply hpConfigured_follows | split

theorem paceApplyOp_follows {z : State} (g : Nat) (s : State) (hz : Follows z s) : Follows z (paceApplyOp g s) := by
  unfold paceApplyOp; repeat' with_reducible (first | assumption | apply State.setPace_follows)

theorem paceWritten_follows {z : State} (g off : Nat) (v : Word) (s : State) (hz : Follows z s) : Follows z (paceWritten g off v s) := by
  unfold paceWritten
  repeat' with_reducible (first | assumption | apply State.setReg_follows | apply paceApplyOp_follows | apply Follows.ite)

theorem serdesWritten_follows {z : State} (q off : Nat) (old v : Word) (s : State) (hz : Follows z s) :
    Follows z (serdesWritten q off old v s) := by
  unfold serdesWritten
  repeat' first
    | with_reducible assumption | with_reducible apply quadPwrOp_follows | with_reducible apply sdApplyOp_follows
    | with_reducible apply sdResetOp_follows | with_reducible apply sdClear_follows | with_reducible apply prbsInjectOp_follows
    | with_reducible apply lcfgWritten_follows | with_reducible apply dfeWritten_follows | with_reducible apply prbsWritten_follows
    | split

theorem pcsWritten_follows {z : State} (q off : Nat) (v : Word) (s : State) (hz : Follows z s) : Follows z (pcsWritten q off v s) := by
  unfold pcsWritten
  repeat' first | with_reducible (first | assumption | apply pcsApplyOp_follows | apply pcsClear_follows) | split

theorem svWritten_follows {z : State} (k off : Nat) (v : Word) (s : State) (hz : Follows z s) : Follows z (svWritten k off v s) := by
  unfold svWritten
  repeat' first
    | intro _ | with_reducible assumption | with_reducible apply State.setReg_follows | with_reducible apply State.resyncBridge_follows
    | with_reducible apply Follows.ite | with_reducible apply Follows.foldl

theorem eventWritten_follows {z : State} (m off : Nat) (v : Word) (s : State) (hz : Follows z s) :
    Follows z (eventWritten m off v s) := by
  unfold eventWritten
  repeat' first
    | with_reducible assumption | with_reducible apply State.setReg_follows | with_reducible apply clearRing_follows
    | with_reducible apply userRaise_follows | with_reducible apply Follows.ite

theorem logWritten_follows {z : State} (off : Nat) (v : Word) (s : State) (hz : Follows z s) : Follows z (logWritten off v s) := by
  unfold logWritten
  repeat' with_reducible (first | assumption | apply logClearOp_follows | apply logFreeOp_follows | apply Follows.ite)

theorem powerWritten_follows {z : State} (off : Nat) (v : Word) (s : State) (hz : Follows z s) : Follows z (powerWritten off v s) := by
  unfold powerWritten
  repeat' first
    | with_reducible assumption | with_reducible apply pwrClear_follows | with_reducible apply sleepOp_follows
    | with_reducible apply wakeOp_follows | with_reducible apply shutdownOp_follows | with_reducible apply State.follow_follows | split

theorem mgmtWritten_follows {z : State} (off : Nat) (v : Word) (s : State) (hz : Follows z s) : Follows z (mgmtWritten off v s) := by
  unfold mgmtWritten
  repeat' first
    | with_reducible assumption | with_reducible apply State.restartWdog_follows | with_reducible apply weftCtrlWritten_follows
    | with_reducible apply State.follow_follows | with_reducible apply Follows.ite

theorem State.effectAt_follows {z : State} (m : Nat) (p : Page) (off : Nat) (old v : Word) (s : State) (hz : Follows z s) :
    Follows z (State.effectAt m p off old v s) := by
  unfold State.effectAt
  repeat' first
    | with_reducible assumption | with_reducible apply twillClear_follows | with_reducible apply fbpClear_follows
    | with_reducible apply pickApplyOp_follows | with_reducible apply pickClearOp_follows | with_reducible apply cfgFifoWrite_follows
    | with_reducible apply scrubClear_follows | with_reducible apply State.creelEffect_follows
    | with_reducible apply State.dmaEffect_follows | with_reducible apply pcieClear_follows
    | with_reducible apply State.deviceReset_follows | with_reducible apply testStartOp_follows
    | with_reducible apply boltCmdWritten_follows | with_reducible apply cfgCmdWritten_follows
    | with_reducible apply shuttleWritten_follows | with_reducible apply semaWritten_follows | with_reducible apply pinWritten_follows
    | with_reducible apply bankWritten_follows | with_reducible apply patternPageWritten_follows
    | with_reducible apply hostperWritten_follows | with_reducible apply paceWritten_follows | with_reducible apply serdesWritten_follows
    | with_reducible apply pcsWritten_follows | with_reducible apply svWritten_follows | with_reducible apply eventWritten_follows
    | with_reducible apply logWritten_follows | with_reducible apply powerWritten_follows | with_reducible apply mgmtWritten_follows
    | split

theorem pageWrite_follows {z : State} (m : Nat) (p : Page) (off be : Nat) (v : Word) (s : State) (hz : Follows z s) :
    Follows z (pageWrite m p off be v s) := by
  unfold pageWrite
  dsimp only
  have h1 : Follows z (if p.kind = .serdes ∧ 0x100 ≤ off ∧ off % 0x40 = 0x00 then s.drift p.inst (offLane off) else s) :=
    Follows.ite (State.drift_follows _ _ _ hz) hz
  exact State.writeReg_follows _ _ _ _ _ _ _ _ (fun t ht => State.effectAt_follows _ _ _ _ _ _ ht)
    (fun t ht => State.refusedAt_follows _ _ _ _ _ ht) h1

theorem pageRead_follows {z : State} (m : Nat) (p : Page) (off : Nat) (s : State) (hz : Follows z s) :
    Follows z (pageRead m p off s) := by
  unfold pageRead
  repeat' first
    | intro _ | with_reducible assumption | with_reducible apply busPop_follows | with_reducible apply State.readReg_follows
    | with_reducible apply readEffect_follows | with_reducible apply Follows.iteFst

theorem windowAccess_follows {z : State} (e : Issued) (s : State) (hz : Follows z s) : Follows z (windowAccess e s) := by
  unfold windowAccess
  repeat' with_reducible (first | assumption | apply State.issue_follows | apply State.refuse_follows | apply Follows.ite)

theorem unmappedAccess_follows {z : State} (m a : Nat) (write : Bool) (s : State) (hz : Follows z s) :
    Follows z (unmappedAccess m a write s) := by
  unfold unmappedAccess
  repeat' with_reducible (first | assumption | apply State.answer_follows | apply State.recordUnmapped_follows)

theorem pageAccess_follows {z : State} (e : Issued) (p : Page) (s : State) (hz : Follows z s) : Follows z (pageAccess e p s) := by
  unfold pageAccess
  repeat' first
    | with_reducible assumption | with_reducible apply State.refuse_follows | with_reducible apply pageWrite_follows
    | with_reducible apply pageRead_follows | with_reducible apply Follows.ite

theorem Issued.arrive_follows {z : State} (e : Issued) (s : State) (hz : Follows z s) : Follows z (Issued.arrive e s) := by
  unfold Issued.arrive
  repeat' first
    | with_reducible assumption | with_reducible apply windowAccess_follows | with_reducible apply unmappedAccess_follows
    | with_reducible apply pageAccess_follows | split

theorem Issued.perform_follows {z : State} (e : Issued) (s : State) (hz : Follows z s) : Follows z (Issued.perform e s) := by
  unfold Issued.perform
  repeat' first
    | with_reducible assumption | with_reducible apply Issued.arrive_follows | with_reducible apply Follows.ite
    | fail_if_no_progress with_reducible apply Follows.same

theorem State.heldAs_follows {z : State} (s : State) (e : Issued) (hz : Follows z s) : Follows z (State.heldAs s e) := by
  unfold State.heldAs
  repeat' first | with_reducible assumption | fail_if_no_progress with_reducible apply Follows.same

theorem State.conclude_follows {z : State} (s : State) (e : Issued) (hz : Follows z s) : Follows z (State.conclude s e) := by
  unfold State.conclude
  repeat' first
    | with_reducible assumption | with_reducible apply State.forgetAnswer_follows | with_reducible apply State.passOn_follows
    | with_reducible apply State.heldAs_follows | with_reducible apply Follows.ite

theorem busAccess_follows {z : State} (e : Issued) (s : State) (hz : Follows z s) : Follows z (busAccess e s) := by
  unfold busAccess
  repeat' first
    | with_reducible assumption | with_reducible apply State.park_follows | with_reducible apply Issued.perform_follows
    | with_reducible apply State.conclude_follows | with_reducible apply Follows.ite

theorem busWrite_follows {z : State} (m a be : Nat) (v : Word) (s : State) (hz : Follows z s) : Follows z (busWrite m a be v s) := by
  unfold busWrite; repeat' with_reducible (first | assumption | apply busAccess_follows)

theorem busRead_follows {z : State} (m a : Nat) (s : State) (hz : Follows z s) : Follows z (busRead m a s) := by
  unfold busRead; repeat' with_reducible (first | assumption | apply busAccess_follows)

theorem State.stopEngine_follows {z : State} (s : State) (m : Nat) (hz : Follows z s) : Follows z (State.stopEngine s m) := by
  unfold State.stopEngine
  repeat' first
    | with_reducible assumption | with_reducible apply State.abortLoad_follows | with_reducible apply State.endTest_follows
    | with_reducible apply State.endDoff_follows | with_reducible apply State.endFull_follows | with_reducible apply State.follow_follows
    | with_reducible apply Follows.ite

theorem State.noteRejection_follows {z : State} (s : State) (hz : Follows z s) : Follows z (State.noteRejection s) := by
  unfold State.noteRejection
  repeat' first
    | with_reducible assumption | with_reducible apply State.recordRejection_follows | with_reducible apply State.hostDrop_follows
    | with_reducible apply State.stopEngine_follows | split

theorem access_follows {z : State} (f : State → State) (s : State) (hf : ∀ t, Follows z t → Follows z (f t)) (hz : Follows z s) :
    Follows z (access f s) := by
  unfold access
  repeat' first
    | with_reducible assumption | with_reducible apply State.forgetAnswer_follows | with_reducible apply State.noteRejection_follows
    | with_reducible apply hf | with_reducible apply Follows.ite

theorem slotGranted_follows {z : State} (m : Nat) (s : State) (hz : Follows z s) : Follows z (slotGranted m s) := by
  unfold slotGranted
  try dsimp only
  repeat' first
    | intro _ | with_reducible assumption | with_reducible apply Issued.perform_follows | with_reducible apply State.conclude_follows
    | with_reducible apply access_follows | split | fail_if_no_progress with_reducible apply Follows.same

/-! Machine/HostPort.lean -/

theorem State.hostAnswer_follows {z : State} (s : State) (f : Nat) (write : Bool) (a : Nat) (data : List Word) (code : Nat)
    (st : CplKind) (hz : Follows z s) :
    Follows z (State.hostAnswer s f write a data code st) := by
  unfold State.hostAnswer
  repeat' first | with_reducible assumption | fail_if_no_progress with_reducible apply Follows.same

theorem State.unsupported_follows {z : State} (s : State) (f : Nat) (write : Bool) (a : Nat) (hz : Follows z s) :
    Follows z (State.unsupported s f write a) := by
  unfold State.unsupported
  repeat' with_reducible (first | assumption | apply State.dropPosted_follows | apply State.hostAnswer_follows | apply Follows.ite)

theorem doorbell_follows {z : State} (e : Issued) (o : Nat) (s : State) (hz : Follows z s) : Follows z (doorbell e o s) := by
  unfold doorbell; repeat' with_reducible (first | assumption | apply busAccess_follows)

theorem msixWrite_follows {z : State} (f off be : Nat) (v : Word) (s : State) (hz : Follows z s) :
    Follows z (msixWrite f off be v s) := by
  unfold msixWrite
  repeat' first
    | with_reducible assumption | with_reducible apply State.setMsix_follows | with_reducible apply State.functionOpens_follows
    | with_reducible apply State.hostAnswer_follows

theorem bar2Word_follows {z : State} (f off : Nat) (e : Issued) (s : State) (hz : Follows z s) : Follows z (bar2Word f off e s) := by
  unfold bar2Word
  repeat' first
    | with_reducible assumption | with_reducible apply unmappedAccess_follows | with_reducible apply State.conclude_follows
    | with_reducible apply State.hostAnswer_follows | with_reducible apply doorbell_follows | with_reducible apply msixWrite_follows
    | with_reducible apply Follows.ite

theorem hostWord_follows {z : State} (f : Nat) (bar : Bar) (off : Nat) (e : Issued) (s : State) (hz : Follows z s) :
    Follows z (hostWord f bar off e s) := by
  unfold hostWord
  repeat' first | with_reducible (first | assumption | apply busAccess_follows | apply bar2Word_follows) | split

theorem hostWrite_follows {z : State} (f : Nat) (bar : Bar) (last id : Nat) (a0 : Nat) (a1 : Nat) (a2 : Nat) (a3 : List Word)
    (a4 : State) (hz : Follows z a4) :
    Follows z (hostWrite f bar last id a0 a1 a2 a3 a4) := by
  induction a3 generalizing a0 a1 a2 a4 with
  | nil => unfold hostWrite; exact hz
  | cons x a ih =>
    unfold hostWrite
    repeat' with_reducible (first | assumption | apply ih | apply access_follows | apply hostWord_follows)

theorem hostWriteRequest_follows {z : State} (f : Nat) (bar : Bar) (last off be : Nat) (ws : List Word) (s : State) (hz : Follows z s) :
    Follows z (hostWriteRequest f bar last off be ws s) := by
  unfold hostWriteRequest
  repeat' first | with_reducible (first | assumption | apply hostWrite_follows) | fail_if_no_progress with_reducible apply Follows.same

theorem hostReadWords_follows {z : State} (f : Nat) (bar : Bar) (off id n : Nat) (s : State) (hz : Follows z s) :
    Follows z (hostReadWords f bar off id n s) := by
  unfold hostReadWords
  repeat' first | intro _ | with_reducible (first | assumption | apply access_follows | apply hostWord_follows | apply Follows.foldl)

theorem State.noteHostPeak_follows {z : State} (s : State) (held : Nat) (hz : Follows z s) : Follows z (State.noteHostPeak s held) := by
  unfold State.noteHostPeak; repeat' with_reducible (first | assumption | apply State.setFld_follows)

theorem hostReadRequest_follows {z : State} (f : Nat) (bar : Bar) (off n : Nat) (s : State) (hz : Follows z s) :
    Follows z (hostReadRequest f bar off n s) := by
  unfold hostReadRequest
  repeat' first
    | with_reducible assumption | with_reducible apply access_follows | with_reducible apply State.hostAnswer_follows
    | with_reducible apply hostWord_follows | with_reducible apply hostReadWords_follows
    | with_reducible apply State.noteHostPeak_follows | with_reducible apply Follows.ite
    | fail_if_no_progress with_reducible apply Follows.same

theorem hostMemoryRequest_follows {z : State} (f : Nat) (bar : Bar) (off : Nat) (op : HostOp) (be last : Nat) (ws : List Word)
    (len : Nat) (poisoned ecrcBad : Bool) (s : State) (hz : Follows z s) :
    Follows z (hostMemoryRequest f bar off op be last ws len poisoned ecrcBad s) := by
  unfold hostMemoryRequest
  repeat' first
    | intro _ | with_reducible assumption | with_reducible apply State.aer_follows | with_reducible apply State.aerAdvisory_follows
    | with_reducible apply State.forgetAnswer_follows | with_reducible apply access_follows
    | with_reducible apply State.hostAnswer_follows | with_reducible apply State.unsupported_follows
    | with_reducible apply hostWriteRequest_follows | with_reducible apply hostReadRequest_follows | with_reducible apply Follows.ite

theorem dbgAccessOp_follows {z : State} (write : Bool) (a : Nat) (v : Word) (s : State) (hz : Follows z s) :
    Follows z (dbgAccessOp write a v s) := by
  unfold dbgAccessOp
  repeat' with_reducible (first | assumption | apply jtagInstrOp_follows | apply busAccess_follows | apply access_follows)

theorem State.issueInit_follows {z : State} (s : State) (n a : Nat) (we : Bool) (v : Word) (hz : Follows z s) :
    Follows z (State.issueInit s n a we v) := by
  unfold State.issueInit
  repeat' with_reducible (first | assumption | apply State.setFbp_follows | apply busAccess_follows | apply access_follows)

theorem State.takeInit_follows {z : State} (s : State) (n : Nat) (x : Dword) (hz : Follows z s) : Follows z (State.takeInit s n x) := by
  unfold State.takeInit
  repeat' with_reducible (first | assumption | apply State.setFbp_follows | apply State.issueInit_follows)

theorem initiatorRequest_follows {z : State} (n : Nat) (x : Dword) (s : State) (hz : Follows z s) :
    Follows z (initiatorRequest n x s) := by
  unfold initiatorRequest
  repeat' with_reducible (first | assumption | apply State.setFbp_follows | apply State.takeInit_follows | apply Follows.ite)

theorem initiatorRequestOp_follows {z : State} (n : Nat) (s : State) (hz : Follows z s) : Follows z (initiatorRequestOp n s) := by
  unfold initiatorRequestOp
  repeat' with_reducible (first | assumption | apply State.settle_follows | apply initiatorRequest_follows | apply Follows.ite)

theorem State.unparkInit_follows {z : State} (s : State) (n : Nat) (hz : Follows z s) : Follows z (State.unparkInit s n) := by
  unfold State.unparkInit
  repeat' first | with_reducible (first | assumption | apply State.takeInit_follows) | split

theorem State.unparkPort_follows {z : State} (s : State) (n : Nat) (hz : Follows z s) : Follows z (State.unparkPort s n) := by
  unfold State.unparkPort
  repeat' with_reducible (first | assumption | apply State.unparkAnswer_follows | apply State.unparkInit_follows)

theorem State.unparkPorts_follows {z : State} (s : State) (hz : Follows z s) : Follows z (State.unparkPorts s) := by
  unfold State.unparkPorts
  repeat' with_reducible (first | assumption | apply State.unparkPort_follows | apply Follows.foldl)

theorem initiatorResponseOp_follows {z : State} (n : Nat) (s : State) (hz : Follows z s) : Follows z (initiatorResponseOp n s) := by
  unfold initiatorResponseOp
  repeat' first
    | with_reducible assumption | with_reducible apply State.settle_follows | with_reducible apply initiatorResponse_follows
    | with_reducible apply State.unparkInit_follows

/-! Machine/Firmware.lean -/

theorem State.fwWrites_follows {z : State} (s : State) (m : Nat) (a0 : List (Nat × Word)) (hz : Follows z s) :
    Follows z (State.fwWrites s m a0).1 := by
  induction a0 generalizing s with
  | nil => unfold State.fwWrites; exact hz
  | cons x a ih =>
    unfold State.fwWrites
    repeat' with_reducible (first | assumption | apply ih | apply Issued.perform_follows | apply access_follows | apply Follows.iteFst)

theorem State.fwWrite_follows {z : State} (s : State) (m a : Nat) (v : Word) (hz : Follows z s) :
    Follows z (State.fwWrite s m a v).1 := by
  unfold State.fwWrite; repeat' with_reducible (first | assumption | apply State.fwWrites_follows)

theorem State.dropOther_follows {z : State} (s : State) (op : Nat) (hz : Follows z s) : Follows z (State.dropOther s op) := by
  unfold State.dropOther
  repeat' first | with_reducible (first | assumption | apply State.dropStaged_follows) | split

theorem State.forwardRequest_follows {z : State} (s : State) (op : Nat) (hz : Follows z s) : Follows z (State.forwardRequest s op) := by
  unfold State.forwardRequest
  repeat' first | with_reducible (first | assumption | apply State.setServing_follows | apply State.forward_follows) | split

theorem serve_follows {z : State} (op : Nat) (msg : SvcMsg) (body : State → State) (s : State) (hbody : ∀ t, Follows z t → Follows z
    (body t)) (hz : Follows z s) :
    Follows z (serve op msg body s) := by
  unfold serve
  try dsimp only
  repeat' first
    | with_reducible assumption | with_reducible apply State.finish_follows | with_reducible apply State.dropOther_follows
    | with_reducible apply State.forwardRequest_follows | with_reducible apply hbody | split

theorem State.await_follows {z : State} (s : State) (ch op : Nat) (hold : Bool) (hz : Follows z s) :
    Follows z (State.await s ch op hold) := by
  unfold State.await
  repeat' with_reducible (first | assumption | apply State.setServing_follows | apply State.follow_follows)

theorem State.replied_follows {z : State} (s : State) (msg : SvcMsg) (op : Nat) (ws : List Word) (hz : Follows z s) :
    Follows z (State.replied s msg op ws) := by
  unfold State.replied
  repeat' with_reducible (first | assumption | apply State.finish_follows | apply State.reply_follows | apply Follows.ite)

theorem getInfoOp_follows {z : State} (msg : SvcMsg) (s : State) (hz : Follows z s) : Follows z (getInfoOp msg s) := by
  unfold getInfoOp
  repeat' first | intro _ | with_reducible (first | assumption | apply serve_follows | apply State.replied_follows)

theorem getTelemetryOp_follows {z : State} (msg : SvcMsg) (power : List Word) (s : State) (hz : Follows z s) :
    Follows z (getTelemetryOp msg power s) := by
  unfold getTelemetryOp
  repeat' first
    | intro _ | with_reducible assumption | with_reducible apply State.finish_follows | with_reducible apply serve_follows
    | with_reducible apply State.replied_follows | split

theorem State.startLoad_follows {z : State} (s : State) (op : Nat) (hold : Bool) (writes : List (Nat × Word)) (cmd : Word)
    (hz : Follows z s) :
    Follows z (State.startLoad s op hold writes cmd) := by
  unfold State.startLoad
  repeat' first
    | with_reducible assumption | with_reducible apply State.finish_follows | with_reducible apply State.fwWrites_follows
    | with_reducible apply State.await_follows | with_reducible apply Follows.ite

theorem loadImageHostOp_follows {z : State} (msg : SvcMsg) (s : State) (hz : Follows z s) : Follows z (loadImageHostOp msg s) := by
  unfold loadImageHostOp
  repeat' first
    | intro _ | with_reducible assumption | with_reducible apply State.finish_follows | with_reducible apply serve_follows
    | with_reducible apply State.startLoad_follows | with_reducible apply Follows.ite

theorem loadImageFlashOp_follows {z : State} (msg : SvcMsg) (s : State) (hz : Follows z s) : Follows z (loadImageFlashOp msg s) := by
  unfold loadImageFlashOp
  repeat' first
    | intro _ | with_reducible assumption | with_reducible apply State.finish_follows | with_reducible apply serve_follows
    | with_reducible apply State.startLoad_follows | with_reducible apply Follows.ite

theorem reweaveOp_follows {z : State} (msg : SvcMsg) (s : State) (hz : Follows z s) : Follows z (reweaveOp msg s) := by
  unfold reweaveOp
  repeat' first
    | intro _ | with_reducible assumption | with_reducible apply State.finish_follows | with_reducible apply serve_follows
    | with_reducible apply State.startLoad_follows | with_reducible apply Follows.ite

theorem setVfabOp_follows {z : State} (msg : SvcMsg) (confirmed : Bool) (s : State) (hz : Follows z s) :
    Follows z (setVfabOp msg confirmed s) := by
  unfold setVfabOp
  repeat' first | intro _ | with_reducible (first | assumption | apply State.finish_follows | apply serve_follows | apply Follows.ite)

theorem setPowerStateOp_follows {z : State} (msg : SvcMsg) (s : State) (hz : Follows z s) : Follows z (setPowerStateOp msg s) := by
  unfold setPowerStateOp
  repeat' first
    | intro _ | with_reducible assumption | with_reducible apply State.finish_follows | with_reducible apply State.fwWrite_follows
    | with_reducible apply serve_follows | with_reducible apply State.await_follows | with_reducible apply Follows.ite

theorem serviceShutdownOp_follows {z : State} (msg : SvcMsg) (s : State) (hz : Follows z s) : Follows z (serviceShutdownOp msg s) := by
  unfold serviceShutdownOp
  repeat' first
    | intro _ | with_reducible assumption | with_reducible apply shutdownOp_follows | with_reducible apply State.finish_follows
    | with_reducible apply State.follow_follows | with_reducible apply serve_follows

theorem runTestOp_follows {z : State} (msg : SvcMsg) (s : State) (hz : Follows z s) : Follows z (runTestOp msg s) := by
  unfold runTestOp
  repeat' first
    | intro _ | with_reducible assumption | with_reducible apply State.finish_follows | with_reducible apply State.fwWrite_follows
    | with_reducible apply serve_follows | with_reducible apply State.await_follows | with_reducible apply Follows.ite

theorem bindChannelOp_follows {z : State} (msg : SvcMsg) (s : State) (hz : Follows z s) : Follows z (bindChannelOp msg s) := by
  unfold bindChannelOp
  repeat' first
    | intro _ | with_reducible assumption | with_reducible apply State.finish_follows | with_reducible apply State.fwWrite_follows
    | with_reducible apply serve_follows | with_reducible apply Follows.ite

theorem lockBindingsSvc_follows {z : State} (msg : SvcMsg) (s : State) (hz : Follows z s) : Follows z (lockBindingsSvc msg s) := by
  unfold lockBindingsSvc
  repeat' first
    | intro _ | with_reducible assumption | with_reducible apply State.finish_follows | with_reducible apply State.fwWrite_follows
    | with_reducible apply serve_follows

theorem State.setStaged_follows {z : State} (s : State) (g : Staged) (hz : Follows z s) : Follows z (State.setStaged s g) := by
  unfold State.setStaged
  repeat' first | with_reducible assumption | fail_if_no_progress with_reducible apply Follows.same

theorem State.startBurn_follows {z : State} (s : State) (b : Burn) (op : Nat) (hz : Follows z s) :
    Follows z (State.startBurn s b op) := by
  unfold State.startBurn
  repeat' first
    | with_reducible assumption | with_reducible apply State.setServing_follows | fail_if_no_progress with_reducible apply Follows.same

theorem enrolKeyOp_follows {z : State} (msg : SvcMsg) (s : State) (hz : Follows z s) : Follows z (enrolKeyOp msg s) := by
  unfold enrolKeyOp
  try dsimp only
  repeat' first
    | intro _ | with_reducible assumption | with_reducible apply State.dropStaged_follows | with_reducible apply State.finish_follows
    | with_reducible apply serve_follows | with_reducible apply State.setStaged_follows | with_reducible apply State.startBurn_follows
    | split

theorem stageTokenOp_follows {z : State} (msg : SvcMsg) (s : State) (hz : Follows z s) : Follows z (stageTokenOp msg s) := by
  unfold stageTokenOp
  try dsimp only
  repeat' first
    | intro _ | with_reducible assumption | with_reducible apply State.dropStaged_follows | with_reducible apply State.finish_follows
    | with_reducible apply serve_follows | with_reducible apply State.setStaged_follows | split
    | fail_if_no_progress with_reducible apply Follows.same

theorem lcAdvanceOp_follows {z : State} (msg : SvcMsg) (tokenOk : Bool) (s : State) (hz : Follows z s) :
    Follows z (lcAdvanceOp msg tokenOk s) := by
  unfold lcAdvanceOp
  repeat' first
    | intro _ | with_reducible assumption | with_reducible apply State.finish_follows | with_reducible apply serve_follows
    | with_reducible apply State.startBurn_follows | with_reducible apply Follows.ite

theorem setOwnerOp_follows {z : State} (msg : SvcMsg) (s : State) (hz : Follows z s) : Follows z (setOwnerOp msg s) := by
  unfold setOwnerOp
  try dsimp only
  repeat' first
    | intro _ | with_reducible assumption | with_reducible apply State.finish_follows | with_reducible apply State.fwWrites_follows
    | with_reducible apply serve_follows | split

theorem loadWeftOp_follows {z : State} (msg : SvcMsg) (s : State) (hz : Follows z s) : Follows z (loadWeftOp msg s) := by
  unfold loadWeftOp
  repeat' first
    | intro _ | with_reducible assumption | with_reducible apply State.setFld_follows | with_reducible apply State.setWeft_follows
    | with_reducible apply State.setServing_follows | with_reducible apply State.finish_follows | with_reducible apply serve_follows
    | with_reducible apply Follows.ite

theorem setPolicyOp_follows {z : State} (msg : SvcMsg) (s : State) (hz : Follows z s) : Follows z (setPolicyOp msg s) := by
  unfold setPolicyOp
  repeat' first
    | intro _ | with_reducible assumption | with_reducible apply State.finish_follows | with_reducible apply State.fwWrite_follows
    | with_reducible apply serve_follows | with_reducible apply Follows.ite

theorem resetWeftSvc_follows {z : State} (msg : SvcMsg) (s : State) (hz : Follows z s) : Follows z (resetWeftSvc msg s) := by
  unfold resetWeftSvc
  repeat' first
    | intro _ | with_reducible assumption | with_reducible apply weftResetOp_follows | with_reducible apply State.finish_follows
    | with_reducible apply serve_follows

theorem unknownOpcodeOp_follows {z : State} (msg : SvcMsg) (op : Nat) (s : State) (hz : Follows z s) :
    Follows z (unknownOpcodeOp msg op s) := by
  unfold unknownOpcodeOp
  repeat' first | intro _ | with_reducible (first | assumption | apply State.finish_follows | apply serve_follows | apply Follows.ite)

theorem weftVerifiedOp_follows {z : State} (ok : Bool) (patch : Nat) (version : Word) (s : State) (hz : Follows z s) :
    Follows z (weftVerifiedOp ok patch version s) := by
  unfold weftVerifiedOp
  repeat' with_reducible (first | assumption | apply containerVerified_follows | apply State.follow_follows)

/-! Machine/Boot.lean -/

theorem fieldsAt_chgCount (p : Page) : fieldsAt p 0x028 = [ro 31 0] := by simp [fieldsAt, headerRegs, Reg.covers, one]

theorem fieldsAt_owner (p : Page) : fieldsAt p 0x02C = [rwl 5 0 0] := by simp [fieldsAt, headerRegs, Reg.covers, one]

/-- OWNER and the change count read 0 after a reset. -/
theorem resetOf_owner (a : Nat) (h : a % 0x1000 = 0x028 ∨ a % 0x1000 = 0x02C) : resetOf a = 0 := by
  unfold resetOf
  cases pageOf a with
  | none => rfl
  | some p => rcases h with h | h <;> simp [h, fieldsAt_chgCount, fieldsAt_owner, ro, rwl, place]

theorem SMap.sorted_append {α : Type} {l m : SMap α} (h : SMap.sorted (l ++ m) = true) : SMap.sorted l = true := by
  induction l with
  | nil => rfl
  | cons e l ih =>
    obtain ⟨j, w⟩ := e
    have hc := (SMap.sorted_cons j w (l ++ m)).mp h
    exact (SMap.sorted_cons j w l).mpr ⟨fun e he => hc.1 e (List.mem_append_left _ he), ih hc.2⟩

/-- What warp firmware writes into a page at boot. -/
def ownerEntries (p : Page) : SMap Word := [(p.base + 0x028, (1 : Word)), (p.base + 0x02C, BitVec.ofNat 32 (bootOwner p.kind))]

theorem bootPages_sorted : SMap.sorted (bootPages.flatMap ownerEntries) = true := by decide +kernel

theorem bootPages_base : bootPages.all (fun p => decide (p.base % 0x1000 = 0) && decide (BitVec.ofNat 32
    (bootOwner p.kind) ≠ 0)) = true := by
  decide +kernel

theorem bootPages_wf (n : Nat) : SMap.wf resetOf ((bootPages.take n).flatMap ownerEntries) = true := by
  have hs : SMap.sorted ((bootPages.take n).flatMap ownerEntries) = true := by
    have h := bootPages_sorted
    rw [← List.take_append_drop n bootPages, List.flatMap_append] at h
    exact SMap.sorted_append h
  simp only [SMap.wf, hs, Bool.true_and, List.all_eq_true, decide_eq_true_eq]
  intro e he
  obtain ⟨p, hp, hpe⟩ := List.mem_flatMap.mp he
  have hb := List.all_eq_true.mp bootPages_base p (List.mem_of_mem_take hp)
  simp only [Bool.and_eq_true, decide_eq_true_eq] at hb
  simp only [ownerEntries, List.mem_cons, List.not_mem_nil, or_false] at hpe
  rcases hpe with rfl | rfl
  · rw [resetOf_owner _ (Or.inl (by simp only; omega))]; show (1 : Word) ≠ 0; decide
  · rw [resetOf_owner _ (Or.inr (by simp only; omega))]; exact hb.2

theorem State.ownerRegs_follows {z : State} (s : State) (n : Nat) (hz : Follows z s) : Follows z (s.ownerRegs (bootPages.take n)) := by
  refine hz.trans ⟨rfl, Nat.le_refl _, fun c => { c with regs := ?_ }⟩
  refine SMap.wf_foldl _ _ (fun m r hm => ?_) (bootPages_wf n)
  split
  · exact hm
  · split
    · exact SMap.wf_set hm
    · exact SMap.wf_set hm

theorem State.bootOwners_follows {z : State} (s : State) (hz : Follows z s) : Follows z (State.bootOwners s) := by
  unfold State.bootOwners
  repeat' first
    | intro _ | with_reducible assumption | with_reducible apply State.logPut_follows | with_reducible apply State.noteLogFull_follows
    | with_reducible apply State.refuse_follows | with_reducible apply State.ownerRegs_follows | with_reducible apply Follows.foldl

theorem State.bootBindings_follows {z : State} (s : State) (hz : Follows z s) : Follows z (State.bootBindings s) := by
  unfold State.bootBindings; repeat' with_reducible (first | assumption | apply State.fwWrites_follows)

theorem State.strapLoad_follows {z : State} (s : State) (hz : Follows z s) : Follows z (State.strapLoad s) := by
  unfold State.strapLoad
  repeat' first
    | with_reducible assumption | with_reducible apply State.logEntry_follows | with_reducible apply startFull_follows
    | with_reducible apply State.rejectLoad_follows | with_reducible apply Follows.ite

theorem deviceUpOp_follows {z : State} (flashImage : Bool) (t : Nat) (s : State) (hz : Follows z s) :
    Follows z (deviceUpOp flashImage t s) := by
  unfold deviceUpOp
  repeat' first
    | with_reducible assumption | with_reducible apply State.at_follows | with_reducible apply State.setReg_follows
    | with_reducible apply State.setFld_follows | with_reducible apply State.raise_follows | with_reducible apply State.setWeft_follows
    | with_reducible apply State.withBoot_follows | with_reducible apply State.bootOwners_follows
    | with_reducible apply State.bootBindings_follows | with_reducible apply State.strapLoad_follows | with_reducible apply Follows.ite

theorem State.afterBolts_follows {z : State} (s : State) (hz : Follows z s) : Follows z (State.afterBolts s) := by
  unfold State.afterBolts
  repeat' first
    | with_reducible assumption | with_reducible apply State.engineFollow_follows | with_reducible apply State.completeWindows_follows
    | with_reducible apply State.follow_follows

theorem beatUpOver_follows {z : State} (b t : Nat) (s : State) (hz : Follows z s) : Follows z (beatUpOver b t s) := by
  unfold beatUpOver
  repeat' first
    | with_reducible assumption | with_reducible apply beatUpEndOp_follows | with_reducible apply State.engineAtBeatUpEnd_follows
    | with_reducible apply State.follow_follows | with_reducible apply Follows.ite

theorem gridPassed_follows {z : State} (t : Nat) (s : State) (hz : Follows z s) : Follows z (gridPassed t s) := by
  unfold gridPassed
  repeat' first
    | with_reducible assumption | with_reducible apply gridPointOp_follows | with_reducible apply State.engineAtGrid_follows
    | with_reducible apply State.follow_follows | with_reducible apply Follows.ite

end Sys2Proof.Machine
end

