-- ==== Sys2Proof/Laws/FollowsCommands.lean ====
section
/-!
SUPPORT. What `Follows` says, kept by the operations of every command.
-/

namespace Sys2Proof.Machine

/-! Machine/BusCommands.lean -/

theorem execRegisterWrite_follows (m : Master) (addr : BitVec 32) (be : BitVec 4) (v : Word) (s : State) {z : State}
    (h : execRegisterWrite m addr be v s = .next z) : Follows s z := by
  have hz := Follows.refl s
  unfold execRegisterWrite at h; cases h; repeat' with_reducible (first | assumption | apply busWrite_follows | apply access_follows)

theorem execErrCodeClear_follows (m : Master) (page : BitVec 20) (v : Word) (s : State) {z : State}
    (h : execErrCodeClear m page v s = .next z) : Follows s z := by
  have hz := Follows.refl s
  unfold execErrCodeClear at h; cases h; repeat' with_reducible (first | assumption | apply busWrite_follows | apply access_follows)

theorem execPageLockSet_follows (m : Master) (page : BitVec 20) (v : Word) (s : State) {z : State}
    (h : execPageLockSet m page v s = .next z) : Follows s z := by
  have hz := Follows.refl s
  unfold execPageLockSet at h; cases h; repeat' with_reducible (first | assumption | apply busWrite_follows | apply access_follows)

theorem execPairLoRead_follows (m : Master) (addr : BitVec 32) (s : State) {z : State}
    (h : execPairLoRead m addr s = .next z) : Follows s z := by
  have hz := Follows.refl s
  unfold execPairLoRead at h; cases h; repeat' with_reducible (first | assumption | apply busRead_follows | apply access_follows)

theorem execBusSlotGranted_follows (m : Master) (s : State) {z : State} (h : execBusSlotGranted m s = .next z) : Follows s z := by
  have hz := Follows.refl s
  unfold execBusSlotGranted at h; cases h; repeat' with_reducible (first | assumption | apply slotGranted_follows)

theorem execBusTimeout_follows (n : Nat) (t : Nat) (s : State) {z : State} (h : execBusTimeout n t s = .next z) : Follows s z := by
  have hz := Follows.refl s
  unfold execBusTimeout at h; cases h; repeat' with_reducible (first | assumption | apply busTimeoutOp_follows)

theorem execLateCompletion_follows (n : Nat) (t : Nat) (s : State) {z : State} (h : execLateCompletion n t s = .next z) : Follows s z := by
  have hz := Follows.refl s
  unfold execLateCompletion at h; cases h; repeat' with_reducible (first | assumption | apply State.at_follows | apply lateComplete_follows)

theorem execHostMemoryRequest_follows (f : Fin 4) (bar : Bar) (off : BitVec 32) (op : HostOp) (be last : BitVec 4) (ws : List Word)
    (len : Fin 1025) (poisoned : Bool) (ecrcBad : Bool) (s : State) {z : State} (h : execHostMemoryRequest f bar off op be last ws len poisoned ecrcBad s = .next z) : Follows s z := by
  have hz := Follows.refl s
  unfold execHostMemoryRequest at h
  split at h
  · cases h
    repeat' with_reducible (first | assumption | apply hostMemoryRequest_follows)
  · cases h

theorem execConfigRequest_follows (f : Fin 4) (off : BitVec 12) (write : Bool) (v : Word) (s : State) {z : State}
    (h : execConfigRequest f off write v s = .next z) : Follows s z := by
  have hz := Follows.refl s
  unfold execConfigRequest at h
  split at h
  · cases h
    repeat' with_reducible (first | assumption | apply configRequestOp_follows | apply State.follow_follows)
  · cases h

theorem execFabricWindowAccess_follows (m : Master) (off : BitVec 26) (write : Bool) (v : Word) (s : State) {z : State}
    (h : execFabricWindowAccess m off write v s = .next z) : Follows s z := by
  have hz := Follows.refl s
  unfold execFabricWindowAccess at h; cases h; repeat' with_reducible (first | assumption | apply busAccess_follows | apply access_follows)

theorem execSysRefclkLoss_follows (t : Nat) (s : State) {z : State} (h : execSysRefclkLoss t s = .next z) : Follows s z := by
  have hz := Follows.refl s
  unfold execSysRefclkLoss at h; cases h; repeat' with_reducible (first | assumption | apply refclkLossOp_follows)

theorem execSysRefclkReturn_follows (t : Nat) (s : State) {z : State} (h : execSysRefclkReturn t s = .next z) : Follows s z := by
  have hz := Follows.refl s
  unfold execSysRefclkReturn at h; cases h; repeat' with_reducible (first | assumption | apply refclkReturnOp_follows)

/-! Machine/CellCommands.lean -/

theorem execBdJoinComplete_follows (c : CellRef) (s : State) {z : State} (h : execBdJoinComplete c s = .next z) : Follows s z := by
  have hz := Follows.refl s
  unfold execBdJoinComplete at h; cases h; repeat' with_reducible (first | assumption | apply bdJoin_follows)

theorem execBdDelayExpired_follows (c : CellRef) (s : State) {z : State} (h : execBdDelayExpired c s = .next z) : Follows s z := by
  have hz := Follows.refl s
  unfold execBdDelayExpired at h; cases h; repeat' with_reducible (first | assumption | apply bdDelay_follows)

theorem execBdCapture_follows (c : CellRef) (viol : Bool) (s : State) {z : State} (h : execBdCapture c viol s = .next z) : Follows s z := by
  have hz := Follows.refl s
  unfold execBdCapture at h; cases h; repeat' with_reducible (first | assumption | apply bdCapture_follows)

theorem execBdInputRequestsFall_follows (c : CellRef) (s : State) {z : State}
    (h : execBdInputRequestsFall c s = .next z) : Follows s z := by
  have hz := Follows.refl s
  unfold execBdInputRequestsFall at h; cases h; repeat' with_reducible (first | assumption | apply bdReqsFall_follows)

theorem execBdAckInRise_follows (c : CellRef) (s : State) {z : State} (h : execBdAckInRise c s = .next z) : Follows s z := by
  have hz := Follows.refl s
  unfold execBdAckInRise at h; cases h; repeat' with_reducible (first | assumption | apply bdAckRise_follows)

theorem execBdAckInFall_follows (c : CellRef) (s : State) {z : State} (h : execBdAckInFall c s = .next z) : Follows s z := by
  have hz := Follows.refl s
  unfold execBdAckInFall at h; cases h; repeat' with_reducible (first | assumption | apply bdAckFall_follows)

theorem execTwoSlotTransfer_follows (c : CellRef) (s : State) {z : State} (h : execTwoSlotTransfer c s = .next z) : Follows s z := by
  have hz := Follows.refl s
  unfold execTwoSlotTransfer at h; cases h; repeat' with_reducible (first | assumption | apply twoSlot_follows)

theorem execDrRailSet_follows (c : CellRef) (viol : Bool) (s : State) {z : State} (h : execDrRailSet c viol s = .next z) : Follows s z := by
  have hz := Follows.refl s
  unfold execDrRailSet at h; cases h; repeat' with_reducible (first | assumption | apply drSet_follows)

theorem execDrAckOutRise_follows (c : CellRef) (s : State) {z : State} (h : execDrAckOutRise c s = .next z) : Follows s z := by
  have hz := Follows.refl s
  unfold execDrAckOutRise at h; cases h; repeat' with_reducible (first | assumption | apply drAckRise_follows)

theorem execDrRailsClear_follows (c : CellRef) (s : State) {z : State} (h : execDrRailsClear c s = .next z) : Follows s z := by
  have hz := Follows.refl s
  unfold execDrRailsClear at h; cases h; repeat' with_reducible (first | assumption | apply drClear_follows)

theorem execDrAckOutFall_follows (c : CellRef) (s : State) {z : State} (h : execDrAckOutFall c s = .next z) : Follows s z := by
  have hz := Follows.refl s
  unfold execDrAckOutFall at h; cases h; repeat' with_reducible (first | assumption | apply drAckFall_follows)

theorem execDrReady_follows (c : CellRef) (s : State) {z : State} (h : execDrReady c s = .next z) : Follows s z := by
  have hz := Follows.refl s
  unfold execDrReady at h; cases h; repeat' with_reducible (first | assumption | apply drDone_follows)

theorem execClockedCapture_follows (c : CellRef) (viol race : Bool) (s : State) {z : State}
    (h : execClockedCapture c viol race s = .next z) : Follows s z := by
  have hz := Follows.refl s
  unfold execClockedCapture at h; cases h; repeat' with_reducible (first | assumption | apply clockedLoad_follows)

theorem execSelectCorrupted_follows (frame : BitVec 24) (word : Fin 64) (mask : Dword) (s : State) {z : State}
    (h : execSelectCorrupted frame word mask s = .next z) : Follows s z := by
  have hz := Follows.refl s
  unfold execSelectCorrupted at h; cases h; repeat' with_reducible (first | assumption | apply selectCorrupted_follows)

theorem execDomainLeak_follows (r : ReedRef) (tap : Option (Fin 96)) (handshake : Bool) (s : State) {z : State}
    (h : execDomainLeak r tap handshake s = .next z) : Follows s z := by
  have hz := Follows.refl s
  unfold execDomainLeak at h; cases h; repeat' with_reducible (first | assumption | apply domainLeak_follows)

/-! Machine/PickCommands.lean -/

theorem execPickApply_follows (m : Master) (v : Word) (s : State) {z : State} (h : execPickApply m v s = .next z) : Follows s z := by
  have hz := Follows.refl s
  unfold execPickApply at h; cases h; repeat' with_reducible (first | assumption | apply busWrite_follows | apply access_follows)

theorem execPickClrCounts_follows (m : Master) (v : Word) (s : State) {z : State}
    (h : execPickClrCounts m v s = .next z) : Follows s z := by
  have hz := Follows.refl s
  unfold execPickClrCounts at h; cases h; repeat' with_reducible (first | assumption | apply busWrite_follows | apply access_follows)

theorem execApplied_follows (t : Nat) (s : State) {z : State} (h : execApplied t s = .next z) : Follows s z := by
  have hz := Follows.refl s
  unfold execApplied at h; cases h; repeat' with_reducible (first | assumption | apply appliedOp_follows | apply State.afterBolts_follows)

theorem execClosing_follows (b : Fin 16) (t : Nat) (s : State) {z : State} (h : execClosing b t s = .next z) : Follows s z := by
  have hz := Follows.refl s
  unfold execClosing at h; cases h; repeat' with_reducible (first | assumption | apply closingOp_follows)

theorem execGridPoint_follows (t : Nat) (s : State) {z : State} (h : execGridPoint t s = .next z) : Follows s z := by
  have hz := Follows.refl s
  unfold execGridPoint at h; cases h; repeat' with_reducible (first | assumption | apply gridPassed_follows)

theorem execClosingPoint_follows (t : Nat) (s : State) {z : State} (h : execClosingPoint t s = .next z) : Follows s z := by
  have hz := Follows.refl s
  unfold execClosingPoint at h; cases h; repeat' with_reducible (first | assumption | apply closingPointOp_follows)

theorem execFreeze_follows (b : Fin 16) (t : Nat) (s : State) {z : State} (h : execFreeze b t s = .next z) : Follows s z := by
  have hz := Follows.refl s
  unfold execFreeze at h; cases h; repeat' with_reducible (first | assumption | apply freezeOp_follows)

theorem execDrainConfirm_follows (b : Fin 16) (idle : Bool) (t : Nat) (s : State) {z : State}
    (h : execDrainConfirm b idle t s = .next z) : Follows s z := by
  have hz := Follows.refl s
  unfold execDrainConfirm at h; cases h; repeat' with_reducible (first | assumption | apply drainConfirmOp_follows | apply State.unparkPorts_follows)

theorem execBeatUpEnd_follows (b : Fin 16) (t : Nat) (s : State) {z : State} (h : execBeatUpEnd b t s = .next z) : Follows s z := by
  have hz := Follows.refl s
  unfold execBeatUpEnd at h; cases h; repeat' with_reducible (first | assumption | apply State.unparkPorts_follows | apply beatUpOver_follows)

theorem execPaceGateOpen_follows (t : Nat) (s : State) {z : State} (h : execPaceGateOpen t s = .next z) : Follows s z := by
  have hz := Follows.refl s
  unfold execPaceGateOpen at h; cases h; repeat' with_reducible (first | assumption | apply gateOpenOp_follows)

theorem execPickOverrun_follows (b : Fin 16) (t : Nat) (s : State) {z : State} (h : execPickOverrun b t s = .next z) : Follows s z := by
  have hz := Follows.refl s
  unfold execPickOverrun at h; cases h; repeat' with_reducible (first | assumption | apply pickOverrunOp_follows | apply State.afterBolts_follows)

theorem execClkEdgeInDrain_follows (r : ReedRef) (t : Nat) (s : State) {z : State}
    (h : execClkEdgeInDrain r t s = .next z) : Follows s z := by
  have hz := Follows.refl s
  unfold execClkEdgeInDrain at h; cases h; repeat' with_reducible (first | assumption | apply clkEdgeOp_follows)

theorem execVfabFaultTrip_follows (p : Fin 4) (mv : BitVec 16) (t : Nat) (s : State) {z : State}
    (h : execVfabFaultTrip p mv t s = .next z) : Follows s z := by
  have hz := Follows.refl s
  unfold execVfabFaultTrip at h; cases h; repeat' with_reducible (first | assumption | apply faultTripOp_follows)

/-! Machine/BoltCommands.lean -/

theorem execRollback_follows (b : Fin 16) (upset : Option ShadowUpset) (t : Nat) (s : State) {z : State}
    (h : execRollback b upset t s = .next z) : Follows s z := by
  have hz := Follows.refl s
  unfold execRollback at h; cases h; repeat' with_reducible (first | assumption | apply upsetShadow_follows | apply rollbackOp_follows)

theorem execRollbackEnd_follows (b : Fin 16) (t : Nat) (s : State) {z : State} (h : execRollbackEnd b t s = .next z) : Follows s z := by
  have hz := Follows.refl s
  unfold execRollbackEnd at h; cases h; repeat' first
    | with_reducible assumption | with_reducible apply rollbackEndOp_follows | with_reducible apply State.unparkPorts_follows
    | with_reducible apply State.afterBolts_follows

theorem execBoltRollback_follows (m : Master) (b : Fin 16) (s : State) {z : State}
    (h : execBoltRollback m b s = .next z) : Follows s z := by
  have hz := Follows.refl s
  unfold execBoltRollback at h; cases h; repeat' with_reducible (first | assumption | apply busWrite_follows | apply access_follows)

theorem execBoltHalt_follows (m : Master) (b : Fin 16) (s : State) {z : State} (h : execBoltHalt m b s = .next z) : Follows s z := by
  have hz := Follows.refl s
  unfold execBoltHalt at h; cases h; repeat' with_reducible (first | assumption | apply busWrite_follows | apply access_follows | apply State.afterBolts_follows)

theorem execBoltResume_follows (m : Master) (b : Fin 16) (upset : Option ShadowUpset) (s : State) {z : State}
    (h : execBoltResume m b upset s = .next z) : Follows s z := by
  have hz := Follows.refl s
  unfold execBoltResume at h; cases h; repeat' with_reducible (first | assumption | apply upsetShadow_follows | apply busWrite_follows | apply access_follows)

theorem execBoltClearCounts_follows (m : Master) (b : Fin 16) (s : State) {z : State}
    (h : execBoltClearCounts m b s = .next z) : Follows s z := by
  have hz := Follows.refl s
  unfold execBoltClearCounts at h; cases h; repeat' with_reducible (first | assumption | apply busWrite_follows | apply access_follows)

theorem execHoldEnd_follows (b : Fin 16) (t : Nat) (s : State) {z : State} (h : execHoldEnd b t s = .next z) : Follows s z := by
  have hz := Follows.refl s
  unfold execHoldEnd at h; cases h; repeat' with_reducible (first | assumption | apply holdEndOp_follows | apply State.unparkPorts_follows)

/-! Machine/CreelCommands.lean -/

theorem execCreelPortRequest_follows (n : Fin 8192) (p : PortSide) (s : State) {z : State}
    (h : execCreelPortRequest n p s = .next z) : Follows s z := by
  have hz := Follows.refl s
  unfold execCreelPortRequest at h; cases h; repeat' with_reducible (first | assumption | apply creelRequestOp_follows)

theorem execCreelRqReqFall_follows (n : Fin 8192) (p : PortSide) (s : State) {z : State}
    (h : execCreelRqReqFall n p s = .next z) : Follows s z := by
  have hz := Follows.refl s
  unfold execCreelRqReqFall at h; cases h; repeat' with_reducible (first | assumption | apply creelReqFallOp_follows)

theorem execCreelArrayAccess_follows (n : Fin 8192) (state : BitVec 3) (upset : BitVec 72) (s : State) {z : State}
    (h : execCreelArrayAccess n state upset s = .next z) : Follows s z := by
  have hz := Follows.refl s
  unfold execCreelArrayAccess at h; cases h; repeat' with_reducible (first | assumption | apply arrayAccess_follows | apply State.settle_follows)

theorem execCreelResponseAck_follows (n : Fin 8192) (p : PortSide) (s : State) {z : State}
    (h : execCreelResponseAck n p s = .next z) : Follows s z := by
  have hz := Follows.refl s
  unfold execCreelResponseAck at h; cases h; repeat' with_reducible (first | assumption | apply creelAckOp_follows)

theorem execCorrectedWriteback_follows (n : Fin 8192) (s : State) {z : State} (h : execCorrectedWriteback n s = .next z) : Follows s z := by
  have hz := Follows.refl s
  unfold execCorrectedWriteback at h; cases h; repeat' with_reducible (first | assumption | apply correctedWriteback_follows)

theorem execCreelScrubRead_follows (n : Fin 8192) (s : State) {z : State} (h : execCreelScrubRead n s = .next z) : Follows s z := by
  have hz := Follows.refl s
  unfold execCreelScrubRead at h; cases h; repeat' with_reducible (first | assumption | apply scrubRead_follows)

theorem execCreelClrCounts_follows (m : Master) (n : Fin 8192) (v : Word) (s : State) {z : State}
    (h : execCreelClrCounts m n v s = .next z) : Follows s z := by
  have hz := Follows.refl s
  unfold execCreelClrCounts at h; cases h; repeat' with_reducible (first | assumption | apply busWrite_follows | apply access_follows)

theorem execWinRead_follows (m : Master) (n : Fin 8192) (view : Bool) (word : BitVec 10) (s : State) {z : State}
    (h : execWinRead m n view word s = .next z) : Follows s z := by
  have hz := Follows.refl s
  unfold execWinRead at h; cases h; repeat' with_reducible (first | assumption | apply busWrite_follows | apply access_follows)

theorem execWinWrite_follows (m : Master) (n : Fin 8192) (word : BitVec 10) (s : State) {z : State}
    (h : execWinWrite m n word s = .next z) : Follows s z := by
  have hz := Follows.refl s
  unfold execWinWrite at h; cases h; repeat' with_reducible (first | assumption | apply busWrite_follows | apply access_follows)

theorem execWinInject_follows (m : Master) (n : Fin 8192) (word : BitVec 10) (s : State) {z : State}
    (h : execWinInject m n word s = .next z) : Follows s z := by
  have hz := Follows.refl s
  unfold execWinInject at h; cases h; repeat' with_reducible (first | assumption | apply busWrite_follows | apply access_follows)

/-! Machine/QueueCommands.lean -/

theorem execQueuePush_follows (n : Fin 8192) (perr : Bool) (upset : Option QUpset) (s : State) {z : State}
    (h : execQueuePush n perr upset s = .next z) : Follows s z := by
  have hz := Follows.refl s
  unfold execQueuePush at h; cases h; repeat' with_reducible (first | assumption | apply upsetQueue_follows | apply fabricPush_follows | apply State.settle_follows)

theorem execQueuePop_follows (n : Fin 8192) (upset : Option QUpset) (s : State) {z : State}
    (h : execQueuePop n upset s = .next z) : Follows s z := by
  have hz := Follows.refl s
  unfold execQueuePop at h; cases h; repeat' with_reducible (first | assumption | apply upsetQueue_follows | apply fabricPop_follows | apply State.settle_follows)

theorem execBlockedPushTaken_follows (n : Fin 8192) (perr : Bool) (s : State) {z : State}
    (h : execBlockedPushTaken n perr s = .next z) : Follows s z := by
  have hz := Follows.refl s
  unfold execBlockedPushTaken at h; cases h; repeat' with_reducible (first | assumption | apply fabricPush_follows | apply State.settle_follows)

theorem execBlockedPopTaken_follows (n : Fin 8192) (s : State) {z : State} (h : execBlockedPopTaken n s = .next z) : Follows s z := by
  have hz := Follows.refl s
  unfold execBlockedPopTaken at h; cases h; repeat' with_reducible (first | assumption | apply fabricPop_follows | apply State.settle_follows)

theorem execQPushElement_follows (m : Master) (n : Fin 8192) (perr : Bool) (upset : Option QUpset) (s : State) {z : State}
    (h : execQPushElement m n perr upset s = .next z) : Follows s z := by
  have hz := Follows.refl s
  unfold execQPushElement at h; cases h; repeat' first
    | with_reducible assumption | with_reducible apply upsetQueue_follows | with_reducible apply markElement_follows
    | with_reducible apply busWrite_follows | with_reducible apply access_follows

theorem execQPushLast_follows (m : Master) (n : Fin 8192) (perr : Bool) (s : State) {z : State}
    (h : execQPushLast m n perr s = .next z) : Follows s z := by
  have hz := Follows.refl s
  unfold execQPushLast at h; cases h; repeat' with_reducible (first | assumption | apply markElement_follows | apply busWrite_follows | apply access_follows)

theorem execQPushAbort_follows (m : Master) (n : Fin 8192) (s : State) {z : State} (h : execQPushAbort m n s = .next z) : Follows s z := by
  have hz := Follows.refl s
  unfold execQPushAbort at h; cases h; repeat' with_reducible (first | assumption | apply busWrite_follows | apply access_follows)

theorem execQPopLo_follows (m : Master) (n : Fin 8192) (upset : Option QUpset) (s : State) {z : State}
    (h : execQPopLo m n upset s = .next z) : Follows s z := by
  have hz := Follows.refl s
  unfold execQPopLo at h; cases h; repeat' with_reducible (first | assumption | apply upsetQueue_follows | apply busRead_follows | apply access_follows)

theorem execQFlush_follows (m : Master) (n : Fin 8192) (s : State) {z : State} (h : execQFlush m n s = .next z) : Follows s z := by
  have hz := Follows.refl s
  unfold execQFlush at h; cases h; repeat' with_reducible (first | assumption | apply busWrite_follows | apply access_follows)

theorem execQFlushNow_follows (m : Master) (n : Fin 8192) (s : State) {z : State} (h : execQFlushNow m n s = .next z) : Follows s z := by
  have hz := Follows.refl s
  unfold execQFlushNow at h; cases h; repeat' with_reducible (first | assumption | apply busWrite_follows | apply access_follows)

theorem execQClrCounts_follows (m : Master) (n : Fin 8192) (s : State) {z : State} (h : execQClrCounts m n s = .next z) : Follows s z := by
  have hz := Follows.refl s
  unfold execQClrCounts at h; cases h; repeat' with_reducible (first | assumption | apply busWrite_follows | apply access_follows)

/-! Machine/TwillCommands.lean -/

theorem execTwillOperationCapture_follows (n : Fin 4096) (s : State) {z : State}
    (h : execTwillOperationCapture n s = .next z) : Follows s z := by
  have hz := Follows.refl s
  unfold execTwillOperationCapture at h; cases h; repeat' with_reducible (first | assumption | apply twillCaptureOp_follows)

theorem execTwillRqReqFall_follows (n : Fin 4096) (s : State) {z : State} (h : execTwillRqReqFall n s = .next z) : Follows s z := by
  have hz := Follows.refl s
  unfold execTwillRqReqFall at h; cases h; repeat' with_reducible (first | assumption | apply twillReqFallOp_follows)

theorem execTwillCascadeToken_follows (n : Fin 4096) (s : State) {z : State} (h : execTwillCascadeToken n s = .next z) : Follows s z := by
  have hz := Follows.refl s
  unfold execTwillCascadeToken at h; cases h; repeat' with_reducible (first | assumption | apply twillToken_follows)

theorem execTwillOperationComplete_follows (n : Fin 4096) (upset : TwUpset) (s : State) {z : State}
    (h : execTwillOperationComplete n upset s = .next z) : Follows s z := by
  have hz := Follows.refl s
  unfold execTwillOperationComplete at h; cases h; repeat' with_reducible (first | assumption | apply twillComplete_follows | apply State.settle_follows)

theorem execTwillResponseAck_follows (n : Fin 4096) (s : State) {z : State} (h : execTwillResponseAck n s = .next z) : Follows s z := by
  have hz := Follows.refl s
  unfold execTwillResponseAck at h; cases h; repeat' with_reducible (first | assumption | apply twillAckOp_follows)

theorem execTwillClrCounts_follows (m : Master) (k : Fin 256) (v : Word) (s : State) {z : State}
    (h : execTwillClrCounts m k v s = .next z) : Follows s z := by
  have hz := Follows.refl s
  unfold execTwillClrCounts at h; cases h; repeat' with_reducible (first | assumption | apply busWrite_follows | apply access_follows)

theorem execTwInject_follows (m : Master) (n : Fin 4096) (v : Word) (s : State) {z : State}
    (h : execTwInject m n v s = .next z) : Follows s z := by
  have hz := Follows.refl s
  unfold execTwInject at h; cases h; repeat' with_reducible (first | assumption | apply busWrite_follows | apply access_follows)

/-! Machine/SelvedgeCommands.lean -/

theorem portCrossed_follows {z : State} (p : Nat) (d : FlagDir) (s : State) (hz : Follows z s) : Follows z (portCrossed p d s) := by
  unfold portCrossed
  repeat' first
    | with_reducible assumption | with_reducible apply flagCrossed_follows | with_reducible apply State.admitAll_follows
    | with_reducible apply State.presentPort_follows | with_reducible apply State.unparkPort_follows | with_reducible apply Follows.ite

theorem crossed_follows {z : State} (n : Nat) (d : FlagDir) (s : State) (hz : Follows z s) : Follows z (crossed n d s) := by
  unfold crossed
  repeat' first
    | with_reducible assumption | with_reducible apply flagCrossed_follows | with_reducible apply State.settle_follows
    | with_reducible apply State.addCredits_follows | with_reducible apply portCrossed_follows | with_reducible apply Follows.ite

theorem wordWritten_follows {z : State} (n : Nat) (v torn : Dword) (s : State) (hz : Follows z s) :
    Follows z (wordWritten n v torn s) := by
  unfold wordWritten
  repeat' with_reducible (first | assumption | apply sideWrite_follows | apply rxBridgeWrite_follows | apply Follows.ite)

theorem wordTaken_follows {z : State} (n : Nat) (s : State) (hz : Follows z s) : Follows z (wordTaken n s) := by
  unfold wordTaken
  repeat' first
    | with_reducible assumption | with_reducible apply clockedRead_follows | with_reducible apply State.sendWord_follows
    | with_reducible apply State.addCredits_follows | with_reducible apply Follows.ite

theorem execSample2Attempt_follows (n : Fin 320) (sampled : SampleTime) (s : State) {z : State}
    (h : execSample2Attempt n sampled s = .next z) : Follows s z := by
  have hz := Follows.refl s
  unfold execSample2Attempt at h; cases h; repeat' with_reducible (first | assumption | apply sample2_follows)

theorem execHoldOffer_follows (n : Fin 320) (v : Dword) (s : State) {z : State} (h : execHoldOffer n v s = .next z) : Follows s z := by
  have hz := Follows.refl s
  unfold execHoldOffer at h; cases h; repeat' with_reducible (first | assumption | apply offered_follows)

theorem execBridgeFlagCrossed_follows (n : Fin 320) (d : FlagDir) (s : State) {z : State}
    (h : execBridgeFlagCrossed n d s = .next z) : Follows s z := by
  have hz := Follows.refl s
  unfold execBridgeFlagCrossed at h; cases h; repeat' with_reducible (first | assumption | apply crossed_follows)

theorem execBridgeFabricToken_follows (n : Fin 320) (s : State) {z : State} (h : execBridgeFabricToken n s = .next z) : Follows s z := by
  have hz := Follows.refl s
  unfold execBridgeFabricToken at h; cases h; repeat' with_reducible (first | assumption | apply bridgeTokenOp_follows)

theorem execBridgeClockedWrite_follows (n : Fin 320) (v torn : Dword) (s : State) {z : State}
    (h : execBridgeClockedWrite n v torn s = .next z) : Follows s z := by
  have hz := Follows.refl s
  unfold execBridgeClockedWrite at h; cases h; repeat' with_reducible (first | assumption | apply wordWritten_follows)

theorem execBridgeClockedRead_follows (n : Fin 320) (s : State) {z : State} (h : execBridgeClockedRead n s = .next z) : Follows s z := by
  have hz := Follows.refl s
  unfold execBridgeClockedRead at h; cases h; repeat' with_reducible (first | assumption | apply State.settle_follows | apply wordTaken_follows)

theorem execBridgePulse_follows (n : Fin 320) (s : State) {z : State} (h : execBridgePulse n s = .next z) : Follows s z := by
  have hz := Follows.refl s
  unfold execBridgePulse at h; cases h; repeat' with_reducible (first | assumption | apply pulsed_follows)

theorem execSvResync_follows (m : Master) (k : Fin 40) (v : Word) (s : State) {z : State}
    (h : execSvResync m k v s = .next z) : Follows s z := by
  have hz := Follows.refl s
  unfold execSvResync at h; cases h; repeat' with_reducible (first | assumption | apply busWrite_follows | apply access_follows)

theorem execSvClrCounts_follows (m : Master) (k : Fin 40) (v : Word) (s : State) {z : State}
    (h : execSvClrCounts m k v s = .next z) : Follows s z := by
  have hz := Follows.refl s
  unfold execSvClrCounts at h; cases h; repeat' with_reducible (first | assumption | apply busWrite_follows | apply access_follows)

theorem execClockLost_follows (n : Fin 320) (t : Nat) (s : State) {z : State} (h : execClockLost n t s = .next z) : Follows s z := by
  have hz := Follows.refl s
  unfold execClockLost at h; cases h; repeat' with_reducible (first | assumption | apply clockLostOp_follows)

theorem execBridgeClockReturn_follows (n : Fin 320) (t : Nat) (s : State) {z : State}
    (h : execBridgeClockReturn n t s = .next z) : Follows s z := by
  have hz := Follows.refl s
  unfold execBridgeClockReturn at h; cases h; repeat' with_reducible (first | assumption | apply State.at_follows | apply clockBack_follows | apply State.settle_follows)

theorem execFbpTargetResponse_follows (n : Fin 32) (s : State) {z : State} (h : execFbpTargetResponse n s = .next z) : Follows s z := by
  have hz := Follows.refl s
  unfold execFbpTargetResponse at h; cases h; repeat' with_reducible (first | assumption | apply targetResponseOp_follows)

theorem execFbpInitiatorRequest_follows (n : Fin 32) (s : State) {z : State} (h : execFbpInitiatorRequest n s = .next z) : Follows s z := by
  have hz := Follows.refl s
  unfold execFbpInitiatorRequest at h; cases h; repeat' with_reducible (first | assumption | apply initiatorRequestOp_follows)

theorem execFbpInitiatorResponse_follows (n : Fin 32) (s : State) {z : State}
    (h : execFbpInitiatorResponse n s = .next z) : Follows s z := by
  have hz := Follows.refl s
  unfold execFbpInitiatorResponse at h; cases h; repeat' with_reducible (first | assumption | apply initiatorResponseOp_follows)

theorem execFbpClrCounts_follows (m : Master) (k : Fin 8) (v : Word) (s : State) {z : State}
    (h : execFbpClrCounts m k v s = .next z) : Follows s z := by
  have hz := Follows.refl s
  unfold execFbpClrCounts at h; cases h; repeat' with_reducible (first | assumption | apply busWrite_follows | apply access_follows)

theorem execPaceApply_follows (m : Master) (g : Fin 32) (v : Word) (s : State) {z : State}
    (h : execPaceApply m g v s = .next z) : Follows s z := by
  have hz := Follows.refl s
  unfold execPaceApply at h; cases h; repeat' with_reducible (first | assumption | apply busWrite_follows | apply access_follows)

theorem execPaceSettingsTaken_follows (g : Fin 32) (t : Nat) (s : State) {z : State}
    (h : execPaceSettingsTaken g t s = .next z) : Follows s z := by
  have hz := Follows.refl s
  unfold execPaceSettingsTaken at h; cases h; repeat' with_reducible (first | assumption | apply State.at_follows | apply paceTaken_follows)

theorem execPaceLocked_follows (g : Fin 32) (t : Nat) (s : State) {z : State} (h : execPaceLocked g t s = .next z) : Follows s z := by
  have hz := Follows.refl s
  unfold execPaceLocked at h; cases h; repeat' with_reducible (first | assumption | apply State.at_follows | apply paceLockedOp_follows)

theorem execPaceRefLost_follows (g : Fin 32) (t : Nat) (s : State) {z : State} (h : execPaceRefLost g t s = .next z) : Follows s z := by
  have hz := Follows.refl s
  unfold execPaceRefLost at h; cases h; repeat' with_reducible (first | assumption | apply State.at_follows | apply paceRefLostOp_follows)

theorem execPaceRefReturn_follows (g : Fin 32) (t : Nat) (s : State) {z : State} (h : execPaceRefReturn g t s = .next z) : Follows s z := by
  have hz := Follows.refl s
  unfold execPaceRefReturn at h; cases h; repeat' with_reducible (first | assumption | apply State.at_follows | apply paceRefBack_follows)

theorem execPaceLockLost_follows (g : Fin 32) (t : Nat) (s : State) {z : State} (h : execPaceLockLost g t s = .next z) : Follows s z := by
  have hz := Follows.refl s
  unfold execPaceLockLost at h; cases h; repeat' with_reducible (first | assumption | apply State.at_follows | apply paceLockLostOp_follows)

theorem execPaceClrCounts_follows (m : Master) (g : Fin 32) (v : Word) (s : State) {z : State}
    (h : execPaceClrCounts m g v s = .next z) : Follows s z := by
  have hz := Follows.refl s
  unfold execPaceClrCounts at h; cases h; repeat' with_reducible (first | assumption | apply busWrite_follows | apply access_follows)

theorem execPaceMeasure_follows (g : Fin 32) (edges : BitVec 21) (t : Nat) (s : State) {z : State}
    (h : execPaceMeasure g edges t s = .next z) : Follows s z := by
  have hz := Follows.refl s
  unfold execPaceMeasure at h; cases h; repeat' with_reducible (first | assumption | apply State.at_follows | apply State.setReg_follows)

/-! Machine/ConfigCommands.lean -/

theorem execStartFull_follows (m : Master) (src : BitVec 2) (s : State) {z : State}
    (h : execStartFull m src s = .next z) : Follows s z := by
  have hz := Follows.refl s
  unfold execStartFull at h; cases h; repeat' with_reducible (first | assumption | apply busWrite_follows | apply access_follows)

theorem execStartReweave_follows (m : Master) (src : BitVec 2) (s : State) {z : State}
    (h : execStartReweave m src s = .next z) : Follows s z := by
  have hz := Follows.refl s
  unfold execStartReweave at h; cases h; repeat' with_reducible (first | assumption | apply busWrite_follows | apply access_follows)

theorem execCfgAbort_follows (m : Master) (s : State) {z : State} (h : execCfgAbort m s = .next z) : Follows s z := by
  have hz := Follows.refl s
  unfold execCfgAbort at h; cases h; repeat' with_reducible (first | assumption | apply busWrite_follows | apply access_follows)

theorem execCfgRelease_follows (m : Master) (s : State) {z : State} (h : execCfgRelease m s = .next z) : Follows s z := by
  have hz := Follows.refl s
  unfold execCfgRelease at h; cases h; repeat' with_reducible (first | assumption | apply busWrite_follows | apply access_follows)

theorem execCfgFifo_follows (m : Master) (v : Word) (s : State) {z : State} (h : execCfgFifo m v s = .next z) : Follows s z := by
  have hz := Follows.refl s
  unfold execCfgFifo at h; cases h; repeat' with_reducible (first | assumption | apply busWrite_follows | apply access_follows)

theorem execImageHeader_follows (ws : List Word) (s : State) {z : State} (h : execImageHeader ws s = .next z) : Follows s z := by
  have hz := Follows.refl s
  unfold execImageHeader at h; cases h; repeat' with_reducible (first | assumption | apply imageHeader_follows | apply State.follow_follows)

theorem execImageDeviceCheck_follows (ws : List Word) (s : State) {z : State} (h : execImageDeviceCheck ws s = .next z) : Follows s z := by
  have hz := Follows.refl s
  unfold execImageDeviceCheck at h; cases h; repeat' with_reducible (first | assumption | apply imageDevice_follows | apply State.follow_follows)

theorem execImageSettings_follows (ws : List Word) (s : State) {z : State} (h : execImageSettings ws s = .next z) : Follows s z := by
  have hz := Follows.refl s
  unfold execImageSettings at h; cases h; repeat' with_reducible (first | assumption | apply imageSettings_follows | apply State.afterBolts_follows)

theorem execImageFrameRun_follows (ws : List Word) (s : State) {z : State} (h : execImageFrameRun ws s = .next z) : Follows s z := by
  have hz := Follows.refl s
  unfold execImageFrameRun at h; cases h; repeat' with_reducible (first | assumption | apply imageFrameRun_follows | apply State.follow_follows)

theorem execImagePinmap_follows (ws : List Word) (s : State) {z : State} (h : execImagePinmap ws s = .next z) : Follows s z := by
  have hz := Follows.refl s
  unfold execImagePinmap at h; cases h; repeat' with_reducible (first | assumption | apply imagePinmap_follows | apply State.follow_follows)

theorem execImageCreelInitRecord_follows (ws : List Word) (s : State) {z : State}
    (h : execImageCreelInitRecord ws s = .next z) : Follows s z := by
  have hz := Follows.refl s
  unfold execImageCreelInitRecord at h; cases h; repeat' with_reducible (first | assumption | apply imageCreelInit_follows | apply State.follow_follows)

theorem execImageDomains_follows (ws : List Word) (s : State) {z : State} (h : execImageDomains ws s = .next z) : Follows s z := by
  have hz := Follows.refl s
  unfold execImageDomains at h; cases h; repeat' with_reducible (first | assumption | apply imageDomains_follows | apply State.follow_follows)

theorem execImageAuth_follows (ws : List Word) (s : State) {z : State} (h : execImageAuth ws s = .next z) : Follows s z := by
  have hz := Follows.refl s
  unfold execImageAuth at h; cases h; repeat' with_reducible (first | assumption | apply imageAuth_follows | apply State.follow_follows)

theorem execSignatureVerified_follows (sigOk tagOk : Bool) (t : Nat) (s : State) {z : State}
    (h : execSignatureVerified sigOk tagOk t s = .next z) : Follows s z := by
  have hz := Follows.refl s
  unfold execSignatureVerified at h; cases h; repeat' with_reducible (first | assumption | apply signatureVerified_follows | apply State.afterBolts_follows)

theorem execClearingDone_follows (t : Nat) (s : State) {z : State} (h : execClearingDone t s = .next z) : Follows s z := by
  have hz := Follows.refl s
  unfold execClearingDone at h; cases h; repeat' with_reducible (first | assumption | apply State.at_follows | apply clearingDone_follows | apply State.follow_follows)

theorem execScrubFrameRead_follows (s : State) {z : State} (h : execScrubFrameRead s = .next z) : Follows s z := by
  have hz := Follows.refl s
  unfold execScrubFrameRead at h; cases h; repeat' with_reducible (first | assumption | apply scrubFrame_follows)

theorem execRecoverySourceCheck_follows (flashAnswers : Bool) (t : Nat) (s : State) {z : State}
    (h : execRecoverySourceCheck flashAnswers t s = .next z) : Follows s z := by
  have hz := Follows.refl s
  unfold execRecoverySourceCheck at h; cases h; repeat' with_reducible (first | assumption | apply recoverySource_follows | apply State.afterBolts_follows)

theorem execRecoveryGroupRead_follows (digest : BitVec 128) (t : Nat) (s : State) {z : State}
    (h : execRecoveryGroupRead digest t s = .next z) : Follows s z := by
  have hz := Follows.refl s
  unfold execRecoveryGroupRead at h; cases h; repeat' with_reducible (first | assumption | apply recoveryRead_follows | apply State.afterBolts_follows)

theorem execRecoveryRewriteDone_follows (t : Nat) (s : State) {z : State} (h : execRecoveryRewriteDone t s = .next z) : Follows s z := by
  have hz := Follows.refl s
  unfold execRecoveryRewriteDone at h; cases h; repeat' with_reducible (first | assumption | apply recoveryRewritten_follows | apply State.afterBolts_follows)

theorem execRecoveryTimeLimit_follows (t : Nat) (s : State) {z : State} (h : execRecoveryTimeLimit t s = .next z) : Follows s z := by
  have hz := Follows.refl s
  unfold execRecoveryTimeLimit at h; cases h; repeat' with_reducible (first | assumption | apply recoveryTimeout_follows | apply State.afterBolts_follows)

theorem execScrubClrCounts_follows (m : Master) (v : Word) (s : State) {z : State}
    (h : execScrubClrCounts m v s = .next z) : Follows s z := by
  have hz := Follows.refl s
  unfold execScrubClrCounts at h; cases h; repeat' with_reducible (first | assumption | apply busWrite_follows | apply access_follows)

theorem execPanelHopMeasure_follows (p : Fin 4) (hop : BitVec 12) (temp : BitVec 10) (s : State) {z : State}
    (h : execPanelHopMeasure p hop temp s = .next z) : Follows s z := by
  have hz := Follows.refl s
  unfold execPanelHopMeasure at h; cases h; repeat' with_reducible (first | assumption | apply panelMeasure_follows)

/-! Machine/PinCommands.lean -/

theorem matchMet_follows {z : State} (u t : Nat) (s : State) (hz : Follows z s) : Follows z (matchMet u t s) := by
  unfold matchMet
  repeat' first
    | with_reducible assumption | with_reducible apply State.at_follows | with_reducible apply recordMatch_follows
    | with_reducible apply wakeOp_follows | with_reducible apply State.follow_follows | with_reducible apply Follows.ite

theorem vccoMeasured_follows {z : State} (b mv : Nat) (s : State) (hz : Follows z s) : Follows z (vccoMeasured b mv s) := by
  unfold vccoMeasured
  repeat' with_reducible (first | assumption | apply State.setFld_follows | apply State.noteVcco_follows)

theorem execVccoWarn_follows (b : Fin 20) (mv : BitVec 16) (s : State) {z : State} (h : execVccoWarn b mv s = .next z) : Follows s z := by
  have hz := Follows.refl s
  unfold execVccoWarn at h; cases h; repeat' with_reducible (first | assumption | apply bankWarn_follows)

theorem execBankDisabled_follows (b : Fin 20) (mv : BitVec 16) (s : State) {z : State}
    (h : execBankDisabled b mv s = .next z) : Follows s z := by
  have hz := Follows.refl s
  unfold execBankDisabled at h; cases h; repeat' with_reducible (first | assumption | apply bankDisable_follows)

theorem execBankReenable_follows (b : Fin 20) (s : State) {z : State} (h : execBankReenable b s = .next z) : Follows s z := by
  have hz := Follows.refl s
  unfold execBankReenable at h; cases h; repeat' with_reducible (first | assumption | apply bankRecovered_follows)

theorem execBankEnable_follows (m : Master) (b : Fin 20) (v : Word) (s : State) {z : State}
    (h : execBankEnable m b v s = .next z) : Follows s z := by
  have hz := Follows.refl s
  unfold execBankEnable at h; cases h; repeat' with_reducible (first | assumption | apply busWrite_follows | apply access_follows)

theorem execBankClrVmin_follows (m : Master) (b : Fin 20) (v : Word) (s : State) {z : State}
    (h : execBankClrVmin m b v s = .next z) : Follows s z := by
  have hz := Follows.refl s
  unfold execBankClrVmin at h; cases h; repeat' with_reducible (first | assumption | apply busWrite_follows | apply access_follows)

theorem execBankVccoMeasure_follows (b : Fin 20) (mv : BitVec 16) (s : State) {z : State}
    (h : execBankVccoMeasure b mv s = .next z) : Follows s z := by
  have hz := Follows.refl s
  unfold execBankVccoMeasure at h; cases h; repeat' with_reducible (first | assumption | apply vccoMeasured_follows)

theorem execChangeover_follows (m : Master) (p : Fin 960) (v : Word) (t : Nat) (s : State) {z : State}
    (h : execChangeover m p v t s = .next z) : Follows s z := by
  have hz := Follows.refl s
  unfold execChangeover at h; cases h; repeat' with_reducible (first | assumption | apply State.at_follows | apply busWrite_follows | apply access_follows)

theorem execChangeoverDone_follows (p : Fin 960) (t : Nat) (s : State) {z : State}
    (h : execChangeoverDone p t s = .next z) : Follows s z := by
  have hz := Follows.refl s
  unfold execChangeoverDone at h; cases h; repeat' with_reducible (first | assumption | apply State.at_follows | apply changeoverEnd_follows)

theorem execPinFilterPass_follows (p : Fin 960) (level : Bool) (s : State) {z : State}
    (h : execPinFilterPass p level s = .next z) : Follows s z := by
  have hz := Follows.refl s
  unfold execPinFilterPass at h; cases h; repeat' with_reducible (first | assumption | apply filterPass_follows)

theorem execDebouncedVectorChange_follows (u : Fin 32) (v : BitVec 16) (t : Nat) (s : State) {z : State}
    (h : execDebouncedVectorChange u v t s = .next z) : Follows s z := by
  have hz := Follows.refl s
  unfold execDebouncedVectorChange at h; cases h; repeat' with_reducible (first | assumption | apply State.at_follows | apply vectorChange_follows)

theorem execMatchUnit_follows (u : Fin 32) (t : Nat) (s : State) {z : State} (h : execMatchUnit u t s = .next z) : Follows s z := by
  have hz := Follows.refl s
  unfold execMatchUnit at h; cases h; repeat' with_reducible (first | assumption | apply matchMet_follows)

theorem execPatCmdClr_follows (m : Master) (v : Word) (s : State) {z : State} (h : execPatCmdClr m v s = .next z) : Follows s z := by
  have hz := Follows.refl s
  unfold execPatCmdClr at h; cases h; repeat' with_reducible (first | assumption | apply busWrite_follows | apply access_follows)

theorem execI2cWrite_follows (m : Master) (u : Fin 4) (len : BitVec 5) (s : State) {z : State}
    (h : execI2cWrite m u len s = .next z) : Follows s z := by
  have hz := Follows.refl s
  unfold execI2cWrite at h; cases h; repeat' with_reducible (first | assumption | apply busWrite_follows | apply access_follows)

theorem execI2cRead_follows (m : Master) (u : Fin 4) (len : BitVec 5) (s : State) {z : State}
    (h : execI2cRead m u len s = .next z) : Follows s z := by
  have hz := Follows.refl s
  unfold execI2cRead at h; cases h; repeat' with_reducible (first | assumption | apply busWrite_follows | apply access_follows)

theorem execI2cWriteRead_follows (m : Master) (u : Fin 4) (len : BitVec 5) (s : State) {z : State}
    (h : execI2cWriteRead m u len s = .next z) : Follows s z := by
  have hz := Follows.refl s
  unfold execI2cWriteRead at h; cases h; repeat' with_reducible (first | assumption | apply busWrite_follows | apply access_follows)

theorem execSpiTransfer_follows (m : Master) (u : Fin 4) (len : BitVec 5) (holdCs : Bool) (s : State) {z : State}
    (h : execSpiTransfer m u len holdCs s = .next z) : Follows s z := by
  have hz := Follows.refl s
  unfold execSpiTransfer at h; cases h; repeat' with_reducible (first | assumption | apply busWrite_follows | apply access_follows)

theorem execUartFlush_follows (m : Master) (u : Fin 2) (s : State) {z : State} (h : execUartFlush m u s = .next z) : Follows s z := by
  have hz := Follows.refl s
  unfold execUartFlush at h; cases h; repeat' with_reducible (first | assumption | apply busWrite_follows | apply access_follows)

theorem execHpTx_follows (m : Master) (u : Fin 10) (v : Word) (s : State) {z : State} (h : execHpTx m u v s = .next z) : Follows s z := by
  have hz := Follows.refl s
  unfold execHpTx at h; cases h; repeat' with_reducible (first | assumption | apply busWrite_follows | apply access_follows)

theorem execHpRx_follows (m : Master) (u : Fin 10) (s : State) {z : State} (h : execHpRx m u s = .next z) : Follows s z := by
  have hz := Follows.refl s
  unfold execHpRx at h; cases h; repeat' with_reducible (first | assumption | apply busRead_follows | apply access_follows)

theorem execHpCommandDone_follows (u : Fin 10) (how : SerialEnd) (rx : List Byte) (s : State) {z : State}
    (h : execHpCommandDone u how rx s = .next z) : Follows s z := by
  have hz := Follows.refl s
  unfold execHpCommandDone at h; cases h; repeat' with_reducible (first | assumption | apply hpEnd_follows)

theorem execUartRxByte_follows (u : Fin 2) (line : UartLine) (v : Byte) (s : State) {z : State}
    (h : execUartRxByte u line v s = .next z) : Follows s z := by
  have hz := Follows.refl s
  unfold execUartRxByte at h; cases h; repeat' with_reducible (first | assumption | apply uartReceive_follows)

/-! Machine/SerdesCommands.lean -/

theorem execQuadPwr_follows (m : Master) (q : Fin 12) (v : Word) (s : State) {z : State}
    (h : execQuadPwr m q v s = .next z) : Follows s z := by
  have hz := Follows.refl s
  unfold execQuadPwr at h; cases h; repeat' with_reducible (first | assumption | apply busWrite_follows | apply access_follows)

theorem execSdApply_follows (m : Master) (q : Fin 12) (s : State) {z : State} (h : execSdApply m q s = .next z) : Follows s z := by
  have hz := Follows.refl s
  unfold execSdApply at h; cases h; repeat' with_reducible (first | assumption | apply busWrite_follows | apply access_follows)

theorem execSdReset_follows (m : Master) (q : Fin 12) (s : State) {z : State} (h : execSdReset m q s = .next z) : Follows s z := by
  have hz := Follows.refl s
  unfold execSdReset at h; cases h; repeat' with_reducible (first | assumption | apply busWrite_follows | apply access_follows)

theorem execSdClrCounts_follows (m : Master) (q : Fin 12) (s : State) {z : State} (h : execSdClrCounts m q s = .next z) : Follows s z := by
  have hz := Follows.refl s
  unfold execSdClrCounts at h; cases h; repeat' with_reducible (first | assumption | apply busWrite_follows | apply access_follows)

theorem execPllLocked_follows (q : Fin 12) (s : State) {z : State} (h : execPllLocked q s = .next z) : Follows s z := by
  have hz := Follows.refl s
  unfold execPllLocked at h; cases h; repeat' with_reducible (first | assumption | apply pllLockedOp_follows)

theorem execSdRefLost_follows (q : Fin 12) (s : State) {z : State} (h : execSdRefLost q s = .next z) : Follows s z := by
  have hz := Follows.refl s
  unfold execSdRefLost at h; cases h; repeat' with_reducible (first | assumption | apply sdRefLostOp_follows)

theorem execQrefMeasure_follows (q : Fin 12) (meas : BitVec 16) (s : State) {z : State}
    (h : execQrefMeasure q meas s = .next z) : Follows s z := by
  have hz := Follows.refl s
  unfold execQrefMeasure at h; cases h; repeat' with_reducible (first | assumption | apply qrefMeasureOp_follows)

theorem execCdrLocked_follows (q : Fin 12) (i : Fin 4) (s : State) {z : State} (h : execCdrLocked q i s = .next z) : Follows s z := by
  have hz := Follows.refl s
  unfold execCdrLocked at h; cases h; repeat' with_reducible (first | assumption | apply cdrLockedOp_follows)

theorem execCdrLost_follows (q : Fin 12) (i : Fin 4) (s : State) {z : State} (h : execCdrLost q i s = .next z) : Follows s z := by
  have hz := Follows.refl s
  unfold execCdrLost at h; cases h; repeat' with_reducible (first | assumption | apply cdrLostOp_follows)

theorem execAdaptDone_follows (q : Fin 12) (i : Fin 4) (vga ctle : BitVec 4) (dfe : List Byte) (s : State) {z : State}
    (h : execAdaptDone q i vga ctle dfe s = .next z) : Follows s z := by
  have hz := Follows.refl s
  unfold execAdaptDone at h
  split at h
  · cases h
    repeat' with_reducible (first | assumption | apply adaptDoneOp_follows)
  · cases h

theorem execEbSlip_follows (q : Fin 12) (i : Fin 4) (level : Fin 33) (s : State) {z : State}
    (h : execEbSlip q i level s = .next z) : Follows s z := by
  have hz := Follows.refl s
  unfold execEbSlip at h; cases h; repeat' with_reducible (first | assumption | apply ebSlipOp_follows)

theorem execPrbsInject_follows (m : Master) (q : Fin 12) (i : Fin 4) (v : Word) (s : State) {z : State}
    (h : execPrbsInject m q i v s = .next z) : Follows s z := by
  have hz := Follows.refl s
  unfold execPrbsInject at h; cases h; repeat' with_reducible (first | assumption | apply busWrite_follows | apply access_follows)

theorem execPrbsLock_follows (q : Fin 12) (i : Fin 4) (s : State) {z : State} (h : execPrbsLock q i s = .next z) : Follows s z := by
  have hz := Follows.refl s
  unfold execPrbsLock at h; cases h; repeat' with_reducible (first | assumption | apply prbsLockOp_follows)

theorem execPrbsLockLost_follows (q : Fin 12) (i : Fin 4) (bits : Word) (s : State) {z : State}
    (h : execPrbsLockLost q i bits s = .next z) : Follows s z := by
  have hz := Follows.refl s
  unfold execPrbsLockLost at h; cases h; repeat' with_reducible (first | assumption | apply prbsLockLostOp_follows)

theorem execLoopbackChange_follows (m : Master) (q : Fin 12) (i : Fin 4) (v : Word) (s : State) {z : State}
    (h : execLoopbackChange m q i v s = .next z) : Follows s z := by
  have hz := Follows.refl s
  unfold execLoopbackChange at h; cases h; repeat' with_reducible (first | assumption | apply busWrite_follows | apply access_follows)

theorem execPcsApply_follows (m : Master) (q : Fin 12) (s : State) {z : State} (h : execPcsApply m q s = .next z) : Follows s z := by
  have hz := Follows.refl s
  unfold execPcsApply at h; cases h; repeat' with_reducible (first | assumption | apply busWrite_follows | apply access_follows)

theorem execPcsClrCounts_follows (m : Master) (q : Fin 12) (s : State) {z : State}
    (h : execPcsClrCounts m q s = .next z) : Follows s z := by
  have hz := Follows.refl s
  unfold execPcsClrCounts at h; cases h; repeat' with_reducible (first | assumption | apply busWrite_follows | apply access_follows)

theorem execBlockLock_follows (q : Fin 12) (i : Fin 4) (s : State) {z : State} (h : execBlockLock q i s = .next z) : Follows s z := by
  have hz := Follows.refl s
  unfold execBlockLock at h; cases h; repeat' with_reducible (first | assumption | apply blockLockOp_follows)

theorem execBlockLockLost_follows (q : Fin 12) (i : Fin 4) (s : State) {z : State}
    (h : execBlockLockLost q i s = .next z) : Follows s z := by
  have hz := Follows.refl s
  unfold execBlockLockLost at h; cases h; repeat' with_reducible (first | assumption | apply blockLockLostOp_follows)

theorem execPcsRxFrame_follows (q : Fin 12) (i : Fin 4) (blocks : List RxBlock) (s : State) {z : State}
    (h : execPcsRxFrame q i blocks s = .next z) : Follows s z := by
  have hz := Follows.refl s
  unfold execPcsRxFrame at h; cases h; repeat' with_reducible (first | assumption | apply pcsRxOp_follows)

theorem execFecCodeword_follows (q : Fin 12) (i : Fin 4) (r : FecResult) (s : State) {z : State}
    (h : execFecCodeword q i r s = .next z) : Follows s z := by
  have hz := Follows.refl s
  unfold execFecCodeword at h
  split at h
  · cases h
    repeat' with_reducible (first | assumption | apply fecCodewordOp_follows)
  · cases h

theorem execAmLock_follows (q : Fin 12) (i : Fin 4) (gain : Bool) (s : State) {z : State}
    (h : execAmLock q i gain s = .next z) : Follows s z := by
  have hz := Follows.refl s
  unfold execAmLock at h; cases h; repeat' with_reducible (first | assumption | apply amLockOp_follows)

theorem execFecAlign_follows (q : Fin 12) (i : Fin 4) (gain : Bool) (s : State) {z : State}
    (h : execFecAlign q i gain s = .next z) : Follows s z := by
  have hz := Follows.refl s
  unfold execFecAlign at h; cases h; repeat' with_reducible (first | assumption | apply fecAlignOp_follows)

theorem execTxUnderrun_follows (q : Fin 12) (i : Fin 4) (s : State) {z : State} (h : execTxUnderrun q i s = .next z) : Follows s z := by
  have hz := Follows.refl s
  unfold execTxUnderrun at h; cases h; repeat' with_reducible (first | assumption | apply txUnderrunOp_follows)

theorem execBondAligned_follows (q : Fin 12) (skews : List (Fin 17)) (s : State) {z : State}
    (h : execBondAligned q skews s = .next z) : Follows s z := by
  have hz := Follows.refl s
  unfold execBondAligned at h; cases h; repeat' with_reducible (first | assumption | apply bondAlignedOp_follows)

theorem execBondLost_follows (q : Fin 12) (s : State) {z : State} (h : execBondLost q s = .next z) : Follows s z := by
  have hz := Follows.refl s
  unfold execBondLost at h; cases h; repeat' with_reducible (first | assumption | apply bondLostOp_follows)

/-! Machine/PcieCommands.lean -/

theorem execPerst_follows (s : State) {z : State} (h : execPerst s = .next z) : Follows s z := by
  have hz := Follows.refl s
  unfold execPerst at h; cases h; repeat' with_reducible (first | assumption | apply State.endpointReset_follows | apply State.follow_follows)

theorem execLinkTrainingStart_follows (t : Nat) (s : State) {z : State} (h : execLinkTrainingStart t s = .next z) : Follows s z := by
  have hz := Follows.refl s
  unfold execLinkTrainingStart at h; cases h; repeat' with_reducible (first | assumption | apply State.at_follows | apply trainingStartOp_follows)

theorem execLinkUp_follows (speed : BitVec 3) (width : BitVec 5) (s : State) {z : State}
    (h : execLinkUp speed width s = .next z) : Follows s z := by
  have hz := Follows.refl s
  unfold execLinkUp at h
  split at h
  · cases h
    repeat' with_reducible (first | assumption | apply linkUpOp_follows)
  · cases h

theorem execLinkDown_follows (s : State) {z : State} (h : execLinkDown s = .next z) : Follows s z := by
  have hz := Follows.refl s
  unfold execLinkDown at h; cases h; repeat' with_reducible (first | assumption | apply linkDownOp_follows | apply State.follow_follows)

theorem execSpeedChange_follows (speed : BitVec 3) (s : State) {z : State} (h : execSpeedChange speed s = .next z) : Follows s z := by
  have hz := Follows.refl s
  unfold execSpeedChange at h
  split at h
  · cases h
    repeat' with_reducible (first | assumption | apply speedChangeOp_follows)
  · cases h

theorem execFlr_follows (f : Fin 4) (s : State) {z : State} (h : execFlr f s = .next z) : Follows s z := by
  have hz := Follows.refl s
  unfold execFlr at h; cases h; repeat' with_reducible (first | assumption | apply flrOp_follows | apply State.follow_follows)

theorem execFlrComplete_follows (f : Fin 4) (s : State) {z : State} (h : execFlrComplete f s = .next z) : Follows s z := by
  have hz := Follows.refl s
  unfold execFlrComplete at h; cases h; repeat' with_reducible (first | assumption | apply flrCompleteOp_follows)

theorem execBmeClear_follows (f : Fin 4) (s : State) {z : State} (h : execBmeClear f s = .next z) : Follows s z := by
  have hz := Follows.refl s
  unfold execBmeClear at h; cases h; repeat' with_reducible (first | assumption | apply bmeClearOp_follows)

theorem execD3Entry_follows (f : Fin 4) (s : State) {z : State} (h : execD3Entry f s = .next z) : Follows s z := by
  have hz := Follows.refl s
  unfold execD3Entry at h; cases h; repeat' with_reducible (first | assumption | apply d3EntryOp_follows)

theorem execD0Return_follows (f : Fin 4) (s : State) {z : State} (h : execD0Return f s = .next z) : Follows s z := by
  have hz := Follows.refl s
  unfold execD0Return at h; cases h; repeat' with_reducible (first | assumption | apply d0ReturnOp_follows)

theorem execMsixMessage_follows (s : State) {z : State} (h : execMsixMessage s = .next z) : Follows s z := by
  have hz := Follows.refl s
  unfold execMsixMessage at h; cases h; repeat' with_reducible (first | assumption | apply msixMessageOp_follows)

theorem execPtmDialogue_follows (ok : Bool) (offset : Dword) (t : Nat) (s : State) {z : State}
    (h : execPtmDialogue ok offset t s = .next z) : Follows s z := by
  have hz := Follows.refl s
  unfold execPtmDialogue at h; cases h; repeat' with_reducible (first | assumption | apply State.at_follows | apply ptmDialogueOp_follows)

theorem execDeviceReadCompletion_follows (tag : BitVec 10) (st : CplStatus) (ws : List Word) (s : State) {z : State}
    (h : execDeviceReadCompletion tag st ws s = .next z) : Follows s z := by
  have hz := Follows.refl s
  unfold execDeviceReadCompletion at h; cases h; repeat' with_reducible (first | assumption | apply readCompletion_follows | apply State.follow_follows)

theorem execCompletionTimeout_follows (tag : BitVec 10) (s : State) {z : State}
    (h : execCompletionTimeout tag s = .next z) : Follows s z := by
  have hz := Follows.refl s
  unfold execCompletionTimeout at h; cases h; repeat' with_reducible (first | assumption | apply readTimeout_follows | apply State.follow_follows)

theorem execPcieClrCounts_follows (m : Master) (v : Word) (s : State) {z : State}
    (h : execPcieClrCounts m v s = .next z) : Follows s z := by
  have hz := Follows.refl s
  unfold execPcieClrCounts at h; cases h; repeat' with_reducible (first | assumption | apply busWrite_follows | apply access_follows)

theorem execDmaEnable_follows (m : Master) (ch : Fin 64) (s : State) {z : State} (h : execDmaEnable m ch s = .next z) : Follows s z := by
  have hz := Follows.refl s
  unfold execDmaEnable at h; cases h; repeat' with_reducible (first | assumption | apply busWrite_follows | apply access_follows)

theorem execDmaDisable_follows (m : Master) (ch : Fin 64) (s : State) {z : State} (h : execDmaDisable m ch s = .next z) : Follows s z := by
  have hz := Follows.refl s
  unfold execDmaDisable at h; cases h; repeat' with_reducible (first | assumption | apply busWrite_follows | apply access_follows)

theorem execDmaReset_follows (m : Master) (ch : Fin 64) (v : Word) (s : State) {z : State}
    (h : execDmaReset m ch v s = .next z) : Follows s z := by
  have hz := Follows.refl s
  unfold execDmaReset at h; cases h; repeat' with_reducible (first | assumption | apply busWrite_follows | apply access_follows)

theorem execDmaDoorbellPi_follows (m : Master) (ch : Fin 64) (v : Word) (s : State) {z : State}
    (h : execDmaDoorbellPi m ch v s = .next z) : Follows s z := by
  have hz := Follows.refl s
  unfold execDmaDoorbellPi at h; cases h; repeat' with_reducible (first | assumption | apply busWrite_follows | apply access_follows)

theorem execDmaDoorbellCplCi_follows (m : Master) (ch : Fin 64) (v : Word) (s : State) {z : State}
    (h : execDmaDoorbellCplCi m ch v s = .next z) : Follows s z := by
  have hz := Follows.refl s
  unfold execDmaDoorbellCplCi at h; cases h; repeat' with_reducible (first | assumption | apply busWrite_follows | apply access_follows)

theorem execDescriptorFetch_follows (ch : Fin 64) (s : State) {z : State} (h : execDescriptorFetch ch s = .next z) : Follows s z := by
  have hz := Follows.refl s
  unfold execDescriptorFetch at h; cases h; repeat' with_reducible (first | assumption | apply descriptorFetch_follows)

theorem execDmaDataReadDone_follows (ch : Fin 64) (s : State) {z : State} (h : execDmaDataReadDone ch s = .next z) : Follows s z := by
  have hz := Follows.refl s
  unfold execDmaDataReadDone at h; cases h; repeat' with_reducible (first | assumption | apply dataReadDone_follows)

theorem execDmaLevelPoll_follows (ch : Fin 64) (t : Nat) (s : State) {z : State} (h : execDmaLevelPoll ch t s = .next z) : Follows s z := by
  have hz := Follows.refl s
  unfold execDmaLevelPoll at h; cases h; repeat' with_reducible (first | assumption | apply levelPoll_follows)

theorem execDmaIdleTimeout_follows (ch : Fin 64) (t : Nat) (s : State) {z : State}
    (h : execDmaIdleTimeout ch t s = .next z) : Follows s z := by
  have hz := Follows.refl s
  unfold execDmaIdleTimeout at h; cases h; repeat' with_reducible (first | assumption | apply idleTimeout_follows)

theorem execDmaRecord_follows (ch : Fin 64) (s : State) {z : State} (h : execDmaRecord ch s = .next z) : Follows s z := by
  have hz := Follows.refl s
  unfold execDmaRecord at h; cases h; repeat' with_reducible (first | assumption | apply dmaRecordOp_follows)

theorem execTailDiscarded_follows (ch : Fin 64) (s : State) {z : State} (h : execTailDiscarded ch s = .next z) : Follows s z := by
  have hz := Follows.refl s
  unfold execTailDiscarded at h; cases h; repeat' with_reducible (first | assumption | apply tailDiscardedOp_follows)

/-! Machine/ShuttleCommands.lean -/

theorem execShBind_follows (m : Master) (ch : Fin 256) (v : Word) (s : State) {z : State}
    (h : execShBind m ch v s = .next z) : Follows s z := by
  have hz := Follows.refl s
  unfold execShBind at h; cases h; repeat' with_reducible (first | assumption | apply busWrite_follows | apply access_follows)

theorem execShBindLock_follows (m : Master) (v : Word) (s : State) {z : State} (h : execShBindLock m v s = .next z) : Follows s z := by
  have hz := Follows.refl s
  unfold execShBindLock at h; cases h; repeat' with_reducible (first | assumption | apply busWrite_follows | apply access_follows)

theorem execTxData_follows (m : Master) (ch : Fin 256) (d : Side) (v : Word) (s : State) {z : State}
    (h : execTxData m ch d v s = .next z) : Follows s z := by
  have hz := Follows.refl s
  unfold execTxData at h; cases h; repeat' with_reducible (first | assumption | apply busWrite_follows | apply access_follows)

theorem execTxSend_follows (m : Master) (ch : Fin 256) (d : Side) (v : Word) (s : State) {z : State}
    (h : execTxSend m ch d v s = .next z) : Follows s z := by
  have hz := Follows.refl s
  unfold execTxSend at h; cases h; repeat' with_reducible (first | assumption | apply busWrite_follows | apply access_follows)

theorem execTxCommit_follows (m : Master) (ch : Fin 256) (d : Side) (s : State) {z : State}
    (h : execTxCommit m ch d s = .next z) : Follows s z := by
  have hz := Follows.refl s
  unfold execTxCommit at h; cases h; repeat' with_reducible (first | assumption | apply busRead_follows | apply access_follows)

theorem execRxData_follows (m : Master) (ch : Fin 256) (d : Side) (s : State) {z : State}
    (h : execRxData m ch d s = .next z) : Follows s z := by
  have hz := Follows.refl s
  unfold execRxData at h; cases h; repeat' with_reducible (first | assumption | apply busRead_follows | apply access_follows)

theorem execRxAck_follows (m : Master) (ch : Fin 256) (d : Side) (v : Word) (s : State) {z : State}
    (h : execRxAck m ch d v s = .next z) : Follows s z := by
  have hz := Follows.refl s
  unfold execRxAck at h; cases h; repeat' with_reducible (first | assumption | apply busWrite_follows | apply access_follows)

theorem execAckCode_follows (m : Master) (ch : Fin 256) (d : Side) (s : State) {z : State}
    (h : execAckCode m ch d s = .next z) : Follows s z := by
  have hz := Follows.refl s
  unfold execAckCode at h; cases h; repeat' with_reducible (first | assumption | apply busRead_follows | apply access_follows)

theorem execAckTimeout_follows (ch : Fin 256) (d : Side) (t : Nat) (s : State) {z : State}
    (h : execAckTimeout ch d t s = .next z) : Follows s z := by
  have hz := Follows.refl s
  unfold execAckTimeout at h; cases h; repeat' with_reducible (first | assumption | apply ackExpire_follows | apply State.follow_follows)

theorem execFlushRx_follows (m : Master) (ch : Fin 256) (d : Side) (code : BitVec 16) (s : State) {z : State}
    (h : execFlushRx m ch d code s = .next z) : Follows s z := by
  have hz := Follows.refl s
  unfold execFlushRx at h; cases h; repeat' with_reducible (first | assumption | apply busWrite_follows | apply access_follows)

theorem execClrPeerReset_follows (m : Master) (ch : Fin 256) (d : Side) (s : State) {z : State}
    (h : execClrPeerReset m ch d s = .next z) : Follows s z := by
  have hz := Follows.refl s
  unfold execClrPeerReset at h; cases h; repeat' with_reducible (first | assumption | apply busWrite_follows | apply access_follows)

theorem execSideClrCounts_follows (m : Master) (ch : Fin 256) (d : Side) (s : State) {z : State}
    (h : execSideClrCounts m ch d s = .next z) : Follows s z := by
  have hz := Follows.refl s
  unfold execSideClrCounts at h; cases h; repeat' with_reducible (first | assumption | apply busWrite_follows | apply access_follows)

theorem execSemaLockRead_follows (m : Master) (n : Fin 256) (s : State) {z : State}
    (h : execSemaLockRead m n s = .next z) : Follows s z := by
  have hz := Follows.refl s
  unfold execSemaLockRead at h; cases h; repeat' with_reducible (first | assumption | apply busRead_follows | apply access_follows)

theorem execSemaRelease_follows (m : Master) (n : Fin 256) (s : State) {z : State} (h : execSemaRelease m n s = .next z) : Follows s z := by
  have hz := Follows.refl s
  unfold execSemaRelease at h; cases h; repeat' with_reducible (first | assumption | apply busWrite_follows | apply access_follows)

theorem execSemaCmdFree_follows (m : Master) (n : Fin 256) (s : State) {z : State} (h : execSemaCmdFree m n s = .next z) : Follows s z := by
  have hz := Follows.refl s
  unfold execSemaCmdFree at h; cases h; repeat' with_reducible (first | assumption | apply busWrite_follows | apply access_follows)

theorem execSemaClrCounts_follows (m : Master) (v : Word) (s : State) {z : State}
    (h : execSemaClrCounts m v s = .next z) : Follows s z := by
  have hz := Follows.refl s
  unfold execSemaClrCounts at h; cases h; repeat' with_reducible (first | assumption | apply busWrite_follows | apply access_follows)

/-! Machine/EventCommands.lean -/

theorem execRecordEntersRing_follows (s : State) {z : State} (h : execRecordEntersRing s = .next z) : Follows s z := by
  have hz := Follows.refl s
  unfold execRecordEntersRing at h; cases h; repeat' with_reducible (first | assumption | apply recordEnters_follows)

theorem execRecPop_follows (m : Master) (s : State) {z : State} (h : execRecPop m s = .next z) : Follows s z := by
  have hz := Follows.refl s
  unfold execRecPop at h; cases h; repeat' with_reducible (first | assumption | apply busRead_follows | apply access_follows)

theorem execClrRing_follows (m : Master) (v : Word) (s : State) {z : State} (h : execClrRing m v s = .next z) : Follows s z := by
  have hz := Follows.refl s
  unfold execClrRing at h; cases h; repeat' with_reducible (first | assumption | apply busWrite_follows | apply access_follows)

theorem execClrLost_follows (m : Master) (v : Word) (s : State) {z : State} (h : execClrLost m v s = .next z) : Follows s z := by
  have hz := Follows.refl s
  unfold execClrLost at h; cases h; repeat' with_reducible (first | assumption | apply busWrite_follows | apply access_follows)

theorem execUsrRaise_follows (m : Master) (hi : Bool) (v : Word) (s : State) {z : State}
    (h : execUsrRaise m hi v s = .next z) : Follows s z := by
  have hz := Follows.refl s
  unfold execUsrRaise at h; cases h; repeat' with_reducible (first | assumption | apply busWrite_follows | apply access_follows)

theorem execLogClear_follows (m : Master) (s : State) {z : State} (h : execLogClear m s = .next z) : Follows s z := by
  have hz := Follows.refl s
  unfold execLogClear at h; cases h; repeat' with_reducible (first | assumption | apply busWrite_follows | apply access_follows)

theorem execLogFree_follows (m : Master) (s : State) {z : State} (h : execLogFree m s = .next z) : Follows s z := by
  have hz := Follows.refl s
  unfold execLogFree at h; cases h; repeat' with_reducible (first | assumption | apply busWrite_follows | apply access_follows)

/-! Machine/TrustCommands.lean -/

theorem execWeftReset_follows (m : Master) (v : Word) (s : State) {z : State} (h : execWeftReset m v s = .next z) : Follows s z := by
  have hz := Follows.refl s
  unfold execWeftReset at h; cases h; repeat' with_reducible (first | assumption | apply busWrite_follows | apply access_follows)

theorem execWeftContainerVerified_follows (ok : Bool) (patch : BitVec 16) (version : Word) (s : State) {z : State}
    (h : execWeftContainerVerified ok patch version s = .next z) : Follows s z := by
  have hz := Follows.refl s
  unfold execWeftContainerVerified at h; cases h; repeat' with_reducible (first | assumption | apply weftVerifiedOp_follows)

theorem execWeftWdog_follows (t : Nat) (s : State) {z : State} (h : execWeftWdog t s = .next z) : Follows s z := by
  have hz := Follows.refl s
  unfold execWeftWdog at h; cases h; repeat' with_reducible (first | assumption | apply weftWdogOp_follows)

theorem execHeartbeat_follows (m : Master) (s : State) {z : State} (h : execHeartbeat m s = .next z) : Follows s z := by
  have hz := Follows.refl s
  unfold execHeartbeat at h; cases h; repeat' with_reducible (first | assumption | apply busRead_follows | apply access_follows)

theorem execGetInfo_follows (msg : SvcMsg) (s : State) {z : State} (h : execGetInfo msg s = .next z) : Follows s z := by
  have hz := Follows.refl s
  unfold execGetInfo at h; cases h; repeat' with_reducible (first | assumption | apply getInfoOp_follows)

theorem execGetTelemetry_follows (msg : SvcMsg) (power : List Word) (s : State) {z : State}
    (h : execGetTelemetry msg power s = .next z) : Follows s z := by
  have hz := Follows.refl s
  unfold execGetTelemetry at h
  split at h
  · cases h
    repeat' with_reducible (first | assumption | apply getTelemetryOp_follows)
  · cases h

theorem execLoadImageHost_follows (msg : SvcMsg) (s : State) {z : State} (h : execLoadImageHost msg s = .next z) : Follows s z := by
  have hz := Follows.refl s
  unfold execLoadImageHost at h; cases h; repeat' with_reducible (first | assumption | apply loadImageHostOp_follows)

theorem execLoadImageFlash_follows (msg : SvcMsg) (s : State) {z : State} (h : execLoadImageFlash msg s = .next z) : Follows s z := by
  have hz := Follows.refl s
  unfold execLoadImageFlash at h; cases h; repeat' with_reducible (first | assumption | apply loadImageFlashOp_follows)

theorem execReweave_follows (msg : SvcMsg) (s : State) {z : State} (h : execReweave msg s = .next z) : Follows s z := by
  have hz := Follows.refl s
  unfold execReweave at h; cases h; repeat' with_reducible (first | assumption | apply reweaveOp_follows)

theorem execSetVfab_follows (msg : SvcMsg) (confirmed : Bool) (s : State) {z : State}
    (h : execSetVfab msg confirmed s = .next z) : Follows s z := by
  have hz := Follows.refl s
  unfold execSetVfab at h; cases h; repeat' with_reducible (first | assumption | apply setVfabOp_follows)

theorem execSetPowerState_follows (msg : SvcMsg) (s : State) {z : State} (h : execSetPowerState msg s = .next z) : Follows s z := by
  have hz := Follows.refl s
  unfold execSetPowerState at h; cases h; repeat' with_reducible (first | assumption | apply setPowerStateOp_follows)

theorem execServiceShutdown_follows (msg : SvcMsg) (s : State) {z : State} (h : execServiceShutdown msg s = .next z) : Follows s z := by
  have hz := Follows.refl s
  unfold execServiceShutdown at h; cases h; repeat' with_reducible (first | assumption | apply serviceShutdownOp_follows)

theorem execRunTest_follows (msg : SvcMsg) (s : State) {z : State} (h : execRunTest msg s = .next z) : Follows s z := by
  have hz := Follows.refl s
  unfold execRunTest at h; cases h; repeat' with_reducible (first | assumption | apply runTestOp_follows)

theorem execBindChannel_follows (msg : SvcMsg) (s : State) {z : State} (h : execBindChannel msg s = .next z) : Follows s z := by
  have hz := Follows.refl s
  unfold execBindChannel at h; cases h; repeat' with_reducible (first | assumption | apply bindChannelOp_follows)

theorem execLockBindings_follows (msg : SvcMsg) (s : State) {z : State} (h : execLockBindings msg s = .next z) : Follows s z := by
  have hz := Follows.refl s
  unfold execLockBindings at h; cases h; repeat' with_reducible (first | assumption | apply lockBindingsSvc_follows)

theorem execEnrolKey_follows (msg : SvcMsg) (s : State) {z : State} (h : execEnrolKey msg s = .next z) : Follows s z := by
  have hz := Follows.refl s
  unfold execEnrolKey at h; cases h; repeat' with_reducible (first | assumption | apply enrolKeyOp_follows)

theorem execLcAdvance_follows (msg : SvcMsg) (tokenOk : Bool) (s : State) {z : State}
    (h : execLcAdvance msg tokenOk s = .next z) : Follows s z := by
  have hz := Follows.refl s
  unfold execLcAdvance at h; cases h; repeat' with_reducible (first | assumption | apply lcAdvanceOp_follows)

theorem execStageToken_follows (msg : SvcMsg) (s : State) {z : State} (h : execStageToken msg s = .next z) : Follows s z := by
  have hz := Follows.refl s
  unfold execStageToken at h; cases h; repeat' with_reducible (first | assumption | apply stageTokenOp_follows)

theorem execSetOwner_follows (msg : SvcMsg) (s : State) {z : State} (h : execSetOwner msg s = .next z) : Follows s z := by
  have hz := Follows.refl s
  unfold execSetOwner at h; cases h; repeat' with_reducible (first | assumption | apply setOwnerOp_follows)

theorem execLoadWeft_follows (msg : SvcMsg) (s : State) {z : State} (h : execLoadWeft msg s = .next z) : Follows s z := by
  have hz := Follows.refl s
  unfold execLoadWeft at h; cases h; repeat' with_reducible (first | assumption | apply loadWeftOp_follows)

theorem execSetPolicy_follows (msg : SvcMsg) (s : State) {z : State} (h : execSetPolicy msg s = .next z) : Follows s z := by
  have hz := Follows.refl s
  unfold execSetPolicy at h; cases h; repeat' with_reducible (first | assumption | apply setPolicyOp_follows)

theorem execResetWeft_follows (msg : SvcMsg) (s : State) {z : State} (h : execResetWeft msg s = .next z) : Follows s z := by
  have hz := Follows.refl s
  unfold execResetWeft at h; cases h; repeat' with_reducible (first | assumption | apply resetWeftSvc_follows)

theorem execUnknownOpcode_follows (msg : SvcMsg) (opcode : BitVec 16) (s : State) {z : State}
    (h : execUnknownOpcode msg opcode s = .next z) : Follows s z := by
  have hz := Follows.refl s
  unfold execUnknownOpcode at h; cases h; repeat' with_reducible (first | assumption | apply unknownOpcodeOp_follows)

theorem execFuseBurnDone_follows (t : Nat) (s : State) {z : State} (h : execFuseBurnDone t s = .next z) : Follows s z := by
  have hz := Follows.refl s
  unfold execFuseBurnDone at h; cases h; repeat' with_reducible (first | assumption | apply fuseBurnDone_follows)

theorem execKeyBurnDone_follows (t : Nat) (s : State) {z : State} (h : execKeyBurnDone t s = .next z) : Follows s z := by
  have hz := Follows.refl s
  unfold execKeyBurnDone at h; cases h; repeat' with_reducible (first | assumption | apply keyBurnDone_follows)

theorem execSupplyFault_follows (t : Nat) (s : State) {z : State} (h : execSupplyFault t s = .next z) : Follows s z := by
  have hz := Follows.refl s
  unfold execSupplyFault at h; cases h; repeat' with_reducible (first | assumption | apply supplyFaultOp_follows)

theorem execJtagBypass_follows (s : State) {z : State} (h : execJtagBypass s = .next z) : Follows s z := by
  have hz := Follows.refl s
  unfold execJtagBypass at h
  injection h with h
  subst h
  repeat' with_reducible (first | assumption | apply jtagInstrOp_follows)

theorem execJtagIdcode_follows (s : State) {z : State} (h : execJtagIdcode s = .next z) : Follows s z := by
  have hz := Follows.refl s
  unfold execJtagIdcode at h
  injection h with h
  subst h
  repeat' with_reducible (first | assumption | apply idcodeOp_follows)

theorem execJtagSamplePreload_follows (preload : List Bool) (s : State) {z : State} (h : execJtagSamplePreload preload s = .next z) :
    Follows s z := by
  unfold execJtagSamplePreload at h
  split at h
  · injection h with h
    subst h
    exact samplePreloadOp_follows preload s (Follows.refl s)
  · cases h

theorem execJtagExtest_follows (s : State) {z : State} (h : execJtagExtest s = .next z) : Follows s z := by
  have hz := Follows.refl s
  unfold execJtagExtest at h
  injection h with h
  subst h
  repeat' with_reducible (first | assumption | apply jtagInstrOp_follows)

theorem execJtagHighz_follows (s : State) {z : State} (h : execJtagHighz s = .next z) : Follows s z := by
  have hz := Follows.refl s
  unfold execJtagHighz at h
  injection h with h
  subst h
  repeat' with_reducible (first | assumption | apply jtagInstrOp_follows)

theorem execJtagClamp_follows (s : State) {z : State} (h : execJtagClamp s = .next z) : Follows s z := by
  have hz := Follows.refl s
  unfold execJtagClamp at h
  injection h with h
  subst h
  repeat' with_reducible (first | assumption | apply jtagInstrOp_follows)

theorem execDbgAccess_follows (write : Bool) (addr : BitVec 32) (v : Word) (s : State) {z : State}
    (h : execDbgAccess write addr v s = .next z) : Follows s z := by
  have hz := Follows.refl s
  unfold execDbgAccess at h
  injection h with h
  subst h
  repeat' with_reducible (first | assumption | apply dbgAccessOp_follows)

theorem execTrst_follows (s : State) {z : State} (h : execTrst s = .next z) : Follows s z := by
  have hz := Follows.refl s
  unfold execTrst at h
  injection h with h
  subst h
  repeat' with_reducible (first | assumption | apply trstOp_follows)

/-! Machine/PowerCommands.lean -/

theorem execRailWarn_follows (k : Fin 10) (mv : BitVec 16) (t : Nat) (s : State) {z : State}
    (h : execRailWarn k mv t s = .next z) : Follows s z := by
  have hz := Follows.refl s
  unfold execRailWarn at h; cases h; repeat' with_reducible (first | assumption | apply railWarnOp_follows | apply State.afterBolts_follows)

theorem execRailRecovered_follows (k : Fin 10) (t : Nat) (s : State) {z : State} (h : execRailRecovered k t s = .next z) : Follows s z := by
  have hz := Follows.refl s
  unfold execRailRecovered at h; cases h; repeat' with_reducible (first | assumption | apply railRecoveredOp_follows)

theorem execRailMeasure_follows (mvs : List (BitVec 16)) (t : Nat) (s : State) {z : State}
    (h : execRailMeasure mvs t s = .next z) : Follows s z := by
  have hz := Follows.refl s
  unfold execRailMeasure at h
  split at h
  · cases h
    repeat' with_reducible (first | assumption | apply State.at_follows | apply railMeasureOp_follows)
  · cases h

/-- A power-on reset starts device time again; the queue and the form of the memories stay. -/
theorem execPowerOnReset_keeps (vaon : Bool) (straps : BitVec 4) (s : State) {t : State} (h : execPowerOnReset vaon straps s = .next t) :
    t.pending = s.pending ∧ (s.Canonical → t.Canonical) := by
  unfold execPowerOnReset at h
  cases h
  have h1 : Follows s s.burnAtReset := State.burnAtReset_follows _ (Follows.refl s)
  have h2 : Follows { s.burnAtReset with now := 0 } (powerOnResetOp vaon straps.toNat s) := by
    unfold powerOnResetOp
    exact State.setReg_follows _ _ _ (State.setReg_follows _ _ _ (State.bare_follows _ _ (Follows.refl _)))
  exact ⟨h2.queue.trans h1.queue, fun c => h2.memory { h1.memory c with }⟩

theorem execRailReset_follows (k : Fin 10) (t : Nat) (s : State) {z : State} (h : execRailReset k t s = .next z) : Follows s z := by
  have hz := Follows.refl s
  unfold execRailReset at h; cases h; repeat' with_reducible (first | assumption | apply railResetOp_follows)

theorem execDeviceReset_follows (m : Master) (s : State) {z : State} (h : execDeviceReset m s = .next z) : Follows s z := by
  have hz := Follows.refl s
  unfold execDeviceReset at h; cases h; repeat' with_reducible (first | assumption | apply busWrite_follows | apply access_follows)

theorem execWarpException_follows (t : Nat) (s : State) {z : State} (h : execWarpException t s = .next z) : Follows s z := by
  have hz := Follows.refl s
  unfold execWarpException at h; cases h; repeat' with_reducible (first | assumption | apply State.at_follows | apply State.deviceReset_follows)

theorem execPwrSleep_follows (m : Master) (t : Nat) (s : State) {z : State} (h : execPwrSleep m t s = .next z) : Follows s z := by
  have hz := Follows.refl s
  unfold execPwrSleep at h; cases h; repeat' with_reducible (first | assumption | apply State.at_follows | apply busWrite_follows | apply access_follows)

theorem execSleepRefused_follows (t : Nat) (s : State) {z : State} (h : execSleepRefused t s = .next z) : Follows s z := by
  have hz := Follows.refl s
  unfold execSleepRefused at h; cases h; repeat' with_reducible (first | assumption | apply sleepRefusedOp_follows | apply State.follow_follows)

theorem execSleepEntered_follows (t : Nat) (s : State) {z : State} (h : execSleepEntered t s = .next z) : Follows s z := by
  have hz := Follows.refl s
  unfold execSleepEntered at h; cases h; repeat' with_reducible (first | assumption | apply sleepEnteredOp_follows | apply State.follow_follows)

theorem execPwrWake_follows (m : Master) (t : Nat) (s : State) {z : State} (h : execPwrWake m t s = .next z) : Follows s z := by
  have hz := Follows.refl s
  unfold execPwrWake at h; cases h; repeat' with_reducible (first | assumption | apply State.at_follows | apply busWrite_follows | apply access_follows)

theorem execWakePin_follows (t : Nat) (s : State) {z : State} (h : execWakePin t s = .next z) : Follows s z := by
  have hz := Follows.refl s
  unfold execWakePin at h; cases h; repeat' first
    | with_reducible assumption | with_reducible apply State.at_follows | with_reducible apply wakeOp_follows
    | with_reducible apply State.follow_follows | with_reducible apply State.unparkPorts_follows

theorem execWakeRailsReady_follows (upset : Option ShadowUpset) (t : Nat) (s : State) {z : State}
    (h : execWakeRailsReady upset t s = .next z) : Follows s z := by
  have hz := Follows.refl s
  unfold execWakeRailsReady at h; cases h; repeat' with_reducible (first | assumption | apply upsetShadow_follows | apply wakeRailsReadyOp_follows | apply State.follow_follows)

theorem execWakeLate_follows (t : Nat) (s : State) {z : State} (h : execWakeLate t s = .next z) : Follows s z := by
  have hz := Follows.refl s
  unfold execWakeLate at h; cases h; repeat' with_reducible (first | assumption | apply wakeLateOp_follows)

theorem execWakeComplete_follows (t : Nat) (s : State) {z : State} (h : execWakeComplete t s = .next z) : Follows s z := by
  have hz := Follows.refl s
  unfold execWakeComplete at h; cases h; repeat' first
    | with_reducible assumption | with_reducible apply wakeCompleteOp_follows | with_reducible apply State.follow_follows
    | with_reducible apply State.unparkPorts_follows

theorem execPwrShutdown_follows (m : Master) (t : Nat) (s : State) {z : State} (h : execPwrShutdown m t s = .next z) : Follows s z := by
  have hz := Follows.refl s
  unfold execPwrShutdown at h; cases h; repeat' with_reducible (first | assumption | apply State.at_follows | apply busWrite_follows | apply access_follows)

theorem execPwrdnReq_follows (t : Nat) (s : State) {z : State} (h : execPwrdnReq t s = .next z) : Follows s z := by
  have hz := Follows.refl s
  unfold execPwrdnReq at h; cases h; repeat' with_reducible (first | assumption | apply State.at_follows | apply shutdownOp_follows | apply State.follow_follows)

theorem execDoffStart_follows (expected : Word) (t : Nat) (s : State) {z : State}
    (h : execDoffStart expected t s = .next z) : Follows s z := by
  have hz := Follows.refl s
  unfold execDoffStart at h; cases h; repeat' with_reducible (first | assumption | apply doffStartOp_follows)

theorem execTestClassDone_follows (signature : Dword) (patterns : Word) (good : Bool) (twills : List (Fin 4096)) (t : Nat)
    (s : State) {z : State} (h : execTestClassDone signature patterns good twills t s = .next z) : Follows s z := by
  have hz := Follows.refl s
  unfold execTestClassDone at h; cases h; repeat' with_reducible (first | assumption | apply testClassDoneOp_follows | apply State.follow_follows)

theorem execWarpRomBoot_follows (digestOk : Bool) (t : Nat) (s : State) {z : State}
    (h : execWarpRomBoot digestOk t s = .next z) : Follows s z := by
  have hz := Follows.refl s
  unfold execWarpRomBoot at h; cases h; repeat' with_reducible (first | assumption | apply warpRomBootOp_follows)

theorem execSanityCheckDone_follows (engineOk nvssOk shadowOk : Bool) (failing : List (Fin 4096)) (t : Nat) (s : State) {z : State}
    (h : execSanityCheckDone engineOk nvssOk shadowOk failing t s = .next z) : Follows s z := by
  have hz := Follows.refl s
  unfold execSanityCheckDone at h; cases h; repeat' with_reducible (first | assumption | apply sanityDoneOp_follows)

theorem execDeviceUp_follows (flashImage : Bool) (t : Nat) (s : State) {z : State}
    (h : execDeviceUp flashImage t s = .next z) : Follows s z := by
  have hz := Follows.refl s
  unfold execDeviceUp at h; cases h; repeat' with_reducible (first | assumption | apply deviceUpOp_follows)

theorem execTestStart_follows (m : Master) (mask : BitVec 9) (s : State) {z : State}
    (h : execTestStart m mask s = .next z) : Follows s z := by
  have hz := Follows.refl s
  unfold execTestStart at h; cases h; repeat' with_reducible (first | assumption | apply busWrite_follows | apply access_follows)

theorem execDiagEn_follows (m : Master) (v : Word) (s : State) {z : State} (h : execDiagEn m v s = .next z) : Follows s z := by
  have hz := Follows.refl s
  unfold execDiagEn at h; cases h; repeat' with_reducible (first | assumption | apply busWrite_follows | apply access_follows)

theorem execPwrClr_follows (m : Master) (v : Word) (s : State) {z : State} (h : execPwrClr m v s = .next z) : Follows s z := by
  have hz := Follows.refl s
  unfold execPwrClr at h; cases h; repeat' with_reducible (first | assumption | apply busWrite_follows | apply access_follows)

end Sys2Proof.Machine
end

