-- ==== Sys2Proof/Laws/Maps.lean ====
section
/-!
SUPPORT. Read after write of every unit's record, that each write keeps the canonical form, and what an accepted write leaves.
-/

namespace Sys2Proof.Machine

theorem at_eq {s : State} {t : Nat} (h : s.now ≤ t) : s.at t = { s with now := t } := by simp [State.at, Nat.max_eq_right h]

/-! Records by one number. -/

theorem State.bolt_setBolt {s : State} (h : s.Canonical) (n k : Nat) (v) : (s.setBolt n v).bolt k = if k = n then v else s.bolt k :=
  SMap.get_set _ _ _ _ _ (SMap.wf_sorted h.bolts)
theorem State.Canonical.setBolt {s : State} (h : s.Canonical) (n : Nat) (v) : (s.setBolt n v).Canonical :=
  (State.setBolt_follows s n v (Follows.refl s)).memory h
theorem State.bridge_setBridge {s : State} (h : s.Canonical) (n k : Nat) (v) : (s.setBridge n v).bridge k = if k = n then v else s.bridge k :=
  SMap.get_set _ _ _ _ _ (SMap.wf_sorted h.bridges)
theorem State.Canonical.setBridge {s : State} (h : s.Canonical) (n : Nat) (v) : (s.setBridge n v).Canonical :=
  (State.setBridge_follows s n v (Follows.refl s)).memory h
theorem State.pace_setPace {s : State} (h : s.Canonical) (n k : Nat) (v) : (s.setPace n v).pace k = if k = n then v else s.pace k :=
  SMap.get_set _ _ _ _ _ (SMap.wf_sorted h.paces)
theorem State.Canonical.setPace {s : State} (h : s.Canonical) (n : Nat) (v) : (s.setPace n v).Canonical :=
  (State.setPace_follows s n v (Follows.refl s)).memory h
theorem State.creel_setCreel {s : State} (h : s.Canonical) (n k : Nat) (v) : (s.setCreel n v).creel k = if k = n then v else s.creel k :=
  SMap.get_set _ _ _ _ _ (SMap.wf_sorted h.creels)
theorem State.Canonical.setCreel {s : State} (h : s.Canonical) (n : Nat) (v) : (s.setCreel n v).Canonical :=
  (State.setCreel_follows s n v (Follows.refl s)).memory h
theorem State.twill_setTwill {s : State} (h : s.Canonical) (n k : Nat) (v) : (s.setTwill n v).twill k = if k = n then v else s.twill k :=
  SMap.get_set _ _ _ _ _ (SMap.wf_sorted h.twills)
theorem State.Canonical.setTwill {s : State} (h : s.Canonical) (n : Nat) (v) : (s.setTwill n v).Canonical :=
  (State.setTwill_follows s n v (Follows.refl s)).memory h
theorem State.chan_setChan {s : State} (h : s.Canonical) (n k : Nat) (v) : (s.setChan n v).chan k = if k = n then v else s.chan k :=
  SMap.get_set _ _ _ _ _ (SMap.wf_sorted h.chans)
theorem State.Canonical.setChan {s : State} (h : s.Canonical) (n : Nat) (v) : (s.setChan n v).Canonical :=
  (State.setChan_follows s n v (Follows.refl s)).memory h
theorem State.periph_setPeriph {s : State} (h : s.Canonical) (n k : Nat) (v) : (s.setPeriph n v).periph k = if k = n then v else s.periph k :=
  SMap.get_set _ _ _ _ _ (SMap.wf_sorted h.periphs)
theorem State.Canonical.setPeriph {s : State} (h : s.Canonical) (n : Nat) (v) : (s.setPeriph n v).Canonical :=
  (State.setPeriph_follows s n v (Follows.refl s)).memory h
theorem State.pin_setPin {s : State} (h : s.Canonical) (n k : Nat) (v) : (s.setPin n v).pin k = if k = n then v else s.pin k :=
  SMap.get_set _ _ _ _ _ (SMap.wf_sorted h.pins)
theorem State.Canonical.setPin {s : State} (h : s.Canonical) (n : Nat) (v) : (s.setPin n v).Canonical :=
  (State.setPin_follows s n v (Follows.refl s)).memory h
theorem State.pattern_setPattern {s : State} (h : s.Canonical) (n k : Nat) (v) : (s.setPattern n v).pattern k = if k = n then v else s.pattern k :=
  SMap.get_set _ _ _ _ _ (SMap.wf_sorted h.patterns)
theorem State.Canonical.setPattern {s : State} (h : s.Canonical) (n : Nat) (v) : (s.setPattern n v).Canonical :=
  (State.setPattern_follows s n v (Follows.refl s)).memory h
theorem State.fbp_setFbp {s : State} (h : s.Canonical) (n k : Nat) (v) : (s.setFbp n v).fbp k = if k = n then v else s.fbp k :=
  SMap.get_set _ _ _ _ _ (SMap.wf_sorted h.fbps)
theorem State.Canonical.setFbp {s : State} (h : s.Canonical) (n : Nat) (v) : (s.setFbp n v).Canonical :=
  (State.setFbp_follows s n v (Follows.refl s)).memory h
theorem State.quad_setQuad {s : State} (h : s.Canonical) (n k : Nat) (v) : (s.setQuad n v).quad k = if k = n then v else s.quad k :=
  SMap.get_set _ _ _ _ _ (SMap.wf_sorted h.quads)
theorem State.Canonical.setQuad {s : State} (h : s.Canonical) (n : Nat) (v) : (s.setQuad n v).Canonical :=
  (State.setQuad_follows s n v (Follows.refl s)).memory h
theorem State.holder_setHolder {s : State} (h : s.Canonical) (n k : Nat) (v) : (s.setHolder n v).holder k = if k = n then v else s.holder k :=
  SMap.get_set _ _ _ _ _ (SMap.wf_sorted h.semas)
theorem State.Canonical.setHolder {s : State} (h : s.Canonical) (n : Nat) (v) : (s.setHolder n v).Canonical :=
  (State.setHolder_follows s n v (Follows.refl s)).memory h

/-! Records by two. -/

theorem State.cell_setCell {s : State} (h : s.Canonical) (n w k j : Nat) (v) :
    (s.setCell n w v).cell k j = if 16 * k + j = 16 * n + w then v else s.cell k j :=
  SMap.get_set _ _ _ _ _ (SMap.wf_sorted h.cells)
theorem State.Canonical.setCell {s : State} (h : s.Canonical) (n w : Nat) (v) : (s.setCell n w v).Canonical :=
  (State.setCell_follows s n w v (Follows.refl s)).memory h
theorem State.arrWord_setArr {s : State} (h : s.Canonical) (n w k j : Nat) (v) :
    (s.setArr n w v).arrWord k j = if 1024 * k + j = 1024 * n + w then v else s.arrWord k j :=
  SMap.get_set _ _ _ _ _ (SMap.wf_sorted h.arrays)
theorem State.Canonical.setArr {s : State} (h : s.Canonical) (n w : Nat) (v) : (s.setArr n w v).Canonical :=
  (State.setArr_follows s n w v (Follows.refl s)).memory h
theorem State.lane_setLane {s : State} (h : s.Canonical) (n w k j : Nat) (v) :
    (s.setLane n w v).lane k j = if 4 * k + j = 4 * n + w then v else s.lane k j :=
  SMap.get_set _ _ _ _ _ (SMap.wf_sorted h.lanes)
theorem State.Canonical.setLane {s : State} (h : s.Canonical) (n w : Nat) (v) : (s.setLane n w v).Canonical :=
  (State.setLane_follows s n w v (Follows.refl s)).memory h
theorem State.sh_setSh {s : State} (h : s.Canonical) (n w k j : Nat) (v) :
    (s.setSh n w v).sh k j = if 2 * k + j = 2 * n + w then v else s.sh k j :=
  SMap.get_set _ _ _ _ _ (SMap.wf_sorted h.shuttles)
theorem State.Canonical.setSh {s : State} (h : s.Canonical) (n w : Nat) (v) : (s.setSh n w v).Canonical :=
  (State.setSh_follows s n w v (Follows.refl s)).memory h

/-! Registers. -/

theorem State.Canonical.count {s : State} (h : s.Canonical) (a hi lo n : Nat) : (s.count a hi lo n).Canonical :=
  (State.count_follows s a hi lo n (Follows.refl s)).memory h

theorem State.Canonical.recorded {s : State} (h : s.Canonical) {m off : Nat} {p : Page} {v : Word} (hk : p.kind = .serdes → off < 0x100) :
    (s.recorded m p off v).Canonical := by
  simp only [State.recorded, recorded_begun hk]
  exact (State.logWrite_follows _ m p off v (State.store_follows _ m p off v (Follows.refl _))).memory h.forget

/-- The debug port is all that hears the answer of an access. -/
theorem State.heard_frame (u : State) (m : Nat) : u.heard m = { u with jtag := (u.heard m).jtag } := by unfold State.heard; split <;> rfl
theorem State.heard_other (u : State) {m : Nat} (h : m ≠ 5) : u.heard m = u := if_neg h
theorem State.done_reg (u : State) (m : Nat) (p : Page) (off a : Nat) : (u.done m p off).reg a = u.reg a := by
  rw [State.done, State.heard_frame]; rfl
theorem State.done_code (u : State) (m : Nat) (p : Page) (off : Nat) : (u.done m p off).resp.code = 0 := by
  rw [State.done, heard_code]; rfl

theorem State.heard_jtag (u : State) (m : Nat) : u.heard m = { u with jtag := { u.jtag with out := (u.heard m).jtag.out } } := by
  unfold State.heard; split <;> rfl

/-- What an accepted write leaves alone, when its effect is one on registers alone. -/
theorem State.done_frame {s u : State} (m : Nat) (p : Page) (off : Nat) (h : u = { s with regs := u.regs, ev := u.ev, log := u.log, resp := {} }) :
    let t := u.done m p off
    t = { s with regs := t.regs, ev := t.ev, log := t.log, resp := t.resp, jtag := { s.jtag with out := t.jtag.out } } := by
  obtain ⟨r, e, l, hu⟩ : ∃ r e l, u = { s with regs := r, ev := e, log := l, resp := {} } := ⟨_, _, _, h⟩
  subst hu
  unfold State.done State.heard
  split <;> rfl

/-- Registers that a command clears. -/
theorem State.zero_regs (l : List Nat) : ∀ s : State, s.Canonical →
    let t := l.foldl (fun s a => s.setReg a 0) s
    t.Canonical ∧ (∀ a ∈ l, t.reg a = 0) ∧ (∀ a, a ∉ l → t.reg a = s.reg a) ∧ t = { s with regs := t.regs } := by
  induction l with
  | nil => intro s h; exact ⟨h, by simp, by simp, rfl⟩
  | cons b l ih =>
    intro s h
    obtain ⟨i1, i2, i3, i4⟩ := ih (s.setReg b 0) (h.setReg b 0)
    refine ⟨i1, ?_, ?_, ?_⟩
    · intro a ha
      by_cases hl : a ∈ l
      · exact i2 a hl
      · have : a = b := by simpa [hl] using ha
        subst this
        simp only [List.foldl_cons]; rw [i3 a hl, State.reg_setReg h, if_pos rfl]
    · intro a ha
      simp only [List.mem_cons, not_or] at ha
      simp only [List.foldl_cons]; rw [i3 a ha.2, State.reg_setReg h, if_neg ha.1]
    · simp only [List.foldl_cons]; rw [i4]; rfl

/-! Words of a creel. -/

/-- A word that has just been written decodes clean. -/
theorem decode_fresh (d : Dword) : (freshWord d).decode = .clean d := by
  have z : weight72 0 = 0 := by decide
  unfold ArrWord.decode freshWord; simp only [z]

end Sys2Proof.Machine
end

