-- ==== Sys2Proof/Laws/Cells.lean ====
section
/-!
SUPPORT. What the operations over cells leave: settled wires, loaded flip-flops, and the map over all cells that a checkpoint and a
rollback make.
-/

namespace Sys2Proof.Machine

/-! Settled wires. -/

/-- A relation that holds between every value and what replaces it holds between the maps, key by key. -/
theorem SMap.get_replace {α : Type} [DecidableEq α] {d : α} (R : α → α → Prop) (f : Nat → α → α) (hr : ∀ v, R v v) (hf : ∀ k v, R v (f k v))
    {m : SMap α} (hm : SMap.wf (fun _ => d) m = true) (k : Nat) :
    R (SMap.get d m k) (SMap.get d (m.foldl (fun n e => SMap.set d n e.1 (f e.1 e.2)) m) k) := by
  have key : ∀ (l : List (Nat × α)) (n : SMap α), (∀ e ∈ l, SMap.get d m e.1 = e.2) → SMap.wf (fun _ => d) n = true →
      (∀ k, R (SMap.get d m k) (SMap.get d n k)) →
      R (SMap.get d m k) (SMap.get d (l.foldl (fun n e => SMap.set d n e.1 (f e.1 e.2)) n) k) := by
    intro l
    induction l with
    | nil => intro n _ _ h; exact h k
    | cons e l ih =>
      intro n hl hn h
      refine ih _ (fun x hx => hl x (List.mem_cons_of_mem _ hx)) (SMap.wf_set hn) (fun j => ?_)
      rw [SMap.get_set _ _ _ _ _ (SMap.wf_sorted hn)]
      split
      · subst_vars; rw [hl e (by simp)]; exact hf _ _
      · exact h j
  exact key m m (SMap.get_of_mem _ _ (SMap.wf_sorted hm)) hm (fun _ => hr _)

theorem BlocksMoved.refl (s : State) : BlocksMoved s s := ⟨fun _ => rfl, fun _ => rfl, fun _ => rfl, fun _ => rfl⟩

theorem Bridge.Moved.trans {u v w : Bridge} (h : u.Moved v) (k : v.Moved w) : u.Moved w := by
  unfold Bridge.Moved at *; rw [k, h]
theorem Fbp.Moved.trans {u v w : Fbp} (h : u.Moved v) (k : v.Moved w) : u.Moved w := by
  unfold Fbp.Moved at *; rw [k, h]
theorem Creel.Moved.trans {u v w : Creel} (h : u.Moved v) (k : v.Moved w) : u.Moved w := by
  unfold Creel.Moved at *; rw [k, h]
theorem Twill.Moved.trans {u v w : Twill} (h : u.Moved v) (k : v.Moved w) : u.Moved w := by
  unfold Twill.Moved at *; rw [k, h]

theorem BlocksMoved.trans {s t u : State} (h : BlocksMoved s t) (k : BlocksMoved t u) : BlocksMoved s u :=
  ⟨fun n => (h.bridges n).trans (k.bridges n), fun n => (h.fbps n).trans (k.fbps n), fun n => (h.creels n).trans (k.creels n),
   fun n => (h.twills n).trans (k.twills n)⟩

theorem settleBlocks_moved {s : State} (h : s.Canonical) : BlocksMoved s s.settleBlocks :=
  ⟨SMap.get_replace Bridge.Moved s.bridgeNext (fun _ => rfl) (fun _ _ => rfl) h.bridges,
   SMap.get_replace Fbp.Moved s.fbpNext (fun _ => rfl) (fun _ _ => rfl) h.fbps,
   SMap.get_replace Creel.Moved s.creelNext (fun _ => rfl) (fun _ _ => rfl) h.creels,
   SMap.get_replace Twill.Moved s.twillNext (fun _ => rfl) (fun _ _ => rfl) h.twills⟩

theorem settleAll_moved (n : Nat) : ∀ {s : State}, s.Canonical → BlocksMoved s (State.settleAll n s) ∧
    State.settleAll n s = { s with bridges := (State.settleAll n s).bridges, fbps := (State.settleAll n s).fbps,
                                   creels := (State.settleAll n s).creels, twills := (State.settleAll n s).twills } := by
  induction n with
  | zero => intro s _; exact ⟨BlocksMoved.refl s, rfl⟩
  | succ n ih =>
    intro s h
    simp only [State.settleAll]
    split
    · exact ⟨settleBlocks_moved h, rfl⟩
    · have k := ih ((State.settleBlocks_follows s (Follows.refl s)).memory h)
      exact ⟨(settleBlocks_moved h).trans k.1, by rw [k.2]; rfl⟩

/-- Cells that are made ready for their next clock edge. -/
theorem fold_armed (l : List Nat) : ∀ {m : SMap Cell}, SMap.wf (fun _ => ({} : Cell)) m = true → ∀ k,
    SMap.get {} (l.foldl (fun m k => SMap.set {} m k { (SMap.get {} m k) with armed := true }) m) k =
      { SMap.get {} m k with armed := (SMap.get {} (l.foldl (fun m k => SMap.set {} m k { (SMap.get {} m k) with armed := true }) m) k).armed } := by
  induction l with
  | nil => intro m _ k; rfl
  | cons j l ih =>
    intro m h k
    simp only [List.foldl_cons]
    rw [ih (SMap.wf_set h) k, SMap.get_set _ _ _ _ _ (SMap.wf_sorted h)]
    split
    · subst_vars; rfl
    · rfl

/-- All that settling does. -/
theorem settle_moved {s : State} (h : s.Canonical) : CellsMoved s s.settle [] := by
  obtain ⟨k, e⟩ := settleAll_moved (4 * (s.bridges.length + s.fbps.length + s.creels.length + s.twills.length)) h
  have hf := State.settleAll_follows (4 * (s.bridges.length + s.fbps.length + s.creels.length + s.twills.length)) s (Follows.refl s)
  refine ⟨?_, fun n _ => ?_, ⟨k.bridges, k.fbps, k.creels, k.twills⟩⟩
  · unfold State.settle State.settleCells; dsimp only; rw [e]
  · unfold State.settle State.settleCells; dsimp only
    rw [fold_armed _ (hf.memory h).cells]
    rw [show (State.settleAll _ s).cells = s.cells from by rw [e]]

theorem settle_cell {s : State} (h : s.Canonical) (r c : Nat) : s.settle.cell r c = { s.cell r c with armed := (s.settle.cell r c).armed } :=
  (settle_moved h).cells _ (by simp)

theorem CellsMoved.trans {s t u : State} {ks js} (h : CellsMoved s t ks) (k : CellsMoved t u js) (hs : ∀ n ∈ js, n ∈ ks) :
    CellsMoved s u ks where
  rest := by rw [k.rest, h.rest]
  cells n hn := by rw [k.cells n (fun q => hn (hs n q)), h.cells n hn]
  blocks := h.blocks.trans k.blocks

theorem CellsMoved.settle {s t : State} {ks} (h : CellsMoved s t ks) (c : t.Canonical) : CellsMoved s t.settle ks :=
  h.trans (settle_moved c) (by simp)

theorem CellsMoved.refl (s : State) (ks) : CellsMoved s s ks := ⟨rfl, fun _ _ => rfl, BlocksMoved.refl s⟩

theorem CellsMoved.setCell {s t : State} {ks} (h : CellsMoved s t ks) {r c} (v) (hk : 16 * r + c ∈ ks) : CellsMoved s (t.setCell r c v) ks where
  rest := by rw [h.rest]; rfl
  cells k hn := by
    have e : SMap.get {} (t.setCell r c v).cells k = SMap.get {} t.cells k := SMap.get_set_other _ _ _ _ (by rintro rfl; exact hn hk)
    rw [e]; exact h.cells k hn
  blocks := h.blocks.trans ⟨fun _ => rfl, fun _ => rfl, fun _ => rfl, fun _ => rfl⟩

theorem CellsMoved.used {s t : State} {ks} (h : CellsMoved s t ks) (v) : CellsMoved s (t.used v) ks := by
  unfold State.used; split
  · exact ⟨by rw [h.rest], h.cells, h.blocks.trans ⟨fun _ => rfl, fun _ => rfl, fun _ => rfl, fun _ => rfl⟩⟩
  · exact h

theorem cell_setCell {s : State} (h : s.Canonical) (r c v r' c') : (s.setCell r c v).cell r' c' = if 16 * r' + c' = 16 * r + c then v else s.cell r' c' :=
  State.cell_setCell h r c r' c' v
@[simp] theorem cell_used (s : State) (b r c) : (s.used b).cell r c = s.cell r c := by unfold State.used; split <;> rfl

theorem can_set {s : State} (h : s.Canonical) (r c v) : (s.setCell r c v).Canonical :=
  (State.setCell_follows s r c v (Follows.refl s)).memory h
theorem can_used {s : State} (h : s.Canonical) (b) : (s.used b).Canonical :=
  (State.used_follows s b (Follows.refl s)).memory h

/-- One capture pulse of several cells of a reed. -/
theorem loadFF_fold {s0 : State} (viol : Bool) (r : Nat) : ∀ (l : List Nat) (s : State), s.Canonical → l.Nodup →
    let t := l.foldl (s0.loadFF viol r) s
    t.Canonical ∧ CellsMoved s t (l.map (fun d => 16 * r + d)) ∧
    ∀ d ∈ l, t.cell r d = { s.cell r d with ffA := s0.captured viol (2 * d) (s0.dA r d), ffB := s0.captured viol (2 * d + 1) (s0.dB r d),
                                            armed := (t.cell r d).armed } := by
  intro l
  induction l with
  | nil => intro s h _; exact ⟨h, CellsMoved.refl _ _, by simp⟩
  | cons d l ih =>
    intro s h hn
    simp only [List.foldl_cons]
    rw [List.nodup_cons] at hn
    have h1 : (s0.loadFF viol r s d).Canonical := can_set h _ _ _
    obtain ⟨a, b, e⟩ := ih _ h1 hn.2
    have one : CellsMoved s (s0.loadFF viol r s d) ((d :: l).map (fun d => 16 * r + d)) := (CellsMoved.refl s _).setCell _ (by simp)
    refine ⟨a, one.trans b (fun n hm => List.mem_cons_of_mem _ hm), ?_⟩
    intro d' hd'
    rcases List.mem_cons.mp hd' with rfl | hd'
    · have e2 : (List.foldl (s0.loadFF viol r) (s0.loadFF viol r s d') l).cell r d' =
          { (s0.loadFF viol r s d').cell r d' with armed := ((List.foldl (s0.loadFF viol r) (s0.loadFF viol r s d') l).cell r d').armed } :=
        b.cells (16 * r + d') (by simpa using hn.1)
      have e3 : (s0.loadFF viol r s d').cell r d' =
          { s.cell r d' with ffA := s0.captured viol (2 * d') (s0.dA r d'), ffB := s0.captured viol (2 * d' + 1) (s0.dB r d') } := by
        unfold State.loadFF; rw [cell_setCell h]; simp
      rw [e2, e3]
    · have e3 : (s0.loadFF viol r s d).cell r d' = s.cell r d' := by
        have : d' ≠ d := fun q => hn.1 (q ▸ hd')
        unfold State.loadFF; rw [cell_setCell h, if_neg (by omega)]
      rw [e d' hd', e3]

/-- A cell after wires have settled. -/
theorem settled {u : State} (hu : u.Canonical) {r k : Nat} {v : Cell} (h : u.cell r k = v) :
    u.settle.cell r k = { v with armed := (u.settle.cell r k).armed } := h ▸ settle_cell hu r k

theorem mapCells_get {s : State} (h : s.Canonical) (w : Nat → Bool) (f : Cell → Cell) (hf : f {} = {}) (k : Nat) :
    SMap.get {} (s.mapCells w f).cells k = if w (k / 16) then f (SMap.get {} s.cells k) else SMap.get {} s.cells k := by
  have key : ∀ (l : List (Nat × Cell)) (m : SMap Cell), SMap.wf (fun _ => ({} : Cell)) m = true → l.Pairwise (fun a b => a.1 < b.1) →
      (∀ e ∈ l, SMap.get {} s.cells e.1 = e.2) →
      SMap.get {} (l.foldl (fun m e => if w (e.1 / 16) then SMap.set {} m e.1 (f e.2) else m) m) k =
        if (∃ e ∈ l, e.1 = k) ∧ w (k / 16) = true then f (SMap.get {} s.cells k) else SMap.get {} m k := by
    intro l
    induction l with
    | nil => intro m _ _ _; simp
    | cons e l ih =>
      intro m hm hp hg
      rw [List.pairwise_cons] at hp
      simp only [List.foldl_cons]
      have hm' : SMap.wf (fun _ => ({} : Cell)) (if w (e.1 / 16) then SMap.set {} m e.1 (f e.2) else m) = true := by
        split
        · exact SMap.wf_set hm
        · exact hm
      rw [ih _ hm' hp.2 (fun e he => hg e (by simp [he]))]
      by_cases hk : e.1 = k
      · subst hk
        have : ¬ ∃ e' ∈ l, e'.1 = e.1 := by rintro ⟨e', h1, h2⟩; have := hp.1 e' h1; omega
        simp only [this, false_and, if_false]
        by_cases hw : w (e.1 / 16) = true
        · simp only [hw, if_true, and_true]
          rw [SMap.get_set_same _ _ _ _ (SMap.wf_sorted hm)]
          rw [hg e (by simp)]; simp
        · simp [hw]
      · have e1 : (∃ e' ∈ e :: l, e'.1 = k) ↔ ∃ e' ∈ l, e'.1 = k := by simp [hk]
        simp only [e1]
        split
        · rfl
        · split
          · exact SMap.get_set_other _ _ _ _ (fun h => hk h.symm)
          · rfl
  have hp : s.cells.Pairwise (fun a b => a.1 < b.1) := SMap.pairwise_of_sorted _ (SMap.wf_sorted h.cells)
  simp only [State.mapCells]
  rw [key s.cells s.cells h.cells hp (SMap.get_of_mem _ _ (SMap.wf_sorted h.cells))]
  by_cases hex : ∃ e ∈ s.cells, e.1 = k
  · simp only [hex, true_and]
  · have : SMap.get {} s.cells k = {} := SMap.get_of_not_mem _ _ _ (fun e he hk => hex ⟨e, he, hk⟩)
    simp only [hex, false_and, if_false, this, hf]; split <;> rfl

theorem cell_of_key (s : State) (r c : Nat) : s.cell r c = SMap.get {} s.cells (16 * r + c) := rfl


end Sys2Proof.Machine
end

