-- ==== Sys2Proof/Tests/Slice0.lean ====
section
/-!
SUPPORT. Tests: operands that the well-formedness check refuses, single steps with expected results from the manual, and for every
statement with hypotheses a state and operands that meet them.
-/

set_option Elab.async false

namespace Sys2Proof.Tests

open Sys2Proof Sys2Proof.Machine

/-! The conditions of the statements as they are evaluated. -/

def canonicalB (s : State) : Bool :=
  SMap.wf resetOf s.regs && (SMap.wf (fun _ => none) s.caps && (SMap.wf (fun _ => {}) s.bolts && (SMap.wf (fun _ => {}) s.cells &&
  (SMap.wf (fun _ => false) s.joins && (SMap.wf (fun _ => {}) s.cfgMem && (SMap.wf (fun _ => false) s.seamHeld &&
  (SMap.wf (fun _ => none) s.taps && (SMap.wf (fun _ => false) s.portIn && (SMap.wf (fun _ => {}) s.creels &&
  (SMap.wf (fun _ => {}) s.arrays && (SMap.wf (fun _ => {}) s.twills && (SMap.wf (fun _ => {}) s.bridges &&
  (SMap.wf (fun _ => {}) s.paces && (SMap.wf (fun _ => {}) s.fbps && (SMap.wf (fun _ => {}) s.pins &&
  (SMap.wf (fun _ => false) s.portSample && (SMap.wf (fun _ => false) s.bankOk && (SMap.wf (fun _ => {}) s.patterns &&
  (SMap.wf (fun _ => {}) s.periphs && (SMap.wf (fun _ => {}) s.shuttles && (SMap.wf (fun _ => none) s.semas &&
  (SMap.wf (fun _ => {}) s.quads && (SMap.wf (fun _ => {}) s.lanes && SMap.wf (fun _ => {}) s.chans)))))))))))))))))))))))

theorem canonical_of (s : State) (h : canonicalB s = true) : s.Canonical := by
  simp only [canonicalB, Bool.and_eq_true] at h
  obtain ⟨a, b, c, d, e, f, g, h, i, j, k, l, m, n, o, p, q, r, s, t, u, v, w, x, y⟩ := h
  exact ⟨a, b, c, d, e, f, g, h, i, j, k, l, m, n, o, p, q, r, s, t, u, v, w, x, y⟩

def acceptsB (s : State) (m : Nat) (p : Page) (off : Nat) (v : Word) : Bool :=
  !s.inReset && (!s.waits { master := m, addr := p.base + off, write := true, value := v } &&
    (decide ((s.begun p off).writeFails m p off 15 ((s.begun p off).view m p off) v = none) &&
    (decide ((s.begun p off).refusesAt m p off v = none) && !(s.begun p off).logFull m p off)))

theorem accepts_of (s : State) (m : Nat) (p : Page) (off : Nat) (v : Word) (h : acceptsB s m p off v = true) : s.Accepts m p off v := by
  simp only [acceptsB, Bool.and_eq_true, Bool.not_eq_true', decide_eq_true_eq] at h
  exact ⟨h.1, h.2.1, h.2.2.1, h.2.2.2.1, h.2.2.2.2⟩

def readsB (s : State) (m : Nat) (p : Page) (off : Nat) : Bool :=
  !s.inReset && (!s.waits { master := m, addr := p.base + off } &&
    (decide (s.forgetAnswer.readFails m p off = none) && decide (s.forgetAnswer.readRefuses m p off = none)))

theorem reads_of (s : State) (m : Nat) (p : Page) (off : Nat) (h : readsB s m p off = true) : s.AcceptsRead m p off := by
  simp only [readsB, Bool.and_eq_true, Bool.not_eq_true', decide_eq_true_eq] at h
  exact ⟨h.1, h.2.1, h.2.2.1, h.2.2.2⟩

def servesB (s : State) (op : Nat) (msg : SvcMsg) : Bool :=
  s.mayServe msg.channel && (s.isRequest op msg && (!s.shuttingDown && (decide ((s.taken op msg).requestBad op msg = none) &&
    !decide (msg.channel.val = 1 ∧ forwarded op = true))))

theorem serves_of (s : State) (op : Nat) (msg : SvcMsg) (h : servesB s op msg = true) : s.Serves op msg := by
  simp only [servesB, Bool.and_eq_true, Bool.not_eq_true', decide_eq_true_eq, decide_eq_false_iff_not] at h
  exact ⟨h.1, h.2.1, h.2.2.1, h.2.2.2.1, h.2.2.2.2⟩

/-! States and operands that meet the hypotheses of the statements, one theorem for each statement that has any. -/

theorem canonicals_of (l : List State) (h : l.all canonicalB = true) : ∀ s ∈ l, s.Canonical :=
  fun s hs => canonical_of s (List.all_eq_true.mp h s hs)

theorem witness_StepRunsTheCommandInFront : State.reset.pending = [] := by decide +kernel

theorem witness_InvariantKeptByEveryStep :
    let s : State := { State.reset with pending := [.jtagBypass, .speedChange 3] }
    s.Inv ∧ ∃ t, step s = .next t :=
  ⟨⟨canonical_of _ (by decide +kernel), by decide +kernel⟩, _, rfl⟩

theorem witness_WellFormedQueueNeverStops :
    ({ State.reset with pending := [.jtagBypass, .speedChange 3] } : State).queueWellFormed = true ∧ (Instr.speedChange 0).wellFormed = false := by
  decide +kernel

theorem witness_DeviceTimeNeverGoesBack : ∃ t, exec (.gridPoint 1) State.reset = .next t := ⟨_, rfl⟩

/-- One reed of configuration memory, 0.0.0, with a bundled-data cell 0: request 0 takes the source `req`, the acknowledge input the source
`ack`. Bolt 0 is open. -/
def bd (two req ack : Nat) (v : Cell) : State :=
  { State.reset with bolts := [(0, { stage := .open })],
                     cfgMem := [(16, { data := BitVec.ofNat 64 (2 ^ 37 + 2 ^ 28 + two * (2 ^ 36 + 0xC0)) }),
                                (26, { data := BitVec.ofNat 64 (req * 2 ^ 48 + 1) }), (27, { data := BitVec.ofNat 64 (ack * 2 ^ 16 + 1) })],
                     cells := SMap.set {} [] 0 v }

/-- The same with a dual-rail pair in cells 0 and 1, whose input pair 0 has its true rail on the source `inp`. -/
def dr (inp ack : Nat) (v w : Cell) : State :=
  { State.reset with bolts := [(0, { stage := .open })],
                     cfgMem := [(0, { data := BitVec.allOnes 64 }),
                                (16, { data := BitVec.ofNat 64 ((3 * 2 ^ 37 + 2 ^ 28 + 1) + (3 * 2 ^ 37 + 1) % 2 ^ 24 * 2 ^ 40) }),
                                (17, { data := BitVec.ofNat 64 ((3 * 2 ^ 37 + 1) / 2 ^ 24) }),
                                (26, { data := BitVec.ofNat 64 (inp + 2 ^ 63) }), (27, { data := BitVec.ofNat 64 (ack * 2 ^ 16 + 1) })],
                     cells := SMap.set {} (SMap.set {} [] 0 v) 1 w }

theorem witness_AsynchronousCellsComplete :
    let a := bd 0 1 0 {}
    let b := bd 0 1 0 { joined := true }
    let c := bd 1 1 0 { joined := true, expired := true }
    let d := bd 0 1 0 { joined := true, expired := true }
    let e := bd 0 0 0 { ack := true }
    let f := bd 0 1 1 { oreq := true }
    let g := bd 0 1 0 { busy := true }
    let h := bd 1 1 0 { slot := true }
    let i := dr 1 0 {} {}
    let j := dr 1 0 { ffA := true } {}
    let k := dr 0 1 { ack := true, oreq := true } {}
    let l := dr 0 0 { ack := true } {}
    let m := dr 0 0 { busy := true } {}
    (∀ s ∈ [a, b, c, d, e, f, g, h, i, j, k, l, m], s.Canonical) ∧ (∀ s ∈ [a, b, c, d, e, f, g, h], s.ready 0 0 1 = true) ∧
    (∀ s ∈ [i, j, k, l, m], s.drReadyPair 0 0 = true) ∧
    ((a.cell 0 0).joined = false ∧ (a.cell 0 0).ack = false ∧ a.enabledReqs 0 0 true = true) ∧
    ((b.cell 0 0).joined = true ∧ (b.cell 0 0).expired = false ∧ (b.cell 0 0).ack = false) ∧
    (ctlTwoSlot (c.liveCtl 0 0) = true ∧ (c.cell 0 0).expired = true ∧ (c.cell 0 0).ack = false ∧ (c.cell 0 0).slot = false) ∧
    (ctlTwoSlot (d.liveCtl 0 0) = false ∧ (d.cell 0 0).expired = true ∧ (d.cell 0 0).ack = false ∧ d.channelEmpty 0 0 = true) ∧
    ((e.cell 0 0).ack = true ∧ e.enabledReqs 0 0 false = true) ∧ ((f.cell 0 0).oreq = true ∧ f.ackIn 0 0 = true) ∧
    ((g.cell 0 0).oreq = false ∧ (g.cell 0 0).busy = true ∧ g.ackIn 0 0 = false) ∧
    (ctlTwoSlot (h.liveCtl 0 0) = true ∧ (h.cell 0 0).slot = true ∧ h.channelEmpty 0 0 = true) ∧
    ((i.cell 0 0).busy = false ∧ (i.cell 0 0).ffA = false ∧ (i.cell 0 1).ffA = false ∧ i.ackIn 0 0 = false ∧ (i.drRails 0 0).1 ≠ (i.drRails 0 0).2) ∧
    ((j.cell 0 0).ack = false ∧ ((j.cell 0 0).ffA || (j.cell 0 1).ffA) = true ∧ j.drInputs 0 0 validCode false = true) ∧
    ((k.cell 0 0).ack = true ∧ (k.cell 0 0).oreq = true ∧ k.drInputs 0 0 spacerCode true = true ∧ k.ackIn 0 0 = true) ∧
    ((l.cell 0 0).ack = true ∧ (l.cell 0 0).ffA = false ∧ (l.cell 0 1).ffA = false ∧ l.drPairs 0 0 spacerCode = true) ∧
    ((m.cell 0 0).busy = true ∧ (m.cell 0 0).oreq = false ∧ (m.cell 0 0).ack = false ∧ m.ackIn 0 0 = false) :=
  ⟨canonicals_of _ (by decide +kernel), by decide +kernel⟩

theorem witness_DualRailPairNeverCapturesBothRails :
    let s := dr 1 0 {} {}
    let t : State := { s with cfgMem := s.cfgMem.drop 1 }
    s.Canonical ∧ ((s.cell 0 0).ffA && (s.cell 0 1).ffA) = false ∧ (∃ t, exec (.drRailSet ⟨⟨0, 0, 0⟩, 0⟩ false) s = .next t) ∧
      (t.drRails 0 0).1 = (t.drRails 0 0).2 :=
  ⟨canonical_of _ (by decide +kernel), by decide +kernel, ⟨_, rfl⟩, by decide +kernel⟩

/-- A clocked cell 0 in reed 0.0.0, on the source WIRE, whose clock is the reed's idle output and whose enable takes the source `en`; bolt 0 is as given. -/
def ck (en : Nat) (v : Bolt) : State :=
  { State.reset with now := 50, regs := SMap.set 0 State.reset.regs 0x5040 1, bolts := [(0, v)], cells := [(0, { armed := true })],
                     cfgMem := [(16, { data := BitVec.ofNat 64 (5 * 2 ^ 37 + 2 ^ 28 + 2 ^ 19) }), (26, { data := BitVec.ofNat 64 (en * 2 ^ 48 + 1) }),
                                (27, { data := BitVec.ofNat 64 (6 * 2 ^ 24) })] }

theorem witness_ClockedCellLoadsOnActiveEdge :
    let s := ck 1 { stage := .open }
    let t := ck 0 { stage := .open }
    let u := ck 1 { stage := .beatUp, t0 := some 0 }
    (∀ x ∈ [s, t, u], x.Canonical) ∧
    (∀ x ∈ [s, t, u], ctlMode (x.liveCtl 0 0) = 5 ∧ x.fenced (reedTile 0) = false ∧ (x.bolt (x.boltOf 0)).stage ≠ .notReleased ∧
      (x.bolt (x.boltOf 0)).stage ≠ .halt ∧ (x.bolt (x.boltOf 0)).stage ≠ .rollback ∧ (x.bolt (x.boltOf 0)).stage ≠ .recovery ∧
      x.clockRuns 0 0 false = true ∧ ctlReqEn (x.liveCtl 0 0) 0 = true) ∧
    s.reqK 0 0 0 = true ∧ t.reqK 0 0 0 = false ∧ (true && s.atShadowLoad (s.boltOf 0)) = false ∧
      (true && u.atShadowLoad (u.boltOf 0)) = true :=
  ⟨canonicals_of _ (by decide +kernel), by decide +kernel⟩

/-- Reed 0.16.0 is in bolt 1 and takes its first tap, which reed 0.15.0 of bolt 0 drives. -/
def lk : State :=
  { State.reset with regs := SMap.set 0 State.reset.regs 0x5200 0x10, bolts := [(0, { stage := .open }), (1, { stage := .open })],
                     cfgMem := [(64 * reedFrame (reedNo 0 16 0) + 26, { data := 40 })] }

theorem witness_UpsetsAndLeaksComplete :
    State.reset.Canonical ∧ frameExists 0 = true ∧ lk.Canonical ∧ lk.leakBolts (reedIx ⟨0, 16, 0⟩) (some 0) = [1] ∧
      (lk.bolt 1).leakPick = false ∧ (({ lk with bolts := [(1, { stage := .open, leakPick := true })] } : State).bolt 1).leakPick = true ∧
      ({ lk with bolts := [(1, { stage := .open, leakPick := true })] } : State).Canonical :=
  ⟨canonical_of _ (by decide +kernel), by decide +kernel, canonical_of _ (by decide +kernel), by decide +kernel, by decide +kernel, by decide +kernel,
    canonical_of _ (by decide +kernel)⟩
/-- Bolt 15 is COMMITTED and as given, and the grid runs. -/
def pk (v : Bolt) : State :=
  { State.reset with regs := SMap.set 0 State.reset.regs 0x5040 0x8000, bolts := SMap.set {} [] 15 v, pick := { released := true } }

theorem witness_ClosingAndGridPointsComplete :
    let s := pk { stage := .open }
    let t : State := { pk { stage := .overrun } with pick := { released := true, gateShut := true } }
    let u : State := { s with pwr := { s.pwr with closing := some 1, closeG := 21200, closePoint := some 21200 } }
    let v := pk { stage := .closing, grid := 20000 }
    (∀ x ∈ [s, t, v], x.Canonical) ∧
    (s.gridRuns = true ∧ s.cycling 15 = true ∧ (s.bolt 15).stage = .open ∧ (s.bolt 15).hold = false ∧ s.now ≤ 19000 ∧
      s.nextPoint 19000 ≤ 19000 + s.actGuard ∧ s.takesPart 15 (s.nextPoint 19000) = true ∧ s.pointOccurs (s.nextPoint 19000) = true) ∧
    (t.pick.gateShut = true ∧ t.now ≤ 0 ∧ (∀ b ∈ allBolts, t.committed b = true → (t.bolt b).gateHeld = false)) ∧
    (s.gridRuns = true ∧ s.gridFrom 20000 = 20000 ∧ s.actOrigin ≤ 20000 ∧ s.pick.last ≠ some 20000 ∧ s.pointOccurs 20000 = true) ∧
    (u.gridRuns = true ∧ u.now ≤ 21200 ∧ u.pwr.closePoint = some 21200) ∧
    (v.cycling 15 = true ∧ (v.bolt 15).hold = false ∧ (v.bolt 15).dfrozen = false ∧ (v.bolt 15).stage = .closing ∧ (v.bolt 15).grid = 20000) ∧
    ((s.bolt 15).dfrozen = false ∧ s.takesPart 15 20000 = true) ∧
    (t.cycling 15 = true ∧ (t.bolt 15).hold = false ∧ (t.bolt 15).dfrozen = false ∧ (t.bolt 15).stage = .overrun) :=
  ⟨canonicals_of _ (by decide +kernel), by decide +kernel⟩

/-- Bolt 15 drains as the producer of a queue of which one copy of a pointer has changed. -/
def pkQueue : State :=
  let s := pk { stage := .drain, grid := 20000, t0 := some 22000 }
  { s with regs := SMap.set 0 (SMap.set 0 s.regs (rCreelCfg 8191) (4 * 2 ^ 29)) (rQCfg 8191) (2 ^ 29 + 15 * 2 ^ 24),
           creels := [(8191, { queue := { live := { wp := 1 } } })] }

theorem witness_BeatUpsComplete :
    let s := pk { stage := .drain, grid := 20000 }
    let h := pk { stage := .drain, grid := 20000, hold := true }
    let d : State := { pk { stage := .direct } with pwr := { closing := some 0, closeHit := true, closeG := 20000 } }
    let c := pk { stage := .drain, grid := 20000, t0 := some 22000 }
    let e := pk { stage := .direct, t0 := some 22000 }
    let b := pk { stage := .beatUp, grid := 20000, t0 := some 20000 }
    let bc : State := { b with pwr := { closing := some 1, closeHit := true, closeG := 20000 } }
    let bh := pk { stage := .beatUp, grid := 20000, t0 := some 20000, hold := true, holdAt := 20000 }
    let bl := pk { stage := .beatUp, grid := 20000, t0 := some 20000, hold := true, holdAt := 20001 }
    let be : State := { bh with pwr := { closing := some 1, closeHit := true, closeG := 20000 } }
    ((s.bolt 15).t0 = none ∧ s.now ≤ 22000 ∧ s.boltIdle 15 = true ∧ s.cycling 15 = true ∧ (s.bolt 15).stage = .drain ∧
      (s.bolt 15).grid ≤ 22000 ∧ 22000 ≤ (s.bolt 15).grid + s.actDrainMax) ∧
    ((h.bolt 15).t0 = none ∧ h.boltIdle 15 = true ∧ h.cycling 15 = true ∧ (h.bolt 15).stage = .drain ∧ (h.bolt 15).hold = true) ∧
    ((d.bolt 15).t0 = none ∧ d.boltIdle 15 = true ∧ (d.bolt 15).stage = .direct ∧ (d.bolt 15).dfrozen = false ∧ d.pwr.closing = some 0 ∧ d.pwr.closeHit = true ∧
      d.pwr.closeG ≤ 20000 ∧ 20000 ≤ d.pwr.closeG + d.actDrainMax) ∧
    ((c.bolt 15).t0 = some 22000 ∧ c.now ≤ 22050 ∧ (c.bolt 15).pend = none ∧ (c.bolt 15).stage = .drain ∧
      ({ c with now := 22050 } : State).boltIdle 15 = true ∧ ({ c with now := 22050 } : State).endFails 15 = false) ∧
    ((pkQueue.bolt 15).t0 = some 22000 ∧ pkQueue.now ≤ 22050 ∧ (pkQueue.bolt 15).pend = none ∧ (pkQueue.bolt 15).stage = .drain ∧
      ({ pkQueue with now := 22050 } : State).boltIdle 15 = true ∧ ({ pkQueue with now := 22050 } : State).endFails 15 = true) ∧
    ((e.bolt 15).t0 = some 22000 ∧ e.now ≤ 22050 ∧ (e.bolt 15).pend = none ∧ (e.bolt 15).stage = .direct ∧
      ({ e with now := 22050 } : State).boltIdle 15 = true) ∧
    ((b.bolt 15).stage = .beatUp ∧ b.now ≤ 20050 ∧ (b.bolt 15).t0.getD 0 + 50 ≤ 20050 ∧ (b.bolt 15).hold = false ∧ b.pwr.closing = none) ∧
    ((bc.bolt 15).stage = .beatUp ∧ bc.pwr.closing ≠ none ∧ (bc.bolt 15).hold = false ∧ bc.pwr.closeHit = true ∧
      bc.pwr.closeG ≤ (bc.bolt 15).grid) ∧
    ((be.bolt 15).stage = .beatUp ∧ be.pwr.closing ≠ none ∧ (be.bolt 15).hold = true ∧ (be.bolt 15).holdAt ≤ (be.bolt 15).t0.getD 0) ∧
    ((bh.bolt 15).stage = .beatUp ∧ (bh.bolt 15).hold = true ∧ (bh.bolt 15).holdAt ≤ (bh.bolt 15).t0.getD 0 ∧ bh.pwr.closing = none) ∧
    ((bl.bolt 15).stage = .beatUp ∧ (bl.bolt 15).hold = true ∧ (bl.bolt 15).t0.getD 0 < (bl.bolt 15).holdAt) := by
  decide +kernel

/-- As `pk`, with a clocked cell on WIRE in reed 0.0.0, which is in bolt 15. -/
def pkClk (v : Bolt) : State :=
  { pk v with regs := SMap.set 0 (SMap.set 0 State.reset.regs 0x5040 0x8000) 0x5200 0xF,
              cfgMem := [(16, { data := BitVec.ofNat 64 (5 * 2 ^ 37 + 2 ^ 19) }), (27, { data := BitVec.ofNat 64 (6 * 2 ^ 24) })] }

theorem witness_OverrunsAndFaultSourcesComplete :
    let s := pk { stage := .drain, grid := 20000 }
    let r : State := { s with regs := SMap.set 0 s.regs (rBoltStat 15) 3 }
    let c := pkClk { stage := .drain, grid := 20000 }
    let p := pk { stage := .beatUp, panels := 8 }
    (s.cycling 15 = true ∧ (s.bolt 15).stage = .drain ∧ (s.bolt 15).t0 = none ∧ (s.bolt 15).hold = false ∧ (s.bolt 15).unbounded = false ∧
      s.now ≤ 22000 ∧ (s.bolt 15).grid + s.actDrainMax ≤ 22000 ∧ s.fld (rBoltStat 15) 3 0 + 1 < s.actLimit) ∧
    (r.cycling 15 = true ∧ (r.bolt 15).stage = .drain ∧ (r.bolt 15).t0 = none ∧ (r.bolt 15).hold = false ∧ (r.bolt 15).unbounded = false ∧
      r.now ≤ 22000 ∧ (r.bolt 15).grid + r.actDrainMax ≤ 22000 ∧ r.actLimit ≤ r.fld (rBoltStat 15) 3 0 + 1) ∧
    (c.boltOf 0 = 15 ∧ c.committed 15 = true ∧ (c.bolt 15).armed = true ∧ c.watchesClock 0 = true ∧ (c.bolt 15).stage ≠ .rollback ∧
      (c.bolt 15).stage ≠ .halt) ∧
    (s.pwr.removed = false ∧ allBolts.filter (fun b => s.committed b && (s.bolt b).inWindow && (s.bolt b).panels.testBit 3) = []) ∧
    (p.pwr.removed = false ∧ allBolts.filter (fun b => p.committed b && (p.bolt b).inWindow && (p.bolt b).panels.testBit 3) ≠ []) ∧
    s.Canonical ∧ (s.committed 15 = true ∧ (s.bolt 15).stage ≠ .halt ∧ (s.bolt 15).stage ≠ .notReleased ∧ (s.bolt 15).pend = none) ∧
    (∀ x ∈ [pk { stage := .drain, pend := some (1, 5, 0) }, pk { stage := .drain, pend := some (6, 3, 0) }], x.Canonical ∧
      x.committed 15 = true ∧ (x.bolt 15).stage ≠ .halt ∧ (x.bolt 15).stage ≠ .notReleased) :=
  ⟨by decide +kernel, by decide +kernel, by decide +kernel, by decide +kernel, by decide +kernel, canonical_of _ (by decide +kernel),
    by decide +kernel, fun x h => ⟨canonicals_of _ (by decide +kernel) x h, by revert x; decide +kernel⟩⟩

theorem witness_PickSettingsComplete :
    let s := pk { stage := .open, grid := 20000 }
    let a : State := { s with pick := { released := true, pending := some s.staged_, g := 20000, last := some 20000 } }
    (a.pick.pending = some a.staged_ ∧ a.pick.released = true ∧ a.pick.last = some 20000 ∧ a.pick.g ≤ 20000 ∧ a.now ≤ 20050 ∧
      (∀ b ∈ allBolts, a.committed b = true → (a.bolt b).grid = a.pick.g →
        (a.bolt b).gateHeld = false ∧ (a.bolt b).stage ≠ .rollback ∧ (a.bolt b).stage ≠ .recovery)) ∧
    s.Canonical ∧ s.Accepts 0 ⟨.pick, 0⟩ 0x05C 1 ∧ s.Accepts 0 ⟨.pick, 0⟩ 0x05C 2 ∧ s.pick.released = true ∧ State.reset.Canonical ∧
    State.reset.Accepts 0 ⟨.pick, 0⟩ 0x05C 1 ∧ State.reset.pick.released = false :=
  ⟨by decide +kernel, canonical_of _ (by decide +kernel), accepts_of _ _ _ _ _ (by decide +kernel), accepts_of _ _ _ _ _ (by decide +kernel),
    by decide +kernel, canonical_of _ (by decide +kernel), accepts_of _ _ _ _ _ (by decide +kernel), by decide +kernel⟩

theorem witness_WritesLeaveTheirRecord :
    State.reset.Canonical ∧ logged ⟨.pick, 0⟩ 0x040 = true ∧ perIdentity ⟨.pick, 0⟩ 0x040 = false ∧ State.reset.log.entries.length < logSize ∧
    logged ⟨.event, 0⟩ 0x050 = false ∧ perIdentity ⟨.event, 0⟩ 0x050 = false ∧ ((PageKind.pick = .serdes) → 0x040 < 0x100) ∧
    State.reset.waits { master := 0, addr := regAddr .pick 0 0x040, write := true, value := 20000, be := 7 } = false ∧ enginePage 0 = none ∧
    State.reset.waits { master := 0, addr := 0x3FFFFFC } = false ∧
    (State.reset.inReset = false ∧ Master.warp.isHost = false ∧
      (State.reset.begun ⟨.pick, 0⟩ 0x040).writeFails 0 ⟨.pick, 0⟩ 0x040 7 ((State.reset.begun ⟨.pick, 0⟩ 0x040).view 0 ⟨.pick, 0⟩ 0x040) 20000 =
        some codeBadSize) ∧
    (inFabricWindow 0x3FFFFFC = false ∧ pageOf 0x3FFFFFC = none) :=
  ⟨canonical_of _ (by decide +kernel), by decide +kernel⟩

theorem witness_AcceptedWriteHasItsEffect :
    State.reset.Accepts 0 ⟨.pick, 0⟩ 0x040 30000 ∧ isStart ⟨.pick, 0⟩ 0x040 30000 = false ∧
      ((State.reset.begun ⟨.pick, 0⟩ 0x040).effectOf 0 ⟨.pick, 0⟩ 0x040 ((State.reset.begun ⟨.pick, 0⟩ 0x040).view 0 ⟨.pick, 0⟩ 0x040)
        30000).waits = false :=
  ⟨accepts_of _ _ _ _ _ (by decide +kernel), by decide +kernel⟩

theorem witness_BoltsComplete :
    let f := pk { stage := .beatUp, pend := some (6, 3, 20010) }
    let g := pk { stage := .rollback, pend := some (6, 3, 20010) }
    let w := pk { stage := .rollback, shadowBad := true }
    let x : State := { pk { stage := .rollback } with regs := SMap.set 0 (pk {}).regs (rRollbacks 15) 3 }
    let y := pk { stage := .rollback, forceHalt := true }
    let z := pk { stage := .rollback }
    let h := pk { stage := .closed, hold := true }
    let i := pk { stage := .closed, hold := true, final := true }
    let o := pk { stage := .open }
    let k : State := { pk { stage := .halt } with regs := SMap.set 0 (pk {}).regs (rCause 15) 0x14000000 }
    ((f.bolt 15).pend = some (6, 3, 20010) ∧ f.committed 15 = true ∧ (f.bolt 15).stage ≠ .halt ∧ (f.bolt 15).stage ≠ .notReleased ∧
      (f.bolt 15).stage ≠ .rollback ∧ f.now ≤ 20030 ∧ f.atShadowLoad 15 = false) ∧
    ((g.bolt 15).pend = some (6, 3, 20010) ∧ g.committed 15 = true ∧ (g.bolt 15).stage = .rollback ∧ g.atShadowLoad 15 = false) ∧
    ((w.bolt 15).stage = .rollback ∧ (w.bolt 15).recov = false ∧ (w.bolt 15).shadowBad = true) ∧
    ((x.bolt 15).stage = .rollback ∧ (x.bolt 15).recov = false ∧ (x.bolt 15).shadowBad = false ∧ (x.bolt 15).resuming = false ∧
      3 ≤ x.fld (rRollbacks 15) 1 0) ∧
    ((y.bolt 15).stage = .rollback ∧ (y.bolt 15).shadowBad = false ∧ y.fld (rRollbacks 15) 1 0 < 3 ∧ (y.bolt 15).forceHalt = true) ∧
    ((z.bolt 15).stage = .rollback ∧ (z.bolt 15).shadowBad = false ∧ z.fld (rRollbacks 15) 1 0 < 3 ∧ (z.bolt 15).forceHalt = false) ∧
    ((h.bolt 15).hold = true ∧ h.inWarning 15 = false ∧ (h.bolt 15).stage = .closed ∧ (h.bolt 15).final = false) ∧
    ((i.bolt 15).hold = true ∧ i.inWarning 15 = false ∧ ¬ ((i.bolt 15).stage = .closed ∧ (i.bolt 15).final = false)) ∧
    (∀ s ∈ [o, k, z], s.Canonical) ∧ o.Accepts 0 ⟨.commit, 0⟩ 0x04C (boltCommand 1 15) ∧ (o.bolt 15).pend = none ∧
    o.Accepts 0 ⟨.commit, 0⟩ 0x04C (boltCommand 2 15) ∧ z.Accepts 0 ⟨.commit, 0⟩ 0x04C (boltCommand 2 15) ∧
    k.Accepts 0 ⟨.commit, 0⟩ 0x04C (boltCommand 3 15) ∧ o.Accepts 0 ⟨.commit, 0⟩ 0x04C (boltCommand 4 15) :=
  ⟨by decide +kernel, by decide +kernel, by decide +kernel, by decide +kernel, by decide +kernel, by decide +kernel, by decide +kernel,
    by decide +kernel, canonicals_of _ (by decide +kernel), accepts_of _ _ _ _ _ (by decide +kernel), by decide +kernel,
    accepts_of _ _ _ _ _ (by decide +kernel), accepts_of _ _ _ _ _ (by decide +kernel), accepts_of _ _ _ _ _ (by decide +kernel),
    accepts_of _ _ _ _ _ (by decide +kernel)⟩

theorem witness_CheckpointRestoresTheCell :
    let s := bd 0 1 0 { ffA := true, oreq := true }
    s.Canonical ∧ s.boltOf 0 = 0 ∧ s.boltOf 0 ≠ 15 :=
  ⟨canonical_of _ (by decide +kernel), by decide +kernel⟩

/-- Registers of the device set to given words. -/
def rg (l : List (Nat × Nat)) (s : State) : State := l.foldl (fun s e => s.setReg e.1 (BitVec.ofNat 32 e.2)) s

/-- Byte `byte` of frame `frame` selects REQ_OUT of cell 0 of reed `r`, which is up. -/
def wired (frame byte r : Nat) (s : State) : State :=
  let a := 64 * frame + byte / 8
  { s with
    cfgMem := SMap.set {} (SMap.set {} s.cfgMem a { data := (SMap.get {} s.cfgMem a).data ||| BitVec.ofNat 64 (3 * 2 ^ (8 * (byte % 8))) })
      (64 * reedFrame r + 16) { data := BitVec.ofNat 64 (2 ^ 37 + 2 ^ 28) },
    cells := SMap.set {} s.cells (16 * r) { oreq := true } }

/-- Slot `w` of port A of creel 8191 is up, and of twill block 4095. -/
def up8191 (w : Nat) (s : State) : State := wired (creelFrame 8191) (0x010 + w) (s.creelBaseReed 8191 .a + 256 * (w % 8)) s
def up4095 (w : Nat) (s : State) : State := wired (twillFrame 4095) (0x010 + w) (s.twillBaseReed 4095 + 256 * (w % 8)) s

/-- Creel 8191 in a mode, with both ports on and of a shape, in bolt 0, which is open and, if `com` is 1, COMMITTED. -/
def cr (mode shape com : Nat) (v : Creel) : State :=
  rg [(0x5040, com), (rCreelCfg 8191, mode * 2 ^ 29 + shape * 2 ^ 27 + shape * 2 ^ 25 + 2 ^ 24 + 2 ^ 23)]
    { State.reset with bolts := [(0, { stage := .open })], creels := SMap.set {} [] 8191 v }

/-- The same with a word 0 of the array whose flipped bits are given. -/
def crWord (mode shape : Nat) (flip : BitVec 72) (v : Creel) : State := { cr mode shape 0 v with arrays := [(8191 * 1024, { data := 5, flip := flip })] }

def rd0 : CReq := ⟨0, false, 0, false, false⟩
def wr0 : CReq := ⟨0, true, 7, false, false⟩
def asked (q : CReq) : Creel := { portA := { rq := true, ack := true, req := some q }, order := [.a] }
def fullLog : List UndoEntry := List.replicate 512 ⟨0, {}, 0⟩

theorem witness_CreelPortsComplete :
    let a := up8191 0 (cr 4 0 0 {})
    let b := up8191 0 (cr 1 0 0 {})
    let c := up8191 2 (up8191 0 (cr 2 0 1 { undo := fullLog }))
    let o := up8191 13 (up8191 12 (up8191 0 (rg [(rCreelCfg 8191, 2 ^ 29 + 2 * 2 ^ 17 + 2 ^ 24 + 2 ^ 23)] (cr 1 0 0 {}))))
    let d := cr 1 0 0 { portA := { rq := true, ack := true } }
    let e := up8191 1 (cr 1 0 0 { portA := { resp := some ⟨0, false, false, false⟩ } })
    (∀ s ∈ [a, b, c, o, d, e], s.Canonical) ∧ (∀ s ∈ [a, b, c, o, d, e], s.portLive 8191 .a = true) ∧
    (∀ s ∈ [a, b, c, o], s.creelLevel 8191 .a 0 = true ∧ ((s.creel 8191).port .a).rq = false ∧ ((s.creel 8191).port .a).req = none ∧
      ((s.creel 8191).port .a).resp = none ∧ ((s.creel 8191).port .a).rsLow = false) ∧ a.creelMode 8191 = modeQueue ∧
    (b.creelMode 8191 ≠ modeQueue ∧ (b.creelToken 8191 .a).adr < b.portRange 8191 .a ∧ (b.creelToken 8191 .a).we = false) ∧
    (c.creelMode 8191 ≠ modeQueue ∧ (c.creelToken 8191 .a).adr < c.portRange 8191 .a ∧
      ((c.creelToken 8191 .a).we && c.undoFull 8191 (c.portTarget 8191 .a (c.creelToken 8191 .a).adr).1) = true) ∧
    (o.creelMode 8191 ≠ modeQueue ∧ o.portRange 8191 .a ≤ (o.creelToken 8191 .a).adr) ∧
    (d.creelLevel 8191 .a 0 = false ∧ ((d.creel 8191).port .a).rq = true ∧ ((d.creel 8191).port .a).ack = true) ∧
    (e.creelLevel 8191 .a 1 = true ∧ ((e.creel 8191).port .a).resp ≠ none ∧ ((e.creel 8191).port .a).rsLow = false) ∧
    (let v := asked wr0
     let w := asked rd0
     let bad : Creel := { asked rd0 with badPar := [0] }
     (∀ s ∈ [cr 3 0 0 v, cr 1 0 0 v, cr 0 0 0 v, crWord 0 3 0 v, crWord 0 3 1 v, crWord 0 3 3 v],
       (s.creel 8191).order = [.a] ∧ ((s.creel 8191).port .a).req = some wr0 ∧ s.portLive 8191 .a = true) ∧
     (∀ s ∈ [cr 1 0 0 w, crWord 0 0 0 w, crWord 0 0 1 w, crWord 0 0 3 w, cr 1 0 0 bad],
       (s.creel 8191).order = [.a] ∧ ((s.creel 8191).port .a).req = some rd0 ∧ s.portLive 8191 .a = true) ∧
     (cr 3 0 0 v).creelMode 8191 = modeRom ∧ (cr 1 0 0 v).creelMode 8191 = modeMirror ∧ (cr 1 0 0 v).creelShape 8191 .a = 0 ∧
     (cr 0 0 0 v).creelMode 8191 = modeDirect ∧ (cr 0 0 0 v).creelShape 8191 .a = 0 ∧
     ((cr 1 0 0 bad).creelMode 8191 = modeMirror ∧ 0 ∈ ((((cr 1 0 0 bad).setCreel 8191 { bad with order := [] }).upsetMirror 8191 0 0).creel 8191).badPar) ∧
     (crWord 0 3 0 v).creelShape 8191 .a ≠ 0 ∧ (crWord 0 3 1 v).creelShape 8191 .a ≠ 0 ∧
     ((crWord 0 3 0 v).arrWord 8191 0).decode = .clean 5 ∧ ((crWord 0 3 1 v).arrWord 8191 0).decode = .corrected 5 ∧
     ((crWord 0 3 3 v).arrWord 8191 0).decode = .bad 6 ∧ ((crWord 0 0 0 w).arrWord 8191 0).decode = .clean 5 ∧
     ((crWord 0 0 1 w).arrWord 8191 0).decode = .corrected 5 ∧ ((crWord 0 0 3 w).arrWord 8191 0).decode = .bad 6) :=
  ⟨canonicals_of _ (by decide +kernel), by decide +kernel⟩

theorem witness_CreelWritesCanBeUndone :
    (∀ s ∈ [cr 1 0 1 {}, cr 1 0 1 { dirty := [511] }, cr 2 0 1 {}], s.Canonical) ∧
    ((cr 1 0 1 {}).creelCommitted 8191 = true ∧ (cr 1 0 1 {}).creelMode 8191 = modeMirror ∧ 511 ∉ ((cr 1 0 1 {}).creel 8191).dirty ∧
      ((cr 1 0 1 {}).creel 8191).cur.Nodup) ∧
    ((cr 1 0 1 { dirty := [511] }).creelCommitted 8191 = true ∧ 511 ∈ ((cr 1 0 1 { dirty := [511] }).creel 8191).dirty) ∧
    ((cr 2 0 1 {}).creelCommitted 8191 = true ∧ (cr 2 0 1 {}).creelMode 8191 = modeUndo ∧ ((cr 2 0 1 {}).creel 8191).undo = []) :=
  ⟨canonicals_of _ (by decide +kernel), by decide +kernel⟩

theorem witness_CreelScrubberAndWindowComplete :
    let a := crWord 0 0 1 { writeback := [0] }
    let b := rg [(creelBase 8191 + 0x048, 100)] (crWord 0 0 0 {})
    let c := rg [(creelBase 8191 + 0x048, 100)] (crWord 0 0 1 {})
    let d := rg [(creelBase 8191 + 0x048, 100)] (crWord 0 0 3 {})
    (∀ s ∈ [a, b, c, d], s.Canonical) ∧ ((a.creel 8191).writeback = [0] ∧ a.vfabRemoved (creelPanel 8191) = false ∧ (a.arrWord 8191 0).decode = .corrected 5) ∧
    (∀ s ∈ [b, c, d], s.fld (creelBase 8191 + 0x048) 23 0 ≠ 0 ∧ s.vfabRemoved (creelPanel 8191) = false) ∧
    ((b.arrWord 8191 (b.creel 8191).scrubPos).decode = .clean 5 ∧ (c.arrWord 8191 (c.creel 8191).scrubPos).decode = .corrected 5 ∧
      (d.arrWord 8191 (d.creel 8191).scrubPos).decode = .bad 6 ∧ a.winWaits 8191 = false) ∧
    a.Accepts 0 ⟨.creel, 8191⟩ 0x060 (winCommand 1 true 1023) ∧ a.Accepts 0 ⟨.creel, 8191⟩ 0x060 (winCommand 2 false 1023) ∧
    a.Accepts 0 ⟨.creel, 8191⟩ 0x060 (winCommand 3 false 1023) ∧ b.Accepts 0 ⟨.creel, 8191⟩ 0x048 (2 ^ 31) :=
  ⟨canonicals_of _ (by decide +kernel), by decide +kernel, by decide +kernel, by decide +kernel, accepts_of _ _ _ _ _ (by decide +kernel),
    accepts_of _ _ _ _ _ (by decide +kernel), accepts_of _ _ _ _ _ (by decide +kernel), accepts_of _ _ _ _ _ (by decide +kernel)⟩

/-- Creel 8191 as a queue of 32-bit elements whose ends are of a kind, 0 BLOCKING or 2 BUS, with `level` elements. -/
def qu (kind level : Nat) (v : Creel) : State :=
  let items : QItems := { wp := level, pc := level }
  rg [(rQCfg 8191, kind * 2 ^ 30 + kind * 2 ^ 28 + 31)]
    (cr 4 0 0 { v with queue := ({ (v.queue.setLive items) with } : Queue) })

theorem witness_QueueEndsComplete :
    let a := qu 0 0 { portA := { rq := true, req := some wr0 } }
    let b := qu 0 0 { portA := { rq := true, req := some wr0, parked := true } }
    let c := qu 0 1 { portB := { rq := true, req := some rd0 } }
    let d := qu 0 1 { portB := { rq := true, req := some rd0, parked := true } }
    let e := qu 2 1 {}
    (∀ s ∈ [a, b], s.isQueue 8191 = true ∧ (s.creel 8191).portA.req = some wr0 ∧ s.portLive 8191 .a = true) ∧
    ((a.creel 8191).portA.parked = false ∧ (b.creel 8191).portA.parked = true) ∧
    (∀ s ∈ [c, d], s.isQueue 8191 = true ∧ (s.creel 8191).portB.req = some rd0 ∧ s.portLive 8191 .b = true) ∧
    ((c.creel 8191).portB.parked = false ∧ (d.creel 8191).portB.parked = true) ∧ e.Canonical ∧
    (markElement 8191 false e).Accepts 0 ⟨.creel, 8191⟩ 0x158 0 ∧ (markElement 8191 false e).Accepts 0 ⟨.creel, 8191⟩ 0x158 1 ∧ e.Accepts 0 ⟨.creel, 8191⟩ 0x158 2 ∧
    e.AcceptsRead 0 ⟨.creel, 8191⟩ 0x160 ∧ e.Accepts 0 ⟨.creel, 8191⟩ 0x108 1 ∧ e.Accepts 0 ⟨.creel, 8191⟩ 0x108 2 ∧
    e.Accepts 0 ⟨.creel, 8191⟩ 0x108 4 :=
  ⟨by decide +kernel, by decide +kernel, by decide +kernel, by decide +kernel, canonical_of _ (by decide +kernel),
    accepts_of _ _ _ _ _ (by decide +kernel), accepts_of _ _ _ _ _ (by decide +kernel), accepts_of _ _ _ _ _ (by decide +kernel),
    reads_of _ _ _ _ (by decide +kernel), accepts_of _ _ _ _ _ (by decide +kernel), accepts_of _ _ _ _ _ (by decide +kernel),
    accepts_of _ _ _ _ _ (by decide +kernel)⟩

theorem witness_QueueKeepsItsElements :
    let s := qu 0 0 {}
    s.Canonical ∧ (s.qPacket 8191 = false ∧ s.qTagged 8191 = false ∧ s.wrCommitted 8191 = false ∧ s.rdCommitted 8191 = false ∧
      s.popStopped 8191 = false ∧ (s.queue 8191).live.orphan = false ∧ (s.queue 8191).live.open_ = false ∧
      (s.queue 8191).live.wp = (s.queue 8191).live.pc ∧ (s.queue 8191).live.wp < 2048 ∧ (s.queue 8191).live.rpEff = (s.queue 8191).live.wp ∧
      (s.queue 8191).live.fm = (s.queue 8191).live.rp) :=
  ⟨canonical_of _ (by decide +kernel), by decide +kernel⟩

/-- Twill block 4095 in mode MAC with signed operands, in bolt 0, which is open; `casc` is its CASC_IN. -/
def tw (casc : Nat) (v : Twill) : State :=
  rg [(rTwCfg 4095, 2 * 2 ^ 29 + 2 ^ 26 + 2 ^ 25 + casc * 2 ^ 24)]
    { State.reset with bolts := [(0, { stage := .open })], twills := SMap.set {} [] 4095 v }

def op1 : TwOp := ⟨3, 5, 0, false, false, true, [3, 5, 0]⟩

theorem witness_TwillHandshakesAndCommandsComplete :
    let a := up4095 0 (tw 0 {})
    let b := tw 0 { rq := true, ack := true }
    let c := tw 1 { link := [⟨1, 1⟩], ops := [op1] }
    let d := up4095 1 (tw 0 { resps := [⟨1, false, false⟩] })
    (∀ s ∈ [a, b, c, d], s.Canonical) ∧ (∀ s ∈ [a, b, c, d], s.twillLive 4095 = true) ∧
    (a.twillLevel 4095 0 = true ∧ (a.twill 4095).rq = false ∧ (a.twill 4095).inHand < 8 ∧ b.twillLevel 4095 0 = false ∧ (b.twill 4095).rq = true ∧
      (c.twill 4095).link = [⟨1, 1⟩] ∧ c.twCascIn 4095 = true ∧ (c.twill 4095).base = none ∧ (c.twill 4095).ops ≠ [] ∧
      d.twillLevel 4095 1 = true ∧ (d.twill 4095).resps ≠ [] ∧ (d.twill 4095).rsLow = false) ∧
    a.Accepts 0 ⟨.twill, 255⟩ (0x114 + 0x20 * 15) (2 ^ 31) ∧ a.Accepts 0 ⟨.twill, 255⟩ 0x040 0xFFFF :=
  ⟨canonicals_of _ (by decide +kernel), by decide +kernel, by decide +kernel, accepts_of _ _ _ _ _ (by decide +kernel),
    accepts_of _ _ _ _ _ (by decide +kernel)⟩

theorem witness_TwillOperationCompletes :
    let s := tw 0 { ops := [op1] }
    let c := rg [(0x5040, 1)] s
    let u : TwUpset := { sum := 1 }
    (∀ x ∈ [s, c], x.twillLive 4095 = true ∧ (x.twill 4095).ops = [op1] ∧ (x.twill 4095).faulty = false ∧ x.twCascIn 4095 = false) ∧
    ((s.twCompute 4095 (op1.upset {}) none (s.twInjected 4095 {})).bad = none ∧ s.committed (s.twOwner 4095) = false ∧
      ∀ x ∈ [s, c], (x.twCompute 4095 (op1.upset u) none (x.twInjected 4095 u)).bad = some .adder) ∧ c.committed (c.twOwner 4095) = true ∧
    (s.twMode 4095 = 2 ∧ s.twPreadd 4095 = 0 ∧ s.twSignA 4095 = true ∧ s.twSignB 4095 = true ∧
      op1.rho = (s.twOperands 4095 op1).map residue ∧ (s.twill 4095).res = residue (signedOf 64 (s.twill 4095).acc.toNat)) := by
  decide +kernel
/-- Bridge `n` in a mode and direction (1 is OUT), all 64 bits wide, in bolt 0, which is open and, if `com` is 1, COMMITTED. -/
def br (n mode out com : Nat) (v : Bridge) : State :=
  rg [(0x5040, com), (rSvCfg n, mode * 2 ^ 29 + out * 2 ^ 28 + 63 * 2 ^ 22)]
    { State.reset with bolts := [(0, { stage := .open })], bridges := SMap.set {} [] n v }

def words (k : Nat) : List Dword := List.replicate k 7

/-- Slot `w` of bridge `n` is up. -/
def upBr (n w : Nat) (s : State) : State :=
  wired (bridgeRecord n).1 ((bridgeRecord n).2 + (if n / 8 < 32 ∨ 36 ≤ n / 8 then 4 else 8) + w) (s.bridgeReed n + 256 * (w % 8)) s

theorem witness_BridgesComplete :
    let sf := br 319 1 1 0 { fails := 15, src := 5 }
    let so := br 319 1 1 0 { src := 5 }
    let si := br 319 1 0 0 { src := 5 }
    let h0 := br 319 2 0 0 {}
    let h1 := br 319 2 0 0 { hold := some 5, hs := 1 }
    let h2 := br 319 2 0 0 { hold := some 5, waiting := some 6, hs := 3 }
    let c14 := br 319 4 0 0 { pend := 14 }
    let c15 := br 319 4 0 0 { pend := 15 }
    let m1 := br 319 5 0 0 { pend := 1 }
    let o2 := upBr 319 0 (br 319 2 1 0 {})
    let o4 := upBr 319 0 (br 319 4 1 0 {})
    let or := upBr 319 0 (br 319 2 1 0 { resync := true })
    let i1 := br 319 2 0 0 { hold := some 5, hs := 1 }
    let p1 := br 319 2 1 0 { hold := some 5, hs := 1 }
    let q1 := br 319 4 1 0 { pend := 1, hs := 1 }
    let i3 := br 319 2 0 0 { hold := some 5, hs := 3 }
    let i4 := br 319 2 0 0 { hold := some 5, hs := 4 }
    let i5 := br 319 2 0 0 { hold := some 5, hs := 5 }
    let r5 := br 319 4 0 0 { pend := 1, hs := 5 }
    let t0 := upBr 319 1 (br 319 1 0 0 { chan := { token := some 5, stale := true } })
    let t1 := upBr 319 1 (br 319 1 0 0 { chan := { token := some 5 } })
    let t2 := upBr 319 1 (br 319 2 0 0 { chan := { token := some 5 }, hold := some 5, hs := 2 })
    let t3 := upBr 319 1 (br 319 3 0 0 { chan := { token := some 7 }, fifo := words 1 })
    let t4 := upBr 319 1 (br 319 4 0 0 { chan := { token := some 1 }, pend := 1, hs := 2 })
    let w := br 319 3 1 0 { fifo := words 16 }
    let l := br 255 3 1 0 { fifo := words 1 }
    let lt : State := { rg [(sdReg 11 0x008, 1)] l with quads := [(11, { pll := true })] }
    let sp := br 303 3 1 0 { fifo := words 1 }
    let n15 := br 319 3 0 0 { fifo := words 15 }
    let n16 := br 319 3 0 0 { fifo := words 16 }
    let b15 := br 159 3 0 0 { fifo := words 15 }
    let b16 := br 159 3 0 0 { fifo := words 16 }
    let rx := br 251 3 0 0 {}
    let ok (s : State) (n mode : Nat) (out : Bool) : Bool := decide (s.svMode n = mode ∧ (s.bridge n).resync = false) && s.svRuns n && (s.svOut n == out)
    (ok sf 319 brSample2 true && ok so 319 brSample2 true && ok si 319 brSample2 false && decide ((sf.bridge 319).src ≠ (sf.bridge 319).old ∧
      (sf.bridge 319).fails + 1 = 16 ∧ (so.bridge 319).src ≠ (so.bridge 319).old ∧ (so.bridge 319).fails + 1 ≠ 16)) = true ∧
    (ok h0 319 brHold false && ok h1 319 brHold false && ok h2 319 brHold false && decide ((h0.bridge 319).hold = none ∧ (h1.bridge 319).hold ≠ none ∧
      (h1.bridge 319).waiting = none ∧ (h2.bridge 319).hold ≠ none ∧ (h2.bridge 319).waiting ≠ none)) = true ∧
    (ok c14 319 brCount false && ok c15 319 brCount false && ok m1 319 brMerge false && decide ((c14.bridge 319).pend < 15 ∧
      15 ≤ (c15.bridge 319).pend ∧ 1 ≤ (m1.bridge 319).pend)) = true ∧
    (∀ s ∈ [o2, o4, or], s.svOut 319 = true ∧ s.svMode 319 ≠ brBusport ∧ s.bridgeLevel 319 0 = true ∧ s.bridgeLive 319 = true ∧
      (s.bridge 319).sink = {}) ∧ (o2.sinkOpen 319 = true ∧ o2.svMode 319 = brHold ∧ o4.svMode 319 = brCount ∧ or.sinkOpen 319 = false) ∧
    (ok i1 319 brHold false && ok p1 319 brHold true && ok q1 319 brCount true && ok i3 319 brHold false && ok i4 319 brHold false &&
      ok i5 319 brHold false && ok r5 319 brCount false) = true ∧
    (∀ s ∈ [t0, t1, t2, t3, t4], s.svMode 319 ≠ brBusport ∧ s.svOut 319 = false ∧ s.bridgeLevel 319 1 = true ∧ s.bridgeLive 319 = true ∧
      (s.bridge 319).chan.token ≠ none) ∧
    ((t0.bridge 319).chan.stale = true ∧ (∀ s ∈ [t1, t2, t3, t4], (s.bridge 319).chan.stale = false ∧ (s.bridge 319).taken = false) ∧
      t1.svMode 319 = brSample2 ∧ t2.svMode 319 = brHold ∧ t3.svMode 319 = brQueue ∧ t4.svMode 319 = brCount) ∧
    (w.hasWord 319 = true ∧ (w.bridge 319).sink.parked = none ∧ l.hasWord 255 = true ∧ lt.hasWord 255 = true ∧ sp.hasWord 303 = true ∧
      l.txReads ((255 - 160) / 8) (255 % 8 - 4) = false ∧ lt.txReads ((255 - 160) / 8) (255 % 8 - 4) = true) ∧
    (ok n15 319 brQueue false && ok n16 319 brQueue false && ok b15 159 brQueue false && ok b16 159 brQueue false && ok rx 251 brQueue false) = true ∧
    (∀ s ∈ [i1, p1, q1, i3, i4, i5, r5, w, b15], s.Canonical) :=
  ⟨by decide +kernel, by decide +kernel, by decide +kernel, by decide +kernel, by decide +kernel, by decide +kernel, by decide +kernel, by decide +kernel,
    by decide +kernel, by decide +kernel, canonicals_of _ (by decide +kernel)⟩

theorem witness_BridgeRollbackComplete :
    let a := br 319 3 1 1 { fifo := words 3 }
    let b := br 319 3 0 1 { fifo := words 3, read := 2 }
    let c := br 319 1 0 1 { last := 5, shLast := 4 }
    let d := br 319 2 0 1 { hold := some 5, hs := 2, taken := true }
    let e := br 319 4 0 1 { pend := 3, read := 1 }
    (∀ s ∈ [a, b, c, d, e], s.Canonical) ∧ a.svMode 319 = brQueue ∧ a.svOut 319 = true ∧ b.svMode 319 = brQueue ∧
    (∀ s ∈ [b, c, d, e], s.svOut 319 = false) ∧ c.svMode 319 = brSample2 ∧ d.svMode 319 = brHold ∧ (d.bridge 319).hs = 2 ∧
    (d.bridge 319).taken = true ∧ e.svMode 319 = brCount :=
  ⟨canonicals_of _ (by decide +kernel), by decide +kernel⟩

theorem witness_ResyncAndStoppedClocksComplete :
    let a := br 159 3 1 0 {}
    let b := br 159 3 0 0 {}
    let c (k : Nat) := br 159 3 0 0 { resync := true, rsStep := k }
    let d := rg [(rSvCfg 159, 3 * 2 ^ 29 + 63 * 2 ^ 22 + 28 * 2 ^ 16)] a
    let e := br 159 3 0 0 { clkLost := true }
    a.Accepts 0 ⟨.selvedge, 39⟩ 0x040 0xFFFF ∧ (∀ s ∈ [a, b], s.Canonical) ∧
    (a.svMode 159 ≠ brOff ∧ a.svMode 159 ≠ brBusport ∧ a.svOut 159 = true ∧ b.svOut 159 = false) ∧
    (∀ k ∈ [2, 3, 4, 5], ((c k).bridge 159).resync = true ∧ ((c k).bridge 159).rsStep = k ∧ (c k).svRuns 159 = true) ∧
    (d.svMode 159 ≠ brOff ∧ d.now ≤ 0 ∧ (d.bridge 159).clkLost = false ∧ d.domainRuns (d.svClock 159) = false ∧
      d.netAligned (d.svClock 159 - 28) = false ∧ e.svMode 159 ≠ brOff ∧ e.domainRuns (e.svClock 159) = true) :=
  ⟨accepts_of _ _ _ _ _ (by decide +kernel), canonicals_of _ (by decide +kernel), by decide +kernel⟩

/-- Fabric bus port 31 with TARGET_EN and INIT_EN, and accesses of the bus that wait for an answer. -/
def fb (v : Fbp) (issued : List Issued) : State :=
  { rg [(rSvCfg 287, 6 * 2 ^ 29), (rFbpCfg 31, 2 ^ 31 + 2 ^ 30)] { State.reset with bolts := [(0, { stage := .open })] } with
    fbps := SMap.set {} [] 31 v, issued := issued }

def acc31 (tag : Nat) (out write : Bool) : Issued :=
  { master := 0, addr := 0x07E0_0000, write := write, port := some 31, tag := some tag, timedOut := out }

def reqs (k : Nat) (answer : Option (Nat × Word)) (discard : Bool) : List InitReq := List.replicate k ⟨0, false, answer, false, discard⟩

theorem witness_BusPortsAndWaitsComplete :
    let r : State := upBr 287 66 { fb {} [] with bridges := [(287, { resync := true })] }
    let n := upBr 287 66 (fb {} [])
    let a := upBr 287 66 (fb {} [acc31 0 false false])
    let m := upBr 287 66 (fb {} [acc31 63 false false])
    let x := upBr 287 100 (upBr 287 66 (fb {} [acc31 0 false false]))
    let b := upBr 287 66 (fb {} [acc31 0 true false])
    let c := upBr 287 132 (fb { reqs := reqs 15 none false } [])
    let d := upBr 287 132 (fb { reqs := reqs 16 none false } [])
    let e := fb { reqs := reqs 1 (some (0, 5)) false } []
    let e2 := fb { reqs := reqs 1 (some (6, 5)) false } []
    let f := fb { reqs := reqs 1 (some (0, 5)) true } []
    let g := fb {} (List.replicate 64 (acc31 63 false false))
    let w := fb {} [acc31 63 false true]
    let h : State := { fb {} [] with slotWait := [acc31 0 false false] }
    let i : State := { w with slotWait := [acc31 0 false false] }
    let j := fb {} [{ master := 0, addr := 0x5040 }]
    let z := fb { late := 1 } []
    let rd31 : Issued := { master := 0, addr := 0x0400_0000 + 0x03E0_0000 }
    (∀ s ∈ [r, n, a, m, x, b], s.bridgeLevel (portBridge 31) 66 = true ∧ s.bridgeLive (portBridge 31) = true ∧ (s.fbp 31).tResp = {}) ∧
    ((r.bridge (portBridge 31)).resync = true ∧ n.oldestAccess 31 = none ∧ ∀ s ∈ [a, m, x, b], (s.bridge (portBridge 31)).resync = false ∧
      s.oldestAccess 31 = some 0) ∧
    (∀ s ∈ [a, x], s.issued[0]? = some (acc31 0 false false) ∧ fieldOf (s.channelWord (portBridge 31) 66) 40 33 = 0) ∧
    (bitOf (a.channelWord (portBridge 31) 66) 32 = false ∧ bitOf (x.channelWord (portBridge 31) 66) 32 = true ∧
      fieldOf (m.channelWord (portBridge 31) 66) 40 33 ≠ 63 ∧ fieldOf (b.channelWord (portBridge 31) 66) 40 33 = 0 ∧
      b.issued[0]? = some (acc31 0 true false)) ∧
    (∀ s ∈ [c, d], s.bridgeLevel (portBridge 31) 132 = true ∧ s.initOpen 31 = true ∧ (s.fbp 31).iReq = {} ∧
      (s.bridge (portBridge 31)).resync = false) ∧ ((c.fbp 31).reqs.length < 16 ∧ 16 ≤ (d.fbp 31).reqs.length) ∧
    (∀ s ∈ [e, e2, f], (s.fbp 31).reqs.length = 1 ∧ (s.fbp 31).iReq.parked = none ∧ (s.fbp 31).queue.length < 16) ∧
    (∀ s ∈ [e, e2, f], s.Canonical) ∧ a.Accepts 0 ⟨.fbp, 7⟩ 0x040 0xF ∧
    (∀ s ∈ [n, g, w], s.inReset = false ∧ (Master.warp.isHost && s.shuttingDown) = false) ∧ (n.waits rd31 = false ∧ g.slotsUsed 0 = 64 ∧
      w.waits rd31 = true ∧ w.slotsUsed 0 < 64 ∧ (∀ o ∈ w.slotWait, o.master ≠ 0) ∧ j.nextHeldBack 0 = some 0) ∧
    (∀ s ∈ [h, i], s.nextHeldBack 0 = none ∧ s.slotWait.findIdx? (fun e => decide (e.master = 0)) = some 0 ∧
      s.slotWait[0]? = some (acc31 0 false false) ∧ s.slotsUsed 0 < 64) ∧
    ((∀ o ∈ h.issued, o.holds (acc31 0 false false) = false) ∧ (∃ o ∈ i.issued, o.holds (acc31 0 false false) = true)) ∧
    ((acc31 63 false false).time + 65536 ≤ 65536 ∧ a.now ≤ 65536) ∧ (0 < (z.fbp 31).late ∧ z.now ≤ 0) :=
  ⟨by decide +kernel, by decide +kernel, by decide +kernel, by decide +kernel, by decide +kernel, by decide +kernel, by decide +kernel,
    canonicals_of _ (by decide +kernel), accepts_of _ _ _ _ _ (by decide +kernel), by decide +kernel, by decide +kernel, by decide +kernel,
    by decide +kernel, by decide +kernel, by decide +kernel⟩

def paceSet : PaceSet := { cfg := 0x8004_0000 }

theorem witness_PaceGeneratorsComplete :
    let a : State := { State.reset with paces := [(31, { pending := some paceSet })] }
    let k : State := { State.reset with paces := [(31, { pending := some paceSet, act := paceSet, locked := true, refOk := true })] }
    let b : State := { State.reset with paces := [(31, { act := paceSet, relock := true, refOk := true })] }
    let c : State := { State.reset with paces := [(31, { act := paceSet, locked := true, refOk := true })] }
    let d : State := { State.reset with paces := [(31, { act := paceSet })] }
    a.Accepts 0 ⟨.pace, 31⟩ 0x050 3 ∧ (∀ s ∈ [a, k, b, c, d], s.Canonical) ∧
    ((a.pace 31).pending = some paceSet ∧ (paceSet.sameClock (a.pace 31).act && (a.pace 31).locked) = false ∧ (a.pace 31).enabled = false) ∧
    ((k.pace 31).pending = some paceSet ∧ paceSet.sameClock (k.pace 31).act = true ∧ (k.pace 31).locked = true ∧ (k.pace 31).refOk = true ∧
      k.pwr.refLost = false) ∧
    ((b.pace 31).relock = true ∧ (b.pace 31).refOk = true ∧ b.pwr.removed = false) ∧
    ((c.pace 31).enabled = true ∧ (c.pace 31).refOk = true ∧ (c.pace 31).locked = true) ∧ (d.pace 31).refOk = false :=
  ⟨accepts_of _ _ _ _ _ (by decide +kernel), canonicals_of _ (by decide +kernel), by decide +kernel⟩

theorem witness_PageHeaderCommandsComplete :
    State.reset.Canonical ∧ State.reset.Accepts 0 ⟨.shuttle, 0⟩ 0x020 (2 ^ 31) ∧ State.reset.Accepts 0 ⟨.shuttle, 0⟩ 0x020 0 ∧
    State.reset.Accepts 0 ⟨.pick, 0⟩ 0x030 1 ∧ pairLo ⟨.pick, 0⟩ 0x080 = true ∧ State.reset.AcceptsRead 0 ⟨.pick, 0⟩ 0x080 :=
  ⟨canonical_of _ (by decide +kernel), accepts_of _ _ _ _ _ (by decide +kernel), accepts_of _ _ _ _ _ (by decide +kernel),
    accepts_of _ _ _ _ _ (by decide +kernel), by decide +kernel, reads_of _ _ _ _ (by decide +kernel)⟩

/-- The device is up with its link, and the functions `f` of the list have memory space and bus mastering on. -/
def host (fs : List Nat) : State :=
  fs.foldl (fun s f => s.setPci f pciCommand 6) { rg [(rLink, 2 ^ 31 + 3 * 2 ^ 28 + 4 * 2 ^ 23)] State.reset with boot := { stage := .up } }

theorem witness_HostRequestsComplete :
    let s := host [0, 3]
    let full : State := { s with
      slotWait := (List.range 128).map (fun k => { master := 8, addr := 0x5040, write := true, part := some (k, 0) }),
      pcie := { s.pcie with hostReads := List.replicate 256 ⟨0, 0, 0, 2, [], []⟩ } }
    let ecrc := s.setPci 3 pciAerCtl 0x100
    let h : State := { s with boot := {} }
    let safe := rg [(rLcStat, 2 ^ 11)] s
    let flr : State := { s with pcie := { s.pcie with flr := 8 } }
    let live (s : State) (f : Fin 4) : Prop := s.inFlr f = false ∧ s.msEnabled f = true ∧ s.inD3 f = false ∧ (s.pf0Alone = true → f = 0)
    (s.linkIsUp = true ∧ hostRequestOk 0xFFFFFC true [5] 0 = true ∧ hostRequestOk 0x040 false [] 1 = true) ∧
    (full.postedRoom 1 = false ∧ ¬ full.hostWaiting < 256 ∧ s.postedRoom 1 = true ∧ s.hostWaiting < 256 ∧ ecrc.pciBit 3 pciAerCtl 8 = true) ∧
    (live s 3 ∧ ¬ live s 2) ∧ (0xFFFFFC + 4 * 1 ≤ barSize 3 .bar0 ∧ barSize 3 .bar2 < 0x4000 + 4 * 1) ∧
    (msixSizeBad .bar2 0x10 3 15 15 false = true ∧ hostRequestOk 0x10 false [] 3 = true ∧ 0x10 + 4 * 3 ≤ barSize 3 .bar2 ∧
      msixSizeBad .bar0 0xFFFFFC 1 15 0 true = false) ∧
    (hostRequestOk (regAddr .event 0 0x100) false [] 2 = true ∧ regAddr .event 0 0x100 + 4 * 2 ≤ barSize 0 .bar0 ∧
      (∃ k < 2, sideEffectAt (bar0Address 0 (regAddr .event 0 0x100) + 4 * k) = true) ∧
      ∀ k < 2, sideEffectAt (bar0Address 3 0x040 + 4 * k) = false) ∧
    (s.configurable 3 = true ∧ (0xFFC : BitVec 12).toNat % 4 = 0) ∧ (h.linkIsUp = true ∧ h.boot.stage ≠ .up) ∧
    (safe.linkIsUp = true ∧ safe.boot.stage = .up ∧ safe.pf0Alone = true) ∧
    (flr.linkIsUp = true ∧ flr.boot.stage = .up ∧ flr.pf0Alone = false ∧ flr.inFlr 3 = true) := by
  decide +kernel

theorem witness_LinkAndFunctionEventsComplete :
    let s := host [0, 3]
    let d := s.setPci 3 pciPmcsr 3
    let f : State := { s with pcie := { s.pcie with flr := 8 } }
    let m (k : Nat) (s : State) : State := { s with ev := { s.ev with msixWait := [k] } }
    let on := (s.setPci 3 pciMsix (2 ^ 31)).setMsix 3 (0x1F * 16 + 12) 0
    let masked := s.setPci 3 pciMsix (2 ^ 31)
    let ptm := (rg [(rPtmCtrl, 2 ^ 31)] s).setPci 0 pciPtmCtl 1
    let again : State := { ptm with pcie := { ptm.pcie with ptmAt := some 0 } }
    let tr : State := { State.reset with pcie := { training := true } }
    (State.reset.linkIsUp = false ∧ State.reset.boot.stage ≠ .held ∧ tr.pcie.training = true ∧ tr.linkIsUp = false ∧
      linkSpeedOk 1 = true ∧ linkWidthOk 16 = true ∧ s.linkIsUp = true ∧ s.fld rLink 30 28 ≠ 5 ∧ linkSpeedOk 5 = true) ∧
    (∀ x ∈ [s, tr, ptm], x.Canonical) ∧
    (s.configurable 3 = true ∧ s.bmEnabled 3 = true ∧ s.inD3 3 = false ∧ d.configurable 3 = true ∧ d.inD3 3 = true ∧ f.inFlr 3 = true) ∧
    ((m 0x31F on).ev.msixWait = [0x31F] ∧ (m 0x31F on).sendable 0x31F = true ∧ (m 0x31F masked).sendable 0x31F = false ∧
      (m 0x31F masked).msixOn 3 = true ∧ (m 0x31F s).msixOn 3 = false) ∧
    (ptm.linkIsUp = true ∧ ptm.bit rPtmCtrl 31 = true ∧ ptm.pciBit 0 pciPtmCtl 0 = true ∧ ptm.now ≤ 0 ∧ ptm.pcie.ptmAt = none ∧
      0 + 1000000 * again.fld rPtmCtrl 15 0 ≤ 65535000000) ∧ s.Accepts 0 ⟨.pcie, 0⟩ 0x054 1 :=
  ⟨by decide +kernel, canonicals_of _ (by decide +kernel), by decide +kernel, by decide +kernel, by decide +kernel,
    accepts_of _ _ _ _ _ (by decide +kernel)⟩

/-- Channel 63 on creel 8191, a queue whose ends are BUS with `level` elements; `out` is its DIR. Its rings have 4 slots. -/
def ch (out level : Nat) (v : Chan) : State :=
  { rg [(chBase 63, out * 2 ^ 31 + 8191), (chBase 63 + 4, 2 * 2 ^ 8 + 2 + 10 * 2 ^ 16), (rQCfg 8191, 2 * 2 ^ 30 + 2 * 2 ^ 28 + 2 ^ 19 + 31),
      (rCreelCfg 8191, 4 * 2 ^ 29)] (host [0]) with
    chans := SMap.set {} [] 63 v,
    creels := SMap.set {} [] 8191 { queue := ({ wp := level, pc := level } : QItems) |> fun i => (({} : Queue).setLive i).setShadow i } }

def rec1 : DmaRecord := ⟨[0, 0, 0], 0, false⟩
def work1 : Work := { slot := 0, words := [0, 0, 8, 0], moved := 4 }

/-- The only element of the queue ends a packet. -/
def chTail : State := { ch 1 1 { state := .running, tail := true, credit := 1, size := 4 } with arrays := [(8191 * 1024, { data := 2 ^ 63 })] }

theorem witness_ChannelsComplete :
    let a := ch 0 0 {}
    let b := ch 0 0 { state := .running }
    let c := ch 0 0 { state := .running, work := some work1, polled := some 0 }
    let d := ch 1 0 { state := .running, work := some work1 }
    let t := rg [(regAddr .test 0 0x044, 0x1FF)] c
    let e := ch 1 0 { state := .running, record := some rec1 }
    let f := rg [(rChCplCi 63, 1)] e
    let g := rg [(rCreelCfg 8191, 4 * 2 ^ 29)] (ch 1 0 { state := .running, tail := true, credit := 1, size := 4 })
    a.Accepts 0 ⟨.dma, 15⟩ (0x100 + 0x80 * 3 + 0x18) 1 ∧ (a.chan 63).state = .disabled ∧
    b.Accepts 0 ⟨.dma, 15⟩ (0x100 + 0x80 * 3 + 0x18) 0 ∧ (b.chan 63).state = .running ∧ b.Accepts 0 ⟨.dma, 15⟩ (0x100 + 0x80 * 3 + 0x18) 2 ∧
    b.Accepts 0 ⟨.dma, 15⟩ (0x100 + 0x80 * 3 + 0x20) 3 ∧ b.Accepts 0 ⟨.dma, 15⟩ (0x100 + 0x80 * 3 + 0x2C) 3 ∧
    (∀ s ∈ [b, c, d, e, f, g, t, chTail], s.chMoves 63 = true) ∧
    ((c.chan 63).work ≠ none ∧ (c.chan 63).credit = 0 ∧ (c.chan 63).polled = some 0 ∧ 0 + 256 ≤ 256 ∧
      (∀ s ∈ [c, d, t], s.chPlays 63 = true) ∧
      (creelRead 4 (c.chCreel 63) 0x10C c).resp.code = 0 ∧ c.chOut 63 = false ∧ (creelRead 4 (t.chCreel 63) 0x10C t).resp.code ≠ 0 ∧
      (d.chan 63).work ≠ none ∧ (d.chan 63).credit = 0 ∧ (d.chan 63).polled = none ∧ (creelRead 4 (d.chCreel 63) 0x10C d).resp.code = 0) ∧
    ((d.chan 63).work = some work1 ∧ d.chOut 63 = true ∧ 0 < work1.moved ∧ d.chIdleUs 63 ≠ 0 ∧ d.qLevel (d.chCreel 63) = 0 ∧
      work1.since + 1000 * d.chIdleUs 63 ≤ 10000) ∧
    ((f.chan 63).record = some rec1 ∧ f.recordHeld 63 = false ∧ f.ringFull 63 = true) ∧ e.Canonical ∧
    ((e.chan 63).record = some rec1 ∧ e.recordHeld 63 = false ∧ e.ringFull 63 = false ∧ e.chBridge 63 = none ∧ rec1.irq = false ∧ rec1.status = 0 ∧
      (e.chan 63).state = .running) ∧
    (g.chPlays 63 = true ∧ chTail.chPlays 63 = true ∧ (g.chan 63).tail = true ∧ (g.chan 63).credit ≠ 0 ∧ bitOf (popElement (g.chCreel 63) g).2.2 0 = true) ∧
    ((chTail.chan 63).tail = true ∧ (chTail.chan 63).credit ≠ 0 ∧ (popElement (chTail.chCreel 63) chTail).1.resp.code = 0 ∧
      bitOf (popElement (chTail.chCreel 63) chTail).2.2 0 = false ∧ bitOf (popElement (chTail.chCreel 63) chTail).2.2 1 = true) :=
  ⟨accepts_of _ _ _ _ _ (by decide +kernel), by decide +kernel, accepts_of _ _ _ _ _ (by decide +kernel), by decide +kernel,
    accepts_of _ _ _ _ _ (by decide +kernel), accepts_of _ _ _ _ _ (by decide +kernel), accepts_of _ _ _ _ _ (by decide +kernel),
    by decide +kernel, by decide +kernel, by decide +kernel, by decide +kernel, canonical_of _ (by decide +kernel), by decide +kernel,
    by decide +kernel, by decide +kernel⟩

theorem witness_DeviceReadsComplete :
    let r : DevRead := ⟨1023, 63, true, 4, 0, false⟩
    let q : DevRead := ⟨1023, 64, true, 4, 0, false⟩
    let a : State := { ch 0 0 { state := .running, work := some work1 } with pcie := { (host [0]).pcie with reads := [r] } }
    let b : State := { host [0] with pcie := { (host [0]).pcie with reads := [q] } }
    let f := ch 0 0 { fetch := some ⟨0, 0, List.replicate 32 0⟩ }
    let g := ch 0 0 { fetch := some ⟨0, 2, []⟩ }
    let w : Work := { work1 with parts := [⟨4, 0, [1, 2, 3, 4]⟩] }
    let x : Work := { work1 with parts := [⟨4, 3, []⟩] }
    (a.pcie.reads.find? (fun r => decide (r.tag = 1023)) = some r ∧ r.chan ≠ 64 ∧ [(7 : Word)].length = (a.readAddr r % 4 + r.len + 3) / 4 ∧
      a.pciBit (a.readFunc r) pciDevCtl2 4 = false ∧ (a.setPci 0 pciDevCtl2 0x10).pciBit (a.readFunc r) pciDevCtl2 4 = true) ∧
    (b.pcie.reads.find? (fun r => decide (r.tag = 1023)) = some q ∧ q.dead = false ∧ [(7 : Word)].length = (b.readAddr q % 4 + q.len + 3) / 4) ∧
    (a.pcie.reads.find? (fun r => decide (r.tag = 1022)) = none) ∧
    ((f.chan 63).fetch = some ⟨0, 0, List.replicate 32 0⟩ ∧ (g.chan 63).fetch = some ⟨0, 2, []⟩) ∧
    ((ch 0 0 { work := some w }).chan 63).work = some w ∧ w.parts.find? (fun q => decide (q.off = w.moved + w.ready.length)) = some ⟨4, 0, [1, 2, 3, 4]⟩ ∧
    ((ch 0 0 { work := some x }).chan 63).work = some x ∧ x.parts.find? (fun q => decide (q.off = x.moved + x.ready.length)) = some ⟨4, 3, []⟩ := by
  decide +kernel

/-- The engine takes an image of `total` bytes from the flash, and section `sect` comes or is being read. -/
def ld (sect total : Nat) (inside : Bool) : State :=
  { rg [(rCfgStat, 2 * 2 ^ 28 + 2 ^ 27)] State.reset with eng := { sect := sect, total := total, inside := inside } }

/-- The engine in a state, with an authorisation and with or without encryption. -/
def ver (st enc kind : Nat) : State :=
  { rg [(rCfgStat, st * 2 ^ 28 + enc * 2 ^ 22)] State.reset with eng := { authKind := kind, frames := [(0, 0)] } }

theorem witness_LoadsComplete :
    let up := host [0]
    let loaded := ver 4 0 0
    let fifo := rg [(rCfgStat, 2 * 2 ^ 28)] State.reset
    let full : State := { ver 3 0 0 with eng := { fifo := List.replicate 1024 0 } }
    let rew := rg [(rCfgStat, 2 * 2 ^ 28 + 2 ^ 25)] { State.reset with pick := { released := true } }
    (∀ s ∈ [up, ver 5 0 0], s.Canonical) ∧ State.reset.Accepts 0 ⟨.config, 0⟩ 0x044 (cfgCommand 0 1) ∧
    rew.Accepts 0 ⟨.config, 0⟩ 0x044 (cfgCommand 0 1) ∧ ((State.reset.loadRuns && State.reset.engReweave) = false ∧ (rew.loadRuns && rew.engReweave) = true) ∧
    ({ State.reset with pick := { released := true } } : State).Accepts 0 ⟨.config, 0⟩ 0x044 (cfgCommand 0 2) ∧
    fifo.Accepts 0 ⟨.config, 0⟩ 0x044 (cfgCommand 0 3) ∧ loaded.Accepts 0 ⟨.config, 0⟩ 0x044 (cfgCommand 0 4) ∧
    fifo.Accepts 0 ⟨.config, 0⟩ 0x080 0xFFFFFFFF ∧ fifo.fifoFull = false ∧ full.Accepts 0 ⟨.config, 0⟩ 0x080 0xFFFFFFFF ∧ full.fifoFull = true ∧
    (∀ s ∈ [ver 3 0 0, ver 3 1 0, ver 3 0 1, ver 3 1 1], s.engState = engVerifying ∧ s.now ≤ 0) ∧
    ((ver 3 0 1).eng.authKind = 1 ∧ (ver 3 1 0).eng.authKind ≠ 1 ∧ (ver 3 1 0).encrypted = true ∧ (ver 3 0 1).encrypted = false) ∧
    ((ver 5 0 0).engState = engClearing ∧ 0 ∈ (ver 5 0 0).eng.frames.map (fun e => e.1)) :=
  ⟨canonicals_of _ (by decide +kernel), accepts_of _ _ _ _ _ (by decide +kernel), accepts_of _ _ _ _ _ (by decide +kernel), by decide +kernel,
    accepts_of _ _ _ _ _ (by decide +kernel), accepts_of _ _ _ _ _ (by decide +kernel), accepts_of _ _ _ _ _ (by decide +kernel),
    accepts_of _ _ _ _ _ (by decide +kernel), by decide +kernel, accepts_of _ _ _ _ _ (by decide +kernel), by decide +kernel, by decide +kernel,
    by decide +kernel, by decide +kernel⟩

/-- A section of one body of zeros, its header before it. -/
def zeroSection (k len : Nat) : List Word := [BitVec.ofNat 32 k, BitVec.ofNat 32 len, 0, 0] ++ List.replicate (len / 4) 0

/-- A number below 2^384 as the twelve little-endian words of its big-endian bytes. -/
def digestWord (d j : Nat) : Word :=
  let x := d / 2 ^ (32 * (11 - j))
  BitVec.ofNat 32 (x % 256 * 2 ^ 24 + x / 2 ^ 8 % 256 * 2 ^ 16 + x / 2 ^ 16 % 256 * 2 ^ 8 + x / 2 ^ 24 % 256)

def unsigned (d : Nat) : List Word := [8, 216, 0, 0] ++ ([0, 0] ++ ((List.range 12).map (digestWord d) ++ List.replicate 40 0))

theorem bytes_of_word (a b c d : Nat) (ha : a < 256) (hb : b < 256) (hc : c < 256) (hd : d < 256) :
    let w : Word := BitVec.ofNat 32 (a * 2 ^ 24 + b * 2 ^ 16 + c * 2 ^ 8 + d)
    fieldOf w 7 0 = d ∧ fieldOf w 15 8 = c ∧ fieldOf w 23 16 = b ∧ fieldOf w 31 24 = a := by
  simp only [fieldOf, BitVec.toNat_ofNat]
  omega

theorem digest_step (x : Nat) :
    let w : Word := BitVec.ofNat 32 (x % 256 * 2 ^ 24 + x / 2 ^ 8 % 256 * 2 ^ 16 + x / 2 ^ 16 % 256 * 2 ^ 8 + x / 2 ^ 24 % 256)
    x / 2 ^ 32 * 2 ^ 32 + (fieldOf w 7 0 * 2 ^ 24 + fieldOf w 15 8 * 2 ^ 16 + fieldOf w 23 16 * 2 ^ 8 + fieldOf w 31 24) = x := by
  obtain ⟨h1, h2, h3, h4⟩ := bytes_of_word (x % 256) (x / 2 ^ 8 % 256) (x / 2 ^ 16 % 256) (x / 2 ^ 24 % 256)
    (Nat.mod_lt _ (by decide)) (Nat.mod_lt _ (by decide)) (Nat.mod_lt _ (by decide)) (Nat.mod_lt _ (by decide))
  simp only [h1, h2, h3, h4]
  omega

/-- Words of a number, the most significant first, make the number again. -/
theorem fold_words (d : Nat) (g : Nat → Nat) (hg : ∀ x j, x = d / 2 ^ (32 * (11 - j)) → j < 12 → x / 2 ^ 32 * 2 ^ 32 + g j = x) (n : Nat) :
    ∀ top, n ≤ 12 → top = d / 2 ^ (32 * 12) → (List.range n).foldl (fun a j => a * 2 ^ 32 + g j) top = d / 2 ^ (32 * (12 - n)) := by
  induction n with
  | zero => intro top _ h; rw [List.range_zero, List.foldl_nil, h, Nat.sub_zero]
  | succ n ih =>
    intro top hn h
    rw [List.range_succ, List.foldl_append, ih top (by omega) h, List.foldl_cons, List.foldl_nil]
    have e1 : 12 - (n + 1) = 11 - n := by omega
    have e2 : 32 * (12 - n) = 32 * (11 - n) + 32 := by omega
    rw [e1, e2, Nat.pow_add, ← Nat.div_div_eq_div_mul]
    exact hg _ n rfl (by omega)

theorem digest_word (d j : Nat) (hj : j < 12) : ((unsigned d).drop 4).getD (2 + j) 0 = digestWord d j := by
  match j, hj with
  | 0, _ | 1, _ | 2, _ | 3, _ | 4, _ | 5, _ | 6, _ | 7, _ | 8, _ | 9, _ | 10, _ | 11, _ => rfl

theorem digest_value (d : Nat) (h : d < 2 ^ (32 * 12)) : beValue ((unsigned d).drop 4) 2 12 = d := by
  have := fold_words d (fun j =>
    fieldOf (((unsigned d).drop 4).getD (2 + j) 0) 7 0 * 2 ^ 24 + fieldOf (((unsigned d).drop 4).getD (2 + j) 0) 15 8 * 2 ^ 16 +
      fieldOf (((unsigned d).drop 4).getD (2 + j) 0) 23 16 * 2 ^ 8 + fieldOf (((unsigned d).drop 4).getD (2 + j) 0) 31 24)
    (fun x j hx hj => by simp only [digest_word d j hj, digestWord, ← hx]; exact digest_step x) 12 0 (Nat.le_refl _)
    (Nat.div_eq_of_lt h).symm
  rw [Nat.sub_self, Nat.mul_zero, Nat.pow_zero, Nat.div_one] at this
  exact this

/-- The unsigned AUTH of an image whose digest is that of nothing before it. -/
def auth0 : List Word := unsigned (Config.sha384 []).toNat

theorem witness_imageAuth :
    let s := ld 8 232 false
    s.openUnit secAuth auth0 = .body auth0 ∧ auth0.length = 4 + (auth0.getD 1 0).toNat / 4 ∧
      ((s.consume auth0).enterSection secAuth 0 auth0).authFaults 16 (auth0.drop 4) = [] ∧ fieldOf (auth0.getD 4 0) 1 0 = 0 := by
  refine ⟨rfl, rfl, ?_, rfl⟩
  have e : beValue (auth0.drop 4) 2 12 = (Config.sha384 (bytesLe ((((ld 8 232 false).consume auth0).enterSection secAuth 0 auth0).eng.words.take
      ((((ld 8 232 false).consume auth0).enterSection secAuth 0 auth0).eng.secOff / 4)))).toNat :=
    digest_value _ (Config.sha384 []).isLt
  unfold State.authFaults
  simp only [e, ne_eq, not_true_eq_false, decide_false]
  decide +kernel

/-- The body of a DOMAINS section that gives every tile to bolt 0 and makes no bolt COMMITTED. -/
def oneBolt : List Word := List.replicate 130 0

def domSection : List Word := [7, 0x208, 0, 0] ++ oneBolt

theorem oneBolt_word (k : Nat) : oneBolt.getD k 0 = 0 := by
  rw [oneBolt, List.getD_eq_getElem?_getD, List.getElem?_replicate]; split <;> rfl

theorem oneBolt_tile (s : State) (hr : s.engReweave = false) (hd : s.eng.domains = oneBolt) : s.newTile = fun _ => 0 := by
  funext t
  simp only [State.newTile, hr, Engine.domTile, Engine.domWord, hd, oneBolt_word, Bool.false_eq_true, if_false]
  simp [fieldOf]

theorem oneBolt_taken (s : State) (off : Nat) (hr : s.engReweave = false) (hd : s.eng.domains = oneBolt) (hf : s.eng.frames = []) :
    s.domainsFaults off oneBolt = [] := by
  have row : ∀ r, rowBolts s.newTile r = [0] := by intro r; rw [oneBolt_tile s hr hd, rowBolts, List.map_const', List.length_range]; decide +kernel
  have own : ∀ b tw n, s.missingOwner b tw n = false := by intro b tw n; simp only [State.missingOwner, row, List.length_singleton, Nat.reduceLeDiff, decide_false, Bool.false_and]
  have none_ : s.boltFaults = [] := by simp only [State.boltFaults, hf, List.flatMap_nil]
  have any0 : ∀ (l : List Nat), l.any (fun _ => false) = false := by intro l; induction l <;> simp_all
  simp only [State.domainsFaults, hr, own, none_, oneBolt_word, any0, Bool.false_eq_true, if_false]
  have bits0 : ∀ k, bitOf (0 : Word) k = false := by intro k; simp [bitOf]
  simp only [bits0, Bool.false_and, any0]
  have len : oneBolt.length - 130 = 0 := by rw [oneBolt, List.length_replicate]
  rw [len, List.range_zero, List.flatMap_nil]
  simp [fault, firstFault, fieldOf]

/-- The address of word `k` of a PINMAP section's body, and whether its value passes the checks. -/
def pinAddr (k : Nat) : Nat := if k < 80 then regAddr .iobank (k / 4) (0x040 + 4 * (k % 4)) else pinBase ((k - 80) / 2) + 4 * (k % 2)

def pinWordBad (t : State) (w : Word × Nat) : Bool :=
  if w.2 < 80 then (t.valueBad ⟨.iobank, w.2 / 4⟩ (0x040 + 4 * (w.2 % 4)) w.1).isSome
  else (t.valueBad ⟨.pinmap, (w.2 - 80) / 2 / 128⟩ (0x100 + 8 * ((w.2 - 80) / 2 % 128) + 4 * (w.2 % 2)) w.1).isSome ||
    (decide (w.2 % 2 = 0) && !t.pinRulesOk ((w.2 - 80) / 2) (t.reg (rPinMap ((w.2 - 80) / 2))) (t.reg (rPinPad ((w.2 - 80) / 2))))

/-- Every pin and bank at its reset settings. -/
def pinBody : List Word := (List.range 2000).map (fun k => resetOf (pinAddr k))
def pinSection : List Word := [5, 8000, 0, 0] ++ pinBody
def pinState : State := ((ld 5 9000 false).consume pinSection).enterSection secPinmap 0 pinSection

theorem pinAddr_ge (k : Nat) : 0x10000 ≤ pinAddr k := by
  unfold pinAddr
  split <;> simp only [pinBase, regAddr, PageKind.info] <;> omega

theorem erase_unlisted {α : Type} (m : SMap α) (k : Nat) (h : ∀ e ∈ m, e.1 ≠ k) : m.erase k = m := by
  induction m with
  | nil => rfl
  | cons e m ih =>
    obtain ⟨j, v⟩ := e
    rw [SMap.erase, if_neg (h (j, v) List.mem_cons_self), ih (fun e he => h e (List.mem_cons_of_mem _ he))]

theorem setReg_reset (s : State) (a : Nat) (h : ∀ e ∈ s.regs, e.1 ≠ a) : s.setReg a (resetOf a) = s := by
  rw [State.setReg, SMap.set, if_pos rfl, erase_unlisted _ _ h]

theorem pinState_regs : pinState.regs.all (fun e => decide (e.1 < 0x10000)) = true := by decide +kernel

theorem pinBody_word (w : Word × Nat) (h : w ∈ pinBody.zipIdx) : w.2 < 2000 ∧ w.1 = resetOf (pinAddr w.2) := by
  obtain ⟨x, k⟩ := w
  obtain ⟨hk, e⟩ := List.mem_zipIdx' h
  simp only [pinBody, List.length_map, List.length_range] at hk
  exact ⟨hk, by simp [e, pinBody]⟩

theorem pinTrial_same (b : List (Word × Nat)) (h : ∀ w ∈ b, w.1 = resetOf (pinAddr w.2)) :
    b.foldl (fun s w => if w.2 < 80 then s.setReg (regAddr .iobank (w.2 / 4) (0x040 + 4 * (w.2 % 4))) w.1
      else s.setReg (pinBase ((w.2 - 80) / 2) + 4 * (w.2 % 2)) w.1) pinState = pinState := by
  induction b with
  | nil => rfl
  | cons w b ih =>
    have e : (if w.2 < 80 then pinState.setReg (regAddr .iobank (w.2 / 4) (0x040 + 4 * (w.2 % 4))) w.1
      else pinState.setReg (pinBase ((w.2 - 80) / 2) + 4 * (w.2 % 2)) w.1) = pinState.setReg (pinAddr w.2) w.1 := by
      unfold pinAddr; split <;> rfl
    rw [List.foldl_cons, e, h w List.mem_cons_self, setReg_reset]
    · exact ih (fun w hw => h w (List.mem_cons_of_mem _ hw))
    · intro e he
      have := List.all_eq_true.mp pinState_regs e he
      have := pinAddr_ge w.2
      simp only [decide_eq_true_eq] at *
      omega

def mapFields : List Field := [rwl 31 31 0, rwl 27 16 0, rwl 11 0 0]
def padFields : List Field := [rwlE 31 29 2 [(0, 5)], rwl 28 28 0, rwlE 27 24 0 [(0, 13)], rwl 23 22 0, rwl 21 20 0, rwl 19 19 0,
  rwl 18 18 0, rwl 9 0 0]

theorem many_covers (name : String) (b n st : Nat) (fs : List Field) (o : Nat) :
    (many name b n st fs).covers o = true ↔ b ≤ o ∧ (o - b) % st = 0 ∧ (o - b) / st < n := by
  show (decide (b ≤ o) && decide ((o - b) % st = 0) && decide ((o - b) / st < n)) = true ↔ _
  rw [Bool.and_eq_true, Bool.and_eq_true, decide_eq_true_eq, decide_eq_true_eq, decide_eq_true_eq, and_assoc]

theorem many_misses (name : String) (b w : Nat) (fs : List Field) (o : Nat) (h : b + 4 * w ≤ o) : (many name b w 4 fs).covers o = false := by
  rw [← Bool.not_eq_true, many_covers]
  omega

theorem pin_fields (i j : Nat) (n : j < (if i = 7 then 64 else 128)) :
    fieldsAt ⟨.pinmap, i⟩ (0x100 + 8 * j) = mapFields ∧ fieldsAt ⟨.pinmap, i⟩ (0x100 + 8 * j + 4) = padFields := by
  have w : (if i = 7 then 2 else 4) ≤ 4 := by split <;> omega
  have map : ∀ nm fs k, k < (if i = 7 then 64 else 128) → (many nm 0x100 (if i = 7 then 64 else 128) 8 fs).covers (0x100 + 8 * k) = true := by
    intro nm fs k hk
    rw [many_covers]
    omega
  have off : ∀ nm fs k, (many nm 0x100 (if i = 7 then 64 else 128) 8 fs).covers (0x100 + 8 * k + 4) = false := by
    intro nm fs k
    rw [← Bool.not_eq_true, many_covers]
    omega
  have pad : ∀ nm fs k, k < (if i = 7 then 64 else 128) → (many nm 0x104 (if i = 7 then 64 else 128) 8 fs).covers (0x100 + 8 * k + 4) = true := by
    intro nm fs k hk
    rw [many_covers]
    omega
  constructor
  · rw [fieldsAt, if_neg (by omega)]
    simp only [blockRegs, pinmapRegs, List.find?_cons, many_misses _ 0x040 _ _ _ (by omega : 0x040 + 4 * (if i = 7 then 2 else 4) ≤ 0x100 + 8 * j),
      many_misses _ 0x050 _ _ _ (by omega : 0x050 + 4 * (if i = 7 then 2 else 4) ≤ 0x100 + 8 * j),
      many_misses _ 0x060 _ _ _ (by omega : 0x060 + 4 * (if i = 7 then 2 else 4) ≤ 0x100 + 8 * j), map _ _ j n]
    rfl
  · rw [fieldsAt, if_neg (by omega)]
    simp only [blockRegs, pinmapRegs, List.find?_cons, many_misses _ 0x040 _ _ _ (by omega : 0x040 + 4 * (if i = 7 then 2 else 4) ≤ 0x100 + 8 * j + 4),
      many_misses _ 0x050 _ _ _ (by omega : 0x050 + 4 * (if i = 7 then 2 else 4) ≤ 0x100 + 8 * j + 4),
      many_misses _ 0x060 _ _ _ (by omega : 0x060 + 4 * (if i = 7 then 2 else 4) ≤ 0x100 + 8 * j + 4), off _ _ j, pad _ _ j n]
    rfl

theorem pin_resets (p : Nat) (h : p < 960) : resetOf (pinBase p) = 0 ∧ resetOf (pinBase p + 4) = 0x4000_0000 := by
  have n : p % 128 < (if p / 128 = 7 then 64 else 128) := by split <;> omega
  obtain ⟨f1, f2⟩ := pin_fields (p / 128) (p % 128) n
  obtain ⟨a1, -, b1⟩ := pageOf_reg .pinmap (p / 128) (0x100 + 8 * (p % 128)) (by show p / 128 < 8; omega) (by omega)
  obtain ⟨a2, -, b2⟩ := pageOf_reg .pinmap (p / 128) (0x100 + 8 * (p % 128) + 4) (by show p / 128 < 8; omega) (by omega)
  constructor
  · show resetOf (PageKind.pinmap.info.1 + p / 128 * 0x1000 + (0x100 + 8 * (p % 128))) = 0
    simp only [resetOf, a1, b1, f1]
    rw [if_neg (by omega), if_neg (by omega)]
    rfl
  · show resetOf (PageKind.pinmap.info.1 + p / 128 * 0x1000 + (0x100 + 8 * (p % 128) + 4)) = 0x4000_0000
    simp only [resetOf, a2, b2, f2]
    rw [if_neg (by omega), if_neg (by omega)]
    rfl

theorem pinState_reg (a : Nat) (h : 0x10000 ≤ a) : pinState.reg a = resetOf a := by
  have : ∀ m : SMap Word, m.all (fun e => decide (e.1 < 0x10000)) = true → SMap.get (resetOf a) m a = resetOf a := by
    intro m
    induction m with
    | nil => intro _; rfl
    | cons e m ih =>
      intro hm
      obtain ⟨k, v⟩ := e
      rw [List.all_cons, Bool.and_eq_true, decide_eq_true_eq] at hm
      rw [SMap.get, if_neg (by have := hm.1; simp only at this; omega)]
      exact ih hm.2
  exact this _ pinState_regs

theorem bankWords_ok : (List.range 80).all (fun k => !pinWordBad pinState (resetOf (pinAddr k), k)) = true := by decide +kernel

theorem pinWord_ok (k : Nat) (hk : k < 2000) : pinWordBad pinState (resetOf (pinAddr k), k) = false := by
  by_cases h : k < 80
  · have := List.all_eq_true.mp bankWords_ok k (List.mem_range.mpr h)
    rwa [Bool.not_eq_true'] at this
  · obtain ⟨z, e⟩ : ∃ p, p = (k - 80) / 2 := ⟨_, rfl⟩
    have hp : z < 960 := by omega
    obtain ⟨r1, r2⟩ := pin_resets z hp
    obtain ⟨f1, f2⟩ := pin_fields (z / 128) (z % 128) (by split <;> omega)
    rw [pinWordBad, if_neg h, pinAddr, if_neg h]
    simp only [← e]
    rcases Nat.mod_two_eq_zero_or_one k with o | o
    · have m1 : pinState.reg (rPinMap z) = 0 := by rw [rPinMap, pinState_reg _ (by simp only [pinBase, regAddr, PageKind.info]; omega), r1]
      have m2 : pinState.reg (rPinPad z) = 0x4000_0000 := by
        rw [rPinPad, pinState_reg _ (by simp only [pinBase, regAddr, PageKind.info]; omega), r2]
      have v : pinState.valueBad ⟨.pinmap, z / 128⟩ (0x100 + 8 * (z % 128)) 0 = none := by
        simp only [State.valueBad, f1, specialEncBad]
        rw [if_neg (by decide), if_neg]
        simp only [Bool.or_eq_true, Bool.and_eq_true, not_or]
        exact ⟨by decide, fun h => absurd h.2 (by decide)⟩
      have b : ∀ b out, pinState.bankBitOk b (fieldOf (0 : Word) 11 0) out = true ∧ pinState.bankBitOk b (fieldOf (0 : Word) 27 16) out = true := by
        intro b out; exact ⟨rfl, rfl⟩
      have ok : pinState.pinRulesOk z 0 0x4000_0000 = true := by
        simp only [State.pinRulesOk, b, (by decide : isMapped (0 : Word) = false), (by decide : isDifferential (fieldOf (0x4000_0000 : Word) 27 24) = false)]
        simp
      simp only [o, Nat.mul_zero, Nat.add_zero, r1, v, m1, m2, ok]
      rfl
    · have v : pinState.valueBad ⟨.pinmap, z / 128⟩ (0x100 + 8 * (z % 128) + 4) 0x4000_0000 = none := by
        simp only [State.valueBad, f2, specialEncBad]
        rw [if_neg (by decide), if_neg]
        simp only [Bool.or_eq_true, Bool.and_eq_true, not_or, decide_eq_true_eq]
        exact ⟨by decide, fun h => by omega⟩
      simp only [o, Nat.mul_one, r2, v]
      rfl

theorem pinBody_taken : pinState.pinmapFaults 16 pinBody = [] := by
  have frames : pinState.eng.frames = [] := rfl
  have trial : pinState.pinTrial pinBody = pinState := by
    rw [State.pinTrial, frames]
    exact pinTrial_same _ (fun w h => (pinBody_word w h).2)
  rw [State.pinmapFaults, trial, List.flatMap_eq_nil_iff]
  intro w hw
  obtain ⟨hk, e⟩ := pinBody_word w hw
  show fault _ (pinWordBad pinState w) _ = []
  have := pinWord_ok w.2 hk
  rw [← e] at this
  rw [this]; rfl

theorem pinSection_opens : (ld 5 9000 false).openUnit secPinmap pinSection = .body pinSection := by
  have p : (ld 5 9000 false).plain pinSection = pinSection := if_neg (by decide +kernel)
  have f : ((ld 5 9000 false).sectionFaults secPinmap (ld 5 9000 false).imageOff (fun j => pinSection.getD j 0)).head? = none := by
    decide +kernel
  rw [State.openUnit, if_neg (by decide +kernel), if_neg (by decide +kernel), if_neg (by decide +kernel),
    if_neg (by decide +kernel : ¬ (secPinmap = secDevice ∨ secPinmap = secAuth)), p]
  simp only [f]
  rw [if_neg (by decide +kernel), if_neg (by decide +kernel), if_neg (by decide +kernel)]

theorem witness_imagePinmap :
    (ld 5 9000 false).openUnit secPinmap pinSection = .body pinSection ∧ pinSection.length = 4 + (pinSection.getD 1 0).toNat / 4 ∧
      pinSection.drop 4 = pinBody ∧ pinState.pinmapFaults 16 pinBody = [] :=
  ⟨pinSection_opens, by decide +kernel, List.drop_left (l₁ := [5, 8000, 0, 0]), pinBody_taken⟩

/-- The engine after it has taken the words of `domSection`. -/
def domState : State :=
  let z := ((ld 7 1000 false).consume domSection).enterSection secDomains 0 domSection
  z.withEng { z.eng with domains := oneBolt }

theorem witness_imageDomains :
    (ld 7 1000 false).openUnit secDomains domSection = .body domSection ∧ domSection.length = 4 + (domSection.getD 1 0).toNat / 4 ∧
      domSection.drop 4 = oneBolt ∧ domState.domainsFaults 16 oneBolt = [] :=
  ⟨by decide +kernel, by decide +kernel, rfl, oneBolt_taken _ _ (by decide +kernel) rfl (by decide +kernel)⟩

/-- The engine reads section `k`, which holds one more unit. -/
def within (k : Nat) : State :=
  let s := ld k 1000 true
  { s with eng := { s.eng with secEnd := 1000, left := 1 } }

theorem witness_ImageUnitsComplete :
    let header : List Word := [0x4B4E_4249, 0x100, 0, 9, 0x148] ++ List.replicate 11 0
    let large : List Word := [0x4B4E_4249, 0x100, 0, 9, 0x100_0004] ++ List.replicate 11 0
    let device : List Word := [2, 16, 0, 0, 0x50, 0x4096, 0, 0]
    let other : List Word := [2, 16, 0, 0, 0x51, 0x4096, 0, 0]
    let run : List Word := [0, 1] ++ List.replicate 128 0
    let opening : List Word := [4, 520, 1, 0] ++ run
    let record : List Word := [8191, 0, 1, 0, 7, 0]
    let records : List Word := [6, 24, 1, 0] ++ record
    ((ld 1 0x148 false).hasWords header = true ∧ (ld 1 0x148 false).eng.sect = secHeader ∧ header.length = 16 ∧
      (ld 1 0x148 false).headerFaults (fun k => header.getD k 0) = [] ∧ (ld 1 0x148 false).beyondFlash (header.getD 4 0).toNat = false) ∧
    ((ld 1 0 false).hasWords large = true ∧ large.length = 16 ∧ (ld 1 0 false).headerFaults (fun k => large.getD k 0) = [] ∧
      (Config.flashFourByte = false → (ld 1 0 false).beyondFlash (large.getD 4 0).toNat = true)) ∧
    ((ld 2 1000 false).openUnit secDevice device = .body device ∧ device.length = 4 + (device.getD 1 0).toNat / 4 ∧
      device.getD 4 0 = 0x50 ∧ device.getD 5 0 = 0x4096 ∧ fieldOf (device.getD 6 0) 7 0 ≤ (ld 2 1000 false).fld 0x044 7 0 ∧
      fieldOf (device.getD 6 0) 31 8 = 0 ∧ device.getD 7 0 = 0) ∧
    ((ld 3 1000 false).openUnit secSettings (zeroSection 3 160) = .body (zeroSection 3 160) ∧
      (((ld 3 1000 false).consume (zeroSection 3 160)).enterSection 3 0 (zeroSection 3 160)).settingsFaults 16 (List.replicate 40 0) = [] ∧
      (ld 3 1000 false).engReweave = false) ∧
    ((within 4).eng.inside = true ∧ (within 4).openUnit secFrames run = .body run ∧ run.length = 2 + 128 * fieldOf (run.getD 1 0) 8 0 ∧
      ((within 4).consume run).runFaults 0 run = []) ∧
    ((ld 4 1000 false).openUnit secFrames opening = .body opening ∧ opening.getD 2 0 ≠ 0 ∧
      (((ld 4 1000 false).consume opening).enterSection 4 0 opening).runFaults 16 run = []) ∧
    ((ld 4 1000 false).openUnit secFrames [4, 0, 0, 0] = .body [4, 0, 0, 0] ∧
      (ld 6 1000 false).openUnit secCreelInit [6, 0, 0, 0] = .body [6, 0, 0, 0]) ∧
    ((within 6).openUnit secCreelInit record = .body record ∧ record.length = 4 + 2 * (record.getD 2 0).toNat ∧
      ((within 6).consume record).creelInitFaults 0 record = []) ∧
    ((ld 6 1000 false).openUnit secCreelInit records = .body records ∧ records.getD 2 0 ≠ 0 ∧
      (((ld 6 1000 false).consume records).enterSection 6 0 records).creelInitFaults 16 record = []) ∧
    ((ld 2 1000 false).openUnit secDevice [3, 16, 0, 0] = .bad 0 rejBadOrder ∧ (ld 2 1000 false).openUnit secDevice other = .body other ∧
      other.getD 4 0 ≠ 0x50 ∧ (ld 2 12 false).openUnit secDevice [] = .absent) ∧
    (∀ s ∈ [ld 2 1000 false, ld 8 232 false], s.Canonical) ∧ (ld 8 232 false).encrypted = false ∧ (ld 2 1000 false).issued = [] ∧
      (ld 2 1000 false).slotWait = [] :=
  ⟨by decide +kernel, ⟨by decide +kernel, by decide +kernel, by decide +kernel, fun h => by simp only [State.beyondFlash, h]; decide +kernel⟩,
    by decide +kernel, by decide +kernel, by decide +kernel, by decide +kernel, by decide +kernel, by decide +kernel, by decide +kernel,
    by decide +kernel, canonicals_of _ (by decide +kernel), by decide +kernel⟩
/-- Two recoverable groups: one whose frames came over QSPI, one from the FIFO. -/
def rc (step eng : Nat) (since : Nat) : State :=
  { rg [(rCfgStat, eng * 2 ^ 28)] State.reset with
    eng := { recovs := [⟨1, [0], since, step⟩], groups := [(1, some ⟨srcQspi, 0, 7⟩)] } }

theorem witness_ScrubbingAndRecoveryComplete :
    let last := rg [(rScrubPos, 14686209)] State.reset
    let flip : State := { State.reset with cfgMem := [(63, { data := 5, flip := 1#72 <<< 71 })] }
    State.reset.scrubOff = false ∧ nextFrame (State.reset.fld rScrubPos 23 0) = some 8 ∧
    (last.scrubOff = false ∧ nextFrame (last.fld rScrubPos 23 0) = none) ∧ flip.Canonical ∧ (flip.cfgWord 0 63).flip = 1#72 <<< 71 ∧
    State.reset.Canonical ∧ State.reset.Accepts 0 ⟨.scrub, 0⟩ 0x060 1 ∧
    ((rc 0 0 0).eng.recovs = [⟨1, [0], 0, 0⟩] ∧ (rc 0 0 0).sourceAvailable 1 true = true ∧ (rc 0 0 0).sourceAvailable 1 false = false) ∧
    ((rc 1 0 0).eng.recovs = [⟨1, [0], 0, 1⟩] ∧ (SMap.get none (rc 1 0 0).eng.groups 1).map (fun g => g.digest) = some 7 ∧
      (SMap.get none (rc 1 0 0).eng.groups 1).map (fun g => g.digest) ≠ some 8 ∧ (rc 1 0 0).engState = engIdle) ∧
    ((rc 1 2 0).engState ≠ engIdle ∧ (rc 1 2 0).engState ≠ engRecovering) ∧ (rc 2 0 0).eng.recovs = [⟨1, [0], 0, 2⟩] ∧
    ((rc 0 0 0).eng.recovs.find? (fun r => decide (r.since + 10000000 ≤ 10000000)) = some ⟨1, [0], 0, 0⟩ ∧
      (rc 0 0 0).eng.recovs.find? (fun r => decide (r.since + 10000000 ≤ 9999999)) = none) :=
  ⟨by decide +kernel, by decide +kernel, by decide +kernel, canonical_of _ (by decide +kernel), by decide +kernel, canonical_of _ (by decide +kernel),
    accepts_of _ _ _ _ _ (by decide +kernel), by decide +kernel⟩

theorem witness_BanksComplete :
    let off := State.reset
    let on := rg [(rBankStat 19, 0)] State.reset
    let warned := rg [(rBankStat 19, 2 ^ 30)] State.reset
    (∀ s ∈ [off, on, warned, { off with bankOk := [(19, true)] }], s.Canonical) ∧ (off.bankDisabled 19 = true ∧ on.bankDisabled 19 = false ∧ on.bit (rBankStat 19) 30 = false ∧
      warned.bit (rBankStat 19) 30 = true ∧ off.bit (rBankCfg 19) 5 = true ∧ (rg [(rBankCfg 19, 0)] off).bit (rBankCfg 19) 5 = false ∧
      (∀ s ∈ [off, on, warned], s.fld (rBankCfg 19) 2 0 = 0) ∧ 93 * 1800 ≤ 100 * 1674 ∧ 100 * 1673 < 93 * 1800 ∧ 90 * 1800 ≤ 100 * 1620 ∧
      100 * 1619 < 90 * 1800) ∧
    ({ off with bankOk := [(19, true)] } : State).Accepts 0 ⟨.iobank, 19⟩ 0x058 3 :=
  ⟨canonicals_of _ (by decide +kernel), by decide +kernel, accepts_of _ _ _ _ _ (by decide +kernel)⟩

/-- Pattern unit 31 is enabled in a mode; its lanes 0 and 15, on the pins 0 and 1 of an enabled bank, count. PAT_A is 0x8001, PAT_B 0x8000, and
the time 1; `wk` is its WAKE. -/
def pu (mode wk : Nat) (v : Pattern) : State :=
  { rg [(patBase 31, 2 ^ 31 + wk * 2 ^ 30 + mode * 2 ^ 28), (patBase 31 + 4, 0x8001_8001), (patBase 31 + 8, 0x0001_8000),
      (patBase 31 + 0x3C, 2 ^ 16), (rBankStat 0, 0)] State.reset with
    patterns := SMap.set {} [] 31 v }

/-- The state in which the debounced vector of unit 31 is taken. -/
def seen (level : Nat) (s : State) : State := ((s.countedLanes 31).foldl (fun s l => s.receive (s.lanePin 31 l) (level.testBit l)) s).settle

theorem witness_PinsAndPatternUnitsComplete :
    let at5 : State := { State.reset with now := 5 }
    let moved : State := { rg [(rPinMap 959, 1)] State.reset with pins := [(959, { chg := some 0 })] }
    let picked : State := { rg [(rPinMap 959, 2 ^ 31 + 1)] State.reset with pins := [(959, { chg := some 0 })] }
    let r := at5.recorded 0 ⟨.pinmap, 7⟩ (0x100 + 8 * 63) (2 ^ 31 + 2 ^ 16)
    let e := pu 0 0 { hits := [0x8001, 7] }
    let f := pu 0 1 { hits := [0xFFFF] }
    let g := rg [(patBase 31 + 0x10, 2 ^ 31)] e
    let mode (k : Nat) (v : Pattern) (level new : Nat) : Prop :=
      let s := pu k 0 v
      s.bit (patBase 31) 31 = true ∧ (seen level s).fld (patBase 31) 29 28 = k ∧ (seen level s).laneVector 31 = new ∧ (seen level s).pattern 31 = v ∧
        (seen level s).patA 31 = 0x8001 ∧ (seen level s).patB 31 = 0x8000
    (∀ s ∈ [State.reset, moved, e, f, g], s.Canonical) ∧ at5.Accepts 0 ⟨.pinmap, 7⟩ (0x100 + 8 * 63) (2 ^ 31 + 2 ^ 16) ∧
    (r.reg (rPinMap 959) ≠ at5.reg (rPinMap 959) ∧ r.pickedReg 959 = true ∧ isPort (r.inSelReg 959) = true ∧ r.inSelReg 959 - 1 ∉ at5.pickedIn) ∧
    at5.Accepts 0 ⟨.pinmap, 7⟩ (0x100 + 8 * 63) 0 ∧ (at5.recorded 0 ⟨.pinmap, 7⟩ (0x100 + 8 * 63) 0).reg (rPinMap 959) = at5.reg (rPinMap 959) ∧
    ((moved.pin 959).chg = some 0 ∧ (moved.pin 959).waiting = false ∧ 0 + 80 ≤ 80 ∧ (moved.pickedReg 959 && isPort (moved.outSelReg 959)) = false ∧
      (picked.pickedReg 959 && isPort (picked.outSelReg 959)) = true) ∧
    (State.reset.bit (patBase 31) 31 = false ∧ mode 0 { evaluated := true, v := 0x8001 } 0xFFFF 0x8001 ∧ mode 0 { evaluated := true } 0xFFFF 0x8001 ∧
      mode 0 { evaluated := true } 1 1 ∧ mode 1 { evaluated := true, v := 0x8001 } 0 0 ∧ mode 2 { evaluated := true, v := 0x8001 } 0 0 ∧
      mode 3 { evaluated := true, aAt := some 0 } 0x8000 0x8000 ∧ mode 0 {} 0xFFFF 0x8001 ∧ mode 1 {} 0 0 ∧ mode 2 {} 0x8000 0x8000) ∧
    ((e.pattern 31).hits = [0x8001, 7] ∧ (f.pattern 31).hits = [0xFFFF] ∧ e.bit (patBase 31) 30 = false ∧ f.bit (patBase 31) 30 = true ∧
      e.bit (patBase 31 + 0x10) 31 = false ∧ g.bit (patBase 31 + 0x10) 31 = true ∧ (g.pattern 31).hits = [0x8001, 7] ∧
      (State.reset.pattern 31).hits = []) ∧ State.reset.Accepts 0 ⟨.pattern, 0⟩ 0x040 (2 ^ 31) :=
  ⟨canonicals_of _ (by decide +kernel), accepts_of _ _ _ _ _ (by decide +kernel), by decide +kernel, accepts_of _ _ _ _ _ (by decide +kernel),
    by decide +kernel, by decide +kernel, by decide +kernel, by decide +kernel, accepts_of _ _ _ _ _ (by decide +kernel)⟩

/-- Unit `u` of the serial units is enabled. -/
def hp (u : Nat) (v : Periph) : State := { rg [(hpBase u, 2 ^ 31 + 9)] State.reset with periphs := SMap.set {} [] u v }

def bytes (k : Nat) : List Byte := List.replicate k 0x55

theorem witness_SerialUnitsComplete :
    let i := hp 3 { tx := bytes 16 }
    let s := hp 7 { tx := bytes 16 }
    let n := hp 9 {}
    let r := hp 9 { rx := bytes 1 }
    (∀ x ∈ [i, s], x.Canonical) ∧ i.hpEnabled 3 = true ∧ i.Accepts 0 ⟨.hostper, 0⟩ (0x104 + 0x20 * 3) (hpCommandWord 1 false 16) ∧
    i.Accepts 0 ⟨.hostper, 0⟩ (0x104 + 0x20 * 3) (hpCommandWord 2 false 16) ∧ i.Accepts 0 ⟨.hostper, 0⟩ (0x104 + 0x20 * 3) (hpCommandWord 3 false 1) ∧
    s.hpEnabled (4 + 3) = true ∧ s.Accepts 0 ⟨.hostper, 0⟩ (0x184 + 0x20 * 3) (hpCommandWord 1 true 16) ∧
    n.Accepts 0 ⟨.hostper, 0⟩ (0x204 + 0x20 * 1) (hpCommandWord 1 false 0) ∧ n.Accepts 0 ⟨.hostper, 0⟩ (0x10C + 0x20 * 9) 0xFF ∧
    n.AcceptsRead 0 ⟨.hostper, 0⟩ (0x110 + 0x20 * 9) ∧ r.AcceptsRead 0 ⟨.hostper, 0⟩ (0x110 + 0x20 * 9) ∧
    ((n.periph 9).rx = [] ∧ (r.periph 9).rx = [0x55]) ∧
    (((hp 7 { cmd := some (1, 16) }).periph 7).cmd = some (1, 16) ∧ (bytes 16).length = (if hpReceives 7 1 then 16 else 0)) ∧
    (((hp 3 { cmd := some (1, 0) }).periph 3).cmd = some (1, 0) ∧ State.reset.hpEnabled 9 = false ∧ ((hp 9 { rx := bytes 1 }).periph 9).rx.length = 1 ∧ (hp 9 { tx := bytes 1 }).hpBusy 9 = true) ∧
    (n.hpEnabled 9 = true ∧ (hp 9 { rx := bytes 15 }).hpEnabled 9 = true ∧ ((hp 9 { rx := bytes 15 }).periph 9).rx.length < 16 ∧
      16 ≤ ((hp 9 { rx := bytes 16 }).periph 9).rx.length) :=
  ⟨canonicals_of _ (by decide +kernel), by decide +kernel, accepts_of _ _ _ _ _ (by decide +kernel), accepts_of _ _ _ _ _ (by decide +kernel),
    accepts_of _ _ _ _ _ (by decide +kernel), by decide +kernel, accepts_of _ _ _ _ _ (by decide +kernel),
    accepts_of _ _ _ _ _ (by decide +kernel), accepts_of _ _ _ _ _ (by decide +kernel), reads_of _ _ _ _ (by decide +kernel),
    reads_of _ _ _ _ (by decide +kernel), by decide +kernel⟩

/-- Quad 11 with its power, a measured QREFCLK, and lane 3 with its settings. -/
def qd (pwr meas lcfg prbs : Nat) (c : Quad) (v : Lane) : State :=
  { rg [(sdReg 11 0x008, pwr), (sdReg 11 0x048, meas), (sdLane 11 3 0x00, lcfg), (sdLane 11 3 0x14, prbs)] State.reset with
    quads := SMap.set {} [] 11 c, lanes := SMap.set {} [] 47 v }

theorem witness_QuadsAndLanesComplete :
    let off := qd 0 0 0 0 {} {}
    let on := qd 1 0x3D09 0 0 { relock := true } {}
    let bad := qd 1 0 0 0 { pll := true } {}
    let pll := qd 1 0x3D09 (2 ^ 30) 0 { pll := true } {}
    let cdr := rg [(regAddr .mgmt 0 0x040, 0x20)] (qd 1 0x3D09 (2 ^ 30 + 2 * 2 ^ 25) (2 ^ 24) { pll := true } { cdr := true })
    let chk := qd 1 0x3D09 0 (2 ^ 24) { pll := true } { cdr := true, prbs := true }
    (∀ s ∈ [off, on, bad, pll, cdr, chk], s.Canonical) ∧ off.Accepts 0 ⟨.serdes, 11⟩ 0x008 1 ∧ off.quadOn 11 = false ∧
    on.Accepts 0 ⟨.serdes, 11⟩ 0x008 0 ∧ on.quadOn 11 = true ∧ on.Accepts 0 ⟨.serdes, 11⟩ 0x044 1 ∧ on.Accepts 0 ⟨.serdes, 11⟩ 0x044 2 ∧
    on.Accepts 0 ⟨.serdes, 11⟩ 0x044 4 ∧ on.Accepts 0 ⟨.serdes, 11⟩ (0x100 + 0x40 * 3 + 0x14) 1 ∧ on.Accepts 0 ⟨.serdes, 11⟩ (0x100 + 0x40 * 3) 0 ∧
    ((on.quad 11).relock = true ∧ on.refBad 11 = false ∧ on.pwr.removed = false ∧ bad.quadOn 11 = true ∧ (bad.quad 11).refLost = false ∧ bad.refBad 11 = true) ∧
    (pll.quadOn 11 = true ∧ (pll.quad 11).pll = true ∧ pll.receives 11 3 = true ∧ (pll.lane 11 3).cdr = false) ∧
    ((cdr.lane 11 3).cdr = true ∧ cdr.prbsRx 11 3 ≠ 0 ∧ cdr.fld (sdLane 11 3 0x00) 26 25 = 2 ∧ (cdr.lane 11 3).adapted = false ∧
      cdr.weftUp = true ∧ 3 ≠ fieldOf (cdr.quad 11).qcfg 19 18 ∧ SMap.wf (fun _ => (0 : Byte)) (cdr.lane 11 3).dfe = true ∧
      off.adapting 11 3 = false ∧ dfeOk (List.replicate 24 0) = true ∧ (chk.lane 11 3).prbs = true) :=
  ⟨canonicals_of _ (by decide +kernel), accepts_of _ _ _ _ _ (by decide +kernel), by decide +kernel, accepts_of _ _ _ _ _ (by decide +kernel),
    by decide +kernel, accepts_of _ _ _ _ _ (by decide +kernel), accepts_of _ _ _ _ _ (by decide +kernel),
    accepts_of _ _ _ _ _ (by decide +kernel), accepts_of _ _ _ _ _ (by decide +kernel), accepts_of _ _ _ _ _ (by decide +kernel),
    by decide +kernel, by decide +kernel, by decide +kernel⟩

/-- The same quad with its PLL locked, and lane 3 in a PCS mode. -/
def pc (lcfg : Nat) (bond : Nat) (v : Lane) : State :=
  qd 1 0x3D09 (2 ^ 30) 0 { pll := true, lcfg := SMap.set 0 [] 3 (BitVec.ofNat 32 lcfg), bond := BitVec.ofNat 32 bond } v

theorem witness_PcsAndFramesComplete :
    let f := pc (2 ^ 30 + 2 ^ 27 + 2 ^ 28) 0 { cdr := true, block := true, codeword := true }
    let r := pc 0 0 { cdr := true, buffer := List.replicate 63 0 }
    let full := pc 0 0 { cdr := true, buffer := List.replicate 64 0 }
    let b := pc (2 ^ 30 + 2 ^ 27) (2 ^ 31 + 8) { cdr := true, marker := true }
    let a := pc (2 ^ 30 + 2 ^ 27) (2 ^ 31 + 8) { cdr := true, marker := true, aligned := true }
    let fr (k : Nat) := pc (2 ^ 30) 0 { cdr := true, block := true, buffer := List.replicate k 0 }
    (∀ s ∈ [f, r, full, b, a, fr 31, fr 32], s.Canonical) ∧ f.Accepts 0 ⟨.pcs, 11⟩ 0x044 1 ∧ f.Accepts 0 ⟨.pcs, 11⟩ 0x044 4 ∧
    (∀ s ∈ [f, r, full], s.pcsRuns 11 3 = true ∧ s.prbsRx 11 3 = 0) ∧
    (framed (f.lcfg 11 3) = true ∧ (f.lane 11 3).block = true ∧ bitOf (f.lcfg 11 3) 27 = true ∧ fieldOf (f.lcfg 11 3) 29 28 ≠ 0 ∧
      (f.lane 11 3).codeword = true ∧ fecResultOk (.corrected 1) = true) ∧
    (framed (r.lcfg 11 3) = false ∧ (r.lane 11 3).buffer.length < 64 ∧ 64 ≤ (full.lane 11 3).buffer.length) ∧
    (f.txReads 11 3 = true ∧ (f.bridge (txBridge 11 3)).fifo = []) ∧
    (bondLanes 11 (b.quad 11).bond = [(11, 3)] ∧ ([0] : List (Fin 17)).length = (bondLanes 11 (b.quad 11).bond).length ∧
      (∀ l ∈ bondLanes 11 (b.quad 11).bond, b.pcsRuns l.1 l.2 = true ∧ (b.lane l.1 l.2).marker = true ∧ (b.lane l.1 l.2).aligned = false)) ∧
    ((11, 3) ∈ bondLanes 11 (a.quad 11).bond ∧ (a.lane 11 3).aligned = true) ∧
    (((fr 31).lane 11 3).buffer.length + 33 ≤ 64 ∧ 64 < ((fr 32).lane 11 3).buffer.length + 33) :=
  ⟨canonicals_of _ (by decide +kernel), accepts_of _ _ _ _ _ (by decide +kernel), accepts_of _ _ _ _ _ (by decide +kernel), by decide +kernel⟩

/-- Channel 255 is bound, side A to identity 0 and side B to identity 8; the directions of its sides A and B are given. -/
def sh (a b : ShDir) : State :=
  { rg [(rShBind 255, 2 ^ 31 + 8 * 2 ^ 16)] State.reset with shuttles := SMap.set {} (SMap.set {} [] 510 a) 511 b }

def msg1 (k : Nat) : ShMsg := ⟨k, [7], 0, false, false, none, 0⟩

theorem witness_BindingsAndSidesComplete :
    let a := sh {} {}
    let g : ShMsg := ⟨5, [7], 0, false, false, some 100, 0⟩
    let t := sh { msgs := [g] } {}
    let f := sh {} { msgs := [msg1 0, msg1 1, msg1 2, msg1 3] }
    (∀ s ∈ [a, f], s.Canonical) ∧ a.Accepts 0 ⟨.shuttle, 63⟩ (0x100 + 0x200 * 3) (BitVec.ofNat 32 (2 ^ 31 + 8 * 2 ^ 16)) ∧
    a.Accepts 0 ⟨.shuttle, 63⟩ (0x100 + 0x200 * 3) (BitVec.ofNat 32 (2 ^ 31 + 9 * 2 ^ 16)) ∧
    ((a.recorded 0 ⟨.shuttle, 63⟩ (0x100 + 0x200 * 3) (BitVec.ofNat 32 (2 ^ 31 + 9 * 2 ^ 16))).reg (rShBind 255) ≠ a.reg (rShBind 255) ∧
      (a.recorded 0 ⟨.shuttle, 63⟩ (0x100 + 0x200 * 3) (BitVec.ofNat 32 (2 ^ 31 + 8 * 2 ^ 16))).reg (rShBind 255) = a.reg (rShBind 255)) ∧
    a.Accepts 0 ⟨.shuttle, 0⟩ 0x040 1 ∧ ((t.sh 255 0).msgs = [g] ∧ g.due = some 100 ∧ 100 ≤ 100 ∧ g.acked = false) ∧
    a.Accepts 0 ⟨.shuttle, 63⟩ (0x164 + 0x200 * 3) (sideCommand 1 0xFFFF) ∧ a.Accepts 0 ⟨.shuttle, 63⟩ (0x164 + 0x200 * 3) (sideCommand 2 0) ∧
    a.Accepts 0 ⟨.shuttle, 63⟩ (0x164 + 0x200 * 3) (sideCommand 3 0) ∧
    ((∀ g ∈ (f.sh 255 (1 - 0)).msgs, g.old = false ∧ g.acked = false) ∧ (f.sh 255 (1 - 0)).acks = [] ∧ (f.sh 255 (1 - 0)).waiting = [] ∧
      (f.sh 255 (1 - 0)).msgs.length ≤ 4) :=
  ⟨canonicals_of _ (by decide +kernel), accepts_of _ _ _ _ _ (by decide +kernel), accepts_of _ _ _ _ _ (by decide +kernel), by decide +kernel,
    accepts_of _ _ _ _ _ (by decide +kernel), by decide +kernel, accepts_of _ _ _ _ _ (by decide +kernel),
    accepts_of _ _ _ _ _ (by decide +kernel), accepts_of _ _ _ _ _ (by decide +kernel), by decide +kernel⟩

theorem witness_SendersAndReceiversComplete :
    let a := sh {} {}
    let r := sh { reject := true } {}
    let w := sh { accum := [7], lenWritten := 1 } {}
    let m := sh {} { msgs := [msg1 0] }
    let e := sh {} { msgs := [{ msg1 0 with read := 1, acked := true }] }
    let k := sh { acks := [(0, 0xFFFF)] } {}
    (∀ s ∈ [a, r, w, m, e, k], s.Canonical) ∧ a.Accepts 0 ⟨.shuttle, 63⟩ (0x140 + 0x200 * 3) 7 ∧ (a.sh 255 0).reject = false ∧
    r.Accepts 0 ⟨.shuttle, 63⟩ (0x140 + 0x200 * 3) 7 ∧ (r.sh 255 0).reject = true ∧ r.Accepts 0 ⟨.shuttle, 63⟩ (0x140 + 0x200 * 3 + 4) 1 ∧
    w.Accepts 0 ⟨.shuttle, 63⟩ (0x140 + 0x200 * 3 + 4) 1 ∧ ((w.sh 255 0).reject = false ∧ (w.sh 255 0).accum ≠ []) ∧
    (∀ s ∈ [a, r, w], s.AcceptsRead 0 ⟨.shuttle, 63⟩ (0x140 + 0x200 * 3 + 8)) ∧ (a.sh 255 0).accum = [] ∧
    m.AcceptsRead 0 ⟨.shuttle, 63⟩ (0x140 + 0x200 * 3 + 0x18) ∧ ((m.sh 255 1).msgs = [msg1 0] ∧ (msg1 0).words[(msg1 0).read]? = some 7) ∧
    e.AcceptsRead 0 ⟨.shuttle, 63⟩ (0x140 + 0x200 * 3 + 0x18) ∧ (e.sh 255 1).msgs = [{ msg1 0 with read := 1, acked := true }] ∧
    m.Accepts 0 ⟨.shuttle, 63⟩ (0x140 + 0x200 * 3 + 0x20) 0xFFFF ∧ ((msg1 0).acked = false ∧ (msg1 0).old = false) ∧
    e.Accepts 0 ⟨.shuttle, 63⟩ (0x140 + 0x200 * 3 + 0x20) 0xFFFF ∧
    (∀ s ∈ [a, k], s.AcceptsRead 0 ⟨.shuttle, 63⟩ (0x140 + 0x200 * 3 + 0x14)) ∧ ((a.sh 255 0).acks = [] ∧ (k.sh 255 0).acks = [(0, 0xFFFF)] ∧ a.pwrState ≠ pwrEntering) :=
  ⟨canonicals_of _ (by decide +kernel), accepts_of _ _ _ _ _ (by decide +kernel), by decide +kernel, accepts_of _ _ _ _ _ (by decide +kernel),
    by decide +kernel, accepts_of _ _ _ _ _ (by decide +kernel), accepts_of _ _ _ _ _ (by decide +kernel), by decide +kernel,
    fun s h => reads_of _ _ _ _ (by revert s; decide +kernel), by decide +kernel, reads_of _ _ _ _ (by decide +kernel), by decide +kernel,
    reads_of _ _ _ _ (by decide +kernel), by decide +kernel, accepts_of _ _ _ _ _ (by decide +kernel), by decide +kernel,
    accepts_of _ _ _ _ _ (by decide +kernel), fun s h => reads_of _ _ _ _ (by revert s; decide +kernel), by decide +kernel⟩

theorem witness_SemaphoresComplete :
    let h : State := { State.reset with semas := [(255, some 0)] }
    let o : State := { State.reset with semas := [(255, some 8)] }
    let u := State.reset.begun ⟨.sema, 0⟩ 0x4FC
    (∀ s ∈ [State.reset, h, o], s.Canonical) ∧ State.reset.AcceptsRead 0 ⟨.sema, 0⟩ 0x4FC ∧ (State.reset.holder 255 = none ∧ h.holder 255 = some 0 ∧
      o.holder 255 = some 8) ∧ h.Accepts 0 ⟨.sema, 0⟩ 0x4FC 0 ∧
    (State.reset.inReset = false ∧ u.pageClosed 0 ⟨.sema, 0⟩ 0x4FC = none ∧ u.writeClosed 0 ⟨.sema, 0⟩ 0x4FC 1 = false ∧
      u.mayWrite 0 ⟨.sema, 0⟩ 0x4FC 1 = true ∧ u.writeClosed 0 ⟨.sema, 0⟩ 0x4FC 0 = false ∧ u.mayWrite 0 ⟨.sema, 0⟩ 0x4FC 0 = true) ∧
    o.Accepts 0 ⟨.sema, 0⟩ 0x080 (BitVec.ofNat 32 (2 ^ 31 + 255)) ∧ State.reset.Accepts 0 ⟨.sema, 0⟩ 0x08C (2 ^ 31) :=
  ⟨canonicals_of _ (by decide +kernel), reads_of _ _ _ _ (by decide +kernel), by decide +kernel, accepts_of _ _ _ _ _ (by decide +kernel),
    by decide +kernel, accepts_of _ _ _ _ _ (by decide +kernel), accepts_of _ _ _ _ _ (by decide +kernel)⟩

def ev1 : EvRec := ⟨3, 0, 100, 2, false, 9⟩
def evs (ring wait : Nat) : State := { State.reset with ev := { ring := List.replicate ring ev1, wait := List.replicate wait ev1 } }

theorem witness_EventRingComplete :
    (∀ s ∈ [evs 0 1, evs 4096 1, evs 1 0], s.Canonical) ∧
    ((evs 4095 1).ev.wait = [ev1] ∧ (evs 4095 1).ev.ring.length < 4096 ∧ (evs 4095 1).ev.ring.length ≠ 2047 ∧ (evs 4096 1).ev.wait = [ev1] ∧
      4096 ≤ (evs 4096 1).ev.ring.length) ∧
    (evs 1 0).AcceptsRead 0 ⟨.event, 0⟩ 0x100 ∧ (evs 0 0).AcceptsRead 0 ⟨.event, 0⟩ 0x100 ∧ ((evs 1 0).ev.ring = [ev1] ∧ (evs 0 0).ev.ring = []) ∧
    (evs 1 0).Accepts 0 ⟨.event, 0⟩ 0x04C 3 ∧ (evs 1 0).Accepts 0 ⟨.event, 0⟩ 0x04C 0 ∧ (evs 1 0).Accepts 0 ⟨.event, 0⟩ 0x050 (2 ^ 31) ∧
    (evs 1 0).Accepts 0 ⟨.event, 0⟩ 0x054 (2 ^ 31) :=
  ⟨canonicals_of _ (by decide +kernel), by decide +kernel, reads_of _ _ _ _ (by decide +kernel), reads_of _ _ _ _ (by decide +kernel),
    by decide +kernel, accepts_of _ _ _ _ _ (by decide +kernel), accepts_of _ _ _ _ _ (by decide +kernel),
    accepts_of _ _ _ _ _ (by decide +kernel), accepts_of _ _ _ _ _ (by decide +kernel)⟩

theorem witness_OccurrencesSetStickyBits :
    let on := rg [(regAddr .creel 8191 0x018, 2 ^ 31)] State.reset
    let routed := rg [(regAddr .eventMap 0 (0x100 + 4 * (Page.eventOfBit ⟨.creel, 8191⟩ 31 % 1024)), 2 ^ 31), (0x18 + regAddr .creel 8191 0, 2 ^ 31)] State.reset
    (∀ s ∈ [State.reset, on, routed], s.Canonical) ∧ 8191 < PageKind.creel.info.2.1 ∧ State.reset.bit (regAddr .creel 8191 0x018) 31 = false ∧
      on.bit (regAddr .creel 8191 0x018) 31 = true ∧ bitOf (routed.route (Page.eventOfBit ⟨.creel, 8191⟩ 31)) 31 = true :=
  ⟨canonicals_of _ (by decide +kernel), by decide +kernel⟩

/-- The sticky bits of one page occur in one cycle: the record of bit 30 is numbered before that of bit 31 already waiting. -/
theorem witness_OccurrencesAreNumberedInOrder :
    let n := Page.eventOfBit ⟨.creel, 8191⟩ 31
    let w : EvRec := ⟨0, 0, n, 31, false, 0⟩
    let s : State := { State.reset with ev := { wait := [w] } }
    s.Canonical ∧ w.time = s.now ∧ 32 * Page.eventOfBit ⟨.creel, 8191⟩ 30 + 30 < 32 * w.source + w.bit ∧ s.ev.wait = [] ++ w :: [] :=
  ⟨canonical_of _ (by decide +kernel), by decide +kernel⟩

def log1 : LogEntry := ⟨0, 0, 0, false, false, false, 0x4040, 5, 0⟩
def lg (n strict from_ : Nat) : State :=
  { rg [(regAddr .log 0 0x040, strict), (regAddr .log 0 0x05C, from_)] State.reset with log := { entries := List.replicate n log1, head := n } }

theorem witness_ChangeLogComplete :
    (∀ s ∈ [lg 2 0 2, lg logSize 0 0, lg logSize 1 0], s.Canonical) ∧ (lg 2 0 2).Accepts 0 ⟨.log, 0⟩ 0x058 1 ∧
    (lg 2 0 2).Accepts 0 ⟨.log, 0⟩ 0x058 2 ∧ ((lg 2 0 2).freeable = some 2 ∧ (lg 2 0 2).log.entries.length < logSize + 2) ∧
    (logSize ≤ (lg logSize 0 0).log.entries.length ∧ (lg logSize 0 0).logStrict = false ∧ (lg logSize 1 0).logStrict = true) ∧
    (∀ s ∈ [lg logSize 0 0, lg logSize 1 0], s.freeable = some 0) ∧ (lg logSize 0 0).Accepts 0 ⟨.log, 0⟩ 0x058 2 ∧
    (lg logSize 1 0).Accepts 0 ⟨.log, 0⟩ 0x058 2 :=
  ⟨canonicals_of _ (by decide +kernel), accepts_of _ _ _ _ _ (by decide +kernel), accepts_of _ _ _ _ _ (by decide +kernel), by decide +kernel,
    by decide +kernel, by decide +kernel, accepts_of _ _ _ _ _ (by decide +kernel), accepts_of _ _ _ _ _ (by decide +kernel)⟩


/-- A request with its parameters is the head message of a service channel; warp and weft firmware run. -/
def rq (ch op : Nat) (ps : List Word) (s : State) : State :=
  { rg [(rCoreStat, 0x21)] s with
    shuttles := SMap.set {} [] (2 * ch + clientSide ch) { msgs := [⟨0, BitVec.ofNat 32 (op * 2 ^ 16 + ps.length) :: ps, 0, false, false, none, 0⟩] } }

def weft (k : Nat) (wdog : Option Nat) : State := { rg [(rCoreStat, 16 * k)] State.reset with trust := { wdog := wdog } }

theorem witness_WeftCoreComplete :
    let l := weft weftLoading none
    (∀ s ∈ [State.reset, weft weftRunning none], s.Canonical) ∧ State.reset.Accepts 0 ⟨.mgmt, 0⟩ 0x044 1 ∧ (weft weftHeld none).Accepts 0 ⟨.mgmt, 0⟩ 0x044 0 ∧
    (State.reset.recorded 0 ⟨.mgmt, 0⟩ 0x044 0).weftState ≠ weftHeld ∧ ((weft weftHeld none).recorded 0 ⟨.mgmt, 0⟩ 0x044 0).weftState = weftHeld ∧
    (l.weftState = weftLoading ∧ l.bit rWeftCtrl 1 = false ∧ (rg [(rWeftCtrl, 2)] l).weftState = weftLoading ∧ (rg [(rWeftCtrl, 2)] l).bit rWeftCtrl 1 = true) ∧
    ((weft weftRunning (some 5)).trust.wdog = some 5 ∧ (weft weftRunning (some 5)).weftState = weftRunning ∧ (weft weftRunning (some 5)).now ≤ 5) ∧
    (weft weftRunning none).AcceptsRead 1 ⟨.mgmt, 0⟩ 0x04C ∧ (weft weftRunning none).AcceptsRead 0 ⟨.mgmt, 0⟩ 0x04C :=
  ⟨canonicals_of _ (by decide +kernel), accepts_of _ _ _ _ _ (by decide +kernel), accepts_of _ _ _ _ _ (by decide +kernel), by decide +kernel,
    by decide +kernel, by decide +kernel, by decide +kernel, reads_of _ _ _ _ (by decide +kernel), reads_of _ _ _ _ (by decide +kernel)⟩

def dbg (s : State) : State := (s.withJtag { s.jtag with instr := .debug }).settle
def life (k : Nat) (s : State) : State := rg [(0x050, k)] s

theorem witness_JtagComplete :
    let d := dbg (rg [(regAddr .creel 8191 0x02C, 5)] State.reset)
    let q := dbg (life lcSealed State.reset)
    d.AcceptsRead 5 ⟨.device, 0⟩ 0x040 ∧ d.Accepts 5 ⟨.creel, 8191⟩ 0x018 1 ∧
      (isStart ⟨.creel, 8191⟩ 0x018 1 = false ∧ ((d.begun ⟨.creel, 8191⟩ 0x018).effectOf 5 ⟨.creel, 8191⟩ 0x018 ((d.begun ⟨.creel, 8191⟩
        0x018).view 5 ⟨.creel, 8191⟩ 0x018) 1).waits = false) ∧
      (q.inReset = false ∧ q.debugOpen = false ∧
        (∀ w ∈ [true, false], q.waits { master := 5, addr := regAddr .creel 8191 0xFFC, write := w, value := 5 } = false) ∧ q.unpowered ⟨.creel, 8191⟩ 0xFFC = false ∧ q.testBusy ⟨.creel, 8191⟩ 0xFFC = false) :=
  ⟨reads_of _ _ _ _ (by decide +kernel), accepts_of _ _ _ _ _ (by decide +kernel), by decide +kernel, by decide +kernel⟩

theorem witness_ServiceChecksComplete :
    let msg (c : Fin 3) (ps : List Word) : SvcMsg := ⟨c, 0, ps⟩
    let t (s : State) (op : Nat) (c : Fin 3) (ps : List Word) : State := s.taken op (msg c ps)
    State.reset.mayServe 1 = false ∧ (rq 1 0x22 [] State.reset).isRequest 0x30 (msg 1 [1]) = false ∧
    (∀ e ∈ ([(1, 0x22, []), (2, 0x106, [])] : List (Fin 3 × Nat × List Word)), (rq e.1.val e.2.1 e.2.2 State.reset).mayServe e.1 = true ∧
      (rq e.1.val e.2.1 e.2.2 State.reset).isRequest e.2.1 (msg e.1 e.2.2) = true ∧ (rq e.1.val e.2.1 e.2.2 State.reset).shuttingDown = false ∧
      (rq e.1.val e.2.1 e.2.2 (State.reset.setPwr pwrShutdown)).shuttingDown = true) ∧
    (t (rq 2 0x106 [1] State.reset) 0x106 2 [1]).requestBad 0x106 (msg 2 [1]) = some codeBadLength ∧
    (t (rq 1 0x106 [] State.reset) 0x106 1 []).requestBad 0x106 (msg 1 []) = some codeNotPermitted ∧
    (t (rq 1 0x22 [] State.reset) 0x22 1 []).requestBad 0x22 (msg 1 []) = none ∧ forwarded 0x22 = true ∧
    ((rq 0 0x7FF [] State.reset).mayServe 0 = true ∧ (rq 0 0x7FF [] State.reset).isRequest 0x7FF (msg 0 []) = true ∧ (∀ e ∈ opcodes, e.1 ≠ 0x7FF)) ∧
    State.reset.Canonical :=
  ⟨by decide +kernel, by decide +kernel, by decide +kernel, by decide +kernel, by decide +kernel, by decide +kernel, by decide +kernel,
    by decide +kernel, canonical_of _ (by decide +kernel)⟩

def up0 : State := { State.reset with boot := { stage := .up } }
/-- The other direction of a channel has little room. -/
def narrow (ch : Nat) (s : State) : State :=
  { s with shuttles := SMap.set {} s.shuttles (2 * ch + serverSide ch) { accum := [0] } }

theorem perform_page (e : Issued) (p : Page) (hw : inFabricWindow e.addr = false) (hp : pageOf e.addr = some p) (ht : e.timedOut = false) :
    e.perform = pageAccess e p := by
  funext s
  simp only [Issued.perform, Issued.arrive, hp, hw, ht, Bool.false_eq_true, if_false]

/-- Firmware learns the code of its access, whatever it is. -/
theorem access_code (f : State → State) (s : State) (hr : s.inReset = false) (hm : isHostId (f s.forgetAnswer).resp.master = false)
    (he : enginePage (f s.forgetAnswer).resp.master = none) : (access f s).resp.code = (f s.forgetAnswer).resp.code := by
  have e : access f s = (f s.forgetAnswer).noteRejection := by rw [access, if_neg (by rw [hr]; decide)]
  rw [e, State.noteRejection, hm, he]
  split <;> rfl

theorem witness_WeftServicesComplete :
    let q (op : Nat) (ps : List Word) (s : State) : State := rq 1 op ps s
    let m (ps : List Word) : SvcMsg := ⟨1, 0x7F, ps⟩
    let tag (s : State) (op : Nat) (ps : List Word) : State :=
      { s with shuttles := SMap.set {} s.shuttles 2 { msgs := [⟨0, BitVec.ofNat 32 (op * 2 ^ 16 + 0x7F * 2 ^ 8 + ps.length) :: ps, 0, false, false, none, 0⟩] } }
    let a := tag (q 1 [] up0) 1 []
    let n := narrow 1 a
    let g (k : Nat) : State := tag (q 2 [BitVec.ofNat 32 k] up0) 2 [BitVec.ofNat 32 k]
    let v (mv : Nat) (s : State) : State := tag (q 0x20 [BitVec.ofNat 32 mv] s) 0x20 [BitVec.ofNat 32 mv]
    let p (k : Nat) (s : State) : State := tag (q 0x21 [BitVec.ofNat 32 k] s) 0x21 [BitVec.ofNat 32 k]
    let write (s : State) (k : Nat) : State := access (Issued.perform { master := 1, addr := regAddr .power 0 0x044, write := true, value := if k = 1 then 1 else 2 }) (s.taken 0x21 (m [BitVec.ofNat 32 k]))
    a.Serves 1 (m []) ∧ n.Serves 1 (m []) ∧ ((a.taken 1 (m [])).replyFits 1 (List.replicate 7 0) = true ∧
      (n.taken 1 (m [])).replyFits 1 (List.replicate 7 0) = false) ∧
    (g 0).Serves 2 (m [0]) ∧ (g 1).Serves 2 (m [1]) ∧ (g 2).Serves 2 (m [2]) ∧ (g 3).Serves 2 (m [3]) ∧
    (((g 2).taken 2 (m [2])).replyFits 1 (List.replicate 5 0) = true ∧ ((narrow 1 (g 2)).taken 2 (m [2])).replyFits 1 (List.replicate 5 0) = false) ∧
    (tag (q 0x10 [0, 0, 64, 1] up0) 0x10 [0, 0, 64, 1]).Serves 0x10 (m [0, 0, 64, 1]) ∧
    (tag (q 0x11 [0, 1] up0) 0x11 [0, 1]).Serves 0x11 (m [0, 1]) ∧ (tag (q 0x12 [0, 0, 64, 0] up0) 0x12 [0, 0, 64, 0]).Serves 0x12 (m [0, 0, 64, 0]) ∧
    (v 549 up0).Serves 0x20 (m [549]) ∧ (v 901 up0).Serves 0x20 (m [901]) ∧ (v 550 up0).Serves 0x20 (m [550]) ∧ (v 900 up0).Serves 0x20 (m [900]) ∧
    (p 0 up0).Serves 0x21 (m [0]) ∧ (p 1 up0).Serves 0x21 (m [1]) ∧ (write (p 0 up0) 0).resp.code ≠ 0 ∧ (write (rg [(regAddr .power 0 0x02C, 1)] (p 1 up0)) 1).resp.code = 0 :=
  ⟨serves_of _ _ _ (by decide +kernel), serves_of _ _ _ (by decide +kernel), by decide +kernel, serves_of _ _ _ (by decide +kernel),
    serves_of _ _ _ (by decide +kernel), serves_of _ _ _ (by decide +kernel), serves_of _ _ _ (by decide +kernel), by decide +kernel,
    serves_of _ _ _ (by decide +kernel), serves_of _ _ _ (by decide +kernel), serves_of _ _ _ (by decide +kernel), serves_of _ _ _ (by decide +kernel),
    serves_of _ _ _ (by decide +kernel), serves_of _ _ _ (by decide +kernel), serves_of _ _ _ (by decide +kernel), serves_of _ _ _ (by decide +kernel),
    serves_of _ _ _ (by decide +kernel), by decide +kernel, by decide +kernel⟩

theorem witness_WarpServicesComplete :
    let m (ps : List Word) : SvcMsg := ⟨2, 0, ps⟩
    let run (s : State) : State := access (Issued.perform { master := 0, addr := rTestCmd, write := true, value := BitVec.ofNat 32 (2 ^ 31 + 0x100) }) ((rq 2 0x30 [0x100] s).taken 0x30 (m [0x100]))
    let own : List Word := [BitVec.ofNat 32 (regAddr .creel 8190 0), BitVec.ofNat 32 (regAddr .creel 8191 0), 5]
    let z := (rq 2 0x103 own up0).taken 0x103 (m own)
    (rq 2 0x22 [] up0).Serves 0x22 (m []) ∧ (∀ k ∈ [0x100, 0x80000000, 0x200, 0], (rq 2 0x30 [BitVec.ofNat 32 k] up0).Serves 0x30 (m [BitVec.ofNat 32 k])) ∧ (run up0).resp.code ≠ 0 ∧
    (run (life 2 up0)).resp.code = 0 ∧
    (∀ k ∈ [0x00073F02, 0x00080000, 0x80FF3F3F], (rq 2 0x40 [BitVec.ofNat 32 k] up0).Serves 0x40 (m [BitVec.ofNat 32 k]) ∧
      fieldOf (BitVec.ofNat 32 k) 30 24 = 0 ∧ fieldOf (BitVec.ofNat 32 k) 15 14 = 0 ∧ fieldOf (BitVec.ofNat 32 k) 7 6 = 0) ∧
    (fieldOf (0x00080000 : Word) 23 16 = 8 ∧ ((rq 2 0x40 [0x00080000] up0).bit (regAddr .shuttle 0 0x040) 0 = false) ∧
      ((rg [(regAddr .shuttle 0 0x040, 1)] (rq 2 0x40 [0x00080000] up0)).bit (regAddr .shuttle 0 0x040) 0 = true)) ∧
    (rq 2 0x41 [] up0).Serves 0x41 (m []) ∧ (rq 2 0x103 own up0).Serves 0x103 (m own) ∧
    (pageRange (regAddr .creel 8190 0) (regAddr .creel 8191 0) = some [⟨.creel, 8190⟩, ⟨.creel, 8191⟩] ∧
      ∀ p ∈ ([⟨.creel, 8190⟩, ⟨.creel, 8191⟩] : List Page), z.valueBad p 0x02C 5 = none ∧ ownerFixed p.kind = false ∧ z.bit (p.base + 0x030) 0 = false) ∧
    (rq 2 0x104 [0, 0, 0x200000] up0).Serves 0x104 (m [0, 0, 0x200000]) ∧ (rq 2 0x105 [0x10000] up0).Serves 0x105 (m [0x10000]) ∧
    (rq 2 0x106 [] up0).Serves 0x106 (m []) :=
  ⟨serves_of _ _ _ (by decide +kernel), fun k h => serves_of _ _ _ (by revert k; decide +kernel),
    by rw [perform_page _ ⟨.test, 0⟩ (by decide +kernel) (by decide +kernel) rfl,
      access_code _ _ (by decide +kernel) (by decide +kernel) (by decide +kernel)]; decide +kernel,
    by rw [perform_page _ ⟨.test, 0⟩ (by decide +kernel) (by decide +kernel) rfl,
      access_code _ _ (by decide +kernel) (by decide +kernel) (by decide +kernel)]; decide +kernel,
    fun k h => ⟨serves_of _ _ _ (by revert k; decide +kernel), by revert k; decide +kernel⟩, by decide +kernel, serves_of _ _ _ (by decide +kernel),
    serves_of _ _ _ (by decide +kernel), by decide +kernel, serves_of _ _ _ (by decide +kernel), serves_of _ _ _ (by decide +kernel),
    serves_of _ _ _ (by decide +kernel)⟩

/-- Parts are staged, and a burn is running. -/
def tru (st : Option Staged) (b : Option Burn) (s : State) : State := { s with trust := { s.trust with staged := st, burn := b } }

theorem witness_LifeCycleComplete :
    let m (ps : List Word) : SvcMsg := ⟨2, 0, ps⟩
    let e (part count : Nat) : List Word := [BitVec.ofNat 32 (part * 2 ^ 24 + count * 2 ^ 20), 1, 2, 3, 4]
    let staged (slot count parts : Nat) : Option Staged := some ⟨slot, count, List.replicate (4 * parts) 0⟩
    let q (op : Nat) (ps : List Word) (st : Option Staged) : State := tru st none (rq 2 op ps up0)
    let adv (target : Nat) : List Word := [BitVec.ofNat 32 target, 0]
    let l (target : Nat) (s : State) : State := rq 2 0x101 (adv target) s
    let tok : State := { up0 with trust := { token := some [BitVec.ofNat 32 (2 ^ 28 + 5), 0, 0, 3] } }
    (∀ x ∈ [(e 0 6, none), (e 5 6, none), (e 6 6, none), (e 4 6, staged 0 6 4), (e 5 6, staged 0 6 5)], (q 0x100 x.1 x.2).Serves 0x100 (m x.1)) ∧
    (let z := (q 0x100 (e 0 6) none).taken 0x100 (m (e 0 6))
     (z.lcState = 2 ∨ z.lcState = 3) ∧ z.fld rKeyStat 1 0 = 0 ∧ z.trust.staged = none) ∧
    ((q 0x100 (e 5 6) (staged 0 6 5)).taken 0x100 (m (e 5 6))).trust.staged = staged 0 6 5 ∧
    (∀ x ∈ [(e 0 7, none), (e 5 7, staged 16 7 5), (e 6 7, staged 16 7 6)], (q 0x102 x.1 x.2).Serves 0x102 (m x.1)) ∧
    ((q 0x102 (e 6 7) (staged 16 7 6)).taken 0x102 (m (e 6 7))).trust.staged = staged 16 7 6 ∧
    (∀ x ∈ [7, 2, 4, 5, 6], (l x up0).Serves 0x101 (m (adv x)) ∧ paramOf (m (adv x)) 2 = ((l x up0).taken 0x101 (m (adv x))).reg rSerialLo) ∧
    paramOf (m (adv 5)) 2 ≠ (rg [(rSerialLo, 1)] up0).reg rSerialLo ∧
    (up0.lcState = 3 ∧ lcKnown 3 2 = false ∧ lcKnown 3 4 = true ∧ up0.lcCondition 4 = false ∧ lcKnown 3 5 = true ∧ up0.lcCondition 5 = true ∧
      lcToken 3 5 = some 1 ∧ up0.tokenGood 1 5 true = false ∧ tok.tokenGood 1 5 true = true ∧ lcKnown 3 6 = true ∧ up0.lcCondition 6 = true ∧
      lcToken 3 6 = none) ∧
    State.reset.Canonical ∧ (tru none (some (.life 6)) up0).burnWaits = false ∧ (tru none (some (.key 1 [])) up0).burnWaits = false ∧
    (let s : State := { up0 with pwr := { up0.pwr with warn := 64 } }
     (tru none (some (.life 6)) (s.setServing 2 (some ⟨0x101, false, 0, none⟩))).serving 2 = some ⟨0x101, false, 0, none⟩ ∧ s.burnWaits = true) :=
  ⟨fun x h => serves_of _ _ _ (by revert x; decide +kernel), by decide +kernel, by decide +kernel, fun x h => serves_of _ _ _ (by revert x; decide +kernel),
    by decide +kernel, fun x h => ⟨serves_of _ _ _ (by revert x; decide +kernel), by revert x; decide +kernel⟩, by decide +kernel,
    by decide +kernel, canonical_of _ (by decide +kernel), by decide +kernel, by decide +kernel, by decide +kernel⟩

def warnAt (w : Nat) (removed : Bool) (s : State) : State := { s with pwr := { s.pwr with warn := w, removed := removed } }

theorem witness_RailEventsComplete :
    (∀ s ∈ [up0, warnAt 8 false up0], s.Canonical) ∧ ((0 : Nat) = up0.now ∧ up0.pwr.warn.testBit 3 = false ∧ up0.pwr.removed = false ∧
      (warnAt 8 false up0).pwr.warn.testBit 3 = true ∧ (warnAt 0 true up0).pwr.removed = true ∧ 0 < warnLevel 3 ∧ 0 < warnLevel 9) ∧
    SMap.get 0 (warnAt 8 false up0).pwr.dipMin 3 < 2 ^ 16 ∧ (List.replicate 10 (700 : BitVec 16)).length = 10 ∧ up0.Accepts 0 ⟨.power, 0⟩ 0x114 1 :=
  ⟨canonicals_of _ (by decide +kernel), by decide +kernel, by decide +kernel, rfl, accepts_of _ _ _ _ _ (by decide +kernel)⟩

theorem witness_ResetsComplete :
    up0.Canonical ∧ up0.trust.burn = none ∧ up0.now ≤ 0 ∧ up0.Accepts 0 ⟨.reset, 0⟩ 0x048 5 ∧ up0.pwr.refLost = false ∧
      up0.masked 3 = false ∧ (warnAt 0 true up0).masked 3 = true ∧ ({ up0 with pwr := { refLost := true } } : State).pwr.refLost = true :=
  ⟨canonical_of _ (by decide +kernel), by decide +kernel, by decide +kernel, accepts_of _ _ _ _ _ (by decide +kernel), by decide +kernel⟩

/-- A power state; the fabric rail is removed or on. -/
def pw (k : Nat) (removed on : Bool) : State := { up0.setPwr k with pwr := { removed := removed, fabPwrEn := on } }

theorem witness_SleepAndWakeComplete :
    let r : State := { up0 with pick := { released := true } }
    let f : State := { pw pwrEntering false true with bolts := [(0, { stage := .overrun })], pwr := { fabPwrEn := true, closing := some 0, closeHit := true } }
    (∀ s ∈ [up0, pw pwrSleeping true false, pw pwrWaking true true, pw pwrActive false true], s.Canonical) ∧
    up0.Accepts 0 ⟨.power, 0⟩ 0x044 1 ∧ up0.pick.released = false ∧ r.Accepts 0 ⟨.power, 0⟩ 0x044 1 ∧ r.pick.released = true ∧
    (f.pwrState = pwrEntering ∧ f.entryFails 0 = true) ∧ ((pw pwrEntering false true).pwrState = pwrEntering ∧ (pw pwrEntering false true).allClosed = true) ∧
    (pw pwrSleeping true false).Accepts 0 ⟨.power, 0⟩ 0x044 2 ∧
    ((pw pwrSleeping true false).pwrState = pwrSleeping ∧ (pw pwrWaking true true).pwrState = pwrWaking ∧ (pw pwrActive false true).pwrState = pwrActive ∧
      (∀ k < 3, (rg [(rWakeCfg, 7)] up0).bit rWakeCfg k = true)) ∧
    ((pw pwrSleeping true true).pwr.removed = true ∧ (pw pwrSleeping true true).pwr.warn.testBit 4 = false ∧ (pw pwrSleeping true true).pwr.fabPwrEn = true ∧
      (pw pwrSleeping true true).pwrState ≠ pwrWaking ∧ (pw pwrWaking true true).pwr.warn.testBit 4 = false ∧
      (pw pwrWaking true true).pwr.fabPwrEn = true) ∧
    ((pw pwrWaking true true).pwr.removed = true ∧ (pw pwrWaking true true).pwr.tw + 2500000 ≤ 2500000 ∧ (pw pwrWaking false true).pwr.removed = false) :=
  ⟨canonicals_of _ (by decide +kernel), accepts_of _ _ _ _ _ (by decide +kernel), by decide +kernel, accepts_of _ _ _ _ _ (by decide +kernel),
    by decide +kernel, by decide +kernel, by decide +kernel, accepts_of _ _ _ _ _ (by decide +kernel), by decide +kernel, by decide +kernel,
    by decide +kernel⟩

def boot (b : BootStage) : State := { up0 with boot := { stage := b } }

/-- The record of a doff test that ran all patterns and passed every class, as the given seal closes it. -/
def passed (cmac : Nat) : DoffRec := ⟨0, 1, 1, 0x1FF01FF, [], cmac, false⟩

/-- The device as warp ROM finds it after that test. -/
def rested (cmac : Nat) : State := { rg [(rKeyStat, 0x10)] State.reset with boot := { slots := [(0, some (passed cmac))] } }

/-- The quick path, for a seal that does not happen to be 0. -/
theorem witness_QuickPath (h : sealOf (passed 0) ≠ 0) :
    (rested (sealOf (passed 0))).boot.stage = .rom ∧ (rested (sealOf (passed 0))).fullReason = 0 := by
  refine ⟨rfl, ?_⟩
  have k : sealOf (passed (sealOf (passed 0))) = sealOf (passed 0) := rfl
  generalize sealOf (passed 0) = x at *
  have d : (rested x).doffRec = some (passed x) := rfl
  have v : (rested x).keyValid 2 = true := by
    show (rg [(rKeyStat, 0x10)] State.reset).keyValid 2 = true
    decide +kernel
  have c : (passed x).complete = true := by
    show (passed 0).complete = true
    decide +kernel
  have n : fieldOf (passed x).classes 8 0 = 0x1FF := by
    show fieldOf (passed 0).classes 8 0 = 0x1FF
    decide +kernel
  have r : (rested x).recState = 3 := by
    simp only [State.recState, d, v, k, c, n]
    simp [passed, h]
  have q : (rested x).fld rNvssQuick 5 0 = 0 := by
    show (rg [(rKeyStat, 0x10)] State.reset).fld rNvssQuick 5 0 = 0
    decide +kernel
  have b : (rested x).reg rNvssBoot = 0 := by
    show (rg [(rKeyStat, 0x10)] State.reset).reg rNvssBoot = 0
    decide +kernel
  simp only [State.fullReason, d, v, r, q, b]
  simp [passed]

/-- DEVICE_UP has one case for each value of `qspiBoot`, which reads the straps alone. -/
theorem witness_ShutdownAndStartUpComplete :
    (∀ b ∈ [BootStage.rom, .sanity, .clearing], (boot b).Canonical) ∧ up0.Accepts 0 ⟨.power, 0⟩ 0x044 3 ∧
    (up0.shuttingDown = false ∧ up0.boot.stage = .up ∧ up0.pwrState ≠ pwrSleeping ∧ up0.pwrState ≠ pwrWaking ∧ (pw pwrWaking true true).pwrState = pwrWaking ∧
      (pw pwrSleeping true true).shuttingDown = false ∧ (boot .full).shuttingDown = false) ∧
    ((pw pwrShutdown false true).pwrState = pwrShutdown ∧ (pw pwrShutdown false true).pwr.removed = false ∧ (pw pwrShutdown false true).allClosed = true ∧
      (pw pwrShutdown false true).boot.left = [] ∧ (pw pwrShutdown false true).burnWaits = false) ∧
    ((boot .rom).pwr.refLost = false ∧ (boot .rom).burnWaits = false ∧ (boot .rom).fullReason ≠ 0) ∧
    (rg [(0x058, 3)] (boot .clearing)).qspiBoot = true ∧ (boot .clearing).qspiBoot = false :=
  ⟨fun b h => canonical_of _ (by revert b; decide +kernel), accepts_of _ _ _ _ _ (by decide +kernel), by decide +kernel, by decide +kernel,
    by decide +kernel, by decide +kernel, by decide +kernel⟩

/-- A test of a state runs and has classes left. -/
def testing (st : Nat) (left : List Nat) : State := { rg [(rTestStat, st * 2 ^ 28)] up0 with boot := { stage := .up, left := left } }

theorem witness_TestsComplete :
    let res (st : Nat) (left : List Nat) (c : Nat) (good : Bool) : State := ({ testing st left with now := 0 } : State).recordClass c 5 5 good
    let failed (w : State) : Nat := w.fld rTestResult 24 16 - w.fld rTestResult 8 0
    (∀ s ∈ [testing testFull [2, 9], testing testFull [9], testing testDoff [9], testing testOnDemand [9]],
      s.boot.left ≠ [] ∧ s.testWaits = false ∧ s.now ≤ 0) ∧
    ((res testFull [2, 9] 2 false).testState = testFull ∧ (failed (res testFull [2, 9] 2 false)).testBit 1 = true ∧
      failed (res testFull [2, 9] 2 true) = 0 ∧ (res testDoff [9] 9 true).testState = testDoff ∧ (res testOnDemand [9] 9 true).testState = testOnDemand) ∧
    (life 2 up0).Accepts 0 ⟨.test, 0⟩ 0x040 (BitVec.ofNat 32 (2 ^ 31 + 0x100)) ∧ (life 2 up0).Accepts 0 ⟨.test, 0⟩ 0x040 (BitVec.ofNat 32 (2 ^ 31)) ∧
    (life 0x802 up0).Accepts 0 ⟨.test, 0⟩ 0x040 (2 ^ 30) ∧ up0.Canonical :=
  ⟨by decide +kernel, by decide +kernel, accepts_of _ _ _ _ _ (by decide +kernel), accepts_of _ _ _ _ _ (by decide +kernel),
    accepts_of _ _ _ _ _ (by decide +kernel), canonical_of _ (by decide +kernel)⟩

/-! Operands that the well-formedness check refuses. -/

def refusedIll (i : Instr) : Bool :=
  !i.wellFormed && (match exec i State.reset with | .refused .illFormed => true | _ => false)

/-- A request that crosses a 4 KiB page (R43). -/
theorem test_hostMemoryRequest_crosses_a_page : refusedIll (.hostMemoryRequest 0 .bar0 0xFFC .write 15 15 [1, 2] 0 false false) = true := by decide +kernel
/-- A read that carries data. -/
theorem test_hostMemoryRequest_read_with_data : refusedIll (.hostMemoryRequest 0 .bar0 0 .read 15 15 [1] 1 false false) = true := by decide +kernel
theorem test_configRequest_unaligned : refusedIll (.configRequest 0 0x042 false 0) = true := by decide +kernel
/-- 24 DFE taps (R384). -/
theorem test_adaptDone_23_taps : refusedIll (.adaptDone 0 0 1 1 (List.replicate 23 0)) = true := by decide +kernel
/-- RS(544,514) corrects at most 15 symbols (R393). -/
theorem test_fecCodeword_16_symbols : refusedIll (.fecCodeword 0 0 (.corrected 16)) = true := by decide +kernel
theorem test_linkUp_speed_6 : refusedIll (.linkUp 6 16) = true := by decide +kernel
theorem test_linkUp_width_12 : refusedIll (.linkUp 5 12) = true := by decide +kernel
theorem test_speedChange_0 : refusedIll (.speedChange 0) = true := by decide +kernel
theorem test_getTelemetry_4_words : refusedIll (.getTelemetry ⟨1, 0, [2]⟩ [1, 2, 3, 4]) = true := by decide +kernel
theorem test_jtagSamplePreload_959_levels : refusedIll (.jtagSamplePreload (List.replicate 959 true)) = true := by decide +kernel
theorem test_railMeasure_9_rails : refusedIll (.railMeasure (List.replicate 9 750) 1) = true := by decide +kernel

/-! Single steps, with the results that the manual's examples give. -/

/-- The state a command leaves. -/
def after (i : Instr) (s : State) : State :=
  match exec i s with
  | .next t => t
  | _ => s

/-- The addresses of chapter 00's example and of Table 2-7. -/
theorem test_page_addresses :
    regAddr .creel 4610 0 = 0x01602000 ∧ regAddr .twill (3333 / 16) 0 = 0x001E0000 ∧ regAddr .pace 5 0x030 = 0x00035030 := by decide

/-- PACE[5] is owned by identity 8. -/
def pace5 : State := rg [(0x0003502C, 8)] (host [0])

/-- Table 2-7, step 1: a write that sets a reserved bit is rejected and recorded. -/
theorem test_page_lock_reserved_bit :
    let t := after (.pageLockSet (.pf 0) 0x35 3) pace5
    t.reg 0x00035020 = 0x00010001 ∧ t.reg 0x00035024 = 0x22000030 ∧ t.bit 0x00035030 0 = false := by decide +kernel
/-- Table 2-7, step 2. -/
theorem test_page_lock_accepted :
    let t := after (.pageLockSet (.pf 0) 0x35 1) pace5
    t.bit 0x00035030 0 = true ∧ t.reg 0x00035028 = pace5.reg 0x00035028 + 1 ∧ (t.log.entries.map (fun e => e.addr)) = [0x00035030] := by decide +kernel
/-- Table 2-7, steps 3 and 4: NOT_PERMITTED for identity 1, LOCKED for the owner. -/
theorem test_locked_page_rejects :
    let s := rg [(0x00035030, 1)] pace5
    (after (.registerWrite .weft 0x00035044 15 0x21) s).errCode ⟨.pace, 5⟩ = 4 ∧ (after (.registerWrite (.pf 0) 0x00035044 15 0x21) s).errCode ⟨.pace, 5⟩ = 3 := by
  decide +kernel

/-- Chapter 03's example: cell 1.40.17.0 adds a = 3 and b = 2; the operand bits are constants here (XSEL 0 and 1). -/
def adder : State :=
  let f := reedFrame (reedNo 1 40 17)
  { host [0] with
    pick := { released := true }, bolts := SMap.set {} [] 2 { stage := .open },
    cfgMem := [(64 * f, { data := 0x0FF00FF066666666 }), (64 * f + 16, { data := 0x2030700865 }), (64 * f + 26, { data := 0x0101000001010001 })],
    cells := [(reedNo 1 40 17 * 16, { joined := true, expired := true })] }

theorem test_adder_slice :
    let s := adder
    (s.dA (reedNo 1 40 17) 0, s.dB (reedNo 1 40 17) 0) = (true, false) := by decide +kernel

/-- Table 9-6: a MAC with pre-add, A = 1,000, D = 24, B = −300 and ACC = 5,000,000, in block 2,305 of bolt 5. -/
def mac (inject : Nat) (emit : Bool) : State :=
  let s : State := { rg [(rTwCfg 2305, 2 * 2 ^ 29 + 2 ^ 27 + 2 ^ 25 + 5), (rTwInject 2305, inject), (rBoltMode, 2 ^ 5)] (host [0]) with
    pick := { released := true }, bolts := SMap.set {} [] 5 { stage := .open } }
  let o : TwOp := ⟨1000, BitVec.ofInt 24 (-300), 24, false, false, emit, []⟩
  { s with twills := SMap.set {} [] 2305 { ops := [{ o with rho := (s.twOperands 2305 o).map residue }], acc := 5000000, res := 5 } }

theorem test_mac_example :
    let t := after (.twillOperationComplete 2305 {}) (mac 0 true)
    (t.twill 2305).acc = 4692800 ∧ (t.twill 2305).res = 0 ∧ (t.twill 2305).ops = [] := by decide +kernel
/-- Table 9-7: bit 12 of the adder's result is inverted; the response is withheld and the bolt has a fault at the block. -/
theorem test_mac_injected_fault :
    let t := after (.twillOperationComplete 2305 {}) (mac 0x8800000C true)
    (t.twill 2305).acc = 5000000 ∧ (t.twill 2305).resps = [] ∧ t.reg (rTwErrs 2305) = 0x00010003 ∧
      (t.bolt 5).pend = some (0x01, 2305, 0) := by decide +kernel

/-- Table 10-12, step 5: the settings written to PACE[5] are taken, and the net waits for its lock. -/
theorem test_pace_apply :
    let s := rg [(0x00035040, 0xC0040000), (0x00035044, 0x20), (0x00035048, 0x12599F), (0x0003504C, 0x122)] pace5
    let t := after (.paceApply (.pf 0) 5 1) s
    t.resp.code = 0 ∧ (t.pace 5).pending = some ⟨0xC0040000, 0x20, 0x12599F, 0x122⟩ := by decide +kernel

/-- R508: IDCODE holds the stepping, 0x4096, the manufacturer code and 1. -/
theorem test_idcode : after .jtagIdcode State.reset = jtagInstrOp .idcode (State.reset.withJtag
    { State.reset.jtag with out := BitVec.ofNat 32 (0x4096 * 2 ^ 12 + place Config.jtagMaker.toNat 1 + 1) }) := by
  have e : State.reset.fld 0x044 3 0 = 0 := by decide +kernel
  simp only [after, exec, execJtagIdcode, idcodeOp, e, place, Nat.zero_mul, Nat.zero_add]

/-- R460: a read of a free semaphore takes it for the reader, and a read by another finds the holder. -/
theorem test_semaphore :
    let t := after (.semaLockRead (.pf 0) 9) (host [0])
    t.resp.data = [0x80000008] ∧ t.holder 9 = some 8 ∧ (after (.semaLockRead .weft 9) t).resp.data = [8] := by decide +kernel

/-- R519: the lowest level is kept in RAIL_MIN. -/
theorem test_rail_min :
    let t := after (.railMeasure (List.replicate 10 700) 5) (host [0])
    t.reg (rRailMin 9) = 700 ∧ t.fld (rRailMv 0) 15 0 = 700 ∧ t.now = 5 := by decide +kernel

/-- R496: HEARTBEAT counts the reads of the weft core alone. -/
theorem test_heartbeat :
    (after (.heartbeat .weft) (host [0])).reg rHeartbeat = 1 ∧ (after (.heartbeat .warp) (host [0])).reg rHeartbeat = 0 := by decide +kernel

/-- A step takes the front of the queue, and with an empty one a D1 cycle of 1 ns passes. -/
theorem test_step_takes_the_front :
    (match step { host [0] with pending := [.heartbeat .weft, .perst] } with
     | .next t => decide (t.pending = [.perst] ∧ t.reg rHeartbeat = 1)
     | _ => false) = true ∧ step (host [0]) = .next { host [0] with now := 1 } := ⟨by decide +kernel, by rfl⟩

/-- No word of the opcode table spells a command, and the queue stays as it is. -/
theorem test_no_words : decodeTableWord 32 5 = none ∧ (host [0]).withFetchWord 32 5 = host [0] := ⟨rfl, rfl⟩

end Sys2Proof.Tests
end

section
/-!
The invariant of the device, kept by every step. `exec_follows` puts together what `Follows` says of each command; a power-on reset, which
starts device time again, is the one command it leaves out, and `exec_keeps` adds what that one keeps.
-/

namespace Sys2Proof.Machine

/-- Every command but a power-on reset leaves the queue as it is, never moves device time back and keeps the memories canonical: one
line per arm of `exec`. -/
theorem exec_follows {c : Instr} {s t : State} (hc : ∀ vaon straps, c ≠ .powerOnReset vaon straps) (h : exec c s = .next t) :
    Follows s t := by
  cases c with
  | registerWrite m addr be v => exact execRegisterWrite_follows m addr be v s h
  | pageLockSet m page v => exact execPageLockSet_follows m page v s h
  | pairLoRead m addr => exact execPairLoRead_follows m addr s h
  | busSlotGranted m => exact execBusSlotGranted_follows m s h
  | busTimeout n t => exact execBusTimeout_follows n t s h
  | lateCompletion n t => exact execLateCompletion_follows n t s h
  | hostMemoryRequest f bar off op be last ws len poisoned ecrcBad => exact execHostMemoryRequest_follows f bar off op be last ws len poisoned ecrcBad s h
  | configRequest f off write v => exact execConfigRequest_follows f off write v s h
  | fabricWindowAccess m off write v => exact execFabricWindowAccess_follows m off write v s h
  | sysRefclkLoss t => exact execSysRefclkLoss_follows t s h
  | sysRefclkReturn t => exact execSysRefclkReturn_follows t s h
  | bdJoinComplete c => exact execBdJoinComplete_follows c s h
  | bdDelayExpired c => exact execBdDelayExpired_follows c s h
  | bdCapture c viol => exact execBdCapture_follows c viol s h
  | bdInputRequestsFall c => exact execBdInputRequestsFall_follows c s h
  | bdAckInRise c => exact execBdAckInRise_follows c s h
  | bdAckInFall c => exact execBdAckInFall_follows c s h
  | twoSlotTransfer c => exact execTwoSlotTransfer_follows c s h
  | drRailSet c viol => exact execDrRailSet_follows c viol s h
  | drAckOutRise c => exact execDrAckOutRise_follows c s h
  | drRailsClear c => exact execDrRailsClear_follows c s h
  | drAckOutFall c => exact execDrAckOutFall_follows c s h
  | drReady c => exact execDrReady_follows c s h
  | selectCorrupted frame word mask => exact execSelectCorrupted_follows frame word mask s h
  | domainLeak r tap handshake => exact execDomainLeak_follows r tap handshake s h
  | pickApply m v => exact execPickApply_follows m v s h
  | applied t => exact execApplied_follows t s h
  | closing b t => exact execClosing_follows b t s h
  | gridPoint t => exact execGridPoint_follows t s h
  | closingPoint t => exact execClosingPoint_follows t s h
  | freeze b t => exact execFreeze_follows b t s h
  | drainConfirm b idle t => exact execDrainConfirm_follows b idle t s h
  | beatUpEnd b t => exact execBeatUpEnd_follows b t s h
  | paceGateOpen t => exact execPaceGateOpen_follows t s h
  | pickOverrun b t => exact execPickOverrun_follows b t s h
  | clkEdgeInDrain r t => exact execClkEdgeInDrain_follows r t s h
  | vfabFaultTrip p mv t => exact execVfabFaultTrip_follows p mv t s h
  | rollback b upset t => exact execRollback_follows b upset t s h
  | rollbackEnd b t => exact execRollbackEnd_follows b t s h
  | boltRollback m b => exact execBoltRollback_follows m b s h
  | boltHalt m b => exact execBoltHalt_follows m b s h
  | boltResume m b upset => exact execBoltResume_follows m b upset s h
  | holdEnd b t => exact execHoldEnd_follows b t s h
  | creelPortRequest n p => exact execCreelPortRequest_follows n p s h
  | creelArrayAccess n state upset => exact execCreelArrayAccess_follows n state upset s h
  | creelResponseAck n p => exact execCreelResponseAck_follows n p s h
  | correctedWriteback n => exact execCorrectedWriteback_follows n s h
  | creelScrubRead n => exact execCreelScrubRead_follows n s h
  | winRead m n view word => exact execWinRead_follows m n view word s h
  | winWrite m n word => exact execWinWrite_follows m n word s h
  | winInject m n word => exact execWinInject_follows m n word s h
  | queuePush n perr upset => exact execQueuePush_follows n perr upset s h
  | queuePop n upset => exact execQueuePop_follows n upset s h
  | blockedPushTaken n perr => exact execBlockedPushTaken_follows n perr s h
  | blockedPopTaken n => exact execBlockedPopTaken_follows n s h
  | qPushElement m n perr upset => exact execQPushElement_follows m n perr upset s h
  | qPushLast m n perr => exact execQPushLast_follows m n perr s h
  | qPushAbort m n => exact execQPushAbort_follows m n s h
  | qPopLo m n upset => exact execQPopLo_follows m n upset s h
  | qFlush m n => exact execQFlush_follows m n s h
  | qFlushNow m n => exact execQFlushNow_follows m n s h
  | twillOperationCapture n => exact execTwillOperationCapture_follows n s h
  | twillCascadeToken n => exact execTwillCascadeToken_follows n s h
  | twillOperationComplete n upset => exact execTwillOperationComplete_follows n upset s h
  | twillResponseAck n => exact execTwillResponseAck_follows n s h
  | twInject m n v => exact execTwInject_follows m n v s h
  | sample2Attempt n sampled => exact execSample2Attempt_follows n sampled s h
  | holdOffer n v => exact execHoldOffer_follows n v s h
  | bridgeFlagCrossed n d => exact execBridgeFlagCrossed_follows n d s h
  | bridgeFabricToken n => exact execBridgeFabricToken_follows n s h
  | bridgeClockedWrite n v torn => exact execBridgeClockedWrite_follows n v torn s h
  | bridgeClockedRead n => exact execBridgeClockedRead_follows n s h
  | bridgePulse n => exact execBridgePulse_follows n s h
  | svResync m k v => exact execSvResync_follows m k v s h
  | clockLost n t => exact execClockLost_follows n t s h
  | bridgeClockReturn n t => exact execBridgeClockReturn_follows n t s h
  | fbpTargetResponse n => exact execFbpTargetResponse_follows n s h
  | fbpInitiatorRequest n => exact execFbpInitiatorRequest_follows n s h
  | fbpInitiatorResponse n => exact execFbpInitiatorResponse_follows n s h
  | paceApply m g v => exact execPaceApply_follows m g v s h
  | paceSettingsTaken g t => exact execPaceSettingsTaken_follows g t s h
  | paceLocked g t => exact execPaceLocked_follows g t s h
  | paceRefLost g t => exact execPaceRefLost_follows g t s h
  | paceLockLost g t => exact execPaceLockLost_follows g t s h
  | paceMeasure g edges t => exact execPaceMeasure_follows g edges t s h
  | startFull m src => exact execStartFull_follows m src s h
  | startReweave m src => exact execStartReweave_follows m src s h
  | cfgAbort m => exact execCfgAbort_follows m s h
  | cfgRelease m => exact execCfgRelease_follows m s h
  | cfgFifo m v => exact execCfgFifo_follows m v s h
  | imageHeader ws => exact execImageHeader_follows ws s h
  | imageDeviceCheck ws => exact execImageDeviceCheck_follows ws s h
  | imageSettings ws => exact execImageSettings_follows ws s h
  | imageFrameRun ws => exact execImageFrameRun_follows ws s h
  | imagePinmap ws => exact execImagePinmap_follows ws s h
  | imageCreelInitRecord ws => exact execImageCreelInitRecord_follows ws s h
  | imageDomains ws => exact execImageDomains_follows ws s h
  | imageAuth ws => exact execImageAuth_follows ws s h
  | signatureVerified sigOk tagOk t => exact execSignatureVerified_follows sigOk tagOk t s h
  | clearingDone t => exact execClearingDone_follows t s h
  | recoverySourceCheck flashAnswers t => exact execRecoverySourceCheck_follows flashAnswers t s h
  | recoveryGroupRead digest t => exact execRecoveryGroupRead_follows digest t s h
  | recoveryRewriteDone t => exact execRecoveryRewriteDone_follows t s h
  | recoveryTimeLimit t => exact execRecoveryTimeLimit_follows t s h
  | panelHopMeasure p hop temp => exact execPanelHopMeasure_follows p hop temp s h
  | vccoWarn b mv => exact execVccoWarn_follows b mv s h
  | bankDisabled b mv => exact execBankDisabled_follows b mv s h
  | bankReenable b => exact execBankReenable_follows b s h
  | bankEnable m b v => exact execBankEnable_follows m b v s h
  | bankVccoMeasure b mv => exact execBankVccoMeasure_follows b mv s h
  | changeover m p v t => exact execChangeover_follows m p v t s h
  | changeoverDone p t => exact execChangeoverDone_follows p t s h
  | pinFilterPass p level => exact execPinFilterPass_follows p level s h
  | matchUnit u t => exact execMatchUnit_follows u t s h
  | i2cWrite m u len => exact execI2cWrite_follows m u len s h
  | i2cRead m u len => exact execI2cRead_follows m u len s h
  | i2cWriteRead m u len => exact execI2cWriteRead_follows m u len s h
  | spiTransfer m u len holdCs => exact execSpiTransfer_follows m u len holdCs s h
  | uartFlush m u => exact execUartFlush_follows m u s h
  | hpTx m u v => exact execHpTx_follows m u v s h
  | hpRx m u => exact execHpRx_follows m u s h
  | hpCommandDone u how rx => exact execHpCommandDone_follows u how rx s h
  | uartRxByte u line v => exact execUartRxByte_follows u line v s h
  | quadPwr m q v => exact execQuadPwr_follows m q v s h
  | sdApply m q => exact execSdApply_follows m q s h
  | sdReset m q => exact execSdReset_follows m q s h
  | pllLocked q => exact execPllLocked_follows q s h
  | sdRefLost q => exact execSdRefLost_follows q s h
  | qrefMeasure q meas => exact execQrefMeasure_follows q meas s h
  | cdrLocked q l => exact execCdrLocked_follows q l s h
  | cdrLost q l => exact execCdrLost_follows q l s h
  | adaptDone q l vga ctle dfe => exact execAdaptDone_follows q l vga ctle dfe s h
  | ebSlip q l level => exact execEbSlip_follows q l level s h
  | prbsInject m q l v => exact execPrbsInject_follows m q l v s h
  | prbsLock q l => exact execPrbsLock_follows q l s h
  | prbsLockLost q l bits => exact execPrbsLockLost_follows q l bits s h
  | loopbackChange m q l v => exact execLoopbackChange_follows m q l v s h
  | pcsApply m q => exact execPcsApply_follows m q s h
  | blockLock q l => exact execBlockLock_follows q l s h
  | blockLockLost q l => exact execBlockLockLost_follows q l s h
  | pcsRxFrame q l blocks => exact execPcsRxFrame_follows q l blocks s h
  | fecCodeword q l r => exact execFecCodeword_follows q l r s h
  | txUnderrun q l => exact execTxUnderrun_follows q l s h
  | bondAligned q skews => exact execBondAligned_follows q skews s h
  | bondLost q => exact execBondLost_follows q s h
  | linkTrainingStart t => exact execLinkTrainingStart_follows t s h
  | linkUp speed width => exact execLinkUp_follows speed width s h
  | speedChange speed => exact execSpeedChange_follows speed s h
  | flr f => exact execFlr_follows f s h
  | flrComplete f => exact execFlrComplete_follows f s h
  | bmeClear f => exact execBmeClear_follows f s h
  | d3Entry f => exact execD3Entry_follows f s h
  | d0Return f => exact execD0Return_follows f s h
  | ptmDialogue ok offset t => exact execPtmDialogue_follows ok offset t s h
  | deviceReadCompletion tag st ws => exact execDeviceReadCompletion_follows tag st ws s h
  | completionTimeout tag => exact execCompletionTimeout_follows tag s h
  | dmaEnable m ch => exact execDmaEnable_follows m ch s h
  | dmaDisable m ch => exact execDmaDisable_follows m ch s h
  | dmaReset m ch v => exact execDmaReset_follows m ch v s h
  | dmaDoorbellPi m ch v => exact execDmaDoorbellPi_follows m ch v s h
  | dmaDoorbellCplCi m ch v => exact execDmaDoorbellCplCi_follows m ch v s h
  | descriptorFetch ch => exact execDescriptorFetch_follows ch s h
  | dmaDataReadDone ch => exact execDmaDataReadDone_follows ch s h
  | dmaLevelPoll ch t => exact execDmaLevelPoll_follows ch t s h
  | dmaIdleTimeout ch t => exact execDmaIdleTimeout_follows ch t s h
  | dmaRecord ch => exact execDmaRecord_follows ch s h
  | tailDiscarded ch => exact execTailDiscarded_follows ch s h
  | shBind m ch v => exact execShBind_follows m ch v s h
  | shBindLock m v => exact execShBindLock_follows m v s h
  | txData m ch d v => exact execTxData_follows m ch d v s h
  | txSend m ch d v => exact execTxSend_follows m ch d v s h
  | txCommit m ch d => exact execTxCommit_follows m ch d s h
  | rxData m ch d => exact execRxData_follows m ch d s h
  | rxAck m ch d v => exact execRxAck_follows m ch d v s h
  | ackCode m ch d => exact execAckCode_follows m ch d s h
  | ackTimeout ch d t => exact execAckTimeout_follows ch d t s h
  | flushRx m ch d code => exact execFlushRx_follows m ch d code s h
  | clrPeerReset m ch d => exact execClrPeerReset_follows m ch d s h
  | semaLockRead m n => exact execSemaLockRead_follows m n s h
  | semaRelease m n => exact execSemaRelease_follows m n s h
  | semaCmdFree m n => exact execSemaCmdFree_follows m n s h
  | recPop m => exact execRecPop_follows m s h
  | usrRaise m hi v => exact execUsrRaise_follows m hi v s h
  | logFree m => exact execLogFree_follows m s h
  | weftReset m v => exact execWeftReset_follows m v s h
  | weftContainerVerified ok patch version => exact execWeftContainerVerified_follows ok patch version s h
  | weftWdog t => exact execWeftWdog_follows t s h
  | heartbeat m => exact execHeartbeat_follows m s h
  | getInfo msg => exact execGetInfo_follows msg s h
  | getTelemetry msg power => exact execGetTelemetry_follows msg power s h
  | loadImageHost msg => exact execLoadImageHost_follows msg s h
  | loadImageFlash msg => exact execLoadImageFlash_follows msg s h
  | reweave msg => exact execReweave_follows msg s h
  | setVfab msg confirmed => exact execSetVfab_follows msg confirmed s h
  | setPowerState msg => exact execSetPowerState_follows msg s h
  | serviceShutdown msg => exact execServiceShutdown_follows msg s h
  | runTest msg => exact execRunTest_follows msg s h
  | bindChannel msg => exact execBindChannel_follows msg s h
  | lockBindings msg => exact execLockBindings_follows msg s h
  | enrolKey msg => exact execEnrolKey_follows msg s h
  | lcAdvance msg tokenOk => exact execLcAdvance_follows msg tokenOk s h
  | stageToken msg => exact execStageToken_follows msg s h
  | setOwner msg => exact execSetOwner_follows msg s h
  | loadWeft msg => exact execLoadWeft_follows msg s h
  | setPolicy msg => exact execSetPolicy_follows msg s h
  | resetWeft msg => exact execResetWeft_follows msg s h
  | unknownOpcode msg opcode => exact execUnknownOpcode_follows msg opcode s h
  | fuseBurnDone t => exact execFuseBurnDone_follows t s h
  | keyBurnDone t => exact execKeyBurnDone_follows t s h
  | jtagSamplePreload preload => exact execJtagSamplePreload_follows preload s h
  | dbgAccess write addr v => exact execDbgAccess_follows write addr v s h
  | railWarn k mv t => exact execRailWarn_follows k mv t s h
  | railRecovered k t => exact execRailRecovered_follows k t s h
  | railMeasure mvs t => exact execRailMeasure_follows mvs t s h
  | powerOnReset vaon straps => exact absurd rfl (hc vaon straps)
  | railReset k t => exact execRailReset_follows k t s h
  | deviceReset m => exact execDeviceReset_follows m s h
  | warpException t => exact execWarpException_follows t s h
  | pwrSleep m t => exact execPwrSleep_follows m t s h
  | sleepRefused t => exact execSleepRefused_follows t s h
  | sleepEntered t => exact execSleepEntered_follows t s h
  | pwrWake m t => exact execPwrWake_follows m t s h
  | wakePin t => exact execWakePin_follows t s h
  | wakeRailsReady upset t => exact execWakeRailsReady_follows upset t s h
  | wakeLate t => exact execWakeLate_follows t s h
  | wakeComplete t => exact execWakeComplete_follows t s h
  | pwrShutdown m t => exact execPwrShutdown_follows m t s h
  | pwrdnReq t => exact execPwrdnReq_follows t s h
  | doffStart expected t => exact execDoffStart_follows expected t s h
  | testClassDone signature patterns good twills t => exact execTestClassDone_follows signature patterns good twills t s h
  | warpRomBoot digestOk t => exact execWarpRomBoot_follows digestOk t s h
  | sanityCheckDone engineOk nvssOk shadowOk failing t => exact execSanityCheckDone_follows engineOk nvssOk shadowOk failing t s h
  | deviceUp flashImage t => exact execDeviceUp_follows flashImage t s h
  | testStart m mask => exact execTestStart_follows m mask s h
  | diagEn m v => exact execDiagEn_follows m v s h
  | clockedCapture c viol race => exact execClockedCapture_follows c viol race s h
  | paceRefReturn g t => exact execPaceRefReturn_follows g t s h
  | creelRqReqFall n p => exact execCreelRqReqFall_follows n p s h
  | twillRqReqFall n => exact execTwillRqReqFall_follows n s h
  | amLock q l gain => exact execAmLock_follows q l gain s h
  | fecAlign q l gain => exact execFecAlign_follows q l gain s h
  | supplyFault t => exact execSupplyFault_follows t s h
  | debouncedVectorChange u v t => exact execDebouncedVectorChange_follows u v t s h
  | errCodeClear m page v => exact execErrCodeClear_follows m page v s h
  | pickClrCounts m v => exact execPickClrCounts_follows m v s h
  | boltClearCounts m b => exact execBoltClearCounts_follows m b s h
  | creelClrCounts m n v => exact execCreelClrCounts_follows m n v s h
  | qClrCounts m n => exact execQClrCounts_follows m n s h
  | twillClrCounts m k v => exact execTwillClrCounts_follows m k v s h
  | svClrCounts m k v => exact execSvClrCounts_follows m k v s h
  | fbpClrCounts m k v => exact execFbpClrCounts_follows m k v s h
  | paceClrCounts m g v => exact execPaceClrCounts_follows m g v s h
  | scrubClrCounts m v => exact execScrubClrCounts_follows m v s h
  | bankClrVmin m b v => exact execBankClrVmin_follows m b v s h
  | patCmdClr m v => exact execPatCmdClr_follows m v s h
  | sdClrCounts m q => exact execSdClrCounts_follows m q s h
  | pcsClrCounts m q => exact execPcsClrCounts_follows m q s h
  | pcieClrCounts m v => exact execPcieClrCounts_follows m v s h
  | sideClrCounts m ch d => exact execSideClrCounts_follows m ch d s h
  | semaClrCounts m v => exact execSemaClrCounts_follows m v s h
  | clrRing m v => exact execClrRing_follows m v s h
  | clrLost m v => exact execClrLost_follows m v s h
  | logClear m => exact execLogClear_follows m s h
  | pwrClr m v => exact execPwrClr_follows m v s h
  | scrubFrameRead => exact execScrubFrameRead_follows s h
  | perst => exact execPerst_follows s h
  | linkDown => exact execLinkDown_follows s h
  | msixMessage => exact execMsixMessage_follows s h
  | recordEntersRing => exact execRecordEntersRing_follows s h
  | jtagBypass => exact execJtagBypass_follows s h
  | jtagIdcode => exact execJtagIdcode_follows s h
  | jtagExtest => exact execJtagExtest_follows s h
  | jtagHighz => exact execJtagHighz_follows s h
  | jtagClamp => exact execJtagClamp_follows s h
  | trst => exact execTrst_follows s h

/-- No command changes the queue, and every command keeps the memories canonical, the power-on reset too. -/
theorem exec_keeps {c : Instr} {s t : State} (h : exec c s = .next t) : t.pending = s.pending ∧ (s.Canonical → t.Canonical) := by
  by_cases hc : ∃ vaon straps, c = .powerOnReset vaon straps
  · obtain ⟨vaon, straps, rfl⟩ := hc
    exact execPowerOnReset_keeps vaon straps s h
  · have hf : Follows s t := exec_follows (fun vaon straps e => hc ⟨vaon, straps, e⟩) h
    exact ⟨hf.queue, hf.memory⟩

/-- A command keeps the invariant. -/
theorem exec_inv {c : Instr} {s t : State} (hs : s.Inv) (h : exec c s = .next t) : t.Inv := by
  obtain ⟨hq, hm⟩ := exec_keeps h
  exact ⟨hm hs.canonical, by rw [State.queueWellFormed, hq]; exact hs.queue⟩

/-- A tick keeps the invariant: it moves device time alone. -/
theorem State.idle_inv {s : State} (hs : s.Inv) : s.idle.Inv := ⟨{ hs.canonical with }, hs.queue⟩

/-- The invariant still holds when the command in front has left the queue. -/
theorem State.pop_inv {c : Instr} {rest : List Instr} {s : State} (hs : s.Inv) (hp : s.pending = c :: rest) :
    State.Inv { s with pending := rest } := by
  have hq : (c.wellFormed && rest.all Instr.wellFormed) = true := by
    rw [← List.all_cons, ← hp]; exact hs.queue
  exact ⟨{ hs.canonical with }, (Bool.and_eq_true_iff.mp hq).2⟩

/-- Settles O2: the invariant stays at a tick, stays when the command in front leaves the queue, and every command keeps it. -/
theorem invariantKeptByEveryStep : Obligations.InvariantKeptByEveryStep := by
  intro s t hs h
  unfold step at h
  split at h
  next =>
    injection h with h
    exact h ▸ State.idle_inv hs
  next c rest hp => exact exec_inv (State.pop_inv hs hp) h

end Sys2Proof.Machine
end

section
/-!
The block as a whole: what a step does with the command in front of the queue, that every command completes or is refused for its operands
alone, and that device time never goes back.
-/

namespace Sys2Proof.Machine

/-! A step. -/

/-- A step on a queue with a command in front runs that command on the rest of the queue. -/
theorem step_of_cons {c : Instr} {rest : List Instr} {s : State} (hp : s.pending = c :: rest) :
    step s = exec c { s with pending := rest } := by
  unfold step
  rw [hp]

/-- A step on an empty queue is a tick. -/
theorem step_of_nil {s : State} (hp : s.pending = []) : step s = .next s.idle := by
  unfold step
  rw [hp]

/-- A tick moves device time forward, by a D1 or a D0 cycle (R5, R19). -/
theorem State.lt_idle_now (s : State) : s.now < s.idle.now := by
  unfold State.idle
  cases s.pwr.refLost
  · exact Nat.lt_add_of_pos_right (by decide : 0 < 1)
  · exact Nat.lt_add_of_pos_right (by decide : 0 < 40)

/-- Settles O1: both arms of `step`, and a tick touches device time alone. -/
theorem stepRunsTheCommandInFront : Obligations.StepRunsTheCommandInFront :=
  ⟨fun _ _ => step_of_cons rfl, fun s hp => ⟨step_of_nil hp, rfl, s.lt_idle_now⟩⟩

/-! Completion and refusal. -/

/-- The check of a command that happens with some operands only: its outcome follows the check. -/
theorem checked_outcome (ok : Bool) (t : State) :
    (ok = true ∧ ∃ u, (if ok then .next t else .refused .illFormed : Result) = .next u) ∨
    (ok = false ∧ (if ok then .next t else .refused .illFormed : Result) = .refused .illFormed) := by
  cases ok
  · exact .inr ⟨rfl, rfl⟩
  · exact .inl ⟨rfl, t, rfl⟩

/-- A command completes in every state if its operands are well formed, and is refused in every state if they are not. The commands that
are named check their operands; the others take all operands of their types. -/
theorem exec_outcome (c : Instr) (s : State) :
    (c.wellFormed = true ∧ ∃ t, exec c s = .next t) ∨ (c.wellFormed = false ∧ exec c s = .refused .illFormed) := by
  cases c with
  | hostMemoryRequest f bar off op be last ws len poisoned ecrcBad =>
    exact checked_outcome (hostRequestOk off.toNat (decide (op = .write)) ws len) _
  | configRequest f off write v => exact checked_outcome (configOffOk off.toNat) _
  | linkUp speed width => exact checked_outcome (linkSpeedOk speed.toNat && linkWidthOk width.toNat) _
  | speedChange speed => exact checked_outcome (linkSpeedOk speed.toNat) _
  | railMeasure mvs t => exact checked_outcome (railsOk mvs) _
  | adaptDone q l vga ctle dfe => exact checked_outcome (dfeOk dfe) _
  | fecCodeword q l r => exact checked_outcome (fecResultOk r) _
  | getTelemetry msg power => exact checked_outcome (powerWordsOk power) _
  | jtagSamplePreload preload => exact checked_outcome (preloadOk preload) _
  | _ => exact .inl ⟨rfl, _, rfl⟩

theorem exec_completes {c : Instr} (s : State) (hc : c.wellFormed = true) : ∃ t, exec c s = .next t := by
  rcases exec_outcome c s with ⟨-, hnext⟩ | ⟨hbad, -⟩
  · exact hnext
  · rw [hc] at hbad
    cases hbad

theorem exec_refuses {c : Instr} (s : State) (hc : c.wellFormed = false) : exec c s = .refused .illFormed := by
  rcases exec_outcome c s with ⟨hok, -⟩ | ⟨-, href⟩
  · rw [hc] at hok
    cases hok
  · exact href

/-- A step from a state whose waiting commands are well formed completes, and those that still wait are well formed. -/
theorem step_of_queueWellFormed {s : State} (hq : s.queueWellFormed = true) : ∃ t, step s = .next t ∧ t.queueWellFormed = true := by
  cases hp : s.pending with
  | nil => exact ⟨s.idle, step_of_nil hp, hq⟩
  | cons c rest =>
    have hall : c.wellFormed = true ∧ rest.all Instr.wellFormed = true := by
      rw [← Bool.and_eq_true_iff, ← List.all_cons, ← hp]
      exact hq
    obtain ⟨hc, hrest⟩ := hall
    obtain ⟨t, ht⟩ := exec_completes { s with pending := rest } hc
    have hkeep : t.pending = rest := (exec_keeps ht).1
    refine ⟨t, (step_of_cons hp).trans ht, ?_⟩
    rw [State.queueWellFormed, hkeep]
    exact hrest

theorem safeRun_of_queueWellFormed (n : Nat) : ∀ s : State, s.queueWellFormed = true → SafeRun n s := by
  induction n with
  | zero => exact fun _ _ => trivial
  | succ n ih =>
    intro s hq
    obtain ⟨t, ht, htq⟩ := step_of_queueWellFormed hq
    exact ⟨t, ht, ih t htq⟩

/-- Settles O4: a well-formed queue stays so at every step, and a command's outcome is decided by its operands alone. -/
theorem wellFormedQueueNeverStops : Obligations.WellFormedQueueNeverStops :=
  ⟨safeRun_of_queueWellFormed, fun _ s hc => exec_completes s hc, fun _ s hc => exec_refuses s hc⟩

/-! Device time. -/

/-- Settles O5: what `Follows` says of every command but a power-on reset, and that no command touches the queue. -/
theorem deviceTimeNeverGoesBack : Obligations.DeviceTimeNeverGoesBack :=
  ⟨fun _ _ _ hc h => (exec_follows hc h).time, fun _ _ _ h => (exec_keeps h).1⟩

end Sys2Proof.Machine
end

section
/-!
The resets of the device, and what each of them keeps (R20, R521, R522): the registers of fuses, NVSS and straps, and beside them what a
device reset leaves of the RESET page, the change log and the JTAG port (log entry 55).
-/

namespace Sys2Proof.Machine

/-! What a reset leaves of the registers. -/

/-- A map whose keys are selected reads as before at those keys, and as absent at the others. -/
theorem SMap.get_filter_key {α : Type} (d : α) (sel : Nat → Bool) (m : SMap α) (k : Nat) :
    SMap.get d (m.filter (fun e => sel e.1)) k = if sel k then SMap.get d m k else d := by
  induction m with
  | nil => simp [SMap.get]
  | cons e m ih =>
    obtain ⟨j, w⟩ := e
    by_cases hk : j = k
    · subst hk
      cases hs : sel j <;> simp [SMap.get, hs, ih]
    · cases hs : sel j <;> simp [SMap.get, hs, hk, ih]

/-- What every reset leaves in a register beside LC_STAT and FW_VER. -/
theorem State.bare_reg (s : State) (keep : Nat → Bool) {a : Nat} (hlc : a ≠ 0x050) (hfw : a ≠ rFwVer) :
    (s.bare keep).reg a = if fusedReg a || keep a then s.reg a else resetOf a := by
  unfold State.bare
  dsimp only
  rw [State.reg_setReg_other _ _ hfw, State.reg_setReg_other _ _ hlc]
  exact SMap.get_filter_key (resetOf a) (fun k => fusedReg k || keep k) s.regs a

/-- A register of fuses, NVSS or straps. -/
theorem State.bare_reg_fused (s : State) (keep : Nat → Bool) {a : Nat} (h : fusedReg a = true) (hlc : a ≠ 0x050) (hfw : a ≠ rFwVer) :
    (s.bare keep).reg a = s.reg a := by
  rw [s.bare_reg keep hlc hfw, if_pos (by rw [h]; rfl)]

/-- A register that no reset of this kind keeps. -/
theorem State.bare_reg_reset (s : State) (keep : Nat → Bool) {a : Nat} (hf : fusedReg a = false) (hk : keep a = false) (hlc : a ≠ 0x050)
    (hfw : a ≠ rFwVer) : (s.bare keep).reg a = resetOf a := by
  rw [s.bare_reg keep hlc hfw, hf, hk]
  rfl

/-- Of LC_STAT a reset leaves the fused fields. -/
theorem State.bare_lcStat {s : State} (h : s.Canonical) (keep : Nat → Bool) :
    (s.bare keep).reg 0x050 = s.reg 0x050 &&& 0xFF00_000F := by
  unfold State.bare
  dsimp only
  rw [State.reg_setReg_other _ _ (by decide)]
  exact State.reg_setReg_same _ _ _ (SMap.wf_sorted (SMap.wf_filter _ h.regs))

/-- The life-cycle state is among the fields that LC_STAT keeps. -/
theorem fieldOf_lcState (w : Word) : fieldOf (w &&& 0xFF00_000F) 3 0 = fieldOf w 3 0 := by
  have low : (w.toNat &&& 0xFF00_000F) % 2 ^ 4 = w.toNat % 2 ^ 4 := by
    rw [Nat.and_mod_two_pow, ← Nat.and_two_pow_sub_one_eq_mod w.toNat 4, Nat.and_assoc]
    rfl
  exact low

theorem State.bare_canonical {s : State} (h : s.Canonical) (keep : Nat → Bool) : (s.bare keep).Canonical :=
  (State.bare_follows s keep (Follows.refl s)).memory h

/-- With no burn in progress a reset finds the fuses as they are. -/
theorem State.burnAtReset_none {s : State} (hb : s.trust.burn = none) : s.burnAtReset = s := by
  unfold State.burnAtReset
  rw [hb]

/-! The two resets. -/

theorem State.deviceReset_eq {s : State} (hb : s.trust.burn = none) (cause rail : Nat) :
    s.deviceReset cause rail = (({ s.bare keptReg with log := s.log, jtag := s.jtag } : State).setReg rRstCause
      (BitVec.ofNat 32 (place rail 8 + cause))).countWrap rRstCount := by
  unfold State.deviceReset
  rw [State.burnAtReset_none hb]

/-- Every register after a device reset: RST_CAUSE and RST_COUNT record it. -/
theorem State.deviceReset_reg {s : State} (h : s.Canonical) (hb : s.trust.burn = none) (cause rail a : Nat) :
    (s.deviceReset cause rail).reg a =
      if a = rRstCount then s.reg rRstCount + 1
      else if a = rRstCause then BitVec.ofNat 32 (place rail 8 + cause)
      else (s.bare keptReg).reg a := by
  obtain ⟨u, hu, hreg, heq⟩ : ∃ u : State, u.Canonical ∧ (∀ a, u.reg a = (s.bare keptReg).reg a) ∧
      s.deviceReset cause rail = (u.setReg rRstCause (BitVec.ofNat 32 (place rail 8 + cause))).countWrap rRstCount :=
    ⟨{ s.bare keptReg with log := s.log, jtag := s.jtag }, { State.bare_canonical h keptReg with }, fun _ => rfl,
      State.deviceReset_eq hb cause rail⟩
  have hcount : u.reg rRstCount = s.reg rRstCount := by
    rw [hreg, s.bare_reg keptReg (by decide) (by decide), if_pos (by decide)]
  rw [heq, State.countWrap, State.reg_setReg (hu.setReg _ _), State.reg_setReg_other _ _ (by decide : rRstCount ≠ rRstCause), hcount,
    State.reg_setReg hu, hreg]

/-- A device reset leaves a register beside its own two as every reset does. -/
theorem State.deviceReset_reg_other {s : State} (h : s.Canonical) (hb : s.trust.burn = none) (cause rail : Nat) {a : Nat}
    (hcount : a ≠ rRstCount) (hcause : a ≠ rRstCause) : (s.deviceReset cause rail).reg a = (s.bare keptReg).reg a := by
  rw [State.deviceReset_reg h hb, if_neg hcount, if_neg hcause]

/-- Every register after a power-on reset: the straps are sampled, and RST_CAUSE records it. -/
theorem powerOnReset_reg {s : State} (h : s.Canonical) (hb : s.trust.burn = none) (vaon : Bool) (straps a : Nat) :
    (powerOnResetOp vaon straps s).reg a =
      if a = rRstCause then (if vaon then 2 else 1)
      else if a = 0x058 then BitVec.ofNat 32 (place (straps / 8) 4 + flag (decide (5 ≤ straps % 8)) 3 + straps % 8)
      else (s.bare (fun _ => false)).reg a := by
  have hz : ({ s with now := 0 } : State).Canonical := { h with }
  have hu : (({ s with now := 0 } : State).bare (fun _ => false)).Canonical := State.bare_canonical hz _
  unfold powerOnResetOp
  rw [State.burnAtReset_none hb]
  dsimp only
  rw [State.reg_setReg (hu.setReg _ _), State.reg_setReg hu]
  rfl

theorem powerOnReset_reg_other {s : State} (h : s.Canonical) (hb : s.trust.burn = none) (vaon : Bool) (straps : Nat) {a : Nat}
    (hcause : a ≠ rRstCause) (hstraps : a ≠ 0x058) : (powerOnResetOp vaon straps s).reg a = (s.bare (fun _ => false)).reg a := by
  rw [powerOnReset_reg h hb, if_neg hcause, if_neg hstraps]

/-! The clauses of the statement. -/

theorem deviceReset_keeps {s : State} (h : s.Canonical) (hb : s.trust.burn = none) (cause rail : Nat) :
    let t := s.deviceReset cause rail
    t.reg rRstCause = BitVec.ofNat 32 (place rail 8 + cause) ∧ t.reg rRstCount = s.reg rRstCount + 1 ∧ t.log = s.log ∧ t.jtag = s.jtag ∧
      t.cells = [] ∧ t.cfgMem = [] ∧ t.bolts = [] ∧ t.creels = [] ∧ t.arrays = [] ∧ t.shuttles = [] ∧ t.semas = [] ∧ t.ev = {} ∧
      t.boot.stage = .rom ∧ t.pending = s.pending ∧ t.lcState = s.lcState ∧ t.reg rSerialLo = s.reg rSerialLo ∧
      t.reg rNvssBoot = s.reg rNvssBoot ∧
      (∀ a, fusedReg a = false → keptReg a = false → a ≠ 0x050 → a ≠ rFwVer → t.reg a = resetOf a) := by
  intro t
  have ht : t = (({ s.bare keptReg with log := s.log, jtag := s.jtag } : State).setReg rRstCause
      (BitVec.ofNat 32 (place rail 8 + cause))).countWrap rRstCount := State.deviceReset_eq hb cause rail
  have other : ∀ {a : Nat}, a ≠ rRstCount → a ≠ rRstCause → t.reg a = (s.bare keptReg).reg a :=
    State.deviceReset_reg_other h hb cause rail
  have fused : ∀ {a : Nat}, fusedReg a = true → a ≠ rRstCount → a ≠ rRstCause → a ≠ 0x050 → a ≠ rFwVer → t.reg a = s.reg a :=
    fun hf h1 h2 h3 h4 => (other h1 h2).trans (s.bare_reg_fused keptReg hf h3 h4)
  have cleared : t.log = s.log ∧ t.jtag = s.jtag ∧ t.cells = [] ∧ t.cfgMem = [] ∧ t.bolts = [] ∧ t.creels = [] ∧ t.arrays = [] ∧
      t.shuttles = [] ∧ t.semas = [] ∧ t.ev = {} ∧ t.boot.stage = .rom ∧ t.pending = s.pending := by
    rw [ht]
    exact ⟨rfl, rfl, rfl, rfl, rfl, rfl, rfl, rfl, rfl, rfl, rfl, rfl⟩
  obtain ⟨hlog, hjtag, hcells, hcfg, hbolts, hcreels, harrays, hshuttles, hsemas, hev, hstage, hpending⟩ := cleared
  refine ⟨?cause, ?count, hlog, hjtag, hcells, hcfg, hbolts, hcreels, harrays, hshuttles, hsemas, hev, hstage, hpending, ?lc, ?serial,
    ?nvss, ?rest⟩
  case cause => exact (State.deviceReset_reg h hb cause rail rRstCause).trans rfl
  case count => exact (State.deviceReset_reg h hb cause rail rRstCount).trans rfl
  case lc =>
    have hlc : t.reg 0x050 = s.reg 0x050 &&& 0xFF00_000F := (other (by decide) (by decide)).trans (State.bare_lcStat h keptReg)
    exact (congrArg (fun w => fieldOf w 3 0) hlc).trans (fieldOf_lcState _)
  case serial => exact fused (by decide) (by decide) (by decide) (by decide) (by decide)
  case nvss => exact fused (by decide) (by decide) (by decide) (by decide) (by decide)
  case rest =>
    intro a hf hk hlc hfw
    have hcount : a ≠ rRstCount := by rintro rfl; exact absurd hk (by decide)
    have hcause : a ≠ rRstCause := by rintro rfl; exact absurd hk (by decide)
    exact (other hcount hcause).trans (s.bare_reg_reset keptReg hf hk hlc hfw)

theorem powerOnReset_keeps (vaon : Bool) (straps : BitVec 4) {s : State} (h : s.Canonical) (hb : s.trust.burn = none) :
    ∃ t, exec (.powerOnReset vaon straps) s = .next t ∧ t.now = 0 ∧ t.reg rRstCause = (if vaon then 2 else 1) ∧
      t.reg 0x058 = BitVec.ofNat 32 (place (straps.toNat / 8) 4 + flag (decide (5 ≤ straps.toNat % 8)) 3 + straps.toNat % 8) ∧ t.log = {} ∧
      t.cells = [] ∧ t.cfgMem = [] ∧ t.bolts = [] ∧ t.pending = s.pending ∧ t.lcState = s.lcState ∧ t.reg rSerialLo = s.reg rSerialLo ∧
      t.reg rNvssBoot = s.reg rNvssBoot ∧
      ∀ a, fusedReg a = false → a ≠ 0x050 → a ≠ rFwVer → a ≠ rRstCause → t.reg a = resetOf a := by
  obtain ⟨t, ht⟩ : ∃ t, t = powerOnResetOp vaon straps.toNat s := ⟨_, rfl⟩
  have other : ∀ {a : Nat}, a ≠ rRstCause → a ≠ 0x058 → t.reg a = (s.bare (fun _ => false)).reg a :=
    fun h1 h2 => ht ▸ powerOnReset_reg_other h hb vaon straps.toNat h1 h2
  have cleared : t.now = 0 ∧ t.log = {} ∧ t.cells = [] ∧ t.cfgMem = [] ∧ t.bolts = [] ∧ t.pending = s.pending := by
    rw [ht, powerOnResetOp, State.burnAtReset_none hb]
    exact ⟨rfl, rfl, rfl, rfl, rfl, rfl⟩
  obtain ⟨hnow, hlog, hcells, hcfg, hbolts, hpending⟩ := cleared
  refine ⟨t, ht ▸ rfl, hnow, ?cause, ?sampled, hlog, hcells, hcfg, hbolts, hpending, ?lc, ?serial, ?nvss, ?rest⟩
  case cause => exact ht ▸ powerOnReset_reg h hb vaon straps.toNat rRstCause
  case sampled => exact ht ▸ powerOnReset_reg h hb vaon straps.toNat 0x058
  case lc =>
    have hlc : t.reg 0x050 = s.reg 0x050 &&& 0xFF00_000F := (other (by decide) (by decide)).trans (State.bare_lcStat h _)
    exact (congrArg (fun w => fieldOf w 3 0) hlc).trans (fieldOf_lcState _)
  case serial => exact (other (by decide) (by decide)).trans (s.bare_reg_fused _ (by decide) (by decide) (by decide))
  case nvss => exact (other (by decide) (by decide)).trans (s.bare_reg_fused _ (by decide) (by decide) (by decide))
  case rest =>
    intro a hf hlc hfw hcause
    have hstraps : a ≠ 0x058 := by rintro rfl; exact absurd hf (by decide)
    exact (other hcause hstraps).trans (s.bare_reg_reset _ hf rfl hlc hfw)

/-- R518, R520: a rail below its limit resets the device, but VAON and a rail whose monitor is masked do not. -/
theorem railReset_next (k : Fin 10) (t : Nat) (s : State) (ht : s.now ≤ t) :
    (k.val ≠ 6 → s.masked k = false → exec (.railReset k t) s = .next (({ s with now := t } : State).deviceReset 0x03 k)) ∧
    ((k.val = 6 ∨ s.masked k = true) → exec (.railReset k t) s = .next s) := by
  have hop : exec (.railReset k t) s = .next (railResetOp k t s) := rfl
  rw [hop, railResetOp, at_eq ht]
  constructor
  · intro hk hm
    rw [if_neg (by rw [hm]; simp [hk])]
  · intro hk
    rw [if_pos hk]

/-- RST_CMD: an accepted write of 5 resets the device. -/
theorem deviceResetCommand_next (m : Master) (s : State) (ha : s.Accepts m.id ⟨.reset, 0⟩ 0x048 5) :
    exec (.deviceReset m) s = .next (((s.recorded m.id ⟨.reset, 0⟩ 0x048 5).deviceReset 0x05 0).done m.id ⟨.reset, 0⟩ 0x048) := by
  have effect (old : Word) (u : State) : State.effectAt m.id ⟨.reset, 0⟩ 0x048 old 5 u = u.deviceReset 0x05 0 := by
    unfold State.effectAt
    exact if_pos (by decide)
  have written := access_write ha (by decide) (by decide) (by decide) rfl (by decide) rfl
  rw [effect] at written
  exact congrArg Host.Outcome.next written

/-- Settles O56: each reset comes down to what `State.bare` keeps, and to the registers in which it records itself. -/
theorem resetsComplete : Obligations.ResetsComplete := by
  refine ⟨fun cause rail s h hb => deviceReset_keeps h hb cause rail, fun vaon straps s h hb => powerOnReset_keeps vaon straps h hb,
    fun k t s ht => railReset_next k t s ht, deviceResetCommand_next, fun t s ht => ⟨?exception, ?loss, ?back⟩⟩
  case exception =>
    rw [← at_eq ht]
    rfl
  case loss =>
    intro hr
    have hop : exec (.sysRefclkLoss t) s = .next (refclkLossOp t s) := rfl
    rw [hop, refclkLossOp, at_eq ht, hr]
    rfl
  case back =>
    intro hr
    have hop : exec (.sysRefclkReturn t) s = .next (refclkReturnOp t s) := rfl
    rw [hop, refclkReturnOp, at_eq ht, hr]
    rfl

end Sys2Proof.Machine
end

section
/-!
Fabric bus ports, and accesses that wait: what a port does with each word of user logic (R268, R269, R273 to R277), and how an access of a
fabric window gets its turn, ends with TIMEOUT and is late (R24, R38, R44, R51). The recorded OFFSET of a window's rejection and the order in
which waiting accesses go on are choices of log entry 66.
-/

namespace Sys2Proof.Machine

/-! Target responses. -/

/-- A word of the target response channel goes to its access, unless the bridge is in RESYNC. -/
theorem targetResponse_captured {n : Nat} (x : Dword) {s : State} (hlive : s.bridgeLive (portBridge n) = true) (hidle : (s.fbp n).tResp = {})
    (hsync : (s.bridge (portBridge n)).resync = false) :
    targetResponse n x s = (s.setFbp n { (s.fbp n) with tResp := { ack := true } }).takeAnswer n x := by
  simp only [targetResponse, hlive, hidle, hsync, Bool.not_true, Bool.or_self, Option.isSome_none, Bool.false_eq_true, if_false]

/-- In RESYNC the word is held (R269). -/
theorem targetResponse_parked {n : Nat} (x : Dword) {s : State} (hlive : s.bridgeLive (portBridge n) = true) (hidle : (s.fbp n).tResp = {})
    (hsync : (s.bridge (portBridge n)).resync = true) :
    targetResponse n x s = s.setFbp n { (s.fbp n) with tResp := { parked := some x } } := by
  simp only [targetResponse, hlive, hidle, hsync, Bool.not_true, Bool.or_self, Option.isSome_none, Bool.false_eq_true, if_false, if_true]

theorem takeAnswer_unexpected {n : Nat} (x : Dword) {s : State} (h : s.oldestAccess n = none) : s.takeAnswer n x = s.duplicate n := by
  simp only [State.takeAnswer, h]

section

variable {n i : Nat} {x : Dword} {s : State} {e : Issued} (hi : s.oldestAccess n = some i) (he : s.issued[i]? = some e)

include hi he

/-- A response whose tag is not that of the oldest access answers none (R274). -/
theorem takeAnswer_mismatch (htag : e.tag ≠ some (fieldOf x 40 33)) : s.takeAnswer n x = s.duplicate n := by
  simp only [State.takeAnswer, hi, he]
  exact if_pos htag

/-- The answer of an access that ended with TIMEOUT is late (R51, R272). -/
theorem takeAnswer_late (htag : e.tag = some (fieldOf x 40 33)) (hout : e.timedOut = true) :
    let w : State := { s with issued := s.issued.eraseIdx i }
    s.takeAnswer n x = (w.setFbp n { (w.fbp n) with late := (w.fbp n).late + 1 }).admitAll n := by
  simp only [State.takeAnswer, hi, he, htag, ne_eq, not_true_eq_false, if_false, hout, if_true]

/-- An answer with ERR rejects the access with NOT_PERMITTED (R38; the recorded OFFSET is log entry 66's). -/
theorem takeAnswer_error (htag : e.tag = some (fieldOf x 40 33)) (hout : e.timedOut = false) (herr : bitOf x 32 = true) :
    s.takeAnswer n x = ((({ s with issued := s.issued.eraseIdx i } : State).recordRejection (fbpPage n) e.master e.write (e.addr % 0x1000)
      codeNotPermitted).deliver e 0 codeNotPermitted).admitAll n := by
  simp only [State.takeAnswer, hi, he, htag, ne_eq, not_true_eq_false, if_false, hout, Bool.false_eq_true, herr, if_true]

/-- An answer without ERR ends the access with its data. -/
theorem takeAnswer_data (htag : e.tag = some (fieldOf x 40 33)) (hout : e.timedOut = false) (herr : bitOf x 32 = false) :
    s.takeAnswer n x = (({ s with issued := s.issued.eraseIdx i } : State).deliver e (if e.write then 0 else x.setWidth 32) 0).admitAll n := by
  simp only [State.takeAnswer, hi, he, htag, ne_eq, not_true_eq_false, if_false, hout, Bool.false_eq_true, herr]

end

/-! Initiator requests and responses. -/

/-- A port with room issues the request of its initiator (R276). -/
theorem initiatorRequest_taken {n : Nat} (x : Dword) {s : State} (hopen : s.initOpen n = true) (hidle : (s.fbp n).iReq = {})
    (hsync : (s.bridge (portBridge n)).resync = false) (hroom : (s.fbp n).reqs.length < 16) :
    initiatorRequest n x s = s.takeInit n x := by
  have room : s.initRoom n = true := by
    simp only [State.initRoom, hopen, hsync, State.initOutstanding, portBound, hroom, Bool.not_false, Bool.and_self, decide_true]
  simp only [initiatorRequest, hopen, hidle, room, Bool.not_true, Bool.or_self, Option.isSome_none, Bool.false_eq_true, if_false, if_true]

/-- With 16 requests outstanding, or in RESYNC, the request is held (R269, R276). -/
theorem initiatorRequest_parked {n : Nat} (x : Dword) {s : State} (hopen : s.initOpen n = true) (hidle : (s.fbp n).iReq = {})
    (hfull : (s.bridge (portBridge n)).resync = true ∨ 16 ≤ (s.fbp n).reqs.length) :
    initiatorRequest n x s = s.setFbp n { (s.fbp n) with iReq := { parked := some x } } := by
  have room : s.initRoom n = false := by
    rcases hfull with hsync | hlen
    · simp only [State.initRoom, hsync, Bool.not_true, Bool.and_false, Bool.false_and]
    · simp only [State.initRoom, State.initOutstanding, portBound, Nat.not_lt.mpr hlen, decide_false, Bool.and_false]
  simp only [initiatorRequest, hopen, hidle, room, Bool.not_true, Bool.or_self, Option.isSome_none, Bool.false_eq_true, if_false]

/-- Nothing held, nothing goes on. -/
theorem unparkInit_none {n : Nat} {s : State} (h : (s.fbp n).iReq.parked = none) : s.unparkInit n = s := by
  simp only [State.unparkInit, h]

theorem State.fbpEvent_fbp (s : State) (n j k : Nat) : (s.fbpEvent n j).fbp k = s.fbp k := by
  unfold State.fbpEvent State.pulse
  rw [State.raise_frame]
  rfl

section

variable {n code : Nat} {data : Word} {s : State} {r : InitReq} {rest : List InitReq} (hreqs : (s.fbp n).reqs = r :: rest)
  (hans : r.answer = some (code, data))

include hreqs hans

/-- The answer of a request that a rollback discards is dropped (R277). -/
theorem initiatorResponse_discarded (hd : r.discard = true) : initiatorResponse n s = s.setFbp n { (s.fbp n) with reqs := rest } := by
  simp only [initiatorResponse, hreqs, hans, hd, if_true]

/-- An answer of code 0 is queued for user logic (R276). -/
theorem initiatorResponse_good (hd : r.discard = false) (hroom : (s.fbp n).queue.length < 16) (hc : code = 0) :
    initiatorResponse n s = s.setFbp n { (s.fbp n) with reqs := rest, queue := (s.fbp n).queue ++ [⟨code, data, r.ckpt⟩] } := by
  simp only [initiatorResponse, hreqs, hans, hd, portBound, Nat.not_le.mpr hroom, hc, Bool.false_eq_true, if_false, if_true]

/-- Any other is queued as well, counted and recorded (R288, R289). -/
theorem initiatorResponse_error (hd : r.discard = false) (hroom : (s.fbp n).queue.length < 16) (hc : code ≠ 0) :
    initiatorResponse n s =
      ((((s.setFbp n { (s.fbp n) with reqs := rest, queue := (s.fbp n).queue ++ [⟨code, data, r.ckpt⟩] }).count (rFbpCnt n) 7 0 1).setReg
        (fbpReg n 0x10C) (BitVec.ofNat 32 code)).setReg (fbpReg n 0x110) (BitVec.ofNat 32 r.addr)).fbpEvent n 3 := by
  simp only [initiatorResponse, hreqs, hans, hd, portBound, Nat.not_le.mpr hroom, hc, Bool.false_eq_true, if_false]

end

/-- A response leaves what the port holds of its initiator's requests, so that with none held it is all that happens. -/
theorem initiatorResponseOp_of {n : Nat} {s t : State} (ht : initiatorResponse n s = t) (hnone : (t.fbp n).iReq.parked = none) :
    initiatorResponseOp n s = t.settle := by
  rw [initiatorResponseOp, ht, unparkInit_none hnone]

/-! Masters. -/

theorem master_id_lt (m : Master) : m.id < 48 := by
  cases m with
  | pf f => exact Nat.lt_trans (Nat.add_lt_add_left f.isLt 8) (by decide)
  | fbp n => exact Nat.add_lt_add_left n.isLt 16
  | _ => decide

theorem eq_jtag_of_id {m : Master} (h : m.id = 5) : m = .jtag := by
  cases m with
  | jtag => rfl
  | pf f => exact absurd h (Nat.ne_of_gt (Nat.lt_of_lt_of_le (by decide) (Nat.le_add_right 8 f.val)))
  | fbp n => exact absurd h (Nat.ne_of_gt (Nat.lt_of_lt_of_le (by decide) (Nat.le_add_right 16 n.val)))
  | _ => exact absurd h (by decide)

/-! Accesses of a fabric window. -/

/-- An access whose answer is no rejection, or is still to come. -/
theorem access_unrejected {f : State → State} {s : State} (hrun : s.inReset = false) (hcode : (f s.forgetAnswer).resp.code = 0) :
    access f s = f s.forgetAnswer := by
  rw [access, hrun]
  exact noteRejection_good hcode

/-- A view of a list's elements does not see a change that it does not see in one element. -/
theorem map_modify_of_comp {α β : Type} (g : α → β) (f : α → α) (h : ∀ a, g (f a) = g a) (l : List α) (i : Nat) :
    (l.modify i f).map g = l.map g := by
  induction l generalizing i with
  | nil => cases i <;> rfl
  | cons a l ih =>
    cases i with
    | zero => exact congrArg (· :: l.map g) (h a)
    | succ i => exact congrArg (g a :: ·) (ih i)

/-- An access without its tag. -/
def Issued.untagged (e : Issued) : Issued := { e with tag := none }

theorem Issued.eq_of_untagged {x y : Issued} (h : y.untagged = x.untagged) : y = { x with tag := y.tag } :=
  congrArg (fun z : Issued => { z with tag := y.tag }) h

/-- Letting an access into the fabric gives a tag, and answers nothing. -/
theorem State.admitOne_keeps (s : State) (n : Nat) :
    (s.admitOne n).resp = s.resp ∧ (s.admitOne n).issued.map Issued.untagged = s.issued.map Issued.untagged := by
  unfold State.admitOne
  split
  case isFalse => exact ⟨rfl, rfl⟩
  case isTrue =>
    split
    · exact ⟨rfl, rfl⟩
    · split
      · exact ⟨rfl, rfl⟩
      · exact ⟨rfl, map_modify_of_comp Issued.untagged (fun e => { e with tag := some (s.fbp n).nextTag }) (fun _ => rfl) _ _⟩

theorem State.admitAll_keeps (s : State) (n : Nat) :
    (s.admitAll n).resp = s.resp ∧ (s.admitAll n).issued.map Issued.untagged = s.issued.map Issued.untagged := by
  unfold State.admitAll
  generalize List.range portBound = l
  induction l generalizing s with
  | nil => exact ⟨rfl, rfl⟩
  | cons _ l ih =>
    obtain ⟨hresp, hissued⟩ := ih (s.admitOne n)
    obtain ⟨hresp₁, hissued₁⟩ := s.admitOne_keeps n
    exact ⟨hresp.trans hresp₁, hissued.trans hissued₁⟩

/-- Holding the newest access as `e` changes nothing if it stands on the bus as `e` says already; its tag is not looked at. -/
theorem State.heldAs_self {t : State} {l : List Issued} {e x : Issued} (hissued : t.issued.map Issued.untagged = (l ++ [x]).map Issued.untagged)
    (hx : { x with time := e.time, timedOut := e.timedOut, init := e.init, part := e.part, unheard := e.unheard } = x) : t.heldAs e = t := by
  have hlen : t.issued.length = l.length + 1 := by simpa using congrArg List.length hissued
  have hlast (y : Issued) (hy : t.issued[l.length]? = some y) : y.untagged = x.untagged := by
    simpa [hy] using congrArg (fun l' => l'[l.length]?) hissued
  have hsame : t.issued.modify (t.issued.length - 1) (fun y =>
      { y with time := e.time, timedOut := e.timedOut, init := e.init, part := e.part, unheard := e.unheard }) = t.issued := by
    refine List.ext_getElem? (fun i => ?_)
    rw [List.getElem?_modify, hlen, Nat.add_sub_cancel]
    split
    case isFalse => exact Option.map_id'
    case isTrue hi =>
      subst hi
      cases hy : t.issued[l.length]? with
      | none => rfl
      | some y =>
        rw [Issued.eq_of_untagged (hlast y hy)]
        exact congrArg (fun z : Issued => some { z with tag := y.tag }) hx
  rw [State.heldAs, hsame]

/-- An access of a fabric window that has its turn, of a master that may make it, is issued to its port (R38). -/
theorem busAccess_window {s : State} {e : Issued} {n : Nat} (hturn : s.waits e = false) (hwin : inFabricWindow e.addr = true)
    (haddr : e.addr / 4 * 4 = e.addr) (hport : (e.addr - 0x0400_0000) / 0x0020_0000 = n) (htag : e.tag = none) (hout : e.timedOut = false)
    (hup : (isHostId e.master && s.shuttingDown) = false) (hdebug : (decide (e.master = 5) && !s.debugOpen) = false)
    (hresp : s.resp.master ≠ e.master) :
    busAccess e s = ({ s with issued := s.issued ++ [{ e with port := some n, time := s.now }] } : State).admitAll n := by
  have hperform : e.perform s = ({ s with issued := s.issued ++ [{ e with port := some n, time := s.now }] } : State).admitAll n := by
    simp only [Issued.perform, Issued.arrive, hwin, windowAccess, hup, hdebug, hout, haddr, hport, ← htag, State.issue, Bool.false_eq_true,
      if_false, if_true]
  obtain ⟨hkeep, hissued⟩ := State.admitAll_keeps ({ s with issued := s.issued ++ [{ e with port := some n, time := s.now }] } : State) n
  rw [busAccess, hturn, if_neg Bool.false_ne_true, hperform, State.conclude, if_neg (by rw [hkeep]; exact hresp)]
  exact State.heldAs_self hissued rfl

/-- An access that has to wait is parked. -/
theorem busAccess_waits {s : State} {e : Issued} (h : s.waits e = true) : busAccess e s = s.park e := if_pos h

/-- With every slot of its master in use an access waits for one, untimed (R24). -/
theorem park_untimed {s : State} {e : Issued} (h : s.slotsBusy e.master = true) :
    s.park e = { s.forgetAnswer with slotWait := s.slotWait ++ [e] } := by
  rw [State.park, h, Bool.or_true, if_pos rfl]

/-- With a slot, and no older access that waits for one, it is on the bus and its timeout runs (R51). -/
theorem park_issued {s : State} {e : Issued} (hfirst : ∀ o ∈ s.slotWait, o.master ≠ e.master) (h : s.slotsBusy e.master = false) :
    s.park e = { s.forgetAnswer with issued := s.issued ++ [{ e with time := s.now }] } := by
  have hnone : s.slotWait.any (fun o => decide (o.master = e.master)) = false :=
    List.any_eq_false.mpr (fun o ho => by simp [hfirst o ho])
  rw [State.park, hnone, h, Bool.or_self, if_neg Bool.false_ne_true]

theorem slotsBusy_full {s : State} {m : Nat} (h : s.slotsUsed m = 64) : s.slotsBusy m = true := by
  simp only [State.slotsBusy, busSlots, h, Nat.le_refl, decide_true]

theorem slotsBusy_free {s : State} {m : Nat} (h : s.slotsUsed m < 64) : s.slotsBusy m = false := by
  simp only [State.slotsBusy, busSlots, Nat.not_le.mpr h, decide_false]

theorem waits_of_busy {s : State} {e : Issued} (h : s.slotsBusy e.master = true) : s.waits e = true := by
  rw [State.waits, h, Bool.or_true, Bool.true_or]

/-! Accesses that go on. -/

/-- The access held back longest is performed (R44; log entry 66). -/
theorem slotGranted_heldBack {m i : Nat} {e : Issued} {s : State} (hi : s.nextHeldBack m = some i) (he : s.issued[i]? = some e) :
    slotGranted m s = access (fun s => (e.perform s).conclude e) { s with issued := s.issued.eraseIdx i } := by
  simp only [slotGranted, hi, List.getD_eq_getElem?_getD, he, Option.getD_some]

section

variable {m i : Nat} {e : Issued} {s : State} (hnone : s.nextHeldBack m = none)
  (hi : s.slotWait.findIdx? (fun e => decide (e.master = m)) = some i) (he : s.slotWait[i]? = some e) (hfree : s.slotsUsed m < 64)

include hnone hi he hfree

/-- The access that has waited longest takes the free slot and is performed, if no older one holds it back (R24; log entry 66). -/
theorem slotGranted_performs (hno : ∀ o ∈ s.issued, o.holds e = false) :
    slotGranted m s = access (fun u => (e.perform u).conclude { e with time := s.now }) { s with slotWait := s.slotWait.eraseIdx i } := by
  have hany : s.issued.any (fun o => o.holds e) = false := List.any_eq_false.mpr (fun o ho => by simp [hno o ho])
  simp only [slotGranted, hnone, hi, List.getD_eq_getElem?_getD, he, Option.getD_some, slotsBusy_free hfree, hany, Bool.false_eq_true, if_false]
  rfl

/-- Otherwise it takes the slot and waits in its turn. -/
theorem slotGranted_issues (hold : ∃ o ∈ s.issued, o.holds e = true) :
    slotGranted m s = { s with slotWait := s.slotWait.eraseIdx i, issued := s.issued ++ [{ e with time := s.now }] } := by
  have hany : s.issued.any (fun o => o.holds e) = true := List.any_eq_true.mpr hold
  simp only [slotGranted, hnone, hi, List.getD_eq_getElem?_getD, he, Option.getD_some, slotsBusy_free hfree, hany, Bool.false_eq_true, if_false,
    if_true]

end

/-- 65,536 ns after its issue an access without an answer ends with TIMEOUT (R51). -/
theorem busTimeoutOp_ends {i t : Nat} {e : Issued} {s : State} (he : s.issued[i]? = some e) (hout : e.timedOut = false)
    (hdue : e.time + 65536 ≤ t) (ht : s.now ≤ t) :
    busTimeoutOp i t s =
      ({ s with now := t, issued := s.issued.modify i (fun e => { e with timedOut := true }) } : State).endTimeout e := by
  have hlate : ¬ t < e.time + busTimeoutNs := Nat.not_lt.mpr hdue
  simp only [busTimeoutOp, he, hout, hlate, decide_false, Bool.or_self, Bool.false_eq_true, if_false, at_eq ht]

/-- A late completion is counted and raised (R272). -/
theorem lateComplete_counts {n : Nat} {s : State} (h : 0 < (s.fbp n).late) :
    lateComplete n s = ((s.setFbp n { (s.fbp n) with late := (s.fbp n).late - 1 }).count (rFbpCnt n) 23 16 1).fbpEvent n 1 := if_pos h

/-! The clauses of the statement. -/

/-- FBP_CMD: an accepted write clears the counts that it names. -/
theorem fbpClrCounts_next (m : Master) (k : Fin 8) (w : Word) (s : State) (ha : s.Accepts m.id ⟨.fbp, k⟩ 0x040 w) :
    exec (.fbpClrCounts m k w) s = .next
      ((fbpClear k (fieldOf w 3 0) (s.recorded m.id ⟨.fbp, k⟩ 0x040 w)).done m.id ⟨.fbp, k⟩ 0x040) := by
  have effect (old : Word) (u : State) : State.effectAt m.id ⟨.fbp, k⟩ 0x040 old w u = fbpClear k (fieldOf w 3 0) u := by
    unfold State.effectAt
    exact if_pos rfl
  have written := access_write ha k.isLt (by decide : 0x040 < 0x1000) (by decide) rfl (by simp) rfl
  rw [effect] at written
  exact congrArg Host.Outcome.next written

/-- The three ways of an access of a fabric window. -/
theorem fabricWindowAccess_next (m : Master) (off : BitVec 26) (write : Bool) (data : Word) (s : State) (hrun : s.inReset = false)
    (hup : (m.isHost && s.shuttingDown) = false) (hdebug : m = .jtag → s.debugOpen = true) :
    let n := off.toNat / 0x0020_0000
    let e : Issued := { master := m.id, addr := 0x0400_0000 + off.toNat / 4 * 4, write := write, value := data }
    (s.waits e = false → exec (.fabricWindowAccess m off write data) s = .next
      (({ s with resp := {}, issued := s.issued ++ [{ e with port := some n, time := s.now }] } : State).admitAll n)) ∧
    (s.slotsUsed m.id = 64 → exec (.fabricWindowAccess m off write data) s = .next
      { s with resp := {}, slotWait := s.slotWait ++ [e] }) ∧
    (s.waits e = true → s.slotsUsed m.id < 64 → (∀ o ∈ s.slotWait, o.master ≠ m.id) → exec (.fabricWindowAccess m off write data) s = .next
      { s with resp := {}, issued := s.issued ++ [{ e with time := s.now }] }) := by
  intro n e
  have answered {t : State} (ht : busAccess e s.forgetAnswer = t) (hcode : t.resp.code = 0) :
      exec (.fabricWindowAccess m off write data) s = .next t := by
    subst ht
    exact congrArg Host.Outcome.next (access_unrejected hrun hcode)
  have hoff : off.toNat < 0x0400_0000 := off.isLt
  refine ⟨fun hw => ?turn, fun hfull => ?untimed, fun hw hfree hfirst => ?timed⟩
  case turn =>
    have hwin : inFabricWindow e.addr = true := by
      simp only [inFabricWindow, e, Bool.and_eq_true, decide_eq_true_eq]
      omega
    have hdbg : (decide (e.master = 5) && !s.forgetAnswer.debugOpen) = false := by
      by_cases h5 : m.id = 5
      · have hopen : s.forgetAnswer.debugOpen = true := hdebug (eq_jtag_of_id h5)
        rw [hopen, Bool.not_true, Bool.and_false]
      · simp only [e, h5, decide_false, Bool.false_and]
    have hhost : (isHostId e.master && s.forgetAnswer.shuttingDown) = false := (congrArg (· && _) (isHostId_id m)).trans hup
    have hmaster : s.forgetAnswer.resp.master ≠ e.master := Nat.ne_of_gt (Nat.lt_trans (master_id_lt m) (by decide : 48 < 63))
    have hdone := busAccess_window (s := s.forgetAnswer) (e := e) (n := n) hw hwin (by simp only [e]; omega) (by simp only [e, n]; omega) rfl rfl
      hhost hdbg hmaster
    exact answered hdone (congrArg Response.code (State.admitAll_keeps _ n).1)
  case untimed =>
    have hbusy : s.forgetAnswer.slotsBusy e.master = true := slotsBusy_full hfull
    exact answered ((busAccess_waits (waits_of_busy hbusy)).trans (park_untimed hbusy)) rfl
  case timed => exact answered ((busAccess_waits (s := s.forgetAnswer) hw).trans (park_issued hfirst (slotsBusy_free hfree))) rfl

/-- Settles O28: each command is its operation on the port or on the bus, by the lemma of that operation. -/
theorem busPortsAndWaitsComplete : Obligations.BusPortsAndWaitsComplete := by
  refine ⟨fun n s => ⟨fun hlevel hlive hidle => ?target, fun hlevel hopen hidle => ?request,
    fun r rest code data hreqs hans hpark hc => ?response, fun m k w ha => fbpClrCounts_next m k w s ha⟩, fabricWindowAccess_next, ?heldBack, ?granted, ?timeout, ?late⟩
  case target =>
    have answers {t : State} (ht : targetResponse n (s.channelWord (portBridge n) 66) s = t) :
        exec (.fbpTargetResponse n) s = .next t.settle := by
      subst ht
      exact congrArg Host.Outcome.next (if_pos hlevel)
    refine ⟨fun hsync => answers (targetResponse_parked _ hlive hidle hsync), fun hsync => ?_⟩
    have captured := targetResponse_captured (s.channelWord (portBridge n) 66) hlive hidle hsync
    exact ⟨fun h => answers (captured.trans (takeAnswer_unexpected _ h)), fun i e hi he =>
      ⟨fun htag => answers (captured.trans (takeAnswer_mismatch hi he htag)),
       fun htag hout herr => answers (captured.trans (takeAnswer_data hi he htag hout herr)),
       fun htag hout herr => answers (captured.trans (takeAnswer_error hi he htag hout herr)),
       fun htag hout => answers (captured.trans (takeAnswer_late hi he htag hout))⟩⟩
  case request =>
    have goes {t : State} (ht : initiatorRequest n (s.channelWord (portBridge n) 132) s = t) :
        exec (.fbpInitiatorRequest n) s = .next t.settle := by
      subst ht
      exact congrArg Host.Outcome.next (if_pos hlevel)
    exact ⟨fun hsync hroom => goes (initiatorRequest_taken _ hopen hidle hsync hroom),
      fun hfull => goes (initiatorRequest_parked _ hopen hidle hfull)⟩
  case response =>
    have kept (v : Fbp) (hv : v.iReq = (s.fbp n).iReq) : ((s.setFbp n v).fbp n).iReq.parked = none := by
      rw [State.fbp_setFbp hc, if_pos rfl, hv, hpark]
    have hands {t : State} (ht : initiatorResponse n s = t) (hnone : (t.fbp n).iReq.parked = none) :
        exec (.fbpInitiatorResponse n) s = .next t.settle := congrArg Host.Outcome.next (initiatorResponseOp_of ht hnone)
    refine ⟨fun hd => hands (initiatorResponse_discarded hreqs hans hd) (kept _ rfl), fun hd hroom =>
      ⟨fun hcode => hands (initiatorResponse_good hreqs hans hd hroom hcode) (kept _ rfl), fun hcode =>
        hands (initiatorResponse_error hreqs hans hd hroom hcode) ?_⟩⟩
    rw [State.fbpEvent_fbp]
    exact kept _ rfl
  case heldBack => exact fun m i e s hi he => congrArg Host.Outcome.next (slotGranted_heldBack hi he)
  case granted =>
    exact fun m i e s hnone hi he hfree =>
      ⟨fun hno => congrArg Host.Outcome.next (slotGranted_performs hnone hi he hfree hno),
       fun hold => congrArg Host.Outcome.next (slotGranted_issues hnone hi he hfree hold)⟩
  case timeout => exact fun i t e s he hout hdue ht => congrArg Host.Outcome.next (busTimeoutOp_ends he hout hdue ht)
  case late =>
    intro n t s h ht
    rw [← at_eq ht]
    exact congrArg Host.Outcome.next (lateComplete_counts (s := s.at t) h)

end Sys2Proof.Machine
end

section
/-!
The device right after reset: the memories are empty, and every register but the two of the fuses reads the reset value of its table (R40;
the fuses are log entries 1 and 43, the empty cells and configuration memory log entry 60).
-/

namespace Sys2Proof.Machine

/-- Right after reset only LC_STAT and KEY_STAT hold something else than the value of their table. -/
theorem reset_reg {a : Nat} (hlc : a ≠ 0x050) (hkey : a ≠ 0x054) : State.reset.reg a = resetOf a := by
  simp only [State.reg, State.reset, SMap.get, if_neg hlc.symm, if_neg hkey.symm]

theorem reset_fld {a : Nat} (hlc : a ≠ 0x050) (hkey : a ≠ 0x054) (hi lo : Nat) :
    State.reset.fld a hi lo = fieldOf (resetOf a) hi lo := congrArg (fun w => fieldOf w hi lo) (reset_reg hlc hkey)

theorem reset_canonical : State.reset.Canonical :=
  ⟨by decide, rfl, rfl, rfl, rfl, rfl, rfl, rfl, rfl, rfl, rfl, rfl, rfl, rfl, rfl, rfl, rfl, rfl, rfl, rfl, rfl, rfl, rfl, rfl, rfl⟩

/-- Settles O3: the two fuse registers differ from their tables and stand in order, every other memory and the queue are empty. -/
theorem invariantHoldsAtReset : Obligations.InvariantHoldsAtReset := ⟨reset_canonical, rfl⟩

/-- The minima of the rails have not been measured (R519). -/
theorem resetOf_railMin : ∀ k < 10, resetOf (rRailMin k) = 0xFFFF := by decide

theorem rRailMin_gt (k : Nat) : 0x054 < rRailMin k := by
  simp only [rRailMin, regAddr, PageKind.info]
  omega

/-- Settles O60: `reset_reg` for the registers, and the states that a register shows read from the reset value of its table. -/
theorem resetValuesHold : Obligations.ResetValuesHold := by
  have railMin (k : Nat) (hk : k < 10) : State.reset.reg (rRailMin k) = 0xFFFF := by
    have hgt := rRailMin_gt k
    rw [reset_reg (by omega) (by omega), resetOf_railMin k hk]
  have engine : State.reset.engState = engIdle := (reset_fld (by decide) (by decide) _ _).trans (by decide)
  have power : State.reset.pwrState = pwrActive := (reset_fld (by decide) (by decide) _ _).trans (by decide)
  have weft : State.reset.weftState = weftNotLoaded := (reset_fld (by decide) (by decide) _ _).trans (by decide)
  have link : State.reset.linkIsUp = false := (congrArg (fun w => bitOf w 31) (reset_reg (a := rLink) (by decide) (by decide))).trans (by decide)
  exact ⟨fun a hlc hkey => reset_reg hlc hkey, rfl, rfl, rfl, rfl, rfl, rfl, rfl, rfl, engine, power, weft, link, rfl, railMin,
    fun _ => rfl, fun _ => rfl⟩

end Sys2Proof.Machine
end

section
/-!
Accesses of register pages (R40, R43, R46 to R50, R481, R562): the record of an accepted write, its effect, what a rejected one leaves, the
header registers of a page, and the pairs that a read captures.
-/

namespace Sys2Proof.Machine

/-! Addresses (Table 2-1). -/

/-- Pages begin at multiples of 4 KiB and lie below the fabric window. -/
theorem page_bounds (k : PageKind) : k.info.1 % 0x1000 = 0 ∧ k.info.1 + k.info.2.1 * 0x1000 ≤ 0x0400_0000 := by cases k <;> decide

section

variable {k : PageKind} {n off : Nat} (hn : n < k.info.2.1) (ho : off < 0x1000)

include hn ho in
theorem toNat_regAddr : (BitVec.ofNat 32 (regAddr k n off)).toNat = regAddr k n off := by
  have hend := (page_bounds k).2
  rw [BitVec.toNat_ofNat, Nat.mod_eq_of_lt]
  unfold regAddr
  omega

include hn in
/-- The page number of a command gives the base of its page. -/
theorem toNat_pageNumber (o : Nat) : (BitVec.ofNat 20 (regAddr k n 0 / 0x1000)).toNat * 0x1000 + o = regAddr k n o := by
  obtain ⟨halign, hend⟩ := page_bounds k
  rw [BitVec.toNat_ofNat, Nat.mod_eq_of_lt] <;> unfold regAddr <;> omega

end

/-! Each command is one access of its master. -/

theorem exec_pairLoRead (m : Master) (addr : BitVec 32) (s : State) :
    exec (.pairLoRead m addr) s = .next (access (busRead m.id addr.toNat) s) := rfl

section

variable (m : Master) {k : PageKind} {n off : Nat} (be : BitVec 4) (v : Word) (s : State) (hn : n < k.info.2.1)

include hn

theorem exec_registerWrite_page (ho : off < 0x1000) : exec (.registerWrite m (BitVec.ofNat 32 (regAddr k n off)) be v) s =
    .next (access (busWrite m.id (Page.base ⟨k, n⟩ + off) be.toNat v) s) := by
  change Host.Outcome.next (access (busWrite m.id (BitVec.ofNat 32 (regAddr k n off)).toNat be.toNat v) s) = _
  rw [toNat_regAddr hn ho]
  rfl

theorem exec_errCodeClear_page : exec (.errCodeClear m (BitVec.ofNat 20 (regAddr k n 0 / 0x1000)) v) s =
    .next (access (busWrite m.id (Page.base ⟨k, n⟩ + 0x020) 15 v) s) := by
  change Host.Outcome.next (access (busWrite m.id ((BitVec.ofNat 20 (regAddr k n 0 / 0x1000)).toNat * 0x1000 + 0x020) 15 v) s) = _
  rw [toNat_pageNumber hn]
  rfl

theorem exec_pageLockSet_page : exec (.pageLockSet m (BitVec.ofNat 20 (regAddr k n 0 / 0x1000)) v) s =
    .next (access (busWrite m.id (Page.base ⟨k, n⟩ + 0x030) 15 v) s) := by
  change Host.Outcome.next (access (busWrite m.id ((BitVec.ofNat 20 (regAddr k n 0 / 0x1000)).toNat * 0x1000 + 0x030) 15 v) s) = _
  rw [toNat_pageNumber hn]
  rfl

theorem exec_pairLoRead_page (ho : off < 0x1000) : exec (.pairLoRead m (BitVec.ofNat 32 (regAddr k n off))) s =
    .next (access (busRead m.id (Page.base ⟨k, n⟩ + off)) s) := by
  rw [exec_pairLoRead, toNat_regAddr hn ho]
  rfl

end

/-! The record of an accepted write. -/

/-- An event leaves the change log as it is. -/
theorem State.pulse_log (s : State) (k : PageKind) (n bit : Nat) : (s.pulse k n bit).log = s.log := by
  rw [State.pulse, State.raise_frame]

/-- The entry of a logged write; a log with room takes it at its end (R483, R484). -/
theorem State.logEntry_entry (s : State) (origin kind addr : Nat) (value : Word) :
    ∃ e : LogEntry, e.time = s.now ∧ e.origin = origin ∧ e.addr = addr ∧
      (s.log.entries.length < logSize → (s.logEntry origin kind addr value).log.entries = s.log.entries ++ [e]) := by
  have hcount : (s.countChange addr).log = s.log ∧ (s.countChange addr).now = s.now := by
    rw [State.countChange_frame]
    exact ⟨rfl, rfl⟩
  obtain ⟨hlog, hnow⟩ := hcount
  unfold State.logEntry State.logAs
  generalize s.countChange addr = u at hlog hnow
  refine ⟨{ time := s.now, origin, kind, late := false, afterLoss := s.log.afterLoss,
            reserve := u.logStrict && decide (logSize - s.log.entries.length ≤ logReserve), addr, value }, rfl, rfl, rfl, fun room => ?_⟩
  have notFull : decide (logSize ≤ s.log.entries.length) = false := decide_eq_false (Nat.not_le.mpr room)
  unfold State.logPut
  simp only [hlog, hnow, notFull, Bool.false_and, Bool.false_eq_true, if_false]
  split
  · rw [State.pulse_log]
  · rfl

/-- Storing a value writes the register, or the master's own copy of it. -/
theorem State.store_frame (s : State) (m : Nat) (p : Page) (off : Nat) (v : Word) :
    s.store m p off v = { s with regs := (s.store m p off v).regs, caps := (s.store m p off v).caps } := by
  unfold State.store State.storeHeader
  split
  · rfl
  · split
    · split <;> rfl
    · rfl

/-- A register that is not logged leaves the log and the events alone. -/
theorem recorded_unlogged {s : State} {m off : Nat} {p : Page} {v : Word} (hk : p.kind = .serdes → off < 0x100) (hl : logged p off = false) :
    (s.recorded m p off v).log = s.log ∧ (s.recorded m p off v).ev = s.ev := by
  rw [State.recorded, recorded_begun hk, State.logWrite, hl, if_neg Bool.false_ne_true, State.store_frame]
  exact ⟨rfl, rfl⟩

theorem recorded_logged {s : State} {m off : Nat} {p : Page} {v : Word} (hk : p.kind = .serdes → off < 0x100) (hl : logged p off = true) :
    ∃ e : LogEntry, e.time = s.now ∧ e.origin = m ∧ e.addr = p.base + off ∧
      (s.log.entries.length < logSize → (s.recorded m p off v).log.entries = s.log.entries ++ [e]) := by
  have hstore : (s.forgetAnswer.store m p off v).log = s.log ∧ (s.forgetAnswer.store m p off v).now = s.now := by
    rw [State.store_frame]
    exact ⟨rfl, rfl⟩
  obtain ⟨hlog, hnow⟩ := hstore
  rw [State.recorded, recorded_begun hk, State.logWrite, hl, if_pos rfl, ← hlog, ← hnow]
  exact State.logEntry_entry _ _ _ _ _

/-! Rejected accesses. -/

/-- A master that is told of a rejection by its answer alone: no host write, and no engine with a page of its own. -/
theorem noteRejection_none {u : State} (hhost : (isHostId u.resp.master && u.resp.write) = false) (heng : enginePage u.resp.master = none) :
    u.noteRejection = u := by
  unfold State.noteRejection
  split
  · rfl
  · simp only [hhost, heng, Bool.false_eq_true, if_false]

/-- The end of an access of a page that its master is told of, and that is no part of a longer one. -/
theorem conclude_heard {u : State} {e : Issued} (hm : u.resp.master = e.master) (hout : e.timedOut = false) (hunheard : e.unheard = false)
    (hinit : e.init = false) (hpart : e.part = none) : u.conclude e = u.heard e.master := by
  simp only [State.conclude, hm, hout, hunheard, hinit, hpart, Bool.or_self, Bool.false_eq_true, if_false, if_true, State.passOn, State.heard]

/-- A write that fails a check of Table 2-5 before check 11 is refused by its page (R49, R50). -/
theorem access_write_refused {s : State} {m off be c : Nat} {p : Page} {v : Word} (hrun : s.inReset = false)
    (hturn : s.waits { master := m, addr := p.base + off, write := true, value := v, be := be } = false) (hn : p.inst < p.kind.info.2.1)
    (ho : off < 0x1000) (h4 : off % 4 = 0)
    (hfail : (s.begun p off).writeFails m p off be ((s.begun p off).view m p off) v = some c) :
    access (busWrite m (p.base + off) be v) s = (((s.begun p off).refuse m p true off c).heard m).noteRejection := by
  have hpage : pageWrite m p off be v s.forgetAnswer = (s.begun p off).refuse m p true off c := by
    unfold pageWrite
    change (s.begun p off).writeReg m p off be ((s.begun p off).view m p off) v _ = _
    simp only [State.writeReg, hfail]
  have hbus := busAccess_page (s := s.forgetAnswer) (e := { master := m, addr := p.base + off, write := true, value := v, be := be })
    hturn rfl rfl rfl hn ho h4
  rw [if_pos rfl, hpage, conclude_heard (by rfl) rfl rfl rfl rfl] at hbus
  rw [access, hrun, if_neg Bool.false_ne_true, busWrite, hbus]

/-- A read of an unmapped address that has its turn (R37). -/
theorem access_read_unmapped {s : State} {m a : Nat} (hrun : s.inReset = false) (hturn : s.waits { master := m, addr := a } = false)
    (hwin : inFabricWindow a = false) (hpage : pageOf a = none) :
    access (busRead m a) s = ((unmappedAccess m a false s.forgetAnswer).heard m).noteRejection := by
  have hperform : Issued.perform { master := m, addr := a } s.forgetAnswer = unmappedAccess m a false s.forgetAnswer := by
    simp only [Issued.perform, Issued.arrive, hwin, hpage, Bool.false_eq_true, if_false]
  have hbus : busRead m a s.forgetAnswer = (unmappedAccess m a false s.forgetAnswer).heard m := by
    have hturn' : s.forgetAnswer.waits { master := m, addr := a } = false := hturn
    rw [busRead, busAccess, hturn', if_neg Bool.false_ne_true, hperform]
    exact conclude_heard rfl rfl rfl rfl rfl
  rw [access, hrun, if_neg Bool.false_ne_true, hbus]

theorem State.heard_reg (s : State) (m a : Nat) : (s.heard m).reg a = s.reg a := by
  rw [State.heard_jtag]
  rfl

theorem State.heard_fld (s : State) (m a hi lo : Nat) : (s.heard m).fld a hi lo = s.fld a hi lo :=
  congrArg (fun w => fieldOf w hi lo) (s.heard_reg m a)

theorem master_id_eq_five (m : Master) : m.id = 5 ↔ m = .jtag := ⟨eq_jtag_of_id, fun h => h ▸ rfl⟩

/-- What the debug port shows of an answer without data. -/
theorem State.heard_no_data {s : State} (h : s.resp.data = []) (m : Master) :
    (s.heard m.id).jtag = if m = .jtag then { s.jtag with out := 0 } else s.jtag := by
  unfold State.heard
  simp only [master_id_eq_five, h, List.headD_nil]
  split <;> rfl

/-- What a rejection leaves in its page: the code, and who made the access (R49). -/
theorem recordRejection_reads {u : State} (hc : u.Canonical) (p : Page) (m : Nat) (write : Bool) (off : Nat) {c : Nat} (h : c < 256) :
    (u.recordRejection p m write off c).fld (p.base + 0x020) 7 0 = c ∧
    (u.recordRejection p m write off c).reg (p.base + 0x024) = BitVec.ofNat 32 (place m 26 + flag write 25 + off) := by
  have hcount : (u.count (p.base + 0x020) 23 16 1).Canonical := hc.setReg _ _
  have hcode : ((u.count (p.base + 0x020) 23 16 1).setFld (p.base + 0x020) 7 0 c).fld (p.base + 0x020) 7 0 = c :=
    (State.fld_setFld hcount _ _ _ _ (by decide) (by decide)).trans (Nat.mod_eq_of_lt h)
  have hfield : ((u.count (p.base + 0x020) 23 16 1).setFld (p.base + 0x020) 7 0 c).Canonical := hcount.setReg _ _
  unfold State.recordRejection
  dsimp only
  refine ⟨?_, by rw [State.reg_setReg hfield, if_pos rfl]⟩
  rw [State.fld, State.reg_setReg_other _ _ (by omega)]
  exact hcode

/-- What a rejected write leaves (R46, R49, R50). -/
theorem registerWrite_rejected (m : Master) (k : PageKind) (n off : Nat) (be : BitVec 4) (v : Word) (c : Nat) (s : State) (hc : s.Canonical)
    (hrun : s.inReset = false) (hn : n < k.info.2.1) (ho : off < 0x1000) (h4 : off % 4 = 0) (hk : k = .serdes → off < 0x100)
    (hturn : s.waits { master := m.id, addr := regAddr k n off, write := true, value := v, be := be.toNat } = false)
    (hfail : (s.begun ⟨k, n⟩ off).writeFails m.id ⟨k, n⟩ off be.toNat ((s.begun ⟨k, n⟩ off).view m.id ⟨k, n⟩ off) v = some c) :
    ∃ t : State, exec (.registerWrite m (BitVec.ofNat 32 (regAddr k n off)) be v) s = .next t.noteRejection ∧
      t.fld (regAddr k n 0x020) 7 0 = c ∧ t.fld (regAddr k n 0x020) 23 16 = min 255 (s.fld (regAddr k n 0x020) 23 16 + 1) ∧
      t.reg (regAddr k n 0x024) = BitVec.ofNat 32 (place m.id 26 + flag true 25 + off) ∧
      t.resp = ⟨m.id, true, regAddr k n off, [], c, .success⟩ ∧
      (∀ a, a ≠ regAddr k n 0x020 → a ≠ regAddr k n 0x024 → t.reg a = s.reg a) ∧
      t = { s with regs := t.regs, resp := t.resp, jtag := if m = .jtag then { s.jtag with out := 0 } else s.jtag } ∧
      (m.isHost = false → enginePage m.id = none → t.noteRejection = t) := by
  have hbegun : s.begun ⟨k, n⟩ off = s.forgetAnswer := recorded_begun hk
  have hwrite := access_write_refused (p := ⟨k, n⟩) hrun hturn hn ho h4 hfail
  rw [hbegun] at hwrite hfail
  obtain ⟨hcode, hcount, horigin, hresp, hregs, hframe⟩ := refuse_spec hc.forget m.id ⟨k, n⟩ off c (fail_code hfail)
  generalize s.forgetAnswer.refuse m.id ⟨k, n⟩ true off c = u at *
  have hheard : (u.heard m.id).resp = u.resp := heard_code u m.id
  refine ⟨u.heard m.id, ?next, (u.heard_fld _ _ _ _).trans hcode, (u.heard_fld _ _ _ _).trans hcount, (u.heard_reg _ _).trans horigin,
    hheard.trans hresp, fun a h20 h24 => (u.heard_reg _ _).trans (hregs a h20 h24), ?frame, fun hhost heng => ?quiet⟩
  case next => rw [exec_registerWrite_page m be v s hn ho, hwrite]
  case frame =>
    have hjtag := State.heard_no_data (s := u) (by rw [hresp]) m
    obtain ⟨regs, resp, rfl⟩ : ∃ regs resp, u = { s with regs := regs, resp := resp } := ⟨_, _, hframe⟩
    refine (State.heard_frame _ _).trans ?_
    rw [hjtag, State.heard_frame]
  case quiet =>
    have hmaster : (u.heard m.id).resp.master = m.id := by rw [hheard, hresp]
    exact noteRejection_none (by rw [hmaster, isHostId_id, hhost, Bool.false_and]) (by rw [hmaster, heng])

theorem State.answer_reg (s : State) (m : Nat) (write : Bool) (a : Nat) (data : List Word) (code b : Nat) :
    (s.answer m write a data code).reg b = s.reg b := rfl

/-- The DEVICE page's record of an unmapped access: its event changes no other register of the page. -/
theorem unmappedAccess_reg (s : State) (m a : Nat) (write : Bool) {b : Nat} (hb : b ∉ eventRegisters ⟨.device, 0⟩) :
    (unmappedAccess m a write s).reg b = (s.recordRejection ⟨.device, 0⟩ m write (a % 0x1000) codeUnmapped).reg b := by
  rw [unmappedAccess, State.answer_reg, State.recordUnmapped, State.pulse, State.raise_reg _ _ _ _ hb]

theorem unmappedAccess_resp (s : State) (m a : Nat) (write : Bool) : ∃ st, (unmappedAccess m a write s).resp =
    ⟨m, write, a, rejectedData m write 0 codeUnmapped, codeUnmapped, st⟩ := ⟨_, rfl⟩

/-- A rejected read brings no data to the host, and 0 to any other master (R50). -/
theorem rejectedData_read (m : Master) {c : Nat} (hc : c ≠ 0) : rejectedData m.id false 0 c = if m.isHost then [] else [0] := by
  rw [← isHostId_id, isHostId, rejectedData, if_neg Bool.false_ne_true, if_neg hc]
  simp only [Bool.and_eq_true, decide_eq_true_eq]

/-- What a read of an unmapped address leaves (R37, R50). -/
theorem pairLoRead_unmapped (m : Master) (addr : BitVec 32) (s : State) (hc : s.Canonical) (hrun : s.inReset = false)
    (hwin : inFabricWindow addr.toNat = false) (hpage : pageOf addr.toNat = none) (hturn : s.waits { master := m.id, addr := addr.toNat } = false) :
    ∃ t : State, exec (.pairLoRead m addr) s = .next t.noteRejection ∧ t.resp.code = codeUnmapped ∧
      t.resp.data = (if m.isHost then [] else [0]) ∧ t.fld (regAddr .device 0 0x020) 7 0 = codeUnmapped ∧
      t.reg (regAddr .device 0 0x024) = BitVec.ofNat 32 (place m.id 26 + addr.toNat % 0x1000) ∧
      (enginePage m.id = none → t.noteRejection = t) := by
  obtain ⟨hcode, horigin⟩ := recordRejection_reads hc.forget ⟨.device, 0⟩ m.id false (addr.toNat % 0x1000) (by decide : codeUnmapped < 256)
  rw [show flag false 25 = 0 from rfl, Nat.add_zero (place m.id 26)] at horigin
  have hexec := exec_pairLoRead m addr s
  rw [access_read_unmapped hrun hturn hwin hpage] at hexec
  rw [← unmappedAccess_reg _ _ _ _ (by decide)] at horigin
  rw [State.fld, ← unmappedAccess_reg _ _ _ _ (by decide)] at hcode
  obtain ⟨st, hresp⟩ := unmappedAccess_resp s.forgetAnswer m.id addr.toNat false
  generalize unmappedAccess m.id addr.toNat false s.forgetAnswer = u at *
  rw [← heard_code u m.id] at hresp
  rw [rejectedData_read m (by decide)] at hresp
  refine ⟨u.heard m.id, hexec, congrArg Response.code hresp, congrArg Response.data hresp, (u.heard_fld _ _ _ _).trans hcode,
    (u.heard_reg _ _).trans horigin, fun heng => noteRejection_none ?host ?engine⟩
  case host => rw [hresp]; exact Bool.and_false _
  case engine => rw [hresp]; exact heng

/-- Settles O14: the record of an accepted write by `recorded_regs`, `recorded_frame` and its log entry; a rejected access by what its page
records. -/
theorem writesLeaveTheirRecord : Obligations.WritesLeaveTheirRecord := by
  refine ⟨fun m off p v s hc hk h20 hid ho hn => ?_, registerWrite_rejected, pairLoRead_unmapped⟩
  obtain ⟨hvalue, hother⟩ := recorded_regs (m := m) (v := v) hc hk h20 hid ho hn
  exact ⟨hvalue, hother, recorded_unlogged hk, recorded_logged hk, recorded_frame hk hid⟩

/-! Accepted writes. -/

/-- REGISTER_WRITE of an accepted value, by the effect of its register. -/
theorem registerWrite_next {m : Master} {k : PageKind} {n off : Nat} {v : Word} {s : State} (hn : n < k.info.2.1) (ho : off < 0x1000)
    (h4 : off % 4 = 0) (ha : s.Accepts m.id ⟨k, n⟩ off v) (hstart : isStart ⟨k, n⟩ off v = false) (hlog : ¬ (k = .log ∧ off = 0x058))
    (hwaits : ((s.begun ⟨k, n⟩ off).effectOf m.id ⟨k, n⟩ off ((s.begun ⟨k, n⟩ off).view m.id ⟨k, n⟩ off) v).waits = false) :
    exec (.registerWrite m (BitVec.ofNat 32 (regAddr k n off)) 15 v) s =
      .next ((State.effectAt m.id ⟨k, n⟩ off ((s.begun ⟨k, n⟩ off).view m.id ⟨k, n⟩ off) v (s.recorded m.id ⟨k, n⟩ off v)).done m.id ⟨k, n⟩
        off) := by
  rw [exec_registerWrite_page m 15 v s hn ho]
  exact congrArg Host.Outcome.next (access_write (p := ⟨k, n⟩) ha hn ho h4 hstart hlog hwaits)

theorem State.done_resp (s : State) (m : Nat) (p : Page) (off : Nat) : (s.done m p off).resp = ⟨m, true, p.base + off, [], 0, .success⟩ := by
  rw [State.done, heard_code]
  rfl

/-- Settles O15: the write is performed, has its effect and is answered with code 0. -/
theorem acceptedWriteHasItsEffect : Obligations.AcceptedWriteHasItsEffect :=
  fun _ _ _ _ _ _ hn ho h4 ha hstart hlog hwaits =>
    ⟨_, registerWrite_next hn ho h4 ha hstart hlog hwaits, rfl, State.done_resp _ _ _ _⟩

/-! The header registers of a page (R40, R47). -/

/-- A register of the header above EVT_STICKY has no effect beside its value. -/
theorem effectAt_header (m : Nat) (p : Page) {off : Nat} (old v : Word) (s : State) (hlow : 0x014 < off) (hhigh : off < 0x040) :
    State.effectAt m p off old v s = s := by
  have hne (o : Nat) (ho : o ≤ 0x014 ∨ 0x040 ≤ o) : off ≠ o := by omega
  obtain ⟨k, n⟩ := p
  cases k <;>
    simp [State.effectAt, powerWritten, logWritten, eventWritten, semaWritten, pinWritten, patternPageWritten, bankWritten, hostperWritten,
      mgmtWritten, paceWritten, serdesWritten, pcsWritten, State.dmaEffect, chanPart, shuttleWritten, sidePart, svWritten, State.creelEffect,
      hne, show off < 0x100 by omega, show ¬ 0x100 ≤ off by omega]

theorem header_waits (s : State) (m : Nat) (p : Page) {off : Nat} (old v : Word) (hhigh : off < 0x040) :
    (s.effectOf m p off old v).waits = false := by
  simp [State.effectOf, show off ≠ 0x060 by omega, show off ≠ 0x080 by omega]

/-- An accepted write of a register of the header above EVT_STICKY leaves its record alone. -/
theorem access_write_header {s : State} {m off : Nat} {p : Page} {v : Word} (ha : s.Accepts m p off v) (hn : p.inst < p.kind.info.2.1)
    (h4 : off % 4 = 0) (hlow : 0x014 < off) (hhigh : off < 0x040) :
    access (busWrite m (p.base + off) 15 v) s = (s.recorded m p off v).done m p off := by
  have hstart : isStart p off v = false := decide_eq_false (fun h => by omega)
  rw [access_write ha hn (by omega) h4 hstart (by omega) (header_waits _ _ _ _ _ hhigh), effectAt_header _ _ _ _ _ hlow hhigh]

/-- A header register stands for all masters. -/
theorem perIdentity_header (p : Page) {off : Nat} (hhigh : off < 0x040) : perIdentity p off = false := by
  obtain ⟨k, n⟩ := p
  cases k <;> simp only [perIdentity, decide_eq_false_iff_not] <;> omega

/-- ERR_CODE is never logged: an accepted write clears the record of a rejection, or does nothing (R47). -/
theorem recorded_errCode (s : State) (m : Nat) (p : Page) (v : Word) : s.recorded m p 0x020 v =
    if bitOf v 31 then (s.forgetAnswer.setReg (p.base + 0x020) 0).setReg (p.base + 0x024) 0 else s.forgetAnswer := by
  have hlogged : logged p 0x020 = false := by simp [logged]
  rw [State.recorded, recorded_begun (fun _ => by decide), State.logWrite, hlogged, if_neg Bool.false_ne_true, State.store,
    perIdentity_header p (by decide), if_neg Bool.false_ne_true, State.storeHeader, if_pos rfl]

theorem errCodeClear_next (m : Master) (k : PageKind) (n : Nat) (v : Word) (s : State) (hc : s.Canonical) (hn : n < k.info.2.1)
    (ha : s.Accepts m.id ⟨k, n⟩ 0x020 v) :
    ∃ t, exec (.errCodeClear m (BitVec.ofNat 20 (regAddr k n 0 / 0x1000)) v) s = .next t ∧ t.resp.code = 0 ∧
      (bitOf v 31 = true → t.reg (regAddr k n 0x020) = 0 ∧ t.reg (regAddr k n 0x024) = 0 ∧
        ∀ a, a ≠ regAddr k n 0x020 → a ≠ regAddr k n 0x024 → t.reg a = s.reg a) ∧
      (bitOf v 31 = false → t.regs = s.regs) ∧ t = { s with regs := t.regs, resp := t.resp, jtag := { s.jtag with out := t.jtag.out } } := by
  have hexec := exec_errCodeClear_page m v s hn
  rw [access_write_header (p := ⟨k, n⟩) ha hn (by decide) (by decide) (by decide)] at hexec
  refine ⟨_, hexec, State.done_code _ _ _ _, ?_⟩
  rw [recorded_errCode]
  refine ⟨fun hclear => ?_, fun hclear => ?_, ?frame⟩
  · rw [if_pos hclear]
    have hregs (a : Nat) : (((s.forgetAnswer.setReg (regAddr k n 0x020) 0).setReg (regAddr k n 0x024) 0).done m.id ⟨k, n⟩ 0x020).reg a =
        if a = regAddr k n 0x024 then 0 else if a = regAddr k n 0x020 then 0 else s.reg a := by
      rw [State.done_reg, State.reg_setReg (hc.forget.setReg _ _), State.reg_setReg hc.forget]
      rfl
    refine ⟨?_, ?_, fun a h20 h24 => ?_⟩
    · exact (hregs _).trans (by rw [if_pos rfl, ite_self])
    · exact (hregs _).trans (if_pos rfl)
    · exact (hregs _).trans (by rw [if_neg h24, if_neg h20])
  · rw [hclear, if_neg Bool.false_ne_true, State.done, State.heard_jtag]
    rfl
  case frame =>
    rw [State.done, State.heard_jtag]
    split <;> rfl

/-- PAGE_LOCK of every page. -/
theorem fieldsAt_pageLock (p : Page) : fieldsAt p 0x030 = [w1s 0 0] := by
  simp [fieldsAt, headerRegs, Reg.covers, one]

/-- LOCK is set by a 1 and kept by a 0 (R40). -/
theorem writtenWord_pageLock (old v : Word) : bitOf (writtenWord [w1s 0 0] old v) 0 = (bitOf old 0 || bitOf v 0) := by
  have hlt : (old.toNat ||| v.toNat) &&& 1 < 4294967296 := Nat.lt_of_le_of_lt Nat.and_le_right (by decide)
  simp only [bitOf, writtenWord, List.foldl_cons, List.foldl_nil, w1s, Field.mask, Nat.reduceSub, Nat.reducePow, Nat.reduceMul,
    Nat.zero_add, BitVec.toNat_ofNat]
  rw [Nat.mod_eq_of_lt hlt, Nat.testBit_and, Nat.testBit_or]
  exact Bool.and_true _

theorem pageLockSet_next (m : Master) (k : PageKind) (n : Nat) (v : Word) (s : State) (hc : s.Canonical) (hn : n < k.info.2.1)
    (ha : s.Accepts m.id ⟨k, n⟩ 0x030 v) :
    exec (.pageLockSet m (BitVec.ofNat 20 (regAddr k n 0 / 0x1000)) v) s = .next ((s.recorded m.id ⟨k, n⟩ 0x030 v).done m.id
      ⟨k, n⟩ 0x030) ∧ ((s.recorded m.id ⟨k, n⟩ 0x030 v).bit (regAddr k n 0x030) 0 = (s.bit (regAddr k n 0x030) 0 || bitOf v 0)) := by
  constructor
  · rw [exec_pageLockSet_page m v s hn, access_write_header (p := ⟨k, n⟩) ha hn (by decide) (by decide) (by decide)]
  · have hvalue := (recorded_regs (m := m.id) (p := ⟨k, n⟩) (v := v) hc (fun _ => by decide : _ → 0x030 < 0x100) (by decide)
      (perIdentity_header _ (by decide)) (by decide) hn).1
    rw [fieldsAt_pageLock] at hvalue
    exact (congrArg (fun w => bitOf w 0) hvalue).trans (writtenWord_pageLock _ v)

/-! Pairs (R562). -/

/-- A read of the low half of a pair has no other side effect than the capture of the high half. -/
theorem readEffect_pairLo {m : Nat} {p : Page} {off : Nat} (s : State) (h : pairLo p off = true) :
    readEffect m p off s = (s.setCap m (p.base + off + 4) (some (s.view m p (off + 4))), s.view m p off) := by
  have hpair : readEffect m p off s = readPair m p off s := by
    obtain ⟨k, n⟩ := p
    cases k with
    | event =>
      have hoff : off = 0x068 := of_decide_eq_true h
      subst hoff
      rfl
    | sema | mgmt | hostper | serdes | shuttle => cases h
    | _ => rfl
  rw [hpair, readPair, if_pos h]

/-- The pop of a queue is no half of a pair. -/
theorem pairLo_creel {p : Page} {off : Nat} (h : pairLo p off = true) : ¬ (p.kind = .creel ∧ off = 0x160) := by
  rintro ⟨hk, rfl⟩
  simp only [pairLo, hk] at h
  cases h

/-- The answer of a read is all that its master sees of it. -/
theorem State.readDone_frame (s : State) (m : Nat) (p : Page) (off : Nat) (v : Word) : s.readDone m p off v =
    { s with resp := ⟨m, false, p.base + off, [v], 0, .success⟩, jtag := { s.jtag with out := (s.readDone m p off v).jtag.out } } :=
  State.heard_jtag _ m

theorem State.readDone_cap (s : State) (m : Nat) (p : Page) (off : Nat) (v : Word) (j a : Nat) :
    (s.readDone m p off v).cap j a = s.cap j a := by
  rw [State.readDone_frame]
  rfl

theorem pairLoRead_next (m : Master) (k : PageKind) (n off : Nat) (s : State) (hc : s.Canonical) (hn : n < k.info.2.1) (ho : off < 0x1000)
    (h4 : off % 4 = 0) (hpair : pairLo ⟨k, n⟩ off = true) (ha : s.AcceptsRead m.id ⟨k, n⟩ off) :
    ∃ t, exec (.pairLoRead m (BitVec.ofNat 32 (regAddr k n off))) s = .next t ∧
      t.resp = ⟨m.id, false, regAddr k n off, [s.forgetAnswer.view m.id ⟨k, n⟩ off], 0, .success⟩ ∧
      t.cap m.id (regAddr k n off + 4) = some (s.forgetAnswer.view m.id ⟨k, n⟩ (off + 4)) ∧
      t = { s with caps := t.caps, resp := t.resp, jtag := { s.jtag with out := t.jtag.out } } := by
  have hread := access_read (p := ⟨k, n⟩) ha hn ho h4
  rw [if_neg (pairLo_creel hpair), readEffect_pairLo _ hpair] at hread
  refine ⟨_, (exec_pairLoRead_page m s hn ho).trans (congrArg Host.Outcome.next hread), congrArg State.resp (State.readDone_frame _ _ _ _ _),
    (State.readDone_cap _ _ _ _ _ _ _).trans ?cap, (State.readDone_frame _ _ _ _ _).trans ?frame⟩
  case cap => exact State.cap_setCap_same s.forgetAnswer m.id (regAddr k n off + 4) _ (SMap.wf_sorted hc.caps)
  case frame => rw [State.readDone_frame]; rfl

/-- Settles O30: a header register has no effect beside its value, and a read of a low half captures the high one. -/
theorem pageHeaderCommandsComplete : Obligations.PageHeaderCommandsComplete := ⟨errCodeClear_next, pageLockSet_next, pairLoRead_next⟩

end Sys2Proof.Machine
end

section
/-!
Requests of the host: what the endpoint does with a memory request, in the order of its checks (R43, R404, R408, R409, R413, R414;
log entries 21, 22 and 23), and how a configuration request ends (R407, R413, R415, R417).
-/

namespace Sys2Proof.Machine

/-! Memory requests. -/

/-- The function takes memory requests: it is not in FLR, has memory space on, is in D0, and is one that is seen. -/
def State.functionLive (s : State) (f : Nat) : Bool := !s.inFlr f && s.msEnabled f && !s.inD3 f && (!s.pf0Alone || decide (f = 0))

theorem functionLive_iff (s : State) (f : Fin 4) :
    s.functionLive f = true ↔ s.inFlr f = false ∧ s.msEnabled f = true ∧ s.inD3 f = false ∧ (s.pf0Alone = true → f = 0) := by
  simp only [State.functionLive, Bool.and_eq_true, Bool.not_eq_true', and_assoc, Bool.or_eq_true, decide_eq_true_eq, Fin.val_eq_zero_iff,
    ← Bool.not_eq_true, ← imp_iff_not_or]

/-- A request has its credits; `words` are the DWords of a write (R414). -/
def State.hostCredit (s : State) (op : HostOp) (words : Nat) : Bool :=
  if op = .write then s.postedRoom words else decide (s.hostWaiting < hostCredits)

theorem hostCredit_iff (s : State) (op : HostOp) (words : Nat) :
    s.hostCredit op words = true ↔ if op = .write then s.postedRoom words = true else s.hostWaiting < 256 := by
  unfold State.hostCredit
  split
  · exact Iff.rfl
  · exact decide_eq_true_iff

/-- The DWords of a request. -/
def hostWords (op : HostOp) (ws : List Word) (len : Nat) : Nat := if op = .write then ws.length else len

section

variable {f : Nat} {bar : Bar} {off : Nat} {op : HostOp} {be last : Nat} {ws : List Word} {len : Nat} {s : State} (hup : s.linkIsUp = true)

include hup

/-- The checks of a memory request in their order, once the link is up. -/
theorem hostMemoryRequest_eq (p e : Bool) : hostMemoryRequest f bar off op be last ws len p e s =
    if !s.hostCredit op ws.length then s.forgetAnswer
    else if e && s.pciBit f pciAerCtl 8 then (s.aer f 19).forgetAnswer
    else if op = .io ∨ op = .atomic then s.unsupported f false off
    else if !s.functionLive f then s.unsupported f (decide (op = .write)) off
    else if p then (s.aerAdvisory f 12).unsupported f (decide (op = .write)) off
    else if barSize f bar < off + 4 * hostWords op ws len then s.unsupported f (decide (op = .write)) off
    else if msixSizeBad bar off (hostWords op ws len) be last (decide (op = .write)) then
      access (fun s => s.hostAnswer f (decide (op = .write)) off [] codeBadSize (if decide (op = .write) then .success else .abort)) s
    else if decide (op = .write) then hostWriteRequest f bar last off be ws s
    else hostReadRequest f bar off (hostWords op ws len) s := by
  have words : (if decide (op = .write) = true then ws.length else len) = hostWords op ws len := by
    simp only [decide_eq_true_eq, hostWords]
  have credit : (if decide (op = .write) = true then !s.postedRoom (hostWords op ws len) else decide (hostCredits ≤ s.hostWaiting)) =
      !s.hostCredit op ws.length := by
    by_cases hw : op = .write
    · simp [hw, hostWords, State.hostCredit]
    · simp only [hw, State.hostCredit, decide_false, Bool.false_eq_true, if_false]
      rw [← decide_not, decide_eq_decide, Nat.not_lt]
  have live : (s.inFlr f || !s.msEnabled f || s.inD3 f || (s.pf0Alone && decide (f ≠ 0))) = !s.functionLive f := by
    simp [State.functionLive]
  unfold hostMemoryRequest
  simp only [words, credit, live, hup, Bool.not_true, Bool.false_eq_true, if_false]

/-- Without a credit the request stays in the host. -/
theorem hostMemoryRequest_held (hcredit : s.hostCredit op ws.length = false) (p e : Bool) :
    hostMemoryRequest f bar off op be last ws len p e s = s.forgetAnswer := by
  rw [hostMemoryRequest_eq hup, hcredit]
  rfl

variable (hcredit : s.hostCredit op ws.length = true)

include hcredit

/-- With an ECRC error, where the function checks it, the request is discarded and not counted (R413; log entry 23). -/
theorem hostMemoryRequest_ecrc (p : Bool) (hecrc : s.pciBit f pciAerCtl 8 = true) :
    hostMemoryRequest f bar off op be last ws len p true s = (s.aer f 19).forgetAnswer := by
  rw [hostMemoryRequest_eq hup, hcredit, hecrc]
  rfl

/-- I/O and atomic requests are unsupported. -/
theorem hostMemoryRequest_kind (p : Bool) (hop : op = .io ∨ op = .atomic) :
    hostMemoryRequest f bar off op be last ws len p false s = s.unsupported f false off := by
  rw [hostMemoryRequest_eq hup, hcredit]
  exact if_pos hop

variable (hop : op = .read ∨ op = .write)

include hop

/-- A memory request goes on to the checks of its function. -/
theorem hostMemoryRequest_memory (p : Bool) : hostMemoryRequest f bar off op be last ws len p false s =
    if !s.functionLive f then s.unsupported f (decide (op = .write)) off
    else if p then (s.aerAdvisory f 12).unsupported f (decide (op = .write)) off
    else if barSize f bar < off + 4 * hostWords op ws len then s.unsupported f (decide (op = .write)) off
    else if msixSizeBad bar off (hostWords op ws len) be last (decide (op = .write)) then
      access (fun s => s.hostAnswer f (decide (op = .write)) off [] codeBadSize (if decide (op = .write) then .success else .abort)) s
    else if decide (op = .write) then hostWriteRequest f bar last off be ws s
    else hostReadRequest f bar off (hostWords op ws len) s := by
  have hkind : ¬ (op = .io ∨ op = .atomic) := by rcases hop with rfl | rfl <;> simp
  rw [hostMemoryRequest_eq hup, hcredit]
  exact if_neg hkind

/-- A request at a function that does not take it is unsupported. -/
theorem hostMemoryRequest_closed (p : Bool) (hlive : s.functionLive f = false) :
    hostMemoryRequest f bar off op be last ws len p false s = s.unsupported f (decide (op = .write)) off := by
  rw [hostMemoryRequest_memory hup hcredit hop, hlive]
  rfl

variable (hlive : s.functionLive f = true)

include hlive

/-- A poisoned request is unsupported, and logged as Advisory Non-Fatal (R413; a write is counted as dropped, log entry 23). -/
theorem hostMemoryRequest_poisoned :
    hostMemoryRequest f bar off op be last ws len true false s = (s.aerAdvisory f 12).unsupported f (decide (op = .write)) off := by
  rw [hostMemoryRequest_memory hup hcredit hop, hlive]
  rfl

/-- A request beyond its BAR is unsupported. -/
theorem hostMemoryRequest_beyond (hbar : barSize f bar < off + 4 * hostWords op ws len) :
    hostMemoryRequest f bar off op be last ws len false false s = s.unsupported f (decide (op = .write)) off := by
  rw [hostMemoryRequest_memory hup hcredit hop, hlive]
  exact if_pos hbar

variable (hbar : off + 4 * hostWords op ws len ≤ barSize f bar)

include hbar

/-- The MSI-X table takes whole DWords and QWords alone (R409, log entry 21). -/
theorem hostMemoryRequest_badSize (hsize : msixSizeBad bar off (hostWords op ws len) be last (decide (op = .write)) = true) :
    hostMemoryRequest f bar off op be last ws len false false s =
      access (fun s => s.hostAnswer f (decide (op = .write)) off [] codeBadSize (if decide (op = .write) then .success else .abort)) s := by
  rw [hostMemoryRequest_memory hup hcredit hop, hlive, hsize]
  exact if_neg (Nat.not_lt.mpr hbar)

/-- A request that passes every check of the endpoint is carried out. -/
theorem hostMemoryRequest_carriedOut (hsize : msixSizeBad bar off (hostWords op ws len) be last (decide (op = .write)) = false) :
    hostMemoryRequest f bar off op be last ws len false false s =
      if decide (op = .write) then hostWriteRequest f bar last off be ws s else hostReadRequest f bar off (hostWords op ws len) s := by
  rw [hostMemoryRequest_memory hup hcredit hop, hlive, hsize]
  exact if_neg (Nat.not_lt.mpr hbar)

end

/-! A read that is carried out. -/

theorem hostReadRequest_one (f : Nat) (bar : Bar) (off : Nat) (s : State) :
    hostReadRequest f bar off 1 s = access (hostWord f bar off { master := 8 + f }) (s.noteHostPeak (s.hostWaiting + 1)) := rfl

/-- A read of several DWords is refused as a whole where one of them has a side effect (R43; no page records it, log entry 22). -/
theorem hostReadRequest_sideEffect {f : Nat} {off n : Nat} (s : State) (hn : 1 < n)
    (hside : ∃ k < n, sideEffectAt (bar0Address f off + 4 * k) = true) :
    hostReadRequest f .bar0 off n s = (s.noteHostPeak (s.hostWaiting + 1)).hostAnswer f false off [] codeNotPermitted .abort := by
  have hany : (List.range n).any (fun k => sideEffectAt (bar0Address f off + 4 * k)) = true := by
    obtain ⟨k, hk, hside⟩ := hside
    exact List.any_eq_true.mpr ⟨k, List.mem_range.mpr hk, hside⟩
  simp only [hostReadRequest, hn, hany, decide_true, Bool.and_self, if_true]

/-- Any other read of several DWords is held as one request until all of them are answered (R43, log entry 22). -/
theorem hostReadRequest_several {f : Nat} {bar : Bar} {off n : Nat} (s : State) (hn : 1 < n)
    (hside : bar = .bar0 → ∀ k < n, sideEffectAt (bar0Address f off + 4 * k) = false) :
    let u := s.noteHostPeak (s.hostWaiting + 1)
    hostReadRequest f bar off n s = hostReadWords f bar off u.pcie.nextRead n { u with pcie := { u.pcie with
      hostReads := u.pcie.hostReads ++ [⟨u.pcie.nextRead, f, off, n, [], []⟩], nextRead := u.pcie.nextRead + 1 } } := by
  have hnone : (decide (bar = .bar0) && (List.range n).any (fun k => sideEffectAt (bar0Address f off + 4 * k))) = false := by
    rw [Bool.and_eq_false_imp]
    exact fun hb => List.any_eq_false.mpr (fun k hk => by simp [hside (of_decide_eq_true hb) k (List.mem_range.mp hk)])
  simp only [hostReadRequest, Bool.and_assoc, hnone, Bool.and_false, Bool.false_eq_true, if_false, Nat.ne_of_gt hn]

/-! Configuration requests. -/

section

variable {f : Fin 4} {off : BitVec 12} {s : State} (hup : s.linkIsUp = true) (hoff : off.toNat % 4 = 0)

include hup hoff

/-- How a configuration request ends is decided by `State.configOutcome`. -/
theorem configRequest_next (write : Bool) (v : Word) : exec (.configRequest f off write v) s = .next
    { (if s.configOutcome f = CplKind.success ∧ write = true then configWrite f off.toNat v s else s) with
      resp := ⟨8 + f, write, off.toNat, if s.configOutcome f = CplKind.success ∧ write = false then [s.pciRead f off.toNat] else [], 0,
        s.configOutcome f⟩ }.follow := by
  have hok : configOffOk off.toNat = true := decide_eq_true hoff
  change (if configOffOk off.toNat then _ else _) = _
  rw [if_pos hok, configRequestOp, hup]
  rfl

/-- A request that does not succeed leaves its answer alone. -/
theorem configRequest_unsuccessful {how : CplKind} (hhow : s.configOutcome f = how) (hne : how ≠ .success) (write : Bool) (v : Word) :
    exec (.configRequest f off write v) s = .next { s with resp := ⟨8 + f, write, off.toNat, [], 0, how⟩ }.follow := by
  have hno (P : Prop) : ¬ (how = .success ∧ P) := fun h => hne h.1
  rw [configRequest_next hup hoff, hhow, if_neg (hno _), if_neg (hno _)]

end

theorem configOutcome_success {s : State} {f : Fin 4} (h : s.configurable f = true) : s.configOutcome f = .success := by
  simp only [State.configurable, Bool.and_eq_true, Bool.or_eq_true, decide_eq_true_eq, Bool.not_eq_true'] at h
  obtain ⟨⟨⟨-, hstage⟩, hflr⟩, hseen⟩ := h
  have hhidden : ¬ (f.val ≠ 0 ∧ s.pf0Alone = true) := by
    rintro ⟨hf, hpf0⟩
    rcases hseen with h0 | hall
    · exact hf h0
    · rw [hpf0] at hall
      cases hall
  rw [State.configOutcome, if_neg (not_not.mpr hstage), if_neg hhidden, hflr]
  rfl

/-! The statement. -/

/-- Settles O31: the checks of a memory request in their order, each by its lemma, and the outcome of a configuration request. -/
theorem hostRequestsComplete : Obligations.HostRequestsComplete := by
  refine ⟨fun f bar off op be last ws len s hup hok => ?memory, fun f off v s hup hoff => ?config⟩
  case memory =>
    have next {p e : Bool} {t : State} (h : hostMemoryRequest f bar off.toNat op be.toNat last.toNat ws len p e s = t) :
        exec (.hostMemoryRequest f bar off op be last ws len p e) s = .next t := (if_pos hok).trans (congrArg Host.Outcome.next h)
    intro write n live credit
    have creditIs : s.hostCredit op ws.length = true ↔ credit := hostCredit_iff s op ws.length
    have liveIs : s.functionLive f = true ↔ live := functionLive_iff s f
    rw [← creditIs, ← liveIs, Bool.not_eq_true, Bool.not_eq_true]
    refine ⟨fun hc p e => next (hostMemoryRequest_held hup hc p e), fun hc => ⟨fun p he => next (hostMemoryRequest_ecrc hup hc p he),
      fun p hop => next (hostMemoryRequest_kind hup hc p hop), fun hop =>
      ⟨fun hl p => next (hostMemoryRequest_closed hup hc hop p hl), fun hl => next (hostMemoryRequest_poisoned hup hc hop hl),
       fun hl hb => next (hostMemoryRequest_beyond hup hc hop hl hb),
       fun hl hb hs => next (hostMemoryRequest_badSize hup hc hop hl hb hs), fun hl hb hs => ?_⟩⟩⟩
    have carried := hostMemoryRequest_carriedOut (be := be.toNat) (last := last.toNat) hup hc hop hl hb hs
    refine ⟨?write, ?one, ?sideEffect, ?several⟩
    case write =>
      rintro rfl
      exact next carried
    case one =>
      rintro rfl (h1 : hostWords .read ws len = 1)
      rw [h1, if_neg (by decide)] at carried
      exact next (carried.trans (hostReadRequest_one f bar off.toNat s))
    case sideEffect =>
      rintro rfl hn rfl hside
      exact next (carried.trans (hostReadRequest_sideEffect s hn hside))
    case several =>
      rintro rfl hn hside
      exact next (carried.trans (hostReadRequest_several s hn hside))
  case config =>
    refine ⟨fun hconf => ?success, fun write hstage => ?down, fun write hstage hpf0 hf => ?hidden, fun write hstage hpf0 hflr => ?flr⟩
    case success =>
      have hhow := configOutcome_success hconf
      exact ⟨by rw [configRequest_next hup hoff, hhow]; rfl, by rw [configRequest_next hup hoff, hhow]; rfl⟩
    case down => exact configRequest_unsuccessful hup hoff (if_pos hstage) (by decide) write v
    case hidden =>
      have hhow : s.configOutcome f = .unsupported := by
        rw [State.configOutcome, if_neg (not_not.mpr hstage), if_pos ⟨Fin.val_ne_zero_iff.mpr hf, hpf0⟩]
      exact configRequest_unsuccessful hup hoff hhow (by decide) write v
    case flr =>
      have hhow : s.configOutcome f = .retry := by
        rw [State.configOutcome, if_neg (not_not.mpr hstage), hpf0, if_neg (fun h => Bool.false_ne_true h.2), hflr, if_pos rfl]
      exact configRequest_unsuccessful hup hoff hhow (by decide) write v

end Sys2Proof.Machine
end

section
/-!
Heddle cells (chapter 03): what each step of a controller leaves in its cell and beside it (R57 to R73), and what a beat-up stores for a
rollback (R58, R59, R152). FF_B of a dual-rail cell keeps its value (log entry 68).
-/

namespace Sys2Proof.Machine

/-! Cells that take a value. -/

/-- A command that answers a next state with these properties. -/
theorem exec_answers {c : Instr} {s t : State} {P : State → Prop} (h : exec c s = .next t) (hp : P t) : ∃ t, exec c s = .next t ∧ P t :=
  ⟨t, h, hp⟩

/-- Of the cells of `s` only cell `k` of reed `r` has been written, and it holds `v`. -/
structure OneCell (s : State) (r k : Nat) (u : State) (v : Cell) : Prop where
  canonical : u.Canonical
  cell : u.cell r k = v
  moved : CellsMoved s u [16 * r + k]

section

variable {s u : State} {r k : Nat} {v : Cell}

theorem OneCell.start (hc : s.Canonical) : OneCell s r k s (s.cell r k) := ⟨hc, rfl, CellsMoved.refl _ _⟩

theorem OneCell.write (h : OneCell s r k u v) (w : Cell) : OneCell s r k (u.setCell r k w) w :=
  ⟨h.canonical.setCell r k w, State.cell_setCell_same u r k w (SMap.wf_sorted h.canonical.cells),
   h.moved.setCell w (List.mem_singleton_self _)⟩

/-- A change of the cell that may be made. -/
theorem OneCell.change (h : OneCell s r k u v) (c : Prop) [Decidable c] (f : Cell → Cell) :
    OneCell s r k (if c then u.setCell r k (f (u.cell r k)) else u) (if c then f v else v) := by
  split
  · exact h.cell ▸ h.write (f (u.cell r k))
  · exact h

theorem OneCell.used (h : OneCell s r k u v) (b : Bool) : OneCell s r k (u.used b) v :=
  ⟨can_used h.canonical b, (cell_used u b r k).trans h.cell, h.moved.used b⟩

/-- What a step leaves whose wires do not settle. -/
theorem OneCell.leaves (h : OneCell s r k u v) : u.cell r k = v ∧ CellsMoved s u [16 * r + k] := ⟨h.cell, h.moved⟩

theorem OneCell.settle (h : OneCell s r k u v) :
    u.settle.cell r k = { v with armed := (u.settle.cell r k).armed } ∧ CellsMoved s u.settle [16 * r + k] :=
  ⟨settled h.canonical h.cell, h.moved.settle h.canonical⟩

end

section

variable {s : State} (hc : s.Canonical) (r k : Nat) (v : Cell)

include hc

theorem setCell_leaves : (s.setCell r k v).cell r k = v ∧ CellsMoved s (s.setCell r k v) [16 * r + k] :=
  ((OneCell.start hc).write v).leaves

theorem setCell_settle_leaves : let t := (s.setCell r k v).settle
    t.cell r k = { v with armed := (t.cell r k).armed } ∧ CellsMoved s t [16 * r + k] := ((OneCell.start hc).write v).settle

/-- The two cells of a pair take values, and the wires settle; open values may have been used. -/
theorem setPair_settle_leaves (w : Cell) (viol : Bool) : let t := (((s.setCell r k v).setCell r (k + 1) w).used viol).settle
    t.cell r k = { v with armed := (t.cell r k).armed } ∧ t.cell r (k + 1) = { w with armed := (t.cell r (k + 1)).armed } ∧
      CellsMoved s t [16 * r + k, 16 * r + (k + 1)] := by
  have hpair : ((s.setCell r k v).setCell r (k + 1) w).Canonical := (hc.setCell r k v).setCell r (k + 1) w
  have hused := can_used hpair viol
  have even : (((s.setCell r k v).setCell r (k + 1) w).used viol).cell r k = v := by
    rw [cell_used, cell_setCell (hc.setCell r k v), if_neg (by omega), (setCell_leaves hc r k v).1]
  have odd : (((s.setCell r k v).setCell r (k + 1) w).used viol).cell r (k + 1) = w := by
    rw [cell_used, (setCell_leaves (hc.setCell r k v) r (k + 1) w).1]
  have moved : CellsMoved s ((s.setCell r k v).setCell r (k + 1) w) [16 * r + k, 16 * r + (k + 1)] :=
    ((CellsMoved.refl s _).setCell v (by simp)).setCell w (by simp)
  exact ⟨settled hused even, settled hused odd, (moved.used viol).settle hused⟩

end

/-- A value that is the D input, or open after a violation. -/
theorem captured_good {viol : Bool} (h : viol = false) (s : State) (k : Nat) (d : Bool) : s.captured viol k d = d := by
  rw [State.captured, h, if_neg Bool.false_ne_true]

/-! The steps of Table 3-3. -/

section

variable {r k : Nat} {s : State} (hready : s.ready r k 1 = true)

include hready

theorem bdJoin_taken (hjoined : (s.cell r k).joined = false) (hack : (s.cell r k).ack = false) (hreq : s.enabledReqs r k true = true) :
    bdJoin r k s = s.setCell r k { s.cell r k with joined := true } := by
  simp [bdJoin, hready, hjoined, hack, hreq]

theorem bdDelay_taken (hjoined : (s.cell r k).joined = true) (hexpired : (s.cell r k).expired = false) (hack : (s.cell r k).ack = false) :
    bdDelay r k s = s.setCell r k { s.cell r k with expired := true } := by
  simp [bdDelay, hready, hjoined, hexpired, hack]

theorem bdReqsFall_taken (hack : (s.cell r k).ack = true) (hreq : s.enabledReqs r k false = true) :
    bdReqsFall r k s = (s.setCell r k { s.cell r k with ack := false, joined := false, expired := false }).settle := by
  simp [bdReqsFall, hready, hack, hreq]

theorem bdAckRise_taken (horeq : (s.cell r k).oreq = true) (hin : s.ackIn r k = true) :
    bdAckRise r k s = (s.setCell r k { s.cell r k with oreq := false }).settle := by
  simp [bdAckRise, hready, horeq, hin]

theorem bdAckFall_taken (horeq : (s.cell r k).oreq = false) (hbusy : (s.cell r k).busy = true) (hin : s.ackIn r k = false) :
    bdAckFall r k s = s.setCell r k { s.cell r k with busy := false } := by
  simp [bdAckFall, hready, horeq, hbusy, hin]

theorem twoSlot_taken (htwo : ctlTwoSlot (s.liveCtl r k) = true) (hslot : (s.cell r k).slot = true) (hempty : s.channelEmpty r k = true) :
    twoSlot r k s = (s.setCell r k { s.cell r k with ffB := (s.cell r k).ffA, slot := false, oreq := true, busy := true }).settle := by
  simp [twoSlot, hready, htwo, hslot, hempty]

variable (viol : Bool) (hexpired : (s.cell r k).expired = true) (hack : (s.cell r k).ack = false)

include hexpired hack

/-- A capture into the input slot (R64). -/
theorem bdCapture_slot (htwo : ctlTwoSlot (s.liveCtl r k) = true) (hslot : (s.cell r k).slot = false) :
    bdCapture r k viol s =
      ((s.setCell r k { s.cell r k with ffA := s.captured viol (2 * k) (s.dA r k), slot := true, ack := true }).used viol).settle := by
  simp [bdCapture, hready, hexpired, hack, htwo, hslot]

/-- A capture by a leader and its followers (R65). -/
theorem bdCapture_group (htwo : ctlTwoSlot (s.liveCtl r k) = false) (hempty : s.channelEmpty r k = true) :
    let u := (k :: s.followers r k).foldl (s.loadFF viol r) s
    bdCapture r k viol s = ((u.setCell r k { u.cell r k with oreq := true, ack := true, busy := true }).used viol).settle := by
  simp [bdCapture, hready, hexpired, hack, htwo, hempty]

end

/-- A bundled-data cell is none of its own followers, and none of them comes twice. -/
theorem leader_followers_nodup {r k : Nat} {s : State} (hmode : ctlMode (s.liveCtl r k) = 1) : (k :: s.followers r k).Nodup := by
  refine List.nodup_cons.mpr ⟨fun hmem => ?_, List.nodup_range.filter _⟩
  have hfollows := of_decide_eq_true (List.mem_filter.mp hmem).2
  omega

theorem ready_mode {s : State} {r k m : Nat} (h : s.ready r k m = true) : ctlMode (s.liveCtl r k) = m := by
  simp only [State.ready, Bool.and_eq_true, decide_eq_true_eq] at h
  exact h.2

/-- What a two-slot capture leaves. -/
theorem bdCapture_slot_leaves {s : State} (hc : s.Canonical) {r k : Nat} (viol : Bool) (hready : s.ready r k 1 = true)
    (htwo : ctlTwoSlot (s.liveCtl r k) = true) (hexpired : (s.cell r k).expired = true) (hack : (s.cell r k).ack = false)
    (hslot : (s.cell r k).slot = false) : let t := bdCapture r k viol s
    (viol = false → (t.cell r k).ffA = s.dA r k) ∧
      t.cell r k = { s.cell r k with ffA := (t.cell r k).ffA, slot := true, ack := true, armed := (t.cell r k).armed } ∧
      CellsMoved s t [16 * r + k] := by
  rw [bdCapture_slot hready viol hexpired hack htwo hslot]
  intro t
  obtain ⟨hcell, hmoved⟩ := (((OneCell.start hc).write
    { s.cell r k with ffA := s.captured viol (2 * k) (s.dA r k), slot := true, ack := true }).used viol).settle
  have hffA : (t.cell r k).ffA = s.captured viol (2 * k) (s.dA r k) := congrArg Cell.ffA hcell
  exact ⟨fun hv => hffA.trans (captured_good hv _ _ _), by rw [hffA]; exact hcell, hmoved⟩

/-- What a capture by a leader and its followers leaves. -/
theorem bdCapture_group_leaves {s : State} (hc : s.Canonical) {r k : Nat} (viol : Bool) (hready : s.ready r k 1 = true)
    (htwo : ctlTwoSlot (s.liveCtl r k) = false) (hexpired : (s.cell r k).expired = true) (hack : (s.cell r k).ack = false)
    (hempty : s.channelEmpty r k = true) : let t := bdCapture r k viol s
    t.cell r k = { s.cell r k with ffA := (t.cell r k).ffA, ffB := (t.cell r k).ffB, oreq := true, ack := true, busy := true,
                                   armed := (t.cell r k).armed } ∧
      (∀ d ∈ s.followers r k, t.cell r d =
        { s.cell r d with ffA := (t.cell r d).ffA, ffB := (t.cell r d).ffB, armed := (t.cell r d).armed }) ∧
      (viol = false → ∀ d ∈ k :: s.followers r k, (t.cell r d).ffA = s.dA r d ∧ (t.cell r d).ffB = s.dB r d) ∧
      CellsMoved s t ((k :: s.followers r k).map (fun d => 16 * r + d)) := by
  have hnodup := leader_followers_nodup (ready_mode hready)
  obtain ⟨hu, hmoved, hloaded⟩ := loadFF_fold (s0 := s) viol r _ s hc hnodup
  rw [bdCapture_group hready viol hexpired hack htwo hempty]
  generalize (k :: s.followers r k).foldl (s.loadFF viol r) s = u at hu hmoved hloaded ⊢
  intro t
  have hset := hu.setCell r k { u.cell r k with oreq := true, ack := true, busy := true }
  have hused := can_used hset viol
  have leader : t.cell r k =
      { s.cell r k with ffA := s.captured viol (2 * k) (s.dA r k), ffB := s.captured viol (2 * k + 1) (s.dB r k),
                        oreq := true, ack := true, busy := true, armed := (t.cell r k).armed } := by
    have written := (setCell_leaves hu r k { u.cell r k with oreq := true, ack := true, busy := true }).1
    conv at written => rhs; rw [hloaded k List.mem_cons_self]
    exact settled hused ((cell_used _ _ _ _).trans written)
  have follower : ∀ d ∈ s.followers r k, t.cell r d =
      { s.cell r d with ffA := s.captured viol (2 * d) (s.dA r d), ffB := s.captured viol (2 * d + 1) (s.dB r d),
                        armed := (t.cell r d).armed } := by
    intro d hd
    have hne : d ≠ k := fun h => (List.nodup_cons.mp hnodup).1 (h ▸ hd)
    have kept : (u.setCell r k { u.cell r k with oreq := true, ack := true, busy := true }).cell r d = u.cell r d := by
      rw [cell_setCell hu, if_neg (by omega)]
    exact settled hused (((cell_used _ _ _ _).trans kept).trans (hloaded d (List.mem_cons_of_mem _ hd)))
  have loaded : ∀ d ∈ k :: s.followers r k, (t.cell r d).ffA = s.captured viol (2 * d) (s.dA r d) ∧
      (t.cell r d).ffB = s.captured viol (2 * d + 1) (s.dB r d) := by
    intro d hd
    rcases List.mem_cons.mp hd with rfl | hd
    · exact ⟨congrArg Cell.ffA leader, congrArg Cell.ffB leader⟩
    · exact ⟨congrArg Cell.ffA (follower d hd), congrArg Cell.ffB (follower d hd)⟩
  refine ⟨?leader, fun d hd => ?follower, fun hv d hd => ?good, ?moved⟩
  case leader =>
    obtain ⟨hA, hB⟩ := loaded k List.mem_cons_self
    rw [hA, hB]
    exact leader
  case follower =>
    obtain ⟨hA, hB⟩ := loaded d (List.mem_cons_of_mem _ hd)
    rw [hA, hB]
    exact follower d hd
  case good =>
    obtain ⟨hA, hB⟩ := loaded d hd
    exact ⟨hA.trans (captured_good hv _ _ _), hB.trans (captured_good hv _ _ _)⟩
  case moved => exact ((hmoved.setCell _ (by simp)).used viol).settle hused

/-! The steps of Table 3-4. -/

section

variable {r k : Nat} {s : State} (hc : s.Canonical) (hready : s.drReadyPair r k = true)

include hready

/-- The rail whose function is 1 is set, unless a violation misses the step (R61). -/
theorem drSet_taken (viol : Bool) (hbusy : (s.cell r k).busy = false) (heven : (s.cell r k).ffA = false)
    (hodd : (s.cell r (k + 1)).ffA = false) (hin : s.ackIn r k = false) (hdiffer : (s.drRails r k).1 ≠ (s.drRails r k).2) :
    let set := s.captured viol (2 * k) true
    drSet r k viol s = (((s.setCell r k { s.cell r k with ffA := (s.drRails r k).1 && set, oreq := set, busy := set }).setCell r (k + 1)
      { s.cell r (k + 1) with ffA := (s.drRails r k).2 && set }).used viol).settle := by
  simp [drSet, hready, hbusy, heven, hodd, hin, hdiffer]

include hc in
/-- What the step leaves. -/
theorem drSet_leaves (viol : Bool) (hbusy : (s.cell r k).busy = false) (heven : (s.cell r k).ffA = false)
    (hodd : (s.cell r (k + 1)).ffA = false) (hin : s.ackIn r k = false) (hdiffer : (s.drRails r k).1 ≠ (s.drRails r k).2) :
    let set := s.captured viol (2 * k) true
    let t := drSet r k viol s
    t.cell r k = { s.cell r k with ffA := (s.drRails r k).1 && set, oreq := set, busy := set, armed := (t.cell r k).armed } ∧
      t.cell r (k + 1) = { s.cell r (k + 1) with ffA := (s.drRails r k).2 && set, armed := (t.cell r (k + 1)).armed } ∧
      CellsMoved s t [16 * r + k, 16 * r + (k + 1)] := by
  rw [drSet_taken hready viol hbusy heven hodd hin hdiffer]
  exact setPair_settle_leaves hc r k _ _ viol

theorem drAckRise_taken (hack : (s.cell r k).ack = false) (hrail : ((s.cell r k).ffA || (s.cell r (k + 1)).ffA) = true)
    (hin : s.drInputs r k validCode false = true) : drAckRise r k s = (s.setCell r k { s.cell r k with ack := true }).settle := by
  simp [drAckRise, hready, hack, hrail, hin]

theorem drClear_taken (hack : (s.cell r k).ack = true) (horeq : (s.cell r k).oreq = true) (hpairs : s.drInputs r k spacerCode true = true)
    (hin : s.ackIn r k = true) : drClear r k s = ((s.setCell r k { s.cell r k with ffA := false, oreq := false }).setCell r (k + 1)
      { s.cell r (k + 1) with ffA := false }).settle := by
  simp [drClear, hready, hack, horeq, hpairs, hin]

theorem drAckFall_taken (hack : (s.cell r k).ack = true) (heven : (s.cell r k).ffA = false) (hodd : (s.cell r (k + 1)).ffA = false)
    (hpairs : s.drPairs r k spacerCode = true) : drAckFall r k s = (s.setCell r k { s.cell r k with ack := false }).settle := by
  simp [drAckFall, hready, hack, heven, hodd, hpairs]

theorem drDone_taken (hbusy : (s.cell r k).busy = true) (horeq : (s.cell r k).oreq = false) (hack : (s.cell r k).ack = false)
    (hin : s.ackIn r k = false) : drDone r k s = s.setCell r k { s.cell r k with busy := false } := by
  simp [drDone, hready, hbusy, horeq, hack, hin]

end

/-- Settles O6: each step is a write of its own cells, after which wires may settle. -/
theorem asynchronousCellsComplete : Obligations.AsynchronousCellsComplete := by
  refine ⟨fun c viol s hc hready => ⟨?join, ?delay, ?slot, ?group, ?reqs, ?rise, ?fall, ?transfer⟩,
    fun c viol s hc hready => ⟨?set, ?ackRise, ?clear, ?ackFall, ?done⟩⟩
  case join =>
    exact fun hj ha hr => exec_answers (congrArg Host.Outcome.next (bdJoin_taken hready hj ha hr)) (setCell_leaves hc _ _ _)
  case delay =>
    exact fun hj he ha => exec_answers (congrArg Host.Outcome.next (bdDelay_taken hready hj he ha)) (setCell_leaves hc _ _ _)
  case slot => exact fun ht he ha hs => exec_answers rfl (bdCapture_slot_leaves hc viol hready ht he ha hs)
  case group => exact fun ht he ha hs => exec_answers rfl (bdCapture_group_leaves hc viol hready ht he ha hs)
  case reqs =>
    exact fun ha hr => exec_answers (congrArg Host.Outcome.next (bdReqsFall_taken hready ha hr)) (setCell_settle_leaves hc _ _ _)
  case rise =>
    exact fun ho hi => exec_answers (congrArg Host.Outcome.next (bdAckRise_taken hready ho hi)) (setCell_settle_leaves hc _ _ _)
  case fall =>
    exact fun ho hb hi => exec_answers (congrArg Host.Outcome.next (bdAckFall_taken hready ho hb hi)) (setCell_leaves hc _ _ _)
  case transfer =>
    exact fun ht hs he => exec_answers (congrArg Host.Outcome.next (twoSlot_taken hready ht hs he)) (setCell_settle_leaves hc _ _ _)
  case set =>
    exact fun hb he ho hi hd => ⟨_, s.captured viol (2 * cellNo c) true, rfl, fun hv => captured_good hv _ _ _,
      drSet_leaves hc hready viol hb he ho hi hd⟩
  case ackRise =>
    exact fun ha hr hi => exec_answers (congrArg Host.Outcome.next (drAckRise_taken hready ha hr hi)) (setCell_settle_leaves hc _ _ _)
  case clear =>
    exact fun ha ho hp hi => exec_answers (congrArg Host.Outcome.next (drClear_taken hready ha ho hp hi))
      (setPair_settle_leaves hc _ _ _ _ false)
  case ackFall =>
    exact fun ha he ho hp => exec_answers (congrArg Host.Outcome.next (drAckFall_taken hready ha he ho hp)) (setCell_settle_leaves hc _ _ _)
  case done =>
    exact fun hb ho ha hi => exec_answers (congrArg Host.Outcome.next (drDone_taken hready hb ho ha hi)) (setCell_leaves hc _ _ _)

/-! Both rails of a pair (R69). -/

/-- A pair takes its step where its rails differ, and otherwise stays as it is. -/
theorem drSet_cases (r k : Nat) (viol : Bool) (s : State) : drSet r k viol s = s ∨
    s.drReadyPair r k = true ∧ (s.cell r k).busy = false ∧ (s.cell r k).ffA = false ∧ (s.cell r (k + 1)).ffA = false ∧
      s.ackIn r k = false ∧ (s.drRails r k).1 ≠ (s.drRails r k).2 := by
  unfold drSet
  dsimp only
  split
  case isFalse => exact .inl rfl
  case isTrue h =>
    simp only [Bool.and_eq_true, Bool.not_eq_true', bne_iff_ne, and_assoc] at h
    exact .inr h

/-- Of two functions that differ at most one sets its rail. -/
theorem rails_not_both {a b : Bool} (set : Bool) (h : a ≠ b) : ((a && set) && (b && set)) = false := by
  revert a b set
  decide

/-- Settles O7: the step sets one rail of two that differ, and occurs only where they do. -/
theorem dualRailPairNeverCapturesBothRails : Obligations.DualRailPairNeverCapturesBothRails := by
  refine ⟨fun c viol s t hc hboth h => ?safe, fun c viol s hsame => ?stays⟩
  case safe =>
    obtain rfl : drSet (cellReed c) (cellNo c) viol s = t := Host.Outcome.next.inj h
    rcases drSet_cases (cellReed c) (cellNo c) viol s with hkept | ⟨hready, hbusy, heven, hodd, hin, hdiffer⟩
    · rw [hkept]
      exact hboth
    · obtain ⟨hv, hw, -⟩ := drSet_leaves hc hready viol hbusy heven hodd hin hdiffer
      rw [congrArg Cell.ffA hv, congrArg Cell.ffA hw]
      exact rails_not_both _ hdiffer
  case stays =>
    rcases drSet_cases (cellReed c) (cellNo c) viol s with hkept | ⟨-, -, -, -, -, hdiffer⟩
    · exact congrArg Host.Outcome.next hkept
    · exact absurd hsame hdiffer

/-! Clocked cells (R70 to R73). -/

/-- The clock enable lets the edge load. -/
def State.clockEnabled (s : State) (r k : Nat) : Bool := !ctlReqEn (s.liveCtl r k) 0 || s.reqK r k 0

/-- The cell after an edge that may load its flip-flops (R61, R70). -/
def State.edgeLoaded (s : State) (r k : Nat) (viol : Bool) : Cell :=
  if s.clockEnabled r k then
    { s.cell r k with ffA := s.captured viol (2 * k) (s.dA r k), ffB := s.captured viol (2 * k + 1) (s.dB r k) }
  else s.cell r k

/-- The cell after an edge that may also coincide with the load of its shadows (R73). -/
def State.edgeTaken (s : State) (r k : Nat) (viol raced : Bool) : Cell :=
  if raced then shadowRace s (s.edgeLoaded r k viol) else s.edgeLoaded r k viol

/-- An edge that occurs leaves in its cell what `State.edgeTaken` says, but for the mark of a wire clock. -/
theorem clockedLoad_leaves {s : State} (hc : s.Canonical) {r k : Nat} (viol race : Bool) (hmode : ctlMode (s.liveCtl r k) = 5)
    (hfence : s.fenced (reedTile r) = false) (hrun : s.clockRuns r k viol = true)
    (hstage : (s.bolt (s.boltOf r)).stage ≠ .notReleased ∧ (s.bolt (s.boltOf r)).stage ≠ .halt ∧
      (s.bolt (s.boltOf r)).stage ≠ .rollback ∧ (s.bolt (s.boltOf r)).stage ≠ .recovery) :
    let t := clockedLoad r k viol race s
    t.cell r k = { s.edgeTaken r k viol (race && s.atShadowLoad (s.boltOf r)) with armed := (t.cell r k).armed } ∧
      CellsMoved s t [16 * r + k] := by
  have hcond : (decide (ctlMode (s.liveCtl r k) = 5) && !s.fenced (reedTile r) &&
      decide ((s.bolt (s.boltOf r)).stage ≠ .notReleased ∧ (s.bolt (s.boltOf r)).stage ≠ .halt ∧
        (s.bolt (s.boltOf r)).stage ≠ .rollback ∧ (s.bolt (s.boltOf r)).stage ≠ .recovery) && s.clockRuns r k viol) = true := by
    rw [hmode, hfence, hrun, decide_eq_true hstage]
    rfl
  unfold clockedLoad
  dsimp only
  rw [if_pos hcond]
  have loaded : OneCell s r k (if (!ctlReqEn (s.liveCtl r k) 0 || s.reqK r k 0) = true then s.loadFF viol r s k else s)
      (s.edgeLoaded r k viol) :=
    (OneCell.start hc).change _ (fun x => { x with ffA := s.captured viol (2 * k) (s.dA r k), ffB := s.captured viol (2 * k + 1) (s.dB r k) })
  generalize (if (!ctlReqEn (s.liveCtl r k) 0 || s.reqK r k 0) = true then s.loadFF viol r s k else s) = u at loaded ⊢
  have edged := loaded.change
    (((s.clockWire r k).isSome && (u.wire (.data r (s.xsel r k 11)) != ctlFalling (s.liveCtl r k))) = true)
    (fun x => { x with armed := false })
  obtain ⟨hcell, hmoved⟩ := ((edged.change ((race && s.atShadowLoad (s.boltOf r)) = true) (shadowRace s)).used
    (viol || race && s.atShadowLoad (s.boltOf r))).settle
  refine ⟨hcell.trans ?_, hmoved⟩
  unfold State.edgeTaken
  split <;> split <;> rfl

section

variable (s : State) (r k : Nat) (viol : Bool)

/-- Coinciding with the load of the shadows does not touch the flip-flops. -/
theorem edgeTaken_ff (raced : Bool) : (s.edgeTaken r k viol raced).ffA = (s.edgeLoaded r k viol).ffA ∧
    (s.edgeTaken r k viol raced).ffB = (s.edgeLoaded r k viol).ffB := by
  unfold State.edgeTaken
  split <;> exact ⟨rfl, rfl⟩

/-- An edge loads nothing but the flip-flops. -/
theorem edgeLoaded_rest : s.edgeLoaded r k viol =
    { s.cell r k with ffA := (s.edgeLoaded r k viol).ffA, ffB := (s.edgeLoaded r k viol).ffB } := by
  unfold State.edgeLoaded
  split <;> rfl

variable {viol}

theorem edgeLoaded_enabled (henabled : ctlReqEn (s.liveCtl r k) 0 = true → s.reqK r k 0 = true) (hv : viol = false) :
    (s.edgeLoaded r k viol).ffA = s.dA r k ∧ (s.edgeLoaded r k viol).ffB = s.dB r k := by
  have hon : s.clockEnabled r k = true := by
    cases hreq : ctlReqEn (s.liveCtl r k) 0
    · simp [State.clockEnabled, hreq]
    · simp [State.clockEnabled, henabled hreq]
  rw [State.edgeLoaded, if_pos hon]
  exact ⟨captured_good hv _ _ _, captured_good hv _ _ _⟩

theorem edgeLoaded_disabled (hreq : ctlReqEn (s.liveCtl r k) 0 = true) (hlow : s.reqK r k 0 = false) :
    s.edgeLoaded r k viol = s.cell r k := by
  rw [State.edgeLoaded, if_neg (by simp [State.clockEnabled, hreq, hlow])]

end

/-- Each shadow latch keeps its value or takes that of its flip-flop, and the parity is that of the result (R73). -/
theorem shadowRace_latches (s : State) (v : Cell) : let w := shadowRace s v
    (w.shA = v.shA ∨ w.shA = v.ffA) ∧ (w.shB = v.shB ∨ w.shB = v.ffB) ∧
      w = { v with shA := w.shA, shB := w.shB, shPar := parity4 w.shA w.shB v.shO v.shS } := by
  unfold shadowRace
  refine ⟨?a, ?b, rfl⟩
  case a =>
    cases s.openBit 32
    · exact .inl rfl
    · exact .inr rfl
  case b =>
    cases s.openBit 33
    · exact .inl rfl
    · exact .inr rfl

/-- Settles O8: what an edge leaves in its cell, read off `State.edgeTaken`; and what settling moves. -/
theorem clockedCellLoadsOnActiveEdge : Obligations.ClockedCellLoadsOnActiveEdge := by
  refine ⟨?edge, fun s hc => settle_moved hc⟩
  intro c viol race s hc r k v stage raced hmode hfence hreleased hhalt hrollback hrecovery hrun
  obtain ⟨t, ht⟩ : ∃ t, t = clockedLoad r k viol race s := ⟨_, rfl⟩
  obtain ⟨hcell, hmoved⟩ : t.cell r k = { s.edgeTaken r k viol raced with armed := (t.cell r k).armed } ∧ CellsMoved s t [16 * r + k] :=
    ht ▸ clockedLoad_leaves hc viol race hmode hfence hrun ⟨hreleased, hhalt, hrollback, hrecovery⟩
  refine exec_answers (congrArg Host.Outcome.next ht.symm) ?_
  have hffA : (t.cell r k).ffA = (s.edgeLoaded r k viol).ffA := (congrArg Cell.ffA hcell).trans (edgeTaken_ff s r k viol raced).1
  have hffB : (t.cell r k).ffB = (s.edgeLoaded r k viol).ffB := (congrArg Cell.ffB hcell).trans (edgeTaken_ff s r k viol raced).2
  refine ⟨hmoved, fun henabled hv => ?enabled, fun hreq hlow => ?disabled, fun hno => ?unraced, fun hyes => ?raced⟩
  case enabled =>
    rw [hffA, hffB]
    exact edgeLoaded_enabled s r k henabled hv
  case disabled =>
    rw [hffA, hffB, edgeLoaded_disabled s r k hreq hlow]
    exact ⟨rfl, rfl⟩
  case unraced =>
    rw [hffA, hffB]
    rw [State.edgeTaken, if_neg (by rw [hno]; exact Bool.false_ne_true), edgeLoaded_rest] at hcell
    exact hcell
  case raced =>
    rw [State.edgeTaken, if_pos hyes] at hcell
    obtain ⟨hlatchA, hlatchB, hraced⟩ := shadowRace_latches s (s.edgeLoaded r k viol)
    have hloaded := edgeLoaded_rest s r k viol
    generalize shadowRace s (s.edgeLoaded r k viol) = w at hcell hlatchA hlatchB hraced
    generalize s.edgeLoaded r k viol = x at hffA hffB hlatchA hlatchB hraced hloaded
    rw [hffA, hffB, (congrArg Cell.shA hcell :), (congrArg Cell.shB hcell :)]
    rw [(congrArg Cell.shA hloaded :)] at hlatchA
    rw [(congrArg Cell.shB hloaded :)] at hlatchB
    rw [hraced, hloaded] at hcell
    exact ⟨hlatchA, hlatchB, hcell⟩

/-! Checkpoint and rollback (R57 to R59, R152). -/

/-- A cell of a map over all cells. -/
theorem mapCells_cell {s : State} (hc : s.Canonical) (which : Nat → Bool) (f : Cell → Cell) (hf : f {} = {}) (r : Nat) {c : Nat}
    (h : c < 16) : (s.mapCells which f).cell r c = if which r then f (s.cell r c) else s.cell r c := by
  have hreed : (16 * r + c) / 16 = r := by omega
  rw [cell_of_key, mapCells_get hc which f hf, hreed, cell_of_key]

theorem State.Canonical.mapCells {s : State} (hc : s.Canonical) (which : Nat → Bool) (f : Cell → Cell) : (s.mapCells which f).Canonical :=
  (State.mapCells_follows s which f (Follows.refl s)).memory hc

theorem commitCells_cell {s : State} (hc : s.Canonical) (b r : Nat) {c : Nat} (h : c < 16) :
    (s.commitCells b).cell r c = if s.boltOf r == b then commitCell (s.cell r c) else s.cell r c :=
  mapCells_cell hc _ commitCell (by decide) r h

theorem restoreCells_cell {s : State} (hc : s.Canonical) (which : Nat → Bool) (r : Nat) {c : Nat} (h : c < 16) :
    let t := s.restoreCells which
    t.cell r c = { (if which r then restoreCell (s.cell r c) else s.cell r c) with armed := (t.cell r c).armed } :=
  settled (hc.mapCells which restoreCell) (mapCells_cell hc which restoreCell (by decide) r h)

/-- What beat-up stores has even parity. -/
theorem shadowBad_commitCell (v : Cell) : shadowBad (commitCell v) = false := bne_self_eq_false _

/-- One changed bit of a stored shadow is found. -/
theorem shadowBad_flip (v : Cell) (i : Fin 5) :
    let m : BitVec 5 := BitVec.ofNat 5 (2 ^ i.val)
    shadowBad { v with shA := v.shA != m.getLsbD 0, shB := v.shB != m.getLsbD 1, shO := v.shO != m.getLsbD 2,
                       shS := v.shS != m.getLsbD 3, shPar := v.shPar != m.getLsbD 4 } = !shadowBad v := by
  obtain ⟨ffA, ffB, oreq, slot, ack, joined, expired, busy, shA, shB, shO, shS, shPar, armed⟩ := v
  simp only [shadowBad, parity4]
  revert i shA shB shO shS shPar
  decide

/-- Settles O17: the maps that beat-up and rollback make, cell by cell. -/
theorem checkpointRestoresTheCell : Obligations.CheckpointRestoresTheCell := by
  refine ⟨?checkpoint, fun c i s hc => ⟨?found, rfl⟩⟩
  case checkpoint =>
    intro b r c s hc h u w
    have hu : u.Canonical := hc.mapCells _ _
    have hcommit : u.cell r c = _ := commitCells_cell hc b r h
    have hrestore : w.cell r c = _ := restoreCells_cell hu (fun r => u.restoresReed b r) r h
    have hreed : u.restoresReed b r = (decide (s.boltOf r = b) && !s.fenced (reedTile r)) := rfl
    refine ⟨fun hb => ?own, fun hb => ?other, fun v => ⟨rfl, rfl, rfl, rfl, rfl⟩⟩
    case own =>
      rw [hb, beq_self_eq_true, if_pos rfl] at hcommit
      refine ⟨hcommit, hcommit ▸ shadowBad_commitCell _, hrestore.trans ?_⟩
      rw [hreed, decide_eq_true hb, Bool.true_and]
      cases s.fenced (reedTile r) <;> rfl
    case other =>
      rw [if_neg (by simpa using hb)] at hcommit
      refine ⟨hcommit, hrestore.trans ?_⟩
      rw [hreed, decide_eq_false hb, Bool.false_and, if_neg Bool.false_ne_true, hcommit]
  case found =>
    rw [upsetShadow, State.cell_setCell_same _ _ _ _ (SMap.wf_sorted hc.cells)]
    exact shadowBad_flip _ i

end Sys2Proof.Machine
end

section
/-!
SLEEP and wake (R523 to R527, Tables 19-4 and 19-5): what an entry stops, what a wake source does in each power state, and the steps of a
wake. A bolt whose shadow is bad at the rail check enters HALT (log entry 69); what is held goes on when the fabric runs again (log entry 88).
-/

namespace Sys2Proof.Machine

/-! Folds over the state. -/

/-- What each step establishes at its own number and keeps at the others holds after the fold at every number of the list. -/
theorem foldl_establishes {f : State → Nat → State} {P : State → Nat → Prop} (canonical : ∀ s a, s.Canonical → (f s a).Canonical)
    (here : ∀ s a, s.Canonical → P (f s a) a) (kept : ∀ s a b, s.Canonical → P s b → P (f s a) b) (l : List Nat) :
    ∀ {s : State}, s.Canonical → ∀ b, b ∈ l ∨ P s b → P (l.foldl f s) b := by
  induction l with
  | nil => exact fun _ b h => h.resolve_left List.not_mem_nil
  | cons a l ih =>
    intro s hc b h
    refine ih (canonical s a hc) b ?_
    rcases h with hmem | hold
    · rcases List.mem_cons.mp hmem with rfl | hmem
      · exact .inr (here s b hc)
      · exact .inl hmem
    · exact .inr (kept s a b hc hold)

/-- A relation that every step of a fold stands in is one of the whole fold. -/
theorem foldl_related {α : Type} {R : State → State → Prop} (trans : ∀ {s t u : State}, R s t → R t u → R s u) {f : State → α → State}
    (step : ∀ t a, R t (f t a)) (l : List α) : ∀ {s t : State}, R s t → R s (l.foldl f t) := by
  induction l with
  | nil => exact id
  | cons a l ih => exact fun h => ih (trans h (step _ a))

/-! The power state (Table 19-12). -/

theorem State.setPwr_pwrState {s : State} (hc : s.Canonical) {k : Nat} (hk : k < 8) : (s.setPwr k).pwrState = k := by
  have hreg : (s.setPwr k).reg rPwrState = BitVec.ofNat 32 k := State.reg_setReg_same s _ _ (SMap.wf_sorted hc.regs)
  rw [State.pwrState, State.fld, hreg, fieldOf, BitVec.toNat_ofNat, Nat.shiftRight_zero]
  omega

theorem State.setReg_pwrState (s : State) {a : Nat} (v : Word) (h : rPwrState ≠ a) : (s.setReg a v).pwrState = s.pwrState :=
  congrArg (fun w => fieldOf w 2 0) (State.reg_setReg_other s v h)

theorem State.pwrEvent_pwrState (s : State) (bit v : Nat) : (s.pwrEvent bit v).pwrState = s.pwrState :=
  congrArg (fun w => fieldOf w 2 0) (State.raise_reg s _ _ _ (by decide))

/-- An entry that is abandoned leaves the device active. -/
theorem State.abandonEntry_pwrState {s : State} (hc : s.Canonical) : s.abandonEntry.pwrState = pwrActive := by
  obtain ⟨u, hu, heq⟩ : ∃ u : State, u.Canonical ∧ s.abandonEntry = u.setPwr pwrActive := by
    refine ⟨_, Follows.memory (s := { s with pwr := { s.pwr with closing := none, closePoint := none } }) ?_ { hc with }, rfl⟩
    refine Follows.foldl _ _ (Follows.refl _) (fun t b ht => ?_)
    have hset := State.setBolt_follows t b
      { t.bolt b with dfrozen := false, final := false, t0 := if (t.bolt b).stage = .direct then none else (t.bolt b).t0 } ht
    exact Follows.ite (State.resumeOpen_follows _ b hset) hset
  rw [heq, State.setPwr_pwrState hu (by decide)]

/-! What an entry stops (Table 19-4, step 4). -/

/-- From one state to the other only lanes, with their registers, events and open values, have moved. -/
def LanesMoved (s t : State) : Prop := t = { s with regs := t.regs, ev := t.ev, lanes := t.lanes, free := t.free }

theorem LanesMoved.refl (s : State) : LanesMoved s s := rfl

theorem LanesMoved.trans {s t u : State} (h : LanesMoved s t) (k : LanesMoved t u) : LanesMoved s u := by
  unfold LanesMoved at *
  rw [k, h]

theorem LanesMoved.setLane {s t : State} (h : LanesMoved s t) (q i : Nat) (v : Lane) : LanesMoved s (t.setLane q i v) :=
  h.trans rfl

theorem drift_lanesMoved (s : State) (q i : Nat) : LanesMoved s (s.drift q i) := by
  unfold State.drift
  split
  · exact rfl
  · exact LanesMoved.refl s

theorem groupLost_lanesMoved (s : State) (q i : Nat) : LanesMoved s (s.groupLost q i) := by
  unfold State.groupLost
  split
  case h_2 => exact LanesMoved.refl s
  case h_1 g _ =>
    split
    case isFalse => exact LanesMoved.refl s
    case isTrue =>
      have unaligned : LanesMoved s (s.unalign g) :=
        foldl_related (R := LanesMoved) LanesMoved.trans (fun t a => (LanesMoved.refl t).setLane _ _ _) _ (LanesMoved.refl s)
      have raised : LanesMoved (s.unalign g) ((s.unalign g).pcsEvent g 17) := by
        unfold LanesMoved State.pcsEvent State.pulse
        rw [State.raise_frame]
      exact unaligned.trans raised

theorem relockLane_lanesMoved (s : State) (q i : Nat) : LanesMoved s (s.relockLane q i) :=
  (((drift_lanesMoved s q i).setLane q i _).trans (groupLost_lanesMoved _ q i)).trans rfl

/-- One quad stops. -/
def State.stopQuad (s : State) (q : Nat) : State :=
  let s1 := lanes4.foldl (fun s i => s.relockLane q i) s
  s1.setQuad q { s1.quad q with pll := false, relock := false }

theorem stopQuads_eq (s : State) : s.stopQuads = (List.range 12).foldl State.stopQuad s := rfl

theorem stopQuad_lanes (s : State) (q : Nat) : LanesMoved s (lanes4.foldl (fun s i => s.relockLane q i) s) :=
  foldl_related (R := LanesMoved) LanesMoved.trans (fun t i => relockLane_lanesMoved t q i) _ (LanesMoved.refl s)

theorem stopQuad_canonical {s : State} (hc : s.Canonical) (q : Nat) :
    (lanes4.foldl (fun s i => s.relockLane q i) s).Canonical :=
  (Follows.foldl _ _ (Follows.refl s) (fun t i h => State.relockLane_follows t q i h)).memory hc

/-- A quad that stops loses its PLL, and the others keep theirs. -/
theorem stopQuad_pll {s : State} (hc : s.Canonical) (q k : Nat) :
    ((s.stopQuad q).quad k).pll = if k = q then false else (s.quad k).pll := by
  have hlanes := stopQuad_lanes s q
  have hc' := stopQuad_canonical hc q
  rw [State.stopQuad]
  generalize lanes4.foldl (fun s i => s.relockLane q i) s = u at hlanes hc' ⊢
  rw [State.quad_setQuad hc']
  split
  · rfl
  · rw [hlanes]
    rfl

theorem stopQuads_pll {s : State} (hc : s.Canonical) (q : Nat) (hq : q < 12) : (s.stopQuads.quad q).pll = false :=
  foldl_establishes (f := State.stopQuad) (P := fun s q => (s.quad q).pll = false) (fun _ a h => (stopQuad_canonical h a).setQuad a _)
    (fun _ a h => (stopQuad_pll h a a).trans (if_pos rfl))
    (fun _ a b h hb => (stopQuad_pll h a b).trans (by rw [hb]; exact ite_self false)) (List.range 12) hc q (.inl (List.mem_range.mpr hq))

/-- From one state to the other only quads have moved, with their lanes. -/
def QuadsMoved (s t : State) : Prop := t = { s with regs := t.regs, ev := t.ev, lanes := t.lanes, free := t.free, quads := t.quads }

theorem QuadsMoved.trans {s t u : State} (h : QuadsMoved s t) (k : QuadsMoved t u) : QuadsMoved s u := by
  unfold QuadsMoved at *
  rw [k, h]

theorem stopQuad_quadsMoved (s : State) (q : Nat) : QuadsMoved s (s.stopQuad q) := by
  have hlanes := stopQuad_lanes s q
  rw [State.stopQuad]
  generalize lanes4.foldl (fun s i => s.relockLane q i) s = u at hlanes ⊢
  rw [hlanes]
  exact rfl

theorem stopQuads_quadsMoved (s : State) : QuadsMoved s s.stopQuads :=
  foldl_related (R := QuadsMoved) QuadsMoved.trans stopQuad_quadsMoved (List.range 12) rfl

/-- Every pace generator that has a record stands still. -/
def State.stopPaces (s : State) : State := (s.paces.map (fun e => e.1)).foldl (fun s g => s.paceLock g false false) s

theorem paceLock_locked {s : State} (hc : s.Canonical) (g k : Nat) :
    ((s.paceLock g false false).pace k).locked = if k = g then false else (s.pace k).locked := by
  rw [State.paceLock, State.pace_setPace hc]
  split <;> rfl

theorem stopPaces_locked {s : State} (hc : s.Canonical) (g : Nat) : (s.stopPaces.pace g).locked = false := by
  refine foldl_establishes (f := fun s g => s.paceLock g false false) (P := fun s g => (s.pace g).locked = false)
    (fun _ a h => h.setPace a _) (fun _ a h => (paceLock_locked h a a).trans (if_pos rfl))
    (fun _ a b h hb => (paceLock_locked h a b).trans (by rw [hb]; exact ite_self false)) (s.paces.map (fun e => e.1)) hc g ?_
  by_cases hmem : g ∈ s.paces.map (fun e => e.1)
  · exact .inl hmem
  · have habsent : s.pace g = {} := SMap.get_of_not_mem _ _ _ (fun e he hk => hmem (List.mem_map.mpr ⟨e, he, hk⟩))
    exact .inr (habsent ▸ rfl)

/-- From one state to the other only pace generators have moved. -/
def PacesMoved (s t : State) : Prop := t = { s with paces := t.paces }

theorem PacesMoved.trans {s t u : State} (h : PacesMoved s t) (k : PacesMoved t u) : PacesMoved s u := by
  unfold PacesMoved at *
  rw [k, h]

theorem stopPaces_pacesMoved (s : State) : PacesMoved s s.stopPaces := by
  unfold State.stopPaces
  exact foldl_related (R := PacesMoved) PacesMoved.trans (f := fun s g => s.paceLock g false false) (fun _ _ => rfl) _ rfl

theorem State.Canonical.pinsAsleep {s : State} (hc : s.Canonical) (b : Bool) : ({ s with pinsAsleep := b } : State).Canonical :=
  { hc with }

/-- The device asleep, before its pins are refreshed and its wires settle. -/
def State.poweredDown (s : State) : State :=
  let s3 := ({ s.keepLevels with pinsAsleep := true } : State).stopPaces.stopQuads
  let s4 := (s3.withPwr { s3.pwr with fabPwrEn := false, removed := true, warn := s3.pwr.warn / 16 * 16 }).count rPwrCounts 31 16 1
  (s4.setPwr pwrSleeping).pwrEvent 2 0

theorem fallAsleep_eq (s : State) : s.fallAsleep = (s.poweredDown.refreshPins (List.range 960)).settle := rfl

/-- The supply of the fabric is removed, its warnings end, and the pins are in their sleep state. -/
theorem poweredDown_supply (s : State) : s.poweredDown.pwr = { s.pwr with fabPwrEn := false, removed := true, warn := s.pwr.warn / 16 * 16 } ∧
    s.poweredDown.pinsAsleep = true := by
  rw [State.poweredDown, State.pwrEvent, State.raise_frame, stopQuads_quadsMoved, stopPaces_pacesMoved]
  exact ⟨rfl, rfl⟩

/-- The device sleeps, and no pace generator and no PLL is locked. -/
theorem poweredDown_stopped {s : State} (hc : s.Canonical) : s.poweredDown.pwrState = pwrSleeping ∧
    (∀ g, (s.poweredDown.pace g).locked = false) ∧ ∀ q < 12, (s.poweredDown.quad q).pll = false := by
  have hkeep := State.Canonical.pinsAsleep ((State.keepLevels_follows s (Follows.refl s)).memory hc) true
  rw [State.poweredDown]
  generalize ({ s.keepLevels with pinsAsleep := true } : State) = u at hkeep
  have hpaces : u.stopPaces.Canonical :=
    (Follows.foldl _ _ (Follows.refl u) (fun t g h => State.paceLock_follows t g false false h)).memory hkeep
  have hquads : u.stopPaces.stopQuads.Canonical := (State.stopQuads_follows _ (Follows.refl _)).memory hpaces
  have hpll := stopQuads_pll hpaces
  have hlocked (g : Nat) : (u.stopPaces.stopQuads.pace g).locked = false := by
    rw [stopQuads_quadsMoved]
    exact stopPaces_locked hkeep g
  generalize u.stopPaces.stopQuads = w at hquads hpll hlocked ⊢
  dsimp only
  refine ⟨?state, fun g => ?pace, fun q hq => ?quad⟩
  case state =>
    rw [State.pwrEvent_pwrState]
    exact State.setPwr_pwrState (((State.withPwr_follows _ _ (Follows.refl _)).memory hquads).count _ _ _ _) (by decide)
  case pace =>
    rw [State.pwrEvent, State.raise_frame]
    exact hlocked g
  case quad =>
    rw [State.pwrEvent, State.raise_frame]
    exact hpll q hq

/-! Wake sources (R526). -/

section

variable {s : State} {k : Nat}

theorem wakeOp_asleep (ha : (s.wakeSource k).asleep = true) : wakeOp k s = s.wakeSource k := by
  rw [wakeOp, ha, Bool.not_true, Bool.and_false, if_neg Bool.false_ne_true]

theorem wakeOp_awake (ha : s.asleep = false) : wakeOp k s = s.wakeSource k := by
  rw [wakeOp, ha, Bool.false_and, if_neg Bool.false_ne_true]

/-- A source that ends the entry lets the channels go on (R433). -/
theorem wakeOp_ends (hasleep : s.asleep = true) (hawake : (s.wakeSource k).asleep = false) : wakeOp k s = (s.wakeSource k).advanceAll := by
  rw [wakeOp, hasleep, hawake, Bool.not_false, Bool.and_self, if_pos rfl]

theorem asleep_iff : s.asleep = true ↔ s.pwrState = pwrEntering ∨ s.pwrState = pwrSleeping ∨ s.pwrState = pwrWaking := decide_eq_true_iff

theorem asleep_of_active (h : s.pwrState = pwrActive) : s.asleep = false := by
  rw [← Bool.not_eq_true, asleep_iff, h]
  decide

variable (hen : k < 3 → s.bit rWakeCfg k = true)

include hen

/-- An enabled source is not disregarded. -/
theorem wakeSource_enabled : ¬ (k < 3 ∧ s.bit rWakeCfg k = false) := by
  rintro ⟨hk, hoff⟩
  rw [hen hk] at hoff
  cases hoff

/-- A source wakes a device that sleeps. -/
theorem wakeOp_sleeping (hc : s.Canonical) (h : s.pwrState = pwrSleeping) : wakeOp k s =
    (({ s with pwr := { s.pwr with tw := s.now, fabPwrEn := true } } : State).setReg rWakeCause (BitVec.ofNat 32 (2 ^ k))).setPwr pwrWaking := by
  obtain ⟨u, hu⟩ : ∃ u : State,
      u = ({ s with pwr := { s.pwr with tw := s.now, fabPwrEn := true } } : State).setReg rWakeCause (BitVec.ofNat 32 (2 ^ k)) := ⟨_, rfl⟩
  have hcanonical : u.Canonical := hu ▸ State.Canonical.setReg ((State.withPwr_follows s _ (Follows.refl s)).memory hc) _ _
  have hsource : s.wakeSource k = u.setPwr pwrWaking := by
    rw [State.wakeSource, if_neg (wakeSource_enabled hen), h, hu]
    rfl
  have hasleep : (s.wakeSource k).asleep = true := by
    rw [asleep_iff, hsource, State.setPwr_pwrState hcanonical (by decide)]
    exact .inr (.inr rfl)
  rw [wakeOp_asleep hasleep, hsource, hu]

/-- A source in an entry abandons it, and its event says so. -/
theorem wakeOp_entering (hc : s.Canonical) (h : s.pwrState = pwrEntering) :
    let w := (s.setReg rWakeCause (BitVec.ofNat 32 (2 ^ k))).abandonEntry
    wakeOp k s = (w.pwrEvent 3 (w.fld rWakeCause 3 0)).advanceAll := by
  intro w
  have hsource : s.wakeSource k = w.pwrEvent 3 (w.fld rWakeCause 3 0) := by
    rw [State.wakeSource, if_neg (wakeSource_enabled hen), h]
    rfl
  have hactive : (s.wakeSource k).pwrState = pwrActive := by
    rw [hsource, State.pwrEvent_pwrState, State.abandonEntry_pwrState (hc.setReg _ _)]
  rw [wakeOp_ends (asleep_iff.mpr (.inl h)) (asleep_of_active hactive), hsource]

/-- A source that comes again adds to WAKE_CAUSE. -/
theorem wakeOp_waking (h : s.pwrState = pwrWaking) : wakeOp k s = s.setBit rWakeCause k true := by
  have hsource : s.wakeSource k = s.setBit rWakeCause k true := by
    rw [State.wakeSource, if_neg (wakeSource_enabled hen), h]
    rfl
  have hwaking : (s.wakeSource k).pwrState = pwrWaking := by
    rw [hsource, State.setBit, State.setReg_pwrState _ _ (by decide), h]
  rw [wakeOp_asleep (asleep_iff.mpr (.inr (.inr hwaking))), hsource]

/-- A device that is active takes no notice. -/
theorem wakeOp_active (h : s.pwrState = pwrActive) : wakeOp k s = s := by
  rw [wakeOp_awake (asleep_of_active h), State.wakeSource, if_neg (wakeSource_enabled hen), h]
  rfl

end

/-! The commands. -/

/-- PWR_CMD = SLEEP. -/
theorem pwrSleep_next {m : Master} {t : Nat} {s : State} (ht : s.now ≤ t) (ha :
    ({ s with now := t } : State).Accepts m.id ⟨.power, 0⟩ 0x044 1) :
    let r := ((({ s with now := t } : State).recorded m.id ⟨.power, 0⟩ 0x044 1).setReg rWakeCause 0).setPwr pwrEntering
    (s.pick.released = false → exec (.pwrSleep m t) s = .next (r.fallAsleep.advanceAll.follow.done m.id ⟨.power, 0⟩ 0x044)) ∧
    (s.pick.released = true → exec (.pwrSleep m t) s = .next ((r.requestClose 0).advanceAll.follow.done m.id ⟨.power, 0⟩ 0x044)) := by
  intro r
  have hpick : (({ s with now := t } : State).recorded m.id ⟨.power, 0⟩ 0x044 1).pick = s.pick := by
    rw [recorded_frame (fun h => by cases h) (by decide)]
  have hreleased : r.pick.released = s.pick.released := congrArg PickState.released hpick
  have written := access_write ha (by decide) (by decide) (by decide) rfl (by decide) rfl
  have hexec : exec (.pwrSleep m t) s = .next ((if r.pick.released then (r.requestClose 0).advanceAll else
      r.fallAsleep.advanceAll).follow.done m.id ⟨.power, 0⟩ 0x044) := by
    change Host.Outcome.next (access (busWrite m.id (Page.base ⟨.power, 0⟩ + 0x044) 15 1) (s.at t)) = _
    rw [at_eq ht, written]
    rfl
  rw [hexec, hreleased]
  exact ⟨fun h => by rw [h, if_neg Bool.false_ne_true], fun h => by rw [h, if_pos rfl]⟩

/-- PWR_CMD = WAKE. -/
theorem pwrWake_next {m : Master} {t : Nat} {s : State} (ht : s.now ≤ t) (ha :
    ({ s with now := t } : State).Accepts m.id ⟨.power, 0⟩ 0x044 2) :
    exec (.pwrWake m t) s = .next
      ((wakeOp 3 (({ s with now := t } : State).recorded m.id ⟨.power, 0⟩ 0x044 2)).follow.done m.id ⟨.power, 0⟩ 0x044) := by
  have written := access_write ha (by decide) (by decide) (by decide) rfl (by decide) rfl
  rw [← at_eq ht] at written ⊢
  exact congrArg Host.Outcome.next written

/-- An upset of a shadow changes cells and twill blocks alone. -/
theorem upsetShadow_frame (upset : Option ShadowUpset) (s : State) :
    upsetShadow upset s = { s with cells := (upsetShadow upset s).cells, twills := (upsetShadow upset s).twills } := by
  rcases upset with _ | ⟨c, mask⟩ | ⟨n, mask⟩ <;> rfl

section

variable {t : Nat} {s : State}

/-- An entry that fails is abandoned and counted (Table 19-4, step 3). -/
theorem sleepRefusedOp_taken (hentering : s.pwrState = pwrEntering) (hfails : s.entryFails t = true) :
    sleepRefusedOp t s = (((s.at t).abandonEntry.countSleepRefused).pwrEvent 4 codeNotQuiescent).advanceAll :=
  if_pos (by rw [decide_eq_true hentering, hfails]; rfl)

/-- With every bolt closed the device falls asleep (Table 19-4, step 4). -/
theorem sleepEnteredOp_taken (hentering : s.pwrState = pwrEntering) (hclosed : s.allClosed = true) :
    sleepEnteredOp t s = (s.at t).fallAsleep := if_pos (by rw [decide_eq_true hentering, hclosed]; rfl)

/-- A wake whose rails are not ready after 2.5 ms is marked. -/
theorem wakeLateOp_taken (hremoved : s.pwr.removed = true) (hwaking : s.pwrState = pwrWaking) (hlate : s.pwr.tw + 2500000 ≤ t) :
    wakeLateOp t s = (s.at t).setBit rDipRec 27 true := if_pos (by rw [hremoved, decide_eq_true hwaking, decide_eq_true hlate]; rfl)

/-- The end of a wake (Table 19-5, step 5). -/
theorem wakeCompleteOp_taken (hwaking : s.pwrState = pwrWaking) (hremoved : s.pwr.removed = false) :
    let z := (List.range 320).foldl (fun s n => s.resyncBoth n) ({ s.at t with pinsAsleep := false } : State).abandonEntry
    let y := (z.refreshPins (List.range 960)).settle
    wakeCompleteOp t s = (y.pwrEvent 3 (y.fld rWakeCause 3 0)).advanceAll :=
  if_pos (by rw [decide_eq_true hwaking, hremoved]; rfl)

end

/-- Settles O57: the commands of SLEEP by their lemmas, and the steps of a wake by the conditions under which they are taken. -/
theorem sleepAndWakeComplete : Obligations.SleepAndWakeComplete := by
  intro m t s ht p u
  have hu : s.at t = u := at_eq ht
  refine ⟨fun ha => pwrSleep_next ht ha, fun hentering hfails => ?refused, fun hentering hclosed => ?entered, ?asleep,
    fun ha => pwrWake_next ht ha, ?pin, fun hc k hk hen => ?sources, ?rails, fun hremoved hwaking hlate => ?late,
    fun hremoved hwaking => ?complete⟩
  case refused =>
    change Host.Outcome.next (sleepRefusedOp t s).follow = _
    rw [sleepRefusedOp_taken hentering hfails, hu]
  case entered =>
    change Host.Outcome.next (sleepEnteredOp t s).follow = _
    rw [sleepEnteredOp_taken hentering hclosed, hu]
  case asleep =>
    obtain ⟨hpwr, hpins⟩ := poweredDown_supply u
    exact ⟨u.poweredDown, fallAsleep_eq u, by rw [hpwr], by rw [hpwr], by rw [hpwr], hpins,
      fun hc => poweredDown_stopped (s := u) { hc with }⟩
  case pin =>
    rw [← hu]
    rfl
  case sources =>
    exact ⟨fun h => wakeOp_sleeping (s := u) hen { hc with } h, fun h => wakeOp_entering (s := u) hen { hc with } h,
      fun h => wakeOp_waking (s := u) hen h, fun h => wakeOp_active (s := u) hen h⟩
  case rails =>
    intro upset hremoved hwarn hen q z bad y x
    have hframe := upsetShadow_frame upset s
    have hq : (upsetShadow upset s).at t = q := at_eq (by rw [hframe]; exact ht)
    have hpwr : (upsetShadow upset s).pwr = s.pwr := by rw [hframe]
    have hregs : (upsetShadow upset s).regs = s.regs := by rw [hframe]
    have hgate : ((upsetShadow upset s).pwr.removed && !(upsetShadow upset s).pwr.warn.testBit 4 &&
        (upsetShadow upset s).pwr.fabPwrEn) = true := by
      rw [hpwr, hremoved, hwarn, hen]
      rfl
    have hstate : z.pwrState = s.pwrState := congrArg (fun regs => fieldOf (SMap.get (resetOf rPwrState) regs rPwrState) 2 0) hregs
    have hop : wakeRailsReadyOp t (upsetShadow upset s) =
        if s.pwrState = pwrWaking then ((x.setReg rScrubPos 0).wakeQuads).settle else z := by
      rw [wakeRailsReadyOp, if_pos hgate, hq, ← hstate]
    refine ⟨fun h => ?_, fun h => ?_⟩
    · rw [if_neg h] at hop
      exact congrArg (fun x : State => Host.Outcome.next x.follow) hop
    · rw [if_pos h] at hop
      exact congrArg (fun x : State => Host.Outcome.next x.follow) hop
  case late =>
    change Host.Outcome.next (wakeLateOp t s) = _
    rw [wakeLateOp_taken hremoved hwaking hlate, hu]
  case complete =>
    change Host.Outcome.next (wakeCompleteOp t s).follow.unparkPorts = _
    rw [wakeCompleteOp_taken hwaking hremoved, hu]

end Sys2Proof.Machine
end

section
/-!
Upsets of configuration words, and leaks between domains (R99, R148, R149): an upset changes one word beside what the wires then settle to,
and a leak marks its bolt beside its counts and its event.
-/

namespace Sys2Proof.Machine

/-! Counters. -/

/-- A counter after a count. -/
theorem State.fld_count {s : State} (hc : s.Canonical) (a n : Nat) {hi lo : Nat} (h : hi < 32) (hl : lo ≤ hi) :
    (s.count a hi lo n).fld a hi lo = min (2 ^ (hi + 1 - lo) - 1) (s.fld a hi lo + n) := by
  have hpos : 0 < 2 ^ (hi + 1 - lo) := Nat.two_pow_pos _
  rw [State.count, State.fld_setFld hc _ _ _ _ h hl, satAdd]
  exact Nat.mod_eq_of_lt (by omega)

/-! Upsets. -/

theorem State.Canonical.setCfgWord {s : State} (hc : s.Canonical) (f k : Nat) (w : CfgWord) : (s.setCfgWord f k w).Canonical :=
  (State.setCfgWord_follows s f k w (Follows.refl s)).memory hc

/-- An upset settles the wires over the changed configuration, and changes no word but its own. -/
theorem corrupt_moved {s : State} (hc : s.Canonical) (f k : Nat) (mask : Dword) :
    let u := corrupt f k mask s
    CellsMoved { s with cfgMem := u.cfgMem } u [] ∧ u.cfgWord f k = { s.cfgWord f k with flip := (s.cfgWord f k).flip ^^^ mask.setWidth 72 } ∧
      ∀ j, j ≠ 64 * f + k → SMap.get {} u.cfgMem j = SMap.get {} s.cfgMem j := by
  intro u
  let w : CfgWord := { s.cfgWord f k with flip := (s.cfgWord f k).flip ^^^ mask.setWidth 72 }
  have hsettled : CellsMoved (s.setCfgWord f k w) u [] := settle_moved (hc.setCfgWord f k w)
  have hmem : u.cfgMem = (s.setCfgWord f k w).cfgMem := (congrArg State.cfgMem hsettled.rest).trans rfl
  refine ⟨?moved, ?word, fun j hj => ?others⟩
  case moved =>
    rw [hmem]
    exact hsettled
  case word =>
    rw [State.cfgWord, hmem]
    exact State.cfgWord_setCfgWord_same s f k w (SMap.wf_sorted hc.cfgMem)
  case others =>
    rw [hmem]
    exact SMap.get_set_other _ _ _ _ hj

theorem selectCorrupted_next (f : BitVec 24) (k : Fin 64) (mask : Dword) (s : State) (hf : frameExists f.toNat = true) :
    exec (.selectCorrupted f k mask) s = .next ((corrupt f.toNat k mask s).reload f.toNat) := by
  change Host.Outcome.next (selectCorrupted f.toNat k mask s) = _
  rw [selectCorrupted, if_pos hf]

/-! Leaks. -/

/-- A bolt that a leak has hit in this pick. -/
def Bolt.leakMarked (v : Bolt) (handshake : Bool) : Bolt := { v with leakPick := true, leakWire := v.leakWire || handshake }

theorem Bolt.leakMarked_twice (v : Bolt) (handshake : Bool) : (v.leakMarked handshake).leakMarked handshake = v.leakMarked handshake := by
  simp only [Bolt.leakMarked, Bool.or_assoc, Bool.or_self]

/-- A leak counted in LEAKS and shown in BOLT_LEAKED, before its event. -/
def State.leakRecorded (s : State) (handshake : Bool) (b : Nat) : State :=
  ((s.setBit rBoltLeaked b true).count (rRollbacks b) 15 8 1).setBolt b ((s.bolt b).leakMarked handshake)

/-- The first leak of a bolt in a pick raises its event (R149). -/
theorem State.leaked_eq (s : State) (handshake : Bool) (b : Nat) : s.leaked handshake b =
    if (s.bolt b).leakPick then s.leakRecorded handshake b else (s.leakRecorded handshake b).raiseCommit b 0x4 0 := rfl

theorem State.leakRecorded_frame (s : State) (handshake : Bool) (b : Nat) : s.leakRecorded handshake b =
    { s with regs := (s.leakRecorded handshake b).regs, bolts := (s.leakRecorded handshake b).bolts } := rfl

/-- What the registers show of a recorded leak. -/
theorem State.leakRecorded_shown {s : State} (hc : s.Canonical) (handshake : Bool) (b : Fin 16) :
    (s.leakRecorded handshake b).bit rBoltLeaked b = true ∧
    (s.leakRecorded handshake b).fld (rRollbacks b) 15 8 = min 255 (s.fld (rRollbacks b) 15 8 + 1) := by
  have hb : b.val < 32 := Nat.lt_trans b.isLt (by decide)
  have happart : rBoltLeaked ≠ rRollbacks b := by
    unfold rBoltLeaked rRollbacks
    omega
  have hset : (s.setBit rBoltLeaked b true).Canonical := hc.setReg _ _
  constructor
  · calc (s.leakRecorded handshake b).bit rBoltLeaked b
      _ = (s.setBit rBoltLeaked b true).bit rBoltLeaked b := State.bit_setFld_apart hset _ (by decide) (.inl happart.symm)
      _ = true := State.bit_setBit hc _ _ _ hb
  · calc (s.leakRecorded handshake b).fld (rRollbacks b) 15 8
      _ = min 255 ((s.setBit rBoltLeaked b true).fld (rRollbacks b) 15 8 + 1) := State.fld_count hset _ 1 (by decide) (by decide)
      _ = min 255 (s.fld (rRollbacks b) 15 8 + 1) := by rw [State.fld_setBit_apart hc true hb (.inl happart)]

theorem State.leaked_canonical {s : State} (hc : s.Canonical) (handshake : Bool) (b : Nat) : (s.leaked handshake b).Canonical :=
  (State.leaked_follows s handshake b (Follows.refl s)).memory hc

/-- A leak marks its own bolt alone. -/
theorem State.leaked_bolt {s : State} (hc : s.Canonical) (handshake : Bool) (c b : Nat) :
    (s.leaked handshake c).bolt b = if b = c then (s.bolt c).leakMarked handshake else s.bolt b := by
  have hrecorded : (s.leakRecorded handshake c).bolt b = if b = c then (s.bolt c).leakMarked handshake else s.bolt b :=
    State.bolt_setBolt ((hc.setReg _ _).count _ _ _ _) c b _
  rw [State.leaked_eq]
  split
  · exact hrecorded
  · rw [State.raiseCommit, State.raise_frame]
    exact hrecorded

/-- A leak that hits several bolts marks each of them, however often the list names it. -/
theorem leaks_bolt (handshake : Bool) (hit : List Nat) : ∀ {s : State}, s.Canonical → ∀ b,
    (hit.foldl (fun u b => u.leaked handshake b) s).bolt b = if b ∈ hit then (s.bolt b).leakMarked handshake else s.bolt b := by
  induction hit with
  | nil => exact fun _ _ => rfl
  | cons c hit ih =>
    intro s hc b
    rw [List.foldl_cons, ih (State.leaked_canonical hc handshake c), State.leaked_bolt hc]
    by_cases hb : b = c
    · subst hb
      rw [if_pos rfl, Bolt.leakMarked_twice, ite_self, if_pos List.mem_cons_self]
    · rw [if_neg hb]
      simp only [List.mem_cons, hb, false_or]

/-- Settles O9: the upset by the one word it writes before the wires settle, the leak by its record, its event and the fold over the bolts
it hits. -/
theorem upsetsAndLeaksComplete : Obligations.UpsetsAndLeaksComplete := by
  refine ⟨fun f k mask s hc hf => ?upset, fun r tap handshake s hc => ?leaks, fun b handshake s hc => ?leak⟩
  case upset =>
    obtain ⟨hmoved, hword, hothers⟩ := corrupt_moved hc f.toNat k mask
    exact ⟨corrupt f.toNat k mask s, hmoved, selectCorrupted_next f k mask s hf, hword, hothers⟩
  case leaks => exact ⟨_, rfl, rfl, leaks_bolt handshake _ hc⟩
  case leak =>
    obtain ⟨hbit, hcount⟩ := State.leakRecorded_shown hc handshake b
    have hframe := s.leakRecorded_frame handshake b
    intro v t
    have ht := s.leaked_eq handshake b
    refine ⟨fun hagain => ?_, fun hfirst => ?_⟩
    · have hrecord : t = s.leakRecorded handshake b := ht.trans (if_pos hagain)
      rw [hrecord]
      exact ⟨hframe, hbit, hcount⟩
    · exact ⟨s.leakRecorded handshake b, ht.trans (if_neg (Bool.eq_false_iff.mp hfirst)), hframe, hbit, hcount⟩

end Sys2Proof.Machine
end

section
/-!
Scrubbing, recovery and the panel measurement (R310, R311, R315, R317): what a single-bit upset leaves when it is corrected, the frame that
is read next, and each step of a recovery on its two outcomes. A bolt's own frame is the first of the group that belongs to it (log entries 59
and 89).
-/

namespace Sys2Proof.Machine

/-! A word with one changed bit. -/

theorem weight72_single : ∀ bit : Fin 72, weight72 (1#72 <<< bit.val) = 1 := by decide +kernel

/-- The single changed bit is the one the code corrects (R327). -/
theorem CfgWord.scrub_single {w : CfgWord} {bit : Nat} (hbit : bit < 72) (hflip : w.flip = 1#72 <<< bit) : w.scrub = .flipBit bit := by
  have hfind : (List.range 72).find? (fun k => w.flip.getLsbD k) = some bit := by
    rw [List.find?_range_eq_some, hflip]
    refine ⟨?_, List.mem_range.mpr hbit, fun j hj => ?_⟩
    · simp [hbit]
    · simp [hj]
  unfold CfgWord.scrub
  rw [hfind, hflip, weight72_single ⟨bit, hbit⟩]
  rfl

theorem State.scrubWord_single {s : State} {f k bit : Nat} (hbit : bit < 72) (hflip : (s.cfgWord f k).flip = 1#72 <<< bit) :
    s.scrubWord f k = s.corrected f k bit := by
  rw [State.scrubWord, CfgWord.scrub_single hbit hflip]

/-! The registers of the SCRUB page and of the panels. -/

/-- The error counts of a panel lie apart from the registers that record a corrected word. -/
theorem rPanelErrs_apart {p a : Nat} (ha : a < 0x8000) : rPanelErrs p ≠ a := by
  simp only [rPanelErrs, regAddr, PageKind.info]
  omega

theorem State.scrubEvent_frame (s : State) (k : Nat) :
    s.scrubEvent k = { s with regs := (s.scrubEvent k).regs, ev := (s.scrubEvent k).ev } := State.raise_frame _ _ _ _

/-- An event of the page changes none of its counts. -/
theorem State.scrubEvent_reg (s : State) (k : Nat) {a : Nat} (h : a ∉ eventRegisters ⟨.scrub, 0⟩) : (s.scrubEvent k).reg a = s.reg a :=
  State.raise_reg _ _ _ _ h

/-! A corrected word. -/

/-- A word corrected, counted and recorded, before the block it configures and the wires follow it. -/
def State.correctionRecorded (s : State) (f k bit : Nat) : State :=
  ((((s.setCfgWord f k { s.cfgWord f k with flip := (s.cfgWord f k).flip ^^^ (1#72 <<< bit) }).count rScrubErrs 31 16 1).setReg
    rScrubLastCe (BitVec.ofNat 32 (place k 24 + f))).count (rPanelErrs (framePanel f)) 31 16 1).scrubEvent 0

/-- The block follows the corrected word (R99), and a select may move what it drives once (R100). -/
theorem State.corrected_eq (s : State) (f k bit : Nat) : s.corrected f k bit =
    if bit < 64 ∧ s.pick.released = true then selectMoved f (8 * k + bit / 8) ((s.correctionRecorded f k bit).reload f)
    else (s.correctionRecorded f k bit).reload f := rfl

/-- The word has its bits as they were written. -/
theorem State.correctionRecorded_word {s : State} (hc : s.Canonical) {f k bit : Nat} (hflip : (s.cfgWord f k).flip = 1#72 <<< bit) :
    (s.correctionRecorded f k bit).cfgWord f k = { s.cfgWord f k with flip := 0 } := by
  have hmem : (s.correctionRecorded f k bit).cfgMem = (s.setCfgWord f k { s.cfgWord f k with flip := 0 }).cfgMem := by
    rw [State.correctionRecorded, State.scrubEvent_frame, hflip, BitVec.xor_self]
    rfl
  rw [State.cfgWord, hmem]
  exact State.cfgWord_setCfgWord_same s f k _ (SMap.wf_sorted hc.cfgMem)

/-- The count and the address of the corrected word. -/
theorem State.correctionRecorded_shown {s : State} (hc : s.Canonical) (f k bit : Nat) :
    (s.correctionRecorded f k bit).fld rScrubErrs 31 16 = min 65535 (s.fld rScrubErrs 31 16 + 1) ∧
    (s.correctionRecorded f k bit).reg rScrubLastCe = BitVec.ofNat 32 (place k 24 + f) := by
  unfold State.correctionRecorded
  have hword := hc.setCfgWord f k { s.cfgWord f k with flip := (s.cfgWord f k).flip ^^^ (1#72 <<< bit) }
  have hcount := State.fld_count hword rScrubErrs 1 (hi := 31) (lo := 16) (by decide) (by decide)
  have hcounted := hword.count rScrubErrs 31 16 1
  generalize (s.setCfgWord f k _).count rScrubErrs 31 16 1 = u at hcount hcounted
  have herrs : rScrubErrs ≠ rPanelErrs (framePanel f) := (rPanelErrs_apart (by decide)).symm
  have hlast : rScrubLastCe ≠ rPanelErrs (framePanel f) := (rPanelErrs_apart (by decide)).symm
  constructor
  · rw [State.fld, State.scrubEvent_reg _ _ (by decide), State.count, State.reg_setFld_other _ _ _ _ herrs,
      State.reg_setReg_other _ _ (by decide)]
    exact hcount
  · rw [State.scrubEvent_reg _ _ (by decide), State.count, State.reg_setFld_other _ _ _ _ hlast, State.reg_setReg hcounted, if_pos rfl]

/-! A pass of the scrubber. -/

/-- The words of a frame, or none of them where the frame is not read (R310). -/
theorem scrubFrame_on {s : State} (hon : s.scrubOff = false) :
    let f := s.fld rScrubPos 23 0
    let u := if s.scrubSkips f then s else (List.range 64).foldl (fun s k => s.scrubWord f k) s
    (∀ g, nextFrame f = some g → scrubFrame s = u.setReg rScrubPos (BitVec.ofNat 32 g)) ∧
    (nextFrame f = none → scrubFrame s = ((u.setReg rScrubPos 0).countWrap rScrubPasses).scrubEvent 3) := by
  dsimp only
  refine ⟨fun g hg => ?next, fun hlast => ?wrap⟩
  case next =>
    rw [scrubFrame, hon, if_neg Bool.false_ne_true]
    dsimp only
    rw [hg]
  case wrap =>
    rw [scrubFrame, hon, if_neg Bool.false_ne_true]
    dsimp only
    rw [hlast]

/-! The commands of the two pages. -/

/-- The counts that CLR_COUNTS clears (R315, R318). -/
def scrubCounts : List Nat :=
  [rScrubErrs, rScrubLastCe, rScrubLastUe, rRecovStat, rPanelErrs 0, rPanelErrs 1, rPanelErrs 2, rPanelErrs 3]

theorem scrubClear_eq (s : State) : scrubClear s = scrubCounts.foldl (fun s a => s.setReg a 0) s := by
  have hcounts : scrubCounts = [rScrubErrs, rScrubLastCe, rScrubLastUe, rRecovStat] ++ (List.range 4).map rPanelErrs := rfl
  rw [scrubClear, hcounts, List.foldl_append, List.foldl_map]

/-- SCRUB_CMD.CLR_COUNTS. -/
theorem scrubClrCounts_next (m : Master) (v : Word) (s : State) (hc : s.Canonical) (ha : s.Accepts m.id ⟨.scrub, 0⟩ 0x060 v)
    (hclear : bitOf v 0 = true) :
    ∃ t, exec (.scrubClrCounts m v) s = .next t ∧ t.resp.code = 0 ∧ (∀ a ∈ scrubCounts, t.reg a = 0) ∧
      t = { s with regs := t.regs, ev := t.ev, log := t.log, resp := t.resp, jtag := { s.jtag with out := t.jtag.out } } := by
  have effect (old : Word) (u : State) : State.effectAt m.id ⟨.scrub, 0⟩ 0x060 old v u = scrubClear u := if_pos ⟨rfl, hclear⟩
  have written := access_write ha (by decide) (by decide) (by decide) rfl (by decide) rfl
  rw [effect, scrubClear_eq] at written
  have hnoserdes : PageKind.scrub = .serdes → 0x060 < 0x100 := fun _ => by decide
  obtain ⟨-, hzero, -, hframe⟩ := State.zero_regs scrubCounts _ (hc.recorded (m := m.id) (p := ⟨.scrub, 0⟩) (v := v) hnoserdes)
  refine ⟨_, congrArg Host.Outcome.next written, State.done_code _ _ _ _, fun a hmem => (State.done_reg _ _ _ _ _).trans (hzero a hmem),
    State.done_frame _ _ _ ?_⟩
  rw [hframe, recorded_frame (p := ⟨.scrub, 0⟩) hnoserdes rfl]

/-- PANEL_HOP_MEASURE: the two registers of the panel, and no other (R317). -/
theorem panelHopMeasure_next (p : Fin 4) (hop : BitVec 12) (temp : BitVec 10) (s : State) (hc : s.Canonical) :
    ∃ t, exec (.panelHopMeasure p hop temp) s = .next t ∧ t = { s with regs := t.regs } ∧
      t.reg (regAddr .panel p 0x044) = BitVec.ofNat 32 temp.toNat ∧
      t.reg (regAddr .panel p 0x040) = (if s.pwr.warn.testBit p || s.pwr.removed then 0 else BitVec.ofNat 32 hop.toNat) ∧
      ∀ a, a ≠ regAddr .panel p 0x040 → a ≠ regAddr .panel p 0x044 → t.reg a = s.reg a := by
  have happart : regAddr .panel p 0x040 ≠ regAddr .panel p 0x044 := by
    unfold regAddr
    omega
  refine ⟨_, rfl, rfl, ?temp, ?hop, fun a hhop htemp => ?others⟩
  case temp => exact (State.reg_setReg (hc.setReg _ _) _ _ _).trans (if_pos rfl)
  case hop =>
    rw [panelMeasure, State.reg_setReg_other _ _ happart, State.reg_setReg hc, if_pos rfl]
    split <;> rfl
  case others => rw [panelMeasure, State.reg_setReg_other _ _ htemp, State.reg_setReg_other _ _ hhop]

/-! Recovery (Table 11-7). -/

section

variable {r : Recovery} {rest : List Recovery} {t : Nat} {s : State} (hq : s.eng.recovs = r :: rest) (ht : s.now ≤ t)

include hq ht

/-- Step 2 of the recovery in turn: whether its source answers. -/
theorem recoverySource_inTurn (flash : Bool) (hstep : r.step = 0) : recoverySource flash t s =
    if s.sourceAvailable r.group flash then ({ s with now := t } : State).withEng { s.eng with recovs := { r with step := 1 } :: rest }
    else ({ s with now := t } : State).recoveryFails r 2 := by
  rw [recoverySource, hq]
  dsimp only
  rw [if_neg (by omega), at_eq ht]
  rfl

/-- Step 3: whether what was read has the recorded digest. -/
theorem recoveryRead_inTurn (digest : BitVec 128) (hstep : r.step = 1) : recoveryRead digest t s =
    if (SMap.get none s.eng.groups r.group).map (fun g => g.digest) = some digest then
      (({ s with now := t } : State).withEng { s.eng with
        recovs := { r with step := 2 } :: rest
        interrupted := if s.engState = engRecovering then s.eng.interrupted else some s.engState }).setEng engRecovering
    else ({ s with now := t } : State).recoveryFails r 3 := by
  rw [recoveryRead, hq]
  dsimp only
  rw [if_neg (by omega), at_eq ht]
  rfl

/-- Step 4: each bolt that waited recovers with its own first frame. -/
theorem recoveryRewritten_inTurn (hstep : r.step = 2) :
    let v := (({ s with now := t } : State).withEng { s.eng with recovs := rest }).rewriteFrames r.frames
    let w := ((((v.count rRecovStat 31 24 1).setFld rRecovStat 3 0 1).count rCfgCounts 7 0 1).scrubEvent 2).resumeLoad
    recoveryRewritten t s = ((w.recoveryBolts r).foldl (fun s b => s.recoverBolt t (s.faultFrame r b) b) w).settle := by
  rw [recoveryRewritten, hq]
  dsimp only
  rw [if_neg (by omega), at_eq ht]

end

/-- Step 5: the first recovery whose time is over fails. -/
theorem recoveryTimeout_over {r : Recovery} {t : Nat} {s : State} (ht : s.now ≤ t)
    (hover : s.eng.recovs.find? (fun r => decide (r.since + 10000000 ≤ t)) = some r) :
    recoveryTimeout t s = ({ s with now := t } : State).recoveryFails r 4 := by
  rw [recoveryTimeout, recoveryLimitNs, hover]
  dsimp only
  rw [if_neg (Nat.not_lt.mpr ht), at_eq ht]

theorem recoveryTimeout_within {t : Nat} {s : State} (hnone : s.eng.recovs.find? (fun r => decide (r.since + 10000000 ≤ t)) = none) :
    recoveryTimeout t s = s := by
  rw [recoveryTimeout, recoveryLimitNs, hnone]

/-- Settles O37: the pass of the scrubber by its next frame, a corrected word by its record, and each step of a recovery by the condition
that decides it. -/
theorem scrubbingAndRecoveryComplete : Obligations.ScrubbingAndRecoveryComplete := by
  refine ⟨⟨fun s hon => ?pass, fun f k bit s hc _ hbit hflip => ?corrected, scrubClrCounts_next, panelHopMeasure_next⟩,
    fun r rest t s hq ht => ?steps, fun t s ht => ⟨fun r hover => ?late, fun hnone => ?within⟩⟩
  case pass =>
    obtain ⟨hnext, hwrap⟩ := scrubFrame_on hon
    exact ⟨fun g hg => congrArg Host.Outcome.next (hnext g hg), fun hlast => congrArg Host.Outcome.next (hwrap hlast)⟩
  case corrected =>
    have hword := State.correctionRecorded_word hc hflip
    obtain ⟨hcount, hlast⟩ := State.correctionRecorded_shown hc f k bit
    exact ⟨State.scrubWord_single hbit hflip, s.correctionRecorded f k bit, s.corrected_eq f k bit, congrArg CfgWord.flip hword,
      (congrArg CfgWord.data hword).trans rfl, hcount, hlast⟩
  case steps =>
    have source (flash : Bool) (hstep : r.step = 0) := recoverySource_inTurn hq ht flash hstep
    have read (digest : BitVec 128) (hstep : r.step = 1) := recoveryRead_inTurn hq ht digest hstep
    have completes {z w : State} (h : z = w) : (Host.Outcome.next z.afterBolts : Result) = .next w.afterBolts := by rw [h]
    refine ⟨fun flash hstep hanswers => ?_, fun flash hstep hsilent => ?_, fun digest hstep hsame => ?_, fun digest hstep hother => ?_,
      fun hstep => ?_⟩
    · exact completes ((source flash hstep).trans (if_pos hanswers))
    · exact completes ((source flash hstep).trans (if_neg (Bool.eq_false_iff.mp hsilent)))
    · exact completes ((read digest hstep).trans (if_pos hsame))
    · exact completes ((read digest hstep).trans (if_neg hother))
    · exact completes (recoveryRewritten_inTurn hq ht hstep)
  case late => exact congrArg (fun z : State => Host.Outcome.next z.afterBolts) (recoveryTimeout_over ht hover)
  case within => exact congrArg (fun z : State => Host.Outcome.next z.afterBolts) (recoveryTimeout_within hnone)

end Sys2Proof.Machine
end

section
/-!
The pick cycle, from CLOSING to the point (R114, R119 to R123, R131, R140, R141): which bolts close and hold the pace gate, and what a point
does to each bolt.
-/

namespace Sys2Proof.Machine

/-! Settling. -/

theorem State.settleAll_frame (n : Nat) : ∀ s : State, State.settleAll n s =
    { s with bridges := (State.settleAll n s).bridges, fbps := (State.settleAll n s).fbps, creels := (State.settleAll n s).creels,
             twills := (State.settleAll n s).twills } := by
  induction n with
  | zero => exact fun _ => rfl
  | succ n ih =>
    intro s
    rw [State.settleAll]
    split
    · rfl
    · exact (ih s.settleBlocks).trans rfl

/-- Settling moves cells, joins and hard blocks alone, in every state. -/
theorem State.settle_frame (s : State) : s.settle =
    { s with cells := s.settle.cells, joins := s.settle.joins, bridges := s.settle.bridges, fbps := s.settle.fbps,
             creels := s.settle.creels, twills := s.settle.twills } := by
  rw [State.settle, State.settleAll_frame]
  rfl

/-! CLOSING and the pace gate. -/

theorem closingOp_taken {b t : Nat} {s : State} (hruns : s.gridRuns = true) (hcycling : s.cycling b = true) (hopen : (s.bolt b).stage = .open)
    (hhold : (s.bolt b).hold = false) (ht : s.now ≤ t) (hguard : s.nextPoint t ≤ t + s.actGuard)
    (hpart : s.takesPart b (s.nextPoint t) = true) (hoccurs : s.pointOccurs (s.nextPoint t) = true) :
    closingOp b t s =
      (({ s with now := t } : State).setBolt b { s.bolt b with stage := .closing, grid := s.nextPoint t, gateHeld := true }).shutGate t := by
  rw [← at_eq ht]
  exact if_pos (by simp only [hruns, hcycling, hopen, hhold, ht, hguard, hpart, hoccurs, decide_true, and_self, Bool.not_false, Bool.and_self])

/-- The gate shuts at once, and a gate that is shut stays as it was. -/
theorem State.shutGate_eq (s : State) (t : Nat) : s.shutGate t =
    { s with pick := if s.pick.gateShut then s.pick else { s.pick with gateShut := true, gateAt := some t } } := by
  unfold State.shutGate
  split <;> rfl

theorem gateOpenOp_taken {t : Nat} {s : State} (hshut : s.pick.gateShut = true) (ht : s.now ≤ t)
    (hfree : ∀ b ∈ allBolts, s.committed b = true → (s.bolt b).gateHeld = false) :
    gateOpenOp t s = { s with now := t, pick := { s.pick with gateShut := false, gateAt := some t } } := by
  have hbusy : allBolts.any (fun b => s.committed b && (s.bolt b).gateHeld) = false := by
    rw [List.any_eq_false]
    intro b hb
    rw [Bool.and_eq_true]
    rintro ⟨hcommitted, hheld⟩
    exact Bool.false_ne_true ((hfree b hb hcommitted).symm.trans hheld)
  rw [gateOpenOp, hbusy, hshut, at_eq ht]
  exact if_pos (by rw [decide_eq_true ht]; rfl)

/-! Points. -/

/-- A point that has occurred is the last one. -/
theorem State.pointAt_last (s : State) (g : Nat) (pins : Bool) : (s.pointAt g pins).pick.last = some g := by
  rw [State.pointAt, State.settle_frame]

theorem gridPointOp_taken {t : Nat} {s : State} (hruns : s.gridRuns = true) (ht : s.now ≤ t) (hpoint : s.gridFrom t = t)
    (horigin : s.actOrigin ≤ t) (hnew : s.pick.last ≠ some t) (hoccurs : s.pointOccurs t = true) :
    gridPointOp t s = (({ s with now := t } : State).pickEvent 6 ((t - s.actOrigin) / s.actPeriod % 2 ^ 32)).pointAt t true := by
  rw [← at_eq ht]
  exact if_pos (by simp only [hruns, ht, hpoint, horigin, hnew, hoccurs, decide_true, ne_eq, not_false_eq_true, and_self, Bool.and_self])

/-- The engine sees a grid point that has occurred (R308). -/
theorem gridPassed_of_point {t : Nat} {s u : State} (hpoint : gridPointOp t s = u) (hlast : u.pick.last = some t)
    (hnew : s.pick.last ≠ some t) : gridPassed t s = u.engineAtGrid.follow := by
  rw [gridPassed, hpoint]
  exact if_pos ⟨hlast, hnew⟩

theorem closingPointOp_taken {t : Nat} {s : State} (hruns : s.gridRuns = true) (ht : s.now ≤ t) (hpoint : s.pwr.closePoint = some t) :
    let u := ({ s with now := t } : State).pointAt t false
    closingPointOp t s = { u with pwr := { u.pwr with closePoint := none } } := by
  rw [← at_eq ht]
  exact if_pos (by simp only [hruns, ht, hpoint, decide_true, and_self, Bool.and_self])

section

variable {g b : Nat} {s : State} (hcycling : s.cycling b = true) (hhold : (s.bolt b).hold = false) (hfrozen : (s.bolt b).dfrozen = false)

include hcycling hhold hfrozen

/-- A bolt that neither holds nor is frozen moves as its stage says. -/
theorem pointAtBolt_free : ¬ (!s.cycling b || (s.bolt b).hold || (s.bolt b).dfrozen) = true := by
  simp only [hcycling, hhold, hfrozen, Bool.not_true, Bool.or_self, Bool.false_eq_true, not_false_eq_true]

theorem pointAtBolt_closing (hstage : (s.bolt b).stage = .closing) (hgrid : (s.bolt b).grid = g) :
    s.pointAtBolt g b = s.setBolt b { s.bolt b with stage := .drain, t0 := none, unbounded := false, deferred := false } := by
  rw [State.pointAtBolt, if_neg (pointAtBolt_free hcycling hhold hfrozen), hstage]
  exact if_pos hgrid

theorem pointAtBolt_open (hstage : (s.bolt b).stage = .open) (hpart : s.takesPart b g = true) :
    s.pointAtBolt g b =
      s.setBolt b { s.bolt b with stage := .drain, grid := g, t0 := none, unbounded := false, deferred := false, gateHeld := true } := by
  rw [State.pointAtBolt, if_neg (pointAtBolt_free hcycling hhold hfrozen), hstage]
  exact if_pos hpart

theorem pointAtBolt_overrun (hstage : (s.bolt b).stage = .overrun) :
    s.pointAtBolt g b =
      s.setBolt b { s.bolt b with stage := .drain, grid := g, t0 := none, unbounded := false, deferred := true } := by
  rw [State.pointAtBolt, if_neg (pointAtBolt_free hcycling hhold hfrozen), hstage]

end

/-- Settles O10: each point by the bolts it moves; a CLOSING bolt holds the gate until its beat-up ends or is skipped. -/
theorem closingAndGridPointsComplete : Obligations.ClosingAndGridPointsComplete := by
  refine ⟨⟨fun b t s hc => ?closing, fun t s hshut ht hfree => ?gate⟩,
    fun t s hruns ht hpoint horigin hnew hoccurs => ?grid, fun t s hruns ht hpoint => ?close, fun g b s hc hcycling hhold hfrozen => ?bolt⟩
  case closing =>
    intro v g hruns hcycling hopen hhold ht hguard hpart hoccurs
    have hnext := closingOp_taken hruns hcycling hopen hhold ht hguard hpart hoccurs
    rw [State.shutGate_eq] at hnext
    have hat : ({ s with now := t } : State).Canonical := { hc with }
    have hbolt := fun c => State.bolt_setBolt hat b c { v with stage := .closing, grid := g, gateHeld := true }
    have hself := (hbolt b).trans (if_pos rfl)
    refine ⟨_, congrArg Host.Outcome.next hnext, hself, ?_, rfl, rfl, rfl, fun c hother => (hbolt c).trans (if_neg hother)⟩
    refine (congrArg Bolt.phase hself).trans ?_
    simp only [Bolt.phase, v, hhold, Bool.false_eq_true, if_false]
  case gate => exact congrArg Host.Outcome.next (gateOpenOp_taken hshut ht hfree)
  case grid =>
    have htaken := gridPointOp_taken hruns ht hpoint horigin hnew hoccurs
    exact congrArg Host.Outcome.next (gridPassed_of_point htaken (State.pointAt_last _ t true) hnew)
  case close => exact ⟨_, rfl, congrArg Host.Outcome.next (closingPointOp_taken hruns ht hpoint)⟩
  case bolt =>
    have hself := fun v => (State.bolt_setBolt hc b b v).trans (if_pos rfl)
    refine ⟨fun hstage hgrid => ?_, fun hstage hpart => ?_, fun hstage => ?_⟩
    · rw [pointAtBolt_closing hcycling hhold hfrozen hstage hgrid, hself]
      exact ⟨rfl, hgrid, by simp only [Bolt.phase, hhold, Bool.false_eq_true, if_false]⟩
    · rw [pointAtBolt_open hcycling hhold hfrozen hstage hpart, hself]
    · rw [pointAtBolt_overrun hcycling hhold hfrozen hstage, hself]
      exact ⟨rfl, rfl, rfl⟩

end Sys2Proof.Machine
end

section
/-!
Beat-ups (R121, R125, R127, R140, R172): the freeze at t0, the confirmation 50 ns later and the end of the beat-up. The detail of
DRAIN_RETRY counts from the last point of the bolt, in a HOLD too (log entry 84).
-/

namespace Sys2Proof.Machine

/-! The freeze at t0. -/

/-- A COMMITTED bolt within its drain bound, or one that no bound holds, and a DIRECT bolt within the bound of a SLEEP request. -/
theorem freezeOp_taken {b t : Nat} {s : State} (hnone : (s.bolt b).t0 = none) (ht : s.now ≤ t) (hidle : s.boltIdle b = true)
    (hbound : (s.cycling b = true ∧ (s.bolt b).stage = .drain ∧ ((s.bolt b).hold = true ∨ (s.bolt b).unbounded = true ∨
        ((s.bolt b).grid ≤ t ∧ t ≤ (s.bolt b).grid + s.actDrainMax))) ∨
      ((s.bolt b).stage = .direct ∧ (s.bolt b).dfrozen = false ∧ s.pwr.closing = some 0 ∧ s.pwr.closeHit = true ∧
        s.pwr.closeG ≤ t ∧ t ≤ s.pwr.closeG + s.actDrainMax)) :
    freezeOp b t s = (({ s with now := t } : State).setBolt b { s.bolt b with t0 := some t }).twillsAtFreeze b := by
  rw [← at_eq ht]
  refine if_pos ?_
  simp only [hnone, ht, hidle, Option.isNone_none, decide_true, Bool.and_true, Bool.or_eq_true, Bool.and_eq_true, decide_eq_true_eq,
    Bool.not_eq_true']
  rcases hbound with ⟨hcycling, hdrain, hwithin⟩ | ⟨hdirect, hmoving, hclose⟩
  · exact .inl ⟨⟨hcycling, hdrain⟩, or_assoc.mpr hwithin⟩
  · exact .inr ⟨⟨hdirect, hclose⟩, hmoving⟩

/-! The confirmation. -/

/-- A DIRECT bolt that is found idle stores its shadows and stays frozen (R172). -/
def State.shadowsStored (s : State) (b : Nat) : State :=
  ((s.setBolt b { s.bolt b with t0 := none, dfrozen := true }).commitCells b).commitTwills b

/-- A drain that the confirmation finds not idle is counted and recorded, and the bolt runs on. -/
def State.drainRetried (s : State) (b t0 : Nat) : State :=
  (((((s.setBolt b { s.bolt b with t0 := none }).count (rBoltStat b) 7 4 1).pickEvent 4
    (place b 28 + min (2 ^ 28 - 1) (t0 - (s.bolt b).grid))).resumeBridges b).admitFbps b).settle

section

variable {b t0 : Nat} {s : State} (hfrozen : (s.bolt b).t0 = some t0) (ht : s.now ≤ t0 + 50)
  (hpend : ∀ c l td, (s.bolt b).pend = some (c, l, td) → t0 + 50 < td + 20)

include hfrozen ht hpend

/-- The confirmation of a freeze that no detected fault has overtaken. -/
theorem drainConfirmOp_inTurn (idle : Bool) (hstage : (s.bolt b).stage = .drain ∨ (s.bolt b).stage = .direct) :
    let u : State := { s with now := t0 + 50 }
    drainConfirmOp b idle (t0 + 50) s =
      if idle && u.boltIdle b then
        (if (s.bolt b).stage = .direct then u.shadowsStored b
         else if u.endFails b then u.checkEnds b else (u.checkEnds b).beatUp b)
      else if (s.bolt b).stage = .direct then u.setBolt b { s.bolt b with t0 := none } else u.drainRetried b t0 := by
  rw [drainConfirmOp, hfrozen, at_eq ht]
  refine if_neg ?_
  rintro (hmoment | hpast | hoverdue | hother)
  · exact hmoment rfl
  · exact absurd hpast (Nat.not_lt.mpr ht)
  · cases hp : (s.bolt b).pend with
    | none =>
      rw [hp] at hoverdue
      exact Bool.false_ne_true hoverdue
    | some fault =>
      rw [hp] at hoverdue
      exact absurd (of_decide_eq_true hoverdue) (Nat.not_le.mpr (hpend _ _ _ hp))
  · exact hother hstage

variable {idle : Bool} (hdrain : (s.bolt b).stage = .drain)

include hdrain

theorem drainConfirmOp_idle (hidle : idle = true) (hbolt : ({ s with now := t0 + 50 } : State).boltIdle b = true) :
    let u : State := { s with now := t0 + 50 }
    drainConfirmOp b idle (t0 + 50) s = if u.endFails b then u.checkEnds b else (u.checkEnds b).beatUp b := by
  rw [drainConfirmOp_inTurn hfrozen ht hpend idle (.inl hdrain), hidle, hbolt, hdrain]
  rfl

theorem drainConfirmOp_busy (hbusy : idle = false ∨ ({ s with now := t0 + 50 } : State).boltIdle b = false) :
    drainConfirmOp b idle (t0 + 50) s = ({ s with now := t0 + 50 } : State).drainRetried b t0 := by
  rw [drainConfirmOp_inTurn hfrozen ht hpend idle (.inl hdrain), Bool.and_eq_false_iff.mpr hbusy, hdrain]
  rfl

omit hdrain

variable (hdirect : (s.bolt b).stage = .direct)

include hdirect

theorem drainConfirmOp_idle_direct (hidle : idle = true) (hbolt : ({ s with now := t0 + 50 } : State).boltIdle b = true) :
    drainConfirmOp b idle (t0 + 50) s = ({ s with now := t0 + 50 } : State).shadowsStored b := by
  rw [drainConfirmOp_inTurn hfrozen ht hpend idle (.inr hdirect), hidle, hbolt]
  exact if_pos hdirect

theorem drainConfirmOp_busy_direct (hbusy : idle = false ∨ ({ s with now := t0 + 50 } : State).boltIdle b = false) :
    drainConfirmOp b idle (t0 + 50) s = ({ s with now := t0 + 50 } : State).setBolt b { s.bolt b with t0 := none } := by
  rw [drainConfirmOp_inTurn hfrozen ht hpend idle (.inr hdirect), Bool.and_eq_false_iff.mpr hbusy]
  exact if_pos hdirect

end

/-! BEAT-UP end. -/

/-- A bolt whose beat-up is over, before it takes its next stage. -/
def Bolt.beatUpOver (v : Bolt) (t : Nat) : Bolt := { v.freePace t with t0 := none, unbounded := false, gateHeld := false }

/-- The bolt stays closed after the final beat-up of a SLEEP or shutdown request (R140). -/
def State.closedForGood (s : State) (b t : Nat) : State :=
  ((s.setBolt b { (s.bolt b).beatUpOver t with stage := .closed, final := true, holdDone := (s.bolt b).hold }).resumeStalled b).checkFinal

/-- The bolt stays closed after the early beat-up of its HOLD (R172). -/
def State.closedForHold (s : State) (b t : Nat) : State :=
  (s.setBolt b { (s.bolt b).beatUpOver t with stage := .closed, holdDone := true }).resumeStalled b

/-- A HOLD that came after t0 has its early beat-up still before it (R172). -/
def State.drainsAgain (s : State) (b : Nat) : State :=
  (s.setBolt b { s.bolt b with stage := .drain, t0 := none, unbounded := true, gateHeld := false }).resumeStalled b

/-- The beat-up is the last one of a request to close: the bolt took no part in the request's point, or that point has come (R140). -/
def State.lastBeatUp (s : State) (b : Nat) : Prop :=
  (s.bolt b).unbounded = true ∨ (s.pwr.closeHit = true ∧ s.pwr.closeG ≤ (s.bolt b).grid)

/-- The beat-up began no earlier than the HOLD of its bolt. -/
def Bolt.earlyBeatUp (v : Bolt) : Prop := v.hold = true ∧ v.holdAt ≤ v.t0.getD 0

section

variable {b t : Nat} {s : State} (hstage : (s.bolt b).stage = .beatUp) (ht : s.now ≤ t) (hover : (s.bolt b).t0.getD 0 + 50 ≤ t)

include hstage ht hover

theorem beatUpEndOp_final (hclosing : s.pwr.closing ≠ none)
    (hfinal : ((s.bolt b).hold = false ∧ s.lastBeatUp b) ∨ (s.bolt b).earlyBeatUp) :
    beatUpEndOp b t s = ({ s with now := t } : State).closedForGood b t := by
  rw [beatUpEndOp, if_pos ⟨hstage, ht, hover⟩, at_eq ht]
  refine if_pos ?_
  simp only [Bool.and_eq_true, Bool.or_eq_true, Bool.not_eq_true', decide_eq_true_eq, Option.isSome_iff_ne_none]
  exact ⟨hclosing, hfinal.symm⟩

theorem beatUpEndOp_early (hclosing : s.pwr.closing = none) (hearly : (s.bolt b).earlyBeatUp) :
    beatUpEndOp b t s = ({ s with now := t } : State).closedForHold b t := by
  rw [beatUpEndOp, if_pos ⟨hstage, ht, hover⟩, at_eq ht, hclosing]
  refine (if_neg Bool.false_ne_true).trans (if_pos ?_)
  rw [Bool.and_eq_true, decide_eq_true_eq]
  exact hearly

theorem beatUpEndOp_again (hhold : (s.bolt b).hold = true) (hlate : (s.bolt b).t0.getD 0 < (s.bolt b).holdAt) :
    beatUpEndOp b t s = ({ s with now := t } : State).drainsAgain b := by
  have hnotearly : decide ((s.bolt b).holdAt ≤ (s.bolt b).t0.getD 0) = false := decide_eq_false (Nat.not_le.mpr hlate)
  rw [beatUpEndOp, if_pos ⟨hstage, ht, hover⟩, at_eq ht]
  refine (if_neg ?_).trans ((if_neg ?_).trans (if_pos hhold))
  · simp only [hhold, hnotearly, Bool.and_false, Bool.not_true, Bool.false_and, Bool.or_false, Bool.false_eq_true, not_false_eq_true]
  · simp only [hnotearly, Bool.and_false, Bool.false_eq_true, not_false_eq_true]

theorem beatUpEndOp_opens (hhold : (s.bolt b).hold = false) (hopens : s.pwr.closing = none ∨ ¬ s.lastBeatUp b) :
    beatUpEndOp b t s = ({ s with now := t } : State).openAfterBeatUp b := by
  rw [beatUpEndOp, if_pos ⟨hstage, ht, hover⟩, at_eq ht]
  refine (if_neg ?_).trans ?_
  · simp only [hhold, Bool.false_and, Bool.false_or, Bool.not_false, Bool.true_and, Bool.and_eq_true, Bool.or_eq_true, decide_eq_true_eq,
      Option.isSome_iff_ne_none]
    exact fun ⟨hclosing, hlast⟩ => hopens.elim hclosing (fun hnot => hnot hlast)
  · rw [hhold]
    rfl

end

/-- The engine sees a beat-up that has ended (R139, R307). -/
theorem beatUpOver_of_end {b t : Nat} {s w : State} (hstage : (s.bolt b).stage = .beatUp) (hend : beatUpEndOp b t s = w) :
    beatUpOver b t s = if (w.bolt b).stage = .beatUp then w else (w.engineAtBeatUpEnd b).follow := by
  rw [beatUpOver, hend]
  by_cases hagain : (w.bolt b).stage = .beatUp
  · rw [if_pos hagain]
    exact if_neg (fun h => h.2 hagain)
  · rw [if_neg hagain]
    exact if_pos ⟨hstage, hagain⟩

/-- Settles O11: the freeze by its bound, the confirmation by the stage of the bolt and what it reads, and the end of a beat-up by the HOLD
and the request to close that it meets. -/
theorem beatUpsComplete : Obligations.BeatUpsComplete := by
  refine ⟨⟨fun b t s => ?freeze, fun b idle t0 s => ?confirm⟩, fun b t s => ?ended⟩
  case freeze =>
    intro v hnone ht hidle hbound
    exact congrArg Host.Outcome.next (freezeOp_taken hnone ht hidle hbound)
  case confirm =>
    intro v t u hfrozen ht hpend
    have unparks {w : State} (h : drainConfirmOp b idle t s = w) : exec (.drainConfirm b idle t) s = .next w.unparkPorts :=
      congrArg (fun x : State => Host.Outcome.next x.unparkPorts) h
    refine ⟨fun hdrain hidle hbolt hgood => ?_, fun hdrain hidle hbolt hbad => ?_, fun hdrain hbusy => ?_, fun hdirect hidle hbolt => ?_,
      fun hdirect hbusy => ?_⟩
    · exact unparks ((drainConfirmOp_idle hfrozen ht hpend hdrain hidle hbolt).trans (if_neg (Bool.eq_false_iff.mp hgood)))
    · exact unparks ((drainConfirmOp_idle hfrozen ht hpend hdrain hidle hbolt).trans (if_pos hbad))
    · exact unparks (drainConfirmOp_busy hfrozen ht hpend hdrain hbusy)
    · exact unparks (drainConfirmOp_idle_direct hfrozen ht hpend hdirect hidle hbolt)
    · exact unparks (drainConfirmOp_busy_direct hfrozen ht hpend hdirect hbusy)
  case ended =>
    intro v u f early last done hstage ht hover
    have ends {w : State} (h : beatUpEndOp b t s = w) : exec (.beatUpEnd b t) s = .next (done w) :=
      congrArg (fun x : State => Host.Outcome.next x.unparkPorts) (beatUpOver_of_end hstage h)
    exact ⟨fun hhold hopens => ends (beatUpEndOp_opens hstage ht hover hhold hopens),
      fun hclosing hfinal => ends (beatUpEndOp_final hstage ht hover hclosing hfinal),
      fun hclosing hearly => ends (beatUpEndOp_early hstage ht hover hclosing hearly),
      fun hhold hlate => ends (beatUpEndOp_again hstage ht hover hhold hlate)⟩

end Sys2Proof.Machine
end

section
/-!
Overruns and the sources of detected faults (R129, R130, R132, R133, R155, R156, R245): a bolt that skips its beat-up, an edge in the watched
window, a VFAB comparator trip, and the fault that waits for the rollback.
-/

namespace Sys2Proof.Machine

/-! Overruns. -/

/-- The bolt has skipped its beat-up, and OVERRUNS and RUN have counted; a skipped final beat-up of a shutdown freezes it. -/
def State.beatUpSkipped (s : State) (b t : Nat) : State :=
  let last := decide (s.pwr.closing = some 1 ∧ s.pwr.closeHit = true ∧ s.pwr.closeG ≤ (s.bolt b).grid)
  ((s.setBolt b { (s.bolt b).holdPace t with stage := .overrun, deferred := true, gateHeld := false, dfrozen := last }).count
    (rBoltStat b) 15 8 1).count (rBoltStat b) 3 0 1

theorem pickOverrunOp_taken {b t : Nat} {s : State} (hcycling : s.cycling b = true) (hdrain : (s.bolt b).stage = .drain)
    (hnone : (s.bolt b).t0 = none) (hhold : (s.bolt b).hold = false) (hbounded : (s.bolt b).unbounded = false) (ht : s.now ≤ t)
    (hlate : (s.bolt b).grid + s.actDrainMax ≤ t) :
    let u := ({ s with now := t } : State).beatUpSkipped b t
    let w := u.pickEvent 1 (place b 28 + u.fld (rBoltStat b) 3 0)
    pickOverrunOp b t s = if w.actLimit ≤ u.fld (rBoltStat b) 3 0 then w.overrunHalt b else w := by
  rw [← at_eq ht]
  refine if_pos ?_
  simp only [hcycling, hdrain, hnone, hhold, hbounded, ht, hlate, Option.isNone_none, Bool.not_false, decide_true, and_self, Bool.and_self]

/-! Sources of detected faults. -/

theorem clkEdgeOp_taken {r t : Nat} {s : State} (hcommitted : s.committed (s.boltOf r) = true)
    (hwindow : ((s.bolt (s.boltOf r)).armed || ((s.bolt (s.boltOf r)).hold && !(s.bolt (s.boltOf r)).holdDone)) = true)
    (hwatched : s.watchesClock r = true) (ht : s.now ≤ t) (hrollback : (s.bolt (s.boltOf r)).stage ≠ .rollback)
    (hhalt : (s.bolt (s.boltOf r)).stage ≠ .halt) :
    let loc := place (reedP r) 16 + place (reedX r) 8 + reedY r
    clkEdgeOp r t s = (({ s with now := t } : State).pickEvent 3 (place (s.boltOf r) 28 + loc)).detect (s.boltOf r) 0x04 loc := by
  intro loc
  have hdetail : place (s.boltOf r) 28 + loc = place (s.boltOf r) 28 + place (reedP r) 16 + place (reedX r) 8 + reedY r := by omega
  rw [← at_eq ht, hdetail]
  refine if_pos ?_
  simp only [hcommitted, hwindow, hwatched, ht, hrollback, hhalt, ne_eq, not_false_eq_true, and_self, decide_true, Bool.and_self]

/-- The COMMITTED bolts of a panel that are in the brownout window (R155). -/
def State.boltsAtRisk (s : State) (p : Nat) : List Nat :=
  allBolts.filter (fun b => s.committed b && (s.bolt b).inWindow && (s.bolt b).panels.testBit p)

theorem faultTripOp_powered {p mv t : Nat} {s : State} (hpowered : s.pwr.removed = false) (ht : s.now ≤ t) : faultTripOp p mv t s =
    if s.boltsAtRisk p = [] then
      (({ s with now := t } : State).count (regAddr .power 0 0x10C) (8 * p + 7) (8 * p) 1).raise ⟨.power, 0⟩ 5
        (BitVec.ofNat 32 (place p 28 + mv))
    else (s.boltsAtRisk p).foldl (fun s b => s.detect b 0x06 p) { s with now := t } := by
  rw [← at_eq ht]
  refine if_neg ?_
  simp only [hpowered, Nat.not_lt.mpr ht, decide_false, Bool.or_self, Bool.false_eq_true, not_false_eq_true]

/-! The fault that waits. -/

theorem State.detect_live {s : State} {b : Nat} (hc : s.Canonical) (hcommitted : s.committed b = true) (hhalt : (s.bolt b).stage ≠ .halt)
    (hreleased : (s.bolt b).stage ≠ .notReleased) (cause loc : Nat) :
    (s.detect b cause loc).bolt b = { s.bolt b with pend := some (earlierFault (s.bolt b).pend cause loc s.now) } := by
  have hdetect : s.detect b cause loc = s.setBolt b { s.bolt b with pend := some (earlierFault (s.bolt b).pend cause loc s.now) } :=
    if_pos (by simp only [hcommitted, hhalt, hreleased, ne_eq, not_false_eq_true, and_self, decide_true, Bool.and_self])
  rw [hdetect, State.bolt_setBolt hc, if_pos rfl]

/-- Of residue faults of one time the lowest block number is kept. -/
theorem earlierFault_residue (l loc t : Nat) : earlierFault (some (1, l, t)) 1 loc t = (1, min l loc, t) := if_pos ⟨rfl, rfl, rfl⟩

theorem earlierFault_later {c l td cause loc t : Nat} (h : ¬ (c = 1 ∧ cause = 1 ∧ td = t)) :
    earlierFault (some (c, l, td)) cause loc t = (c, l, td) := if_neg h

/-- Settles O12: the overrun by its limit, each source by the fault it leaves, and the fault that waits by the one before it. -/
theorem overrunsAndFaultSourcesComplete : Obligations.OverrunsAndFaultSourcesComplete := by
  refine ⟨fun b t s => ?overrun, fun r t s => ?edge, fun p mv t s hpowered ht => ?trip,
    fun b cause loc s hc hcommitted hhalt hreleased => ?detected⟩
  case overrun =>
    intro v hcycling hdrain hnone hhold hbounded ht hlate last skipped u w
    have htaken := pickOverrunOp_taken hcycling hdrain hnone hhold hbounded ht hlate
    have follows {z : State} (h : pickOverrunOp b t s = z) : exec (.pickOverrun b t) s = .next z.afterBolts :=
      congrArg (fun x : State => Host.Outcome.next x.afterBolts) h
    exact ⟨fun hlimit => follows (htaken.trans (if_pos hlimit)), fun hbelow => follows (htaken.trans (if_neg (Nat.not_le.mpr hbelow)))⟩
  case edge =>
    intro b v loc hcommitted hwindow hwatched ht hrollback hhalt
    exact congrArg Host.Outcome.next (clkEdgeOp_taken hcommitted hwindow hwatched ht hrollback hhalt)
  case trip =>
    have htrip := faultTripOp_powered (p := p) (mv := mv.toNat) hpowered ht
    exact ⟨fun hnone => congrArg Host.Outcome.next (htrip.trans (if_pos hnone)),
      fun hsome => congrArg Host.Outcome.next (htrip.trans (if_neg hsome))⟩
  case detected =>
    have hbolt := State.detect_live hc hcommitted hhalt hreleased cause loc
    refine ⟨fun hnone => ?first, fun l hsame hresidue => ?lowest, fun c l td hold hother => ?kept⟩
    case first => rw [hbolt, hnone, earlierFault]
    case lowest => rw [hbolt, hsame, hresidue, earlierFault_residue]
    case kept => rw [hbolt, hold, earlierFault_later hother, ← hold]

end Sys2Proof.Machine
end

section
/-!
The grid settings (R116, R117, R142): APPLY makes the staged settings pending or puts them into effect, the switch writes the ACT_ registers,
and CLR_COUNTS clears the counts of the bolts but RUN.
-/

namespace Sys2Proof.Machine

/-! Registers written one after another. -/

def State.setRegs (s : State) (l : List (Nat × Word)) : State := l.foldl (fun s e => s.setReg e.1 e.2) s

theorem State.reg_setRegs_other (l : List (Nat × Word)) : ∀ {s : State} {a : Nat}, a ∉ l.map Prod.fst → (s.setRegs l).reg a = s.reg a := by
  induction l with
  | nil => exact fun _ => rfl
  | cons e l ih =>
    intro s a ha
    rw [List.map_cons, List.mem_cons, not_or] at ha
    exact (ih ha.2).trans (State.reg_setReg_other s e.2 ha.1)

/-- Each register of the list holds its word, where no register is listed twice. -/
theorem State.reg_setRegs (l : List (Nat × Word)) (hnodup : (l.map Prod.fst).Nodup) :
    ∀ {s : State}, s.Canonical → ∀ e ∈ l, (s.setRegs l).reg e.1 = e.2 := by
  induction l with
  | nil => exact fun _ e he => absurd he List.not_mem_nil
  | cons x l ih =>
    intro s hc e he
    rw [List.map_cons, List.nodup_cons] at hnodup
    rcases List.mem_cons.mp he with rfl | he
    · exact (State.reg_setRegs_other l hnodup.1).trans ((State.reg_setReg hc _ _ _).trans (if_pos rfl))
    · exact ih hnodup.2 (hc.setReg x.1 x.2) e he

/-! The switch. -/

/-- What the ACT_ registers take of a set of settings (Table 5-6). -/
def actSettings (set : List Nat) : List (Nat × Word) :=
  let w (k : Nat) : Word := BitVec.ofNat 32 (set.getD k 0)
  [(rActPeriod, w 0), (rActGuard, w 1), (rActDrainMax, w 2), (rActMinWindow, w 3), (rActLimit, w 4),
    (rActOriginLo, loHalf (set.getD 5 0)), (rActOriginHi, hiHalf (set.getD 5 0))]

/-- The settings are active and their grid starts at `first`, before the event is raised. -/
def State.settingsActive (s : State) (set : List Nat) (first : Nat) : State :=
  { s.setRegs (actSettings set) with pick := { s.pick with pending := none, first := first } }

theorem State.switchTo_eq (s : State) (set : List Nat) :
    let first := gridAtOrAfter (set.getD 5 0) (set.getD 0 0) (s.now + set.getD 1 0 + 200)
    s.switchTo set = (s.settingsActive set first).pickEvent 5 (first % 2 ^ 32) := rfl

/-- The ACT_ registers after a switch. -/
theorem State.switchTo_act {s : State} (hc : s.Canonical) (set : List Nat) : ∀ e ∈ actSettings set, (s.switchTo set).reg e.1 = e.2 := by
  have hkeys : (actSettings set).map Prod.fst = (actSettings []).map Prod.fst := rfl
  have hnodup : ((actSettings []).map Prod.fst).Nodup := by decide
  have happart : ∀ a ∈ (actSettings []).map Prod.fst, a ∉ eventRegisters ⟨.pick, 0⟩ := by decide
  intro e he
  rw [State.switchTo_eq, State.pickEvent, State.raise_reg _ _ _ _ (happart e.1 (hkeys ▸ List.mem_map_of_mem he))]
  exact State.reg_setRegs _ (hkeys ▸ hnodup) hc e he

theorem State.switchTo_pick (s : State) (set : List Nat) : (s.switchTo set).pick =
    { s.pick with pending := none, first := gridAtOrAfter (set.getD 5 0) (set.getD 0 0) (s.now + set.getD 1 0 + 200) } := by
  rw [State.switchTo_eq, State.pickEvent, State.raise_frame]
  rfl

theorem fieldOf_ofNat {n hi : Nat} (hn : n < 2 ^ (hi + 1)) (hhi : hi < 32) : fieldOf (BitVec.ofNat 32 n) hi 0 = n := by
  have hword : n < 2 ^ 32 := Nat.lt_of_lt_of_le hn (Nat.pow_le_pow_right (by decide) hhi)
  rw [fieldOf, BitVec.toNat_ofNat, Nat.mod_eq_of_lt hword, Nat.shiftRight_zero]
  exact Nat.mod_eq_of_lt hn

theorem halves_toNat {n : Nat} (hn : n < 2 ^ 64) : (loHalf n).toNat + 2 ^ 32 * (hiHalf n).toNat = n := by
  simp only [loHalf, hiHalf, BitVec.toNat_ofNat]
  omega

/-- What the ACT_ registers show after the switch, and where the new grid starts. -/
theorem State.switchTo_shown {s : State} (hc : s.Canonical) {period guard drain window limit origin : Nat} (hperiod : period < 2 ^ 32)
    (hguard : guard < 2 ^ 24) (hdrain : drain < 2 ^ 24) (hwindow : window < 2 ^ 24) (hlimit : limit < 16) (horigin : origin < 2 ^ 64) :
    let t := s.switchTo [period, guard, drain, window, limit, origin]
    t.actPeriod = period ∧ t.actGuard = guard ∧ t.actDrainMax = drain ∧ t.actMinWindow = window ∧ t.actLimit = limit ∧
      t.actOrigin = origin ∧ t.pick.pending = none ∧ t.pick.first = gridAtOrAfter origin period (s.now + guard + 200) := by
  intro t
  have hact := State.switchTo_act hc [period, guard, drain, window, limit, origin]
  simp only [actSettings, List.forall_mem_cons, List.getD_cons_zero, List.getD_cons_succ] at hact
  obtain ⟨hactPeriod, hactGuard, hactDrain, hactWindow, hactLimit, hactLo, hactHi, -⟩ := hact
  have hpick := s.switchTo_pick [period, guard, drain, window, limit, origin]
  refine ⟨?_, ?_, ?_, ?_, ?_, ?_, congrArg PickState.pending hpick, congrArg PickState.first hpick⟩
  · rw [State.actPeriod, hactPeriod, BitVec.toNat_ofNat, Nat.mod_eq_of_lt hperiod]
  · rw [State.actGuard, State.fld, hactGuard, fieldOf_ofNat hguard (by decide)]
  · rw [State.actDrainMax, State.fld, hactDrain, fieldOf_ofNat hdrain (by decide)]
  · rw [State.actMinWindow, State.fld, hactWindow, fieldOf_ofNat hwindow (by decide)]
  · rw [State.actLimit, State.fld, hactLimit, fieldOf_ofNat hlimit (by decide)]
  · rw [State.actOrigin, State.pair, hactLo, hactHi, halves_toNat horigin]

/-- A bolt whose RUN has reached the limit in force (R130). -/
def State.overrunDue (s : State) (b : Nat) : Bool :=
  s.committed b && decide ((s.bolt b).stage = .overrun ∧ s.actLimit ≤ s.fld (rBoltStat b) 3 0)

theorem appliedOp_taken {t g : Nat} {set : List Nat} {s : State} (hpending : s.pick.pending = some set) (hreleased : s.pick.released = true)
    (hlast : s.pick.last = some g) (hreached : s.pick.g ≤ g) (ht : s.now ≤ t)
    (hfree : ∀ b ∈ allBolts, s.committed b = true → (s.bolt b).grid = s.pick.g →
      (s.bolt b).gateHeld = false ∧ (s.bolt b).stage ≠ .rollback ∧ (s.bolt b).stage ≠ .recovery) :
    appliedOp t s = allBolts.foldl (fun u b => if u.overrunDue b then u.overrunHalt b else u) (({ s with now := t } : State).switchTo set) := by
  rw [appliedOp, hpending, hlast, ← at_eq ht]
  refine if_pos ?_
  dsimp only
  rw [hreleased, decide_eq_true hreached, decide_eq_true ht, Bool.and_true, Bool.true_and, Bool.true_and, Bool.not_eq_true',
    List.any_eq_false]
  intro b hb hbusy
  simp only [Bool.and_eq_true, Bool.or_eq_true, decide_eq_true_eq] at hbusy
  obtain ⟨⟨hcommitted, hgrid⟩, hbusy⟩ := hbusy
  obtain ⟨hgate, hrollback, hrecovery⟩ := hfree b hb hcommitted hgrid
  rcases hbusy with hheld | hback | hrecovers
  · exact Bool.false_ne_true (hgate.symm.trans hheld)
  · exact hrollback hback
  · exact hrecovery hrecovers

/-! APPLY. -/

theorem pickApplyOp_unreleased {s : State} (h : s.pick.released = false) : pickApplyOp s = s.switchTo s.staged_ := by
  rw [pickApplyOp, h]
  rfl

/-- An APPLY after release replaces what is pending, and sets the point only where nothing was. -/
theorem pickApplyOp_released {s : State} (h : s.pick.released = true) : ∃ g,
    pickApplyOp s = { s with pick := { s.pick with pending := some s.staged_, g := g } } ∧
    (∀ set, s.pick.pending = some set → g = s.pick.g) ∧ (s.pick.pending = none → g = s.gridFrom s.now) := by
  rw [pickApplyOp, h]
  cases hp : s.pick.pending with
  | none => exact ⟨s.gridFrom s.now, rfl, (fun _ h => nomatch h), fun _ => rfl⟩
  | some set => exact ⟨s.pick.g, rfl, fun _ _ => rfl, (fun h => nomatch h)⟩

/-! CLR_COUNTS. -/

theorem pickClearOp_frame (s : State) : pickClearOp s = { s with regs := (pickClearOp s).regs } :=
  foldl_related (R := fun s t => t = { s with regs := t.regs }) (fun h k => by rw [k, h]) (fun _ _ => rfl) allBolts rfl

/-- No register below the status registers of the bolts changes. -/
theorem pickClearOp_reg (s : State) {a : Nat} (ha : a < 0x4100) : (pickClearOp s).reg a = s.reg a := by
  have step (s : State) (b : Nat) : (s.setFld (rBoltStat b) 31 4 0).reg a = s.reg a :=
    State.reg_setFld_other s _ _ _ (by unfold rBoltStat; omega)
  exact foldl_related (R := fun s t => t.reg a = s.reg a) (fun h k => k.trans h) step allBolts rfl

theorem pickClearOp_counts {s : State} (hc : s.Canonical) : ∀ b ∈ allBolts, (pickClearOp s).fld (rBoltStat b) 31 4 = 0 := by
  have here (s : State) (a : Nat) (hc : s.Canonical) : (s.setFld (rBoltStat a) 31 4 0).fld (rBoltStat a) 31 4 = 0 :=
    (State.fld_setFld hc _ _ _ _ (by decide) (by decide)).trans (Nat.zero_mod _)
  refine fun b hb => foldl_establishes (P := fun s b => s.fld (rBoltStat b) 31 4 = 0) (fun s a hc => hc.setReg _ _) here ?_ allBolts hc b (.inl hb)
  intro s a b hc hb
  by_cases hab : a = b
  · exact hab ▸ here s a hc
  · exact (State.fld_setFld_apart hc 0 (by decide) (.inl (fun h => hab (by unfold rBoltStat at h; omega)))).trans hb

theorem pickClearOp_run {s : State} (hc : s.Canonical) (b : Nat) : (pickClearOp s).fld (rBoltStat b) 3 0 = s.fld (rBoltStat b) 3 0 :=
  (foldl_related (R := fun s t => s.Canonical → t.Canonical ∧ t.fld (rBoltStat b) 3 0 = s.fld (rBoltStat b) 3 0)
    (fun h k hc => ⟨(k (h hc).1).1, (k (h hc).1).2.trans (h hc).2⟩)
    (fun _ _ hc => ⟨hc.setReg _ _, State.fld_setFld_apart hc 0 (by decide) (.inr (.inl (by decide)))⟩) allBolts
    (fun hc => ⟨hc, rfl⟩) hc).2

/-! PICK_CMD. -/

/-- The registers of the staged and of the active settings (Table 5-6). -/
def SettingsKept (s t : State) : Prop := ∀ a, (0x4040 ≤ a ∧ a < 0x405C) ∨ (0x4060 ≤ a ∧ a < 0x407C) → t.reg a = s.reg a

theorem SettingsKept.staged {s t : State} (h : SettingsKept s t) : t.staged_ = s.staged_ := by
  simp only [State.staged_, State.fld, State.pair, h 0x4040 (by decide), h 0x4044 (by decide), h 0x4048 (by decide), h 0x404C (by decide),
    h 0x4050 (by decide), h 0x4054 (by decide), h 0x4058 (by decide)]

theorem SettingsKept.gridFrom {s t : State} (h : SettingsKept s t) (hpick : t.pick = s.pick) (n : Nat) : t.gridFrom n = s.gridFrom n := by
  simp only [State.gridFrom, State.actOrigin, State.actPeriod, State.pair, hpick, h rActPeriod (by decide), h rActOriginLo (by decide),
    h rActOriginHi (by decide)]

/-- PICK_CMD is recorded, and CLR_COUNTS takes effect where it is given, before APPLY. -/
def State.pickCommanded (s : State) (m : Nat) (v : Word) : State :=
  let u := s.recorded m ⟨.pick, 0⟩ 0x05C v
  if bitOf v 1 then pickClearOp u else u

section

variable {m : Nat} {v : Word} {s : State}

theorem pickCommand_access (ha : s.Accepts m ⟨.pick, 0⟩ 0x05C v) : access (busWrite m (regAddr .pick 0 0x05C) 15 v) s =
    (if bitOf v 0 then pickApplyOp (s.pickCommanded m v) else s.pickCommanded m v).done m ⟨.pick, 0⟩ 0x05C := by
  have effect (old : Word) (u : State) : State.effectAt m ⟨.pick, 0⟩ 0x05C old v u =
      if bitOf v 0 then pickApplyOp (if bitOf v 1 then pickClearOp u else u) else if bitOf v 1 then pickClearOp u else u := rfl
  have written := access_write ha (by decide) (by decide) (by decide) rfl (by decide) rfl
  rwa [effect] at written

theorem recorded_pickCommand_frame : s.recorded m ⟨.pick, 0⟩ 0x05C v =
    { s with regs := (s.recorded m ⟨.pick, 0⟩ 0x05C v).regs, ev := (s.recorded m ⟨.pick, 0⟩ 0x05C v).ev
             log := (s.recorded m ⟨.pick, 0⟩ 0x05C v).log, resp := {} } :=
  recorded_frame (fun h => by cases h) rfl

theorem pickCommanded_frame : s.pickCommanded m v =
    { s with regs := (s.pickCommanded m v).regs, ev := (s.pickCommanded m v).ev, log := (s.pickCommanded m v).log, resp := {} } := by
  rw [State.pickCommanded]
  split
  · rw [pickClearOp_frame, recorded_pickCommand_frame]
  · exact recorded_pickCommand_frame

theorem recorded_pickCommand_reg (hc : s.Canonical) {a : Nat} (hpage : 0x4040 ≤ a ∧ a < 0x4140) (hother : a ≠ 0x405C) :
    (s.recorded m ⟨.pick, 0⟩ 0x05C v).reg a = s.reg a := by
  have hlog : regAddr .log 0 0x014 ≥ 0x4140 := by decide
  have hevent : regAddr .event 0 0x048 ≥ 0x4140 := by decide
  have hbase : Page.base ⟨.pick, 0⟩ = 0x4000 := rfl
  exact (recorded_regs hc (fun h => by cases h) (by decide) rfl (by decide) (by decide)).2 a (by omega) (by omega) (by omega) (by omega)

theorem pickCommanded_settings (hc : s.Canonical) : SettingsKept s (s.pickCommanded m v) := by
  intro a ha
  have hrecorded := recorded_pickCommand_reg (m := m) (v := v) hc (a := a) (by omega) (by omega)
  rw [State.pickCommanded]
  split
  · exact (pickClearOp_reg _ (by omega)).trans hrecorded
  · exact hrecorded

end

/-- What an accepted write leaves alone when its effect is one on registers and on the grid. -/
theorem State.done_frame_pick {s u : State} (m : Nat) (p : Page) (off : Nat)
    (h : u = { s with regs := u.regs, ev := u.ev, log := u.log, pick := u.pick, resp := {} }) :
    let t := u.done m p off
    t = { s with regs := t.regs, ev := t.ev, log := t.log, pick := t.pick, resp := t.resp, jtag := { s.jtag with out := t.jtag.out } } := by
  have hpick : (u.done m p off).pick = u.pick := by rw [State.done, State.heard_frame]; rfl
  dsimp only
  rw [hpick]
  exact State.done_frame (s := { s with pick := u.pick }) m p off h

theorem pickApply_released (m : Master) (v : Word) (s : State) (hc : s.Canonical) (ha : s.Accepts m.id ⟨.pick, 0⟩ 0x05C v)
    (happly : bitOf v 0 = true) (hreleased : s.pick.released = true) :
    ∃ t, exec (.pickApply m v) s = .next t ∧ t.pick.pending = some s.staged_ ∧ t.resp.code = 0 ∧
      (∀ set, s.pick.pending = some set → t.pick.g = s.pick.g) ∧ (s.pick.pending = none → t.pick.g = s.gridFrom s.now) ∧
      t = { s with regs := t.regs, ev := t.ev, log := t.log, pick := t.pick, resp := t.resp, jtag := { s.jtag with out := t.jtag.out } } := by
  let w := s.pickCommanded m.id v
  have hframe : w = { s with regs := w.regs, ev := w.ev, log := w.log, resp := {} } := pickCommanded_frame
  have hpick : w.pick = s.pick := (congrArg State.pick hframe).trans rfl
  have hnow : w.now = s.now := (congrArg State.now hframe).trans rfl
  have hsettings : SettingsKept s w := pickCommanded_settings hc
  obtain ⟨g, hop, hkept, hfirst⟩ := pickApplyOp_released (s := w) (hpick ▸ hreleased)
  rw [hpick] at hkept hfirst
  have hdone : ((pickApplyOp w).done m.id ⟨.pick, 0⟩ 0x05C).pick = { s.pick with pending := some s.staged_, g := g } := by
    rw [State.done, State.heard_frame, hop, hpick, hsettings.staged]
    rfl
  refine ⟨_, congrArg Host.Outcome.next ((pickCommand_access ha).trans (by rw [if_pos happly])), congrArg PickState.pending hdone,
    State.done_code _ _ _ _, fun set hp => (congrArg PickState.g hdone).trans (hkept set hp), fun hp => ?_, State.done_frame_pick _ _ _ ?_⟩
  · rw [hdone, hfirst hp, hsettings.gridFrom hpick, hnow]
  · rw [hop, hframe]

theorem pickClrCounts_next (m : Master) (v : Word) (s : State) (hc : s.Canonical) (ha : s.Accepts m.id ⟨.pick, 0⟩ 0x05C v)
    (happly : bitOf v 0 = false) (hclear : bitOf v 1 = true) :
    ∃ t, exec (.pickClrCounts m v) s = .next t ∧ (∀ b ∈ allBolts, t.fld (rBoltStat b) 31 4 = 0) ∧
      (∀ b ∈ allBolts, t.fld (rBoltStat b) 3 0 = s.fld (rBoltStat b) 3 0) ∧ t.resp.code = 0 ∧
      t = { s with regs := t.regs, ev := t.ev, log := t.log, resp := t.resp, jtag := { s.jtag with out := t.jtag.out } } := by
  have hrecorded : (s.recorded m.id ⟨.pick, 0⟩ 0x05C v).Canonical := hc.recorded (fun h => by cases h)
  have hw : s.pickCommanded m.id v = pickClearOp (s.recorded m.id ⟨.pick, 0⟩ 0x05C v) := if_pos hclear
  have hfld (u : State) (a hi lo : Nat) : (u.done m.id ⟨.pick, 0⟩ 0x05C).fld a hi lo = u.fld a hi lo :=
    congrArg (fun w => fieldOf w hi lo) (State.done_reg _ _ _ _ _)
  refine ⟨_, congrArg Host.Outcome.next ((pickCommand_access ha).trans (by rw [if_neg (Bool.eq_false_iff.mp happly)])),
    fun b hb => ?zero, fun b hb => ?run, State.done_code _ _ _ _, State.done_frame _ _ _ pickCommanded_frame⟩
  case zero => rw [hfld, hw, pickClearOp_counts hrecorded b hb]
  case run =>
    have hbolt : b < 16 := List.mem_range.mp hb
    have hkept := recorded_pickCommand_reg (m := m.id) (v := v) hc (a := rBoltStat b) (by unfold rBoltStat; omega) (by unfold rBoltStat; omega)
    rw [hfld, hw, pickClearOp_run hrecorded, State.fld, hkept]
    rfl

/-- Settles O13: an accepted APPLY by the release, the switch by the registers it writes, and CLR_COUNTS by the fields it clears. -/
theorem pickSettingsComplete : Obligations.PickSettingsComplete := by
  refine ⟨⟨fun t set g s hpending hreleased hlast hreached ht hfree => ?switch, fun _ _ _ _ _ _ s hc => State.switchTo_shown hc⟩,
    fun m v s hc => ?command⟩
  case switch => exact congrArg (fun x : State => Host.Outcome.next x.afterBolts) (appliedOp_taken hpending hreleased hlast hreached ht hfree)
  case command =>
    intro p u w ha
    have haccess := pickCommand_access ha
    refine ⟨fun happly hunreleased => ?before, fun happly hreleased => ?after, pickClrCounts_next m v s hc ha⟩
    case before =>
      have hpick : (s.pickCommanded m.id v).pick.released = false :=
        (congrArg (fun x : State => x.pick.released) pickCommanded_frame).trans hunreleased
      rw [if_pos happly, pickApplyOp_unreleased hpick] at haccess
      exact congrArg Host.Outcome.next haccess
    case after =>
      obtain ⟨t, hexec, hstaged, hcode, hkept, hfirst, hframe⟩ := pickApply_released m v s hc ha happly hreleased
      refine ⟨t, hexec, hstaged, hcode, ?_, hframe⟩
      cases hp : s.pick.pending with
      | none => exact hfirst hp
      | some set => exact hkept set hp

end Sys2Proof.Machine
end

section
/-!
Changeovers of pins (R135, R353, R361, R362): a pin that is mapped anew leaves its source at once and takes the new one later, and what its
level feeds follows it. What the receiver of a pad shows comes by PIN_FILTER_PASS (log entries 20 and 81), and a port newly picked goes on
presenting the level it had (log entry 85).
-/

namespace Sys2Proof.Machine

/-! Input ports. -/

theorem State.refreshPort_frame (s : State) (n : Nat) : s.refreshPort n = { s with portIn := (s.refreshPort n).portIn } := by
  unfold State.refreshPort
  split <;> rfl

theorem State.refreshCode_frame (s : State) (code : Nat) : s.refreshCode code = { s with portIn := (s.refreshCode code).portIn } := by
  unfold State.refreshCode
  split
  · exact s.refreshPort_frame (code - 1)
  · rfl

theorem State.pinEvent_frame (s : State) (p j : Nat) : s.pinEvent p j = { s with regs := (s.pinEvent p j).regs, ev := (s.pinEvent p j).ev } :=
  State.raise_frame _ _ _ _

theorem State.pinEvent_pins (s : State) (p j : Nat) : (s.pinEvent p j).pins = s.pins := by rw [State.pinEvent_frame]

/-- Levels have moved on: those that input ports present, and what settles after them. -/
structure PortsFollow (s t : State) : Prop where
  rest : t = { s with portIn := t.portIn, cells := t.cells, joins := t.joins, bridges := t.bridges, fbps := t.fbps, creels := t.creels,
                      twills := t.twills }
  cells : ∀ a c, t.cell a c = { s.cell a c with armed := (t.cell a c).armed }

theorem PortsFollow.refl (s : State) : PortsFollow s s := ⟨rfl, fun _ _ => rfl⟩

theorem PortsFollow.trans {s t u : State} (h : PortsFollow s t) (k : PortsFollow t u) : PortsFollow s u :=
  ⟨by rw [k.rest, h.rest], fun a c => by rw [k.cells a c, h.cells a c]⟩

theorem PortsFollow.keeps {s t : State} (h : PortsFollow s t) : t.pins = s.pins ∧ t.regs = s.regs ∧ t.bolts = s.bolts ∧
    t.pickedIn = s.pickedIn ∧ t.portSample = s.portSample := by
  rw [h.rest]
  exact ⟨rfl, rfl, rfl, rfl, rfl⟩

theorem State.refreshCode_portsFollow (s : State) (code : Nat) : PortsFollow s (s.refreshCode code) := by
  rw [State.refreshCode_frame]
  exact ⟨rfl, fun _ _ => rfl⟩

theorem State.refreshPins_portsFollow (s : State) (ps : List Nat) : PortsFollow s (s.refreshPins ps) := by
  rw [State.refreshPins]
  exact foldl_related (R := PortsFollow) PortsFollow.trans (fun t p => t.refreshCode_portsFollow (t.inSelReg p)) ps (PortsFollow.refl s)

theorem State.settle_portsFollow {s : State} (hc : s.Canonical) : PortsFollow s s.settle := by
  refine ⟨?_, settle_cell hc⟩
  rw [State.settle_frame]

/-! A pin that leaves its source. -/

/-- The pin is in changeover: connected to no source, with the level that a KEEP holds (R361, R364). -/
def State.pinLeaves (s : State) (p : Nat) : State :=
  s.setPin p { s.pin p with chg := some s.now, waiting := false, kept := s.pinLevel p, outSel := 0 }

/-- The port that the pin newly picks goes on presenting the level that it has (R135). -/
def State.portPicked (s : State) (p : Nat) : State :=
  if s.pickedReg p && isPort (s.inSelReg p) && decide (s.inSelReg p - 1 ∉ s.pickedIn) then
    { s with
      pickedIn := s.pickedIn ++ [s.inSelReg p - 1]
      portSample := SMap.set false s.portSample (s.inSelReg p - 1) (SMap.get false s.portIn (s.inSelReg p - 1)) }
  else s

theorem State.portPicked_keeps (s : State) (p : Nat) :
    (s.portPicked p).pins = s.pins ∧ (s.portPicked p).bolts = s.bolts ∧ (s.portPicked p).cells = s.cells := by
  unfold State.portPicked
  split <;> exact ⟨rfl, rfl, rfl⟩

theorem State.portPicked_port {s : State} (hc : s.Canonical) {p : Nat} (hpicked : s.pickedReg p = true) (hport : isPort (s.inSelReg p) = true) :
    s.inSelReg p - 1 ∈ (s.portPicked p).pickedIn ∧ (s.inSelReg p - 1 ∉ s.pickedIn →
      SMap.get false (s.portPicked p).portSample (s.inSelReg p - 1) = SMap.get false s.portIn (s.inSelReg p - 1)) := by
  by_cases hnamed : s.inSelReg p - 1 ∈ s.pickedIn
  · refine ⟨?_, fun hnew => absurd hnamed hnew⟩
    unfold State.portPicked
    split
    · exact List.mem_append_left _ hnamed
    · exact hnamed
  · have hnew : (s.pickedReg p && isPort (s.inSelReg p) && decide (s.inSelReg p - 1 ∉ s.pickedIn)) = true := by
      rw [hpicked, hport, decide_eq_true hnamed]
      rfl
    rw [State.portPicked, if_pos hnew]
    exact ⟨List.mem_append_right _ (List.mem_singleton_self _), fun _ => SMap.get_set_same _ _ _ _ (SMap.wf_sorted hc.portSample)⟩

theorem State.pinLeaves_canonical {s : State} (hc : s.Canonical) (p : Nat) : (s.pinLeaves p).Canonical := hc.setPin _ _

theorem State.portPicked_canonical {s : State} (hc : s.Canonical) (p : Nat) : (s.portPicked p).Canonical := by
  unfold State.portPicked
  split
  · exact { hc with portSample := SMap.wf_set hc.portSample }
  · exact hc

/-- The port of a pin that has left its source, in terms of the state before. -/
theorem State.pinLeaves_port {s : State} (hc : s.Canonical) {p : Nat} (hpicked : s.pickedReg p = true) (hport : isPort (s.inSelReg p) = true) :
    let v := (s.pinLeaves p).portPicked p
    s.inSelReg p - 1 ∈ v.pickedIn ∧ (s.inSelReg p - 1 ∉ s.pickedIn →
      SMap.get false v.portSample (s.inSelReg p - 1) = SMap.get false s.portIn (s.inSelReg p - 1)) :=
  State.portPicked_port (State.pinLeaves_canonical hc p) hpicked hport

theorem pinMapWritten_same {p : Nat} {before : Word} {s : State} (h : s.reg (rPinMap p) = before) : pinMapWritten p before s = s := if_pos h

/-- A new mapping: the pin leaves its source, the ports follow, and a conflict is raised where there is one (R356). -/
theorem pinMapWritten_new {p : Nat} {before : Word} {s : State} (hc : s.Canonical) (h : s.reg (rPinMap p) ≠ before) :
    ∃ w, PortsFollow ((s.pinLeaves p).portPicked p) w ∧ (pinMapWritten p before s = w.pinEvent p 0 ∨ pinMapWritten p before s = w) := by
  let v := (s.pinLeaves p).portPicked p
  let w := ((v.refreshCode (fieldOf before 27 16)).refreshCode (s.inSelReg p)).settle
  have hv : v.Canonical := State.portPicked_canonical (State.pinLeaves_canonical hc p) p
  have hrefreshed := (State.refreshCode_follows _ (s.inSelReg p) (State.refreshCode_follows v (fieldOf before 27 16) (Follows.refl v))).memory hv
  have hw : PortsFollow v w := ((v.refreshCode_portsFollow _).trans (State.refreshCode_portsFollow _ _)).trans (State.settle_portsFollow hrefreshed)
  have hwritten : pinMapWritten p before s = if s.inSelReg p ≠ fieldOf before 27 16 ∧ s.inSelReg p ≠ 0 ∧
      2 ≤ (w.namers (bankOfPin p) (s.inSelReg p)).length then w.pinEvent p 0 else w := if_neg h
  refine ⟨w, hw, ?_⟩
  rw [hwritten]
  exact ite_eq_or_eq _ _ _

/-- What a new mapping leaves of pins and picked ports, and that it moves no bolt. -/
theorem pinMapWritten_leaves {p : Nat} {before : Word} {s : State} (hc : s.Canonical) (h : s.reg (rPinMap p) ≠ before) :
    let v := (s.pinLeaves p).portPicked p
    let z := pinMapWritten p before s
    z.pins = (s.pinLeaves p).pins ∧ z.pickedIn = v.pickedIn ∧ z.portSample = v.portSample ∧ z.bolts = s.bolts ∧
      ∀ a c, z.cell a c = { s.cell a c with armed := (z.cell a c).armed } := by
  intro v z
  obtain ⟨w, hw, hraised⟩ : ∃ w, PortsFollow v w ∧ (z = w.pinEvent p 0 ∨ z = w) := pinMapWritten_new hc h
  clear_value z
  have hz : z = { w with regs := z.regs, ev := z.ev } := by
    rcases hraised with rfl | rfl
    · exact w.pinEvent_frame p 0
    · rfl
  obtain ⟨hpins, -, hbolts, hpicked, hsample⟩ := hw.keeps
  obtain ⟨hpinsOld, hboltsOld, hcellsOld⟩ := State.portPicked_keeps (s.pinLeaves p) p
  have hcells (a c : Nat) : z.cell a c = w.cell a c := (congrArg (fun x : State => x.cell a c) hz).trans rfl
  have hold (a c : Nat) : v.cell a c = s.cell a c := congrArg (fun cells => SMap.get ({} : Cell) cells (16 * a + c)) hcellsOld
  refine ⟨?_, ?_, ?_, ?_, fun a c => ?_⟩
  · exact (congrArg State.pins hz).trans (hpins.trans hpinsOld)
  · exact (congrArg State.pickedIn hz).trans hpicked
  · exact (congrArg State.portSample hz).trans hsample
  · exact (congrArg State.bolts hz).trans (hbolts.trans hboltsOld)
  · rw [hcells, ← hold]
    exact hw.cells a c

theorem State.padAsleep_of_changing {s : State} {p t : Nat} (h : (s.pin p).chg = some t) : s.padAsleep p = true := by
  simp only [State.padAsleep, h, Option.isSome_some, Bool.or_true, Bool.true_or]

/-! PIN_MAP on the bus. -/

theorem view_pinMap (s : State) (m k : Nat) {off : Nat} (h : 0x100 ≤ off) : s.view m ⟨.pinmap, k⟩ off = s.reg (Page.base ⟨.pinmap, k⟩ + off) := by
  have hcount : (if k = 7 then 2 else 4) ≤ 4 := by split <;> omega
  have hview : s.pinmapView k off = none := by
    simp only [State.pinmapView]
    rw [if_neg (by omega), if_neg (by omega), if_neg (by omega)]
  exact congrArg (fun o => o.getD (s.reg (Page.base ⟨.pinmap, k⟩ + off))) hview

theorem pinWritten_map (p : Fin 960) (old : Word) (s : State) :
    pinWritten ⟨.pinmap, p / 128⟩ (0x100 + 8 * (p.val % 128)) old s = pinMapWritten p old s := by
  have hpin : mapPin ⟨.pinmap, p / 128⟩ (0x100 + 8 * (p.val % 128)) = p := by
    simp only [mapPin]
    omega
  rw [pinWritten, if_neg (by omega), hpin]
  exact if_pos (by omega)

section

variable {m : Nat} {p : Fin 960} {v : Word} {s : State}

theorem pinMap_access (ha : s.Accepts m ⟨.pinmap, p / 128⟩ (0x100 + 8 * (p.val % 128)) v) :
    access (busWrite m (rPinMap p) 15 v) s =
      (pinMapWritten p (s.reg (rPinMap p)) (s.recorded m ⟨.pinmap, p / 128⟩ (0x100 + 8 * (p.val % 128)) v)).done m ⟨.pinmap, p / 128⟩
        (0x100 + 8 * (p.val % 128)) := by
  have hpage : p.val / 128 < 8 := by omega
  have hbegun := recorded_begun (s := s) (p := ⟨.pinmap, p / 128⟩) (off := 0x100 + 8 * (p.val % 128)) (fun h => by cases h)
  have written := access_write ha hpage (by omega) (by omega) rfl (fun h => by cases h.1) rfl
  rw [hbegun, view_pinMap _ _ _ (by omega)] at written
  exact written.trans (by rw [← pinWritten_map]; rfl)

theorem recorded_pinMap_frame : s.recorded m ⟨.pinmap, p / 128⟩ (0x100 + 8 * (p.val % 128)) v =
    { s with regs := (s.recorded m ⟨.pinmap, p / 128⟩ (0x100 + 8 * (p.val % 128)) v).regs
             ev := (s.recorded m ⟨.pinmap, p / 128⟩ (0x100 + 8 * (p.val % 128)) v).ev
             log := (s.recorded m ⟨.pinmap, p / 128⟩ (0x100 + 8 * (p.val % 128)) v).log, resp := {} } :=
  recorded_frame (fun h => by cases h) rfl

end

/-- CHANGEOVER: a write that does not change the mapping does nothing more. -/
theorem changeover_next (m : Master) (p : Fin 960) (v : Word) (t : Nat) (s : State) (hc : s.Canonical) (ht : s.now ≤ t) :
    let page : Page := ⟨.pinmap, p / 128⟩
    let off := 0x100 + 8 * (p.val % 128)
    let u : State := { s with now := t }
    u.Accepts m.id page off v →
    let r := u.recorded m.id page off v
    let port := r.inSelReg p - 1
    ∃ z : State, exec (.changeover m p v t) s = .next (z.done m.id page off) ∧
      (r.reg (rPinMap p) = s.reg (rPinMap p) → z = r) ∧
      (r.reg (rPinMap p) ≠ s.reg (rPinMap p) →
        z.pin p = { s.pin p with chg := some t, waiting := false, kept := r.pinLevel p, outSel := 0 } ∧ z.padAsleep p = true ∧
        (r.pickedReg p = true → isPort (r.inSelReg p) = true → port ∈ z.pickedIn ∧
          (port ∉ s.pickedIn → SMap.get false z.portSample port = SMap.get false s.portIn port)) ∧
        z.bolts = s.bolts ∧ ∀ a c, z.cell a c = { s.cell a c with armed := (z.cell a c).armed }) := by
  intro page off u ha r port
  have hframe : r = { u with regs := r.regs, ev := r.ev, log := r.log, resp := {} } := recorded_pinMap_frame
  have hu : u.Canonical := { hc with }
  have hr : r.Canonical := hu.recorded (fun h => by cases h)
  have hexec : exec (.changeover m p v t) s = .next ((pinMapWritten p (s.reg (rPinMap p)) r).done m.id page off) := by
    refine congrArg Host.Outcome.next ?_
    rw [at_eq ht]
    exact pinMap_access ha
  refine ⟨_, hexec, pinMapWritten_same, fun hnew => ?_⟩
  obtain ⟨hpins, hpicked, hsample, hbolts, hcells⟩ := pinMapWritten_leaves hr hnew
  have hpin : (pinMapWritten p (s.reg (rPinMap p)) r).pin p =
      { s.pin p with chg := some t, waiting := false, kept := r.pinLevel p, outSel := 0 } := by
    have hself := (State.pin_setPin hr p p { r.pin p with chg := some r.now, waiting := false, kept := r.pinLevel p, outSel := 0 }).trans
      (if_pos rfl)
    have hold : r.pin p = s.pin p := (congrArg (fun x : State => x.pin p) hframe).trans rfl
    have hnow : r.now = t := (congrArg State.now hframe).trans rfl
    rw [hold, hnow] at hself
    rw [State.pin, hpins, State.pinLeaves, hold, hnow]
    exact hself
  refine ⟨hpin, State.padAsleep_of_changing (congrArg Pin.chg hpin), fun hpick hport => ?_, ?_, fun a c => ?_⟩
  · rw [hpicked, hsample]
    have hin : r.portIn = s.portIn := (congrArg State.portIn hframe).trans rfl
    have hlist : r.pickedIn = s.pickedIn := (congrArg State.pickedIn hframe).trans rfl
    rw [← hin, ← hlist]
    exact State.pinLeaves_port hr hpick hport
  · exact hbolts.trans ((congrArg State.bolts hframe).trans rfl)
  · have hcell : r.cell a c = s.cell a c := (congrArg (fun x : State => x.cell a c) hframe).trans rfl
    rw [← hcell]
    exact hcells a c

/-! The new source. -/

/-- Table 13-7, step 3, of a changeover that does not wait for a commit point yet. -/
theorem changeoverEnd_due {p t t0 : Nat} {s : State} (hchanging : (s.pin p).chg = some t0) (hwaiting : (s.pin p).waiting = false)
    (hdue : t0 + 80 ≤ t) : changeoverEnd p t s =
      if s.pickedReg p && isPort (s.outSelReg p) then s.setPin p { s.pin p with waiting := true } else s.connectPin p := by
  have hnow : ¬ (t < t0 + changeoverMin ∨ (s.pin p).waiting = true) := by
    rintro (hearly | hwaits)
    · exact absurd hdue (Nat.not_le.mpr hearly)
    · exact Bool.false_ne_true (hwaiting.symm.trans hwaits)
  rw [changeoverEnd]
  dsimp only
  split
  case h_1 hnone => exact absurd (hchanging.symm.trans hnone) (Option.some_ne_none t0)
  case h_2 since hsince =>
    obtain rfl : t0 = since := Option.some.inj (hchanging.symm.trans hsince)
    exact if_neg hnow

/-- The pin follows the mapping that PIN_MAP holds. -/
theorem connectPin_pin {s : State} (hc : s.Canonical) (p : Nat) : (s.connectPin p).pin p =
    { s.pin p with chg := none, waiting := false, outSel := s.outSelReg p, inSel := s.inSelReg p, picked := s.pickedReg p } := by
  let v := s.setPin p { s.pin p with chg := none, waiting := false, outSel := s.outSelReg p, inSel := s.inSelReg p, picked := s.pickedReg p }
  let w := (v.refreshCode (s.inSelReg p)).settle
  have hv : v.Canonical := hc.setPin _ _
  have hw : PortsFollow v w :=
    (v.refreshCode_portsFollow _).trans (State.settle_portsFollow ((State.refreshCode_follows v (s.inSelReg p) (Follows.refl v)).memory hv))
  have hpins : (w.pinEvent p 1).pins = v.pins := (w.pinEvent_pins p 1).trans hw.keeps.1
  have hconnect : s.connectPin p = w.pinEvent p 1 := rfl
  rw [hconnect, State.pin, hpins]
  exact (State.pin_setPin hc p p _).trans (if_pos rfl)

/-! FILTER. -/

theorem pinFilterPass_next (p : Fin 960) (level : Bool) (s : State) (hc : s.Canonical) : ∃ t : State, exec (.pinFilterPass p level) s = .next t ∧
    t.pin p = { s.pin p with level := level, filt := level } ∧ (∀ q, q ≠ p.val → t.pin q = s.pin q) ∧ t.regs = s.regs ∧
    t.bolts = s.bolts ∧ ∀ a c, t.cell a c = { s.cell a c with armed := (t.cell a c).armed } := by
  let v := s.setPin p { s.pin p with level := level, filt := level }
  have hv : v.Canonical := hc.setPin _ _
  have ht : PortsFollow v (v.refreshPins [p.val]).settle :=
    (v.refreshPins_portsFollow _).trans (State.settle_portsFollow ((State.refreshPins_follows v [p.val] (Follows.refl v)).memory hv))
  obtain ⟨hpins, hregs, hbolts, -, -⟩ := ht.keeps
  have hpin (q : Nat) : (v.refreshPins [p.val]).settle.pin q = if q = p then { s.pin p with level := level, filt := level } else s.pin q := by
    rw [State.pin, hpins]
    exact State.pin_setPin hc p q _
  exact ⟨_, rfl, (hpin p).trans (if_pos rfl), fun q hq => (hpin q).trans (if_neg hq), hregs, hbolts, ht.cells⟩

end Sys2Proof.Machine
end

section
/-!
Pattern units (R366 to R368, R376): the debounced vector that the mode of a unit evaluates, the record of a match, and the records that
PAT_CMD clears. The vector is formed from PIN_LEVEL once the receivers of the lanes show their levels (log entry 20), and a cleared record
keeps PU_REC_TIME (log entry 81).
-/

namespace Sys2Proof.Machine

/-! The debounced vector. -/

/-- The receivers of the lanes that count show a vector, before the unit takes it. -/
def State.lanesSeen (s : State) (u seen : Nat) : State :=
  ((s.countedLanes u).foldl (fun s l => s.receive (s.lanePin u l) (seen.testBit l)) s).settle

/-- The vector becomes equal to PAT_A (R366). -/
def State.becomesA (x : State) (u : Nat) : Bool :=
  let v := x.pattern u
  let isA := decide (x.laneVector u = x.patA u)
  if v.evaluated then isA && !(v.evaluated && decide (v.v = x.patA u)) else isA

/-- The vector becomes equal to PAT_B. -/
def State.becomesB (x : State) (u : Nat) : Bool :=
  decide (x.laneVector u = x.patB u) && (!(x.pattern u).evaluated || decide ((x.pattern u).v ≠ x.patB u))

/-- When the vector last became equal to PAT_A. -/
def State.markA (x : State) (u : Nat) : Option Nat := if x.becomesA u then some x.now else (x.pattern u).aAt

/-- The vector is a match by the MODE of the unit (R367). -/
def State.modeHits (x : State) (u : Nat) : Bool :=
  let v := x.pattern u
  match x.fld (patBase u) 29 28 with
  | 0 => x.becomesA u
  | 1 => !decide (x.laneVector u = x.patA u) && ((v.evaluated && decide (v.v = x.patA u)) || !v.evaluated)
  | 2 => true
  | _ => x.becomesB u && (match x.markA u with | some t => decide (x.now ≤ t + 40 * x.fld (patBase u + 8) 31 16) | none => false)

/-- The unit has taken the vector, with the time it keeps and the matches that wait. -/
def State.vectorTaken (x : State) (u : Nat) (mark : Option Nat) (hits : List Nat) : State :=
  x.setPattern u { v := x.laneVector u, evaluated := true, aAt := mark, hits := hits }

theorem vectorChange_off {u seen : Nat} {s : State} (h : s.bit (patBase u) 31 = false) : vectorChange u seen s = s := if_pos h

section

variable {u seen : Nat} {s : State} (hon : s.bit (patBase u) 31 = true)

include hon

theorem vectorChange_same (hevaluated : ((s.lanesSeen u seen).pattern u).evaluated = true)
    (hsame : (s.lanesSeen u seen).laneVector u = ((s.lanesSeen u seen).pattern u).v) : vectorChange u seen s = s.lanesSeen u seen := by
  have hrest : ¬ (!((s.lanesSeen u seen).pattern u).evaluated ||
      decide ((s.lanesSeen u seen).laneVector u ≠ ((s.lanesSeen u seen).pattern u).v)) = true := by
    rw [hevaluated, hsame]
    simp only [ne_eq, not_true_eq_false, decide_false, Bool.not_true, Bool.or_self, Bool.false_eq_true, not_false_eq_true]
  exact (if_neg (by rw [hon]; exact Bool.noConfusion)).trans (if_neg hrest)

/-- A vector that changes, or the first one, is taken and evaluated. -/
theorem vectorChange_taken (hnew : ((s.lanesSeen u seen).pattern u).evaluated = true →
    (s.lanesSeen u seen).laneVector u ≠ ((s.lanesSeen u seen).pattern u).v) :
    let x := s.lanesSeen u seen
    vectorChange u seen s =
      x.vectorTaken u (x.markA u) (if x.modeHits u then (x.pattern u).hits ++ [x.laneVector u] else (x.pattern u).hits) := by
  have hchange : (!((s.lanesSeen u seen).pattern u).evaluated ||
      decide ((s.lanesSeen u seen).laneVector u ≠ ((s.lanesSeen u seen).pattern u).v)) = true := by
    rw [Bool.or_eq_true, Bool.not_eq_true', decide_eq_true_eq]
    cases hevaluated : ((s.lanesSeen u seen).pattern u).evaluated
    · exact .inl rfl
    · exact .inr (hnew hevaluated)
  exact (if_neg (by rw [hon]; exact Bool.noConfusion)).trans (if_pos hchange)

end

section

variable {u : Nat} {x : State} (hnew : (x.pattern u).evaluated = true → x.laneVector u ≠ (x.pattern u).v)

include hnew

theorem becomesA_eq : x.becomesA u = decide (x.laneVector u = x.patA u) := by
  rw [State.becomesA]
  cases hevaluated : (x.pattern u).evaluated
  · rfl
  · by_cases hA : x.laneVector u = x.patA u
    · have hother : (x.pattern u).v ≠ x.patA u := fun h => hnew hevaluated (hA.trans h.symm)
      rw [decide_eq_true hA, decide_eq_false hother]
      rfl
    · rw [decide_eq_false hA]
      rfl

theorem markA_equal (hA : x.laneVector u = x.patA u) : x.markA u = some x.now := by
  rw [State.markA, becomesA_eq hnew, decide_eq_true hA, if_pos rfl]

theorem markA_other (hA : x.laneVector u ≠ x.patA u) : x.markA u = (x.pattern u).aAt := by
  rw [State.markA, becomesA_eq hnew, decide_eq_false hA, if_neg Bool.false_ne_true]

/-- MODE 0: the vector becomes equal to PAT_A. -/
theorem modeHits_becomes (hmode : x.fld (patBase u) 29 28 = 0) : x.modeHits u = decide (x.laneVector u = x.patA u) := by
  rw [State.modeHits, hmode]
  exact becomesA_eq hnew

theorem becomesB_equal (hB : x.laneVector u = x.patB u) : x.becomesB u = true := by
  rw [State.becomesB, decide_eq_true hB, Bool.true_and, Bool.or_eq_true, Bool.not_eq_true', decide_eq_true_eq]
  cases hevaluated : (x.pattern u).evaluated
  · exact .inl rfl
  · exact .inr (fun h => hnew hevaluated (hB.trans h.symm))

/-- MODE 3: the vector becomes equal to PAT_B within the time that WINDOW gives after PAT_A. -/
theorem modeHits_sequence {t0 : Nat} (hmode : x.fld (patBase u) 29 28 = 3) (hmark : x.markA u = some t0) (hB : x.laneVector u = x.patB u) :
    x.modeHits u = decide (x.now ≤ t0 + 40 * x.fld (patBase u + 8) 31 16) := by
  rw [State.modeHits, hmode, hmark]
  exact (congrArg (fun fresh => fresh && decide (x.now ≤ t0 + 40 * x.fld (patBase u + 8) 31 16)) (becomesB_equal hnew hB)).trans (Bool.true_and _)

omit hnew

/-- MODE 1: the vector is no longer equal to PAT_A, or is the first one and is not. -/
theorem modeHits_leaves (hmode : x.fld (patBase u) 29 28 = 1) (hother : x.laneVector u ≠ x.patA u)
    (hwas : (x.pattern u).evaluated = false ∨ (x.pattern u).v = x.patA u) : x.modeHits u = true := by
  have hleft : ((x.pattern u).evaluated && decide ((x.pattern u).v = x.patA u) || !(x.pattern u).evaluated) = true := by
    cases hevaluated : (x.pattern u).evaluated
    · rfl
    · rw [decide_eq_true (hwas.resolve_left (fun h => Bool.false_ne_true (h.symm.trans hevaluated)))]
      rfl
  rw [State.modeHits, hmode, decide_eq_false hother]
  exact hleft

/-- MODE 2: every change is a match. -/
theorem modeHits_change (hmode : x.fld (patBase u) 29 28 = 2) : x.modeHits u = true := by
  rw [State.modeHits, hmode]
  rfl

end

/-! A match. -/

/-- The match in turn has left the queue and is counted. -/
def State.matchCounted (s : State) (u : Nat) : State :=
  (s.setPattern u { s.pattern u with hits := (s.pattern u).hits.drop 1 }).count (patBase u + 0x0C) 23 16 1

/-- PU_REC and PU_REC_TIME hold the match, where they hold no earlier one. -/
def State.matchRecorded (s : State) (u : Nat) : State :=
  if (s.matchCounted u).bit (patBase u + 0x10) 31 then s.matchCounted u
  else ((s.matchCounted u).setReg (patBase u + 0x10) (BitVec.ofNat 32 (place 1 31 + (s.pattern u).hits.headD 0))).setReg (patBase u + 0x14)
    (BitVec.ofNat 32 s.now)

theorem recordMatch_eq (u : Nat) (s : State) : recordMatch u s = (s.matchRecorded u).pulse .pattern 0 u := rfl

theorem State.matchCounted_reg (s : State) (u : Nat) {a : Nat} (h : a ≠ patBase u + 0x0C) : (s.matchCounted u).reg a = s.reg a :=
  State.reg_setFld_other _ _ _ _ h

theorem State.matchRecorded_frame (s : State) (u : Nat) : s.matchRecorded u =
    { s with regs := (s.matchRecorded u).regs, patterns := (s.matchRecorded u).patterns } := by
  obtain ⟨regs, patterns, hcounted⟩ : ∃ regs patterns, s.matchCounted u = { s with regs := regs, patterns := patterns } := ⟨_, _, rfl⟩
  rw [State.matchRecorded, hcounted]
  split <;> rfl

theorem State.matchRecorded_patterns (s : State) (u : Nat) : (s.matchRecorded u).patterns =
    (s.setPattern u { s.pattern u with hits := (s.pattern u).hits.drop 1 }).patterns := by
  unfold State.matchRecorded
  split <;> rfl

/-- Registers of the unit beside its record. -/
theorem State.matchRecorded_reg (s : State) (u : Nat) {a : Nat} (hrec : a ≠ patBase u + 0x10) (htime : a ≠ patBase u + 0x14) :
    (s.matchRecorded u).reg a = (s.matchCounted u).reg a := by
  unfold State.matchRecorded
  split
  · rfl
  · rw [State.reg_setReg_other _ _ htime, State.reg_setReg_other _ _ hrec]

theorem State.matchCounted_canonical {s : State} (hc : s.Canonical) (u : Nat) : (s.matchCounted u).Canonical := (hc.setPattern _ _).count _ _ _ _

/-- What the registers show of a match. -/
theorem State.matchRecorded_shown {s : State} (hc : s.Canonical) (u : Nat) :
    let z := s.matchRecorded u
    z.fld (patBase u + 0x0C) 23 16 = min 255 (s.fld (patBase u + 0x0C) 23 16 + 1) ∧
    (s.bit (patBase u + 0x10) 31 = false → z.reg (patBase u + 0x10) = BitVec.ofNat 32 (2 ^ 31 + (s.pattern u).hits.headD 0) ∧
      z.reg (patBase u + 0x14) = BitVec.ofNat 32 s.now) ∧
    (s.bit (patBase u + 0x10) 31 = true → z.reg (patBase u + 0x10) = s.reg (patBase u + 0x10) ∧
      z.reg (patBase u + 0x14) = s.reg (patBase u + 0x14)) := by
  intro z
  have hcounted := State.matchCounted_canonical hc u
  have hrec : (s.matchCounted u).reg (patBase u + 0x10) = s.reg (patBase u + 0x10) := s.matchCounted_reg u (by omega)
  have htime : (s.matchCounted u).reg (patBase u + 0x14) = s.reg (patBase u + 0x14) := s.matchCounted_reg u (by omega)
  have hvalid : (s.matchCounted u).bit (patBase u + 0x10) 31 = s.bit (patBase u + 0x10) 31 := congrArg (fun w => bitOf w 31) hrec
  refine ⟨?count, fun hempty => ?empty, fun hfull => ?full⟩
  case count =>
    rw [State.fld, State.matchRecorded_reg s u (by omega) (by omega)]
    exact State.fld_count (hc.setPattern _ _) (patBase u + 0x0C) 1 (by decide) (by decide)
  case empty =>
    have hz : z = ((s.matchCounted u).setReg (patBase u + 0x10) (BitVec.ofNat 32 (place 1 31 + (s.pattern u).hits.headD 0))).setReg
        (patBase u + 0x14) (BitVec.ofNat 32 s.now) := if_neg (by rw [hvalid, hempty]; exact Bool.false_ne_true)
    rw [hz]
    constructor
    · rw [State.reg_setReg_other _ _ (by omega), State.reg_setReg hcounted, if_pos rfl]
      rfl
    · rw [State.reg_setReg (hcounted.setReg _ _), if_pos rfl]
  case full =>
    have hz : z = s.matchCounted u := if_pos (hvalid.trans hfull)
    rw [hz]
    exact ⟨hrec, htime⟩

theorem matchMet_none {u t : Nat} {s : State} (h : (s.pattern u).hits = []) : matchMet u t s = s := if_neg (fun hsome => hsome h)

/-- A unit with WAKE_EN wakes the device (R368). -/
theorem matchMet_some {u t : Nat} {s : State} (hu : u < 32) (h : (s.pattern u).hits ≠ []) (ht : s.now ≤ t) :
    let r := recordMatch u { s with now := t }
    matchMet u t s = if s.bit (patBase u) 30 then (wakeOp 0 r).follow else r := by
  intro r
  have hevent : patBase u ∉ eventRegisters ⟨.pattern, 0⟩ := by
    simp only [eventRegisters, List.mem_cons, List.not_mem_nil, or_false, patBase, regAddr, Page.base, PageKind.info]
    omega
  have hreg : r.reg (patBase u) = s.reg (patBase u) := by
    dsimp only [r]
    rw [recordMatch_eq, State.pulse, State.raise_reg _ _ _ _ hevent, State.matchRecorded_reg _ u (by omega) (by omega),
      State.matchCounted_reg _ u (by omega)]
    rfl
  have hwake : r.bit (patBase u) 30 = s.bit (patBase u) 30 := congrArg (fun w => bitOf w 30) hreg
  rw [matchMet, if_pos h, at_eq ht, ← hwake]

/-! PAT_CMD. -/

/-- The count and the record of a unit are cleared. -/
def State.clearRecord (s : State) (u : Nat) : State := (s.setFld (patBase u + 0x0C) 23 16 0).setReg (patBase u + 0x10) 0

theorem patternClear_eq (mask : Nat) (s : State) : patternClear mask s =
    (List.range 32).foldl (fun s u => if mask.testBit u then s.clearRecord u else s) s := rfl

theorem State.clearRecord_canonical {s : State} (hc : s.Canonical) (u : Nat) : (s.clearRecord u).Canonical := (hc.setReg _ _).setReg _ _

theorem State.clearRecord_reg (s : State) {u a : Nat} (hcount : a ≠ patBase u + 0x0C) (hrec : a ≠ patBase u + 0x10) :
    (s.clearRecord u).reg a = s.reg a := by
  rw [State.clearRecord, State.reg_setReg_other _ _ hrec, State.reg_setFld_other _ _ _ _ hcount]

/-- The registers of two units lie apart. -/
theorem patBase_apart {u w i j : Nat} (h : u ≠ w) (hi : i < 0x40) (hj : j < 0x40) : patBase u + i ≠ patBase w + j := by
  unfold patBase regAddr
  omega

/-- The count and the record of the unit are 0. -/
def State.recordClear (s : State) (u : Nat) : Prop := s.fld (patBase u + 0x0C) 23 16 = 0 ∧ s.reg (patBase u + 0x10) = 0

theorem State.clearRecord_clear {s : State} (hc : s.Canonical) (u : Nat) : (s.clearRecord u).recordClear u := by
  constructor
  · rw [State.fld, State.clearRecord, State.reg_setReg_other _ _ (by omega)]
    exact (State.fld_setFld hc _ _ _ _ (by decide) (by decide)).trans (Nat.zero_mod _)
  · exact (State.reg_setReg (hc.setReg _ _) _ _ _).trans (if_pos rfl)

/-- The count and the record of the unit are those of another state. -/
def RecordKept (u : Nat) (s t : State) : Prop :=
  t.reg (patBase u + 0x0C) = s.reg (patBase u + 0x0C) ∧ t.reg (patBase u + 0x10) = s.reg (patBase u + 0x10)

theorem RecordKept.trans {u : Nat} {s t w : State} (h : RecordKept u s t) (k : RecordKept u t w) : RecordKept u s w :=
  ⟨k.1.trans h.1, k.2.trans h.2⟩

theorem State.clearRecord_kept (s : State) {u w : Nat} (h : u ≠ w) : RecordKept u s (s.clearRecord w) :=
  ⟨s.clearRecord_reg (patBase_apart h (by decide) (by decide)) (patBase_apart h (by decide) (by decide)),
   s.clearRecord_reg (patBase_apart h (by decide) (by decide)) (patBase_apart h (by decide) (by decide))⟩

theorem RecordKept.clear {u : Nat} {s t : State} (h : RecordKept u s t) (hs : s.recordClear u) : t.recordClear u :=
  ⟨(congrArg (fun w => fieldOf w 23 16) h.1).trans hs.1, h.2.trans hs.2⟩

theorem patternClear_clear {s : State} (hc : s.Canonical) (mask u : Nat) (hu : u < 32) (hmask : mask.testBit u = true) :
    (patternClear mask s).recordClear u := by
  rw [patternClear_eq]
  refine foldl_establishes (P := fun s u => mask.testBit u = true → s.recordClear u) (fun s a hc => ?canonical) (fun s a hc ha => ?here)
    (fun s a b hc hb hmask => ?kept) (List.range 32) hc u (.inl (List.mem_range.mpr hu)) hmask
  case canonical =>
    split
    · exact State.clearRecord_canonical hc a
    · exact hc
  case here =>
    rw [if_pos ha]
    exact State.clearRecord_clear hc a
  case kept =>
    split
    · by_cases hab : b = a
      · subst hab
        exact State.clearRecord_clear hc b
      · exact (s.clearRecord_kept hab).clear (hb hmask)
    · exact hb hmask

theorem patternClear_kept (s : State) {mask u : Nat} (hmask : mask.testBit u = false) : RecordKept u s (patternClear mask s) := by
  rw [patternClear_eq]
  refine foldl_related (R := RecordKept u) RecordKept.trans (fun t w => ?_) (List.range 32) ⟨rfl, rfl⟩
  split
  · rename_i hw
    exact t.clearRecord_kept (fun h => Bool.false_ne_true (hmask.symm.trans (h ▸ hw)))
  · exact ⟨rfl, rfl⟩

theorem patternClear_frame (mask : Nat) (s : State) : patternClear mask s = { s with regs := (patternClear mask s).regs } := by
  rw [patternClear_eq]
  refine foldl_related (R := fun s t => t = { s with regs := t.regs }) (fun h k => by rw [k, h]) (fun t w => ?_) (List.range 32) rfl
  split <;> rfl

theorem patCmdClr_next (m : Master) (v : Word) (s : State) (hc : s.Canonical) (ha : s.Accepts m.id ⟨.pattern, 0⟩ 0x040 v) :
    ∃ t, exec (.patCmdClr m v) s = .next t ∧ t.resp.code = 0 ∧
      (∀ u < 32, v.toNat.testBit u = true → t.fld (patBase u + 0x0C) 23 16 = 0 ∧ t.reg (patBase u + 0x10) = 0) ∧
      (∀ u < 32, v.toNat.testBit u = false → t.fld (patBase u + 0x0C) 23 16 = s.fld (patBase u + 0x0C) 23 16 ∧
        t.reg (patBase u + 0x10) = s.reg (patBase u + 0x10)) ∧
      t = { s with regs := t.regs, ev := t.ev, log := t.log, resp := t.resp, jtag := { s.jtag with out := t.jtag.out } } := by
  have hnoserdes : PageKind.pattern = .serdes → 0x040 < 0x100 := fun _ => by decide
  have effect (old : Word) (u : State) : State.effectAt m.id ⟨.pattern, 0⟩ 0x040 old v u = patternClear v.toNat u := rfl
  have written := access_write ha (by decide) (by decide) (by decide) rfl (by decide) rfl
  rw [effect] at written
  have hrecorded : (s.recorded m.id ⟨.pattern, 0⟩ 0x040 v).Canonical := hc.recorded hnoserdes
  have hothers := (recorded_regs hc (m := m.id) (p := ⟨.pattern, 0⟩) (off := 0x040) (v := v) hnoserdes (by decide) rfl (by decide) (by decide)).2
  have hunit (u : Nat) (hu : u < 32) : RecordKept u s (s.recorded m.id ⟨.pattern, 0⟩ 0x040 v) := by
    constructor <;> apply hothers <;> simp only [patBase, regAddr, Page.base, PageKind.info] <;> omega
  have hdone (x : State) (u : Nat) : RecordKept u x (x.done m.id ⟨.pattern, 0⟩ 0x040) := ⟨State.done_reg _ _ _ _ _, State.done_reg _ _ _ _ _⟩
  refine ⟨_, congrArg Host.Outcome.next written, State.done_code _ _ _ _, fun u hu hmask => ?cleared, fun u hu hmask => ?kept,
    State.done_frame _ _ _ ?frame⟩
  case cleared => exact (hdone _ u).clear (patternClear_clear hrecorded _ u hu hmask)
  case kept =>
    obtain ⟨hcount, hrec⟩ := ((hunit u hu).trans (patternClear_kept _ hmask)).trans (hdone _ u)
    exact ⟨congrArg (fun w => fieldOf w 23 16) hcount, hrec⟩
  case frame => rw [patternClear_frame, recorded_frame hnoserdes rfl]

/-- Settles O39: a changeover by what it leaves of its pin, a level by what follows it, and a pattern unit by the modes and by its record. -/
theorem pinsAndPatternUnitsComplete : Obligations.PinsAndPatternUnitsComplete := by
  refine ⟨⟨changeover_next, fun p t t0 s hchanging hwaiting hdue ht => ?done, fun p s hc => connectPin_pin hc p, pinFilterPass_next⟩,
    fun u level t s ht => ?vector, fun u t k ks s hc hhits ht hk => ?matched,
    fun u t s hnone => congrArg Host.Outcome.next (matchMet_none hnone), patCmdClr_next⟩
  case done =>
    have hend := changeoverEnd_due (s := { s with now := t }) hchanging hwaiting hdue
    rw [← at_eq ht] at hend ⊢
    exact ⟨fun hpicked => congrArg Host.Outcome.next (hend.trans (if_pos hpicked)),
      fun hdirect => congrArg Host.Outcome.next (hend.trans (if_neg (Bool.eq_false_iff.mp hdirect)))⟩
  case vector =>
    intro a x v new ends
    have hat : s.at t = a := at_eq ht
    have hexec {z : State} (h : vectorChange u level.toNat a = z) : exec (.debouncedVectorChange u level t) s = .next z :=
      congrArg Host.Outcome.next ((congrArg (vectorChange u level.toNat) hat).trans h)
    have hends (hon : s.bit (patBase u) 31 = true) (hnew : v.evaluated = true → new ≠ v.v) {hit : Bool} (hhit : x.modeHits u = hit)
        {mark : Option Nat} (hmark : x.markA u = mark) : ends mark (if hit then v.hits ++ [new] else v.hits) := by
      have htaken : vectorChange u level.toNat a = x.vectorTaken u (x.markA u) (if x.modeHits u then v.hits ++ [new] else v.hits) :=
        vectorChange_taken (s := a) hon hnew
      rw [hhit, hmark] at htaken
      exact hexec htaken
    refine ⟨fun hoff => hexec (vectorChange_off hoff), fun hon hevaluated hsame => hexec (vectorChange_same (s := a) hon hevaluated hsame),
      fun hon hevaluated hchanged => ?later, fun hon hfirst => ?first⟩
    case later =>
      have hnew : v.evaluated = true → new ≠ v.v := fun _ => hchanged
      refine ⟨fun hmode hA => ?_, fun hmode hA => ?_, fun hmode hwas => ?_, fun hmode hA => ?_, fun t0 hmode hmark hB hA => ?_⟩
      · exact hends hon hnew ((modeHits_becomes hnew hmode).trans (decide_eq_true hA)) (markA_equal hnew hA)
      · exact hends hon hnew ((modeHits_becomes hnew hmode).trans (decide_eq_false hA)) (markA_other hnew hA)
      · have hA : new ≠ x.patA u := fun h => hchanged (h.trans hwas.symm)
        exact hends hon hnew (modeHits_leaves hmode hA (.inr hwas)) (markA_other hnew hA)
      · exact hends hon hnew (modeHits_change hmode) (markA_other hnew hA)
      · have hkeeps := (markA_other hnew hA).trans hmark
        have hwindow := hends hon hnew (modeHits_sequence hnew hmode hkeeps hB) (markA_other hnew hA)
        simpa only [decide_eq_true_eq] using hwindow
    case first =>
      have hnew : v.evaluated = true → new ≠ v.v := fun h => absurd (hfirst.symm.trans h) Bool.false_ne_true
      refine ⟨fun hmode hA => ?_, fun hmode hA => ?_, fun hmode hA => ?_⟩
      · exact hends hon hnew ((modeHits_becomes hnew hmode).trans (decide_eq_true hA)) (markA_equal hnew hA)
      · exact hends hon hnew (modeHits_leaves hmode hA (.inl hfirst)) (markA_other hnew hA)
      · exact hends hon hnew (modeHits_change hmode) (markA_other hnew hA)
  case matched =>
    let a : State := { s with now := t }
    have ha : a.Canonical := { hc with }
    have hqueue : (a.pattern u).hits = k :: ks := hhits
    obtain ⟨hcount, hempty, hfull⟩ := State.matchRecorded_shown ha u
    rw [hqueue] at hempty
    have hpattern : (a.matchRecorded u).pattern u = { a.pattern u with hits := (a.pattern u).hits.drop 1 } := by
      rw [State.pattern, State.matchRecorded_patterns]
      exact (State.pattern_setPattern ha u u _).trans (if_pos rfl)
    have hmet := matchMet_some u.isLt (by rw [hhits]; exact List.cons_ne_nil k ks) ht
    refine ⟨a.matchRecorded u, recordMatch_eq u a, ?_, hcount, hempty, hfull, a.matchRecorded_frame u, fun hsleeps => ?_, fun hwakes => ?_⟩
    · rw [hpattern, hqueue]
      rfl
    · exact congrArg Host.Outcome.next (hmet.trans (if_neg (Bool.eq_false_iff.mp hsleeps)))
    · exact congrArg Host.Outcome.next (hmet.trans (if_pos hwakes))

end Sys2Proof.Machine
end

section
/-!
Rollback, HOLD and BOLT_CMD (R156 to R163, R172 to R174): a detected fault whose time has come starts the rollback, the end of a rollback
opens its bolt or leads to HALT, a HOLD ends with its warnings, and each command of BOLT_CMD has its effect where it is accepted.
-/

namespace Sys2Proof.Machine

/-! ROLLBACK. -/

/-- The fault is recorded and counted, and the bolt, which stood as `v` says, is in its rollback, before the checkpoint is restored (R157,
R174). -/
def State.rollbackStarts (s : State) (b : Nat) (v : Bolt) (t cause loc : Nat) : State :=
  ((((((((s.setBolt b { v with stage := .rollback, tf := t, pend := none, t0 := none, final := false, resuming := false }).setFld
    (rCause b) 23 16 cause).setReg (rFaultLoc b) (BitVec.ofNat 32 loc)).setReg (rLastTime b) (BitVec.ofNat 32 t)).count (rRollbacks b) 31 16
    1).count (rRollbacks b) 1 0 1).setFld (rBoltStat b) 3 0 0).logBolt b 0x9 cause).raiseCommit b 0x1 cause

/-- A fault whose time has come starts a rollback, or merges into the one that runs. -/
theorem rollbackOp_inTurn {b t cause loc td : Nat} {s : State} (hpend : (s.bolt b).pend = some (cause, loc, td))
    (hcommitted : s.committed b = true) (hhalt : (s.bolt b).stage ≠ .halt) (hreleased : (s.bolt b).stage ≠ .notReleased) (ht : s.now ≤ t)
    (hload : s.atShadowLoad b = true → s.now < t) :
    let u : State := { s with now := t }
    rollbackOp b t s =
      if (s.bolt b).stage = .rollback then u.setBolt b { s.bolt b with pend := none }
      else (u.rollbackStarts b (s.bolt b) t cause loc).restoreBolt b := by
  have hmoment : (s.atShadowLoad b && decide (t = s.now)) = false := by
    rw [Bool.and_eq_false_iff, decide_eq_false_iff_not]
    cases hcase : s.atShadowLoad b with
    | false => exact .inl rfl
    | true => exact .inr (Nat.ne_of_gt (hload hcase))
  rw [rollbackOp, hpend, at_eq ht]
  refine if_neg ?_
  simp only [hcommitted, hhalt, hreleased, Nat.not_lt.mpr ht, hmoment, Bool.not_true, or_self, decide_false, Bool.or_self, Bool.false_eq_true,
    not_false_eq_true]

/-- A rollback is what the fault, the bolt and the shadows as the upset leaves them make it. -/
theorem rollback_next (b : Fin 16) (upset : Option ShadowUpset) {t cause loc td : Nat} {s : State}
    (hpend : (s.bolt b).pend = some (cause, loc, td)) (hcommitted : s.committed b = true) (hhalt : (s.bolt b).stage ≠ .halt)
    (hreleased : (s.bolt b).stage ≠ .notReleased) (ht : s.now ≤ t) (hload : s.atShadowLoad b = true → s.now < t) :
    let u : State := { upsetShadow upset s with now := t }
    exec (.rollback b upset t) s = .next
      (if (s.bolt b).stage = .rollback then u.setBolt b { s.bolt b with pend := none }
       else (u.rollbackStarts b (s.bolt b) t cause loc).restoreBolt b) := by
  change Host.Outcome.next (rollbackOp b t (upsetShadow upset s)) = _
  rw [upsetShadow_frame]
  exact congrArg Host.Outcome.next (rollbackOp_inTurn
    (s := { s with cells := (upsetShadow upset s).cells, twills := (upsetShadow upset s).twills }) hpend hcommitted hhalt hreleased ht hload)

/-! ROLLBACK_END and HOLD_END. -/

/-- The time that the rollback took stands in the cause register; a resume records none (R157, R163). -/
def State.rollbackTimed (s : State) (b t : Nat) : State :=
  if (s.bolt b).resuming then { s with now := t }
  else ({ s with now := t } : State).setFld (rCause b) 15 0 (min 65535 (t - (s.bolt b).tf))

section

variable {b t : Nat} {s : State} (hstage : (s.bolt b).stage = .rollback) (hrecov : (s.bolt b).recov = false) (ht : s.now ≤ t)

include hstage hrecov ht

theorem rollbackEndOp_inTurn : rollbackEndOp b t s =
    if (s.bolt b).shadowBad then (s.rollbackTimed b t).enterHalt b 0x11
    else if !(s.bolt b).resuming && decide (3 ≤ s.fld (rRollbacks b) 1 0) then (s.rollbackTimed b t).enterHalt b 0x10
    else if (s.bolt b).forceHalt then (s.rollbackTimed b t).enterHalt b 0x14
    else (s.rollbackTimed b t).resumeOpen b := by
  rw [rollbackEndOp, at_eq ht]
  exact if_pos ⟨hstage, hrecov, ht⟩

/-- A shadow that failed its check halts the bolt (R152). -/
theorem rollbackEndOp_badShadow (hbad : (s.bolt b).shadowBad = true) : rollbackEndOp b t s = (s.rollbackTimed b t).enterHalt b 0x11 := by
  rw [rollbackEndOp_inTurn hstage hrecov ht, if_pos hbad]

variable (hgood : (s.bolt b).shadowBad = false)

include hgood

/-- The third rollback in a row halts the bolt (R160). -/
theorem rollbackEndOp_limit (hfault : (s.bolt b).resuming = false) (hlimit : 3 ≤ s.fld (rRollbacks b) 1 0) :
    rollbackEndOp b t s = (s.rollbackTimed b t).enterHalt b 0x10 := by
  rw [rollbackEndOp_inTurn hstage hrecov ht, if_neg (Bool.eq_false_iff.mp hgood), hfault, decide_eq_true hlimit]
  rfl

/-- Below the limit, and after a resume, the bolt opens unless a HALT command waits (R160, R163). -/
theorem rollbackEndOp_belowLimit (hbelow : (s.bolt b).resuming = true ∨ s.fld (rRollbacks b) 1 0 < 3) : rollbackEndOp b t s =
    if (s.bolt b).forceHalt then (s.rollbackTimed b t).enterHalt b 0x14 else (s.rollbackTimed b t).resumeOpen b := by
  have hnolimit : (!(s.bolt b).resuming && decide (3 ≤ s.fld (rRollbacks b) 1 0)) = false := by
    rw [Bool.and_eq_false_iff, Bool.not_eq_false', decide_eq_false_iff_not]
    exact hbelow.imp_right Nat.not_le.mpr
  rw [rollbackEndOp_inTurn hstage hrecov ht, if_neg (Bool.eq_false_iff.mp hgood), if_neg (Bool.eq_false_iff.mp hnolimit)]

end

/-- A HOLD whose warnings have ended is over, and opens a bolt that only it kept closed (R173). -/
theorem holdEndOp_taken {b t : Nat} {s : State} (hhold : (s.bolt b).hold = true) (hwarning : s.inWarning b = false) (ht : s.now ≤ t) :
    let u := (({ s with now := t } : State).setBolt b { s.bolt b with hold := false, holdDone := false }).raiseCommit b 0x6 0
    holdEndOp b t s = if (s.bolt b).stage = .closed ∧ (s.bolt b).final = false then u.resumeOpen b else u := by
  rw [holdEndOp, at_eq ht]
  exact if_pos (by simp only [hhold, hwarning, ht, Bool.not_false, decide_true, Bool.and_self])

/-! BOLT_CMD (Table 6-8). -/

/-- The command word names its bolt and its command. -/
theorem boltCommand_fields : ∀ k < 5, ∀ b : Fin 16, fieldOf (boltCommand k b) 19 16 = b ∧ fieldOf (boltCommand k b) 2 0 = k := by
  decide

section

variable {m : Nat} {v : Word} {b : Fin 16} {s : State}

theorem boltCmdWritten_rollback : boltCmdWritten (boltCommand 1 b) s = boltRollbackOp b s := by
  simp only [boltCmdWritten, boltCommand_fields 1 (by decide) b]

theorem boltCmdWritten_halt : boltCmdWritten (boltCommand 2 b) s = (boltHaltOp b s).engineFollow.follow := by
  simp only [boltCmdWritten, boltCommand_fields 2 (by decide) b]

theorem boltCmdWritten_resume : boltCmdWritten (boltCommand 3 b) s = boltResumeOp b s := by
  simp only [boltCmdWritten, boltCommand_fields 3 (by decide) b]

theorem boltCmdWritten_clear : boltCmdWritten (boltCommand 4 b) s = boltClearOp b s := by
  simp only [boltCmdWritten, boltCommand_fields 4 (by decide) b]

theorem boltCmd_access (ha : s.Accepts m ⟨.commit, 0⟩ 0x04C v) : access (busWrite m (regAddr .commit 0 0x04C) 15 v) s =
    (boltCmdWritten v (s.recorded m ⟨.commit, 0⟩ 0x04C v)).done m ⟨.commit, 0⟩ 0x04C := by
  have effect (old : Word) (u : State) : State.effectAt m ⟨.commit, 0⟩ 0x04C old v u = boltCmdWritten v u := rfl
  have written := access_write ha (by decide) (by decide) (by decide) rfl (by decide) rfl
  rwa [effect] at written

theorem recorded_boltCmd_frame : s.recorded m ⟨.commit, 0⟩ 0x04C v =
    { s with regs := (s.recorded m ⟨.commit, 0⟩ 0x04C v).regs, ev := (s.recorded m ⟨.commit, 0⟩ 0x04C v).ev
             log := (s.recorded m ⟨.commit, 0⟩ 0x04C v).log, resp := {} } :=
  recorded_frame (fun h => by cases h) rfl

theorem recorded_boltCmd_bolt (j : Nat) : (s.recorded m ⟨.commit, 0⟩ 0x04C v).bolt j = s.bolt j := by
  rw [recorded_boltCmd_frame]
  rfl

theorem recorded_boltCmd_now : (s.recorded m ⟨.commit, 0⟩ 0x04C v).now = s.now := by
  rw [recorded_boltCmd_frame]

theorem recorded_boltCmd_canonical (hc : s.Canonical) : (s.recorded m ⟨.commit, 0⟩ 0x04C v).Canonical :=
  hc.recorded (fun h => by cases h)

/-- The record of BOLT_CMD touches no other register of the bolts. -/
theorem recorded_boltCmd_reg (hc : s.Canonical) {a : Nat} (hpage : 0x5040 ≤ a ∧ a < 0x6000) (hother : a ≠ 0x504C) :
    (s.recorded m ⟨.commit, 0⟩ 0x04C v).reg a = s.reg a := by
  have hlog : regAddr .log 0 0x014 ≥ 0x6000 := by decide
  have hevent : regAddr .event 0 0x048 ≥ 0x6000 := by decide
  have hbase : Page.base ⟨.commit, 0⟩ = 0x5000 := rfl
  exact (recorded_regs hc (fun h => by cases h) (by decide) rfl (by decide) (by decide)).2 a (by omega) (by omega) (by omega) (by omega)

/-- ROLLBACK is accepted of a COMMITTED bolt that runs (R156). -/
theorem boltRollback_permitted (ha : s.Accepts m ⟨.commit, 0⟩ 0x04C (boltCommand 1 b)) :
    s.committed b = true ∧ (s.bolt b).stage ≠ .halt ∧ (s.bolt b).stage ≠ .notReleased := by
  have hrefuses (u : State) : u.refusesAt m ⟨.commit, 0⟩ 0x04C (boltCommand 1 b) = denyIf (u.boltCmdRefused b) codeNotPermitted := by
    change u.boltCmdRefuses _ = _
    simp only [State.boltCmdRefuses, boltCommand_fields 1 (by decide) b]
  have hblock : denyIf (s.boltCmdRefused b) codeNotPermitted = none := by
    have haccepted := ha.block
    rwa [recorded_begun (fun h => by cases h), hrefuses] at haccepted
  have hallowed : ¬ s.boltCmdRefused b = true := fun hrefused => by
    rw [denyIf, if_pos hrefused] at hblock
    cases hblock
  simp only [State.boltCmdRefused, Bool.or_eq_true, Bool.not_eq_true', decide_eq_true_eq, List.mem_cons, not_or, Bool.not_eq_false] at hallowed
  obtain ⟨⟨-, hcommitted⟩, hhalt, hreleased, -⟩ := hallowed
  exact ⟨hcommitted, hhalt, hreleased⟩

/-- The command is a detected fault of cause 0x07, which one that already waits comes before (R156). -/
theorem boltRollbackOp_live (hcommitted : s.committed b = true) (hhalt : (s.bolt b).stage ≠ .halt)
    (hreleased : (s.bolt b).stage ≠ .notReleased) :
    boltRollbackOp b s = s.setBolt b { s.bolt b with pend := some ((s.bolt b).pend.getD (0x07, 0, s.now)) } := by
  have hfirst : earlierFault (s.bolt b).pend 0x07 0 s.now = (s.bolt b).pend.getD (0x07, 0, s.now) := by
    cases (s.bolt b).pend with
    | none => rfl
    | some old => exact earlierFault_later (fun h => absurd h.2.1 (by decide))
  rw [← hfirst]
  exact if_pos (by simp only [hcommitted, hhalt, hreleased, ne_eq, not_false_eq_true, and_self, decide_true, Bool.and_self])

theorem boltClearOp_frame : boltClearOp b s = { s with regs := (boltClearOp b s).regs } := rfl

/-- CLEAR_COUNTS clears TOTAL and LEAKS, and leaves the rest of the register (R174). -/
theorem boltClearOp_fields (hc : s.Canonical) :
    (boltClearOp b s).fld (rRollbacks b) 31 16 = 0 ∧ (boltClearOp b s).fld (rRollbacks b) 15 8 = 0 ∧
      (boltClearOp b s).fld (rRollbacks b) 7 0 = s.fld (rRollbacks b) 7 0 := by
  have hc1 : (s.setFld (rRollbacks b) 31 16 0).Canonical := hc.setReg _ _
  refine ⟨?total, State.fld_setFld hc1 _ _ _ _ (by decide) (by decide), ?rest⟩
  case total =>
    exact (State.fld_setFld_apart hc1 0 (by decide) (.inr (.inr (by decide)))).trans (State.fld_setFld hc _ _ _ _ (by decide) (by decide))
  case rest =>
    exact (State.fld_setFld_apart hc1 0 (by decide) (.inr (.inl (by decide)))).trans
      (State.fld_setFld_apart hc 0 (by decide) (.inr (.inl (by decide))))

end

theorem boltRollback_next (m : Master) (b : Fin 16) (s : State) (hc : s.Canonical)
    (ha : s.Accepts m.id ⟨.commit, 0⟩ 0x04C (boltCommand 1 b)) :
    let v : Bolt := { s.bolt b with pend := some ((s.bolt b).pend.getD (0x07, 0, s.now)) }
    ∃ t, exec (.boltRollback m b) s = .next t ∧ t.bolt b = v ∧
      t = ((s.recorded m.id ⟨.commit, 0⟩ 0x04C (boltCommand 1 b)).setBolt b v).done m.id ⟨.commit, 0⟩ 0x04C := by
  intro v
  let u := s.recorded m.id ⟨.commit, 0⟩ 0x04C (boltCommand 1 b)
  obtain ⟨hcommitted, hhalt, hreleased⟩ := boltRollback_permitted ha
  have hbolt : u.bolt b = s.bolt b := recorded_boltCmd_bolt b
  have hmode : u.committed b = true :=
    (congrArg (fun w => bitOf w b) (recorded_boltCmd_reg hc (a := rBoltMode) (by decide) (by decide))).trans hcommitted
  have hop := boltRollbackOp_live (s := u) hmode (hbolt ▸ hhalt) (hbolt ▸ hreleased)
  rw [hbolt, recorded_boltCmd_now] at hop
  have hexec := boltCmd_access ha
  rw [boltCmdWritten_rollback, hop] at hexec
  refine ⟨_, congrArg Host.Outcome.next hexec, ?_, rfl⟩
  rw [State.done, State.heard_frame]
  exact (State.bolt_setBolt (recorded_boltCmd_canonical hc) _ _ _).trans (if_pos rfl)

/-- HALT in a rollback or a recovery waits for its end; otherwise the bolt halts where it stands (R160). -/
theorem boltHaltOp_recorded (m : Nat) (v : Word) (b : Nat) (s : State) :
    let u := s.recorded m ⟨.commit, 0⟩ 0x04C v
    boltHaltOp b u = if (s.bolt b).stage = .rollback ∨ (s.bolt b).stage = .recovery then u.setBolt b { s.bolt b with forceHalt := true }
      else u.enterHalt b 0x14 := by
  intro u
  have hbolt : u.bolt b = s.bolt b := recorded_boltCmd_bolt b
  rw [← hbolt]
  rfl

theorem boltHalt_next {m : Master} {b : Fin 16} {s z : State} (ha : s.Accepts m.id ⟨.commit, 0⟩ 0x04C (boltCommand 2 b))
    (hop : boltHaltOp b (s.recorded m.id ⟨.commit, 0⟩ 0x04C (boltCommand 2 b)) = z) :
    exec (.boltHalt m b) s = .next ((z.engineFollow.follow.done m.id ⟨.commit, 0⟩ 0x04C).afterBolts) := by
  have hexec := boltCmd_access ha
  rw [boltCmdWritten_halt, hop] at hexec
  exact congrArg (fun t : State => Host.Outcome.next t.afterBolts) hexec

/-- RESUME clears CONSEC and RUN and restores the checkpoint, from the shadows as the upset leaves them (R163). -/
theorem boltResume_next (m : Master) (b : Fin 16) (upset : Option ShadowUpset) (s : State)
    (ha : (upsetShadow upset s).Accepts m.id ⟨.commit, 0⟩ 0x04C (boltCommand 3 b)) :
    let x := (upsetShadow upset s).recorded m.id ⟨.commit, 0⟩ 0x04C (boltCommand 3 b)
    let y := (((x.setFld (rRollbacks b) 1 0 0).setFld (rBoltStat b) 3 0 0).forgetRewoven b).leaveHalt b
    exec (.boltResume m b upset) s = .next (((y.setBolt b
      { s.bolt b with stage := .rollback, tf := s.now, resuming := true, shadowBad := false }).restoreBolt b).done m.id ⟨.commit, 0⟩ 0x04C) := by
  have hbolt : (upsetShadow upset s).bolt b = s.bolt b := by
    rw [upsetShadow_frame]
    rfl
  have hnow : (upsetShadow upset s).now = s.now := by rw [upsetShadow_frame]
  have hexec := boltCmd_access ha
  rw [boltCmdWritten_resume, boltResumeOp, recorded_boltCmd_bolt, hbolt, recorded_boltCmd_now, hnow] at hexec
  exact congrArg Host.Outcome.next hexec

theorem boltClearCounts_next (m : Master) (b : Fin 16) (s : State) (hc : s.Canonical)
    (ha : s.Accepts m.id ⟨.commit, 0⟩ 0x04C (boltCommand 4 b)) :
    ∃ t, exec (.boltClearCounts m b) s = .next t ∧ t.fld (rRollbacks b) 31 16 = 0 ∧ t.fld (rRollbacks b) 15 8 = 0 ∧
      t.fld (rRollbacks b) 7 0 = s.fld (rRollbacks b) 7 0 ∧
      t = { s with regs := t.regs, ev := t.ev, log := t.log, resp := t.resp, jtag := { s.jtag with out := t.jtag.out } } ∧
      t.resp.code = 0 := by
  let u := s.recorded m.id ⟨.commit, 0⟩ 0x04C (boltCommand 4 b)
  have hfld (w : State) (hi lo : Nat) : (w.done m.id ⟨.commit, 0⟩ 0x04C).fld (rRollbacks b) hi lo = w.fld (rRollbacks b) hi lo :=
    congrArg (fun x => fieldOf x hi lo) (State.done_reg _ _ _ _ _)
  have hrecorded : u.fld (rRollbacks b) 7 0 = s.fld (rRollbacks b) 7 0 :=
    congrArg (fun x => fieldOf x 7 0) (recorded_boltCmd_reg hc (by unfold rRollbacks; omega) (by unfold rRollbacks; omega))
  obtain ⟨htotal, hleaks, hrest⟩ := boltClearOp_fields (b := b) (s := u) (recorded_boltCmd_canonical hc)
  have hexec := boltCmd_access ha
  rw [boltCmdWritten_clear] at hexec
  refine ⟨_, congrArg Host.Outcome.next hexec, (hfld _ _ _).trans htotal, (hfld _ _ _).trans hleaks,
    (hfld _ _ _).trans (hrest.trans hrecorded), State.done_frame _ _ _ ?_, State.done_code _ _ _ _⟩
  rw [boltClearOp_frame, recorded_boltCmd_frame]

/-- Settles O16: the start and the end of a rollback and the end of a HOLD by the branch each takes, BOLT_CMD by its accepted write. -/
theorem boltsComplete : Obligations.BoltsComplete := by
  refine ⟨⟨?rollback, ?rollbackEnd, ?holdEnd⟩, ?command⟩
  case rollback =>
    intro b upset t cause loc td s v u hpend hcommitted hhalt hreleased ht hload
    have hexec := rollback_next b upset hpend hcommitted hhalt hreleased ht hload
    exact ⟨fun hruns => hexec.trans (congrArg Host.Outcome.next (if_pos hruns)),
      fun hstarts => hexec.trans (congrArg Host.Outcome.next (if_neg hstarts))⟩
  case rollbackEnd =>
    intro b t s v u w hstage hrecov ht
    have hexec {z : State} (hop : rollbackEndOp b t s = z) : exec (.rollbackEnd b t) s = .next z.afterBolts.unparkPorts := by rw [← hop]; rfl
    refine ⟨fun hbad => hexec (rollbackEndOp_badShadow hstage hrecov ht hbad),
      fun hgood hfault hlimit => hexec (rollbackEndOp_limit hstage hrecov ht hgood hfault hlimit),
      fun hgood hbelow hforced => hexec ?_, fun hgood hbelow hfree => hexec ?_⟩
    · exact (rollbackEndOp_belowLimit hstage hrecov ht hgood hbelow).trans (if_pos hforced)
    · exact (rollbackEndOp_belowLimit hstage hrecov ht hgood hbelow).trans (if_neg (Bool.eq_false_iff.mp hfree))
  case holdEnd =>
    intro b t s v u hhold hwarning ht
    have hop := holdEndOp_taken hhold hwarning ht
    have hexec {z : State} (hz : holdEndOp b t s = z) : exec (.holdEnd b t) s = .next z.unparkPorts := by rw [← hz]; rfl
    exact ⟨fun hclosed hfinal => hexec (hop.trans (if_pos ⟨hclosed, hfinal⟩)), fun hother => hexec (hop.trans (if_neg hother))⟩
  case command =>
    intro m b s hc p v u
    have hhalt := boltHaltOp_recorded m.id (boltCommand 2 b) b s
    exact ⟨boltRollback_next m b s hc,
      fun ha => ⟨fun hwaits => boltHalt_next ha (hhalt.trans (if_pos hwaits)),
        fun hrollback hrecovery => boltHalt_next ha (hhalt.trans (if_neg (not_or.mpr ⟨hrollback, hrecovery⟩)))⟩,
      fun upset => boltResume_next m b upset s, boltClearCounts_next m b s hc⟩

end Sys2Proof.Machine
end

section
/-!
Creel ports and the accesses of the array (R177 to R195): each command by the branch that its port, its mode and its word take. A request
beyond the range of the port has no effect (log entry 86), writes that wait count for a full undo log (log entry 73), and a parity error of a
MIRROR word's state is an uncorrectable error of the word (log entry 74).
-/

namespace Sys2Proof.Machine

/-! The handshakes of a port. -/

section

variable {n : Nat} {p : PortSide} {s : State}

/-- A token reaches a live port whose last handshakes are over: the controller gets it, it has no effect beyond the port's range, it stalls
at a full undo log, or it is acknowledged and joins the order (R182, R189). -/
theorem portRequest_idle (q : CReq) (hlive : s.portLive n p = true) (hrq : ((s.creel n).port p).rq = false)
    (hreq : ((s.creel n).port p).req = none) (hresp : ((s.creel n).port p).resp = none) (hlow : ((s.creel n).port p).rsLow = false) :
    let v := s.creel n
    let w := v.port p
    let c := (s.portTarget n p q.adr).1
    portRequest n p q s =
      if s.creelMode n = modeQueue then s.setCreel n (v.setPort p { w with rq := true, req := some q })
      else if s.portRange n p ≤ q.adr then s
      else if q.we && s.undoFull n c then s.stallWrite n p c q
      else s.setCreel n { (v.setPort p { w with rq := true, ack := true, req := some q }) with order := v.order ++ [p] } :=
  if_pos (by simp only [hlive, hrq, hreq, hresp, hlow, Bool.not_false, Option.isNone_none, Bool.and_self])

theorem creelRequest_next {n : Fin 8192} {t : State} (hlevel : s.creelLevel n p 0 = true) (ht : portRequest n p (s.creelToken n p) s = t) :
    exec (.creelPortRequest n p) s = .next t.settle := by
  subst ht
  exact congrArg Host.Outcome.next (if_pos hlevel)

theorem creelReqFall_next {n : Fin 8192} (hlive : s.portLive n p = true) (hlevel : s.creelLevel n p 0 = false)
    (hrq : ((s.creel n).port p).rq = true) (hack : ((s.creel n).port p).ack = true) :
    exec (.creelRqReqFall n p) s = .next
      (s.setCreel n ((s.creel n).setPort p { ((s.creel n).port p) with rq := false, ack := false })).settle := by
  have hfall : portReqFall n p s = s.setPort n p { ((s.creel n).port p) with rq := false, ack := false } :=
    if_pos (by simp only [hlive, hrq, hack, Bool.and_self])
  exact congrArg Host.Outcome.next ((if_neg (Bool.eq_false_iff.mp hlevel)).trans (congrArg State.settle hfall))

theorem creelAck_next {n : Fin 8192} (hlive : s.portLive n p = true) (hlevel : s.creelLevel n p 1 = true)
    (hresp : ((s.creel n).port p).resp ≠ none) (hlow : ((s.creel n).port p).rsLow = false) :
    exec (.creelResponseAck n p) s = .next
      (s.setCreel n ((s.creel n).setPort p { ((s.creel n).port p) with resp := none, rsLow := true })).settle := by
  have hack : portRespAck n p s = s.setPort n p { ((s.creel n).port p) with resp := none, rsLow := true } :=
    if_pos (by simp only [hlive, Option.isSome_iff_ne_none.mpr hresp, hlow, Bool.not_false, Bool.and_self])
  exact congrArg Host.Outcome.next ((if_pos hlevel).trans (congrArg State.settle hack))

/-- A command that writes one creel and lets the wires settle. -/
theorem creel_settles {c : Instr} (hc : s.Canonical) {v : Creel} (h : exec c s = .next (s.setCreel n v).settle) :
    ∃ t, exec c s = .next t ∧ CellsMoved (s.setCreel n v) t [] :=
  exec_answers h (settle_moved (hc.setCreel n v))

end

/-! The access at the head of the order. -/

/-- The access leaves the order, and the changed bits of the MIRROR state of its word show. -/
def State.accessBegun (s : State) (n : Nat) (rest : List PortSide) (c w : Nat) (state : BitVec 3) : State :=
  let u := s.setCreel n { s.creel n with order := rest }
  if s.creelMode n = modeMirror then u.upsetMirror c w state else u

/-- The access that reads its word first, by what the code makes of the word (R194, R195). -/
def State.wordAnswered (u : State) (n : Nat) (p : PortSide) (q : CReq) (upset : BitVec 72) (c w lane : Nat) : State :=
  let shape := u.creelShape n p
  let phys := u.physOf c w
  match (u.arrWord c phys).decode with
  | .bad raw => u.deliverBad n p c phys (portSource p) (laneOf raw shape lane) q.we
  | .clean d =>
    if q.we then (u.writeLogical c w (mergeLane d q.wdata shape lane) upset).respond n p ⟨0, false, false, false⟩
    else u.respond n p ⟨laneOf d shape lane, false, false, false⟩
  | .corrected d =>
    if q.we then ((u.noteCorrected c phys).writeLogical c w (mergeLane d q.wdata shape lane) upset).respond n p ⟨0, false, false, false⟩
    else (u.noteCorrected c phys).respond n p ⟨laneOf d shape lane, false, false, false⟩

/-- The access that has begun: a write of a ROM and of a whole word need no word of the array, and a bad MIRROR state spoils the word. -/
def State.accessAnswered (u : State) (n : Nat) (p : PortSide) (q : CReq) (upset : BitVec 72) (c w lane : Nat) : State :=
  let word := u.arrWord c (u.physOf c w)
  if q.we && decide (u.creelMode n = modeRom) then (u.creelEvent c 4).respond n p ⟨0, true, false, false⟩
  else if q.we && decide (u.creelShape n p = 0) then (u.writeLogical c w q.wdata upset).respond n p ⟨0, false, false, false⟩
  else if decide (u.creelMode n = modeMirror) && (u.creel c).badPar.contains w then
    u.deliverBad n p c (u.physOf c w) 5 (laneOf (word.data ^^^ word.flip.setWidth 64) (u.creelShape n p) lane) q.we
  else u.wordAnswered n p q upset c w lane

theorem accessBegun_regs (s : State) (n : Nat) (rest : List PortSide) (c w : Nat) (state : BitVec 3) :
    (s.accessBegun n rest c w state).regs = s.regs := by
  unfold State.accessBegun
  split <;> rfl

theorem State.creelMode_of_regs {s u : State} (h : u.regs = s.regs) (n : Nat) : u.creelMode n = s.creelMode n := by
  simp only [State.creelMode, State.fld, State.reg, h]

theorem State.creelShape_of_regs {s u : State} (h : u.regs = s.regs) (n : Nat) (p : PortSide) : u.creelShape n p = s.creelShape n p := by
  simp only [State.creelShape, State.fld, State.reg, h]

/-- A live port whose request heads the order has its access of the array. -/
theorem arrayAccess_inTurn {n : Nat} {p : PortSide} {rest : List PortSide} {q : CReq} {s : State} (state : BitVec 3) (upset : BitVec 72)
    (horder : (s.creel n).order = p :: rest) (hreq : ((s.creel n).port p).req = some q) (hlive : s.portLive n p = true) :
    let c := (s.portTarget n p q.adr).1
    let w := (s.portTarget n p q.adr).2.1
    arrayAccess n state upset s =
      (s.accessBegun n rest c w state).accessAnswered n p q upset c w (s.portTarget n p q.adr).2.2 := by
  intro c w
  have hregs := accessBegun_regs s n rest c w state
  simp only [State.accessAnswered, State.wordAnswered, State.creelMode_of_regs hregs, State.creelShape_of_regs hregs, arrayAccess, horder, hreq,
    hlive, Bool.not_true, Bool.false_eq_true, if_false]
  rfl

section

variable {u : State} {n c w lane : Nat} {p : PortSide} {q : CReq} {upset : BitVec 72}

/-- A write of a ROM (R191). -/
theorem accessAnswered_rom (hwe : q.we = true) (hrom : u.creelMode n = modeRom) :
    u.accessAnswered n p q upset c w lane = (u.creelEvent c 4).respond n p ⟨0, true, false, false⟩ :=
  if_pos (by simp only [hwe, hrom, decide_true, Bool.and_self])

/-- A write of all 64 bits reads nothing (R184). -/
theorem accessAnswered_whole (hwe : q.we = true) (hrom : u.creelMode n ≠ modeRom) (hshape : u.creelShape n p = 0) :
    u.accessAnswered n p q upset c w lane = (u.writeLogical c w q.wdata upset).respond n p ⟨0, false, false, false⟩ := by
  simp only [State.accessAnswered, hwe, hrom, hshape, decide_false, decide_true, Bool.and_false, Bool.and_self, Bool.false_eq_true, if_false,
    if_true]

/-- Every other access reads its word, unless the parity of its state is bad (R187). -/
theorem accessAnswered_reads (hreads : q.we = false ∨ (u.creelMode n ≠ modeRom ∧ u.creelShape n p ≠ 0)) : u.accessAnswered n p q upset c w lane =
    if u.creelMode n = modeMirror ∧ w ∈ (u.creel c).badPar then
      u.deliverBad n p c (u.physOf c w) 5
        (laneOf ((u.arrWord c (u.physOf c w)).data ^^^ (u.arrWord c (u.physOf c w)).flip.setWidth 64) (u.creelShape n p) lane) q.we
    else u.wordAnswered n p q upset c w lane := by
  have hnorom : (q.we && decide (u.creelMode n = modeRom)) = false := by
    rw [Bool.and_eq_false_iff, decide_eq_false_iff_not]
    exact hreads.imp_right And.left
  have hpart : (q.we && decide (u.creelShape n p = 0)) = false := by
    rw [Bool.and_eq_false_iff, decide_eq_false_iff_not]
    exact hreads.imp_right And.right
  simp only [State.accessAnswered, hnorom, hpart, Bool.false_eq_true, if_false, Bool.and_eq_true, decide_eq_true_eq, List.contains_iff_mem]

variable {d : Dword}

theorem wordAnswered_bad {raw : Dword} (hword : (u.arrWord c (u.physOf c w)).decode = .bad raw) : u.wordAnswered n p q upset c w lane =
    u.deliverBad n p c (u.physOf c w) (portSource p) (laneOf raw (u.creelShape n p) lane) q.we := by
  simp only [State.wordAnswered, hword]

theorem wordAnswered_clean (hword : (u.arrWord c (u.physOf c w)).decode = .clean d) : u.wordAnswered n p q upset c w lane =
    if q.we then (u.writeLogical c w (mergeLane d q.wdata (u.creelShape n p) lane) upset).respond n p ⟨0, false, false, false⟩
    else u.respond n p ⟨laneOf d (u.creelShape n p) lane, false, false, false⟩ := by
  simp only [State.wordAnswered, hword]

/-- A corrected word is counted and goes back later (R194). -/
theorem wordAnswered_corrected (hword : (u.arrWord c (u.physOf c w)).decode = .corrected d) : u.wordAnswered n p q upset c w lane =
    if q.we then ((u.noteCorrected c (u.physOf c w)).writeLogical c w (mergeLane d q.wdata (u.creelShape n p) lane) upset).respond n p
      ⟨0, false, false, false⟩
    else (u.noteCorrected c (u.physOf c w)).respond n p ⟨laneOf d (u.creelShape n p) lane, false, false, false⟩ := by
  simp only [State.wordAnswered, hword]

end

/-- Settles O18: a port's handshakes by the branch of each, and an access by the word it needs and what it finds there. -/
theorem creelPortsComplete : Obligations.CreelPortsComplete := by
  refine ⟨fun n p s hc hlive => ?ports, fun n state upset p rest q s => ?access⟩
  case ports =>
    intro v w q c
    refine ⟨fun hlevel hrq hreq hresp hlow => ?request, fun hlevel hrq hack => creel_settles hc (creelReqFall_next hlive hlevel hrq hack),
      fun hlevel hresp hlow => creel_settles hc (creelAck_next hlive hlevel hresp hlow)⟩
    case request =>
      have hop := portRequest_idle q hlive hrq hreq hresp hlow
      refine ⟨fun hqueue => creel_settles hc (creelRequest_next hlevel (hop.trans (if_pos hqueue))),
        fun hmemory hrange hroom => creel_settles hc (creelRequest_next hlevel (hop.trans ?taken)),
        fun hmemory hrange hfull => creelRequest_next hlevel (hop.trans ?stalled),
        fun hmemory hbeyond => creelRequest_next hlevel (hop.trans ((if_neg hmemory).trans (if_pos hbeyond)))⟩
      case taken => exact (if_neg hmemory).trans ((if_neg (Nat.not_le.mpr hrange)).trans (if_neg (Bool.eq_false_iff.mp hroom)))
      case stalled => exact (if_neg hmemory).trans ((if_neg (Nat.not_le.mpr hrange)).trans (if_pos hfull))
  case access =>
    intro v c w lane shape rom mirror u phys word bad horder hreq hlive
    have hregs : u.regs = s.regs := accessBegun_regs s n rest c w state
    have hmode : u.creelMode n = s.creelMode n := State.creelMode_of_regs hregs n
    have hshape : u.creelShape n p = shape := State.creelShape_of_regs hregs n p
    have hexec {z : State} (hz : u.accessAnswered n p q upset c w lane = z) : exec (.creelArrayAccess n state upset) s = .next z.settle :=
      congrArg (fun z : State => Host.Outcome.next z.settle) ((arrayAccess_inTurn state upset horder hreq hlive).trans hz)
    have hreads (h : q.we = false ∨ (¬rom ∧ shape ≠ 0)) : u.accessAnswered n p q upset c w lane =
        if bad then u.deliverBad n p c phys 5 (laneOf (word.data ^^^ word.flip.setWidth 64) shape lane) q.we
        else u.wordAnswered n p q upset c w lane := by
      rw [accessAnswered_reads (by rwa [hmode, hshape]), hmode, hshape]
    have hword (h : q.we = false ∨ (¬rom ∧ shape ≠ 0)) (hgood : ¬bad) :
        exec (.creelArrayAccess n state upset) s = .next (u.wordAnswered n p q upset c w lane).settle :=
      hexec ((hreads h).trans (if_neg hgood))
    refine ⟨fun hwe hrom => hexec (accessAnswered_rom hwe (hmode.trans hrom)),
      fun hwe hrom hwhole => hexec (accessAnswered_whole hwe (hmode ▸ hrom) (hshape.trans hwhole)),
      fun hread hbad => hexec ((hreads hread).trans (if_pos hbad)),
      fun hwe hrom hpart hgood => ⟨fun d hd => ?writeClean, fun d hd => ?writeCorrected⟩,
      fun hwe hgood => ⟨fun d hd => ?readClean, fun d hd => ?readCorrected⟩, fun hread hgood raw hraw => ?uncorrectable⟩
    case writeClean => rw [hword (.inr ⟨hrom, hpart⟩) hgood, wordAnswered_clean hd, hshape, if_pos hwe]
    case writeCorrected => rw [hword (.inr ⟨hrom, hpart⟩) hgood, wordAnswered_corrected hd, hshape, if_pos hwe]
    case readClean => rw [hword (.inl hwe) hgood, wordAnswered_clean hd, hshape, if_neg (Bool.eq_false_iff.mp hwe)]
    case readCorrected => rw [hword (.inl hwe) hgood, wordAnswered_corrected hd, hshape, if_neg (Bool.eq_false_iff.mp hwe)]
    case uncorrectable => rw [hword hread hgood, wordAnswered_bad hraw, hshape]

end Sys2Proof.Machine
end

section
/-!
Writes that a rollback undoes (R187, R188): which slot a MIRROR write takes, what an UNDO write leaves in the log, and the replay of a log of
one entry.
-/

namespace Sys2Proof.Machine

/-! Slots of a MIRROR word. -/

theorem mem_toggle {l : List Nat} (hl : l.Nodup) (w : Nat) : w ∈ toggle l w ↔ w ∉ l := by
  by_cases hw : w ∈ l
  · rw [toggle, if_pos hw]
    exact iff_of_false hl.not_mem_erase (not_not_intro hw)
  · rw [toggle, if_neg hw]
    exact iff_of_true ((List.mem_orderedInsert _).mpr (.inl rfl)) hw

/-- Toggling its current bit puts a word into its other slot. -/
theorem Creel.slot_of_toggled {v u : Creel} {w : Nat} (hv : v.cur.Nodup) (hu : u.cur = toggle v.cur w) :
    u.slot w = if w ∈ v.cur then w else w + 512 := by
  simp only [Creel.slot, hu, mem_toggle hv, ite_not]

/-- The two slots of a word are two words of the array. -/
theorem Creel.slot_ne_other (v : Creel) (w : Nat) : v.slot w ≠ if w ∈ v.cur then w else w + 512 := by
  unfold Creel.slot
  split <;> omega

section

variable {s : State} {n w : Nat} {d : Dword} {upset : BitVec 72}

/-! MIRROR. -/

section

variable (hmirror : s.creelMode n = modeMirror)

include hmirror

/-- The first write of a word in a pick goes to its other slot, which becomes the current one. -/
theorem writeLogical_mirror_first (hcommitted : s.creelCommitted n = true) (hdirty : w ∉ (s.creel n).dirty) :
    let v := s.creel n
    s.writeLogical n w d upset = (s.setArr n (if w ∈ v.cur then w else w + 512) (freshWord d)).setCreel n
      { v with cur := toggle v.cur w, dirty := v.dirty.orderedInsert (· ≤ ·) w, badPar := v.badPar.erase w } :=
  (if_pos hmirror).trans (if_pos ⟨hcommitted, hdirty⟩)

/-- A further write goes to the current slot. -/
theorem writeLogical_mirror_again (hdirty : w ∈ (s.creel n).dirty) :
    let v := s.creel n
    s.writeLogical n w d upset = (s.setArr n (v.slot w) (freshWord d)).setCreel n { v with badPar := v.badPar.erase w } :=
  (if_pos hmirror).trans (if_neg (fun h => h.2 hdirty))

end

/-! UNDO. -/

theorem logUndo_creel {s : State} (hc : s.Canonical) (n w : Nat) (upset : BitVec 72) :
    (s.logUndo n w upset).creel n = { s.creel n with undo := ⟨w, s.arrWord n w, upset⟩ :: (s.creel n).undo } := by
  have hset := (State.creel_setCreel hc n n { s.creel n with undo := ⟨w, s.arrWord n w, upset⟩ :: (s.creel n).undo }).trans (if_pos rfl)
  unfold State.logUndo
  dsimp only
  split <;> exact hset

theorem State.Canonical.logUndo {s : State} (hc : s.Canonical) (n w : Nat) (upset : BitVec 72) : (s.logUndo n w upset).Canonical :=
  (State.logUndo_follows s n w upset (Follows.refl s)).memory hc

theorem writeLogical_undo (hcommitted : s.creelCommitted n = true) (hundo : s.creelMode n = modeUndo) :
    s.writeLogical n w d upset = (s.logUndo n w upset).setArr n w (freshWord d) :=
  (if_neg (by rw [hundo]; decide)).trans (if_pos ⟨hundo, hcommitted⟩)

end

/-- An entry of which at most one bit has changed gives the old word (R188). -/
theorem UndoEntry.decode_of_weight {e : UndoEntry} (h : weight72 e.flip ≤ 1) : e.decode = some e.old := by
  unfold UndoEntry.decode
  rcases Nat.le_one_iff_eq_zero_or_eq_one.mp h with hnone | hone
  · simp only [hnone]
  · simp only [hone]

/-- The replay of a log of one good entry writes the old word and leaves the log empty. -/
theorem undoRevert_single {s : State} {n : Nat} {e : UndoEntry} {old : ArrWord} (hlog : (s.creel n).undo = [e]) (he : e.decode = some old) :
    s.undoRevert n = (s.setCreel n { s.creel n with undo := [] }).setArr n e.word old := by
  simp only [State.undoRevert, hlog, List.foldl_cons, List.foldl_nil, he, List.erase_nil]

/-- Settles O19: by the slot that the write takes, and by the entry that it leaves in the log. -/
theorem creelWritesCanBeUndone : Obligations.CreelWritesCanBeUndone := by
  intro n w d upset s hc hcommitted _ v t
  refine ⟨fun hmirror hdirty hnodup => ?first, fun hmirror hdirty => ?again, fun hundo => ?undo⟩
  case first =>
    have ht : t = _ := writeLogical_mirror_first hmirror hcommitted hdirty
    have hcreel : t.creel n = { v with cur := toggle v.cur w, dirty := v.dirty.orderedInsert (· ≤ ·) w, badPar := v.badPar.erase w } := by
      rw [ht]
      exact (State.creel_setCreel (hc.setArr _ _ _) n n _).trans (if_pos rfl)
    have hword (k : Nat) : t.arrWord n k = if 1024 * n + k = 1024 * n + (if w ∈ v.cur then w else w + 512) then freshWord d else s.arrWord n k := by
      rw [ht]
      exact State.arrWord_setArr hc n _ n k _
    have hslot : (t.creel n).slot w = if w ∈ v.cur then w else w + 512 := Creel.slot_of_toggled hnodup (congrArg Creel.cur hcreel)
    have hother := v.slot_ne_other w
    refine ⟨?_, ?_, ?_, ?_⟩
    · rw [hword, hslot, if_pos rfl]
    · rw [hslot]
      exact hother.symm
    · rw [hword, if_neg (fun h => hother (Nat.add_left_cancel h))]
    · rw [hcreel]
      exact (List.mem_orderedInsert _).mpr (.inl rfl)
  case again =>
    have ht : t = _ := writeLogical_mirror_again hmirror hdirty
    rw [ht]
    exact ⟨(State.arrWord_setArr hc n _ n _ _).trans (if_pos rfl), (State.creel_setCreel (hc.setArr _ _ _) n n _).trans (if_pos rfl)⟩
  case undo =>
    have ht : t = (s.logUndo n w upset).setArr n w (freshWord d) := writeLogical_undo hcommitted hundo
    have hct : t.Canonical := ht ▸ (hc.logUndo n w upset).setArr n w (freshWord d)
    have hlog : (t.creel n).undo = ⟨w, s.arrWord n w, upset⟩ :: v.undo := by
      rw [ht]
      exact congrArg Creel.undo (logUndo_creel hc n w upset)
    refine ⟨?_, hlog, fun hempty hweight => ?_⟩
    · rw [ht]
      exact (State.arrWord_setArr (hc.logUndo n w upset) n w n w _).trans (if_pos rfl)
    · rw [hempty] at hlog
      rw [undoRevert_single hlog (UndoEntry.decode_of_weight hweight)]
      exact ⟨(State.arrWord_setArr (hct.setCreel n _) n w n w _).trans (if_pos rfl),
        congrArg Creel.undo ((State.creel_setCreel hct n n _).trans (if_pos rfl))⟩

end Sys2Proof.Machine
end

section
/-!
Corrected words, the scrubber, the bus window and CLR_COUNTS of a creel (R194 to R202): a word that goes back is clean, the scrubber reads its
next word, and each command of WIN_CTRL is an accepted write with its operation on the array.
-/

namespace Sys2Proof.Machine

/-! Words that are read and written back. -/

theorem correctedWriteback_head {n w : Nat} {rest : List Nat} {d : Dword} {s : State} (hqueue : (s.creel n).writeback = w :: rest)
    (hpowered : s.vfabRemoved (creelPanel n) = false) (hword : (s.arrWord n w).decode = .corrected d) :
    correctedWriteback n s = (s.setCreel n { s.creel n with writeback := rest }).setArr n w (freshWord d) := by
  simp only [correctedWriteback, hqueue, hpowered, hword, Bool.false_eq_true, if_false]

/-- The scrubber goes on to its next word, and its present word is clean, corrected or uncorrectable (R196). -/
theorem scrubRead_on {n : Nat} {s : State} (hon : s.fld (creelBase n + 0x048) 23 0 ≠ 0) (hpowered : s.vfabRemoved (creelPanel n) = false) :
    let v := s.creel n
    let u := s.setCreel n { v with scrubPos := (v.scrubPos + 1) % 1024 }
    (∀ d, (s.arrWord n v.scrubPos).decode = .clean d → scrubRead n s = u) ∧
    (∀ d, (s.arrWord n v.scrubPos).decode = .corrected d → scrubRead n s = u.noteCorrected n v.scrubPos) ∧
    (∀ raw, (s.arrWord n v.scrubPos).decode = .bad raw → scrubRead n s = u.noteUe n v.scrubPos 4 2) := by
  intro v u
  have hruns : ¬ (s.fld (creelBase n + 0x048) 23 0 = 0 ∨ s.vfabRemoved (creelPanel n) = true) := not_or.mpr ⟨hon, Bool.eq_false_iff.mp hpowered⟩
  refine ⟨fun d hd => ?clean, fun d hd => ?corrected, fun raw hraw => ?bad⟩
  case clean => simp only [scrubRead, if_neg hruns, u, v, hd]
  case corrected => simp only [scrubRead, if_neg hruns, u, v, hd]
  case bad => simp only [scrubRead, if_neg hruns, u, v, hraw]

/-! WIN_CTRL (Table 7-6). -/

theorem winCommand_fields {op word : Nat} (view : Bool) (hop : op < 4) (hword : word < 1024) :
    fieldOf (winCommand op view word) 31 30 = op ∧ bitOf (winCommand op view word) 10 = view ∧ fieldOf (winCommand op view word) 9 0 = word := by
  have hflag : view.toNat < 2 := Bool.toNat_lt view
  have hvalue : (winCommand op view word).toNat = op * 2 ^ 30 + view.toNat * 2 ^ 10 + word := by
    rw [winCommand, BitVec.toNat_ofNat, place, flag]
    omega
  refine ⟨?_, ?_, ?_⟩
  · rw [fieldOf, hvalue, Nat.shiftRight_eq_div_pow]
    omega
  · rw [bitOf, hvalue, Nat.testBit_eq_decide_div_mod_eq]
    have hbit : (op * 2 ^ 30 + view.toNat * 2 ^ 10 + word) / 2 ^ 10 % 2 = view.toNat := by omega
    rw [hbit]
    cases view <;> rfl
  · rw [fieldOf, hvalue]
    omega

section

variable {m : Nat} {n : Fin 8192} {v : Word} {s : State}

/-- The record of WIN_CTRL leaves the settings of the creel and the state of its owner. -/
theorem recorded_winWaits (hc : s.Canonical) : (s.recorded m ⟨.creel, n⟩ 0x060 v).winWaits n = s.winWaits n := by
  have hreg : (s.recorded m ⟨.creel, n⟩ 0x060 v).reg (rCreelCfg n) = s.reg (rCreelCfg n) := by
    have hlog : regAddr .log 0 0x014 < 0x0040_0000 := by decide
    have hevent : regAddr .event 0 0x048 < 0x0040_0000 := by decide
    have hbase : Page.base ⟨.creel, n⟩ = creelBase n := rfl
    have hcfg : rCreelCfg n = creelBase n + 0x040 := rfl
    have hlow : 0x0040_0000 ≤ creelBase n := Nat.le_add_right _ _
    exact (recorded_regs hc (fun h => by cases h) (by decide) rfl (by decide) n.isLt).2 _ (by omega) (by omega) (by omega) (by omega)
  have hbolts : (s.recorded m ⟨.creel, n⟩ 0x060 v).bolts = s.bolts := by rw [recorded_frame (fun h => by cases h) rfl]
  simp only [State.winWaits, State.bolt, State.creelOwner, State.fld, hreg, hbolts]
  rfl

theorem effectAt_window (old : Word) : State.effectAt m ⟨.creel, n⟩ 0x060 old v s = windowOp m n v s := by
  change State.creelEffect m n 0x060 v s = _
  rw [State.creelEffect, if_neg (by decide), if_neg (by decide), if_pos rfl]

/-- An accepted WIN_CTRL whose creel is in no rollback performs its operation (R197, R199). -/
theorem winCommand_access {op word : Nat} {view : Bool} (hc : s.Canonical) (hop : op < 4) (hword : word < 1024) (hfree : s.winWaits n = false)
    (ha : s.Accepts m ⟨.creel, n⟩ 0x060 (winCommand op view word)) :
    access (busWrite m (creelBase n + 0x060) 15 (winCommand op view word)) s =
      (winOp n op view word (s.recorded m ⟨.creel, n⟩ 0x060 (winCommand op view word))).done m ⟨.creel, n⟩ 0x060 := by
  obtain ⟨hfop, hfview, hfword⟩ := winCommand_fields view hop hword
  have effect (old : Word) : State.effectAt m ⟨.creel, n⟩ 0x060 old (winCommand op view word)
      (s.recorded m ⟨.creel, n⟩ 0x060 (winCommand op view word)) =
      winOp n op view word (s.recorded m ⟨.creel, n⟩ 0x060 (winCommand op view word)) := by
    rw [effectAt_window, windowOp, recorded_winWaits hc, hfree, hfop, hfview, hfword, if_neg (fun h => Bool.false_ne_true h.2)]
  have hbegun : (s.begun ⟨.creel, n⟩ 0x060).winWaits n = false := by
    rw [recorded_begun (fun h => by cases h)]
    exact hfree
  have hwaits (old : Word) : ((s.begun ⟨.creel, n⟩ 0x060).effectOf m ⟨.creel, n⟩ 0x060 old (winCommand op view word)).waits = false := by
    simp only [State.effectOf, hbegun, Bool.and_false, Bool.false_or]
    rfl
  have written := access_write ha n.isLt (by decide) (by decide) rfl (fun h => by cases h.1) (hwaits _)
  rwa [effect] at written

end

/-! CLR_COUNTS. -/

/-- The counts of a creel: ECC_COUNT, UE_ADDR and LOG_STATS (R202). -/
def creelCounts (n : Nat) : List Nat := [creelBase n + 0x04C, creelBase n + 0x050, creelBase n + 0x054]

theorem creelClear_eq (n : Nat) (s : State) : creelClear n s = (creelCounts n).foldl (fun s a => s.setReg a 0) s := by
  simp only [creelClear, creelCounts, List.foldl_cons, List.foldl_nil]

theorem creelClrCounts_next (m : Master) (n : Fin 8192) (v : Word) (s : State) (hc : s.Canonical) (ha : s.Accepts m.id ⟨.creel, n⟩ 0x048 v)
    (hclear : bitOf v 31 = true) :
    ∃ t, exec (.creelClrCounts m n v) s = .next t ∧ (∀ a ∈ creelCounts n, t.reg a = 0) ∧ t.resp.code = 0 ∧
      t = { s with regs := t.regs, ev := t.ev, log := t.log, resp := t.resp, jtag := { s.jtag with out := t.jtag.out } } := by
  have effect (old : Word) (u : State) : State.effectAt m.id ⟨.creel, n⟩ 0x048 old v u = creelClear n u := if_pos hclear
  have written := access_write ha n.isLt (by decide) (by decide) rfl (fun h => by cases h.1) rfl
  rw [effect, creelClear_eq] at written
  have hnoserdes : PageKind.creel = .serdes → 0x048 < 0x100 := fun _ => by decide
  obtain ⟨-, hzero, -, hframe⟩ := State.zero_regs (creelCounts n) _ (hc.recorded (m := m.id) (p := ⟨.creel, n⟩) (v := v) hnoserdes)
  refine ⟨_, congrArg Host.Outcome.next written, fun a hmem => (State.done_reg _ _ _ _ _).trans (hzero a hmem), State.done_code _ _ _ _,
    State.done_frame _ _ _ ?_⟩
  rw [hframe, recorded_frame (p := ⟨.creel, n⟩) hnoserdes rfl]

/-- Settles O20: a word that goes back by its fresh code, the scrubber by its present word, WIN_CTRL and CLR_COUNTS by their accepted
writes. -/
theorem creelScrubberAndWindowComplete : Obligations.CreelScrubberAndWindowComplete := by
  refine ⟨fun n s hc => ⟨fun w rest d hqueue hpowered hword => ?writeback, fun hon hpowered => ?scrub⟩, fun m n word s hc => ?page⟩
  case writeback =>
    have harr := (State.arrWord_setArr (hc.setCreel n { s.creel n with writeback := rest }) n w n w (freshWord d)).trans (if_pos rfl)
    refine ⟨_, congrArg Host.Outcome.next (correctedWriteback_head hqueue hpowered hword), harr, ?_,
      (State.creel_setCreel hc n n _).trans (if_pos rfl), rfl⟩
    rw [harr, decode_fresh]
  case scrub =>
    obtain ⟨hclean, hcorrected, hbad⟩ := scrubRead_on hon hpowered
    exact ⟨fun d hd => congrArg Host.Outcome.next (hclean d hd), fun d hd => congrArg Host.Outcome.next (hcorrected d hd),
      fun raw hraw => congrArg Host.Outcome.next (hbad raw hraw)⟩
  case page =>
    intro p w hfree
    have window {op : Nat} {view : Bool} (hop : op < 4) (ha : s.Accepts m.id p 0x060 (winCommand op view w)) :=
      winCommand_access hc hop word.isLt hfree ha
    refine ⟨fun view ha => congrArg Host.Outcome.next (window (by decide) ha), fun ha => congrArg Host.Outcome.next (window (by decide) ha),
      fun ha => congrArg Host.Outcome.next (window (by decide) ha), fun v ha hclear => ?clear⟩
    case clear =>
      obtain ⟨t, hexec, hzero, hcode, hframe⟩ := creelClrCounts_next m n v s hc ha hclear
      exact ⟨t, hexec, hzero _ (by simp [creelCounts]), hzero _ (by simp [creelCounts]), hzero _ (by simp [creelCounts]), hcode, hframe⟩

end Sys2Proof.Machine
end

section
/-!
A push and a pop of a queue without packets and tags (R210 to R212, R216, R221): what each leaves of the array and of the items, and LEVEL between
them.
-/

namespace Sys2Proof.Machine

/-! Pointers (R210, R212). -/

theorem ptrDiff_self (p : Nat) : ptrDiff p p = 0 := by
  rw [ptrDiff, Nat.add_sub_cancel_left]

section

variable {p : Nat} (hp : p < 2048)

include hp

theorem ptrDiff_advanced : ptrDiff (ptrAdd p 1) p = 1 := by
  unfold ptrDiff ptrAdd
  omega

theorem ptrDiff_passed : ptrDiff p (ptrAdd p 1) = 2047 := by
  unfold ptrDiff ptrAdd
  omega

end

/-- A flush mark that RP has reached or passed does not move it (R212). -/
theorem QItems.rpEff_of_flushed {v : QItems} (h : ptrDiff v.fm v.rp = 0 ∨ 1024 < ptrDiff v.fm v.rp) : v.rpEff = v.rp := by
  rw [QItems.rpEff, if_neg]
  omega

/-- RP that has been moved to the flush mark stays there. -/
theorem QItems.rpEff_rpEff (v : QItems) : ({ v with rp := v.rpEff } : QItems).rpEff = v.rpEff := by
  by_cases hahead : 1 ≤ ptrDiff v.fm v.rp ∧ ptrDiff v.fm v.rp ≤ 1024
  · have hmark : v.rpEff = v.fm := if_pos hahead
    rw [hmark]
    exact rpEff_of_flushed (.inl (ptrDiff_self v.fm))
  · have hstay : v.rpEff = v.rp := if_neg hahead
    rw [hstay, hstay]

/-! Items of a queue. -/

theorem State.queue_setQueue {s : State} (hc : s.Canonical) (n : Nat) (q : Queue) : (s.setQueue n q).queue n = q := by
  rw [State.queue, State.setQueue, State.creel_setCreel hc, if_pos rfl]

theorem State.Canonical.setQueue {s : State} (hc : s.Canonical) (n : Nat) (q : Queue) : (s.setQueue n q).Canonical := hc.setCreel n _

section

variable {n : Nat} {s : State}

theorem State.qLevel_uncommitted (hwr : s.wrCommitted n = false) :
    s.qLevel n = ptrDiff (s.queue n).live.pc (s.queue n).live.rpEff := by
  simp only [State.qLevel, State.visEnd, hwr, Bool.not_false, Bool.true_or, if_true]

theorem State.qSpace_uncommitted (hrd : s.rdCommitted n = false) :
    s.qSpace n = 1024 - ptrDiff (s.queue n).live.wp (s.queue n).live.rpEff := by
  simp only [State.qSpace, State.freeStart, hrd, Bool.false_eq_true, if_false]

/-- The queue with its RP moved to the flush mark (R212). -/
def State.caughtUp (s : State) (n : Nat) : State :=
  s.setQueue n ((s.queue n).setRd { (s.queue n).live with rp := (s.queue n).live.rpEff })

theorem State.Canonical.caughtUp (hc : s.Canonical) : (s.caughtUp n).Canonical := hc.setQueue n _

theorem State.caughtUp_live (hc : s.Canonical) :
    ((s.caughtUp n).queue n).live = { (s.queue n).live with rp := (s.queue n).live.rpEff } := by
  rw [State.caughtUp, State.queue_setQueue hc]
  rfl

/-- Moving RP to the flush mark changes no LEVEL. -/
theorem State.caughtUp_qLevel (hc : s.Canonical) (hwr : s.wrCommitted n = false) : (s.caughtUp n).qLevel n = s.qLevel n := by
  have hwr' : (s.caughtUp n).wrCommitted n = false := hwr
  rw [State.qLevel_uncommitted hwr, State.qLevel_uncommitted hwr', State.caughtUp_live hc, QItems.rpEff_rpEff]

/-! Push and pop without packets. -/

/-- A queue without packets and tags stores the low WIDTH bits of an element and no flag (Table 8-1). -/
theorem storedWord_plain (htagged : s.qTagged n = false) (elem : Dword) :
    s.storedWord n elem false = BitVec.ofNat 64 (elem.toNat % 2 ^ s.qWidth n) := by
  simp only [State.storedWord, htagged, Bool.false_and, Bool.false_eq_true, if_false]
  rfl

theorem elementOf_plain (hpacket : s.qPacket n = false) (htagged : s.qTagged n = false) (w : Dword) :
    s.elementOf n w = (BitVec.ofNat 64 (w.toNat % 2 ^ s.qWidth n), false) := by
  simp only [State.elementOf, htagged, hpacket, Bool.false_and, Bool.false_eq_true, if_false]

/-- The element that was stored is the one that is read. -/
theorem elementOf_storedWord (hpacket : s.qPacket n = false) (htagged : s.qTagged n = false) (elem : Dword) :
    s.elementOf n (s.storedWord n elem false) = (BitVec.ofNat 64 (elem.toNat % 2 ^ s.qWidth n), false) := by
  have hfits : elem.toNat % 2 ^ s.qWidth n < 2 ^ 64 := Nat.lt_of_le_of_lt (Nat.mod_le _ _) elem.isLt
  rw [elementOf_plain hpacket htagged, storedWord_plain htagged, BitVec.toNat_ofNat, Nat.mod_eq_of_lt hfits, Nat.mod_mod]

/-- What an accepted push of a queue without packets leaves: the element is stored, and WP and PC pass it (R210, R221). -/
def State.pushed (s : State) (n : Nat) (elem : Dword) : State :=
  let v := (s.queue n).live
  (s.setArr n (v.wp % 1024) (freshWord (s.storedWord n elem false))).setQueue n
    ((s.queue n).setWr { v with wp := ptrAdd v.wp 1, pc := ptrAdd v.wp 1, open_ := false })

/-- What a pop of the element `e` leaves: RP passes it, and it is the last element (R210, R216). -/
def State.popped (s : State) (n : Nat) (e : Dword) : State :=
  let u := s.caughtUp n
  u.setQueue n ((u.queue n).setRd { (u.queue n).live with rp := ptrAdd (s.queue n).live.rpEff 1, last := e })

theorem queueStore_plain (hpacket : s.qPacket n = false) (horphan : (s.queue n).live.orphan = false) (hroom : s.qSpace n ≠ 0) (kind : Nat)
    (elem : Dword) (last abort : Bool) : queueStore n kind elem last abort false s = (s.pushed n elem, .accepted) := by
  simp only [queueStore, State.tooLong, hpacket, horphan, hroom, Bool.and_false, Bool.false_and, Bool.false_eq_true, false_and, true_or,
    if_false, if_true, State.pushed]

theorem queueTake_clean {d : Dword} (hc : s.Canonical) (hwr : s.wrCommitted n = false) (hrun : s.popStopped n = false)
    (hlevel : s.qLevel n ≠ 0) (hword : (s.arrWord n ((s.queue n).live.rpEff % 1024)).decode = .clean d) (kind source : Nat) :
    queueTake n kind source s = (s.popped n (s.elementOf n d).1, .got ⟨(s.elementOf n d).1, false, (s.elementOf n d).2, false⟩) := by
  have hgoes : ¬ ((s.caughtUp n).qLevel n = 0 ∨ (s.caughtUp n).popStopped n = true) := by
    rw [State.caughtUp_qLevel hc hwr]
    exact not_or.mpr ⟨hlevel, Bool.eq_false_iff.mp hrun⟩
  have hfound : ((s.caughtUp n).arrWord n ((s.queue n).live.rpEff % 1024)).decode = .clean d := hword
  simp only [State.caughtUp] at hgoes hfound
  simp only [queueTake, if_neg hgoes, hfound]
  rfl

variable (hc : s.Canonical) (elem : Dword)

include hc

theorem State.pushed_live : ((s.pushed n elem).queue n).live =
    { (s.queue n).live with wp := ptrAdd (s.queue n).live.wp 1, pc := ptrAdd (s.queue n).live.wp 1, open_ := false } := by
  rw [State.pushed, State.queue_setQueue (hc.setArr n _ _)]
  rfl

theorem State.pushed_arrWord :
    (s.pushed n elem).arrWord n ((s.queue n).live.wp % 1024) = freshWord (s.storedWord n elem false) :=
  (State.arrWord_setArr hc n _ n _ _).trans (if_pos rfl)

theorem State.Canonical.pushed : (s.pushed n elem).Canonical := (hc.setArr n _ _).setQueue n _

theorem State.popped_live : ((s.popped n elem).queue n).live =
    { (s.queue n).live with rp := ptrAdd (s.queue n).live.rpEff 1, last := elem } := by
  rw [State.popped, State.queue_setQueue hc.caughtUp]
  change ((s.caughtUp n).queue n).live.takeRd _ = _
  rw [State.caughtUp_live hc]
  rfl

/-- A push onto an empty queue (R211, R212). -/
theorem State.pushed_qLevel (hwr : s.wrCommitted n = false) (hbound : (s.queue n).live.wp < 2048)
    (hempty : (s.queue n).live.rpEff = (s.queue n).live.wp) : (s.pushed n elem).qLevel n = 1 := by
  have heff : ((s.pushed n elem).queue n).live.rpEff = (s.queue n).live.wp := by rw [State.pushed_live hc]; exact hempty
  rw [State.qLevel_uncommitted (s := s.pushed n elem) hwr, heff, State.pushed_live hc]
  exact ptrDiff_advanced hbound

/-- A pop of the only element, where no flush mark is ahead of RP (R211, R212). -/
theorem State.popped_qLevel (hwr : s.wrCommitted n = false) (hbound : (s.queue n).live.rp < 2048)
    (hmark : (s.queue n).live.fm = (s.queue n).live.rp) (hlast : (s.queue n).live.pc = ptrAdd (s.queue n).live.rp 1) :
    (s.popped n elem).qLevel n = 0 := by
  have hrp : (s.queue n).live.rpEff = (s.queue n).live.rp := QItems.rpEff_of_flushed (.inl (hmark ▸ ptrDiff_self _))
  have hpassed : 1024 < ptrDiff (s.queue n).live.fm (ptrAdd (s.queue n).live.rp 1) := by
    rw [hmark, ptrDiff_passed hbound]
    decide
  have hlive := State.popped_live hc (n := n) elem
  rw [hrp] at hlive
  rw [State.qLevel_uncommitted (s := s.popped n elem) hwr, hlive, QItems.rpEff_of_flushed (.inr hpassed), hlast]
  exact ptrDiff_self _

end

/-- Settles O22: the push is stored where the pop reads, and both ends advance from the same place. -/
theorem queueKeepsItsElements : Obligations.QueueKeepsItsElements := by
  intro n kind kind2 source elem last abort s hc hpacket htagged hwr hrd hrun q horphan hopen hcommitted hbound hempty hmark
  have hrp : q.live.rp = q.live.wp := (QItems.rpEff_of_flushed (.inl (hmark ▸ ptrDiff_self _))).symm.trans hempty
  have hroom : s.qSpace n ≠ 0 := by
    rw [State.qSpace_uncommitted hrd, show (s.queue n).live.rpEff = (s.queue n).live.wp from hempty, ptrDiff_self]
    decide
  let t := s.pushed n elem
  have htc : t.Canonical := hc.pushed elem
  have hlive := State.pushed_live (n := n) hc elem
  have hread : (t.queue n).live.rpEff = q.live.wp := by rw [hlive]; exact hempty
  have hlevel : t.qLevel n = 1 := State.pushed_qLevel hc elem hwr hbound hempty
  have hword : (t.arrWord n ((t.queue n).live.rpEff % 1024)).decode = .clean (s.storedWord n elem false) := by
    rw [hread, State.pushed_arrWord hc elem, decode_fresh]
  have htake := queueTake_clean htc hwr hrun (by rw [hlevel]; decide) hword kind2 source
  rw [show t.elementOf n _ = _ from elementOf_storedWord hpacket htagged elem] at htake
  refine ⟨t, _, queueStore_plain hpacket horphan hroom kind elem last abort, hlevel, by rw [hlive], htake, ?level, ?pointer⟩
  case level =>
    apply State.popped_qLevel htc _ hwr <;> rw [hlive]
    · exact hrp.trans_lt hbound
    · exact hmark
    · exact congrArg (ptrAdd · 1) hrp.symm
  case pointer => rw [State.popped_live htc, hread]

end Sys2Proof.Machine
end

section
/-!
The commands of a creel queue (R215 to R231): the answer of a fabric end by what the controller makes of its token, and each register of the bus
end by its own effect.
-/

namespace Sys2Proof.Machine

/-! Fabric ends. -/

/-- The answer of a push token: it waits, its end's rollback abandons it, or it is acknowledged and answered (R215, R217). -/
def State.pushAnswered (s : State) (n : Nat) : PushEnd → State
  | .mustWait => s.setPort n .a { (s.creel n).portA with parked := true }
  | .faulty => s.setPort n .a { (s.creel n).portA with parked := false }
  | .accepted => (s.setPort n .a { (s.creel n).portA with ack := true }).respond n .a ⟨0, false, false, false⟩
  | .refused => (s.setPort n .a { (s.creel n).portA with ack := true }).respond n .a ⟨0, true, false, false⟩

/-- The answer of a pop token: it waits, its end's rollback abandons it, or it is acknowledged with the element and its flags (R215). -/
def State.popAnswered (s : State) (n : Nat) : PopEnd → State
  | .mustWait => s.setPort n .b { (s.creel n).portB with parked := true }
  | .faulty => s.setPort n .b { (s.creel n).portB with parked := false }
  | .got r => (s.setPort n .b { (s.creel n).portB with ack := true }).respond n .b ⟨r.value, r.ue, r.nv, r.plast⟩

section

variable {n : Nat} {q : CReq} {s : State} (hqueue : s.isQueue n = true)

include hqueue

theorem fabricPush_live (hreq : (s.creel n).portA.req = some q) (hlive : s.portLive n .a = true) (perr : Bool) :
    let a := queuePushOp n (s.wrKind n) q.wdata q.last q.abort perr s
    fabricPush n perr (s.creel n).portA.parked s = a.1.pushAnswered n a.2 := by
  intro a
  simp only [fabricPush, hreq, hqueue, hlive, beq_self_eq_true, Bool.and_self, if_true]
  rfl

theorem fabricPop_live (hreq : (s.creel n).portB.req = some q) (hlive : s.portLive n .b = true) :
    let a := queuePopOp n (s.rdKind n) 2 s
    fabricPop n (s.creel n).portB.parked s = a.1.popAnswered n a.2 := by
  intro a
  simp only [fabricPop, hreq, hqueue, hlive, beq_self_eq_true, Bool.and_self, if_true]
  rfl

end

/-! The bus end. -/

section

variable {m off : Nat} {n : Fin 8192} {v : Word} {s : State}

/-- An accepted write of the page that opens no window operation has the effect of its register (R43). -/
theorem access_creelPage (ha : s.Accepts m ⟨.creel, n⟩ off v) (ho : off < 0x1000) (h4 : off % 4 = 0) (hwindow : off ≠ 0x060) :
    access (busWrite m (creelBase n + off) 15 v) s =
      (State.creelEffect m n off v (s.recorded m ⟨.creel, n⟩ off v)).done m ⟨.creel, n⟩ off := by
  have hwaits (old : Word) : ((s.begun ⟨.creel, n⟩ off).effectOf m ⟨.creel, n⟩ off old v).waits = false := by
    simp [State.effectOf, hwindow]
  have effect (old : Word) (u : State) : State.effectAt m ⟨.creel, n⟩ off old v u = State.creelEffect m n off v u := rfl
  have written := access_write ha n.isLt ho h4 (decide_eq_false (fun h => by cases h.1)) (fun h => by cases h.1) (hwaits _)
  rwa [effect] at written

theorem creelEffect_push (u : State) : State.creelEffect m n 0x158 v u = (busPush n m (pushLast v) (pushAbort v) u).1 := by
  rw [State.creelEffect, if_neg (by decide), if_neg (by decide), if_neg (by decide), if_neg (by decide), if_pos rfl]

/-- Q_PUSH pushes its staged element by its KIND (R231). -/
theorem access_busPush (ha : s.Accepts m ⟨.creel, n⟩ 0x158 v) : access (busWrite m (creelBase n + 0x158) 15 v) s =
    (busPush n m (pushLast v) (pushAbort v) (s.recorded m ⟨.creel, n⟩ 0x158 v)).1.done m ⟨.creel, n⟩ 0x158 := by
  rw [access_creelPage ha (by decide) (by decide) (by decide), creelEffect_push]

/-- Q_POP_LO pops (R231). -/
theorem access_busPop (ha : s.AcceptsRead m ⟨.creel, n⟩ 0x160) : access (busRead m (creelBase n + 0x160)) s =
    (busPop n m s.forgetAnswer).1.readDone m ⟨.creel, n⟩ 0x160 (busPop n m s.forgetAnswer).2 := by
  have hread := access_read ha n.isLt (by decide) (by decide)
  rwa [if_pos ⟨rfl, rfl⟩] at hread

end

/-- The counts of a queue and its crossing records: Q_OVR_UND to Q_WML_TIME (Table 8-10). -/
def queueCounts (n : Nat) : List Nat := [0x124, 0x128, 0x12C, 0x130, 0x134, 0x138, 0x13C, 0x140].map (creelBase n + ·)

theorem queueClearCounts_eq (n : Nat) (s : State) : queueClearCounts n s = (queueCounts n).foldl (fun s a => s.setReg a 0) s := by
  rw [queueCounts, List.foldl_map, queueClearCounts]

theorem qClrCounts_next (m : Master) (n : Fin 8192) (s : State) (hc : s.Canonical) (ha : s.Accepts m.id ⟨.creel, n⟩ 0x108 4) :
    ∃ t, exec (.qClrCounts m n) s = .next t ∧ (∀ a ∈ queueCounts n, t.reg a = 0) ∧ t.resp.code = 0 ∧
      t = { s with regs := t.regs, ev := t.ev, log := t.log, resp := t.resp, jtag := { s.jtag with out := t.jtag.out } } := by
  have hnoserdes : PageKind.creel = .serdes → 0x108 < 0x100 := fun h => by cases h
  have written : access (busWrite m.id (creelBase n + 0x108) 15 4) s =
      (queueClearCounts n (s.recorded m.id ⟨.creel, n⟩ 0x108 4)).done m.id ⟨.creel, n⟩ 0x108 :=
    access_creelPage ha (by decide) (by decide) (by decide)
  rw [queueClearCounts_eq] at written
  obtain ⟨-, hzero, -, hframe⟩ := State.zero_regs (queueCounts n) _ (hc.recorded (m := m.id) (p := ⟨.creel, n⟩) (v := 4) hnoserdes)
  refine ⟨_, congrArg Host.Outcome.next written, fun a hmem => (State.done_reg _ _ _ _ _).trans (hzero a hmem), State.done_code _ _ _ _,
    State.done_frame _ _ _ ?_⟩
  rw [hframe, recorded_frame (p := ⟨.creel, n⟩) hnoserdes rfl]

/-- Settles O21: a fabric end by the answer of its token, the bus end by the accepted access of its registers. -/
theorem queueEndsComplete : Obligations.QueueEndsComplete := by
  refine ⟨fun n perr upset q s hqueue => ⟨fun hreq hlive => ?push, fun hreq hlive => ?pop⟩, fun m n perr upset s hc => ?bus⟩
  case push =>
    intro a t
    have htaken : fabricPush n perr (s.creel n).portA.parked s = t := fabricPush_live hqueue hreq hlive perr
    exact ⟨fun hnew => congrArg (fun u : State => Host.Outcome.next (upsetQueue n upset u).settle) (hnew ▸ htaken),
      fun hwaiting => congrArg (fun u : State => Host.Outcome.next u.settle) (hwaiting ▸ htaken)⟩
  case pop =>
    intro a t
    have htaken : fabricPop n (s.creel n).portB.parked s = t := fabricPop_live hqueue hreq hlive
    exact ⟨fun hnew => congrArg (fun u : State => Host.Outcome.next (upsetQueue n upset u).settle) (hnew ▸ htaken),
      fun hwaiting => congrArg (fun u : State => Host.Outcome.next u.settle) (hwaiting ▸ htaken)⟩
  case bus =>
    intro p u e
    have flush {v : Word} (ha : s.Accepts m.id p 0x108 v) := access_creelPage ha (by decide) (by decide) (by decide)
    refine ⟨fun ha => congrArg (fun u : State => Host.Outcome.next (upsetQueue n upset u)) (access_busPush ha),
      fun ha => congrArg Host.Outcome.next (access_busPush ha), fun ha => congrArg Host.Outcome.next (access_busPush ha),
      fun ha => congrArg (fun u : State => Host.Outcome.next (upsetQueue n upset u)) (access_busPop ha),
      fun ha => congrArg Host.Outcome.next (flush ha), fun ha => congrArg Host.Outcome.next (flush ha), fun ha => ?clear⟩
    case clear =>
      obtain ⟨t, hexec, hzero, hcode, hframe⟩ := qClrCounts_next m n s hc ha
      exact ⟨t, hexec, fun o ho => hzero _ (List.mem_map_of_mem ho), hcode, hframe⟩

end Sys2Proof.Machine
end
section
/-!
The handshakes and commands of a twill block (R233 to R249): each handshake by the level of its wire, the cascade's token, and the accepted
writes of TW_INJECT and of TW_CMD.
-/

namespace Sys2Proof.Machine

/-! The handshakes of a block. -/

section

variable {n : Fin 4096} {s : State} (hlive : s.twillLive n = true)

include hlive

theorem twillCapture_next (hlevel : s.twillLevel n 0 = true) (hrq : (s.twill n).rq = false) (hroom : (s.twill n).inHand < 8) :
    exec (.twillOperationCapture n) s = .next (s.setTwill n
      { (s.twill n) with rq := true, ack := true, ops := (s.twill n).ops ++ [{ s.twillOperands n with
          rho := (s.twOperands n (s.twillOperands n)).map residue }] }).settle :=
  congrArg Host.Outcome.next ((if_pos hlevel).trans
    (congrArg State.settle (if_pos (by simp only [hlive, hrq, hroom, Bool.not_false, decide_true, Bool.and_self]))))

theorem twillReqFall_next (hlevel : s.twillLevel n 0 = false) (hrq : (s.twill n).rq = true) :
    exec (.twillRqReqFall n) s = .next (s.setTwill n { (s.twill n) with rq := false, ack := false }).settle :=
  congrArg Host.Outcome.next ((if_neg (Bool.eq_false_iff.mp hlevel)).trans
    (congrArg State.settle (if_pos (by simp only [hlive, hrq, Bool.and_self]))))

theorem twillToken_next {x : TwToken} {rest : List TwToken} (hlink : (s.twill n).link = x :: rest) (hcasc : s.twCascIn n = true)
    (hbase : (s.twill n).base = none) (hops : (s.twill n).ops ≠ []) :
    exec (.twillCascadeToken n) s = .next (s.setTwill n { (s.twill n) with link := rest, base := some x }) := by
  have htaken : twillToken n s = s.setTwill n { (s.twill n) with link := rest, base := some x } := by
    simp only [twillToken, hlink]
    exact if_pos (by simp only [hlive, hcasc, hbase, hops, Option.isNone_none, ne_eq, not_false_eq_true, decide_true, Bool.and_self])
  exact congrArg Host.Outcome.next htaken

theorem twillAck_next (hlevel : s.twillLevel n 1 = true) (hresps : (s.twill n).resps ≠ []) (hlow : (s.twill n).rsLow = false) :
    exec (.twillResponseAck n) s = .next
      (s.setTwill n { (s.twill n) with resps := (s.twill n).resps.drop 1, rsLow := true }).settle :=
  congrArg Host.Outcome.next ((if_pos hlevel).trans
    (congrArg State.settle (if_pos (by simp only [hlive, hresps, hlow, ne_eq, not_false_eq_true, decide_true, Bool.not_false, Bool.and_self]))))

end

/-- A command that writes one block and lets the wires settle. -/
theorem twill_settles {c : Instr} {n : Nat} {v : Twill} {s : State} (hc : s.Canonical) (h : exec c s = .next (s.setTwill n v).settle) :
    ∃ t, exec c s = .next t ∧ CellsMoved (s.setTwill n v) t [] :=
  exec_answers h (settle_moved (hc.setTwill n v))

/-! The page of 16 blocks. -/

theorem rTwErrs_of_page {k i : Nat} (hi : i < 16) : rTwErrs (16 * k + i) = 0x0011_0000 + 0x1000 * k + 0x110 + 0x20 * i := by
  simp only [rTwErrs, twillReg, regAddr, PageKind.info]
  omega

/-- TW_INJECT arms what its fields name, and has no effect beside its record (R247). -/
theorem twInject_next (m : Master) (n : Fin 4096) (v : Word) (s : State) (hc : s.Canonical) :
    let p : Page := ⟨.twill, n / 16⟩
    let off := 0x114 + 0x20 * (n.val % 16)
    s.Accepts m.id p off v →
    ∃ t, exec (.twInject m n v) s = .next t ∧ t = (s.recorded m.id p off v).done m.id p off ∧
      t.reg (rTwInject n) = writtenWord (fieldsAt p off) (s.reg (rTwInject n)) v := by
  intro p off ha
  have hn : p.inst < p.kind.info.2.1 := (by omega : n.val / 16 < 256)
  have hoff : off < 0x1000 := (by omega : 0x114 + 0x20 * (n.val % 16) < 0x1000)
  have haligned : off % 4 = 0 := (by omega : (0x114 + 0x20 * (n.val % 16)) % 4 = 0)
  have hcmd : off ≠ 0x040 := (by omega : 0x114 + 0x20 * (n.val % 16) ≠ 0x040)
  have hheader : off ≠ 0x020 := (by omega : 0x114 + 0x20 * (n.val % 16) ≠ 0x020)
  have hnoserdes : p.kind = .serdes → off < 0x100 := fun h => by cases h
  have effect (old : Word) (u : State) : State.effectAt m.id p off old v u = u := if_neg hcmd
  have written := access_write ha hn hoff haligned (decide_eq_false (fun h => by cases h.1)) (fun h => by cases h.1) rfl
  rw [effect] at written
  refine ⟨_, congrArg Host.Outcome.next written, rfl, (State.done_reg _ _ _ _ _).trans ?_⟩
  exact (recorded_regs hc hnoserdes hheader rfl hoff hn).1

/-- The error counts of the blocks of a page that TW_CMD names (R249). -/
def twillCounts (k mask : Nat) : List Nat := ((List.range 16).filter mask.testBit).map (fun i => rTwErrs (16 * k + i))

theorem twillClear_eq (k mask : Nat) (s : State) : twillClear k mask s = (twillCounts k mask).foldl (fun s a => s.setReg a 0) s := by
  rw [twillCounts, List.foldl_map, List.foldl_filter, twillClear]

theorem mem_twillCounts {k mask i : Nat} (hi : i < 16) : rTwErrs (16 * k + i) ∈ twillCounts k mask ↔ mask.testBit i = true := by
  simp only [twillCounts, List.mem_map, List.mem_filter, List.mem_range]
  refine ⟨fun ⟨j, ⟨hj, hbit⟩, heq⟩ => ?_, fun hbit => ⟨i, ⟨hi, hbit⟩, rfl⟩⟩
  rw [rTwErrs_of_page hi, rTwErrs_of_page hj] at heq
  obtain rfl : j = i := by omega
  exact hbit

/-- TW_CMD names a block by its bit. -/
theorem testBit_twillMask (v : Word) {i : Nat} (hi : i < 16) : (fieldOf v 15 0).testBit i = v.toNat.testBit i := by
  rw [fieldOf_testBit, decide_eq_true (by omega), Bool.true_and, Nat.zero_add]

theorem twillClrCounts_next (m : Master) (k : Fin 256) (v : Word) (s : State) (hc : s.Canonical) (ha : s.Accepts m.id ⟨.twill, k⟩ 0x040 v) :
    ∃ t, exec (.twillClrCounts m k v) s = .next t ∧ t.resp.code = 0 ∧
      (∀ i < 16, v.toNat.testBit i = true → t.reg (rTwErrs (16 * k + i)) = 0) ∧
      (∀ i < 16, v.toNat.testBit i = false → t.reg (rTwErrs (16 * k + i)) = s.reg (rTwErrs (16 * k + i))) ∧
      t = { s with regs := t.regs, ev := t.ev, log := t.log, resp := t.resp, jtag := { s.jtag with out := t.jtag.out } } := by
  have hnoserdes : PageKind.twill = .serdes → 0x040 < 0x100 := fun _ => by decide
  have effect (old : Word) (u : State) : State.effectAt m.id ⟨.twill, k⟩ 0x040 old v u = twillClear k (fieldOf v 15 0) u  := by
    unfold State.effectAt
    exact if_pos rfl
  have written := access_write ha k.isLt (by decide) (by decide) rfl (fun h => by cases h.1) rfl
  rw [effect, twillClear_eq] at written
  obtain ⟨-, hzero, hkept, hframe⟩ :=
    State.zero_regs (twillCounts k (fieldOf v 15 0)) _ (hc.recorded (m := m.id) (p := ⟨.twill, k⟩) (v := v) hnoserdes)
  have hothers := (recorded_regs hc (m := m.id) (p := ⟨.twill, k⟩) (off := 0x040) (v := v) hnoserdes (by decide) rfl (by decide) k.isLt).2
  refine ⟨_, congrArg Host.Outcome.next written, State.done_code _ _ _ _, fun i hi hbit => (State.done_reg _ _ _ _ _).trans ?cleared,
    fun i hi hbit => (State.done_reg _ _ _ _ _).trans ?kept, State.done_frame _ _ _ ?frame⟩
  case cleared => exact hzero _ ((mem_twillCounts hi).mpr ((testBit_twillMask v hi).trans hbit))
  case kept =>
    refine (hkept _ (fun hmem => ?named)).trans (hothers _ ?_ ?_ ?_ ?_)
    case named => exact Bool.false_ne_true (hbit.symm.trans ((testBit_twillMask v hi).symm.trans ((mem_twillCounts hi).mp hmem)))
    all_goals
      rw [rTwErrs_of_page hi]
      simp only [regAddr, Page.base, PageKind.info]
      omega
  case frame => rw [hframe, recorded_frame hnoserdes rfl]

/-- Settles O23: each handshake by the level of its wire, TW_INJECT and TW_CMD by their accepted writes. -/
theorem twillHandshakesAndCommandsComplete : Obligations.TwillHandshakesAndCommandsComplete := by
  refine ⟨fun n s hc hlive => ⟨fun hlevel hrq hroom => ?capture, fun hlevel hrq => ?fall, fun x rest hlink hcasc hbase hops => ?token,
    fun hlevel hresps hlow => ?ack⟩, twInject_next, twillClrCounts_next⟩
  case capture => exact twill_settles hc (twillCapture_next hlive hlevel hrq hroom)
  case fall => exact twill_settles hc (twillReqFall_next hlive hlevel hrq)
  case token =>
    exact ⟨_, twillToken_next hlive hlink hcasc hbase hops, State.twill_setTwill_same _ _ _ (SMap.wf_sorted hc.twills),
      fun k hk => State.twill_setTwill_other _ _ hk, rfl⟩
  case ack => exact twill_settles hc (twillAck_next hlive hlevel hresps hlow)

end Sys2Proof.Machine
end
section
/-!
The completion of a twill operation (R235 to R247): the branch that its check points take, and the multiply-add, whose residues follow its exact
product (R239).
-/

namespace Sys2Proof.Machine

/-! The oldest operation of a block. -/

/-- The inversion that TW_INJECT has armed is used up (R247). -/
def State.disarmed (s : State) (n : Nat) : State := if s.bit (rTwInject n) 31 then s.setBit (rTwInject n) 31 false else s

/-- What an operation of the block comes to, with the upset of its registers. -/
def State.twOutcome (s : State) (n : Nat) (o : TwOp) (u : TwUpset) : TwResult :=
  s.twCompute n (o.upset u) ((s.twill n).base.map (fun k => k.upset u)) (s.twInjected n u)

/-- The operation leaves the block: its value in the accumulator, its response, and its token to the block above (R236, R238). -/
def State.twAnswered (s : State) (n : Nat) (o : TwOp) (rest : List TwOp) (u : TwUpset) (err : Bool) : State :=
  let v := s.twill n
  let r := s.twOutcome n o u
  let acc : Dword := BitVec.ofNat 64 (wrapTo 64 r.value)
  let res := residue (signedOf 64 acc.toNat)
  ((s.disarmed n).setTwill n (({ v with
    ops := rest, base := none, acc := acc, res := res,
    resps := if (o.upset u).emit then v.resps ++ [⟨acc, r.wrap, err⟩] else v.resps } : Twill).upset u)).sendToken n ⟨acc, res⟩

/-- A wrap is counted and raised. -/
def State.wrapNoted (s : State) (n : Nat) (wrap : Bool) : State :=
  if wrap then (s.count (rTwErrs n) 15 8 1).pulse .twill (n / 16) (16 + n % 16) else s

section

variable {n : Nat} {o : TwOp} {rest : List TwOp} {u : TwUpset} {s : State} (hlive : s.twillLive n = true)
  (hops : (s.twill n).ops = o :: rest) (hsound : (s.twill n).faulty = false) (hbase : s.twCascIn n = true → (s.twill n).base ≠ none)

include hlive hsound hbase in
/-- An operation waits neither for a rollback nor for its base. -/
theorem twill_inTurn : (s.twillLive n && !(s.twill n).faulty && (!s.twCascIn n || (s.twill n).base.isSome)) = true := by
  rw [hlive, hsound, Bool.not_false, Bool.and_self, Bool.true_and, Bool.or_eq_true, Bool.not_eq_true']
  cases hcasc : s.twCascIn n with
  | false => exact .inl rfl
  | true => exact .inr (Option.isSome_iff_ne_none.mpr (hbase hcasc))

include hlive hops hsound hbase

/-- A check point that fails in a COMMITTED block withholds the answer (R241). -/
theorem twillComplete_withheld {st : TwStage} (hbad : (s.twOutcome n o u).bad = some st) (hcommitted : s.committed (s.twOwner n) = true) :
    twillComplete n u s = ((s.disarmed n).setTwill n { s.twill n with faulty := true }).residueFault n st := by
  rw [State.twOutcome] at hbad
  simp only [twillComplete, hops, twill_inTurn hlive hsound hbase, if_true, hbad, hcommitted]
  rfl

/-- A check point that fails in a DIRECT block is reported beside the answer (R241). -/
theorem twillComplete_direct {st : TwStage} (hbad : (s.twOutcome n o u).bad = some st) (hdirect : s.committed (s.twOwner n) = false) :
    twillComplete n u s = ((s.twAnswered n o rest u true).residueFault n st).wrapNoted n (s.twOutcome n o u).wrap := by
  rw [State.twOutcome] at hbad
  simp only [twillComplete, hops, twill_inTurn hlive hsound hbase, if_true, hbad, hdirect]
  rfl

theorem twillComplete_passed (hgood : (s.twOutcome n o u).bad = none) :
    twillComplete n u s = (s.twAnswered n o rest u false).wrapNoted n (s.twOutcome n o u).wrap := by
  rw [State.twOutcome] at hgood
  simp only [twillComplete, hops, twill_inTurn hlive hsound hbase, if_true, hgood]
  rfl

end

/-! Values in two's complement. -/

theorem signedOf_bounds {k v : Nat} (hv : v < 2 ^ (k + 1)) : -2 ^ k ≤ signedOf (k + 1) v ∧ signedOf (k + 1) v < 2 ^ k := by
  have hpow : ((2 ^ k : Nat) : Int) = 2 ^ k := by push_cast; rfl
  rw [pow_succ] at hv
  simp only [signedOf, Nat.add_sub_cancel, pow_succ, ← hpow]
  split <;> omega

theorem wrapTo_lt (w : Nat) (x : Int) : wrapTo w x < 2 ^ w := by
  have hpow : ((2 ^ w : Nat) : Int) = 2 ^ w := by push_cast; rfl
  have hpos : 0 < 2 ^ w := Nat.two_pow_pos w
  have hlt := Int.emod_lt_of_pos x (b := 2 ^ w) (by omega)
  unfold wrapTo
  omega

/-- A value that its width holds is that of its pattern. -/
theorem signedOf_wrapTo {k : Nat} {x : Int} (hlo : -2 ^ k ≤ x) (hhi : x < 2 ^ k) : signedOf (k + 1) (wrapTo (k + 1) x) = x := by
  have hpow : ((2 ^ k : Nat) : Int) = 2 ^ k := by push_cast; rfl
  simp only [signedOf, wrapTo, Nat.add_sub_cancel, pow_succ, ← hpow] at *
  have hmod : x % ((2 ^ k : Nat) * 2 : Int) = if 0 ≤ x then x else x + (2 ^ k : Nat) * 2 := by
    split
    · exact Int.emod_eq_of_lt ‹_› (by omega)
    · rw [← Int.add_emod_right]
      exact Int.emod_eq_of_lt (by omega) (by omega)
  rw [hmod]
  split <;> split <;> omega

/-- A value and its pattern's differ by a multiple of the modulus. -/
theorem dvd_sub_signedOf_wrapTo (w : Nat) (x : Int) : (2 ^ w : Int) ∣ x - signedOf w (wrapTo w x) := by
  have hpow : ((2 ^ w : Nat) : Int) = 2 ^ w := by push_cast; rfl
  have hpos : 0 < 2 ^ w := Nat.two_pow_pos w
  have hpattern : ((wrapTo w x : Nat) : Int) = x % 2 ^ w := Int.toNat_of_nonneg (Int.emod_nonneg x (by omega))
  have hdvd : (2 ^ w : Int) ∣ x - x % 2 ^ w := Int.dvd_self_sub_emod
  simp only [signedOf, hpattern]
  split
  · exact hdvd
  · rw [sub_sub_eq_add_sub, add_sub_right_comm]
    exact dvd_add hdvd (dvd_refl _)

/-- Bits that do not change leave a value that its width holds. -/
theorem changed_none {k : Nat} {x : Int} (hlo : -2 ^ k ≤ x) (hhi : x < 2 ^ k) : changed true (k + 1) 0 x = x := by
  rw [changed, Nat.xor_zero, valueOf, if_pos rfl, signedOf_wrapTo hlo hhi]

/-! Residues (R239). -/

theorem residue_cast (x : Int) : ((residue x : Nat) : Int) = x % 7 := Int.toNat_of_nonneg (Int.emod_nonneg x (by decide))

theorem residue_eq_iff {x y : Int} : residue x = residue y ↔ x % 7 = y % 7 := by
  rw [← Int.natCast_inj, residue_cast, residue_cast]

theorem residue_lt (x : Int) : residue x < 7 := by
  have := residue_cast x
  omega

theorem residue_residue (x : Int) : residue (residue x : Nat) = residue x := by
  rw [residue_eq_iff, residue_cast, Int.emod_emod]

theorem residue_mul (x y : Int) : residue ((residue x : Nat) * (residue y : Nat)) = residue (x * y) := by
  rw [residue_eq_iff, residue_cast, residue_cast, ← Int.mul_emod]

/-- A code of a value, corrected by what reducing the value modulo `2 ^ 64` takes: 2 is the residue of `2 ^ 64`. -/
theorem residue_wrapped {x code : Int} (hcode : code % 7 = x % 7) :
    residue (signedOf 64 (wrapTo 64 x)) = residue (code - 2 * ((x - signedOf 64 (wrapTo 64 x)) / 2 ^ 64)) := by
  obtain ⟨q, hq⟩ := dvd_sub_signedOf_wrapTo 64 x
  rw [hq, Int.mul_ediv_cancel_left _ (by decide), residue_eq_iff]
  omega

/-- No code of an operand is invalid. -/
theorem residue_not_seven {l : List Int} : (l.map residue).contains 7 = false := by
  rw [← Bool.not_eq_true, List.contains_iff_mem, List.mem_map]
  exact fun ⟨x, _, hx⟩ => (residue_lt x).ne hx

/-! Accumulation. -/

/-- Without cascade and without upset, a term that comes with its residue is added to the base or taken from it, and every check point of an
accumulating mode passes (R236, R239). -/
theorem twCompute_accumulates {n : Nat} {o : TwOp} {s : State} {term : Int} (hterm : s.twTerm n o {} = (term, residue term, none))
    (hmode : s.twMode n ≠ 1) (hcasc : s.twCascIn n = false) (hcodes : o.rho.contains 7 = false)
    (hres : (s.twill n).res = residue (signedOf 64 (s.twill n).acc.toNat)) :
    let base := if o.clr then 0 else signedOf 64 (s.twill n).acc.toNat
    let exact := if o.neg then base - term else base + term
    (s.twCompute n o none {}).value = signedOf 64 (wrapTo 64 exact) ∧ (s.twCompute n o none {}).bad = none := by
  intro base exact
  have hbase : (if o.clr then ((0 : Int), 0) else (signedOf 64 (s.twill n).acc.toNat, residue (signedOf 64 (s.twill n).acc.toNat))) =
      (base, residue base) := by
    simp only [base]
    split <;> rfl
  have hexact : base + (if o.neg then -term else term) = exact := by
    simp only [exact]
    split <;> omega
  have hcode : ((residue base : Nat) + (if o.neg then -((residue term : Nat) : Int) else (residue term : Nat))) % 7 = exact % 7 := by
    simp only [exact, residue_cast]
    split <;> omega
  obtain ⟨hlo, hhi⟩ := signedOf_bounds (wrapTo_lt 64 exact)
  have hkept : changed true 64 (0 : Dword).toNat (signedOf 64 (wrapTo 64 exact)) = signedOf 64 (wrapTo 64 exact) := changed_none hlo hhi
  simp only [State.twCompute, hterm, hmode, hcasc, hcodes, hres, decide_false, Bool.false_eq_true, or_false, if_false, Bool.not_false,
    Bool.and_true, Bool.true_and, Bool.false_and, Bool.or_self, hbase, hexact, hkept, ← residue_wrapped hcode, ne_eq,
    not_true_eq_false, and_self]

/-! Multiply-add. -/

/-- Without pre-adder its output is A, and nothing wraps (R235). -/
theorem preAdd_off {a : Int} (d : Int) (hlo : -2 ^ 23 ≤ a) (hhi : a < 2 ^ 23) : preAdd 0 true a d = (a, 0) := by
  have hkept : signedOf 24 (wrapTo 24 a) = a := signedOf_wrapTo hlo hhi
  simp only [preAdd, valueOf, if_true, hkept, sub_self, Int.zero_ediv]

/-- The product of two 24-bit values keeps within 48 bits. -/
theorem product_bounds {a b : Int} (haLo : -2 ^ 23 ≤ a) (haHi : a < 2 ^ 23) (hbLo : -2 ^ 23 ≤ b) (hbHi : b < 2 ^ 23) :
    -2 ^ 47 ≤ a * b ∧ a * b < 2 ^ 47 := by
  have habs : |a * b| ≤ 2 ^ 23 * 2 ^ 23 := by
    rw [abs_mul]
    exact mul_le_mul (abs_le.mpr ⟨haLo, haHi.le⟩) (abs_le.mpr ⟨hbLo, hbHi.le⟩) (abs_nonneg b) (by decide)
  obtain ⟨hlo, hhi⟩ := abs_le.mp habs
  constructor <;> omega

section

variable {n : Nat} {o : TwOp} {s : State} (hmode : s.twMode n = 2) (hpre : s.twPreadd n = 0) (hsignA : s.twSignA n = true)
  (hsignB : s.twSignB n = true) (hrho : o.rho = (s.twOperands n o).map residue)

include hmode hpre hsignA hsignB hrho

/-- The term of a signed multiply-add is its exact product: the pre-adder gives A, and no bit is lost. -/
theorem twTerm_multiplyAdd : s.twTerm n o {} =
    (signedOf 24 o.a.toNat * signedOf 24 o.b.toNat, residue (signedOf 24 o.a.toNat * signedOf 24 o.b.toNat), none) := by
  have hoperands : s.twOperands n o = [signedOf 24 o.a.toNat, signedOf 24 o.b.toNat, signedOf 24 o.d.toNat] := by
    simp only [State.twOperands, hmode, hsignA, hsignB, valueOf, if_true]
  rw [hoperands] at hrho
  obtain ⟨haLo, haHi⟩ := signedOf_bounds (k := 23) o.a.isLt
  obtain ⟨hbLo, hbHi⟩ := signedOf_bounds (k := 23) o.b.isLt
  simp only [State.twTerm, hmode, hpre, hsignA, hsignB, hoperands, hrho, valueOf, if_true]
  generalize signedOf 24 o.a.toNat = a at *
  generalize signedOf 24 o.b.toNat = b at *
  have hp := preAdd_off (signedOf 24 o.d.toNat) haLo haHi
  have hnone : changed true 24 0 a = a := changed_none haLo haHi
  obtain ⟨hlo, hhi⟩ := product_bounds haLo haHi hbLo hbHi
  have hprod : changed true 48 0 (a * b) = a * b := changed_none hlo hhi
  simp [hp, hnone, hprod, residue_mul, residue_residue]

end

/-- Settles O24: the branch that the check points take, and a signed multiply-add by its exact product. -/
theorem twillOperationCompletes : Obligations.TwillOperationCompletes := by
  refine ⟨fun n upset o rest s hlive => ?completes, fun n o s hmode hpre hsignA hsignB hcasc hrho hres => ?multiplyAdd⟩
  case completes =>
    intro v x r acc res answer s0 after wrapped hops hsound hbase
    exact ⟨fun st hbad hcommitted => congrArg (fun t : State => Host.Outcome.next t.settle)
        (twillComplete_withheld hlive hops hsound hbase hbad hcommitted),
      fun st hbad hdirect => congrArg (fun t : State => Host.Outcome.next t.settle)
        (twillComplete_direct hlive hops hsound hbase hbad hdirect),
      fun hgood => congrArg (fun t : State => Host.Outcome.next t.settle) (twillComplete_passed hlive hops hsound hbase hgood)⟩
  case multiplyAdd =>
    exact twCompute_accumulates (twTerm_multiplyAdd hmode hpre hsignA hsignB hrho) (by rw [hmode]; decide) hcasc
      (hrho ▸ residue_not_seven) hres

end Sys2Proof.Machine
end

section
/-!
The items of a bridge (R254 to R262, R264, R269): what each side offers, takes and acknowledges in each mode, and the crossings of an item.
An item is followed from the side that writes it to the side that reads it.
-/

namespace Sys2Proof.Machine

/-- A bridge reads as it was just written. -/
theorem State.bridge_setBridge_self {s : State} (hc : s.Canonical) (n : Nat) (v : Bridge) : (s.setBridge n v).bridge n = v :=
  State.bridge_setBridge_same s n v (SMap.wf_sorted hc.bridges)

/-! SAMPLE2 attempts (R256, R257). -/

section

variable {n : Nat} {sampled : SampleTime} {s : State} (hmode : s.svMode n = brSample2) (hsync : (s.bridge n).resync = false)
  (hruns : s.svRuns n = true)

include hmode hsync hruns

/-- The sixteenth attempt in a row whose samples differ sets, counts and raises UNSTABLE. -/
theorem sample2_unstable (hdiffer : sampled = .during ∧ (s.bridge n).src ≠ (s.bridge n).old) (hlast : (s.bridge n).fails + 1 = 16) :
    sample2 n sampled s = ((s.setBridge n { (s.bridge n) with old := (s.bridge n).src, fails := 16, unstable := true }).count
      (rSvCnt n) 23 16 1).svEvent n 1 := by
  rw [sample2, if_pos ⟨hmode, hsync, hruns⟩, if_pos hdiffer, if_pos hlast]

/-- Any other attempt that fails is counted alone. -/
theorem sample2_failed (hdiffer : sampled = .during ∧ (s.bridge n).src ≠ (s.bridge n).old) (hearly : (s.bridge n).fails + 1 ≠ 16) :
    sample2 n sampled s = s.setBridge n { (s.bridge n) with old := (s.bridge n).src, fails := min 16 ((s.bridge n).fails + 1) } := by
  rw [sample2, if_pos ⟨hmode, hsync, hruns⟩, if_pos hdiffer, if_neg hearly]

/-- The clocked side of an OUT bridge takes an agreed value, and sees it if it is new. -/
theorem sample2_taken (hagree : sampled = .during → (s.bridge n).src = (s.bridge n).old) (hout : s.svOut n = true) :
    let x := if sampled = .after then (s.bridge n).old else (s.bridge n).src
    sample2 n sampled s = s.setBridge n { (s.bridge n) with old := (s.bridge n).src, fails := 0, unstable := false, last := x,
                                                            out := if x = (s.bridge n).last then (s.bridge n).out else some x } := by
  intro x
  rw [sample2, if_pos ⟨hmode, hsync, hruns⟩, if_neg (fun hdiffer => hdiffer.2 (hagree hdiffer.1)), if_pos hout]

/-- The agreed value of an IN bridge is handed over to the fabric. -/
theorem sample2_handedOver (hagree : sampled = .during → (s.bridge n).src = (s.bridge n).old) (hin : s.svOut n = false) :
    sample2 n sampled s = (s.setBridge n { (s.bridge n) with
      old := (s.bridge n).src, fails := 0, unstable := false,
      agreed := some (if sampled = .after then (s.bridge n).old else (s.bridge n).src) }).presentNext n := by
  rw [sample2, if_pos ⟨hmode, hsync, hruns⟩, if_neg (fun hdiffer => hdiffer.2 (hagree hdiffer.1)), hin, if_neg Bool.false_ne_true]

end

/-- A bridge in RESYNC, or with 16 words, has no room for another (R260, R269). -/
theorem Bridge.no_room {v : Bridge} (hfull : v.resync = true ∨ 16 ≤ v.fifo.length) : ¬ (v.resync = false ∧ v.fifo.length < 16) :=
  fun ⟨hsync, hroom⟩ => hfull.elim (fun h => Bool.false_ne_true (hsync.symm.trans h)) (Nat.not_le.mpr hroom)

/-! What the clocked side of an IN bridge writes, other than a bank register (R258 to R262). -/

/-- The flag of the next pulse rises when none is on its way and one waits. -/
theorem Bridge.nextPulse_eq (v : Bridge) : v.nextPulse = { v with hs := if v.hs = 0 ∧ v.read < v.pend then 1 else v.hs } := by
  unfold Bridge.nextPulse
  split <;> rfl

section

variable {n : Nat} {x : Dword} {s : State}

/-- The modes of pulses are none of the others. -/
theorem svMode_of_pulse (hmode : s.svMode n = brCount ∨ s.svMode n = brMerge) :
    s.svMode n ≠ brSample2 ∧ s.svMode n ≠ brHold ∧ s.svMode n ≠ brQueue := by
  rcases hmode with h | h <;> rw [h] <;> decide

theorem sideWrite_clocked (hbank : 160 ≤ n) (torn : Dword) : sideWrite n x torn s = clockedWrite n x s := if_neg (Nat.not_lt.mpr hbank)

section

variable (hmode : s.svMode n = brHold) (hsync : (s.bridge n).resync = false)

include hmode hsync

/-- A value goes into an empty hold register, and its take-it flag rises. -/
theorem holdOfferOp_held (hempty : (s.bridge n).hold = none) :
    holdOfferOp n x s = s.setBridge n { (s.bridge n) with hold := some (s.svMask n x), hs := 1 } := by
  rw [holdOfferOp, if_pos ⟨hmode, hsync⟩, hempty, if_pos Option.isNone_none]

/-- With the hold register taken it waits. -/
theorem holdOfferOp_waits (htaken : (s.bridge n).hold ≠ none) (hempty : (s.bridge n).waiting = none) :
    holdOfferOp n x s = s.setBridge n { (s.bridge n) with waiting := some (s.svMask n x) } := by
  simp only [holdOfferOp, hmode, hsync, and_self, if_true, Option.isNone_iff_eq_none, htaken, if_false, hempty, Option.isSome_none,
    Bool.false_eq_true]

/-- A value that replaces one that waits is an overrun (R259). -/
theorem holdOfferOp_overrun (htaken : (s.bridge n).hold ≠ none) (hwaits : (s.bridge n).waiting ≠ none) :
    holdOfferOp n x s = (s.setBridge n { (s.bridge n) with waiting := some (s.svMask n x) }).overrun n := by
  simp only [holdOfferOp, hmode, hsync, and_self, if_true, Option.isNone_iff_eq_none, htaken, if_false, Option.isSome_iff_ne_none, hwaits,
    ne_eq, not_false_eq_true]

end

section

variable (hmode : s.svMode n = brCount ∨ s.svMode n = brMerge) (hsync : (s.bridge n).resync = false)

include hmode hsync

/-- A pulse within the bound of its mode is pending (R261, R262; log entry 78). -/
theorem pulseIn_counts (hroom : (s.bridge n).pend < if s.svMode n = brMerge then 1 else 15) : pulseIn n s = s.setBridge n
    { (s.bridge n) with pend := (s.bridge n).pend + 1,
                        hs := if (s.bridge n).hs = 0 ∧ (s.bridge n).read < (s.bridge n).pend + 1 then 1 else (s.bridge n).hs } := by
  rw [pulseIn, if_pos ⟨hmode, hsync⟩, if_pos hroom, Bridge.nextPulse_eq]

/-- Beyond it a pulse is an overrun. -/
theorem pulseIn_overrun (hfull : (if s.svMode n = brMerge then 1 else 15) ≤ (s.bridge n).pend) : pulseIn n s = s.overrun n := by
  rw [pulseIn, if_pos ⟨hmode, hsync⟩, if_neg (Nat.not_lt.mpr hfull)]

end

section

variable (hin : s.svOut n = false) (hruns : s.svRuns n = true)

include hin hruns

theorem clockedWrite_hold (hmode : s.svMode n = brHold) : clockedWrite n x s = holdOfferOp n x s := by
  rw [clockedWrite, hin, hruns, hmode]
  rfl

theorem clockedWrite_pulse (hmode : s.svMode n = brCount ∨ s.svMode n = brMerge) : clockedWrite n x s = pulseIn n s := by
  obtain ⟨hsample, hhold, hqueue⟩ := svMode_of_pulse hmode
  simp only [clockedWrite, hin, hruns, hsample, hhold, hqueue, Bool.not_true, Bool.or_self, Bool.false_eq_true, if_false]

/-- A word enters a queue with room. -/
theorem clockedWrite_enqueues (hmode : s.svMode n = brQueue) (hsync : (s.bridge n).resync = false) (hroom : (s.bridge n).fifo.length < 16) :
    clockedWrite n x s = s.enqueue n x := by
  simp only [clockedWrite, hin, hruns, hmode, hsync, hroom, Bool.not_true, Bool.or_self, Bool.false_eq_true, if_false, if_true, and_self]

/-- A full queue, or one in RESYNC, takes nothing (R260, R269). -/
theorem clockedWrite_full (hmode : s.svMode n = brQueue) (hfull : (s.bridge n).resync = true ∨ 16 ≤ (s.bridge n).fifo.length) :
    clockedWrite n x s = s := by
  simp only [clockedWrite, hin, hruns, hmode, Bridge.no_room hfull, Bool.not_true, Bool.or_self, Bool.false_eq_true, if_false, if_true]

/-- The clocked side of a HOLD bridge offers its value. -/
theorem offered_clocked (hbank : 160 ≤ n) (hmode : s.svMode n = brHold) : offered n x s = holdOfferOp n x s := by
  rw [offered, if_neg (not_not_intro hmode), hin, if_neg Bool.false_ne_true, sideWrite_clocked hbank, clockedWrite_hold hin hruns hmode]

theorem pulsed_clocked (hbank : 160 ≤ n) (hmode : s.svMode n = brCount ∨ s.svMode n = brMerge) : pulsed n s = pulseIn n s := by
  rw [pulsed, if_neg (by tauto), hin, if_neg Bool.false_ne_true, sideWrite_clocked hbank, clockedWrite_pulse hin hruns hmode]

/-! A bank register (R360, R564). -/

section

variable {torn : Dword} (hmode : s.svMode n = brQueue)

include hmode

/-- An edge of the clock of an IN QUEUE register reads its pins; the bits of `torn` use up open values. -/
theorem bankEdge_queue : bankEdge n torn s =
    let u := (if torn = 0 then s else { s with free := s.free + 64 }).setBridge n { (s.bridge n) with src := s.bankWord n torn }
    if (s.bridge n).resync = false ∧ (s.bridge n).fifo.length < 16 then u.enqueue n (s.bankWord n torn) else u.overrun n := by
  have hread : (if torn = 0 then s else { s with free := s.free + 64 }).bridge n = s.bridge n := by split <;> rfl
  have hrun : (s.svOut n || decide (s.svMode n = brOff) || !s.svRuns n) = false := by rw [hin, hruns, hmode]; rfl
  simp only [bankEdge, hrun, hread, Bool.false_eq_true, if_false]
  rw [if_neg (by rw [hmode]; decide), if_pos hmode]

/-- A sample that finds no room is an overrun (log entry 81). -/
theorem bankEdge_full (hfull : (s.bridge n).resync = true ∨ 16 ≤ (s.bridge n).fifo.length) : bankEdge n torn s =
    ((if torn = 0 then s else { s with free := s.free + 64 }).setBridge n { (s.bridge n) with src := s.bankWord n torn }).overrun n := by
  rw [bankEdge_queue hin hruns hmode]
  exact if_neg (Bridge.no_room hfull)

end

end

/-! Words of the clocked side by the unit that writes them (R391). -/

theorem wordWritten_side (hlane : ¬ (160 ≤ n ∧ n < 256 ∧ n % 8 < 4)) (torn : Dword) : wordWritten n x torn s = sideWrite n x torn s :=
  if_neg hlane

theorem wordWritten_lane (hlane : 160 ≤ n ∧ n < 256 ∧ n % 8 < 4) (torn : Dword) :
    wordWritten n x torn s = rxBridgeWrite ((n - 160) / 8) (n % 8) x s :=
  if_pos hlane

/-! Tokens of the fabric side of an OUT bridge (R254, R260, R269). -/

section

variable (hout : s.svOut n = true)

include hout

theorem bridgeTokenOp_out (hbridge : s.svMode n ≠ brBusport) (hlevel : s.bridgeLevel n 0 = true) :
    bridgeTokenOp n s = (sinkToken n (s.channelWord n 0) s).settle := by
  rw [bridgeTokenOp, if_neg hbridge, if_pos hout, if_pos hlevel]

/-- The token of a HOLD value is an offer, that of a pulse a source pulse. -/
theorem offered_out (hmode : s.svMode n = brHold) : offered n x s = bridgeTokenOp n s := by
  rw [offered, if_neg (not_not_intro hmode), if_pos hout]

theorem pulsed_out (hmode : s.svMode n = brCount ∨ s.svMode n = brMerge) : pulsed n s = bridgeTokenOp n s := by
  rw [pulsed, if_neg (by tauto), if_pos hout]

section

variable (hlive : s.bridgeLive n = true) (hidle : (s.bridge n).sink = {})

include hlive hidle

theorem sinkToken_taken (hopen : s.sinkOpen n = true) : sinkToken n x s = s.sinkTake n x := by
  simp only [sinkToken, hlive, hout, hidle, hopen, Option.isNone_none, Bool.not_false, Bool.and_self, if_true]

/-- A bridge that cannot take it holds it as a parked wait. -/
theorem sinkToken_parked (hshut : s.sinkOpen n = false) : sinkToken n x s = s.setBridge n { (s.bridge n) with sink := { parked := some x } } := by
  simp only [sinkToken, hlive, hout, hidle, hshut, Option.isNone_none, Bool.not_false, Bool.and_self, if_true, Bool.false_eq_true, if_false]

end

end

/-- A QUEUE bridge appends the word of its token. -/
theorem sinkTake_queue (hc : s.Canonical) (hmode : s.svMode n = brQueue) : (s.sinkTake n x).bridge n =
    { (s.bridge n) with sink := { ack := true }, fifo := (s.bridge n).fifo ++ [s.svMask n x] } := by
  have hacked : (s.setBridge n { (s.bridge n) with sink := { ack := true } }).bridge n = { (s.bridge n) with sink := { ack := true } } :=
    State.bridge_setBridge_self hc n _
  rw [State.sinkTake, if_pos hmode, State.enqueue, State.bridge_setBridge_self (hc.setBridge n _), hacked]
  rfl

/-! Acknowledges of the fabric side of an IN bridge (R254 to R264; log entry 77). -/

section

variable (hin : s.svOut n = false)

include hin

theorem bridgeTokenOp_in (hbridge : s.svMode n ≠ brBusport) (hlevel : s.bridgeLevel n 1 = true) :
    bridgeTokenOp n s = (chanTaken n s).settle := by
  rw [bridgeTokenOp, if_neg hbridge, hin, if_neg Bool.false_ne_true, if_pos hlevel]

variable (hlive : s.bridgeLive n = true) (htoken : (s.bridge n).chan.token ≠ none)

include hlive htoken

/-- A token older than a RESYNC just completes (R269). -/
theorem chanTaken_stale (hstale : (s.bridge n).chan.stale = true) :
    chanTaken n s = s.setBridge n { (s.bridge n) with chan := (s.bridge n).chan.fall } := by
  simp only [chanTaken, hlive, hin, hstale, Bool.not_true, Bool.or_self, Bool.false_or, Option.isNone_iff_eq_none, htoken, if_false, if_true]

variable (hfresh : (s.bridge n).chan.stale = false)

include hfresh

/-- A SAMPLE2 bridge goes on to its newest value. -/
theorem chanTaken_sample2 (hmode : s.svMode n = brSample2) :
    chanTaken n s = (s.setBridge n { (s.bridge n) with chan := (s.bridge n).chan.fall }).presentNext n := by
  simp only [chanTaken, hlive, hin, hfresh, hmode, Bool.not_true, Bool.or_self, Bool.false_or, Option.isNone_iff_eq_none, htoken,
    Bool.false_eq_true, if_false, if_true]

/-- A word leaves the queue, or in a COMMITTED bolt is read until the beat-up (R264). -/
theorem chanTaken_queue (hmode : s.svMode n = brQueue) : chanTaken n s = s.setBridge n (if s.svCommitted n
    then { (s.bridge n) with chan := (s.bridge n).chan.fall, read := (s.bridge n).read + 1 }
    else { (s.bridge n) with chan := (s.bridge n).chan.fall, fifo := (s.bridge n).fifo.drop 1 }) := by
  simp only [chanTaken, hlive, hin, hfresh, hmode, Bool.not_true, Bool.or_self, Bool.false_or, Option.isNone_iff_eq_none, htoken,
    Bool.false_eq_true, if_false, if_true]
  rfl

/-- A HOLD value is acknowledged, in a COMMITTED bolt at the beat-up. -/
theorem chanTaken_hold (hmode : s.svMode n = brHold) (huntaken : (s.bridge n).taken = false) :
    chanTaken n s = s.setBridge n (if s.svCommitted n then { (s.bridge n) with chan := (s.bridge n).chan.fall, taken := true }
      else { (s.bridge n) with taken := true, hs := 3 }) := by
  simp only [chanTaken, hlive, hin, hfresh, hmode, huntaken, Bool.not_true, Bool.or_self, Bool.false_or, Option.isNone_iff_eq_none, htoken,
    Bool.false_eq_true, if_false, if_true]
  rfl

/-- A pulse is acknowledged at once; a COMMITTED bolt has read it (log entry 78). -/
theorem chanTaken_pulse (hmode : s.svMode n = brCount ∨ s.svMode n = brMerge) (huntaken : (s.bridge n).taken = false) :
    chanTaken n s = s.setBridge n (if s.svCommitted n
      then { (s.bridge n) with chan := (s.bridge n).chan.fall, taken := true, hs := 3, read := (s.bridge n).read + 1 }
      else { (s.bridge n) with taken := true, hs := 3 }) := by
  obtain ⟨hsample, hhold, hqueue⟩ := svMode_of_pulse hmode
  simp only [chanTaken, hlive, hin, hfresh, hsample, hhold, hqueue, huntaken, Bool.not_true, Bool.or_self, Bool.false_or,
    Option.isNone_iff_eq_none, htoken, Bool.false_eq_true, if_false]

end

end

/-! Crossings (R255, Table 10-4). -/

/-- What an IN bridge presents next leaves the strobes of its clocked side. -/
theorem presentNext_strobes {s : State} (hc : s.Canonical) (n : Nat) : ((s.presentNext n).bridge n).strobes = (s.bridge n).strobes := by
  have hset (v : Bridge) (hv : v.strobes = (s.bridge n).strobes) : ((s.setBridge n v).bridge n).strobes = (s.bridge n).strobes := by
    rw [State.bridge_setBridge_self hc, hv]
  unfold State.presentNext
  dsimp only
  split
  case isTrue => rfl
  split
  case isTrue sample2 =>
    split
    · split
      · exact hset _ rfl
      · rfl
    · rfl
  split
  case isTrue hold =>
    split
    · split
      · exact hset _ rfl
      · rfl
    · rfl
  split
  case isTrue queue =>
    split
    · exact hset _ rfl
    · rfl
  split
  case isTrue pulse => exact hset _ rfl
  case isFalse => rfl

section

variable {n : Nat} {d : FlagDir} {s : State}

theorem crossed_bridge (hbridge : s.svMode n ≠ brBusport) : crossed n d s =
    (if 288 ≤ n ∧ n < 304 ∧ (s.bridge n).strobes < ((flagCrossed n d s).bridge n).strobes then (flagCrossed n d s).addCredits (n - 288) 1
      else flagCrossed n d s).settle :=
  if_neg hbridge

section

variable (hmode : s.svMode n = brHold ∨ s.svMode n = brCount ∨ s.svMode n = brMerge) (hsync : (s.bridge n).resync = false)
  (hruns : s.svRuns n = true)

include hmode hsync hruns

/-- The flag of a HOLD value or a pulse moves its item on. -/
theorem crossed_item : crossed n d s =
    (if 288 ≤ n ∧ n < 304 ∧ (s.bridge n).strobes < ((s.itemCross n d).bridge n).strobes then (s.itemCross n d).addCredits (n - 288) 1
      else s.itemCross n d).settle := by
  have hbridge : s.svMode n ≠ brBusport := by rcases hmode with h | h | h <;> rw [h] <;> decide
  have hcross : flagCrossed n d s = s.itemCross n d := by
    simp only [flagCrossed, hruns, hsync, Bool.not_true, Bool.false_eq_true, if_false, if_pos hmode]
  rw [crossed_bridge hbridge, hcross]

/-- A crossing that strobes nothing at the clocked side brings no credit. -/
theorem crossed_quiet {t : State} (hitem : s.itemCross n d = t) (hquiet : (t.bridge n).strobes = (s.bridge n).strobes) :
    crossed n d s = t.settle := by
  rw [crossed_item hmode hsync hruns, hitem, if_neg (fun h => by omega)]

/-- One that writes the bridge alone, and no strobe. -/
theorem crossed_sets (hc : s.Canonical) {v : Bridge} (hitem : s.itemCross n d = s.setBridge n v) (hquiet : v.strobes = (s.bridge n).strobes) :
    crossed n d s = (s.setBridge n v).settle :=
  crossed_quiet hmode hsync hruns hitem (by rw [State.bridge_setBridge_self hc, hquiet])

/-- A strobe of a spool DMA bridge brings a credit (R435). -/
theorem crossed_strobe {t : State} (hitem : s.itemCross n d = t) (hstrobe : (s.bridge n).strobes < (t.bridge n).strobes) :
    crossed n d s = (if 288 ≤ n ∧ n < 304 then t.addCredits (n - 288) 1 else t).settle := by
  simp only [crossed_item hmode hsync hruns, hitem, hstrobe, and_true]

end

/-! The steps of an item. `d` goes to its destination, or back to its source. -/

section

variable (hdest : (d == if s.svOut n then FlagDir.toClocked else .toFabric) = true)

include hdest

/-- The take-it flag of an IN bridge presents the item to the fabric. -/
theorem itemCross_presents (hstep : (s.bridge n).hs = 1) (hin : s.svOut n = false) :
    s.itemCross n d = (s.setBridge n { (s.bridge n) with hs := 2 }).presentNext n := by
  simp only [State.itemCross, hdest, hstep]
  rw [hin]
  rfl

/-- The clocked side of an OUT bridge takes a HOLD value at once. -/
theorem itemCross_delivers (hstep : (s.bridge n).hs = 1) (hout : s.svOut n = true) (hmode : s.svMode n = brHold) :
    s.itemCross n d = s.setBridge n { (s.bridge n) with hs := 3, out := (s.bridge n).hold, last := (s.bridge n).hold.getD 0 } := by
  simp only [State.itemCross, hdest, hstep]
  rw [hout, decide_eq_true hmode]
  rfl

theorem itemCross_strobes (hstep : (s.bridge n).hs = 1) (hout : s.svOut n = true) (hmode : s.svMode n ≠ brHold) :
    s.itemCross n d = s.setBridge n { (s.bridge n) with hs := 3, strobes := (s.bridge n).strobes + 1 } := by
  simp only [State.itemCross, hdest, hstep]
  rw [hout, decide_eq_false hmode]
  rfl

/-- The fall of the take-it flag lets a token that is not stale fall. -/
theorem itemCross_falls (hstep : (s.bridge n).hs = 4) : s.itemCross n d = s.setBridge n
    { (s.bridge n) with hs := 5, chan := if (s.bridge n).chan.stale then (s.bridge n).chan else (s.bridge n).chan.fall } := by
  simp only [State.itemCross, hdest, hstep]

end

section

variable (hback : (d == if s.svOut n then FlagDir.toClocked else .toFabric) = false)

include hback

theorem itemCross_acknowledged (hstep : (s.bridge n).hs = 3) : s.itemCross n d = s.setBridge n { (s.bridge n) with hs := 4 } := by
  simp only [State.itemCross, hback, hstep]

/-- At the end of the handshake the waiting value is the next one held. -/
theorem itemCross_nextHeld (hstep : (s.bridge n).hs = 5) (hmode : s.svMode n = brHold) : s.itemCross n d = s.setBridge n
    { (s.bridge n) with hold := (s.bridge n).waiting, waiting := none, taken := false, hs := if (s.bridge n).waiting.isSome then 1 else 0 } := by
  simp only [State.itemCross, hback, hstep, hmode, decide_true, if_true]

/-- The pulse is pending no more, unless its COMMITTED bolt has yet to beat up (log entry 78), and the next one goes on its way. -/
theorem itemCross_nextPulse (hstep : (s.bridge n).hs = 5) (hmode : s.svMode n ≠ brHold) :
    let pend := if s.svOut n || !s.svCommitted n then (s.bridge n).pend - 1 else (s.bridge n).pend
    s.itemCross n d = s.setBridge n { (s.bridge n) with pend := pend, taken := false, hs := if (s.bridge n).read < pend then 1 else 0 } := by
  simp only [State.itemCross, hback, hstep, hmode, decide_false, Bool.false_eq_true, if_false, Bridge.nextPulse_eq, true_and]

end

end

/-! Words that the clocked side of an OUT QUEUE bridge takes (R260). -/

section

variable {n : Nat} {s : State}

/-- Without a parked wait nothing is held back. -/
theorem takeParked_none (h : (s.bridge n).sink.parked = none) : s.takeParked n = s := by
  rw [State.takeParked, h]

variable (hword : s.hasWord n = true)

include hword

theorem clockedRead_word : clockedRead n s = (s.setBridge n { (s.bridge n) with
    fifo := (s.bridge n).fifo.drop 1, shCount := (s.bridge n).shCount - 1, out := (s.bridge n).fifo.head? }).takeParked n :=
  if_pos hword

theorem clockedRead_unparked (hc : s.Canonical) (hnone : (s.bridge n).sink.parked = none) : clockedRead n s = s.setBridge n
    { (s.bridge n) with fifo := (s.bridge n).fifo.drop 1, shCount := (s.bridge n).shCount - 1, out := (s.bridge n).fifo.head? } := by
  rw [clockedRead_word hword, takeParked_none]
  rw [State.bridge_setBridge_self hc]
  exact hnone

/-- A bank register, or a bridge of neither a lane nor a spool DMA channel. -/
theorem wordTaken_plain (hlane : ¬ (160 ≤ n ∧ n < 256)) (hspool : ¬ (288 ≤ n ∧ n < 304)) : wordTaken n s = clockedRead n s := by
  rw [wordTaken, if_neg (fun h => hlane ⟨h.1, h.2.1⟩), hword, if_neg (by decide), if_neg hlane, if_neg hspool]

/-- A word of a spool DMA bridge brings its credits (R435). -/
theorem wordTaken_credits (hlo : 288 ≤ n) (hhi : n < 304) :
    wordTaken n s = (clockedRead n s).addCredits (n - 288) (fieldOf ((s.bridge n).fifo.headD 0) 15 0) := by
  rw [wordTaken, if_neg (by omega), hword, if_neg (by decide), if_neg (by omega), if_pos ⟨hlo, hhi⟩]

/-- A lane that sends from its bridge sends the word (R386). -/
theorem wordTaken_sent (hlane : 160 ≤ n ∧ n < 256 ∧ 4 ≤ n % 8) (hreads : s.txReads ((n - 160) / 8) (n % 8 - 4) = true) :
    wordTaken n s = (clockedRead n s).sendWord ((n - 160) / 8) (n % 8 - 4) ((s.bridge n).fifo.headD 0) := by
  rw [wordTaken, if_neg (by rw [hreads]; simp), hword, if_neg (by decide), if_pos ⟨hlane.1, hlane.2.1⟩]

end

/-- One that does not leaves it. -/
theorem wordTaken_unread {n : Nat} {s : State} (hlane : 160 ≤ n ∧ n < 256 ∧ 4 ≤ n % 8)
    (hreads : s.txReads ((n - 160) / 8) (n % 8 - 4) = false) : wordTaken n s = s :=
  if_pos ⟨hlane.1, hlane.2.1, hlane.2.2, hreads⟩

/-- Settles O25: an attempt by its samples, an offer, a pulse and a token by the place the bridge has for it, a crossing by the step of its item, a
word by the side and the unit that moves it. -/
theorem bridgesComplete : Obligations.BridgesComplete := by
  have completes {t u : State} (h : t = u) : Host.Outcome.next t = (.next u : Result) := congrArg Host.Outcome.next h
  have settles {t u : State} (h : t = u) : Host.Outcome.next t.settle = (.next u.settle : Result) :=
    congrArg (fun v : State => Host.Outcome.next v.settle) h
  refine ⟨fun n sampled s hmode hsync hruns => ?sample2, fun n x s hmode hsync hruns hbank hin => ?hold,
    fun n s hmode hsync hruns hbank hin => ?pulse, fun n s hout hbridge hlevel hlive hidle => ?token,
    fun n x s hc hmode => sinkTake_queue hc hmode, fun n d s hc hmode hsync hruns => ?crossing,
    fun n s hbridge hin hlevel hlive htoken => ?acknowledge, fun n s hword => ?read, fun n x torn s hin hmode => ?write⟩
  case sample2 =>
    exact ⟨fun hduring hdiffer hlast => completes (sample2_unstable hmode hsync hruns ⟨hduring, hdiffer⟩ hlast),
      fun hduring hdiffer hearly => completes (sample2_failed hmode hsync hruns ⟨hduring, hdiffer⟩ hearly),
      fun hagree hout => completes (sample2_taken hmode hsync hruns hagree hout),
      fun hagree hin => completes (sample2_handedOver hmode hsync hruns hagree hin)⟩
  case hold =>
    have hoffer := offered_clocked (x := x) hin hruns hbank hmode
    exact ⟨fun hempty => completes (hoffer.trans (holdOfferOp_held hmode hsync hempty)),
      fun htaken hempty => completes (hoffer.trans (holdOfferOp_waits hmode hsync htaken hempty)),
      fun htaken hwaits => completes (hoffer.trans (holdOfferOp_overrun hmode hsync htaken hwaits))⟩
  case pulse =>
    have hpulse := pulsed_clocked hin hruns hbank hmode
    exact ⟨fun hroom => completes (hpulse.trans (pulseIn_counts hmode hsync hroom)),
      fun hfull => completes (hpulse.trans (pulseIn_overrun hmode hsync hfull))⟩
  case token =>
    have htoken := bridgeTokenOp_out hout hbridge hlevel
    exact ⟨fun hopen => completes (htoken.trans (congrArg State.settle (sinkToken_taken hout hlive hidle hopen))),
      fun hshut => completes (htoken.trans (congrArg State.settle (sinkToken_parked hout hlive hidle hshut))),
      fun hmode x => completes (offered_out hout hmode), fun hmode => completes (pulsed_out hout hmode)⟩
  case crossing =>
    have sets {v : Bridge} (hitem : s.itemCross n d = s.setBridge n v) (hquiet : v.strobes = (s.bridge n).strobes) :=
      completes (crossed_sets hmode hsync hruns hc hitem hquiet)
    refine ⟨fun hstep hdest hin => completes (crossed_quiet hmode hsync hruns (itemCross_presents hdest hstep hin) ?presented),
      fun hstep hdest hout hheld => sets (itemCross_delivers hdest hstep hout (of_decide_eq_true hheld)) rfl,
      fun hstep hdest hout hpulse =>
        completes (crossed_strobe hmode hsync hruns (itemCross_strobes hdest hstep hout (of_decide_eq_false hpulse)) ?strobed),
      fun hstep hback => sets (itemCross_acknowledged hback hstep) rfl, fun hstep hdest => sets (itemCross_falls hdest hstep) rfl,
      fun hstep hback hheld => sets (itemCross_nextHeld hback hstep (of_decide_eq_true hheld)) rfl,
      fun hstep hback hpulse => sets (itemCross_nextPulse hback hstep (of_decide_eq_false hpulse)) rfl⟩
    case presented =>
      rw [presentNext_strobes (hc.setBridge n _), State.bridge_setBridge_self hc]
    case strobed =>
      rw [State.bridge_setBridge_self hc]
      exact Nat.lt_succ_self _
  case acknowledge =>
    have htaken := bridgeTokenOp_in hin hbridge hlevel
    have acknowledges {t : State} (h : chanTaken n s = t) := completes (htaken.trans (congrArg State.settle h))
    exact ⟨fun hstale => acknowledges (chanTaken_stale hin hlive htoken hstale), fun hfresh =>
      ⟨fun hmode => acknowledges (chanTaken_sample2 hin hlive htoken hfresh hmode),
        fun hmode => acknowledges (chanTaken_queue hin hlive htoken hfresh hmode),
        fun hmode huntaken => acknowledges (chanTaken_hold hin hlive htoken hfresh hmode huntaken),
        fun hmode huntaken => acknowledges (chanTaken_pulse hin hlive htoken hfresh hmode huntaken)⟩⟩
  case read =>
    intro t x lane
    exact ⟨fun hc hnone => clockedRead_unparked hword hc hnone,
      fun hplain => settles (wordTaken_plain hword (by omega) (by omega)), fun hlo hhi => settles (wordTaken_credits hword hlo hhi),
      fun hlane hreads => settles (wordTaken_sent hword hlane hreads), fun hlane hreads => settles (wordTaken_unread hlane hreads)⟩
  case write =>
    refine ⟨fun hbank hside hruns => ?side, fun hlo hhi hlane => completes (wordWritten_lane ⟨hlo, hhi, hlane⟩ torn),
      fun hbank hruns hc => ?bank⟩
    case side =>
      have hwrite : wordWritten n x torn s = clockedWrite n x s :=
        (wordWritten_side (fun h => hside h.2) torn).trans (sideWrite_clocked hbank torn)
      exact ⟨fun hsync hroom => completes (hwrite.trans (clockedWrite_enqueues hin hruns hmode hsync hroom)),
        fun hfull => completes (hwrite.trans (clockedWrite_full hin hruns hmode hfull))⟩
    case bank =>
      have hwrite : wordWritten n x torn s = bankEdge n torn s :=
        (wordWritten_side (fun h => absurd h.1 (Nat.not_le.mpr hbank)) torn).trans (if_pos hbank)
      exact ⟨fun hsync hroom => completes (hwrite.trans ((bankEdge_queue hin hruns hmode).trans (if_pos ⟨hsync, hroom⟩))),
        fun hfull => completes (hwrite.trans (bankEdge_full hin hruns hmode hfull))⟩

end Sys2Proof.Machine
end

section
/-!
The checkpoint of a bridge (R264, R266, Table 10-7): what a beat-up makes final of each mode and direction, and what a rollback presents again.
-/

namespace Sys2Proof.Machine

/-- What is left of a list after `k` of its elements have gone is what a cut at its length leaves of any longer list. -/
theorem take_drop_append {α : Type} (l more : List α) (k : Nat) : ((l ++ more).drop k).take (l.length - k) = l.drop k := by
  rw [← List.drop_take, List.take_left]

section

variable {n : Nat} {s : State} (hc : s.Canonical)

include hc

/-! Beat-ups. -/

/-- An OUT bridge keeps its fabric write pointer. -/
theorem commitBridge_out (hout : s.svOut n = true) :
    (s.commitBridge n).bridge n = { (s.bridge n) with shCount := (s.bridge n).fifo.length } := by
  rw [State.commitBridge, if_pos hout, State.bridge_setBridge_self hc]

section

variable (hin : s.svOut n = false)

include hin

/-- The words that user logic has read leave an IN QUEUE bridge. -/
theorem commitBridge_queue (hmode : s.svMode n = brQueue) :
    (s.commitBridge n).bridge n = { (s.bridge n) with fifo := (s.bridge n).unread, read := 0 } := by
  rw [State.commitBridge, hin, if_neg Bool.false_ne_true, if_pos hmode, State.bridge_setBridge_self hc]
  rfl

/-- A HOLD value that has been taken is acknowledged. -/
theorem commitBridge_hold (hmode : s.svMode n = brHold) (hstep : (s.bridge n).hs = 2) (htaken : (s.bridge n).taken = true) :
    (s.commitBridge n).bridge n = { (s.bridge n) with hs := 3 } := by
  have hacknowledged : (if (s.bridge n).taken && decide ((s.bridge n).hs = 2) then 3 else (s.bridge n).hs) = 3 := by rw [htaken, hstep]; rfl
  rw [State.commitBridge, hin, if_neg Bool.false_ne_true, hmode, if_neg (by decide), if_pos rfl,
    State.bridge_setBridge_self hc, hacknowledged]

/-- A SAMPLE2 bridge keeps the last value presented. -/
theorem commitBridge_sample2 (hmode : s.svMode n = brSample2) :
    (s.commitBridge n).bridge n = { (s.bridge n) with shLast := (s.bridge n).last } := by
  rw [State.commitBridge, hin, if_neg Bool.false_ne_true, hmode, if_neg (by decide), if_neg (by decide), if_pos rfl,
    State.bridge_setBridge_self hc]

/-- The pulses that user logic has read are pending no more (log entry 78). -/
theorem commitBridge_pulse (hmode : s.svMode n = brCount ∨ s.svMode n = brMerge) :
    (s.commitBridge n).bridge n = { (s.bridge n) with pend := (s.bridge n).pend - (s.bridge n).read, read := 0 } := by
  have hother : s.svMode n ≠ brQueue ∧ s.svMode n ≠ brHold ∧ s.svMode n ≠ brSample2 := by
    rcases hmode with h | h <;> rw [h] <;> decide
  obtain ⟨hqueue, hhold, hsample⟩ := hother
  rw [State.commitBridge, hin, if_neg Bool.false_ne_true, if_neg hqueue, if_neg hhold, if_neg hsample,
    State.bridge_setBridge_self hc]

end

/-! Rollbacks. -/

/-- An OUT QUEUE bridge keeps the words of the checkpoint that are still in it (log entry 58). -/
theorem restoreBridge_outQueue (hout : s.svOut n = true) (hmode : s.svMode n = brQueue) :
    (s.restoreBridge n).bridge n =
      { (s.bridge n) with fifo := (s.bridge n).fifo.take (s.bridge n).shCount, chan := {}, sink := {} } := by
  rw [State.restoreBridge, if_pos hout, if_pos hmode, State.bridge_setBridge_self hc]

section

variable (hin : s.svOut n = false)

include hin

/-- An IN QUEUE bridge gives back the words that have been read. -/
theorem restoreBridge_queue (hmode : s.svMode n = brQueue) :
    (s.restoreBridge n).bridge n = { (s.bridge n) with read := 0, chan := {}, sink := {} } := by
  rw [State.restoreBridge, hin, if_neg Bool.false_ne_true, if_pos hmode, State.bridge_setBridge_self hc]

/-- A SAMPLE2 bridge gets the last value presented back. -/
theorem restoreBridge_sample2 (hmode : s.svMode n = brSample2) :
    (s.restoreBridge n).bridge n = { (s.bridge n) with last := (s.bridge n).shLast, offer := none, chan := {}, sink := {} } := by
  rw [State.restoreBridge, hin, if_neg Bool.false_ne_true, hmode, if_neg (by decide), if_pos rfl,
    State.bridge_setBridge_self hc]

/-- A HOLD value whose taking has not been acknowledged is presented again. -/
theorem restoreBridge_hold (hmode : s.svMode n = brHold) (hstep : (s.bridge n).hs = 2) :
    (s.restoreBridge n).bridge n = { (s.bridge n) with taken := false, chan := {}, sink := {} } := by
  have hagain : ((s.bridge n).taken && decide ((s.bridge n).hs ≠ 2)) = false := by rw [hstep]; exact Bool.and_false _
  rw [State.restoreBridge, hin, if_neg Bool.false_ne_true, hmode, if_neg (by decide), if_neg (by decide), if_pos rfl,
    State.bridge_setBridge_self hc]
  simp only [hagain]

/-- The pulses that user logic has read are pending still. -/
theorem restoreBridge_pulse (hmode : s.svMode n = brCount ∨ s.svMode n = brMerge) :
    ((s.restoreBridge n).bridge n).pend = (s.bridge n).pend ∧ ((s.restoreBridge n).bridge n).read = 0 := by
  have hother : s.svMode n ≠ brQueue ∧ s.svMode n ≠ brSample2 ∧ s.svMode n ≠ brHold := by
    rcases hmode with h | h <;> rw [h] <;> decide
  obtain ⟨hqueue, hsample, hhold⟩ := hother
  rw [State.restoreBridge, hin, if_neg Bool.false_ne_true, if_neg hqueue, if_neg hsample, if_neg hhold,
    State.bridge_setBridge_self hc, Bridge.nextPulse_eq]
  exact ⟨rfl, rfl⟩

end

end

/-- Settles O26: each mode and direction by what its beat-up stores and its rollback gives back. -/
theorem bridgeRollbackComplete : Obligations.BridgeRollbackComplete := by
  refine ⟨fun n s hc hmode => ⟨fun hout => ⟨?stored, fun taken more => ?restored⟩, fun hin => ?inQueue⟩,
    fun n s hc hin => ⟨fun hmode => ?sample2, fun hmode hstep htaken => ?hold, fun hmode => ?pulse⟩⟩
  case stored => rw [commitBridge_out hc hout]
  case restored =>
    intro now r
    have hnow : now.bridge n = { (s.bridge n) with
        fifo := ((s.bridge n).fifo ++ more).drop taken, shCount := (s.bridge n).fifo.length - taken } :=
      State.bridge_setBridge_self hc n _
    have hr : r = _ := restoreBridge_outQueue (s := now) (hc.setBridge n _) hout hmode
    rw [hr, hnow]
    exact ⟨take_drop_append _ _ _, rfl, rfl, rfl⟩
  case inQueue =>
    rw [restoreBridge_queue hc hin hmode, commitBridge_queue hc hin hmode]
    exact ⟨rfl, rfl, rfl, rfl⟩
  case sample2 =>
    rw [commitBridge_sample2 hc hin hmode, restoreBridge_sample2 hc hin hmode]
    exact ⟨rfl, rfl, rfl⟩
  case hold =>
    rw [commitBridge_hold hc hin hmode hstep htaken, restoreBridge_hold hc hin hmode hstep]
    exact ⟨rfl, rfl, rfl⟩
  case pulse =>
    rw [commitBridge_pulse hc hin hmode]
    exact ⟨rfl, rfl, restoreBridge_pulse hc hin hmode⟩

end Sys2Proof.Machine
end

section
/-!
RESYNC of a bridge and a clock that stops (R267 to R271, R286): the side that SV_CMD resets, the crossings that lead to the end of RESYNC, and the
live bit of a clock.
-/

namespace Sys2Proof.Machine

/-! SV_CMD. -/

/-- An accepted SV_CMD clears the counts of the bridges it names, then starts RESYNC in those it names (R267, R286). -/
theorem svCmd_access {m : Nat} {k : Fin 40} {v : Word} {s : State} (ha : s.Accepts m ⟨.selvedge, k⟩ 0x040 v) :
    access (busWrite m (regAddr .selvedge k 0x040) 15 v) s =
      (svWritten k 0x040 v (s.recorded m ⟨.selvedge, k⟩ 0x040 v)).done m ⟨.selvedge, k⟩ 0x040 := by
  have effect (old : Word) (u : State) : State.effectAt m ⟨.selvedge, k⟩ 0x040 old v u = svWritten k 0x040 v u := rfl
  have written := access_write ha k.isLt (by decide) (by decide) rfl (fun h => by cases h.1) rfl
  rwa [effect] at written

/-! The side that is reset first. -/

/-- The bridge in RESYNC, its clocked side reset; a token of the fabric older than it just completes (R269). -/
def Bridge.resyncing (v : Bridge) : Bridge :=
  { v with resync := true, done := false, rsFabric := false, rsStep := 2, chan := { v.chan with stale := v.chan.token.isSome } }

section

variable {n : Nat} {s : State} (hon : s.svMode n ≠ brOff) (hbridge : s.svMode n ≠ brBusport)

include hon hbridge

theorem resyncBridge_starts : s.resyncBridge n false = (s.setBridge n (s.bridge n).resyncing).zeroSide n false := by
  rw [State.resyncBridge, if_neg hbridge, State.startResync, if_neg hon]
  rfl

/-- The clocked side of an OUT bridge is the reader: it forgets its last value and holds no item. -/
theorem resyncBridge_out (hc : s.Canonical) (hout : s.svOut n = true) :
    (s.resyncBridge n false).bridge n = { (s.bridge n).resyncing with
        last := if s.svMode n = brSample2 then 0 else (s.bridge n).last, taken := false } ∧
      s.resyncBridge n false = { s with bridges := (s.resyncBridge n false).bridges } := by
  have hwas : (s.setBridge n (s.bridge n).resyncing).bridge n = (s.bridge n).resyncing :=
    State.bridge_setBridge_self hc n _
  have hreader : (false == (s.setBridge n (s.bridge n).resyncing).svOut n) = false := (congrArg (false == ·) hout).trans rfl
  rw [resyncBridge_starts hon hbridge]
  simp only [State.zeroSide, hreader, hwas, Bool.false_eq_true, if_false]
  exact ⟨State.bridge_setBridge_self (hc.setBridge n _) n _, rfl⟩

/-- The clocked side of an IN bridge is the writer: what it holds is discarded and counted (R268). -/
theorem resyncBridge_in (hc : s.Canonical) (hin : s.svOut n = false) :
    (s.resyncBridge n false).bridge n = { (s.bridge n).resyncing with
        fifo := [], hold := none, waiting := none, pend := 0, hs := 0, offer := none, agreed := none } ∧
      (s.resyncBridge n false).fld (rSvCnt n) 15 8 = min 255 (s.fld (rSvCnt n) 15 8 + (s.bridge n).items) ∧
      s.resyncBridge n false = { s with bridges := (s.resyncBridge n false).bridges, regs := (s.resyncBridge n false).regs } := by
  have hwas : (s.setBridge n (s.bridge n).resyncing).bridge n = (s.bridge n).resyncing :=
    State.bridge_setBridge_self hc n _
  have hwriter : (false == (s.setBridge n (s.bridge n).resyncing).svOut n) = true := (congrArg (false == ·) hin).trans rfl
  have hset : (s.setBridge n (s.bridge n).resyncing).Canonical := hc.setBridge n _
  rw [resyncBridge_starts hon hbridge]
  simp only [State.zeroSide, hwriter, hwas, Bool.false_eq_true, if_false, if_true]
  exact ⟨State.bridge_setBridge_self (hset.count _ _ _ _) n _, State.fld_count hset _ _ (by decide) (by decide),
    rfl⟩

end

/-! The crossings of RESYNC. -/

section

variable {n : Nat} {s : State} (hplain : n < 256) (hbridge : s.svMode n ≠ brBusport) (hsync : (s.bridge n).resync = true)
  (hruns : s.svRuns n = true)

include hplain hbridge hsync hruns

/-- The flag of the present step moves RESYNC on. -/
theorem crossed_resync : crossed n (s.bridge n).resyncDir s = (s.resyncCross n).settle := by
  have hcross : flagCrossed n (s.bridge n).resyncDir s = s.resyncCross n := by
    simp only [flagCrossed, hruns, hsync, Bool.not_true, Bool.false_eq_true, if_false, if_true]
  rw [crossed_bridge hbridge, hcross, if_neg (by omega)]

/-- The other side starts at zero after the first crossing (Table 10-9, step 3). -/
theorem crossed_resync_first (hstep : (s.bridge n).rsStep = 2) : crossed n (s.bridge n).resyncDir s =
    ((s.setBridge n { (s.bridge n) with rsStep := 3 }).zeroSide n (!(s.bridge n).rsFabric)).settle := by
  rw [crossed_resync hplain hbridge hsync hruns, State.resyncCross, if_pos hstep]

theorem crossed_resync_middle (hstep : (s.bridge n).rsStep = 3 ∨ (s.bridge n).rsStep = 4) : crossed n (s.bridge n).resyncDir s =
    (s.setBridge n { (s.bridge n) with rsStep := (s.bridge n).rsStep + 1 }).settle := by
  rw [crossed_resync hplain hbridge hsync hruns, State.resyncCross, if_neg (by omega), if_pos (by omega)]

/-- The last crossing ends RESYNC, and a request that it has held goes on (R269). -/
theorem crossed_resync_last (hstep : (s.bridge n).rsStep = 5) : crossed n (s.bridge n).resyncDir s =
    (((s.setBridge n { (s.bridge n) with resync := false, done := true, rsStep := 0 }).takeParked n).svEvent n 3).settle := by
  rw [crossed_resync hplain hbridge hsync hruns, State.resyncCross, if_neg (by omega), if_neg (by omega)]

end

/-! Stopped clocks. -/

section

variable {n t : Nat} {s : State}

/-- A clock that stops is counted and raised, unless the gate of its pick-aligned net holds it or has held it within the last 64 D0 cycles (R271). -/
theorem clockLostOp_counts (hon : s.svMode n ≠ brOff) (ht : s.now ≤ t) (hlive : (s.bridge n).clkLost = false)
    (hstopped : s.domainRuns (s.svClock n) = false)
    (hfree : s.svClock n < 28 ∨ s.netAligned (s.svClock n - 28) = false ∨
      s.pick.gateShut = false ∧ ∀ a, s.pick.gateAt = some a → a + 2560 ≤ t) :
    clockLostOp n t s = (((s.at t).setBridge n { (s.bridge n) with clkLost := true }).count (rSvCnt n) 7 0 1).svEvent n 2 := by
  refine if_pos ?_
  rw [decide_eq_true ⟨hon, ht⟩, hlive, hstopped]
  rcases hfree with hfixed | hunaligned | ⟨hopen, hlong⟩
  · rw [decide_eq_true hfixed]
    rfl
  · have hfreeRunning : bitOf (s.pace (s.svClock n - 28)).act.cfg 30 = false := hunaligned
    rw [hfreeRunning, beq_self_eq_true, Bool.or_true]
    rfl
  · rw [hopen]
    cases hat : s.pick.gateAt with
    | none => simp
    | some a => simp [clockLostNs, hlong a hat]

theorem clockBack_returns (hruns : s.domainRuns (s.svClock n) = true) :
    clockBack n s = (s.setBridge n { (s.bridge n) with clkLost := false }).takeParked n :=
  if_pos hruns

end

/-- Settles O27: SV_CMD by its accepted write, the reset of the clocked side by the direction of the bridge, each crossing by its step. -/
theorem resyncAndStoppedClocksComplete : Obligations.ResyncAndStoppedClocksComplete := by
  refine ⟨fun m k v s ha => ?command, fun n s hc hon hbridge => ⟨resyncBridge_out hon hbridge hc, resyncBridge_in hon hbridge hc⟩,
    fun n s hplain hbridge hsync hruns => ⟨fun hstep => ?first, fun hstep => ?middle, fun hstep => ?last⟩,
    fun n t s hon ht => ⟨fun hlive hstopped hfree => ?lost, fun hruns => ?back⟩⟩
  case command =>
    have hexec := svCmd_access ha
    exact ⟨congrArg Host.Outcome.next hexec, congrArg Host.Outcome.next hexec⟩
  case first => exact congrArg Host.Outcome.next (crossed_resync_first hplain hbridge hsync hruns hstep)
  case middle => exact congrArg Host.Outcome.next (crossed_resync_middle hplain hbridge hsync hruns hstep)
  case last => exact congrArg Host.Outcome.next (crossed_resync_last hplain hbridge hsync hruns hstep)
  case lost =>
    have hlost := clockLostOp_counts hon ht hlive hstopped hfree
    rw [at_eq ht] at hlost
    exact congrArg Host.Outcome.next hlost
  case back =>
    have hback := clockBack_returns (s := s.at t) hruns
    rw [at_eq ht] at hback
    have hexec : exec (.bridgeClockReturn n t) s = .next (clockBack n (s.at t)).settle := rfl
    rw [hexec, at_eq ht, hback]
    rfl

end Sys2Proof.Machine
end

section
/-!
Pace generators (R278 to R291): PACE_CMD by its accepted write, the settings that a generator takes with or without a new lock, and what it
gains and loses of lock and reference.
-/

namespace Sys2Proof.Machine

/-! Two writes of one record. -/

/-- The second write of a key replaces the first. -/
theorem SMap.set_set {α : Type} [DecidableEq α] {d : α} {m : SMap α} (h : SMap.wf (fun _ => d) m = true) (k : Nat) (v w : α) :
    SMap.set d (SMap.set d m k v) k w = SMap.set d m k w := by
  have hset (x : α) : SMap.wf (fun _ => d) (SMap.set d m k x) = true := SMap.wf_set h
  refine SMap.eq_of_get (SMap.wf_set (hset v)) (hset w) (fun j => ?_)
  rw [SMap.get_set _ _ _ _ _ (SMap.wf_sorted (hset v)), SMap.get_set _ _ _ _ _ (SMap.wf_sorted h),
    SMap.get_set _ _ _ _ _ (SMap.wf_sorted h)]
  split <;> rfl

theorem State.setPace_setPace {s : State} (hc : s.Canonical) (g : Nat) (v w : Pace) : (s.setPace g v).setPace g w = s.setPace g w :=
  congrArg (fun m => { s with paces := m }) (SMap.set_set hc.paces g v w)

/-- Lock that is gained or lost together with another write of the generator. -/
theorem State.paceLock_setPace {s : State} (hc : s.Canonical) (g : Nat) (v : Pace) (on relock : Bool) :
    (s.setPace g v).paceLock g on relock =
      s.setPace g { v with locked := on, relock := relock, turn := if v.locked = on then v.turn else some s.now } := by
  rw [State.paceLock, State.pace_setPace_same _ _ _ (SMap.wf_sorted hc.paces), State.setPace_setPace hc]
  rfl

/-! The command register. -/

section

variable {m : Nat} {g : Fin 32} {w : Word} {s : State}

/-- The record of a command leaves the generators as they are. -/
theorem recorded_paceCmd_pace (k : Nat) : (s.recorded m ⟨.pace, g⟩ 0x050 w).pace k = s.pace k := by
  rw [recorded_frame (fun h => by cases h) rfl]
  rfl

/-- It leaves the staged settings. -/
theorem recorded_paceCmd_staged (hc : s.Canonical) : (s.recorded m ⟨.pace, g⟩ 0x050 w).paceStaged g = s.paceStaged g := by
  have hothers := (recorded_regs hc (m := m) (p := ⟨.pace, g⟩) (off := 0x050) (v := w) (fun h => by cases h) (by decide) rfl (by decide)
    g.isLt).2
  have hkept {off : Nat} (hlo : 0x040 ≤ off) (hhi : off < 0x050) :
      (s.recorded m ⟨.pace, g⟩ 0x050 w).reg (paceBase g + off) = s.reg (paceBase g + off) := by
    apply hothers <;> simp only [paceBase, regAddr, Page.base, PageKind.info] <;> omega
  rw [State.paceStaged, hkept (by decide) (by decide), hkept (by decide) (by decide), hkept (by decide) (by decide),
    hkept (by decide) (by decide)]
  rfl

/-- So does the clearing of the counts. -/
theorem paceStaged_setCounts (s : State) (g : Nat) (v : Word) : (s.setReg (paceBase g + 0x058) v).paceStaged g = s.paceStaged g := by
  have hkept {off : Nat} (hhi : off < 0x050) : (s.setReg (paceBase g + 0x058) v).reg (paceBase g + off) = s.reg (paceBase g + off) :=
    State.reg_setReg_other s v (by omega)
  rw [State.paceStaged, hkept (by decide), hkept (by decide), hkept (by decide), hkept (by decide)]
  rfl

/-- An accepted PACE_CMD clears the counts and makes the staged settings pending, as its bits say (R280, R290). -/
theorem paceCmd_access (hc : s.Canonical) (ha : s.Accepts m ⟨.pace, g⟩ 0x050 w) :
    let r := s.recorded m ⟨.pace, g⟩ 0x050 w
    let r1 := if bitOf w 1 then r.setReg (paceBase g + 0x058) 0 else r
    access (busWrite m (regAddr .pace g 0x050) 15 w) s =
      (if bitOf w 0 then r1.setPace g { (s.pace g) with pending := some (s.paceStaged g) } else r1).done m ⟨.pace, g⟩ 0x050 := by
  intro r r1
  have effect (old : Word) : State.effectAt m ⟨.pace, g⟩ 0x050 old w r = if bitOf w 0 then paceApplyOp g r1 else r1 := rfl
  have written := access_write ha g.isLt (by decide) (by decide) rfl (fun h => by cases h.1) rfl
  rw [effect] at written
  have hpace : r1.pace g = s.pace g := by
    simp only [r1]
    split <;> exact recorded_paceCmd_pace g
  have hstaged : r1.paceStaged g = s.paceStaged g := by
    simp only [r1]
    split
    · exact (paceStaged_setCounts r g 0).trans (recorded_paceCmd_staged hc)
    · exact recorded_paceCmd_staged hc
  rwa [paceApplyOp, hpace, hstaged] at written

end

/-! Settings that take effect. -/

/-- Settings of the same clock name the same reference. -/
theorem PaceSet.sameClock_reference {x y : PaceSet} (h : x.sameClock y = true) : fieldOf x.cfg 29 24 = fieldOf y.cfg 29 24 := by
  obtain ⟨-, -, -, hcfg⟩ := of_decide_eq_true h
  have hkept (w : Word) : fieldOf (withField (withField w 30 30 0) 17 14 0) 29 24 = fieldOf w 29 24 := by
    rw [fieldOf_withField_other _ _ _ _ _ _ (by decide) (by decide), fieldOf_withField_other _ _ _ _ _ _ (by decide) (by decide)]
  rw [← hkept x.cfg, hcfg, hkept]

section

variable {g : Nat} {s : State} {x : PaceSet}

/-- Pending settings replace the active ones; the lock stands if they keep the clock (R280). -/
theorem paceTaken_pending (hc : s.Canonical) (hpending : (s.pace g).pending = some x) {keep ref : Bool}
    (hkeep : (x.sameClock (s.pace g).act && (s.pace g).locked) = keep)
    (href : (if fieldOf x.cfg 29 28 = 0 then !s.pwr.refLost
      else (s.pace g).refOk && decide (fieldOf x.cfg 29 24 = fieldOf (s.pace g).act.cfg 29 24)) = ref) :
    paceTaken g s = (s.setPace g { (s.pace g) with
      act := x, pending := none, refOk := ref, locked := keep, relock := bitOf x.cfg 31 && !keep,
      turn := if (s.pace g).locked = keep then (s.pace g).turn else some s.now }).paceEvent g 3 := by
  subst hkeep href
  simp only [paceTaken, hpending, State.paceLock_setPace hc]

/-- Settings that change the clock unlock the generator. -/
theorem paceTaken_unlocks (hc : s.Canonical) (hpending : (s.pace g).pending = some x)
    (hchange : (x.sameClock (s.pace g).act && (s.pace g).locked) = false) :
    paceTaken g s = (s.setPace g { (s.pace g) with
      act := x, pending := none, locked := false, relock := bitOf x.cfg 31,
      turn := if (s.pace g).locked = false then (s.pace g).turn else some s.now,
      refOk := if fieldOf x.cfg 29 28 = 0 then !s.pwr.refLost
        else (s.pace g).refOk && decide (fieldOf x.cfg 29 24 = fieldOf (s.pace g).act.cfg 29 24) }).paceEvent g 3 := by
  rw [paceTaken_pending hc hpending hchange rfl, Bool.not_false, Bool.and_true]

/-- Settings that keep the clock keep lock and reference. -/
theorem paceTaken_keepsLock (hc : s.Canonical) (hpending : (s.pace g).pending = some x) (hsame : x.sameClock (s.pace g).act = true)
    (hlocked : (s.pace g).locked = true) (href : (s.pace g).refOk = true) (hpresent : s.pwr.refLost = false) :
    paceTaken g s = (s.setPace g { (s.pace g) with act := x, pending := none, relock := false }).paceEvent g 3 := by
  have hkeep : (x.sameClock (s.pace g).act && (s.pace g).locked) = true := by rw [hsame, hlocked, Bool.and_self]
  have hok : (if fieldOf x.cfg 29 28 = 0 then !s.pwr.refLost
      else (s.pace g).refOk && decide (fieldOf x.cfg 29 24 = fieldOf (s.pace g).act.cfg 29 24)) = (s.pace g).refOk := by
    rw [hpresent, href, decide_eq_true (PaceSet.sameClock_reference hsame)]
    exact ite_self true
  rw [paceTaken_pending hc hpending hkeep hok, if_pos hlocked, Bool.not_true, Bool.and_false, ← hlocked]

/-! Lock and reference. -/

/-- The generator without its reference: it has no lock and does not look for one (R284). -/
def Pace.unreferenced (v : Pace) (t : Nat) : Pace :=
  { v with refOk := false, locked := false, relock := false, turn := if v.locked = false then v.turn else some t }

/-- A generator that looks for its lock finds it (R285). -/
theorem paceLockedOp_locks (hrelock : (s.pace g).relock = true) (href : (s.pace g).refOk = true) (hpowered : s.pwr.removed = false) :
    paceLockedOp g s = (s.paceLock g true false).paceEvent g 0 :=
  if_pos (by rw [hrelock, href, hpowered]; rfl)

/-- A running generator that loses its reference loses its lock too, and counts both (R284, R291). -/
theorem paceRefLostOp_running (hc : s.Canonical) (hon : (s.pace g).enabled = true) (href : (s.pace g).refOk = true) :
    paceRefLostOp g s = ((((s.setPace g ((s.pace g).unreferenced s.now)).count (paceBase g + 0x058) 31 16 1).count
      (paceBase g + 0x058) 15 0 1).paceEvent g 1).paceEvent g 2 := by
  simp only [paceRefLostOp, State.paceLock_setPace hc, hon, href, Bool.and_self, if_true, Pace.unreferenced]

/-- One that is off counts and raises nothing. -/
theorem paceRefLostOp_off (hc : s.Canonical) (hoff : (s.pace g).enabled = false) :
    paceRefLostOp g s = s.setPace g ((s.pace g).unreferenced s.now) := by
  simp only [paceRefLostOp, State.paceLock_setPace hc, hoff, Bool.false_and, Bool.false_eq_true, if_false, Pace.unreferenced]

/-- A reference that returns lets a generator that is on look for its lock (R284). -/
theorem paceRefBack_returns (href : (s.pace g).refOk = false) :
    paceRefBack g s = s.setPace g { (s.pace g) with refOk := true, relock := (s.pace g).enabled } :=
  if_neg (Bool.eq_false_iff.mp href)

/-- A loss of lock with the reference present is counted and raised, and the generator looks for its lock (R291). -/
theorem paceLockLostOp_loses (hlocked : (s.pace g).locked = true) (href : (s.pace g).refOk = true) :
    paceLockLostOp g s = ((s.setPace g { (s.pace g) with locked := false, relock := true, turn := some s.now }).count
      (paceBase g + 0x058) 31 16 1).paceEvent g 1 := by
  have hlost : s.paceLock g false true = s.setPace g { (s.pace g) with locked := false, relock := true, turn := some s.now } := by
    rw [State.paceLock, if_neg (by rw [hlocked]; decide)]
  rw [paceLockLostOp, if_pos (by rw [hlocked, href]; rfl), hlost]

end

/-- Settles O29: PACE_CMD by its accepted write, each happening of the generator at its time by its own effect. -/
theorem paceGeneratorsComplete : Obligations.PaceGeneratorsComplete := by
  intro g t s ht hc v u cnt turned
  have hu : s.at t = u := at_eq ht
  have hcu : u.Canonical := { hc with }
  have at_u {f : State → State} {z : State} (h : f u = z) : Host.Outcome.next (f (s.at t)) = (.next z : Result) := by rw [hu, h]
  refine ⟨fun m w ha => ?command, fun x hpending hchange => at_u (paceTaken_unlocks hcu hpending hchange),
    fun x hpending hsame hlocked href hpresent => at_u (paceTaken_keepsLock hcu hpending hsame hlocked href hpresent),
    fun hrelock href hpowered => at_u (paceLockedOp_locks (s := u) hrelock href hpowered),
    fun hon href => at_u (paceRefLostOp_running hcu hon href), fun hoff => at_u (paceRefLostOp_off hcu hoff),
    fun href => at_u (paceRefBack_returns (s := u) href), fun hlocked href => at_u (paceLockLostOp_loses (s := u) hlocked href),
    fun edges => at_u (f := fun z => z.setReg (regAddr .pace g 0x054) (edges.setWidth 32)) rfl⟩
  case command =>
    intro r r1 z
    have hexec : access (busWrite m.id (regAddr .pace g 0x050) 15 w) s = z := paceCmd_access hc ha
    exact ⟨congrArg Host.Outcome.next hexec, congrArg Host.Outcome.next hexec⟩

end Sys2Proof.Machine
end

section
/-!
Accepted accesses by the effect of their register, once for each shape: a write and a read of a page other than CONFIG, LOG and CREEL, what
their answer leaves, and a write that clears registers.
-/

namespace Sys2Proof.Machine

/-! Writes. -/

section

variable {m off : Nat} {k : PageKind} {n : Nat} {v : Word} {s : State}

/-- Only CONFIG, LOG and CREEL have writes that are logged late or whose answer waits. -/
theorem access_write_plain (hk : k ∉ [PageKind.config, .log, .creel]) (ha : s.Accepts m ⟨k, n⟩ off v) (hn : n < k.info.2.1)
    (ho : off < 0x1000) (h4 : off % 4 = 0) : access (busWrite m (regAddr k n off) 15 v) s =
      (State.effectAt m ⟨k, n⟩ off ((s.begun ⟨k, n⟩ off).view m ⟨k, n⟩ off) v (s.recorded m ⟨k, n⟩ off v)).done m ⟨k, n⟩ off := by
  simp only [List.mem_cons, List.not_mem_nil, or_false, not_or] at hk
  obtain ⟨hconfig, hlog, hcreel⟩ := hk
  have hwaits (u : State) (old : Word) : (u.effectOf m ⟨k, n⟩ off old v).waits = false := by
    change (decide (k = .creel ∧ _) && _ || decide (k = .config ∧ _) && _) = false
    rw [decide_eq_false (fun h => hcreel h.1), decide_eq_false (fun h => hconfig h.1), Bool.false_and, Bool.false_and, Bool.or_self]
  exact access_write (p := ⟨k, n⟩) ha hn ho h4 (decide_eq_false fun h => hconfig h.1) (fun h => hlog h.1) (hwaits _ _)

/-- A write whose effect does not depend on what the register read before. -/
theorem access_effect {f : State → State} (hk : k ∉ [PageKind.config, .log, .creel]) (ha : s.Accepts m ⟨k, n⟩ off v) (hn : n < k.info.2.1)
    (ho : off < 0x1000) (h4 : off % 4 = 0) (heffect : ∀ old u, State.effectAt m ⟨k, n⟩ off old v u = f u) :
    access (busWrite m (regAddr k n off) 15 v) s = (f (s.recorded m ⟨k, n⟩ off v)).done m ⟨k, n⟩ off :=
  (access_write_plain hk ha hn ho h4).trans (by rw [heffect])

/-- A write that clears registers leaves the rest of the device beside its record. -/
theorem cleared_done (hc : s.Canonical) (hlane : k = .serdes → off < 0x100) (hown : perIdentity ⟨k, n⟩ off = false) (l : List Nat) :
    let t := (l.foldl (fun s a => s.setReg a 0) (s.recorded m ⟨k, n⟩ off v)).done m ⟨k, n⟩ off
    t.resp.code = 0 ∧ (∀ a ∈ l, t.reg a = 0) ∧ (∀ a, a ∉ l → t.reg a = (s.recorded m ⟨k, n⟩ off v).reg a) ∧
      t = { s with regs := t.regs, ev := t.ev, log := t.log, resp := t.resp, jtag := { s.jtag with out := t.jtag.out } } := by
  obtain ⟨-, hzero, hother, hframe⟩ := State.zero_regs l _ (hc.recorded (m := m) (p := ⟨k, n⟩) (v := v) hlane)
  refine ⟨State.done_code _ _ _ _, fun a hmem => (State.done_reg _ _ _ _ _).trans (hzero a hmem),
    fun a hmem => (State.done_reg _ _ _ _ _).trans (hother a hmem), State.done_frame _ _ _ ?_⟩
  rw [hframe, recorded_frame (p := ⟨k, n⟩) hlane hown]

end

theorem State.done_fld (u : State) (m : Nat) (p : Page) (off a hi lo : Nat) : (u.done m p off).fld a hi lo = u.fld a hi lo :=
  congrArg (fun w => fieldOf w hi lo) (State.done_reg u m p off a)

theorem State.done_bit (u : State) (m : Nat) (p : Page) (off a k : Nat) : (u.done m p off).bit a k = u.bit a k :=
  congrArg (fun w => bitOf w k) (State.done_reg u m p off a)

/-- An answer changes the answer and what the debug port shows of it. -/
theorem State.done_rest (u : State) (m : Nat) (p : Page) (off : Nat) :
    u.done m p off = { u with resp := (u.done m p off).resp, jtag := { u.jtag with out := (u.done m p off).jtag.out } } := by
  unfold State.done State.heard
  split <;> rfl

/-- What does not read the answer or the debug port reads as before an answer. -/
theorem State.done_keeps {α : Type} (g : State → α) (hg : ∀ (s : State) r j, g { s with resp := r, jtag := j } = g s) (u : State) (m : Nat)
    (p : Page) (off : Nat) : g (u.done m p off) = g u := by
  rw [State.done_rest]
  exact hg _ _ _

/-- What reads neither the registers nor the controller reads as before an event. -/
theorem State.raise_keeps {α : Type} (g : State → α) (hg : ∀ (s : State) r e, g { s with regs := r, ev := e } = g s) (s : State) (p : Page)
    (k : Nat) (d : Word) : g (s.raise p k d) = g s := by
  rw [State.raise_frame]
  exact hg _ _ _

/-! Reads. -/

section

variable {m off : Nat} {k : PageKind} {n : Nat} {s : State}

theorem access_read_plain (hk : k ≠ .creel) (ha : s.AcceptsRead m ⟨k, n⟩ off) (hn : n < k.info.2.1) (ho : off < 0x1000) (h4 : off % 4 = 0) :
    access (busRead m (regAddr k n off)) s =
      (readEffect m ⟨k, n⟩ off s.forgetAnswer).1.readDone m ⟨k, n⟩ off (readEffect m ⟨k, n⟩ off s.forgetAnswer).2 := by
  have hread := access_read (p := ⟨k, n⟩) ha hn ho h4
  rw [if_neg fun h => hk h.1] at hread
  exact hread

end

theorem State.readDone_resp (s : State) (m : Nat) (p : Page) (off : Nat) (v : Word) :
    (s.readDone m p off v).resp = ⟨m, false, p.base + off, [v], 0, .success⟩ := congrArg State.resp (State.readDone_frame s m p off v)

theorem State.readDone_keeps {α : Type} (g : State → α) (hg : ∀ (s : State) r j, g { s with resp := r, jtag := j } = g s) (s : State) (m : Nat)
    (p : Page) (off : Nat) (v : Word) : g (s.readDone m p off v) = g s := by
  rw [State.readDone_frame]
  exact hg _ _ _

/-- What a read leaves that has changed nothing but the answer. -/
theorem State.readDone_quiet (s : State) (m : Nat) (p : Page) (off : Nat) (v : Word) : let t := s.forgetAnswer.readDone m p off v
    t = { s with resp := t.resp, jtag := { s.jtag with out := t.jtag.out } } := by
  dsimp only
  rw [State.readDone_frame]
  rfl

/-! Counts beside other fields. -/

theorem State.reg_count_other (s : State) {a b : Nat} (hi lo n : Nat) (h : b ≠ a) : (s.count a hi lo n).reg b = s.reg b :=
  State.reg_setFld_other s _ _ _ h

theorem State.fld_count_apart {s : State} (hc : s.Canonical) {a b hi lo h' l' : Nat} (n : Nat) (h : hi < 32)
    (d : a ≠ b ∨ h' < lo ∨ hi < l') : (s.count a hi lo n).fld b h' l' = s.fld b h' l' := State.fld_setFld_apart hc _ h d

theorem State.bit_count_apart {s : State} (hc : s.Canonical) {a b hi lo k : Nat} (n : Nat) (h : hi < 32)
    (d : a ≠ b ∨ k < lo ∨ hi < k) : (s.count a hi lo n).bit b k = s.bit b k := State.bit_setFld_apart hc _ h d

end Sys2Proof.Machine
end

section
/-!
Reads of the device (R295, R421, R423, R427, R428): how each completion ends the read of its tag, for a channel and for the configuration
engine, and what a channel takes of the reads that have ended.
-/

namespace Sys2Proof.Machine

/-! The end of a read by its requester. -/

section

variable {r : DevRead} {s : State}

theorem deviceReadEnds_channel (hchan : r.chan ≠ 64) (status : Nat) (ws : List Word) (bytes : List Byte) :
    s.deviceReadEnds r status ws bytes = s.readEnds r status bytes := if_neg hchan

/-- The read no longer holds its tag. -/
def State.tagFreed (s : State) (r : DevRead) : State :=
  { s with pcie := { s.pcie with reads := s.pcie.reads.filter (fun q => decide (q.tag ≠ r.tag)) } }

theorem deviceReadEnds_engine_ok (hengine : r.chan = 64) (hlive : r.dead = false) (ws : List Word) (bytes : List Byte) :
    s.deviceReadEnds r 0 ws bytes = ((s.tagFreed r).withEng ((s.tagFreed r).eng.arrived r.off ws)).ask := by
  rw [State.deviceReadEnds, if_pos (by exact hengine), State.engineReadEnds]
  simp only [hlive, decide_true, Bool.false_eq_true, if_false, if_true, State.tagFreed]

theorem deviceReadEnds_engine_failed (hengine : r.chan = 64) (hlive : r.dead = false) {status : Nat} (hfail : status ≠ 0) (ws : List Word)
    (bytes : List Byte) : s.deviceReadEnds r status ws bytes =
      ((s.tagFreed r).rejectLoad rejSourceFail (s.tagFreed r).eng.sect (4 * (s.tagFreed r).eng.words.length)).ask := by
  rw [State.deviceReadEnds, if_pos (by exact hengine), State.engineReadEnds]
  simp only [hlive, hfail, decide_false, Bool.false_eq_true, if_false, State.tagFreed]

end

/-! Completions (R423). -/

section

variable {tag : Nat} {r : DevRead} {s : State} (hread : s.pcie.reads.find? (fun r => decide (r.tag = tag)) = some r)

include hread

theorem readCompletion_ok {ws : List Word} (hlen : ws.length = (s.readAddr r % 4 + r.len + 3) / 4) :
    readCompletion tag .ok ws s = s.deviceReadEnds r 0 ws (((wordsBytes ws).drop (s.readAddr r % 4)).take r.len) := by
  simp only [readCompletion, hread, hlen, decide_true, Bool.or_true, if_true]

theorem readCompletion_poisoned (ws : List Word) :
    readCompletion tag .poisoned ws s = (s.aer (s.readFunc r) 12).deviceReadEnds r stPoison [] [] := by
  simp only [readCompletion, hread]

theorem readCompletion_failed {st : CplStatus} (hst : st = .unsupported ∨ st = .abort) (ws : List Word) :
    readCompletion tag st ws s = s.deviceReadEnds r stHostRead [] [] := by
  rcases hst with rfl | rfl <;> simp only [readCompletion, hread]

theorem readTimeout_ends (hon : s.pciBit (s.readFunc r) pciDevCtl2 4 = false) :
    readTimeout tag s = (s.aer (s.readFunc r) 14).deviceReadEnds r stTimeout [] [] := by
  simp only [readTimeout, hread, hon, Bool.false_eq_true, if_false]

theorem readTimeout_disabled (hoff : s.pciBit (s.readFunc r) pciDevCtl2 4 = true) : readTimeout tag s = s := by
  simp only [readTimeout, hread, hoff, if_true]

end

theorem readCompletion_unexpected {tag : Nat} {s : State} (hnone : s.pcie.reads.find? (fun r => decide (r.tag = tag)) = none)
    (st : CplStatus) (ws : List Word) : readCompletion tag st ws s = ((s.count rDrops 15 0 1).aerAdvisory 0 16).pcieEvent 5 0 := by
  simp only [readCompletion, hnone]
  rfl

/-! What a channel takes (R427, R428). -/

/-- The `i`-th descriptor of a fetch, with its slot in a ring of `slots`. -/
def fetchedDescriptor (slots : Nat) (r : ReadDone) (i : Nat) : Nat × List Word :=
  ((r.off + i) % slots, (List.range 8).map (fun k => BitVec.ofNat 32 (bytesValue ((r.bytes.drop (4 * (8 * i + k))).take 4))))

theorem fetchedDescriptor_word (slots : Nat) (r : ReadDone) (i : Nat) {k : Nat} (hk : k < 8) :
    (fetchedDescriptor slots r i).2.getD k 0 = BitVec.ofNat 32 (bytesValue ((r.bytes.drop (4 * (8 * i + k))).take 4)) := by
  simp only [fetchedDescriptor, List.getD_eq_getElem?_getD, List.getElem?_map, List.getElem?_range hk, Option.map_some, Option.getD_some]

section

variable {ch : Nat} {s : State}

theorem descriptorFetch_failed {r : ReadDone} (hfetch : (s.chan ch).fetch = some r) (hfail : r.status ≠ 0) :
    descriptorFetch ch s = (s.setChan ch { s.chan ch with fetch := none, badFetch := r.status }).advance ch := by
  simp only [descriptorFetch, hfetch, if_pos hfail]

theorem descriptorFetch_taken {r : ReadDone} (hfetch : (s.chan ch).fetch = some r) (hgood : r.status = 0) :
    descriptorFetch ch s = (s.setChan ch { s.chan ch with
      fetch := none, descs := (s.chan ch).descs ++ (List.range (r.bytes.length / 32)).map (fetchedDescriptor (s.chSlots ch) r) }).advance ch := by
  simp only [descriptorFetch, hfetch, hgood, ne_eq, not_true_eq_false, if_false]
  rfl

theorem dataReadDone_failed {w : Work} {q : ReadDone} (hwork : (s.chan ch).work = some w)
    (hpart : w.parts.find? (fun q => decide (q.off = w.moved + w.ready.length)) = some q) (hfail : q.status ≠ 0) :
    dataReadDone ch s = (s.endWork ch q.status false).advance ch := by
  simp only [dataReadDone, hwork, hpart, if_pos hfail]

theorem dataReadDone_taken {w : Work} {q : ReadDone} (hwork : (s.chan ch).work = some w)
    (hpart : w.parts.find? (fun q => decide (q.off = w.moved + w.ready.length)) = some q) (hgood : q.status = 0) :
    dataReadDone ch s = (s.setChan ch { s.chan ch with
      work := some { w with ready := w.ready ++ q.bytes, parts := w.parts.filter (fun p => decide (p.off ≠ q.off)) } }).move ch := by
  simp only [dataReadDone, hwork, hpart, hgood, ne_eq, not_true_eq_false, if_false]

end

/-- Settles O34: a completion by its status and its requester, a fetch and data of a buffer by the status of their read. -/
theorem deviceReadsComplete : Obligations.DeviceReadsComplete := by
  have followed {f z : State} (h : f = z) : (Host.Outcome.next f.follow : Result) = .next z.follow := by rw [h]
  refine ⟨fun tag r s hread => ?reads, fun tag ws s hnone => followed (readCompletion_unexpected hnone .ok ws),
    fun ch r s hfetch => ⟨fun hfail => congrArg Host.Outcome.next (descriptorFetch_failed hfetch hfail), fun hgood => ?fetch⟩,
    fun ch w q s hwork hpart => ⟨fun hfail => congrArg Host.Outcome.next (dataReadDone_failed hwork hpart hfail),
      fun hgood => congrArg Host.Outcome.next (dataReadDone_taken hwork hpart hgood)⟩⟩
  case reads =>
    intro f skip
    refine ⟨fun hchan => ?_, fun hengine hlive => ?_, fun hoff => followed (readTimeout_disabled hread hoff)⟩
    · exact ⟨fun ws hlen => followed ((readCompletion_ok hread hlen).trans (deviceReadEnds_channel hchan _ _ _)),
        fun ws => followed ((readCompletion_poisoned hread ws).trans (deviceReadEnds_channel hchan _ _ _)),
        fun ws st hst => followed ((readCompletion_failed hread hst ws).trans (deviceReadEnds_channel hchan _ _ _)),
        fun hon => followed ((readTimeout_ends hread hon).trans (deviceReadEnds_channel hchan _ _ _))⟩
    · exact ⟨fun ws hlen => followed ((readCompletion_ok hread hlen).trans (deviceReadEnds_engine_ok hengine hlive _ _)),
        fun ws st hst => followed ((readCompletion_failed hread hst ws).trans (deviceReadEnds_engine_failed hengine hlive (by decide) _ _))⟩
  case fetch =>
    refine ⟨_, congrArg Host.Outcome.next (descriptorFetch_taken hfetch hgood), by rw [List.length_map, List.length_range], fun i hi => ?_⟩
    rw [List.getElem_map, List.getElem_range]
    exact ⟨rfl, by simp only [fetchedDescriptor, List.length_map, List.length_range], fun k hk => fetchedDescriptor_word _ r i hk⟩

end Sys2Proof.Machine
end

section
/-!
Spool DMA channels (R425 to R434): the commands of a channel by the accepted write of its register, and what it does when it polls, idles,
writes a record or discards a tail.
-/

namespace Sys2Proof.Machine

/-! The registers of a channel. -/

section

variable {ch o : Nat}

/-- The place of a channel's register in its page. -/
def chanOffset (ch o : Nat) : Nat := 0x100 + 0x80 * (ch % 4) + o

theorem regAddr_chanOffset (ch o : Nat) : regAddr .dma (ch / 4) (chanOffset ch o) = chBase ch + o := (Nat.add_assoc _ _ _).symm

theorem chanPart_chanOffset (ho : o < 0x80) : chanPart ⟨.dma, ch / 4⟩ (chanOffset ch o) = some (ch, o) := by
  have hch : 4 * (ch / 4) + (0x100 + 0x80 * (ch % 4) + o - 0x100) / 0x80 = ch := by omega
  have hoff : (0x100 + 0x80 * (ch % 4) + o - 0x100) % 0x80 = o := by omega
  rw [chanPart, chanOffset, if_neg (by omega)]
  exact congrArg some (Prod.ext hch hoff)

/-- An accepted write of a channel's register. -/
theorem chan_access {m : Nat} {ch : Fin 64} {v : Word} {s : State} {f : State → State}
    (ha : s.Accepts m ⟨.dma, ch / 4⟩ (chanOffset ch o) v) (ho : o < 0x80) (h4 : o % 4 = 0)
    (heffect : ∀ u, (if o = 0x18 then ctrlWritten ch v u else if o = 0x20 then u.advance ch else if o = 0x2C then cplCiWritten ch u else u) = f u) :
    access (busWrite m (chBase ch + o) 15 v) s =
      (f (s.recorded m ⟨.dma, ch / 4⟩ (chanOffset ch o) v)).done m ⟨.dma, ch / 4⟩ (chanOffset ch o) := by
  have heff (old : Word) (u : State) : State.effectAt m ⟨.dma, ch / 4⟩ (chanOffset ch o) old v u = f u := by
    rw [← heffect u]
    simp only [State.effectAt, State.dmaEffect, chanPart_chanOffset ho]
  have hpage : ch.val / 4 < 16 := by omega
  rw [← regAddr_chanOffset]
  exact access_effect (by decide) ha hpage (by unfold chanOffset; omega) (by unfold chanOffset; omega) heff

/-- The record of a write leaves the channels as they are. -/
theorem recorded_chan {m : Nat} {n off : Nat} {v : Word} {s : State} (k : Nat) : (s.recorded m ⟨.dma, n⟩ off v).chan k = s.chan k := by
  rw [recorded_frame (p := ⟨.dma, n⟩) (fun h => by cases h) rfl]
  rfl

end

theorem ctrlWritten_enable (ch : Nat) (s : State) : ctrlWritten ch 1 s = dmaEnableOp ch s :=
  (if_neg (by decide)).trans (if_pos (by decide))

theorem ctrlWritten_disable (ch : Nat) (s : State) : ctrlWritten ch 0 s = dmaDisableOp ch s :=
  (if_neg (by decide)).trans (if_neg (by decide))

theorem dmaEnableOp_disabled {ch : Nat} {s : State} (h : (s.chan ch).state = .disabled) : dmaEnableOp ch s =
    (s.setChan ch { s.chan ch with
      state := .running, size := elementSize (s.qWidth (s.chCreel ch)), fetched := s.fld (rChCi ch) 15 0, credit := 0,
      polled := none, waiting := false }).advance ch := if_pos h

theorem dmaDisableOp_stops {ch : Nat} {s : State} (h : (s.chan ch).state = .running ∨ (s.chan ch).state = .paused) :
    dmaDisableOp ch s = (s.setChan ch { s.chan ch with state := .stopping }).settleStop ch := if_pos h

/-! What a channel does of itself. -/

section

variable {ch : Nat} {s : State}

/-- A poll that is due reads Q_LEVEL (R430). -/
theorem levelPoll_due {t : Nat} (hneeds : (s.chan ch).work ≠ none ∨ (s.chan ch).tail = true) (hcredit : (s.chan ch).credit = 0)
    (hlate : ∀ p, (s.chan ch).polled = some p → p + 256 ≤ t) (hplays : s.chPlays ch = true) : levelPoll ch t s =
      let u := creelRead 4 (s.chCreel ch) 0x10C s
      let x := u.resp.data.headD 0
      let c := if s.chOut ch then fieldOf x 10 0 else fieldOf x 26 16
      if u.resp.code ≠ 0 then u.rejectWork ch
      else (u.setChan ch { u.chan ch with
        credit := c, polled := some s.now,
        work := (u.chan ch).work.map (fun w => { w with since := if (s.chOut ch && decide (0 < c)) then s.now else w.since }) }).move ch := by
  have hbusy : ((s.chan ch).work.isNone && !(s.chan ch).tail) = false := by
    rcases hneeds with hwork | htail
    · rw [Option.isNone_eq_false_iff.mpr (Option.isSome_iff_ne_none.mpr hwork), Bool.false_and]
    · rw [htail, Bool.not_true, Bool.and_false]
  unfold levelPoll
  dsimp only
  rw [hplays, hbusy, if_neg (by decide), if_neg (fun h => h hcredit)]
  cases hpolled : (s.chan ch).polled with
  | none => rfl
  | some p => exact if_neg (by rw [decide_eq_true_eq]; exact Nat.not_lt.mpr (hlate p hpolled))

theorem idleTimeout_ends {t : Nat} {w : Work} (hwork : (s.chan ch).work = some w) (hout : s.chOut ch = true) (hmoves : s.chMoves ch = true)
    (hmoved : 0 < w.moved) (hidle : s.chIdleUs ch ≠ 0) (hlevel : s.qLevel (s.chCreel ch) = 0) (hlate : w.since + 1000 * s.chIdleUs ch ≤ t) :
    idleTimeout ch t s = (s.endWork ch 0 true).advance ch := by
  simp only [idleTimeout, hwork, hout, hmoves, hmoved, hidle, hlevel, hlate, ne_eq, not_false_eq_true, decide_true, Bool.and_self, if_true]

theorem dmaRecordOp_full {r : DmaRecord} (hrecord : (s.chan ch).record = some r) (hmoves : s.chMoves ch = true)
    (hroom : s.recordHeld ch = false) (hfull : s.ringFull ch = true) : dmaRecordOp ch s = s.waitCpl ch := by
  simp only [dmaRecordOp, hrecord, hmoves, hroom, hfull, Bool.not_true, Bool.or_self, Bool.false_eq_true, if_false, if_true]

/-- The record in the ring: its words with PHASE and TIME (Table 15-8). -/
def State.recordPost (s : State) (ch : Nat) (r : DmaRecord) : HostPost :=
  ⟨(joinDword (s.reg (chBase ch + 0x10)) (s.reg (chBase ch + 0x14))).toNat + 16 * s.fld (rChCplPi ch) 15 0,
    wordsBytes (r.words ++ [BitVec.ofNat 32 (flag (s.chan ch).phase 31 + s.now % 2 ^ 31)]), false⟩

/-- The record is written: PI, the count, the status, and the channel. -/
def State.recordWritten (s : State) (ch : Nat) (r : DmaRecord) : State :=
  let next := (s.fld (rChCplPi ch) 15 0 + 1) % s.chRecords ch
  (((s.setReg (rChCplPi ch) (BitVec.ofNat 32 next)).countWrap (chBase ch + 0x30)).setFld (rChStat ch) 23 16 r.status).setChan ch
    { s.chan ch with record := none, waiting := false, phase := if next = 0 then !(s.chan ch).phase else (s.chan ch).phase,
                     lastRecord := some (s.recordPost ch r) }

theorem recordWritten_reg {r : DmaRecord} {a : Nat} (hpi : a ≠ rChCplPi ch) (hcount : a ≠ chBase ch + 0x30) (hstat : a ≠ rChStat ch) :
    (s.recordWritten ch r).reg a = s.reg a := by
  rw [State.recordWritten, State.setChan_reg, State.reg_setFld_other _ _ _ _ hstat, State.countWrap, State.reg_setReg_other _ _ hcount,
    State.reg_setReg_other _ _ hpi]

theorem recordWritten_frame {r : DmaRecord} :
    s.recordWritten ch r = { s with regs := (s.recordWritten ch r).regs, chans := (s.recordWritten ch r).chans } := by
  unfold State.recordWritten State.setChan State.setFld State.countWrap State.setReg
  rfl

theorem recordWritten_chBridge {r : DmaRecord} : (s.recordWritten ch r).chBridge ch = s.chBridge ch := by
  have hkept : (s.recordWritten ch r).reg (chBase ch) = s.reg (chBase ch) :=
    recordWritten_reg (by unfold rChCplPi; omega) (by omega) (by unfold rChStat; omega)
  rw [State.chBridge, State.bit, State.fld, hkept]
  rfl

theorem recordWritten_chan (hc : s.Canonical) {r : DmaRecord} : (s.recordWritten ch r).chan ch =
    { s.chan ch with
      record := none, waiting := false, lastRecord := some (s.recordPost ch r),
      phase := if (s.fld (rChCplPi ch) 15 0 + 1) % s.chRecords ch = 0 then !(s.chan ch).phase else (s.chan ch).phase } :=
  State.chan_setChan_same _ _ _ (SMap.wf_sorted hc.chans)

/-- A record without an interrupt, of a descriptor that ended well, on a channel without a bridge. -/
theorem dmaRecordOp_writes (hc : s.Canonical) {r : DmaRecord} (hrecord : (s.chan ch).record = some r) (hmoves : s.chMoves ch = true)
    (hheld : s.recordHeld ch = false) (hroom : s.ringFull ch = false) (hbridge : s.chBridge ch = none) (hirq : r.irq = false)
    (hstatus : r.status = 0) (hruns : (s.chan ch).state = .running) : dmaRecordOp ch s = (s.recordWritten ch r).advance ch := by
  have hnone : (s.recordWritten ch r).chBridge ch = none := recordWritten_chBridge.trans hbridge
  have hsettled : (s.recordWritten ch r).settleStop ch = s.recordWritten ch r := by
    rw [State.settleStop, recordWritten_chan hc, hruns]
    rfl
  unfold dmaRecordOp
  simp only [hrecord, hmoves, hheld, hroom, hirq, Bool.not_true, Bool.or_self, Bool.false_eq_true, if_false]
  rw [if_pos hstatus]
  change ((match (s.recordWritten ch r).chBridge ch with
    | some k => clockedWrite (304 + k) (joinDword (r.words.getD 0 0) (r.words.getD 1 0)) (s.recordWritten ch r)
    | none => s.recordWritten ch r).settleStop ch).advance ch = _
  rw [hnone]
  exact congrArg (fun u : State => u.advance ch) hsettled

theorem fieldOf_ofNat_mod (n : Nat) {hi : Nat} (hhi : hi < 32) : fieldOf (BitVec.ofNat 32 n) hi 0 = n % 2 ^ (hi + 1) := by
  rw [fieldOf, BitVec.toNat_ofNat, Nat.shiftRight_zero]
  exact Nat.mod_mod_of_dvd _ (Nat.pow_dvd_pow 2 hhi)

theorem recordWritten_shown (hc : s.Canonical) {r : DmaRecord} (hstatus : r.status = 0) :
    (s.recordWritten ch r).fld (rChCplPi ch) 15 0 = (s.fld (rChCplPi ch) 15 0 + 1) % s.chRecords ch % 65536 ∧
    (s.recordWritten ch r).fld (rChStat ch) 23 16 = 0 ∧
    (s.recordWritten ch r).reg (chBase ch + 0x30) = s.reg (chBase ch + 0x30) + 1 := by
  have hpiCount : chBase ch + 0x30 ≠ rChCplPi ch := by unfold rChCplPi; omega
  have hpiStat : rChCplPi ch ≠ rChStat ch := by unfold rChCplPi rChStat; omega
  have hcountStat : chBase ch + 0x30 ≠ rChStat ch := by unfold rChStat; omega
  let u := s.setReg (rChCplPi ch) (BitVec.ofNat 32 ((s.fld (rChCplPi ch) 15 0 + 1) % s.chRecords ch))
  have hu : u.Canonical := hc.setReg _ _
  refine ⟨?_, ?_, ?_⟩
  · have hpi : (s.recordWritten ch r).reg (rChCplPi ch) = BitVec.ofNat 32 ((s.fld (rChCplPi ch) 15 0 + 1) % s.chRecords ch) := by
      rw [State.recordWritten, State.setChan_reg, State.reg_setFld_other _ _ _ _ hpiStat, State.countWrap,
        State.reg_setReg_other _ _ hpiCount.symm, State.reg_setReg hc, if_pos rfl]
    rw [State.fld, hpi, fieldOf_ofNat_mod _ (by decide)]
    simp only [Nat.reduceAdd, Nat.reducePow]
  · have hstat := State.fld_setFld (s := u.countWrap (chBase ch + 0x30)) (hu.setReg _ _) (rChStat ch) 23 16 r.status (by decide) (by decide)
    rw [hstatus, Nat.zero_mod] at hstat
    rw [State.fld, State.recordWritten, State.setChan_reg, hstatus]
    exact hstat
  · rw [State.recordWritten, State.setChan_reg, State.reg_setFld_other _ _ _ _ hcountStat, State.countWrap, State.reg_setReg hu,
      if_pos rfl, State.reg_setReg_other _ _ hpiCount]

/-- The first of `k + 1` elements of a tail (R434). -/
theorem discardTail_first (k : Nat) (htail : (s.chan ch).tail = true) (hcredit : (s.chan ch).credit ≠ 0) (hplays : s.chPlays ch = true) :
    discardTail ch (k + 1) s =
      let e := popElement (s.chCreel ch) s
      if e.1.resp.code ≠ 0 ∨ bitOf e.2.2 0 = true then e.1.setChan ch { e.1.chan ch with credit := 0 }
      else
        let u := (e.1.setChan ch { e.1.chan ch with credit := (s.chan ch).credit - 1 }).setReg (chBase ch + 0x3C)
          (BitVec.ofNat 32 (satAdd (2 ^ 32 - 1) (e.1.reg (chBase ch + 0x3C)).toNat 1))
        if bitOf e.2.2 1 then ((u.setChan ch { u.chan ch with tail := false, inPacket := false }).chEvent ch 4).advance ch
        else discardTail ch k u := by
  rw [discardTail]
  dsimp only
  rw [htail, hplays, decide_eq_false hcredit, if_neg (by decide)]

theorem tailDiscardedOp_first (htail : (s.chan ch).tail = true) (hcredit : (s.chan ch).credit ≠ 0) (hplays : s.chPlays ch = true) :
    let e := popElement (s.chCreel ch) s
    (e.1.resp.code ≠ 0 ∨ bitOf e.2.2 0 = true → tailDiscardedOp ch s = e.1.setChan ch { e.1.chan ch with credit := 0 }) ∧
    (e.1.resp.code = 0 → bitOf e.2.2 0 = false → bitOf e.2.2 1 = true →
      let a := chBase ch + 0x3C
      let u := (e.1.setChan ch { e.1.chan ch with credit := (s.chan ch).credit - 1 }).setReg a
        (BitVec.ofNat 32 (satAdd (2 ^ 32 - 1) (e.1.reg a).toNat 1))
      tailDiscardedOp ch s = ((u.setChan ch { u.chan ch with tail := false, inPacket := false }).chEvent ch 4).advance ch) := by
  intro e
  have hfirst := discardTail_first 1023 htail hcredit hplays
  refine ⟨fun hends => hfirst.trans (if_pos hends), fun hgood hmore hlast => hfirst.trans ((if_neg ?_).trans (if_pos hlast))⟩
  rw [hgood, hmore]
  decide

end

/-- Settles O33: a command by its accepted write, what a channel does of itself by the case that its state fixes. -/
theorem channelsComplete : Obligations.ChannelsComplete := by
  constructor
  · intro m ch s p off v
    refine ⟨fun ha hdisabled => ?enable, fun ha hstops => ?disable, fun w ha hreset => ?reset, fun w ha => ?doorbell, fun w ha => ?room⟩
    case enable =>
      intro u w
      have haccess := chan_access (f := dmaEnableOp ch) (o := 0x18) ha (by decide) (by decide) (fun u => (if_pos rfl).trans (ctrlWritten_enable ch u))
      rw [dmaEnableOp_disabled ((congrArg Chan.state (recorded_chan ch.val)).trans hdisabled), recorded_chan] at haccess
      exact congrArg Host.Outcome.next haccess
    case disable =>
      have haccess := chan_access (f := dmaDisableOp ch) (o := 0x18) ha (by decide) (by decide) (fun u => (if_pos rfl).trans (ctrlWritten_disable ch u))
      rw [dmaDisableOp_stops (by rw [recorded_chan]; exact hstops), recorded_chan] at haccess
      exact congrArg Host.Outcome.next haccess
    case reset =>
      exact congrArg Host.Outcome.next (chan_access (f := dmaResetOp ch) (o := 0x18) ha (by decide) (by decide) (fun _ => (if_pos rfl).trans (if_pos hreset)))
    case doorbell => exact congrArg Host.Outcome.next (chan_access (f := fun u => u.advance ch) (o := 0x20) ha (by decide) (by decide) (fun _ => (if_neg (by decide)).trans (if_pos rfl)))
    case room => exact congrArg Host.Outcome.next (chan_access (f := cplCiWritten ch) (o := 0x2C) ha (by decide) (by decide)
      (fun _ => (if_neg (by decide)).trans ((if_neg (by decide)).trans (if_pos rfl))))
  · intro ch s hmoves v
    refine ⟨fun t hneeds hcredit hlate hplays => ?poll, fun t w hwork hout hmoved hidle hlevel hlate => ?idle,
      fun r hrecord hheld hfull => ?full, fun r hc hrecord hheld hroom hbridge hirq hstatus hruns => ?record,
      fun htail hcredit hplays => ?tail⟩
    case poll =>
      intro u x
      have hpoll := levelPoll_due hneeds hcredit hlate hplays
      refine ⟨fun hrejected => congrArg Host.Outcome.next (hpoll.trans (if_pos hrejected)), fun hgood hin => ?_, fun hgood hout => ?_⟩
      · refine congrArg Host.Outcome.next (hpoll.trans ((if_neg (fun h => h hgood)).trans ?_))
        have hsince : (fun w : Work => { w with since := w.since }) = id := rfl
        simp only [hin, Bool.false_and, Bool.false_eq_true, if_false, hsince, Option.map_id, id]
        rfl
      · refine congrArg Host.Outcome.next (hpoll.trans ((if_neg (fun h => h hgood)).trans ?_))
        simp only [hout, Bool.true_and, decide_eq_true_eq, if_true]
        rfl
    case idle => exact congrArg Host.Outcome.next (idleTimeout_ends hwork hout hmoves hmoved hidle hlevel hlate)
    case full => exact congrArg Host.Outcome.next (dmaRecordOp_full hrecord hmoves hheld hfull)
    case record =>
      intro pi next ring words
      obtain ⟨hpi, hstat, hcount⟩ := recordWritten_shown hc (ch := ch) hstatus
      have hexec : exec (.dmaRecord ch) s = .next (dmaRecordOp ch s) := rfl
      rw [dmaRecordOp_writes hc hrecord hmoves hheld hroom hbridge hirq hstatus hruns] at hexec
      exact ⟨s.recordWritten ch r, hexec, hpi, hstat, hcount, recordWritten_chan hc, recordWritten_frame⟩
    case tail =>
      intro e
      have hexec : exec (.tailDiscarded ch) s = .next (tailDiscardedOp ch s) := rfl
      obtain ⟨hends, hlast⟩ := tailDiscardedOp_first htail hcredit hplays
      exact ⟨fun h => hexec.trans (congrArg Host.Outcome.next (hends h)),
        fun hgood hmore h => hexec.trans (congrArg Host.Outcome.next (hlast hgood hmore h))⟩

end Sys2Proof.Machine
end

section
/-!
The change log (R485 to R488): what one entry does to a log with room and to a full one, and LOG_CMD, whose own entry follows its effect.
-/

namespace Sys2Proof.Machine

/-! Writes that are logged after their effect. -/

/-- A register of a master's own and ERR_CODE apart, a stored value stands in its register. -/
theorem State.store_setReg {p : Page} {off : Nat} (hown : perIdentity p off = false) (herr : off ≠ 0x020) (s : State) (m : Nat) (v : Word) :
    s.store m p off v = s.setReg (p.base + off) (writtenWord (fieldsAt p off) (s.reg (p.base + off)) v) := by
  rw [State.store, hown, if_neg Bool.false_ne_true, State.storeHeader, if_neg herr]

/-- An accepted START or LOG_CMD: its entry, by the state after its effect. -/
theorem access_write_late {s : State} {m off : Nat} {p : Page} {v : Word} (h : s.Accepts m p off v) (hn : p.inst < p.kind.info.2.1)
    (ho : off < 0x1000) (h4 : off % 4 = 0) (hbegun : p.kind ≠ .serdes) {entry : State → Nat × Word}
    (hlate : ∀ (u : State) old, (u.effectOf m p off old v).logAfter = true)
    (hentry : ∀ (u : State) old, (u.effectOf m p off old v).entry = some entry)
    (hwaits : ∀ (u : State) old, (u.effectOf m p off old v).waits = false) :
    let u := State.effectAt m p off (s.forgetAnswer.view m p off) v (s.forgetAnswer.store m p off v)
    access (busWrite m (p.base + off) 15 v) s = (u.logEntry m (entry u).1 (p.base + off) (entry u).2).done m p off := by
  intro u
  have hs : s.begun p off = s.forgetAnswer := recorded_begun (fun hk => absurd hk hbegun)
  have hchecks := h.checks
  have hblock : (s.forgetAnswer.effectOf m p off (s.forgetAnswer.view m p off) v).refuses = none := hs ▸ h.block
  have hroom := h.room
  rw [hs] at hchecks hroom
  have hpage : pageWrite m p off 15 v s.forgetAnswer =
      (u.logEntry m (entry u).1 (p.base + off) (entry u).2).answer m true (p.base + off) [] 0 := by
    rw [pageWrite]
    simp only [hbegun, false_and, if_false, State.writeReg, hchecks, hblock, hroom, hlate, hwaits, State.logEffect, hentry,
      Bool.false_eq_true, if_true]
    rfl
  have hbus := busAccess_page (s := s.forgetAnswer) (e := { master := m, addr := p.base + off, write := true, value := v }) h.turn rfl rfl rfl
    hn ho h4
  rw [if_pos rfl, hpage] at hbus
  have hended := conclude_answered (u.logEntry m (entry u).1 (p.base + off) (entry u).2)
    { master := m, addr := p.base + off, write := true, value := v, time := s.now } [] rfl rfl rfl rfl
  have hdone : busWrite m (p.base + off) 15 v s.forgetAnswer = (u.logEntry m (entry u).1 (p.base + off) (entry u).2).done m p off :=
    hbus.trans hended
  rw [access, h.running, if_neg Bool.false_ne_true, hdone]
  exact noteRejection_good (State.done_code _ _ _ _)

/-! One entry. -/

/-- The entry that a log takes. -/
def State.newEntry (s : State) (origin kind addr : Nat) (value : Word) : LogEntry :=
  { time := s.now, origin, kind, late := false, afterLoss := s.log.afterLoss,
    reserve := s.logStrict && decide (logSize - s.log.entries.length ≤ logReserve), addr, value }

/-- What the entry makes of a log: it follows the others, takes the place of the oldest, or is lost. -/
def ChangeLog.entered (l : ChangeLog) (strict : Bool) (e : LogEntry) : ChangeLog :=
  if logSize ≤ l.entries.length then
    if strict then { l with lost := satAdd (2 ^ 32 - 1) l.lost 1, afterLoss := true }
    else { l with entries := l.entries.drop 1 ++ [e], head := (l.head + 1) % 2 ^ 32, afterLoss := false,
                  lost := satAdd (2 ^ 32 - 1) l.lost 1 }
  else { l with entries := l.entries ++ [e], head := (l.head + 1) % 2 ^ 32, afterLoss := false }

theorem ChangeLog.entered_room {l : ChangeLog} (h : l.entries.length < logSize) (strict : Bool) (e : LogEntry) :
    l.entered strict e = { l with entries := l.entries ++ [e], head := (l.head + 1) % 2 ^ 32, afterLoss := false } :=
  if_neg (Nat.not_le.mpr h)

theorem ChangeLog.entered_wraps {l : ChangeLog} (h : logSize ≤ l.entries.length) (e : LogEntry) :
    l.entered false e = { l with
      entries := l.entries.drop 1 ++ [e], head := (l.head + 1) % 2 ^ 32, afterLoss := false, lost := satAdd (2 ^ 32 - 1) l.lost 1 } :=
  (if_pos h).trans (if_neg Bool.false_ne_true)

theorem ChangeLog.entered_lost {l : ChangeLog} (h : logSize ≤ l.entries.length) (e : LogEntry) :
    l.entered true e = { l with lost := satAdd (2 ^ 32 - 1) l.lost 1, afterLoss := true } :=
  (if_pos h).trans (if_pos rfl)

theorem State.logPut_log (s : State) (origin kind addr : Nat) (value : Word) :
    (s.logPut false origin kind addr value).log = s.log.entered s.logStrict (s.newEntry origin kind addr value) := by
  unfold State.logPut ChangeLog.entered
  by_cases hfull : logSize ≤ s.log.entries.length
  · cases hstrict : s.logStrict
    · simp only [hfull, decide_true, Bool.true_and, Bool.false_and, Bool.false_eq_true, if_false, if_true, State.pulse_log, State.newEntry, hstrict]
    · simp only [hfull, decide_true, Bool.true_and, if_true, State.pulse_log]
  · simp only [hfull, decide_false, Bool.false_and, Bool.false_eq_true, if_false]
    split
    · rw [State.pulse_log]
      rfl
    · rfl

/-- The count of a page is none of LOG_CFG. -/
theorem State.countChange_logStrict (s : State) (a : Nat) : (s.countChange a).logStrict = s.logStrict := by
  unfold State.countChange
  split
  · next p _ =>
    have halign := (page_bounds p.kind).1
    have hne : regAddr .log 0 0x040 ≠ p.base + 0x028 := by
      simp only [regAddr, Page.base, PageKind.info] at halign ⊢
      omega
    exact congrArg (fun w => bitOf w 0) (State.reg_setReg_other s _ hne)
  · rfl

theorem State.logEntry_log (s : State) (origin kind addr : Nat) (value : Word) :
    (s.logEntry origin kind addr value).log = s.log.entered s.logStrict (s.newEntry origin kind addr value) := by
  have hentry : (s.countChange addr).newEntry origin kind addr value = s.newEntry origin kind addr value := by
    unfold State.newEntry
    rw [State.countChange_logStrict, State.countChange_frame]
  have hlog : (s.countChange addr).log = s.log := by rw [State.countChange_frame]
  rw [State.logEntry, State.logAs, State.logPut_log, State.countChange_logStrict, hentry, hlog]

/-- The number of the oldest entry of a full log goes up by one with each entry. -/
theorem oldest_advances {l m : ChangeLog} (hfull : l.entries.length = logSize) (hkept : m.entries.length = logSize)
    (hhead : m.head = (l.head + 1) % 2 ^ 32) (hbound : l.head < 2 ^ 32) : m.oldest = (l.oldest + 1) % 2 ^ 32 := by
  rw [ChangeLog.oldest, ChangeLog.oldest, hfull, hkept, hhead]
  unfold logSize
  omega

/-- A wrapped log is as long as before. -/
theorem length_drop_append {α : Type} {l : List α} (h : 0 < l.length) (e : α) : (l.drop 1 ++ [e]).length = l.length := by
  rw [List.length_append, List.length_drop, List.length_singleton]
  omega

/-! LOG_CMD (R488). -/

def logCmdPage : Page := ⟨.log, 0⟩

/-- LOG_CMD stores its value, has its effect, and is then entered itself. -/
theorem logCmd_access {m : Nat} {v : Word} {s : State} (ha : s.Accepts m logCmdPage 0x058 v) :
    let u := logWritten 0x058 v (s.forgetAnswer.store m logCmdPage 0x058 v)
    access (busWrite m (regAddr .log 0 0x058) 15 v) s =
      (u.logEntry m (u.logCmdEntry v).1 (regAddr .log 0 0x058) (u.logCmdEntry v).2).done m logCmdPage 0x058 :=
  access_write_late (p := logCmdPage) ha (by decide) (by decide) (by decide) (by decide) (fun _ _ => rfl) (fun _ _ => rfl) (fun _ _ => rfl)

/-- The value of LOG_CMD in its register. -/
def State.logCmdStored (s : State) (m : Nat) (v : Word) : State := s.forgetAnswer.store m logCmdPage 0x058 v

section

variable (s : State) (m : Nat) (v : Word)

theorem logCmdStored_frame : s.logCmdStored m v = { s with regs := (s.logCmdStored m v).regs, resp := {} } := by
  rw [State.logCmdStored, State.store_setReg rfl (by decide)]
  rfl

theorem logCmdStored_reg {a : Nat} (h : a ≠ regAddr .log 0 0x058) : (s.logCmdStored m v).reg a = s.reg a := by
  rw [State.logCmdStored, State.store_setReg rfl (by decide)]
  exact State.reg_setReg_other _ _ h

theorem logCmdStored_log : (s.logCmdStored m v).log = s.log := by rw [logCmdStored_frame]

theorem logCmdStored_freeable : (s.logCmdStored m v).freeable = s.freeable := by
  rw [State.freeable, logCmdStored_log, logCmdStored_reg _ _ _ (by decide)]
  rfl

end

/-- The log with these entries alone. -/
def ChangeLog.keeping (l : ChangeLog) (es : List LogEntry) : ChangeLog := { l with entries := es }

/-- LOG_CMD frees entries: the others are kept, LOG_EVENT bit 4 is raised, and the mode stays. -/
def State.logKept (s : State) (l : List LogEntry) : State := ({ s with log := s.log.keeping l }).pulse .log 0 4

theorem logKept_frame (s : State) (l : List LogEntry) :
    s.logKept l = { s with regs := (s.logKept l).regs, ev := (s.logKept l).ev, log := s.log.keeping l } := by
  rw [State.logKept, State.pulse, State.raise_frame]

theorem logKept_log (s : State) (l : List LogEntry) : (s.logKept l).log = s.log.keeping l := by
  rw [logKept_frame]

theorem logKept_logStrict (s : State) (l : List LogEntry) : (s.logKept l).logStrict = s.logStrict :=
  congrArg (fun w => bitOf w 0) (State.raise_reg _ _ _ _ (by decide))

/-- What LOG_CMD leaves beside the log. -/
theorem logCmd_frame (s : State) (m kind : Nat) (v value : Word) (l : List LogEntry) :
    let t := (((s.logCmdStored m v).logKept l).logEntry m kind (regAddr .log 0 0x058) value).done m logCmdPage 0x058
    t = { s with regs := t.regs, ev := t.ev, log := t.log, resp := t.resp, jtag := { s.jtag with out := t.jtag.out } } := by
  refine State.done_frame _ _ _ ?_
  rw [State.logEntry_frame, logKept_frame, logCmdStored_frame]

theorem State.done_log (s : State) (m : Nat) (p : Page) (off : Nat) : (s.done m p off).log = s.log := by rw [State.done_rest]

/-- The log after LOG_CMD has kept the entries `l`. -/
theorem logCmd_log (s : State) (m kind : Nat) (v value : Word) (l : List LogEntry) :
    ((((s.logCmdStored m v).logKept l).logEntry m kind (regAddr .log 0 0x058) value).done m logCmdPage 0x058).log =
      (s.log.keeping l).entered s.logStrict
        (((s.logCmdStored m v).logKept l).newEntry m kind (regAddr .log 0 0x058) value) := by
  have hstrict : (s.logCmdStored m v).logStrict = s.logStrict := congrArg (fun w => bitOf w 0) (logCmdStored_reg s m v (by decide))
  rw [State.done_log, State.logEntry_log, logKept_log, logKept_logStrict, logCmdStored_log, hstrict]

theorem logClear_next (m : Master) (s : State) (ha : s.Accepts m.id ⟨.log, 0⟩ 0x058 1) :
    exec (.logClear m) s = .next ((((s.logCmdStored m.id 1).logKept []).logEntry m.id 0xC (regAddr .log 0 0x058)
      (BitVec.ofNat 32 s.log.head)).done m.id logCmdPage 0x058) := by
  have haccess := logCmd_access ha
  have hentry : ((s.logCmdStored m.id 1).logKept []).logCmdEntry 1 = (0xC, BitVec.ofNat 32 s.log.head) := by
    rw [State.logCmdEntry, if_pos (by decide), logKept_log, logCmdStored_log]
    rfl
  have hwritten : logWritten 0x058 1 (s.forgetAnswer.store m.id logCmdPage 0x058 1) = (s.logCmdStored m.id 1).logKept [] :=
    (if_pos rfl).trans (if_pos (by decide))
  dsimp only at haccess
  rw [hwritten, hentry] at haccess
  exact congrArg Host.Outcome.next haccess

theorem logFree_next (m : Master) (k : Nat) (s : State) (ha : s.Accepts m.id ⟨.log, 0⟩ 0x058 2) (hk : s.freeable = some k) :
    exec (.logFree m) s = .next ((((s.logCmdStored m.id 2).logKept (s.log.entries.drop k)).logEntry m.id 0xD (regAddr .log 0 0x058)
      (BitVec.ofNat 32 (s.log.keeping (s.log.entries.drop k)).oldest)).done m.id logCmdPage 0x058) := by
  have haccess := logCmd_access ha
  have hentry : ((s.logCmdStored m.id 2).logKept (s.log.entries.drop k)).logCmdEntry 2 =
      (0xD, BitVec.ofNat 32 (s.log.keeping (s.log.entries.drop k)).oldest) := by
    rw [State.logCmdEntry, if_neg (by decide), if_pos (by decide), logKept_log, logCmdStored_log]
  have hfreed : logFreeOp (s.logCmdStored m.id 2) = (s.logCmdStored m.id 2).logKept (s.log.entries.drop k) := by
    rw [logFreeOp, logCmdStored_freeable, hk, logCmdStored_log, State.logKept, Option.getD_some, logCmdStored_log]
    rfl
  have hwritten : logWritten 0x058 2 (s.forgetAnswer.store m.id logCmdPage 0x058 2) = (s.logCmdStored m.id 2).logKept (s.log.entries.drop k) :=
    ((if_pos rfl).trans ((if_neg (by decide)).trans (if_pos (by decide)))).trans hfreed
  dsimp only at haccess
  rw [hwritten, hentry] at haccess
  exact congrArg Host.Outcome.next haccess

/-- FREE releases entries up to the one it names. -/
theorem oldest_freed {l : ChangeLog} {k : Nat} (hk : k ≤ l.entries.length) (hsize : l.entries.length ≤ logSize) :
    BitVec.ofNat 32 (l.keeping (l.entries.drop k)).oldest = BitVec.ofNat 32 (l.oldest + k) := by
  apply BitVec.eq_of_toNat_eq
  rw [BitVec.toNat_ofNat, BitVec.toNat_ofNat, ChangeLog.oldest, ChangeLog.oldest]
  simp only [ChangeLog.keeping, List.length_drop]
  unfold logSize at hsize
  omega

theorem freeable_le {s : State} {k : Nat} (h : s.freeable = some k) : k ≤ s.log.entries.length := by
  unfold State.freeable at h
  dsimp only at h
  split at h
  · next hle => exact Option.some.inj h ▸ hle
  · cases h

/-- Settles O48: an entry by the room that it finds, and LOG_CMD as an effect with its own entry after it. -/
theorem changeLogComplete : Obligations.ChangeLogComplete := by
  refine ⟨fun m s _ ha => ?clear, fun m k s _ ha hk => ?free, fun origin kind addr value s _ => ?entry⟩
  case clear =>
    have hlog := logCmd_log s m.id 0xC 1 (BitVec.ofNat 32 s.log.head) []
    rw [ChangeLog.entered_room (l := s.log.keeping []) (show 0 < logSize by decide)] at hlog
    refine ⟨_, ((s.logCmdStored m.id 1).logKept []).newEntry m.id 0xC (regAddr .log 0 0x058) (BitVec.ofNat 32 s.log.head),
      logClear_next m s ha, ?entries, rfl, rfl, rfl, rfl, ?head, ?lost, State.done_code _ _ _ _, logCmd_frame _ _ _ _ _ _⟩
    all_goals
      rw [hlog]
      rfl
  case free =>
    intro kept
    have hlog := logCmd_log s m.id 0xD 2 (BitVec.ofNat 32 (s.log.keeping kept).oldest) kept
    refine ⟨_, ((s.logCmdStored m.id 2).logKept kept).newEntry m.id 0xD (regAddr .log 0 0x058) (BitVec.ofNat 32 (s.log.keeping kept).oldest),
      logFree_next m k s ha hk, rfl, rfl, rfl, State.done_code _ _ _ _, fun hsize => oldest_freed (freeable_le hk) hsize,
      fun hroom => ?_, fun hfull => ?_, logCmd_frame _ _ _ _ _ _⟩
    · rw [ChangeLog.entered_room hroom] at hlog
      exact congrArg ChangeLog.entries hlog
    · refine (congrArg ChangeLog.entries hlog).trans ?_
      cases s.logStrict
      · rw [ChangeLog.entered_wraps hfull]
        rfl
      · rw [ChangeLog.entered_lost hfull]
        rfl
  case entry =>
    intro t n e
    have hlog : t.log = s.log.entered s.logStrict e := s.logEntry_log origin kind addr value
    refine ⟨fun hroom => ?_, fun hfull hwrap => ?_, fun hwrap m => ?_, fun hfull hstrict => ?_⟩
    · rw [hlog, ChangeLog.entered_room hroom]
      exact ⟨rfl, rfl, rfl, rfl⟩
    · rw [hlog, hwrap, ChangeLog.entered_wraps hfull]
      exact ⟨rfl, rfl, fun hn hhead => oldest_advances hn ((length_drop_append (Nat.lt_of_lt_of_le (by decide) hfull) e).trans hn) rfl hhead, rfl, rfl⟩
    · rw [State.logRefuses, hwrap, Bool.false_and, Bool.false_and]
    · rw [hlog, hstrict, ChangeLog.entered_lost hfull]
      exact ⟨rfl, rfl, rfl, rfl⟩

end Sys2Proof.Machine
end

section
/-!
The event ring and user events (R476 to R480, R490).
-/

namespace Sys2Proof.Machine

/-! The ring is left alone by every event: an occurrence adds to the records that wait. -/

theorem State.occur_ring (s : State) (n bit : Nat) (d : Word) : (s.occur n bit d).ev.ring = s.ev.ring := by
  unfold State.occur
  dsimp only
  generalize _ ++ s.userVectors n = vs
  cases bitOf (s.reg (regAddr .eventMap 0 (0x100 + 4 * n))) 31
  · simp only [Bool.false_eq_true, if_false]
    split <;> rfl
  · simp only [if_true]
    split <;> rfl

theorem State.raise_ring (s : State) (p : Page) (k : Nat) (d : Word) : (s.raise p k d).ev.ring = s.ev.ring := by
  unfold State.raise
  dsimp only
  split
  · exact State.occur_ring _ _ _ _
  · rfl

theorem State.logEntry_ring (s : State) (o k a : Nat) (v : Word) : (s.logEntry o k a v).ev.ring = s.ev.ring := by
  have hcount : (s.countChange a).ev.ring = s.ev.ring := by rw [State.countChange_frame]
  rw [State.logEntry, State.logAs, ← hcount]
  generalize s.countChange a = u
  unfold State.logPut
  dsimp only
  split
  · exact State.raise_ring _ _ _ _
  · split
    · exact State.raise_ring _ _ _ _
    · split
      · exact State.raise_ring _ _ _ _
      · rfl

/-- The record of an accepted write leaves the ring as it is. -/
theorem recorded_ring {s : State} {m off : Nat} {p : Page} {v : Word} (hk : p.kind ≠ .serdes) : (s.recorded m p off v).ev.ring = s.ev.ring := by
  have hstore : (s.forgetAnswer.store m p off v).ev.ring = s.ev.ring := by rw [State.store_frame]; rfl
  rw [State.recorded, recorded_begun (fun h => absurd h hk), State.logWrite]
  split
  · exact (State.logEntry_ring _ _ _ _ _).trans hstore
  · exact hstore

/-! The ring (R476 to R479, R490). -/

section

variable {e : EvRec} {rest : List EvRec} {s : State} (hwait : s.ev.wait = e :: rest)

include hwait

theorem recordEnters_room (hroom : s.ev.ring.length < 4096) (hhalf : s.ev.ring.length ≠ 2047) : recordEnters s =
    { s with ev := { s.ev with wait := rest, ring := s.ev.ring ++ [{ e with lost := s.ev.lostMark }], lostMark := false } } := by
  simp only [recordEnters, hwait, ringSize, Nat.not_le.mpr hroom, if_false, List.length_append, List.length_singleton]
  exact if_neg (fun h => hhalf (Nat.succ_injective h))

theorem recordEnters_half (hhalf : s.ev.ring.length = 2047) : recordEnters s = ({ s with
    ev := { s.ev with wait := rest, ring := s.ev.ring ++ [{ e with lost := s.ev.lostMark }], lostMark := false } } : State).pulse .event 0 0 := by
  have hroom : ¬ 4096 ≤ s.ev.ring.length := by omega
  simp only [recordEnters, hwait, ringSize, hroom, if_false, List.length_append, List.length_singleton]
  exact if_pos (congrArg Nat.succ hhalf)

/-- The record is lost. -/
def State.recordLost (s : State) (rest : List EvRec) : State :=
  ({ s with ev := { s.ev with wait := rest, lostMark := true } } : State).setReg (regAddr .event 0 0x044)
    (BitVec.ofNat 32 (satAdd (2 ^ 32 - 1) (s.reg (regAddr .event 0 0x044)).toNat 1))

theorem recordEnters_full (hfull : 4096 ≤ s.ev.ring.length) : recordEnters s = (s.recordLost rest).pulse .event 0 1 := by
  simp only [recordEnters, hwait, ringSize, hfull, if_true]
  rfl

end

/-! A read of REC_POP_W0 (R479). -/

theorem State.cap_setCap {s : State} (hc : s.Canonical) (m a j b : Nat) (v : Option Word) :
    (s.setCap m a v).cap j b = if idKey j b = idKey m a then v else s.cap j b :=
  SMap.get_set none s.caps (idKey m a) (idKey j b) v (SMap.wf_sorted hc.caps)

theorem State.Canonical.setCap {s : State} (hc : s.Canonical) (m a : Nat) (v : Option Word) : (s.setCap m a v).Canonical :=
  { hc with caps := SMap.wf_set hc.caps }

/-- The words of a record beside its number, as a reader has captured them. -/
def State.captureRecord (s : State) (m : Nat) (w : Nat → Word) : State :=
  ((s.setCap m (regAddr .event 0 0x104) (some (w 1))).setCap m (regAddr .event 0 0x108) (some (w 2))).setCap m (regAddr .event 0 0x10C)
    (some (w 3))

theorem captureRecord_cap {s : State} (hc : s.Canonical) (m : Nat) (w : Nat → Word) :
    (s.captureRecord m w).cap m (regAddr .event 0 0x104) = some (w 1) ∧ (s.captureRecord m w).cap m (regAddr .event 0 0x108) = some (w 2) ∧
      (s.captureRecord m w).cap m (regAddr .event 0 0x10C) = some (w 3) := by
  have h1 : (s.setCap m (regAddr .event 0 0x104) (some (w 1))).Canonical := hc.setCap _ _ _
  have apart {a b : Nat} (h : a ≠ b) : idKey m a ≠ idKey m b := fun he => h (Nat.add_left_cancel he)
  rw [State.captureRecord]
  simp only [State.cap_setCap (h1.setCap _ _ _), State.cap_setCap h1, State.cap_setCap hc, if_true,
    apart (by decide : regAddr .event 0 0x104 ≠ regAddr .event 0 0x10C), apart (by decide : regAddr .event 0 0x104 ≠ regAddr .event 0 0x108),
    apart (by decide : regAddr .event 0 0x108 ≠ regAddr .event 0 0x10C), if_false, and_self]

theorem popRecord_empty {s : State} (h : s.ev.ring = []) (m : Nat) : popRecord m s = (s.captureRecord m (fun _ => 0), 0) := by
  simp only [popRecord, h]
  rfl

theorem popRecord_cons {e : EvRec} {rest : List EvRec} {s : State} (h : s.ev.ring = e :: rest) (m : Nat) : popRecord m s =
    (({ s with ev := { s.ev with ring := rest } } : State).captureRecord m e.word, e.seq) := by
  simp only [popRecord, h]
  rfl

/-- What a read leaves of whatever it has done to the controller. -/
theorem captured_readDone (s : State) (ev : Events) (m : Nat) (w : Nat → Word) (v : Word) :
    let t := ((({ s.forgetAnswer with ev := ev } : State).captureRecord m w).readDone m ⟨.event, 0⟩ 0x100 v)
    t.ev = ev ∧ t.resp.code = 0 ∧ t.resp.data = [v] ∧
      t = { s with ev := t.ev, caps := t.caps, resp := t.resp, jtag := { s.jtag with out := t.jtag.out } } := by
  dsimp only
  rw [State.readDone_frame]
  exact ⟨rfl, rfl, rfl, rfl⟩

theorem recPop_next (m : Master) (s : State) (ha : s.AcceptsRead m.id ⟨.event, 0⟩ 0x100) : exec (.recPop m) s =
    .next ((popRecord m.id s.forgetAnswer).1.readDone m.id ⟨.event, 0⟩ 0x100 (popRecord m.id s.forgetAnswer).2) :=
  congrArg Host.Outcome.next (access_read_plain (by decide) ha (by decide) (by decide) (by decide))

/-! EV_CMD (R479, R490). -/

theorem evCmd_access {m : Master} {v : Word} {s : State} (ha : s.Accepts m.id ⟨.event, 0⟩ 0x04C v) :
    access (busWrite m.id (regAddr .event 0 0x04C) 15 v) s =
      (eventWritten m.id 0x04C v (s.recorded m.id ⟨.event, 0⟩ 0x04C v)).done m.id ⟨.event, 0⟩ 0x04C :=
  access_effect (by decide) ha (by decide) (by decide) (by decide) (fun _ _ => rfl)

/-- EV_CMD by its two bits. -/
theorem evCmd_effect {s : State} (hc : s.Canonical) (m : Nat) (v : Word) : let t := eventWritten m 0x04C v s
    (bitOf v 0 = true → t.ev.ring = [] ∧ t.ev.wait = []) ∧ (bitOf v 0 = false → t.ev = s.ev) ∧
      (bitOf v 1 = true → t.reg (regAddr .event 0 0x044) = 0) ∧
      (bitOf v 1 = false → t.reg (regAddr .event 0 0x044) = s.reg (regAddr .event 0 0x044)) ∧ t = { s with regs := t.regs, ev := t.ev } := by
  have heffect : eventWritten m 0x04C v s =
      (let s1 := if bitOf v 1 then s.setReg (regAddr .event 0 0x044) 0 else s
       if bitOf v 0 then clearRing s1 else s1) := if_pos rfl
  have hzero : (s.setReg (regAddr .event 0 0x044) 0).reg (regAddr .event 0 0x044) = 0 := (State.reg_setReg hc _ _ _).trans (if_pos rfl)
  dsimp only
  rw [heffect]
  cases bitOf v 0 <;> cases bitOf v 1
  · exact ⟨nofun, fun _ => rfl, nofun, fun _ => rfl, rfl⟩
  · exact ⟨nofun, fun _ => rfl, fun _ => hzero, nofun, rfl⟩
  · exact ⟨fun _ => ⟨rfl, rfl⟩, nofun, nofun, fun _ => rfl, rfl⟩
  · exact ⟨fun _ => ⟨rfl, rfl⟩, nofun, fun _ => hzero, nofun, rfl⟩

/-! User events (R480). -/

def rUserSticky (half : Nat) : Nat := regAddr .event 0 (0x058 + 4 * half)
def rUserEnable (half : Nat) : Nat := regAddr .event 0 (0x060 + 4 * half)

/-- One user event occurs. -/
def State.userEvent (s : State) (m half k : Nat) : State :=
  let s1 := s.setBit (rUserSticky half) k true
  if s1.bit (rUserEnable half) k then s1.occur (448 + 32 * half + k) k (BitVec.ofNat 32 m) else s1

/-- The first `n` events of a write to USR_RAISE. -/
def State.userEvents (s : State) (m half v n : Nat) : State :=
  (List.range n).foldl (fun s k => if v.testBit k then s.userEvent m half k else s) s

theorem userRaise_eq (m half v : Nat) (s : State) : userRaise m half v s = s.userEvents m half v 32 := rfl

theorem userEvents_succ (s : State) (m half v n : Nat) : s.userEvents m half v (n + 1) =
    if v.testBit n then (s.userEvents m half v n).userEvent m half n else s.userEvents m half v n := by
  rw [State.userEvents, List.range_succ, List.foldl_append]
  rfl

theorem State.Canonical.occur {s : State} (hc : s.Canonical) (n bit : Nat) (d : Word) : (s.occur n bit d).Canonical :=
  (State.occur_follows s n bit d (Follows.refl s)).memory hc

theorem bit_setBit_other {s : State} (hc : s.Canonical) (a : Nat) {j k : Nat} (v : Bool) (hk : k < 32) :
    (s.setBit a k v).bit a j = if j = k then v else s.bit a j := by
  by_cases hjk : j = k
  · rw [if_pos hjk, hjk, State.bit_setBit hc _ _ _ hk]
  · rw [if_neg hjk]
    exact State.bit_setBit_apart hc v hk (Or.inr (by omega))

section

variable {half : Nat} (hhalf : half < 2)

include hhalf

/-- A user event sets its sticky bit, and has no other effect while it is not enabled. -/
theorem userEvent_reads {s : State} (hc : s.Canonical) (m : Nat) {k : Nat} (hk : k < 32) : let t := s.userEvent m half k
    (∀ j < 32, t.bit (rUserSticky half) j = if j = k then true else s.bit (rUserSticky half) j) ∧
      t.reg (rUserEnable half) = s.reg (rUserEnable half) ∧ (s.bit (rUserEnable half) k = false → t.ev = s.ev) ∧
      t = { s with regs := t.regs, ev := t.ev } := by
  have hsticky : rUserSticky half ≠ regAddr .event 0 0x048 := by
    simp only [rUserSticky, regAddr]
    omega
  have henable : rUserEnable half ≠ regAddr .event 0 0x048 := by
    simp only [rUserEnable, regAddr]
    omega
  have happart : rUserEnable half ≠ rUserSticky half := by
    simp only [rUserEnable, rUserSticky, regAddr]
    omega
  have hset : (s.setBit (rUserSticky half) k true).reg (rUserEnable half) = s.reg (rUserEnable half) :=
    State.reg_setFld_other s _ _ _ happart
  have hbit (j : Nat) (_ : j < 32) := bit_setBit_other hc (rUserSticky half) true (j := j) hk
  dsimp only
  unfold State.userEvent
  dsimp only
  split
  · next hon =>
    refine ⟨fun j hj => ?_, (State.occur_reg _ _ _ _ henable).trans hset, fun hoff => ?_, ?_⟩
    · rw [State.bit, State.occur_reg _ _ _ _ hsticky]
      exact hbit j hj
    · rw [State.bit, hset, ← State.bit, hoff] at hon
      cases hon
    · rw [State.occur_frame]
      rfl
  · exact ⟨hbit, hset, fun _ => rfl, rfl⟩

/-- The first `n` events set the bits that are named among them. -/
theorem userEvents_reads {s : State} (hc : s.Canonical) (m v : Nat) : ∀ n, n ≤ 32 → let t := s.userEvents m half v n
    t.Canonical ∧ (∀ j < 32, t.bit (rUserSticky half) j = (s.bit (rUserSticky half) j || (decide (j < n) && v.testBit j))) ∧
      t.reg (rUserEnable half) = s.reg (rUserEnable half) ∧
      ((∀ j < n, v.testBit j = true → s.bit (rUserEnable half) j = false) → t.ev = s.ev) ∧ t = { s with regs := t.regs, ev := t.ev }
  | 0, _ => ⟨hc, fun j _ => by rw [decide_eq_false (Nat.not_lt_zero j), Bool.false_and, Bool.or_false]; rfl, rfl, fun _ => rfl, rfl⟩
  | n + 1, hn => by
    obtain ⟨hcan, hbits, henable, hquiet, hframe⟩ := userEvents_reads hc m v n (Nat.le_of_succ_le hn)
    dsimp only at hframe ⊢
    rw [userEvents_succ]
    cases hv : v.testBit n
    · simp only [Bool.false_eq_true, if_false]
      refine ⟨hcan, fun j hj => (hbits j hj).trans ?_, henable, fun hoff => hquiet fun j hj => hoff j (Nat.lt_succ_of_lt hj), hframe⟩
      by_cases hjn : j = n
      · rw [hjn, hv, Bool.and_false, Bool.and_false]
      · rw [decide_eq_decide.mpr (by omega : j < n ↔ j < n + 1)]
    · simp only [if_true]
      obtain ⟨hbit, hkept, hevent, hmoved⟩ := userEvent_reads hhalf hcan m (Nat.lt_of_succ_le hn)
      refine ⟨?_, fun j hj => (hbit j hj).trans ?_, hkept.trans henable, fun hoff => (hevent ?_).trans (hquiet fun j hj =>
        hoff j (Nat.lt_succ_of_lt hj)), hmoved.trans ?_⟩
      · unfold State.userEvent
        dsimp only
        split
        · exact (hcan.setReg _ _).occur _ _ _
        · exact hcan.setReg _ _
      · rw [hbits j hj]
        by_cases hjn : j = n
        · rw [if_pos hjn, hjn, hv, decide_eq_true (Nat.lt_succ_self n), Bool.and_self, Bool.or_true]
        · rw [if_neg hjn, decide_eq_decide.mpr (by omega : j < n ↔ j < n + 1)]
      · rw [State.bit, henable]
        exact hoff n (Nat.lt_succ_self n) hv
      · rw [hframe]

end

theorem usrRaise_access {m : Master} {v : Word} {s : State} {half off : Nat} (hoff : (half = 0 ∧ off = 0x050) ∨ (half = 1 ∧ off = 0x054))
    (ha : s.Accepts m.id ⟨.event, 0⟩ off v) : access (busWrite m.id (regAddr .event 0 off) 15 v) s =
      (userRaise m.id half v.toNat (s.recorded m.id ⟨.event, 0⟩ off v)).done m.id ⟨.event, 0⟩ off := by
  rcases hoff with ⟨rfl, rfl⟩ | ⟨rfl, rfl⟩ <;>
    exact access_effect (by decide) ha (by decide) (by decide) (by decide) (fun _ _ => rfl)

/-- A write of USR_RAISE: its register holds no value, so the events are all that it leaves. -/
theorem usrRaise_leaves (m : Master) (v : Word) (s : State) {half off : Nat} (hoff : (half = 0 ∧ off = 0x050) ∨ (half = 1 ∧ off = 0x054))
    (hc : s.Canonical) : let t := (userRaise m.id half v.toNat (s.recorded m.id ⟨.event, 0⟩ off v)).done m.id ⟨.event, 0⟩ off
    t.resp.code = 0 ∧ t.log = s.log ∧
      (∀ k < 32, t.bit (rUserSticky half) k = (s.bit (rUserSticky half) k || bitOf v k)) ∧
      ((∀ k < 32, bitOf v k = true → s.bit (rUserEnable half) k = false) → t.ev = s.ev) ∧
      t = { s with regs := t.regs, ev := t.ev, resp := t.resp, jtag := { s.jtag with out := t.jtag.out } } := by
  have hhalf : half < 2 := by omega
  have hplain : logged ⟨.event, 0⟩ off = false ∧ perIdentity ⟨.event, 0⟩ off = false ∧ off ≠ 0x020 := by
    rcases hoff with ⟨-, rfl⟩ | ⟨-, rfl⟩ <;> exact ⟨by decide, rfl, by decide⟩
  obtain ⟨hlogged, hown, herr⟩ := hplain
  have hrecord : s.recorded m.id ⟨.event, 0⟩ off v = s.forgetAnswer.store m.id ⟨.event, 0⟩ off v := by
    rw [State.recorded, recorded_begun (fun h => by cases h), State.logWrite, hlogged, if_neg Bool.false_ne_true]
  rw [State.store_setReg hown herr] at hrecord
  have happart : rUserSticky half ≠ Page.base ⟨.event, 0⟩ + off ∧ rUserEnable half ≠ Page.base ⟨.event, 0⟩ + off := by
    simp only [rUserSticky, rUserEnable, regAddr, Page.base]
    omega
  rw [hrecord, userRaise_eq]
  generalize hu : s.forgetAnswer.setReg _ _ = u
  have hsticky : u.reg (rUserSticky half) = s.reg (rUserSticky half) := by
    rw [← hu, State.reg_setReg_other _ _ happart.1]
    rfl
  have henable : u.reg (rUserEnable half) = s.reg (rUserEnable half) := by
    rw [← hu, State.reg_setReg_other _ _ happart.2]
    rfl
  have hcan : u.Canonical := hu ▸ hc.forget.setReg _ _
  have hframe : u = { s with regs := u.regs, resp := {} } := by rw [← hu]; rfl
  obtain ⟨-, hbits, -, hquiet, hmoved⟩ := userEvents_reads hhalf hcan m.id v.toNat 32 (Nat.le_refl 32)
  refine ⟨State.done_code _ _ _ _, ?log, fun k hk => ?bits, fun hoff => ?quiet, ?frame⟩
  case log =>
    rw [State.done_log, hmoved, hframe]
  case bits =>
    rw [State.done_bit, hbits k hk, State.bit, hsticky, decide_eq_true hk, Bool.true_and]
    rfl
  case quiet =>
    rw [State.done_rest]
    refine (hquiet fun j hj hv => ?_).trans (by rw [hframe])
    rw [State.bit, henable]
    exact hoff j hj hv
  case frame =>
    rw [State.done_rest, hmoved, hframe]

/-- Settles O46: the ring by how full it is, the commands by their accepted accesses, the user events one after the other. -/
theorem eventRingComplete : Obligations.EventRingComplete := by
  refine ⟨fun e rest s hc hwait => ⟨fun hroom hhalf => ?room, fun hhalf => ?half, fun hfull => ?full⟩, fun m s hc ha => ?pop,
    fun m v s hc ha => ?command, fun m hi v s hc => ?user⟩
  case room => exact congrArg Host.Outcome.next (recordEnters_room hwait hroom hhalf)
  case half => exact congrArg Host.Outcome.next (recordEnters_half hwait hhalf)
  case full =>
    have hcan : ({ s with ev := { s.ev with wait := rest, lostMark := true } } : State).Canonical := { hc with }
    exact ⟨s.recordLost rest, congrArg Host.Outcome.next (recordEnters_full hwait hfull), rfl, rfl, (State.reg_setReg hcan _ _ _).trans (if_pos rfl)⟩
  case pop =>
    refine ⟨_, recPop_next m s ha, ?_⟩
    cases hring : s.ev.ring with
    | nil =>
      rw [popRecord_empty (s := s.forgetAnswer) hring]
      obtain ⟨hev, hcode, hdata, hframe⟩ := captured_readDone s s.ev m.id (fun _ => 0) 0
      obtain ⟨h1, h2, h3⟩ := captureRecord_cap hc.forget m.id (fun _ => 0)
      refine ⟨hcode, hframe, nofun, fun _ => ⟨hdata, hev, fun k hk => ?_⟩⟩
      rw [State.readDone_cap]
      simp only [List.mem_cons, List.not_mem_nil, or_false] at hk
      rcases hk with rfl | rfl | rfl
      · exact h1
      · exact h2
      · exact h3
    | cons e rest =>
      rw [popRecord_cons (s := s.forgetAnswer) hring]
      obtain ⟨hev, hcode, hdata, hframe⟩ := captured_readDone s { s.ev with ring := rest } m.id e.word e.seq
      have hcan : ({ s.forgetAnswer with ev := { s.ev with ring := rest } } : State).Canonical := { hc with }
      obtain ⟨h1, h2, h3⟩ := captureRecord_cap hcan m.id e.word
      refine ⟨hcode, hframe, fun e' rest' he => ?_, nofun⟩
      obtain ⟨rfl, rfl⟩ := List.cons.inj he
      exact ⟨hdata, hev, (State.readDone_cap _ _ _ _ _ _ _).trans h1, (State.readDone_cap _ _ _ _ _ _ _).trans h2,
        (State.readDone_cap _ _ _ _ _ _ _).trans h3⟩
  case command =>
    have hrec : (s.recorded m.id ⟨.event, 0⟩ 0x04C v).Canonical := hc.recorded (fun h => by cases h)
    obtain ⟨hclear, hkept, hzero, hlost, hframe⟩ := evCmd_effect hrec m.id v
    have hrecord := recorded_frame (s := s) (m := m.id) (p := ⟨.event, 0⟩) (off := 0x04C) (v := v) (fun h => by cases h) rfl
    have hreg := (recorded_regs (m := m.id) (p := ⟨.event, 0⟩) (off := 0x04C) (v := v) hc (fun h => by cases h) (by decide) rfl (by decide)
      (by decide)).2 (regAddr .event 0 0x044) (by decide) (by decide) (by decide) (by decide)
    have hexec := evCmd_access ha
    refine ⟨_, congrArg Host.Outcome.next hexec, congrArg Host.Outcome.next hexec, State.done_code _ _ _ _, fun h => ?_, fun h => ?_,
      fun h => (State.done_reg _ _ _ _ _).trans (hzero h), fun h => (State.done_reg _ _ _ _ _).trans ((hlost h).trans hreg),
      State.done_frame _ _ _ ?_⟩
    · rw [State.done_rest]
      exact hclear h
    · rw [State.done_rest]
      exact (congrArg Events.ring (hkept h)).trans (recorded_ring (p := ⟨.event, 0⟩) (by decide))
    · rw [hframe, hrecord]
  case user =>
    cases hi with
    | false => exact fun ha => ⟨_, congrArg Host.Outcome.next (usrRaise_access (Or.inl ⟨rfl, rfl⟩) ha), usrRaise_leaves m v s (Or.inl ⟨rfl, rfl⟩) hc⟩
    | true => exact fun ha => ⟨_, congrArg Host.Outcome.next (usrRaise_access (Or.inr ⟨rfl, rfl⟩) ha), usrRaise_leaves m v s (Or.inr ⟨rfl, rfl⟩) hc⟩

end Sys2Proof.Machine
end

section
/-!
An occurrence of a page's event (R469, R474): the sticky bit, and the record of one that is enabled.
-/

namespace Sys2Proof.Machine

/-- Every bit of a page drives an event number of Table 17-1. -/
theorem eventOfBit_lt {k : PageKind} {n bit : Nat} (hn : n < k.info.2.1) (hbit : bit < 32) : Page.eventOfBit ⟨k, n⟩ bit < 512 := by
  cases k with
  | power =>
    simp only [Page.eventOfBit]
    split_ifs <;> decide
  | pinmap | hostper | dma =>
    simp only [Page.eventOfBit, Page.events, PageKind.info] at hn ⊢
    omega
  | _ =>
    simp [Page.eventOfBit, Page.events, PageKind.info] at hn ⊢ <;> omega

/-- Pages lie at multiples of 4 KiB, so registers at different offsets are different. -/
theorem regAddr_ne {k j : PageKind} {n i off o : Nat} (ho : off < 0x1000) (hlt : o < 0x1000) (h : off ≠ o) : regAddr k n off ≠ regAddr j i o := by
  have hk := (page_bounds k).1
  have hj := (page_bounds j).1
  unfold regAddr
  omega

/-! The order of the records of one D1 cycle (R474). -/

/-- A record of this moment stands after the new one. -/
abbrev EvRec.After (w r : EvRec) : Prop := w.time = r.time ∧ 32 * r.source + r.bit < 32 * w.source + w.bit

theorem orderRecord_last {r : EvRec} {ws : List EvRec} (h : ∀ w ∈ ws, ¬ w.After r) : orderRecord r ws = ws ++ [r] := by
  have hidx : ws.findIdx (fun w => decide (w.time = r.time) && decide (32 * r.source + r.bit < 32 * w.source + w.bit)) = ws.length := by
    refine List.findIdx_eq_length.mpr fun w hw => ?_
    rw [← Bool.decide_and]
    exact decide_eq_false (h w hw)
  rw [orderRecord, hidx, List.getElem?_eq_none (Nat.le_refl _)]

theorem orderRecord_before {r w : EvRec} {before after : List EvRec} (hbefore : ∀ x ∈ before, ¬ x.After r) (hafter : w.After r) :
    orderRecord r (before ++ w :: after) =
      before ++ { r with seq := w.seq } :: (w :: after).map (fun x => { x with seq := x.seq + 1 }) := by
  have hidx : (before ++ w :: after).findIdx
      (fun w => decide (w.time = r.time) && decide (32 * r.source + r.bit < 32 * w.source + w.bit)) = before.length := by
    rw [List.findIdx_append, List.findIdx_eq_length.mpr, if_neg (Nat.lt_irrefl _), List.findIdx_cons, ← Bool.decide_and,
      decide_eq_true hafter, cond_true, Nat.zero_add]
    intro x hx
    rw [← Bool.decide_and]
    exact decide_eq_false (hbefore x hx)
  rw [orderRecord, hidx, List.getElem?_append_right (Nat.le_refl _), Nat.sub_self]
  simp only [List.getElem?_cons_zero, List.take_left, List.drop_left]

/-! One occurrence. -/

/-- An occurrence that is routed to the ring waits to enter it. -/
theorem State.occur_recorded {s : State} (hc : s.Canonical) {n : Nat} (bit : Nat) (d : Word) (hroute : bitOf (s.route n) 31 = true) :
    (s.occur n bit d).reg (regAddr .event 0 0x048) = s.reg (regAddr .event 0 0x048) + 1 ∧
      (s.occur n bit d).ev.wait = orderRecord ⟨s.reg (regAddr .event 0 0x048), s.now, n, bit, false, d⟩ s.ev.wait := by
  have hcount : (s.countWrap (regAddr .event 0 0x048)).reg (regAddr .event 0 0x048) = s.reg (regAddr .event 0 0x048) + 1 :=
    (State.reg_setReg hc _ _ _).trans (if_pos rfl)
  have hon : bitOf (s.reg (regAddr .eventMap 0 (0x100 + 4 * n))) 31 = true := hroute
  unfold State.occur
  dsimp only
  generalize _ ++ s.userVectors n = vs
  simp only [hon, if_true]
  split <;> exact ⟨hcount, rfl⟩

/-- The sticky bit of a page's event. -/
def State.stuck (s : State) (p : Page) (bit : Nat) : State := s.setBit (p.base + 0x014) bit true

theorem stuck_reg (s : State) (p : Page) (bit : Nat) {a : Nat} (h : a ≠ p.base + 0x014) : (s.stuck p bit).reg a = s.reg a :=
  State.reg_setFld_other s _ _ _ h

theorem stuck_bit {s : State} (hc : s.Canonical) (k : PageKind) (n : Nat) {bit : Nat} (hbit : bit < 32) :
    (s.stuck ⟨k, n⟩ bit).bit (regAddr k n 0x014) bit = true := State.bit_setBit hc (regAddr k n 0x014) bit true hbit

theorem raise_disabled {s : State} {p : Page} {bit : Nat} (hoff : s.bit (p.base + 0x018) bit = false) (d : Word) :
    s.raise p bit d = s.stuck p bit := by
  have hkept : (s.stuck p bit).bit (p.base + 0x018) bit = false :=
    (congrArg (fun w => bitOf w bit) (stuck_reg s p bit (by omega))).trans hoff
  exact if_neg (by rw [← State.stuck, hkept]; exact Bool.false_ne_true)

theorem raise_enabled {s : State} {p : Page} {bit : Nat} (hon : s.bit (p.base + 0x018) bit = true) (d : Word) :
    s.raise p bit d = (s.stuck p bit).occur (p.eventOfBit bit) bit d := by
  have hkept : (s.stuck p bit).bit (p.base + 0x018) bit = true :=
    (congrArg (fun w => bitOf w bit) (stuck_reg s p bit (by omega))).trans hon
  exact if_pos hkept

/-- Settles O47: an occurrence by the enable of its bit, and its record by its place among those of the cycle. -/
theorem occurrencesSetStickyBits : Obligations.OccurrencesSetStickyBits := by
  intro k n bit detail s hc hbit hn p t
  have hsticky : regAddr k n 0x014 ≠ regAddr .event 0 0x048 := regAddr_ne (by decide) (by decide) (by decide)
  have hset : (s.stuck p bit).bit (regAddr k n 0x014) bit = true := stuck_bit hc k n hbit
  refine ⟨?sticky, fun hoff => ?disabled, fun hon => raise_enabled (p := p) hon detail, fun hon hroute => ?record, State.raise_frame _ _ _ _⟩
  case sticky =>
    cases hon : s.bit (regAddr k n 0x018) bit with
    | false => exact (congrArg (fun u : State => u.bit (regAddr k n 0x014) bit) (raise_disabled (p := p) hon detail)).trans hset
    | true =>
      refine (congrArg (fun u : State => u.bit (regAddr k n 0x014) bit) (raise_enabled (p := p) hon detail)).trans ?_
      rw [State.bit, State.occur_reg _ _ _ _ hsticky]
      exact hset
  case disabled =>
    have ht : t = s.stuck p bit := raise_disabled (p := p) hoff detail
    rw [ht]
    exact ⟨rfl, fun a ha => stuck_reg s p bit ha⟩
  case record =>
    intro r later
    have ht : t = (s.stuck p bit).occur (p.eventOfBit bit) bit detail := raise_enabled (p := p) hon detail
    have hevent : p.eventOfBit bit < 512 := eventOfBit_lt hn hbit
    have hmap : (s.stuck p bit).route (p.eventOfBit bit) = s.route (p.eventOfBit bit) :=
      stuck_reg s p bit (regAddr_ne (k := .eventMap) (j := k) (by omega) (by decide) (by omega))
    have hseq : (s.stuck p bit).reg (regAddr .event 0 0x048) = s.reg (regAddr .event 0 0x048) := stuck_reg s p bit hsticky.symm
    obtain ⟨hnumber, hwait⟩ := State.occur_recorded (s := s.stuck p bit) (hc.setReg _ _) (n := p.eventOfBit bit) bit detail (by rw [hmap]; exact hroute)
    rw [hseq] at hnumber hwait
    have hlist : t.ev.wait = orderRecord r s.ev.wait := by rw [ht]; exact hwait
    refine ⟨by rw [ht]; exact hnumber, fun hlast => ?_, fun before w after hsplit hbefore hafter => ?_⟩
    · rw [hlist, orderRecord_last hlast]
    · rw [hlist, hsplit, orderRecord_before hbefore hafter]

end Sys2Proof.Machine
end

section
/-!
Semaphores (R460, R462, R466): the lock that a read takes, the release that its holder writes, the writes that are rejected, and SEMA_CMD.
-/

namespace Sys2Proof.Machine

/-! Writes that check 11 refuses. -/

/-- A write that its block refuses, with what the refusal leaves (Table 2-5). -/
theorem access_write_blocked {s : State} {m off c : Nat} {p : Page} {v : Word} (hrun : s.inReset = false)
    (hturn : s.waits { master := m, addr := p.base + off, write := true, value := v } = false) (hn : p.inst < p.kind.info.2.1)
    (ho : off < 0x1000) (h4 : off % 4 = 0) (hpass : (s.begun p off).writeFails m p off 15 ((s.begun p off).view m p off) v = none)
    (hblock : (s.begun p off).refusesAt m p off v = some c) :
    access (busWrite m (p.base + off) 15 v) s =
      ((((s.begun p off).refusedAt m p off v).refuse m p true off c).heard m).noteRejection := by
  have hrefuses (old : Word) : ((s.begun p off).effectOf m p off old v).refuses = some c := hblock
  have hpage : pageWrite m p off 15 v s.forgetAnswer = ((s.begun p off).refusedAt m p off v).refuse m p true off c := by
    change (s.begun p off).writeReg m p off 15 ((s.begun p off).view m p off) v
      ((s.begun p off).effectOf m p off ((s.begun p off).view m p off) v) = _
    simp only [State.writeReg, hpass, hrefuses]
    rfl
  have hbus := busAccess_page (s := s.forgetAnswer) (e := { master := m, addr := p.base + off, write := true, value := v })
    hturn rfl rfl rfl hn ho h4
  rw [if_pos rfl, hpage, conclude_heard (by rfl) rfl rfl rfl rfl] at hbus
  rw [access, hrun, if_neg Bool.false_ne_true, busWrite, hbus]

/-! The LOCK registers. -/

/-- A LOCK register has one field, and 0 is its only value (Table 16-4). -/
theorem fieldsAt_lock : ∀ n : Fin 256, fieldsAt ⟨.sema, 0⟩ (0x100 + 4 * n.val) = [woE 31 0 [(0, 0)]] := by decide +kernel

theorem logged_lock (n : Fin 256) : logged ⟨.sema, 0⟩ (0x100 + 4 * n.val) = false := by
  have hplace : 0x100 ≤ 0x100 + 4 * n.val ∧ 0x100 + 4 * n.val < 0x500 := by omega
  simp only [logged, unlogged, hplace, and_self, decide_true, Bool.not_true, Bool.and_false]

theorem lockNumber (n : Fin 256) : (0x100 + 4 * n.val - 0x100) / 4 = n.val := by omega

section

variable {m : Nat} {n : Fin 256} {s : State}

theorem readEffect_lock : readEffect m ⟨.sema, 0⟩ (0x100 + 4 * n.val) s = lockRead m n s := by
  have hplace : 0x100 ≤ 0x100 + 4 * n.val ∧ 0x100 + 4 * n.val < 0x500 := by omega
  simp only [readEffect, hplace, and_self, if_true, lockNumber]

theorem refusesAt_lock (v : Word) : s.refusesAt m ⟨.sema, 0⟩ (0x100 + 4 * n.val) v = denyIf (decide (s.holder n ≠ some m)) codeNotPermitted := by
  have hplace : 0x100 ≤ 0x100 + 4 * n.val ∧ 0x100 + 4 * n.val < 0x500 := by omega
  simp only [State.refusesAt, State.semaRefuses, hplace, and_self, if_true, lockNumber]

theorem refusedAt_lock (v : Word) : State.refusedAt m ⟨.sema, 0⟩ (0x100 + 4 * n.val) v s = releaseRefused m n s := by
  have hplace : 0x100 ≤ 0x100 + 4 * n.val ∧ 0x100 + 4 * n.val < 0x500 := by omega
  simp only [State.refusedAt, hplace, and_self, if_true, lockNumber]

theorem effectAt_lock (old v : Word) : State.effectAt m ⟨.sema, 0⟩ (0x100 + 4 * n.val) old v s = s.setHolder n none := by
  have hplace : 0x100 ≤ 0x100 + 4 * n.val ∧ 0x100 + 4 * n.val < 0x500 := by omega
  simp only [State.effectAt, semaWritten, hplace, and_self, if_true, lockNumber]

/-- A value other than 0 is no encoding of LOCK; 0 is one. -/
theorem lock_value (v : Word) : s.valueBad ⟨.sema, 0⟩ (0x100 + 4 * n.val) v = if v = 0 then none else some codeBadEncoding := by
  have hmask : maskOf [woE 31 0 [(0, 0)]] (fun _ => true) = 2 ^ 32 - 1 := by decide
  have hrsv : rsvBad [woE 31 0 [(0, 0)]] v = false := by
    simp only [rsvBad, hmask, Nat.sub_self, Nat.and_zero, ne_eq, not_true_eq_false, decide_false]
  have hfield : fieldOf v 31 0 = v.toNat := Nat.mod_eq_of_lt v.isLt
  have henc : encBad [woE 31 0 [(0, 0)]] v = !decide (v = 0) := by
    have hzero : (0 ≤ v.toNat ∧ v.toNat ≤ 0) ↔ v = 0 := by
      rw [← BitVec.toNat_inj]
      exact ⟨fun h => Nat.le_zero.mp h.2, fun h => ⟨Nat.zero_le _, Nat.le_of_eq h⟩⟩
    simp only [encBad, woE, List.any_cons, List.any_nil, List.isEmpty_cons, Bool.not_false, Bool.true_and, Bool.or_false, hfield,
      decide_eq_decide.mpr hzero]
  have hspecial : specialEncBad s ⟨.sema, 0⟩ (0x100 + 4 * n.val) v = false := rfl
  rw [State.valueBad, fieldsAt_lock]
  simp only [hrsv, henc, hspecial, Bool.or_false, Bool.false_eq_true, if_false]
  by_cases hv : v = 0
  · simp only [hv, decide_true, Bool.not_true, Bool.false_eq_true, if_false, if_true]
  · simp only [hv, decide_false, Bool.not_false, if_true, if_false]

/-- The checks of a LOCK write that its identity may make: its value alone. -/
theorem writeFails_lock {v : Word} (hopen : s.pageClosed m ⟨.sema, 0⟩ (0x100 + 4 * n.val) = none)
    (hlife : s.writeClosed m ⟨.sema, 0⟩ (0x100 + 4 * n.val) v = false) (hmay : s.mayWrite m ⟨.sema, 0⟩ (0x100 + 4 * n.val) v = true) (old : Word) :
    s.writeFails m ⟨.sema, 0⟩ (0x100 + 4 * n.val) 15 old v = if v = 0 then none else some codeBadEncoding := by
  have hmask (p : Acc → Bool) (hp : p .wo = false) : maskOf (fieldsAt ⟨.sema, 0⟩ (0x100 + 4 * n.val)) p = 0 := by
    rw [fieldsAt_lock]
    exact if_neg (by rw [woE, hp]; exact Bool.false_ne_true)
  have hro : State.changesRo ⟨.sema, 0⟩ (0x100 + 4 * n.val) old v = false := by
    simp only [State.changesRo, differs, hmask (fun a => decide (a = .ro)) rfl, Nat.and_zero, ne_eq, not_true_eq_false, decide_false, Bool.and_false]
  have hlocked : s.changesLocked ⟨.sema, 0⟩ (0x100 + 4 * n.val) old v = false := by
    simp only [State.changesLocked, differs, hmask (fun a => decide (a = .rwl)) rfl, Nat.and_zero, ne_eq, not_true_eq_false, decide_false, Bool.and_false]
  simp only [State.writeFails, hopen, hlife, hmay, hro, hlocked, ne_eq, not_true_eq_false, if_false, Bool.false_eq_true, Bool.not_true,
    Bool.or_self]
  exact lock_value v

end

/-! A read takes a free semaphore. -/

theorem semaLockRead_next (m : Master) (n : Fin 256) (s : State) (hc : s.Canonical) (ha : s.AcceptsRead m.id ⟨.sema, 0⟩ (0x100 + 4 * n.val)) :
    ∃ t, exec (.semaLockRead m n) s = .next t ∧ t = { s with semas := t.semas, resp := t.resp, jtag := { s.jtag with out := t.jtag.out } } ∧
        t.resp.code = 0 ∧
      (∀ k, k ≠ n.val → t.holder k = s.holder k) ∧
      (s.holder n = none → t.holder n = some m.id ∧ t.resp.data = [BitVec.ofNat 32 (2 ^ 31 + m.id)]) ∧
      (∀ h, s.holder n = some h → t.holder n = some h ∧ t.resp.data = [BitVec.ofNat 32 ((if h = m.id then 2 ^ 31 else 0) + h)]) := by
  have hread := access_read_plain (by decide) ha (by decide) (by omega) (by omega)
  rw [readEffect_lock] at hread
  have hexec : exec (.semaLockRead m n) s = .next (access (busRead m.id (regAddr .sema 0 (0x100 + 4 * n.val))) s) := rfl
  rw [hread] at hexec
  refine ⟨_, hexec, ?_⟩
  cases hholder : s.holder n with
  | none =>
    have htaken : lockRead m.id n s.forgetAnswer = (s.forgetAnswer.setHolder n (some m.id), BitVec.ofNat 32 (2 ^ 31 + m.id)) := by
      have hfree : s.forgetAnswer.holder n = none := hholder
      simp only [lockRead, hfree, place, Nat.one_mul]
    rw [htaken]
    have hafter (k : Nat) := State.readDone_keeps (fun t => t.holder k) (fun _ _ _ => rfl) (s.forgetAnswer.setHolder n (some m.id)) m.id
      ⟨.sema, 0⟩ (0x100 + 4 * n.val) (BitVec.ofNat 32 (2 ^ 31 + m.id))
    refine ⟨by rw [State.readDone_frame]; rfl, congrArg Response.code (State.readDone_resp _ _ _ _ _),
      fun k hk => (hafter k).trans (State.holder_setHolder_other s.forgetAnswer _ hk), fun _ => ⟨(hafter n).trans ?_,
      congrArg Response.data (State.readDone_resp _ _ _ _ _)⟩, nofun⟩
    exact State.holder_setHolder_same s.forgetAnswer _ _ (SMap.wf_sorted hc.semas)
  | some h =>
    have hshown : lockRead m.id n s.forgetAnswer = (s.forgetAnswer, BitVec.ofNat 32 ((if h = m.id then 2 ^ 31 else 0) + h)) := by
      have hheld : s.forgetAnswer.holder n = some h := hholder
      have hflag : flag (decide (h = m.id)) 31 = if h = m.id then 2 ^ 31 else 0 := by
        by_cases he : h = m.id
        · rw [decide_eq_true he, if_pos he]; rfl
        · rw [decide_eq_false he, if_neg he]; rfl
      simp only [lockRead, hheld, hflag]
    rw [hshown]
    have hafter (k : Nat) := State.readDone_keeps (fun t => t.holder k) (fun _ _ _ => rfl) s.forgetAnswer m.id
      ⟨.sema, 0⟩ (0x100 + 4 * n.val) (BitVec.ofNat 32 ((if h = m.id then 2 ^ 31 else 0) + h))
    refine ⟨by rw [State.readDone_frame]; rfl, congrArg Response.code (State.readDone_resp _ _ _ _ _), fun k _ => hafter k, nofun, fun h' hh => ?_⟩
    cases hh
    exact ⟨(hafter n).trans hholder, congrArg Response.data (State.readDone_resp _ _ _ _ _)⟩

/-! Writes of a LOCK register. -/

theorem semaRelease_next (m : Master) (n : Fin 256) (s : State) (hc : s.Canonical) (ha : s.Accepts m.id ⟨.sema, 0⟩ (0x100 + 4 * n.val) 0) :
    s.holder n = some m.id ∧ ∃ t, exec (.semaRelease m n) s = .next t ∧ t.holder n = none ∧ (∀ k, k ≠ n.val → t.holder k = s.holder k) ∧
      t.resp.code = 0 ∧ t.log = s.log ∧ t = { s with regs := t.regs, semas := t.semas, resp := t.resp, jtag := { s.jtag with out := t.jtag.out } } := by
  have hholder : s.holder n = some m.id := by
    have hblock := ha.block
    rw [recorded_begun (fun h => by cases h), refusesAt_lock, denyIf] at hblock
    by_contra hne
    have hdenied : s.forgetAnswer.holder n ≠ some m.id := hne
    rw [if_pos (decide_eq_true hdenied)] at hblock
    cases hblock
  have hwrite := access_effect (by decide) ha (by decide) (by omega) (by omega) (fun old u => effectAt_lock (s := u) old 0)
  have hexec : exec (.semaRelease m n) s = .next (access (busWrite m.id (regAddr .sema 0 (0x100 + 4 * n.val)) 15 0) s) := rfl
  rw [hwrite] at hexec
  have hframe := recorded_frame (s := s) (m := m.id) (p := ⟨.sema, 0⟩) (off := 0x100 + 4 * n.val) (v := 0) (fun h => by cases h) rfl
  obtain ⟨hlog, hev⟩ := recorded_unlogged (s := s) (m := m.id) (p := ⟨.sema, 0⟩) (off := 0x100 + 4 * n.val) (v := 0) (fun h => by cases h)
    (logged_lock n)
  generalize s.recorded m.id ⟨.sema, 0⟩ (0x100 + 4 * n.val) 0 = u at hframe hlog hev hexec
  rw [hlog, hev] at hframe
  have hsemas : u.semas = s.semas := by rw [hframe]
  have hafter (k : Nat) := State.done_keeps (fun t => t.holder k) (fun _ _ _ => rfl) (u.setHolder n none) m.id ⟨.sema, 0⟩ (0x100 + 4 * n.val)
  refine ⟨hholder, _, hexec, (hafter n).trans ?_, fun k hk => ((hafter k).trans (State.holder_setHolder_other _ _ hk)).trans ?_,
    State.done_code _ _ _ _, (State.done_log _ _ _ _).trans hlog, ?_⟩
  · exact State.holder_setHolder_same _ _ _ (by rw [hsemas]; exact SMap.wf_sorted hc.semas)
  · rw [State.holder, hsemas]
    rfl
  · rw [State.done_rest, hframe]
    rfl

/-- A write of another identity than the holder's, or of another value than 0. -/
theorem lockWrite_rejected (m : Master) (n : Fin 256) (v : Word) (s : State) (hc : s.Canonical) (hrun : s.inReset = false)
    (hturn : s.waits { master := m.id, addr := Page.base ⟨.sema, 0⟩ + (0x100 + 4 * n.val), write := true, value := v } = false)
    (hopen : s.forgetAnswer.pageClosed m.id ⟨.sema, 0⟩ (0x100 + 4 * n.val) = none)
    (hlife : s.forgetAnswer.writeClosed m.id ⟨.sema, 0⟩ (0x100 + 4 * n.val) v = false)
    (hmay : s.forgetAnswer.mayWrite m.id ⟨.sema, 0⟩ (0x100 + 4 * n.val) v = true) :
    (v = 0 → s.holder n ≠ some m.id → ∃ t : State, exec (.semaRelease m n) s = .next t.noteRejection ∧ t.resp.code = codeNotPermitted ∧
      t.semas = s.semas ∧ t.fld rSemaCnt 15 0 = min 65535 (s.fld rSemaCnt 15 0 + 1)) ∧
    (v ≠ 0 → ∃ t : State, exec (.registerWrite m (BitVec.ofNat 32 (regAddr .sema 0 (0x100 + 4 * n.val))) 15 v) s = .next t.noteRejection ∧
      t.resp.code = codeBadEncoding ∧ t.semas = s.semas) := by
  have hbegun : s.begun ⟨.sema, 0⟩ (0x100 + 4 * n.val) = s.forgetAnswer := recorded_begun (fun h => by cases h)
  have hfails := writeFails_lock hopen hlife hmay (s.forgetAnswer.view m.id ⟨.sema, 0⟩ (0x100 + 4 * n.val))
  constructor
  · rintro rfl hholder
    have hblock : s.forgetAnswer.refusesAt m.id ⟨.sema, 0⟩ (0x100 + 4 * n.val) 0 = some codeNotPermitted :=
      (refusesAt_lock 0).trans (if_pos (decide_eq_true hholder))
    have hwrite := access_write_blocked hrun hturn (by decide) (by omega) (by omega) (by rw [hbegun]; exact hfails) (by rw [hbegun]; exact hblock)
    rw [hbegun, refusedAt_lock] at hwrite
    have hcan : (releaseRefused m.id n s.forgetAnswer).Canonical := (releaseRefused_follows _ _ _ (Follows.refl _)).memory hc.forget
    obtain ⟨-, -, -, hresp, hregs, hframe⟩ := refuse_spec hcan m.id ⟨.sema, 0⟩ (0x100 + 4 * n.val) codeNotPermitted (by decide)
    refine ⟨_, congrArg Host.Outcome.next hwrite, ?_, ?_, ?_⟩
    · rw [heard_code, hresp]
    · rw [State.heard_frame, hframe, releaseRefused, State.raise_frame]
      rfl
    · rw [State.heard_fld, State.fld, hregs _ (by decide) (by decide), releaseRefused, State.raise_reg _ _ _ _ (by decide)]
      exact State.fld_count hc.forget _ _ (by decide) (by decide)
  · intro hv
    rw [if_neg hv] at hfails
    have hwrite := access_write_refused hrun hturn (by decide) (by omega) (by omega) (by rw [hbegun]; exact hfails)
    rw [hbegun] at hwrite
    obtain ⟨-, -, -, hresp, -, hframe⟩ := refuse_spec hc.forget m.id ⟨.sema, 0⟩ (0x100 + 4 * n.val) codeBadEncoding (by decide)
    refine ⟨_, (exec_registerWrite_page m 15 v s (by decide) (by omega)).trans (congrArg Host.Outcome.next hwrite), ?_, ?_⟩
    · rw [heard_code, hresp]
    · rw [State.heard_frame, hframe]
      rfl

/-! What a rejection means for its master has nothing to do with semaphores (R50). -/

theorem setPci_semas (s : State) (f off : Nat) (v : Word) : (s.setPci f off v).semas = s.semas := rfl

theorem tick_semas (s : State) : s.tick.semas = s.semas := rfl

theorem logHeader_semas (s : State) (f : Nat) : (s.logHeader f).semas = s.semas := by
  simp only [State.logHeader, List.foldl_cons, List.foldl_nil, tick_semas, setPci_semas]

theorem pciRaise_semas (s : State) (f off k : Nat) : (s.pciRaise f off k).semas = s.semas := setPci_semas _ _ _ _

theorem aer_semas (s : State) (f k : Nat) : (s.aer f k).semas = s.semas := by
  rw [State.aer, pciRaise_semas]
  split
  · exact logHeader_semas s f
  · rfl

theorem hostDrop_semas (s : State) (m : Nat) : (s.hostDrop m).semas = s.semas := by
  rw [State.hostDrop, State.aerAdvisory, pciRaise_semas, aer_semas, State.dropPosted, State.pcieEvent, State.raise_frame]
  rfl

theorem noteRejection_semas {u : State} (h : enginePage u.resp.master = none) : u.noteRejection.semas = u.semas := by
  unfold State.noteRejection
  split
  · rfl
  · split
    · exact hostDrop_semas _ _
    · rw [h]

/-! SEMA_CMD (R462, R466). -/

/-- SEMA_CMD's word to free a semaphore. -/
theorem semaCmd_fields (n : Fin 256) : bitOf (BitVec.ofNat 32 (2 ^ 31 + n.val)) 31 = true ∧ fieldOf (BitVec.ofNat 32 (2 ^ 31 + n.val)) 7 0 = n.val := by
  have hn := n.isLt
  have hword : (BitVec.ofNat 32 (2 ^ 31 + n.val)).toNat = 2 ^ 31 + n.val := by
    rw [BitVec.toNat_ofNat]
    omega
  constructor
  · rw [bitOf, hword, Nat.testBit_two_pow_add_eq, Nat.testBit_lt_two_pow (by omega)]
    rfl
  · rw [fieldOf, hword, Nat.shiftRight_zero]
    omega

theorem semaCmdFree_next (m : Master) (n : Fin 256) (h : Nat) (s : State) (hholder : s.holder n = some h)
    (ha : s.Accepts m.id ⟨.sema, 0⟩ 0x080 (BitVec.ofNat 32 (2 ^ 31 + n.val))) : exec (.semaCmdFree m n) s =
      .next (((s.recorded m.id ⟨.sema, 0⟩ 0x080 (BitVec.ofNat 32 (2 ^ 31 + n.val))).forceRelease n h 2).done m.id ⟨.sema, 0⟩ 0x080) := by
  obtain ⟨hgo, hnumber⟩ := semaCmd_fields n
  have hexec : exec (.semaCmdFree m n) s =
      .next (access (busWrite m.id (regAddr .sema 0 0x080) 15 (BitVec.ofNat 32 (place 1 31 + n.val))) s) := rfl
  rw [show place 1 31 = 2 ^ 31 from rfl, access_write_plain (by decide) ha (by decide) (by decide) (by decide)] at hexec
  have hkept : (s.recorded m.id ⟨.sema, 0⟩ 0x080 (BitVec.ofNat 32 (2 ^ 31 + n.val))).holder n = some h := by
    rw [recorded_frame (fun h => by cases h) rfl]
    exact hholder
  rw [hexec]
  simp only [State.effectAt, semaWritten, hgo, hnumber, hkept, Nat.reduceLeDiff, false_and, if_false, if_true]

theorem setReg_holder (s : State) (a : Nat) (v : Word) (k : Nat) : (s.setReg a v).holder k = s.holder k := rfl

theorem count_holder (s : State) (a hi lo n k : Nat) : (s.count a hi lo n).holder k = s.holder k := setReg_holder _ _ _ _

theorem forceRelease_leaves (n h kind : Nat) (s : State) (hc : s.Canonical) : let t := s.forceRelease n h kind
    t.holder n = none ∧ (∀ k, k ≠ n → t.holder k = s.holder k) ∧ t.fld rSemaCnt 31 16 = min 65535 (s.fld rSemaCnt 31 16 + 1) ∧
      t.reg rSemaLast = BitVec.ofNat 32 (place kind 16 + place n 8 + h) := by
  have hfreed : (s.setHolder n none).Canonical := hc.setHolder _ _
  have hcount : ((s.setHolder n none).count rSemaCnt 31 16 1).Canonical := hfreed.setReg _ _
  dsimp only
  unfold State.forceRelease
  dsimp only
  refine ⟨?_, fun k hk => ?_, ?_, ?_⟩
  · rw [State.raise_keeps (fun t => t.holder n) (fun _ _ _ => rfl), setReg_holder, count_holder]
    exact State.holder_setHolder_same _ _ _ (SMap.wf_sorted hc.semas)
  · rw [State.raise_keeps (fun t => t.holder k) (fun _ _ _ => rfl), setReg_holder, count_holder]
    exact State.holder_setHolder_other _ _ hk
  · rw [State.fld, State.raise_reg _ _ _ _ (by decide), State.reg_setReg_other _ _ (by decide)]
    exact State.fld_count hfreed _ _ (by decide) (by decide)
  · rw [State.raise_reg _ _ _ _ (by decide), State.reg_setReg hcount, if_pos rfl]

theorem semaClrCounts_next (m : Master) (v : Word) (s : State) (hc : s.Canonical) (ha : s.Accepts m.id ⟨.sema, 0⟩ 0x08C v)
    (hbit : bitOf v 31 = true) : ∃ t, exec (.semaClrCounts m v) s = .next t ∧ t.reg rSemaCnt = 0 ∧ t.reg rSemaLast = 0 ∧ t.resp.code = 0 ∧
      t = { s with regs := t.regs, ev := t.ev, log := t.log, resp := t.resp, jtag := { s.jtag with out := t.jtag.out } } := by
  have heffect (old : Word) (u : State) : State.effectAt m.id ⟨.sema, 0⟩ 0x08C old v u =
      [rSemaCnt, rSemaLast].foldl (fun s a => s.setReg a 0) u := by
    simp only [State.effectAt, semaWritten, hbit, if_true]
    rfl
  have hwrite := access_effect (by decide) ha (by decide) (by decide) (by decide) heffect
  obtain ⟨hcode, hzero, -, hframe⟩ := cleared_done (k := .sema) (n := 0) (m := m.id) (off := 0x08C) (v := v) hc (fun h => by cases h) rfl [rSemaCnt, rSemaLast]
  exact ⟨_, congrArg Host.Outcome.next hwrite, hzero _ (List.mem_cons_self ..), hzero _ (List.mem_cons_of_mem _ (List.mem_cons_self ..)), hcode,
    hframe⟩

/-- Settles O45: each command by its access, a rejected write by the check that it fails. -/
theorem semaphoresComplete : Obligations.SemaphoresComplete := by
  refine ⟨semaLockRead_next, semaRelease_next, fun m n v s hc hrun => ?rejected, fun m n h s _ hholder => semaCmdFree_next m n h s hholder,
    forceRelease_leaves, semaClrCounts_next⟩
  case rejected =>
    intro p off hturn u hopen hlife hmay
    have hbegun : u = s.forgetAnswer := recorded_begun (fun h => by cases h)
    rw [hbegun] at hopen hlife hmay
    obtain ⟨hrelease, hvalue⟩ := lockWrite_rejected m n v s hc hrun hturn hopen hlife hmay
    exact ⟨hrelease, hvalue, fun u => noteRejection_semas⟩

end Sys2Proof.Machine
end

section
/-!
The places of a shuttle (chapter 16): the registers of a side, what a write of each of them does, and the state of a direction.
-/

namespace Sys2Proof.Machine

/-! The registers of a side. -/

/-- The place of a register of side `k` of channel `c` in its page. -/
def sideOffset (c k o : Nat) : Nat := 0x140 + 0x200 * (c % 4) + 0x80 * k + o

theorem regAddr_sideOffset (c k o : Nat) : regAddr .shuttle (c / 4) (sideOffset c k o) = sideBase c k + o := by
  unfold regAddr sideOffset sideBase chanBase regAddr
  omega

theorem sideNo_lt (d : Side) : sideNo d < 2 := by cases d <;> decide

section

variable {c k o : Nat} (hk : k < 2) (ho : o < 0x80)

include hk ho

theorem sideOffset_lt : sideOffset c k o < 0x1000 := by
  unfold sideOffset
  omega

theorem sidePart_sideOffset : sidePart ⟨.shuttle, c / 4⟩ (sideOffset c k o) = some (c, k, o) := by
  have hplace : (sideOffset c k o - 0x100) % 0x200 = 0x40 + 0x80 * k + o := by
    unfold sideOffset
    omega
  have hchan : 4 * (c / 4) + (sideOffset c k o - 0x100) / 0x200 = c := by
    unfold sideOffset
    omega
  have hside : (0x40 + 0x80 * k + o - 0x40) / 0x80 = k ∧ (0x40 + 0x80 * k + o - 0x40) % 0x80 = o := by omega
  have hrange : ¬ (sideOffset c k o < 0x100 ∨ 0x900 ≤ sideOffset c k o) := by
    unfold sideOffset
    omega
  rw [sidePart, if_neg hrange]
  simp only [hplace, hchan, hside, if_neg (show ¬ (0x40 + 0x80 * k + o < 0x40 ∨ 0x140 ≤ 0x40 + 0x80 * k + o) by omega)]

/-- A register of a side is none of the locks and bindings of its page. -/
theorem sideOffset_command (p : Page) : ¬ (p.inst = 0 ∧ sideOffset c k o = 0x040) ∧ ¬ (0x100 ≤ sideOffset c k o ∧ (sideOffset c k o - 0x100) % 0x200 = 0) := by
  unfold sideOffset
  omega

end

section

variable {m c k : Nat} {old v : Word} {s : State} (hk : k < 2)

include hk

theorem effectAt_txData : State.effectAt m ⟨.shuttle, c / 4⟩ (sideOffset c k 0) old v s = txAppend c k v s := by
  obtain ⟨hlock, hbind⟩ := sideOffset_command (c := c) (o := 0) hk (by decide) ⟨.shuttle, c / 4⟩
  simp only [State.effectAt, shuttleWritten, if_neg hlock, if_neg hbind, sidePart_sideOffset hk (by decide : 0 < 0x80), if_true]

theorem effectAt_txSend (hsend : bitOf v 0 = true) :
    State.effectAt m ⟨.shuttle, c / 4⟩ (sideOffset c k 4) old v s = txCommitOrDrop c k s := by
  obtain ⟨hlock, hbind⟩ := sideOffset_command (c := c) (o := 4) hk (by decide) ⟨.shuttle, c / 4⟩
  simp only [State.effectAt, shuttleWritten, if_neg hlock, if_neg hbind, sidePart_sideOffset hk (by decide : 4 < 0x80), hsend, if_true]
  rfl

theorem effectAt_rxAck : State.effectAt m ⟨.shuttle, c / 4⟩ (sideOffset c k 0x20) old v s = rxAckOp c k (fieldOf v 15 0) s := by
  obtain ⟨hlock, hbind⟩ := sideOffset_command (c := c) (o := 0x20) hk (by decide) ⟨.shuttle, c / 4⟩
  simp only [State.effectAt, shuttleWritten, if_neg hlock, if_neg hbind, sidePart_sideOffset hk (by decide : 0x20 < 0x80)]
  rfl

/-- SIDE_CMD: FLUSH_RX, CLR_PEER_RESET and CLR_COUNTS (Table 16-5). -/
theorem effectAt_sideCmd {cmd code : Nat} (hcmd : cmd < 8) (hcode : code < 65536) :
    State.effectAt m ⟨.shuttle, c / 4⟩ (sideOffset c k 0x24) old (sideCommand cmd code) s =
      if cmd = 1 then flushRxOp c k code s else if cmd = 2 then clearPeerReset c k s else if cmd = 3 then s.setReg (rSideCnt c k) 0 else s := by
  obtain ⟨hlock, hbind⟩ := sideOffset_command (c := c) (o := 0x24) hk (by decide) ⟨.shuttle, c / 4⟩
  have hword : (sideCommand cmd code).toNat = code * 2 ^ 16 + cmd := by
    rw [sideCommand, BitVec.toNat_ofNat, place]
    omega
  have hop : fieldOf (sideCommand cmd code) 2 0 = cmd := by
    rw [fieldOf, hword, Nat.shiftRight_zero]
    omega
  have hvalue : fieldOf (sideCommand cmd code) 31 16 = code := by
    rw [fieldOf, hword, Nat.shiftRight_eq_div_pow]
    omega
  simp only [State.effectAt, shuttleWritten, if_neg hlock, if_neg hbind, sidePart_sideOffset hk (by decide : 0x24 < 0x80), hop, hvalue]
  interval_cases cmd <;> rfl

end

/-- An accepted write of a side's register. -/
theorem side_access {m : Nat} {c : Fin 256} {k o : Nat} {v : Word} {s : State} {f : State → State}
    (ha : s.Accepts m ⟨.shuttle, c / 4⟩ (sideOffset c k o) v) (hk : k < 2) (ho : o < 0x80) (h4 : o % 4 = 0)
    (heffect : ∀ old u, State.effectAt m ⟨.shuttle, c / 4⟩ (sideOffset c k o) old v u = f u) :
    access (busWrite m (sideBase c k + o) 15 v) s =
      (f (s.recorded m ⟨.shuttle, c / 4⟩ (sideOffset c k o) v)).done m ⟨.shuttle, c / 4⟩ (sideOffset c k o) := by
  have hpage : c.val / 4 < 64 := by omega
  rw [← regAddr_sideOffset]
  exact access_effect (by decide) ha hpage (sideOffset_lt hk ho) (by unfold sideOffset; omega) heffect

theorem side_read {m : Nat} {c : Fin 256} {k o : Nat} {s : State} (ha : s.AcceptsRead m ⟨.shuttle, c / 4⟩ (sideOffset c k o)) (hk : k < 2)
    (ho : o < 0x80) (h4 : o % 4 = 0) : access (busRead m (sideBase c k + o)) s =
      (readEffect m ⟨.shuttle, c / 4⟩ (sideOffset c k o) s.forgetAnswer).1.readDone m ⟨.shuttle, c / 4⟩ (sideOffset c k o)
        (readEffect m ⟨.shuttle, c / 4⟩ (sideOffset c k o) s.forgetAnswer).2 := by
  have hpage : c.val / 4 < 64 := by omega
  rw [← regAddr_sideOffset]
  exact access_read_plain (by decide) ha hpage (sideOffset_lt hk ho) (by unfold sideOffset; omega)

/-! Frames. -/

/-- The record of a write of a SHUTTLE register leaves every direction as it is. -/
theorem recorded_sh {m n off : Nat} {v : Word} {s : State} (a b : Nat) : (s.recorded m ⟨.shuttle, n⟩ off v).sh a b = s.sh a b := by
  rw [recorded_frame (p := ⟨.shuttle, n⟩) (fun h => by cases h) rfl]
  rfl

theorem recorded_shuttles {m n off : Nat} {v : Word} {s : State} : (s.recorded m ⟨.shuttle, n⟩ off v).shuttles = s.shuttles := by
  rw [recorded_frame (p := ⟨.shuttle, n⟩) (fun h => by cases h) rfl]

/-- A write that changes registers and directions. -/
theorem State.done_frame_shuttles {s u : State} (m : Nat) (p : Page) (off : Nat)
    (h : u = { s with regs := u.regs, ev := u.ev, log := u.log, shuttles := u.shuttles, resp := {} }) : let t := u.done m p off
    t = { s with regs := t.regs, ev := t.ev, log := t.log, shuttles := t.shuttles, resp := t.resp, jtag := { s.jtag with out := t.jtag.out } } := by
  obtain ⟨r, e, l, d, rfl⟩ : ∃ r e l d, u = { s with regs := r, ev := e, log := l, shuttles := d, resp := {} } := ⟨_, _, _, _, h⟩
  dsimp only
  rw [State.done_rest]

theorem State.done_sh (u : State) (m : Nat) (p : Page) (off a b : Nat) : (u.done m p off).sh a b = u.sh a b :=
  State.done_keeps (fun t => t.sh a b) (fun _ _ _ => rfl) u m p off

theorem State.shEvent_sh (s : State) (c d j a b : Nat) : (s.shEvent c d j).sh a b = s.sh a b :=
  State.raise_keeps (fun t => t.sh a b) (fun _ _ _ => rfl) _ _ _ _

theorem State.Canonical.shEvent {s : State} (hc : s.Canonical) (c d j : Nat) : (s.shEvent c d j).Canonical :=
  (State.shEvent_follows s c d j (Follows.refl s)).memory hc

theorem State.count_sh (s : State) (a hi lo n x y : Nat) : (s.count a hi lo n).sh x y = s.sh x y := rfl

end Sys2Proof.Machine
end

section
/-!
Shuttle bindings, and the commands of a side (R441 to R444, R453, R456, R458, R464).
-/

namespace Sys2Proof.Machine

/-! SH_BIND (R442). -/

/-- The place of a channel's SH_BIND in its page. -/
def bindOffset (c : Nat) : Nat := 0x100 + 0x200 * (c % 4)

section

variable {c : Nat}

theorem effectAt_bind {m : Nat} {old v : Word} {s : State} : State.effectAt m ⟨.shuttle, c / 4⟩ (bindOffset c) old v s = rebound c old s := by
  have hlock : ¬ (c / 4 = 0 ∧ bindOffset c = 0x040) := by unfold bindOffset; omega
  have hbind : 0x100 ≤ bindOffset c ∧ (bindOffset c - 0x100) % 0x200 = 0 := by unfold bindOffset; omega
  have hchan : 4 * (c / 4) + (bindOffset c - 0x100) / 0x200 = c := by unfold bindOffset; omega
  simp only [State.effectAt, shuttleWritten, if_neg hlock, if_pos hbind, hchan]

/-- SH_BIND reads as it is stored. -/
theorem view_bind {m : Nat} {s : State} : s.view m ⟨.shuttle, c / 4⟩ (bindOffset c) = s.reg (rShBind c) := by
  have hplace : (bindOffset c - 0x100) % 0x200 = 0 := by unfold bindOffset; omega
  have hhigh : ¬ bindOffset c < 0x100 := by unfold bindOffset; omega
  have hnone : s.shuttleView (c / 4) (bindOffset c) = none := by
    simp only [State.shuttleView, if_neg hhigh, hplace]
    rfl
  exact congrArg (fun o : Option Word => o.getD (s.reg (rShBind c))) hnone

/-- The counts of a side stand outside every other register that a write of SH_BIND reaches. -/
theorem sideCnt_apart (k : Nat) : rSideCnt c k ≠ Page.base ⟨.shuttle, c / 4⟩ + bindOffset c ∧
    rSideCnt c k ≠ Page.base ⟨.shuttle, c / 4⟩ + 0x028 ∧ rSideCnt c k ≠ regAddr .log 0 0x014 ∧ rSideCnt c k ≠ regAddr .event 0 0x048 := by
  simp only [rSideCnt, sideBase, chanBase, regAddr, Page.base, PageKind.info, bindOffset]
  omega

end

theorem recorded_sideCnt {m : Nat} {c : Fin 256} {v : Word} {s : State} (hc : s.Canonical) (k : Nat) :
    (s.recorded m ⟨.shuttle, c / 4⟩ (bindOffset c) v).reg (rSideCnt c k) = s.reg (rSideCnt c k) := by
  obtain ⟨hbind, hchg, hlog, hevent⟩ := sideCnt_apart (c := c.val) k
  have hpage : c.val / 4 < 64 := by omega
  exact (recorded_regs (p := ⟨.shuttle, c / 4⟩) hc (fun h => by cases h) (by unfold bindOffset; omega) rfl (by unfold bindOffset; omega) hpage).2 _
    hbind hchg hlog hevent

theorem shBind_next (m : Master) (c : Fin 256) (v : Word) (s : State) (ha : s.Accepts m.id ⟨.shuttle, c / 4⟩ (bindOffset c) v) :
    exec (.shBind m c v) s = .next ((rebound c (s.reg (rShBind c)) (s.recorded m.id ⟨.shuttle, c / 4⟩ (bindOffset c) v)).done m.id
      ⟨.shuttle, c / 4⟩ (bindOffset c)) := by
  have hpage : c.val / 4 < 64 := by omega
  have hwrite := access_write_plain (by decide) ha hpage (by unfold bindOffset; omega) (by unfold bindOffset; omega)
  rw [recorded_begun (fun h => by cases h), effectAt_bind, view_bind] at hwrite
  exact congrArg Host.Outcome.next hwrite

theorem rebound_empties {s : State} (hc : s.Canonical) {c : Nat} {before : Word} (h : s.reg (rShBind c) ≠ before) : let t := rebound c before s
    t.sh c 0 = {} ∧ t.sh c 1 = {} ∧ (∀ k j, j < 2 → k ≠ c → t.sh k j = s.sh k j) ∧ t = { s with shuttles := t.shuttles } := by
  have hempty : rebound c before s = (s.setSh c 0 {}).setSh c 1 {} := if_neg h
  have hfirst : (s.setSh c 0 {}).Canonical := hc.setSh _ _ _
  have hsh (k j : Nat) : ((s.setSh c 0 {}).setSh c 1 {}).sh k j =
      if 2 * k + j = 2 * c + 1 then {} else if 2 * k + j = 2 * c + 0 then {} else s.sh k j := by
    rw [State.sh_setSh hfirst, State.sh_setSh hc]
  dsimp only
  rw [hempty]
  refine ⟨?_, ?_, fun k j hj hk => ?_, rfl⟩
  · rw [hsh, if_neg (by omega), if_pos rfl]
  · rw [hsh, if_pos rfl]
  · rw [hsh, if_neg (by omega), if_neg (by omega)]

theorem rebound_reg (c : Nat) (before : Word) (s : State) (a : Nat) : (rebound c before s).reg a = s.reg a := by
  unfold rebound
  split <;> rfl

/-! SH_BIND_LOCK (R444). -/

/-- One PAGE_LOCK of a SHUTTLE page is set. -/
def State.pageLocked (s : State) (k : Nat) : State := s.setBit (regAddr .shuttle k 0x030) 0 true

theorem pageLocked_reg (s : State) (k : Nat) {a : Nat} (h : a ≠ regAddr .shuttle k 0x030) : (s.pageLocked k).reg a = s.reg a :=
  State.reg_setFld_other s _ _ _ h

theorem lockBindings_sets {s : State} (hc : s.Canonical) : let t := s.lockBindingsOp
    t.bit (regAddr .shuttle 0 0x040) 0 = true ∧ (∀ k < 64, t.bit (regAddr .shuttle k 0x030) 0 = true) ∧ t = { s with regs := t.regs } := by
  have heq : s.lockBindingsOp = (List.range 64).foldl State.pageLocked (s.setBit (regAddr .shuttle 0 0x040) 0 true) := rfl
  have hfirst : (s.setBit (regAddr .shuttle 0 0x040) 0 true).Canonical := hc.setReg _ _
  have hlock := State.bit_setBit hc (regAddr .shuttle 0 0x040) 0 true (by decide)
  have hcommand : ∀ l : List Nat, ∀ u : State, u.reg (regAddr .shuttle 0 0x040) = (s.setBit (regAddr .shuttle 0 0x040) 0 true).reg (regAddr .shuttle 0 0x040) →
      (l.foldl State.pageLocked u).reg (regAddr .shuttle 0 0x040) = (s.setBit (regAddr .shuttle 0 0x040) 0 true).reg (regAddr .shuttle 0 0x040) := by
    intro l
    induction l with
    | nil => exact fun _ h => h
    | cons k l ih => exact fun u h => ih _ ((pageLocked_reg u k (regAddr_ne (by decide) (by decide) (by decide))).trans h)
  dsimp only
  rw [heq]
  refine ⟨?_, fun k hk => ?_, ?_⟩
  · rw [State.bit, hcommand _ _ rfl]
    exact hlock
  · refine foldl_establishes (P := fun t k => t.bit (regAddr .shuttle k 0x030) 0 = true) (fun t k ht => ht.setReg _ _)
      (fun t k ht => State.bit_setBit ht _ _ _ (by decide)) (fun t k j ht h => ?_) (List.range 64) hfirst k (Or.inl (List.mem_range.mpr hk))
    by_cases hjk : j = k
    · exact hjk ▸ State.bit_setBit ht _ _ _ (by decide)
    · have hne : regAddr .shuttle j 0x030 ≠ regAddr .shuttle k 0x030 := by
        unfold regAddr
        omega
      exact (congrArg (fun w => bitOf w 0) (pageLocked_reg t k hne)).trans h
  · exact foldl_related (R := fun s t => t = { s with regs := t.regs }) (fun h k => by rw [k, h]) (fun t k => rfl) _ rfl

theorem shBindLock_next (m : Master) (v : Word) (s : State) (hc : s.Canonical) (ha : s.Accepts m.id ⟨.shuttle, 0⟩ 0x040 v)
    (hbit : bitOf v 0 = true) : ∃ t, exec (.shBindLock m v) s = .next t ∧ t.bit (regAddr .shuttle 0 0x040) 0 = true ∧
      (∀ k < 64, t.bit (regAddr .shuttle k 0x030) 0 = true) ∧ t.resp.code = 0 ∧
      t = { s with regs := t.regs, ev := t.ev, log := t.log, resp := t.resp, jtag := { s.jtag with out := t.jtag.out } } := by
  have heffect (old : Word) (u : State) : State.effectAt m.id ⟨.shuttle, 0⟩ 0x040 old v u = u.lockBindingsOp := by
    simp only [State.effectAt, shuttleWritten, hbit, and_self, if_true]
  have hwrite := access_effect (by decide) ha (by decide) (by decide) (by decide) heffect
  obtain ⟨hcommand, hpages, hframe⟩ := lockBindings_sets (hc.recorded (m := m.id) (p := ⟨.shuttle, 0⟩) (off := 0x040) (v := v) (fun h => by cases h))
  refine ⟨_, congrArg Host.Outcome.next hwrite, (State.done_bit _ _ _ _ _ _).trans hcommand,
    fun k hk => (State.done_bit _ _ _ _ _ _).trans (hpages k hk), State.done_code _ _ _ _, State.done_frame _ _ _ ?_⟩
  rw [hframe, recorded_frame (p := ⟨.shuttle, 0⟩) (fun h => by cases h) rfl]

/-! The commands of a side. -/

theorem ackExpire_due {c k t due : Nat} {g : ShMsg} {rest : List ShMsg} {s : State} (hmsgs : (s.sh c k).msgs = g :: rest) (hdue : g.due = some due)
    (hlate : due ≤ t) (hopen : g.acked = false) (ht : s.now ≤ t) : ackExpire c k t s =
      (((({ s with now := t } : State).setSh c k { s.sh c k with msgs := { g with acked := true, due := none } :: rest }).count
        (rSideCnt c k) 23 16 1).deviceAck c k g.seq 0xFFFE) := by
  have hwaits : ¬ (t < due ∨ g.acked = true) := by
    rw [hopen]
    exact fun h => h.elim (Nat.not_lt.mpr hlate) Bool.false_ne_true
  simp only [ackExpire, hmsgs, hdue, if_neg hwaits, at_eq ht]

theorem clearPeerReset_sh {s : State} (hc : s.Canonical) {c k : Nat} (hk : k < 2) :
    (clearPeerReset c k s).sh c k = { s.sh c k with peerReset := false } ∧
      (clearPeerReset c k s).sh c (1 - k) = { s.sh c (1 - k) with rxPeerReset := false } := by
  have hfirst : (s.setSh c k { s.sh c k with peerReset := false }).Canonical := hc.setSh _ _ _
  have hother : 2 * c + k ≠ 2 * c + (1 - k) := by omega
  unfold clearPeerReset
  dsimp only
  refine ⟨?_, ?_⟩
  · rw [State.sh_setSh hfirst, if_neg hother, State.sh_setSh hc, if_pos rfl]
  · rw [State.sh_setSh hfirst, if_pos rfl, State.sh_setSh hc, if_neg hother.symm]

/-! FLUSH_RX (R458). -/

/-- A device acknowledge finds room: it is queued. -/
theorem deviceAck_room {s : State} (hc : s.Canonical) {c k : Nat} (hnone : (s.sh c k).waiting = []) (hroom : (s.sh c k).acks.length < 4)
    (seq code : Nat) : let t := s.deviceAck c k seq code
    t.Canonical ∧ t.sh c k = { s.sh c k with acks := (s.sh c k).acks ++ [(seq, code)] } ∧
      ∀ a, a ∉ eventRegisters ⟨.shuttle, c / 4⟩ → t.reg a = s.reg a := by
  have hwait : (s.setSh c k { s.sh c k with waiting := [(seq, code)] }).Canonical := hc.setSh _ _ _
  have hshown : (s.setSh c k { s.sh c k with waiting := [(seq, code)] }).sh c k = { s.sh c k with waiting := [(seq, code)] } :=
    State.sh_setSh_same _ _ _ _ (SMap.wf_sorted hc.shuttles)
  have hstep : s.deviceAck c k seq code = ((s.setSh c k { s.sh c k with waiting := [(seq, code)] }).setSh c k
      { s.sh c k with acks := (s.sh c k).acks ++ [(seq, code)], waiting := [] }).shEvent c k 1 := by
    simp only [State.deviceAck, hnone, List.nil_append, State.drainAcks, hshown, if_pos hroom]
  dsimp only
  rw [hstep]
  refine ⟨(hwait.setSh _ _ _).shEvent _ _ _, ?_, fun a ha => State.raise_reg _ _ _ _ ha⟩
  rw [State.shEvent_sh, State.sh_setSh hwait, if_pos rfl, ← hnone]

/-- Messages that wait for their acknowledge get one each, in their order. -/
theorem deviceAcks_room {c k d code : Nat} (msgs : List ShMsg) : ∀ {s : State}, s.Canonical → (∀ g ∈ msgs, g.old = false ∧ g.acked = false) →
    (s.sh c k).waiting = [] → (s.sh c k).acks.length + msgs.length ≤ 4 →
    let t := msgs.foldl (fun st m => if m.acked then st else if m.old then st.ackDropped c d 1 else st.deviceAck c k m.seq code) s
    t.Canonical ∧ t.sh c k = { s.sh c k with acks := (s.sh c k).acks ++ msgs.map (fun g => (g.seq, code)) } ∧
      ∀ a, a ∉ eventRegisters ⟨.shuttle, c / 4⟩ → t.reg a = s.reg a := by
  induction msgs with
  | nil =>
    intro s hc _ _ _
    exact ⟨hc, by rw [List.map_nil, List.append_nil]; rfl, fun _ _ => rfl⟩
  | cons g msgs ih =>
    intro s hc hopen hnone hroom
    obtain ⟨hold, hacked⟩ := hopen g (List.mem_cons_self ..)
    rw [List.length_cons] at hroom
    obtain ⟨hcan, hsh, hregs⟩ := deviceAck_room hc hnone (by omega) g.seq code
    obtain ⟨htcan, htsh, htregs⟩ := ih hcan (fun g hg => hopen g (List.mem_cons_of_mem _ hg)) (by rw [hsh]; exact hnone)
      (by rw [hsh, List.length_append, List.length_singleton]; omega)
    simp only [List.foldl_cons, hacked, hold, Bool.false_eq_true, if_false]
    refine ⟨htcan, htsh.trans ?_, fun a ha => (htregs a ha).trans (hregs a ha)⟩
    rw [hsh]
    simp only [List.map_cons, List.append_assoc, List.singleton_append]

theorem flushRx_acknowledges {c k code : Nat} {s : State} (hc : s.Canonical)
    (hopen : ∀ g ∈ (s.sh c (1 - k)).msgs, g.old = false ∧ g.acked = false) (hacks : (s.sh c (1 - k)).acks = [])
    (hnone : (s.sh c (1 - k)).waiting = []) (hroom : (s.sh c (1 - k)).msgs.length ≤ 4) : let t := flushRxOp c k code s
    (t.sh c (1 - k)).msgs = [] ∧ (t.sh c (1 - k)).acks = (s.sh c (1 - k)).msgs.map (fun g => (g.seq, code)) ∧
      t.fld (rSideCnt c k) 7 0 = min 255 (s.fld (rSideCnt c k) 7 0 + (s.sh c (1 - k)).msgs.length) := by
  have hemptied : (s.setSh c (1 - k) { s.sh c (1 - k) with msgs := [] }).sh c (1 - k) = { s.sh c (1 - k) with msgs := [] } :=
    State.sh_setSh_same _ _ _ _ (SMap.wf_sorted hc.shuttles)
  obtain ⟨hcan, hsh, hregs⟩ := deviceAcks_room (c := c) (k := 1 - k) (d := k) (code := code) (s.sh c (1 - k)).msgs
    (hc.setSh c (1 - k) { s.sh c (1 - k) with msgs := [] }) hopen (by rw [hemptied]; exact hnone)
    (by rw [hemptied, hacks]; simpa using hroom)
  have hcount : rSideCnt c k ∉ eventRegisters ⟨.shuttle, c / 4⟩ := by
    simp only [eventRegisters, List.mem_cons, List.not_mem_nil, or_false, rSideCnt, sideBase, chanBase, regAddr, Page.base, PageKind.info]
    omega
  dsimp only at hsh hregs hcan
  unfold flushRxOp
  dsimp only
  refine ⟨?_, ?_, ?_⟩
  · rw [State.count_sh, hsh, hemptied]
  · rw [State.count_sh, hsh, hemptied, hacks, List.nil_append]
  · rw [State.fld_count hcan _ _ (by decide) (by decide), State.fld, hregs _ hcount]
    rfl

/-- The place of SIDE_CMD. -/
theorem sideCmd_offset (c k : Nat) : 0x164 + 0x200 * (c % 4) + 0x80 * k = sideOffset c k 0x24 := by
  unfold sideOffset
  omega

/-- Settles O43: a binding by whether it changes, a command of a side by its accepted write. -/
theorem bindingsAndSidesComplete : Obligations.BindingsAndSidesComplete := by
  refine ⟨⟨fun m c v s hc => ?bind, shBindLock_next⟩, fun c d t due g rest s hmsgs hdue hlate hopen ht => ?timeout, fun m c d code s hc => ?commands,
    fun c k code s hc _ hopen hacks hnone hroom => flushRx_acknowledges hc hopen hacks hnone hroom⟩
  case bind =>
    intro p off u ha
    have hnext : exec (.shBind m c v) s = .next ((rebound c (s.reg (rShBind c)) u).done m.id p off) := shBind_next m c v s ha
    have hrecord : u = { s with regs := u.regs, ev := u.ev, log := u.log, resp := {} } := recorded_frame (fun h => by cases h) rfl
    have hcan : u.Canonical := hc.recorded (fun h => by cases h)
    refine ⟨fun hsame => ?_, fun hchanged => ?_⟩
    · rw [rebound, if_pos hsame] at hnext
      exact hnext
    · obtain ⟨h0, h1, hothers, hframe⟩ := rebound_empties hcan hchanged
      have hcounts (k : Nat) : (rebound c (s.reg (rShBind c)) u).reg (rSideCnt c k) = s.reg (rSideCnt c k) :=
        (rebound_reg _ _ _ _).trans (recorded_sideCnt hc k)
      refine ⟨_, hnext, (State.done_sh _ _ _ _ _ _).trans h0, (State.done_sh _ _ _ _ _ _).trans h1,
        fun k j hj hk => ((State.done_sh _ _ _ _ _ _).trans (hothers k j hj hk)).trans (recorded_sh k j),
        (State.done_reg _ _ _ _ _).trans (hcounts 0), (State.done_reg _ _ _ _ _).trans (hcounts 1),
        State.done_frame_shuttles _ _ _ ?_⟩
      rw [hframe, hrecord]
  case timeout => exact congrArg (fun u : State => Host.Outcome.next u.follow) (ackExpire_due hmsgs hdue hlate hopen ht)
  case commands =>
    intro p k off
    have hk := sideNo_lt d
    have hoff : off = sideOffset c k 0x24 := sideCmd_offset _ _
    rw [hoff]
    refine ⟨fun ha => ?flush, fun ha => ?peer, fun ha => ?counts⟩
    case flush =>
      have hwrite := side_access (f := flushRxOp c k code.toNat) ha hk (by decide) (by decide) (fun _ _ =>
        (effectAt_sideCmd hk (by decide) code.isLt).trans (if_pos rfl))
      exact congrArg Host.Outcome.next hwrite
    case peer =>
      have hwrite := side_access (f := clearPeerReset c k) ha hk (by decide) (by decide) (fun _ _ =>
        (effectAt_sideCmd hk (by decide) (by decide)).trans ((if_neg (by decide)).trans (if_pos rfl)))
      obtain ⟨hmine, hother⟩ := clearPeerReset_sh (hc.recorded (m := m.id) (p := p) (off := sideOffset c k 0x24) (v := sideCommand 2 0)
        (fun h => by cases h)) (c := c) hk
      refine ⟨_, congrArg Host.Outcome.next hwrite, State.done_code _ _ _ _, ?_, ?_⟩
      · rw [State.done_sh, hmine, recorded_sh]
      · rw [State.done_sh, hother, recorded_sh]
    case counts =>
      have hwrite := side_access (f := fun u => u.setReg (rSideCnt c k) 0) ha hk (by decide) (by decide) (fun _ _ =>
        (effectAt_sideCmd hk (by decide) (by decide)).trans ((if_neg (by decide)).trans ((if_neg (by decide)).trans (if_pos rfl))))
      obtain ⟨hcode, hzero, -, hframe⟩ := cleared_done (k := .shuttle) (n := c / 4) (m := m.id) (off := sideOffset c k 0x24) (v := sideCommand 3 0)
        hc (fun h => by cases h) rfl [rSideCnt c k]
      exact ⟨_, congrArg Host.Outcome.next hwrite, hzero _ (List.mem_cons_self ..), hcode, hframe⟩

end Sys2Proof.Machine
end

section
/-!
Sending, receiving and acknowledging messages of a shuttle (R447 to R452).
-/

namespace Sys2Proof.Machine

/-! Reads of a side's registers. -/

section

variable {m c k : Nat} {s : State} (hk : k < 2)

include hk

theorem readEffect_txCommit : readEffect m ⟨.shuttle, c / 4⟩ (sideOffset c k 0x08) s = (txCommitOrDrop c k s, s.commitResult c k) := by
  simp only [readEffect, sidePart_sideOffset hk (by decide : 0x08 < 0x80), if_true]

theorem readEffect_ackCode : readEffect m ⟨.shuttle, c / 4⟩ (sideOffset c k 0x14) s = ((ackPop c k s).1.follow, (ackPop c k s).2) := by
  simp only [readEffect, sidePart_sideOffset hk (by decide : 0x14 < 0x80)]
  rfl

theorem readEffect_rxData : readEffect m ⟨.shuttle, c / 4⟩ (sideOffset c k 0x18) s = rxNext c k s := by
  simp only [readEffect, sidePart_sideOffset hk (by decide : 0x18 < 0x80)]
  rfl

end

/-! Sending. -/

section

variable {c k : Nat} {s : State}

theorem txAppend_kept (w : Word) (h : (s.sh c k).reject = false) : txAppend c k w s =
    s.setSh c k { s.sh c k with accum := (s.sh c k).accum ++ [w], lenWritten := min 15 ((s.sh c k).lenWritten + 1) } := by
  simp only [txAppend, h, Bool.false_eq_true, if_false]
  rfl

theorem txAppend_dropped (w : Word) (h : (s.sh c k).reject = true) : txAppend c k w s =
    s.setSh c k { s.sh c k with lenWritten := min 15 ((s.sh c k).lenWritten + 1) } := by
  simp only [txAppend, h, if_true]
  rfl

theorem txCommitOrDrop_discards (h : (s.sh c k).reject = true) :
    txCommitOrDrop c k s = s.setSh c k { s.sh c k with accum := [], reject := false, lenWritten := 0 } := if_pos h

theorem txCommitOrDrop_empty (h : (s.sh c k).reject = false) (hempty : (s.sh c k).accum = []) : txCommitOrDrop c k s = s :=
  (if_neg (by rw [h]; exact Bool.false_ne_true)).trans (if_pos hempty)

theorem txCommitOrDrop_commits (h : (s.sh c k).reject = false) (hfull : (s.sh c k).accum ≠ []) : txCommitOrDrop c k s = s.commitMsg c k :=
  (if_neg (by rw [h]; exact Bool.false_ne_true)).trans (if_neg hfull)

/-- The word of TX_COMMIT, by what became of the message. -/
theorem commitResult_eq {result : Nat} (h : (if (s.sh c k).reject then 2 else if (s.sh c k).accum = [] then 0 else 1) = result) :
    s.commitResult c k = BitVec.ofNat 32 (place result 30 + place (s.sh c k).seq 15 + (s.sh c k).lenWritten) := by
  simp only [State.commitResult, h]

/-! A committed message. -/

/-- The state of a direction whose accumulated words have become its last message. -/
def ShDir.committed (v : ShDir) (now : Nat) (due : Option Nat) : ShDir :=
  { v with accum := [], lenWritten := 0, seq := (v.seq + 1) % 32768, msgs := v.msgs ++ [⟨v.seq, v.accum, 0, false, false, due, now⟩] }

theorem startHead_reg (a : Nat) : (s.startHead c k).reg a = s.reg a := by
  unfold State.startHead
  dsimp only
  split
  · rfl
  · split <;> rfl

/-- The timer of the only message starts (R453). -/
theorem startHead_committed (hc : s.Canonical) (hnone : (s.sh c k).msgs = []) : ∃ due,
    ((s.setSh c k ((s.sh c k).committed s.now none)).startHead c k).sh c k = (s.sh c k).committed s.now due := by
  have hcan : (s.setSh c k ((s.sh c k).committed s.now none)).Canonical := hc.setSh _ _ _
  have hsh : (s.setSh c k ((s.sh c k).committed s.now none)).sh c k = (s.sh c k).committed s.now none :=
    State.sh_setSh_same _ _ _ _ (SMap.wf_sorted hc.shuttles)
  have hmsgs : ((s.sh c k).committed s.now none).msgs = [⟨(s.sh c k).seq, (s.sh c k).accum, 0, false, false, none, s.now⟩] := by
    rw [ShDir.committed, hnone, List.nil_append]
  unfold State.startHead
  simp only [hsh, hmsgs]
  split
  · exact ⟨none, hsh⟩
  · refine ⟨some (s.now + 1000 * s.fld (rTxCfg c k) 15 0), (State.sh_setSh_same _ _ _ _ (SMap.wf_sorted hcan.shuttles)).trans ?_⟩
    rw [ShDir.committed, ShDir.committed, hnone]
    rfl

/-- A wake source that abandons no entry into SLEEP leaves the shuttles alone (R526). -/
theorem wakeSource_shuttles {j : Nat} (h : s.pwrState ≠ pwrEntering) : (s.wakeSource j).shuttles = s.shuttles := by
  unfold State.wakeSource
  dsimp only
  rw [if_neg h]
  split
  · rfl
  · split
    · rfl
    · split <;> rfl

theorem commitMsg_sh (hc : s.Canonical) (hawake : s.pwrState ≠ pwrEntering) : ∃ due,
    (s.commitMsg c k).sh c k = (s.sh c k).committed s.now due := by
  obtain ⟨u, due, hu, hsh, hregs⟩ : ∃ u due, u = (if (s.sh c k).msgs = [] then (s.setSh c k ((s.sh c k).committed s.now none)).startHead c k
      else s.setSh c k ((s.sh c k).committed s.now none)) ∧ u.sh c k = (s.sh c k).committed s.now due ∧ ∀ a, u.reg a = s.reg a := by
    by_cases hnone : (s.sh c k).msgs = []
    · obtain ⟨due, hdue⟩ := startHead_committed hc hnone
      exact ⟨_, due, (if_pos hnone).symm, hdue, fun a => startHead_reg a⟩
    · exact ⟨_, none, (if_neg hnone).symm, State.sh_setSh_same _ _ _ _ (SMap.wf_sorted hc.shuttles), fun a => rfl⟩
  have hpower : (u.shEvent c (1 - k) 0).pwrState ≠ pwrEntering := by
    have hreg : (u.shEvent c (1 - k) 0).reg rPwrState = s.reg rPwrState :=
      (State.raise_reg _ _ _ _ (by
        simp only [eventRegisters, List.mem_cons, List.not_mem_nil, or_false, rPwrState, regAddr, Page.base, PageKind.info]
        omega)).trans (hregs _)
    rw [State.pwrState, State.fld, hreg]
    exact hawake
  have hcommit : s.commitMsg c k = (let t := u.shEvent c (1 - k) 0
      let peer := t.sideId c (1 - k)
      if peer = 0 ∨ peer = 1 ∨ peer = 8 then t.wakeSource 2 else t) := by rw [hu]; rfl
  refine ⟨due, ?_⟩
  rw [hcommit]
  dsimp only
  split
  · rw [State.sh, wakeSource_shuttles hpower]
    exact (State.shEvent_sh _ _ _ _ _ _).trans hsh
  · exact (State.shEvent_sh _ _ _ _ _ _).trans hsh

/-! Receiving. -/

theorem rxNext_word {g : ShMsg} {rest : List ShMsg} {w : Word} (hmsgs : (s.sh c (1 - k)).msgs = g :: rest) (hword : g.words[g.read]? = some w) :
    rxNext c k s = (s.setSh c (1 - k) { s.sh c (1 - k) with msgs := { g with read := g.read + 1 } :: rest }, w) := by
  simp only [rxNext, hmsgs, hword]

/-- With no message, or past its end, RX_DATA reads 0. -/
theorem rxNext_none (h : (s.sh c (1 - k)).msgs = [] ∨ ∃ g rest, (s.sh c (1 - k)).msgs = g :: rest ∧ g.words.length ≤ g.read) :
    rxNext c k s = (s, 0) := by
  rcases h with hnone | ⟨g, rest, hmsgs, hend⟩
  · simp only [rxNext, hnone]
  · simp only [rxNext, hmsgs, List.getElem?_eq_none hend]

theorem space_read {v : ShDir} {g : ShMsg} {rest : List ShMsg} (h : v.msgs = g :: rest) (n : Nat) :
    ({ v with msgs := { g with read := n } :: rest } : ShDir).space = v.space := by
  simp only [ShDir.space, ShDir.held, h, List.map_cons]

theorem rxAckOp_head {g : ShMsg} {rest : List ShMsg} (hmsgs : (s.sh c (1 - k)).msgs = g :: rest) (hacked : g.acked = false) (hold : g.old = false)
    (code : Nat) : rxAckOp c k code s = (((s.setSh c (1 - k)
      { s.sh c (1 - k) with msgs := rest, ackReject := false, acks := (s.sh c (1 - k)).acks ++ [(g.seq, code)] }).shEvent c (1 - k) 1).startHead c
        (1 - k)) := by
  simp only [rxAckOp, hmsgs, hacked, hold, Bool.or_self, Bool.false_eq_true, if_false]

theorem rxAckOp_dropped {g : ShMsg} {rest : List ShMsg} (hmsgs : (s.sh c (1 - k)).msgs = g :: rest) (h : g.acked = true ∨ g.old = true)
    (code : Nat) : rxAckOp c k code s = (((s.setSh c (1 - k) { s.sh c (1 - k) with msgs := rest, ackReject := false }).count (rSideCnt c k)
      31 24 1).startHead c (1 - k)) := by
  have hany : (g.acked || g.old) = true := (Bool.or_eq_true _ _).mpr h
  simp only [rxAckOp, hmsgs, hany, if_true]
  rfl

theorem ackPop_none (h : (s.sh c k).acks = []) : ackPop c k s = (s, 0) := by simp only [ackPop, h]

theorem ackPop_oldest {seq code : Nat} {rest : List (Nat × Nat)} (h : (s.sh c k).acks = (seq, code) :: rest) : ackPop c k s =
    (State.drainAcks 1 (s.setSh c k { s.sh c k with acks := rest }) c k, BitVec.ofNat 32 (place 1 31 + place seq 16 + code)) := by
  simp only [ackPop, h]

end

/-! The clauses of the statement. -/

section

variable (m : Master) (c : Fin 256) (d : Side) (v : Word) (s : State)

theorem State.setSh_other (s : State) (c k : Nat) (w : ShDir) {j : Nat} (hj : j ≠ 2 * c + k) :
    SMap.get {} (s.setSh c k w).shuttles j = SMap.get {} s.shuttles j := SMap.get_set_other _ _ _ _ hj

/-- A word of a sender changes its direction alone. -/
theorem txData_next (hc : s.Canonical) (w : ShDir) (ha : s.Accepts m.id ⟨.shuttle, c / 4⟩ (sideOffset c (sideNo d) 0) v)
    (happend : ∀ u : State, u.sh c (sideNo d) = s.sh c (sideNo d) → txAppend c (sideNo d) v u = u.setSh c (sideNo d) w) :
    ∃ t, exec (.txData m c d v) s = .next t ∧ t.sh c (sideNo d) = w ∧
      (∀ j, j ≠ 2 * c.val + sideNo d → SMap.get {} t.shuttles j = SMap.get {} s.shuttles j) ∧ t.resp.code = 0 ∧
      t = { s with regs := t.regs, ev := t.ev, log := t.log, shuttles := t.shuttles, resp := t.resp, jtag := { s.jtag with out := t.jtag.out } } := by
  have hwrite := side_access ha (sideNo_lt d) (by decide) (by decide) (fun _ _ => effectAt_txData (sideNo_lt d))
  rw [happend _ (recorded_sh _ _)] at hwrite
  have hframe := recorded_frame (s := s) (m := m.id) (p := ⟨.shuttle, c / 4⟩) (off := sideOffset c (sideNo d) 0) (v := v) (fun h => by cases h) rfl
  have hcan : (s.recorded m.id ⟨.shuttle, c / 4⟩ (sideOffset c (sideNo d) 0) v).Canonical := hc.recorded (fun h => by cases h)
  have hexec : exec (.txData m c d v) s = .next (access (busWrite m.id (sideBase c (sideNo d) + 0) 15 v) s) := rfl
  rw [hwrite] at hexec
  refine ⟨_, hexec, ?_, fun j hj => ?_, State.done_code _ _ _ _, State.done_frame_shuttles _ _ _ ?_⟩
  · rw [State.done_sh]
    exact State.sh_setSh_same _ _ _ _ (SMap.wf_sorted hcan.shuttles)
  · refine (State.done_keeps (fun t => SMap.get {} t.shuttles j) (fun _ _ _ => rfl) _ _ _ _).trans ((State.setSh_other _ _ _ _ hj).trans ?_)
    rw [recorded_shuttles]
  · rw [hframe]
    rfl

theorem txSend_next (hsend : bitOf v 0 = true) (ha : s.Accepts m.id ⟨.shuttle, c / 4⟩ (sideOffset c (sideNo d) 4) v) :
    exec (.txSend m c d v) s = .next ((txCommitOrDrop c (sideNo d) (s.recorded m.id ⟨.shuttle, c / 4⟩ (sideOffset c (sideNo d) 4) v)).done m.id
      ⟨.shuttle, c / 4⟩ (sideOffset c (sideNo d) 4)) :=
  congrArg Host.Outcome.next (side_access ha (sideNo_lt d) (by decide) (by decide) (fun _ _ => effectAt_txSend (sideNo_lt d) hsend))

theorem txCommit_next (ha : s.AcceptsRead m.id ⟨.shuttle, c / 4⟩ (sideOffset c (sideNo d) 0x08)) : exec (.txCommit m c d) s = .next
    ((txCommitOrDrop c (sideNo d) s.forgetAnswer).readDone m.id ⟨.shuttle, c / 4⟩ (sideOffset c (sideNo d) 0x08)
      (s.forgetAnswer.commitResult c (sideNo d))) := by
  have hread := side_read ha (sideNo_lt d) (by decide) (by decide)
  rw [readEffect_txCommit (sideNo_lt d)] at hread
  exact congrArg Host.Outcome.next hread

theorem rxData_next (ha : s.AcceptsRead m.id ⟨.shuttle, c / 4⟩ (sideOffset c (sideNo d) 0x18)) : exec (.rxData m c d) s = .next
    ((rxNext c (sideNo d) s.forgetAnswer).1.readDone m.id ⟨.shuttle, c / 4⟩ (sideOffset c (sideNo d) 0x18)
      (rxNext c (sideNo d) s.forgetAnswer).2) := by
  have hread := side_read ha (sideNo_lt d) (by decide) (by decide)
  rw [readEffect_rxData (sideNo_lt d)] at hread
  exact congrArg Host.Outcome.next hread

theorem rxAck_next (ha : s.Accepts m.id ⟨.shuttle, c / 4⟩ (sideOffset c (sideNo d) 0x20) v) : exec (.rxAck m c d v) s = .next
    ((rxAckOp c (sideNo d) (fieldOf v 15 0) (s.recorded m.id ⟨.shuttle, c / 4⟩ (sideOffset c (sideNo d) 0x20) v)).done m.id
      ⟨.shuttle, c / 4⟩ (sideOffset c (sideNo d) 0x20)) :=
  congrArg Host.Outcome.next (side_access ha (sideNo_lt d) (by decide) (by decide) (fun _ _ => effectAt_rxAck (sideNo_lt d)))

theorem ackCode_next (ha : s.AcceptsRead m.id ⟨.shuttle, c / 4⟩ (sideOffset c (sideNo d) 0x14)) : exec (.ackCode m c d) s = .next
    ((ackPop c (sideNo d) s.forgetAnswer).1.follow.readDone m.id ⟨.shuttle, c / 4⟩ (sideOffset c (sideNo d) 0x14)
      (ackPop c (sideNo d) s.forgetAnswer).2) := by
  have hread := side_read ha (sideNo_lt d) (by decide) (by decide)
  rw [readEffect_ackCode (sideNo_lt d)] at hread
  exact congrArg Host.Outcome.next hread

theorem base_sideOffset (k o : Nat) : Page.base ⟨.shuttle, c / 4⟩ + sideOffset c k o = sideBase c k + o := regAddr_sideOffset c k o

/-- A word of the head message is read. -/
theorem rxData_word (hc : s.Canonical) (ha : s.AcceptsRead m.id ⟨.shuttle, c / 4⟩ (sideOffset c (sideNo d) 0x18)) {g : ShMsg} {rest : List ShMsg}
    {w : Word} (hmsgs : (s.sh c (1 - sideNo d)).msgs = g :: rest) (hword : g.words[g.read]? = some w) : ∃ t, exec (.rxData m c d) s = .next t ∧
      t.resp = ⟨m.id, false, sideBase c (sideNo d) + 0x18, [w], 0, .success⟩ ∧
      t.sh c (1 - sideNo d) = { s.sh c (1 - sideNo d) with msgs := { g with read := g.read + 1 } :: rest } ∧
      (t.sh c (1 - sideNo d)).space = (s.sh c (1 - sideNo d)).space ∧
      t = { s with shuttles := t.shuttles, resp := t.resp, jtag := { s.jtag with out := t.jtag.out } } := by
  have hnext := rxData_next m c d s ha
  rw [rxNext_word (s := s.forgetAnswer) hmsgs hword] at hnext
  dsimp only at hnext
  have hsh : (s.forgetAnswer.setSh c (1 - sideNo d) { s.sh c (1 - sideNo d) with msgs := { g with read := g.read + 1 } :: rest }).sh c (1 - sideNo d) =
      { s.sh c (1 - sideNo d) with msgs := { g with read := g.read + 1 } :: rest } :=
    State.sh_setSh_same s.forgetAnswer _ _ _ (SMap.wf_sorted hc.shuttles)
  have hshown := (State.readDone_keeps (fun t => t.sh c (1 - sideNo d)) (fun _ _ _ => rfl) (s.forgetAnswer.setSh c (1 - sideNo d)
    { s.sh c (1 - sideNo d) with msgs := { g with read := g.read + 1 } :: rest }) m.id ⟨.shuttle, c / 4⟩ (sideOffset c (sideNo d) 0x18) w).trans hsh
  refine ⟨_, hnext, ?_, hshown, (congrArg ShDir.space hshown).trans (space_read hmsgs _), ?_⟩
  · rw [State.readDone_resp, base_sideOffset]
  · rw [State.readDone_frame]
    rfl

theorem rxData_none (ha : s.AcceptsRead m.id ⟨.shuttle, c / 4⟩ (sideOffset c (sideNo d) 0x18))
    (h : (s.sh c (1 - sideNo d)).msgs = [] ∨ ∃ g rest, (s.sh c (1 - sideNo d)).msgs = g :: rest ∧ g.words.length ≤ g.read) :
    ∃ t, exec (.rxData m c d) s = .next t ∧ t.resp = ⟨m.id, false, sideBase c (sideNo d) + 0x18, [0], 0, .success⟩ ∧
      t = { s with resp := t.resp, jtag := { s.jtag with out := t.jtag.out } } := by
  have hnext := rxData_next m c d s ha
  rw [rxNext_none (s := s.forgetAnswer) h] at hnext
  refine ⟨_, hnext, ?_, State.readDone_quiet _ _ _ _ _⟩
  rw [State.readDone_resp, base_sideOffset]

end

/-- Settles O44: each command by its accepted access and by the state of its direction. -/
theorem sendersAndReceiversComplete : Obligations.SendersAndReceiversComplete := by
  refine ⟨fun m c d v s hc => ⟨fun ha => ?data, fun ha hsend => ?send, fun ha => ?commit⟩,
    fun m c d s hc => ⟨fun ha => ?receive, fun v g rest ha hmsgs => ?ack, fun ha => ?code⟩, fun c k s hc _ hawake => commitMsg_sh hc hawake⟩
  case data =>
    refine ⟨fun hkept => txData_next m c d v s hc _ ha fun u hu => ?_, fun hdropped => ?_⟩
    · rw [← hu]
      exact txAppend_kept v (by rw [hu]; exact hkept)
    · obtain ⟨t, hexec, hsh, -, -, hframe⟩ := txData_next m c d v s hc { s.sh c (sideNo d) with
          lenWritten := min 15 ((s.sh c (sideNo d)).lenWritten + 1) } ha fun u hu => by
        rw [← hu]
        exact txAppend_dropped v (by rw [hu]; exact hdropped)
      exact ⟨t, hexec, hsh, hframe⟩
  case send =>
    intro u
    have hu : u.sh c (sideNo d) = s.sh c (sideNo d) := recorded_sh _ _
    have hnext := txSend_next m c d v s hsend ha
    refine ⟨fun hdropped => hnext.trans ?_, fun hkept hfull => hnext.trans ?_⟩
    · rw [txCommitOrDrop_discards (by rw [recorded_sh]; exact hdropped), recorded_sh]
      rfl
    · rw [txCommitOrDrop_commits (by rw [recorded_sh]; exact hkept) (by rw [recorded_sh]; exact hfull)]
      rfl
  case commit =>
    intro u word done
    have hnext := txCommit_next m c d s ha
    refine ⟨fun hdropped => hnext.trans ?_, fun hkept hempty => hnext.trans ?_, fun hkept hfull => hnext.trans ?_⟩
    · rw [txCommitOrDrop_discards (s := s.forgetAnswer) hdropped, commitResult_eq (s := s.forgetAnswer) (if_pos hdropped)]
      rfl
    · rw [txCommitOrDrop_empty (s := s.forgetAnswer) hkept hempty,
        commitResult_eq (s := s.forgetAnswer) ((if_neg (ne_true_of_eq_false hkept)).trans (if_pos hempty))]
      rfl
    · rw [txCommitOrDrop_commits (s := s.forgetAnswer) hkept hfull,
        commitResult_eq (s := s.forgetAnswer) ((if_neg (ne_true_of_eq_false hkept)).trans (if_neg hfull))]
      rfl
  case receive =>
    exact ⟨fun g rest w hmsgs hword => rxData_word m c d s hc ha hmsgs hword, fun h => rxData_none m c d s ha h⟩
  case ack =>
    intro u y
    have hnext := rxAck_next m c d v s ha
    have hu : (s.recorded m.id ⟨.shuttle, c / 4⟩ (sideOffset c (sideNo d) 0x20) v).sh c (1 - sideNo d) = s.sh c (1 - sideNo d) := recorded_sh _ _
    refine ⟨fun hacked hold => hnext.trans ?_, fun h => hnext.trans ?_⟩
    · rw [rxAckOp_head (by rw [hu]; exact hmsgs) hacked hold, hu]
      rfl
    · rw [rxAckOp_dropped (by rw [hu]; exact hmsgs) h, hu]
      rfl
  case code =>
    have hnext := ackCode_next m c d s ha
    refine ⟨fun hnone => hnext.trans ?_, fun seq code rest hacks => hnext.trans ?_⟩
    · rw [ackPop_none (s := s.forgetAnswer) hnone]
      rfl
    · rw [ackPop_oldest (s := s.forgetAnswer) hacks]
      rfl

end Sys2Proof.Machine
end

section
/-!
The link, the functions, vector requests, and PTM (R403 to R420, R437, R438, R541).
-/

namespace Sys2Proof.Machine

/-! The link. -/

theorem linkTrainingStart_next (t : Nat) (s : State) (hdown : s.linkIsUp = false) (hstage : s.boot.stage ≠ .held) (ht : s.now ≤ t) :
    exec (.linkTrainingStart t) s = .next { s with now := t, pcie := { s.pcie with training := true } } := by
  have hcond : (s.linkIsUp || decide (s.boot.stage = .held)) = false := by rw [hdown, decide_eq_false hstage]; rfl
  have hexec : exec (.linkTrainingStart t) s = .next (trainingStartOp (s.at t)) := rfl
  rw [hexec, at_eq ht]
  exact congrArg Host.Outcome.next (if_neg fun h => Bool.false_ne_true (hcond.symm.trans h))

section

variable {s : State}

theorem linkUp_next (speed : BitVec 3) (width : BitVec 5) (hc : s.Canonical) (hspeed : linkSpeedOk speed.toNat = true)
    (hwidth : linkWidthOk width.toNat = true) (htraining : s.pcie.training = true) (hdown : s.linkIsUp = false) :
    ∃ u : State, exec (.linkUp speed width) s = .next (u.pcieEvent 0 0) ∧ u.linkIsUp = true ∧ u.fld rLink 30 28 = speed.toNat ∧
      u.fld rLink 27 23 = width.toNat ∧ u.fld rLink 15 0 = s.fld rLink 15 0 ∧
      u = { s with regs := u.regs, pcie := { s.pcie with training := false } } := by
  have h0 : ({ s with pcie := { s.pcie with training := false } } : State).Canonical := { hc with }
  have h1 := h0.setReg rLink (withBit (s.reg rLink) 31 true)
  have h2 : ((({ s with pcie := { s.pcie with training := false } } : State).setBit rLink 31 true).setFld rLink 30 28 speed.toNat).Canonical :=
    h1.setReg _ _
  have hcond : (s.pcie.training && !s.linkIsUp) = true := by rw [htraining, hdown]; rfl
  have hexec : exec (.linkUp speed width) s = .next (linkUpOp speed.toNat width.toNat s) :=
    if_pos (by rw [hspeed, hwidth]; rfl)
  refine ⟨(({ s with pcie := { s.pcie with training := false } } : State).setBit rLink 31 true |>.setFld rLink 30 28 speed.toNat).setFld
    rLink 27 23 width.toNat, hexec.trans (congrArg Host.Outcome.next (if_pos hcond)), ?_, ?_, ?_, ?_, rfl⟩
  · exact (State.bit_setFld_apart h2 _ (by decide) (by decide)).trans ((State.bit_setFld_apart h1 _ (by decide) (by decide)).trans
      (State.bit_setBit h0 _ _ _ (by decide)))
  · exact (State.fld_setFld_apart h2 _ (by decide) (by decide)).trans ((State.fld_setFld h1 _ _ _ _ (by decide) (by decide)).trans
      (Nat.mod_eq_of_lt speed.isLt))
  · exact (State.fld_setFld h2 _ _ _ _ (by decide) (by decide)).trans (Nat.mod_eq_of_lt width.isLt)
  · exact (State.fld_setFld_apart h2 _ (by decide) (by decide)).trans ((State.fld_setFld_apart h1 _ (by decide) (by decide)).trans
      (State.fld_setBit_apart h0 _ (by decide) (by decide)))

theorem speedChange_next (speed : BitVec 3) (hc : s.Canonical) (hspeed : linkSpeedOk speed.toNat = true) (hup : s.linkIsUp = true)
    (hother : s.fld rLink 30 28 ≠ speed.toNat) :
    ∃ u : State, exec (.speedChange speed) s = .next (u.pcieEvent 2 0) ∧ u.fld rLink 30 28 = speed.toNat ∧ u.linkIsUp = true ∧
      u.fld rLink 15 0 = min 65535 (s.fld rLink 15 0 + 1) ∧ u = { s with regs := u.regs } := by
  have h1 : (s.setFld rLink 30 28 speed.toNat).Canonical := hc.setReg _ _
  have hcond : (s.linkIsUp && decide (s.fld rLink 30 28 ≠ speed.toNat)) = true := by rw [hup, decide_eq_true hother]; rfl
  have hexec : exec (.speedChange speed) s = .next (speedChangeOp speed.toNat s) := if_pos hspeed
  have hcount := State.fld_count h1 rLink 1 (hi := 15) (lo := 0) (by decide) (by decide)
  rw [State.fld_setFld_apart hc _ (by decide) (by decide)] at hcount
  refine ⟨(s.setFld rLink 30 28 speed.toNat).count rLink 15 0 1, hexec.trans (congrArg Host.Outcome.next (if_pos hcond)), ?_, ?_, hcount, rfl⟩
  · exact (State.fld_count_apart h1 _ (by decide) (by decide)).trans ((State.fld_setFld hc _ _ _ _ (by decide) (by decide)).trans
      (Nat.mod_eq_of_lt speed.isLt))
  · exact (State.bit_count_apart h1 _ (by decide) (by decide)).trans ((State.bit_setFld_apart hc _ (by decide) (by decide)).trans hup)

/-! Functions (R417, R418). -/

theorem flr_next (f : Fin 4) (hconf : s.configurable f = true) :
    let u := (s.resetFunction f).resetChannels (fun g => decide (g = f.val))
    exec (.flr f) s = .next (((({ u with pcie := { u.pcie with flr := u.pcie.flr ||| 2 ^ f.val } } : State).unhear (fun g => decide (g =
      f.val))).identityReset (8 + f)).pcieEvent 3 f).follow :=
  congrArg (fun t : State => Host.Outcome.next t.follow) (if_pos hconf)

theorem bmeClear_next (f : Fin 4) (hconf : s.configurable f = true) (hmaster : s.bmEnabled f = true) : exec (.bmeClear f) s =
    .next (((s.setPci f pciCommand (withBit (s.pciReg f pciCommand) 2 false)).pcieEvent 6 f).advanceAll) :=
  congrArg Host.Outcome.next (if_pos (by rw [hconf, hmaster]; rfl))

theorem d3Entry_next (f : Fin 4) (hconf : s.configurable f = true) (hawake : s.inD3 f = false) : exec (.d3Entry f) s =
    .next (((s.setPci f pciPmcsr (withField (s.pciReg f pciPmcsr) 1 0 3)).pcieEvent 7 f).advanceAll) :=
  congrArg Host.Outcome.next (if_pos (by rw [hconf, hawake]; rfl))

theorem d0Return_ends (f : Fin 4) (hconf : s.configurable f = true) (hasleep : s.inD3 f = true) : exec (.d0Return f) s =
    .next ((s.setPci f pciPmcsr (withField (s.pciReg f pciPmcsr) 1 0 0)).functionOpens f) :=
  congrArg Host.Outcome.next ((if_pos hconf).trans (if_pos hasleep))

theorem d0Return_masters (f : Fin 4) (hconf : s.configurable f = true) (hawake : s.inD3 f = false) (hmaster : s.bmEnabled f = false) :
    exec (.d0Return f) s = .next ((s.setPci f pciCommand (withBit (s.pciReg f pciCommand) 2 true)).functionOpens f) :=
  congrArg Host.Outcome.next ((if_pos hconf).trans ((if_neg (Bool.not_eq_true _ ▸ hawake)).trans (if_neg (Bool.not_eq_true _ ▸ hmaster))))

/-! Vector requests (R411). -/

section

variable {k : Nat} {rest : List Nat} (hwait : s.ev.msixWait = k :: rest)

include hwait

theorem msixMessage_cases : exec .msixMessage s = .next (let u : State := { s with ev := { s.ev with msixWait := rest } }
    if s.sendable k then u.sendVector k else if s.msixOn (k / 256) then u.setPending k true else u) := by
  have hexec : exec .msixMessage s = .next (msixMessageOp s) := rfl
  rw [hexec, msixMessageOp, hwait]
  rfl

theorem msixMessage_sends (hsend : s.sendable k = true) :
    exec .msixMessage s = .next (({ s with ev := { s.ev with msixWait := rest } } : State).sendVector k) :=
  (msixMessage_cases hwait).trans (congrArg Host.Outcome.next (if_pos hsend))

theorem msixMessage_pends (hsend : s.sendable k = false) (hon : s.msixOn (k / 256) = true) :
    exec .msixMessage s = .next (({ s with ev := { s.ev with msixWait := rest } } : State).setPending k true) := by
  rw [msixMessage_cases hwait, hsend, hon]
  rfl

theorem msixMessage_drops (hoff : s.msixOn (k / 256) = false) :
    exec .msixMessage s = .next ({ s with ev := { s.ev with msixWait := rest } } : State) := by
  have hsend : s.sendable k = false := by simp only [State.sendable, hoff, Bool.false_and]
  rw [msixMessage_cases hwait, hsend, hoff]
  rfl

end

/-! PTM (R420, R541). -/

section

variable {t : Nat}

/-- The state of a dialogue that has begun at `t`. -/
def State.ptmBegun (s : State) (t : Nat) : State := { s with now := t, pcie := { s.pcie with ptmAt := some t } }

theorem State.ptmBegun_canonical (hc : s.Canonical) : (s.ptmBegun t).Canonical := { hc with }

theorem State.ptmBegun_counted (hc : s.Canonical) :
    ((s.ptmBegun t).count rPtmStat 15 0 1).fld rPtmStat 15 0 = min 65535 (s.fld rPtmStat 15 0 + 1) :=
  State.fld_count (State.ptmBegun_canonical hc) rPtmStat 1 (by decide) (by decide)

/-- What a dialogue that succeeds stores. -/
def State.ptmStored (s : State) (offset t : Nat) : State :=
  ((s.setPair rOffsetLo rOffsetHi offset).setBit rPtmStat 31 true).setReg rPtmLast (BitVec.ofNat 32 t)

theorem State.ptmStored_spec (offset : Dword) (hc : s.Canonical) : let u := s.ptmStored offset.toNat t
    u.pair rOffsetLo rOffsetHi = offset.toNat ∧ u.bit rPtmStat 31 = true ∧ u.fld rPtmStat 15 0 = s.fld rPtmStat 15 0 ∧
      u.reg rPtmLast = BitVec.ofNat 32 t := by
  have h1 : (s.setReg rOffsetLo (loHalf offset.toNat)).Canonical := hc.setReg _ _
  have h2 : (s.setPair rOffsetLo rOffsetHi offset.toNat).Canonical := h1.setReg _ _
  have h3 : ((s.setPair rOffsetLo rOffsetHi offset.toNat).setBit rPtmStat 31 true).Canonical := h2.setReg _ _
  have hpair {a : Nat} (hlast : a ≠ rPtmLast) (hstat : a ≠ rPtmStat) :
      (s.ptmStored offset.toNat t).reg a = (s.setPair rOffsetLo rOffsetHi offset.toNat).reg a :=
    (State.reg_setReg_other _ _ hlast).trans (State.reg_setReg_other _ _ hstat)
  have hlo : (s.setPair rOffsetLo rOffsetHi offset.toNat).reg rOffsetLo = loHalf offset.toNat :=
    (State.reg_setReg_other _ _ (by decide)).trans ((State.reg_setReg hc _ _ _).trans (if_pos rfl))
  have hhi : (s.setPair rOffsetLo rOffsetHi offset.toNat).reg rOffsetHi = hiHalf offset.toNat :=
    (State.reg_setReg h1 _ _ _).trans (if_pos rfl)
  have hstat : (s.ptmStored offset.toNat t).reg rPtmStat = ((s.setPair rOffsetLo rOffsetHi offset.toNat).setBit rPtmStat 31 true).reg rPtmStat :=
    State.reg_setReg_other _ _ (by decide)
  have hkept : (s.setPair rOffsetLo rOffsetHi offset.toNat).reg rPtmStat = s.reg rPtmStat :=
    (State.reg_setReg_other _ _ (by decide)).trans (State.reg_setReg_other _ _ (by decide))
  refine ⟨?_, (congrArg (fun w => bitOf w 31) hstat).trans (State.bit_setBit h2 _ _ _ (by decide)),
    (congrArg (fun w => fieldOf w 15 0) hstat).trans ((State.fld_setBit_apart h2 _ (by decide) (by decide)).trans
      (congrArg (fun w => fieldOf w 15 0) hkept)), (State.reg_setReg h3 _ _ _).trans (if_pos rfl)⟩
  rw [State.pair, hpair (by decide) (by decide), hpair (by decide) (by decide), hlo, hhi]
  exact halves_toNat offset.isLt

theorem ptmDialogue_due (ok : Bool) (offset : Dword) (hup : s.linkIsUp = true) (hctrl : s.bit rPtmCtrl 31 = true)
    (hfunc : s.pciBit 0 pciPtmCtl 0 = true) (ht : s.now ≤ t)
    (hdue : ∀ last, s.pcie.ptmAt = some last → last + 1000000 * s.fld rPtmCtrl 15 0 ≤ t) :
    exec (.ptmDialogue ok offset t) s = .next (if ok then
      (((s.ptmBegun t).count rPtmStat 15 0 1).ptmStored offset.toNat t).pulse .time 0 0
      else ((s.ptmBegun t).count rPtmStat 15 0 1).count rPtmStat 23 16 1) := by
  have hexec : exec (.ptmDialogue ok offset t) s = .next (ptmDialogueOp ok offset.toNat (s.at t)) := rfl
  have hready : ({ s with now := t } : State).ptmDue = true := by
    unfold State.ptmDue
    split
    · rfl
    · next last hlast => exact decide_eq_true (hdue last hlast)
  have hcond : (({ s with now := t } : State).linkIsUp && ({ s with now := t } : State).bit rPtmCtrl 31 &&
      ({ s with now := t } : State).pciBit 0 pciPtmCtl 0 && ({ s with now := t } : State).ptmDue) = true := by
    rw [hready, Bool.and_true, Bool.and_eq_true, Bool.and_eq_true]
    exact ⟨⟨hup, hctrl⟩, hfunc⟩
  rw [hexec, at_eq ht]
  exact congrArg Host.Outcome.next (if_pos hcond)

theorem ptmDialogue_succeeds (offset : Dword) (hc : s.Canonical) (hup : s.linkIsUp = true) (hctrl : s.bit rPtmCtrl 31 = true)
    (hfunc : s.pciBit 0 pciPtmCtl 0 = true) (ht : s.now ≤ t)
    (hdue : ∀ last, s.pcie.ptmAt = some last → last + 1000000 * s.fld rPtmCtrl 15 0 ≤ t) :
    ∃ u : State, exec (.ptmDialogue true offset t) s = .next (u.pulse .time 0 0) ∧ u.pair rOffsetLo rOffsetHi = offset.toNat ∧
      u.bit rPtmStat 31 = true ∧ u.fld rPtmStat 15 0 = min 65535 (s.fld rPtmStat 15 0 + 1) ∧ u.reg rPtmLast = BitVec.ofNat 32 t ∧
      u = { s with now := t, regs := u.regs, pcie := { s.pcie with ptmAt := some t } } := by
  obtain ⟨hpair, hvalid, hcount, hlast⟩ := State.ptmStored_spec (t := t) offset ((State.ptmBegun_canonical (t := t) hc).count rPtmStat 15 0 1)
  exact ⟨_, ptmDialogue_due true offset hup hctrl hfunc ht hdue, hpair, hvalid, hcount.trans (State.ptmBegun_counted hc), hlast, rfl⟩

theorem ptmDialogue_fails (offset : Dword) (hc : s.Canonical) (hup : s.linkIsUp = true) (hctrl : s.bit rPtmCtrl 31 = true)
    (hfunc : s.pciBit 0 pciPtmCtl 0 = true) (ht : s.now ≤ t)
    (hdue : ∀ last, s.pcie.ptmAt = some last → last + 1000000 * s.fld rPtmCtrl 15 0 ≤ t) :
    ∃ u : State, exec (.ptmDialogue false offset t) s = .next u ∧ u.fld rPtmStat 23 16 = min 255 (s.fld rPtmStat 23 16 + 1) ∧
      u.fld rPtmStat 15 0 = min 65535 (s.fld rPtmStat 15 0 + 1) ∧
      u = { s with now := t, regs := u.regs, pcie := { s.pcie with ptmAt := some t } } := by
  have h0 := State.ptmBegun_canonical (t := t) hc
  have h1 : ((s.ptmBegun t).count rPtmStat 15 0 1).Canonical := h0.count _ _ _ _
  have hfailed := State.fld_count h1 rPtmStat 1 (hi := 23) (lo := 16) (by decide) (by decide)
  rw [State.fld_count_apart h0 _ (by decide) (by decide)] at hfailed
  exact ⟨_, ptmDialogue_due false offset hup hctrl hfunc ht hdue, hfailed,
    (State.fld_count_apart h1 _ (by decide) (by decide)).trans (State.ptmBegun_counted hc), rfl⟩

end

/-! The counts of the PCIE page. -/

theorem pcieClear_spec (hc : s.Canonical) : let t := pcieClear s
    t.fld rLink 15 0 = 0 ∧ t.fld rTagPeak 25 16 = 0 ∧ t.fld rHostNp 24 16 = 0 ∧ t.reg rDrops = 0 ∧ t.linkIsUp = s.linkIsUp ∧
      t = { s with regs := t.regs } := by
  have h1 : (s.setFld rLink 15 0 0).Canonical := hc.setReg _ _
  have h2 : ((s.setFld rLink 15 0 0).setFld rTagPeak 25 16 0).Canonical := h1.setReg _ _
  have h3 : (((s.setFld rLink 15 0 0).setFld rTagPeak 25 16 0).setFld rHostNp 24 16 0).Canonical := h2.setReg _ _
  have hlink : (pcieClear s).reg rLink = (s.setFld rLink 15 0 0).reg rLink :=
    (State.reg_setReg_other _ _ (by decide)).trans ((State.reg_setReg_other _ _ (by decide)).trans (State.reg_setReg_other _ _ (by decide)))
  have htags : (pcieClear s).reg rTagPeak = ((s.setFld rLink 15 0 0).setFld rTagPeak 25 16 0).reg rTagPeak :=
    (State.reg_setReg_other _ _ (by decide)).trans (State.reg_setReg_other _ _ (by decide))
  have hheld : (pcieClear s).reg rHostNp = (((s.setFld rLink 15 0 0).setFld rTagPeak 25 16 0).setFld rHostNp 24 16 0).reg rHostNp :=
    State.reg_setReg_other _ _ (by decide)
  refine ⟨?_, ?_, ?_, ?_, ?_, rfl⟩
  · exact (congrArg (fun w => fieldOf w 15 0) hlink).trans (State.fld_setFld hc _ _ _ _ (by decide) (by decide))
  · exact (congrArg (fun w => fieldOf w 25 16) htags).trans (State.fld_setFld h1 _ _ _ _ (by decide) (by decide))
  · exact (congrArg (fun w => fieldOf w 24 16) hheld).trans (State.fld_setFld h2 _ _ _ _ (by decide) (by decide))
  · exact (State.reg_setReg h3 _ _ _).trans (if_pos rfl)
  · exact (congrArg (fun w => bitOf w 31) hlink).trans (State.bit_setFld_apart hc _ (by decide) (by decide))

theorem pcieClrCounts_next (m : Master) (v : Word) (hc : s.Canonical) (ha : s.Accepts m.id ⟨.pcie, 0⟩ 0x054 v) (hbit : bitOf v 0 = true) :
    ∃ t, exec (.pcieClrCounts m v) s = .next t ∧ t.resp.code = 0 ∧ t.fld rLink 15 0 = 0 ∧ t.fld rTagPeak 25 16 = 0 ∧
      t.fld rHostNp 24 16 = 0 ∧ t.reg rDrops = 0 ∧ t.linkIsUp = s.linkIsUp ∧
      t = { s with regs := t.regs, ev := t.ev, log := t.log, resp := t.resp, jtag := { s.jtag with out := t.jtag.out } } := by
  have heffect (old : Word) (u : State) : State.effectAt m.id ⟨.pcie, 0⟩ 0x054 old v u = pcieClear u := if_pos ⟨rfl, hbit⟩
  have hwrite := access_effect (by decide) ha (by decide) (by decide) (by decide) heffect
  have hrec := hc.recorded (m := m.id) (p := ⟨.pcie, 0⟩) (off := 0x054) (v := v) (fun h => by cases h)
  have hkept : (s.recorded m.id ⟨.pcie, 0⟩ 0x054 v).reg rLink = s.reg rLink :=
    (recorded_regs (p := ⟨.pcie, 0⟩) hc (fun h => by cases h) (by decide) rfl (by decide) (by decide)).2 _ (by decide) (by decide) (by decide)
      (by decide)
  obtain ⟨hlink, htags, hheld, hdrops, hup, hframe⟩ := pcieClear_spec hrec
  refine ⟨_, congrArg Host.Outcome.next hwrite, State.done_code _ _ _ _, (State.done_fld _ _ _ _ _ _ _).trans hlink,
    (State.done_fld _ _ _ _ _ _ _).trans htags, (State.done_fld _ _ _ _ _ _ _).trans hheld, (State.done_reg _ _ _ _ _).trans hdrops,
    (State.done_bit _ _ _ _ _ _).trans (hup.trans (congrArg (fun w => bitOf w 31) hkept)), State.done_frame _ _ _ ?_⟩
  rw [hframe, recorded_frame (p := ⟨.pcie, 0⟩) (fun h => by cases h) rfl]

end

/-- Settles O32: each command by the guards of its operation, and the fields of PCIE_LINK and PTM_STAT apart from one another. -/
theorem linkAndFunctionEventsComplete : Obligations.LinkAndFunctionEventsComplete := by
  unfold Obligations.LinkAndFunctionEventsComplete
  refine ⟨⟨linkTrainingStart_next, fun speed width s => linkUp_next speed width, fun speed s => speedChange_next speed, fun s hup => ?down,
    fun s => rfl⟩, fun f s hconf => ?functions, fun f s hflr => ?flrEnds, fun k rest s hwait => ?vectors,
    fun offset t s hc hup hctrl hfunc ht hdue => ?ptm, fun m v s => pcieClrCounts_next m v⟩
  case down => exact congrArg (fun t : State => Host.Outcome.next t.follow) (if_pos hup)
  case functions => exact ⟨flr_next f hconf, bmeClear_next f hconf, d3Entry_next f hconf, d0Return_ends f hconf, d0Return_masters f hconf⟩
  case flrEnds => exact congrArg Host.Outcome.next (if_pos hflr)
  case vectors => exact ⟨msixMessage_sends hwait, msixMessage_pends hwait, msixMessage_drops hwait⟩
  case ptm => exact ⟨ptmDialogue_succeeds offset hc hup hctrl hfunc ht hdue, ptmDialogue_fails offset hc hup hctrl hfunc ht hdue⟩

end Sys2Proof.Machine
end

section
/-!
The serial units (R369 to R371, R377, R378): HP_CMD, the FIFOs, the end of a command, and a received character.
-/

namespace Sys2Proof.Machine

section

variable {u o : Nat}

/-- Unit `u`'s register at `o` within its block. -/
theorem hpBase_register (u o : Nat) : hpBase u + o = regAddr .hostper 0 (0x100 + o + 0x20 * u) := by
  simp only [hpBase, regAddr]
  omega

theorem hpUnit_block (ho : o < 0x20) : hpUnit (0x100 + o + 0x20 * u) = u := by
  unfold hpUnit
  omega

theorem hostperWritten_command (v : Word) (s : State) :
    hostperWritten (0x104 + 0x20 * u) v s = hpCommand u (fieldOf v 17 16) (fieldOf v 4 0) (bitOf v 8) s := by
  have hlow : ¬ 0x104 + 0x20 * u < 0x100 := by omega
  have hplace : (0x104 + 0x20 * u) % 0x20 = 0x04 := by omega
  have hunit : hpUnit (0x104 + 0x20 * u) = u := hpUnit_block (o := 0x04) (by decide)
  simp only [hostperWritten, if_neg hlow, hplace, hunit]

theorem hostperWritten_tx (v : Word) (s : State) : hostperWritten (0x10C + 0x20 * u) v s = hpPush u (v.setWidth 8) s := by
  have hlow : ¬ 0x10C + 0x20 * u < 0x100 := by omega
  have hplace : (0x10C + 0x20 * u) % 0x20 = 0x0C := by omega
  have hunit : hpUnit (0x10C + 0x20 * u) = u := hpUnit_block (o := 0x0C) (by decide)
  simp only [hostperWritten, if_neg hlow, hplace, hunit]

end

/-- The fields of a command word read as they were put in. -/
theorem hpCommandWord_fields (hold : Bool) : ∀ op < 4, ∀ len : BitVec 5, let v := hpCommandWord op hold len.toNat
    fieldOf v 17 16 = op ∧ fieldOf v 4 0 = len.toNat ∧ bitOf v 8 = hold := by
  cases hold <;> decide

/-! HP_CMD and HP_TX. -/

section

variable {m off : Nat} {v : Word} {s : State}

theorem recorded_periph (k : Nat) : (s.recorded m ⟨.hostper, 0⟩ off v).periph k = s.periph k := by
  rw [recorded_frame (p := ⟨.hostper, 0⟩) (fun h => by cases h) rfl]
  rfl

/-- A write of another register of the page leaves HP_CFG. -/
theorem recorded_hpConfig (hc : s.Canonical) {u : Nat} (hu : u < 10) (hlow : 0x040 ≤ off) (ho : off < 0x1000)
    (hne : off ≠ 0x100 + 0x20 * u) : (s.recorded m ⟨.hostper, 0⟩ off v).reg (hpBase u) = s.reg (hpBase u) := by
  have hword : hpBase u ≠ Page.base ⟨.hostper, 0⟩ + off := by
    simp only [hpBase, regAddr, Page.base]
    omega
  have hothers : hpBase u ≠ Page.base ⟨.hostper, 0⟩ + 0x028 ∧ hpBase u ≠ regAddr .log 0 0x014 ∧ hpBase u ≠ regAddr .event 0 0x048 := by
    simp only [hpBase, regAddr, Page.base, PageKind.info]
    omega
  obtain ⟨hchg, hlog, hevent⟩ := hothers
  exact (recorded_regs (p := ⟨.hostper, 0⟩) hc (fun h => by cases h) (by omega) rfl ho (by decide)).2 _ hword hchg hlog hevent

theorem recorded_hpEnabled (hc : s.Canonical) {u : Nat} (hu : u < 10) (hlow : 0x040 ≤ off) (ho : off < 0x1000)
    (hne : off ≠ 0x100 + 0x20 * u) : (s.recorded m ⟨.hostper, 0⟩ off v).hpEnabled u = s.hpEnabled u :=
  congrArg (fun w => bitOf w 31) (recorded_hpConfig hc hu hlow ho hne)

end

section

variable {s : State}

/-- A write of HP_CMD. -/
theorem hpCmd_access {u op : Nat} {len : BitVec 5} {hold : Bool} (m : Master) (hu : u < 10) (hop : op < 4)
    (ha : s.Accepts m.id ⟨.hostper, 0⟩ (0x104 + 0x20 * u) (hpCommandWord op hold len.toNat)) :
    access (busWrite m.id (hpBase u + 0x04) 15 (hpCommandWord op hold len.toNat)) s =
      (hpCommand u op len.toNat hold (s.recorded m.id ⟨.hostper, 0⟩ (0x104 + 0x20 * u) (hpCommandWord op hold len.toNat))).done m.id
        ⟨.hostper, 0⟩ (0x104 + 0x20 * u) := by
  obtain ⟨hopField, hlen, hhold⟩ := hpCommandWord_fields hold op hop len
  rw [hpBase_register]
  refine access_effect (f := hpCommand u op len.toNat hold) (by decide) ha (by decide) (by omega) (by omega) fun old x => ?_
  refine (hostperWritten_command (hpCommandWord op hold len.toNat) x).trans ?_
  rw [hopField, hlen, hhold]

theorem hpCommand_i2c {u op len : Nat} {hold : Bool} (hu : u < 4) (hop : op ≠ 0) : hpCommand u op len hold s = s.setPeriph u
    { s.periph u with cmd := if s.hpEnabled u then some (op, len) else none, err := none } := by
  have huart : isUart u = false := decide_eq_false (by omega)
  have hi2c : isI2c u = true := decide_eq_true hu
  cases hen : s.hpEnabled u <;> simp only [hpCommand, if_neg hop, huart, hi2c, hen, Bool.false_eq_true, Bool.true_eq_false, if_false, if_true]

theorem hpCommand_spi {u op len : Nat} {hold : Bool} (hlow : 4 ≤ u) (hu : u < 8) (hop : op ≠ 0) : hpCommand u op len hold s = s.setPeriph u
    (if s.hpEnabled u then
      { s.periph u with cmd := some (op, len), holdCs := hold, csLow := some (s.fld (hpBase u) 27 26), err := none }
    else { s.periph u with cmd := none, err := none }) := by
  have huart : isUart u = false := decide_eq_false (by omega)
  have hi2c : isI2c u = false := decide_eq_false (by omega)
  cases hen : s.hpEnabled u <;> simp only [hpCommand, if_neg hop, huart, hi2c, hen, Bool.false_eq_true, Bool.true_eq_false, if_false, if_true]

theorem i2cCommand_access {op : Nat} (m : Master) (u : Fin 4) (len : BitVec 5) (hc : s.Canonical) (hop : op ≠ 0) (hop4 : op < 4)
    (ha : s.Accepts m.id ⟨.hostper, 0⟩ (0x104 + 0x20 * u.val) (hpCommandWord op false len.toNat)) :
    access (busWrite m.id (hpBase u + 0x04) 15 (hpCommandWord op false len.toNat)) s =
      ((s.recorded m.id ⟨.hostper, 0⟩ (0x104 + 0x20 * u.val) (hpCommandWord op false len.toNat)).setPeriph u
        { s.periph u with cmd := if s.hpEnabled u then some (op, len.toNat) else none, err := none }).done m.id ⟨.hostper, 0⟩
          (0x104 + 0x20 * u.val) := by
  rw [hpCmd_access m (by omega) hop4 ha, hpCommand_i2c u.isLt hop, recorded_periph,
    recorded_hpEnabled hc (by omega) (by omega) (by omega) (by omega)]

theorem spiTransfer_next (m : Master) (u : Fin 4) (len : BitVec 5) (hold : Bool) (hc : s.Canonical)
    (ha : s.Accepts m.id ⟨.hostper, 0⟩ (0x184 + 0x20 * u.val) (hpCommandWord 1 hold len.toNat)) : exec (.spiTransfer m u len hold) s = .next
      (((s.recorded m.id ⟨.hostper, 0⟩ (0x184 + 0x20 * u.val) (hpCommandWord 1 hold len.toNat)).setPeriph (4 + u)
        (if s.hpEnabled (4 + u) then { s.periph (4 + u) with cmd := some (1, len.toNat), holdCs := hold,
                                                             csLow := some (s.fld (hpBase (4 + u)) 27 26), err := none }
         else { s.periph (4 + u) with cmd := none, err := none })).done m.id ⟨.hostper, 0⟩ (0x184 + 0x20 * u.val)) := by
  have hoff : 0x184 + 0x20 * u.val = 0x104 + 0x20 * (4 + u.val) := by omega
  rw [hoff] at ha ⊢
  have hcfg : (s.recorded m.id ⟨.hostper, 0⟩ (0x104 + 0x20 * (4 + u.val)) (hpCommandWord 1 hold len.toNat)).fld (hpBase (4 + u)) 27 26 =
      s.fld (hpBase (4 + u)) 27 26 := congrArg (fun w => fieldOf w 27 26) (recorded_hpConfig hc (by omega) (by omega) (by omega) (by omega))
  refine congrArg Host.Outcome.next ((hpCmd_access m (by omega) (by decide) ha).trans ?_)
  rw [hpCommand_spi (by omega) (by omega) (by decide), recorded_periph, recorded_hpEnabled hc (by omega) (by omega) (by omega) (by omega), hcfg]

theorem uartFlush_next (m : Master) (u : Fin 2) (ha : s.Accepts m.id ⟨.hostper, 0⟩ (0x204 + 0x20 * u.val) (hpCommandWord 1 false 0)) :
    exec (.uartFlush m u) s = .next ((((s.recorded m.id ⟨.hostper, 0⟩ (0x204 + 0x20 * u.val) (hpCommandWord 1 false 0)).setPeriph (8 + u)
      { s.periph (8 + u) with tx := [], rx := [], err := none }).hpEvent (8 + u) 0).done m.id ⟨.hostper, 0⟩ (0x204 + 0x20 * u.val)) := by
  have hoff : 0x204 + 0x20 * u.val = 0x104 + 0x20 * (8 + u.val) := by omega
  rw [hoff] at ha ⊢
  have huart : isUart (8 + u.val) = true := decide_eq_true (by omega)
  refine congrArg Host.Outcome.next ((hpCmd_access (len := 0) m (by omega) (by decide) ha).trans ?_)
  simp only [hpCommand, huart, if_true, recorded_periph, Nat.one_ne_zero, if_false]
  rfl

theorem hpTx_next (m : Master) (u : Fin 10) (v : Word) (ha : s.Accepts m.id ⟨.hostper, 0⟩ (0x10C + 0x20 * u.val) v) :
    exec (.hpTx m u v) s = .next (((s.recorded m.id ⟨.hostper, 0⟩ (0x10C + 0x20 * u.val) v).setPeriph u
      { s.periph u with tx := (s.periph u).tx ++ [v.setWidth 8] }).done m.id ⟨.hostper, 0⟩ (0x10C + 0x20 * u.val)) := by
  have hwrite := access_effect (f := hpPush u (v.setWidth 8)) (by decide) ha (by decide) (by omega) (by omega)
    fun old x => hostperWritten_tx v x
  rw [← hpBase_register u 0x0C, hpPush, recorded_periph] at hwrite
  exact congrArg Host.Outcome.next hwrite

/-! HP_RX. -/

theorem hpRx_next (m : Master) (u : Fin 10) (ha : s.AcceptsRead m.id ⟨.hostper, 0⟩ (0x110 + 0x20 * u.val)) : exec (.hpRx m u) s =
    .next ((hpPop u s.forgetAnswer).1.readDone m.id ⟨.hostper, 0⟩ (0x110 + 0x20 * u.val) (hpPop u s.forgetAnswer).2) := by
  have hread := access_read_plain (by decide) ha (by decide) (by omega) (by omega)
  have hrx : 0x100 ≤ 0x110 + 0x20 * u.val ∧ 0x110 + 0x20 * u.val < 0x240 ∧ (0x110 + 0x20 * u.val) % 0x20 = 0x10 := by omega
  have hunit : (0x110 + 0x20 * u.val - 0x100) / 0x20 = u.val := by omega
  have hpop : readEffect m.id ⟨.hostper, 0⟩ (0x110 + 0x20 * u.val) s.forgetAnswer = hpPop u s.forgetAnswer := by
    simp only [readEffect, if_pos hrx, hunit]
  rw [hpop, ← hpBase_register u 0x10] at hread
  exact congrArg Host.Outcome.next hread

theorem hpRx_empty (m : Master) (u : Fin 10) (ha : s.AcceptsRead m.id ⟨.hostper, 0⟩ (0x110 + 0x20 * u.val)) (hrx : (s.periph u).rx = []) :
    ∃ t, exec (.hpRx m u) s = .next t ∧ t.resp.data = [0x8000_0000] ∧ t.resp.code = 0 ∧
      t = { s with resp := t.resp, jtag := { s.jtag with out := t.jtag.out } } := by
  have hpop : hpPop u s.forgetAnswer = (s.forgetAnswer, 0x8000_0000) := by
    have hnone : (s.forgetAnswer.periph u).rx = [] := hrx
    simp only [hpPop, hnone]
    rfl
  refine ⟨_, hpRx_next m u ha, ?_⟩
  rw [hpop]
  exact ⟨congrArg Response.data (State.readDone_resp _ _ _ _ _), congrArg Response.code (State.readDone_resp _ _ _ _ _),
    State.readDone_quiet _ _ _ _ _⟩

theorem hpRx_pops (m : Master) (u : Fin 10) (ha : s.AcceptsRead m.id ⟨.hostper, 0⟩ (0x110 + 0x20 * u.val)) {b : Byte} {rest : List Byte}
    (hrx : (s.periph u).rx = b :: rest) : ∃ t, exec (.hpRx m u) s = .next t ∧ t.resp.data = [b.setWidth 32] ∧ t.resp.code = 0 ∧
      t = { s.setPeriph u { s.periph u with rx := rest } with resp := t.resp, jtag := { s.jtag with out := t.jtag.out } } := by
  have hpop : hpPop u s.forgetAnswer = (s.forgetAnswer.setPeriph u { s.periph u with rx := rest }, b.setWidth 32) := by
    have hhead : (s.forgetAnswer.periph u).rx = b :: rest := hrx
    simp only [hpPop, hhead]
    rfl
  refine ⟨_, hpRx_next m u ha, ?_⟩
  rw [hpop]
  exact ⟨congrArg Response.data (State.readDone_resp _ _ _ _ _), congrArg Response.code (State.readDone_resp _ _ _ _ _),
    State.readDone_quiet (s.setPeriph u { s.periph u with rx := rest }) _ _ _ _⟩

/-! The end of a command (R378). -/

section

variable {u : Fin 10} {op len : Nat} {bs : List Byte} (hcmd : (s.periph u).cmd = some (op, len))

include hcmd

theorem hpCommandDone_well (hu : u.val < 8) (hbytes : bs.length = (if hpReceives u op then len else 0)) :
    exec (.hpCommandDone u .ok bs) s = .next (((s.setPeriph u { s.periph u with
      tx := (s.periph u).tx.drop (if hpSends u op then (if isI2c u then (s.periph u).tx.length else len) else 0), cmd := none,
      csLow := if (s.periph u).holdCs then (s.periph u).csLow else none }).hpEvent u 0).hpReceive u bs) := by
  have huart : isUart u = false := decide_eq_false (by omega)
  have hgot : ¬ bs.length ≠ if hpReceives u op then len else 0 := fun h => h hbytes
  have hend : hpEnd u none bs s = ((s.setPeriph u { s.periph u with
      tx := (s.periph u).tx.drop (if hpSends u op then (if isI2c u then (s.periph u).tx.length else len) else 0), cmd := none,
      csLow := if (s.periph u).holdCs then (s.periph u).csLow else none }).hpEvent u 0).hpReceive u bs := by
    simp only [hpEnd, huart, hcmd, Bool.false_eq_true, if_false, if_neg hgot]
  exact congrArg Host.Outcome.next hend

theorem hpCommandDone_fails (hu : u.val < 4) {how : SerialEnd} {kind : Nat} (hhow : how = .nack ∧ kind = 0 ∨ how = .arbLost ∧ kind = 1) :
    ∃ n k : Nat, exec (.hpCommandDone u how bs) s = .next (((((s.setPeriph u { s.periph u with
        tx := (s.periph u).tx.drop n, cmd := none, err := some kind }).tick.hpEvent u 0).hpEvent u 1).hpReceive u (bs.take k))) ∧
      n ≤ (if hpSends u op then (if isI2c u then (s.periph u).tx.length else len) else 0) ∧ k ≤ len := by
  have huart : isUart u = false := decide_eq_false (by omega)
  have hi2c : isI2c u = true := decide_eq_true hu
  have hkind : endKind how = some kind := by
    rcases hhow with ⟨rfl, rfl⟩ | ⟨rfl, rfl⟩ <;> rfl
  have hbound (x : State) (n : Nat) : x.openCount n ≤ n := Nat.le_of_lt_succ (Nat.mod_lt _ (Nat.succ_pos n))
  have hgot : (if hpReceives u op then len else 0) ≤ len := by split <;> omega
  refine ⟨_, _, ?_, hbound s _, (hbound (s.setPeriph u { s.periph u with tx := (s.periph u).tx.drop (s.openCount
    (if hpSends u op then (if isI2c u then (s.periph u).tx.length else len) else 0)), cmd := none, err := some kind }).tick
    (if hpReceives u op then len else 0)).trans hgot⟩
  have hexec : exec (.hpCommandDone u how bs) s = .next (hpEnd u (endKind how) bs s) := rfl
  rw [hexec, hkind]
  simp only [hpEnd, huart, hcmd, hi2c, Bool.false_eq_true, Bool.true_eq_false, if_false]

end

theorem hpCommandDone_uart (u : Fin 10) (bs : List Byte) (hu : 8 ≤ u.val) (hbusy : s.hpBusy u = true) :
    exec (.hpCommandDone u .ok bs) s = .next ((s.setPeriph u { s.periph u with tx := [] }).hpEvent u 0) :=
  congrArg Host.Outcome.next ((if_pos (decide_eq_true hu)).trans (if_pos hbusy))

/-! A received character (R370). -/

theorem hpReceive_first (u : Nat) (b : Byte) (hrx : (s.periph u).rx = []) :
    s.hpReceive u [b] = (s.setPeriph u { s.periph u with rx := [b] }).hpEvent u 2 := by
  simp only [State.hpReceive, hrx, List.nil_append, ne_eq, List.cons_ne_nil, not_false_eq_true, and_self, if_true]

theorem hpReceive_more (u : Nat) (bs : List Byte) (hrx : (s.periph u).rx ≠ []) :
    s.hpReceive u bs = s.setPeriph u { s.periph u with rx := (s.periph u).rx ++ bs } := if_neg fun h => hrx h.1

theorem uartReceive_off {u : Nat} (good : Bool) (b : Byte) (hoff : s.hpEnabled u = false) : uartReceive u good b s = s := by
  simp only [uartReceive, hoff, Bool.not_false, if_true]

theorem uartReceive_broken {u : Nat} (b : Byte) (hon : s.hpEnabled u = true) :
    uartReceive u false b s = (s.setPeriph u { s.periph u with err := some 2 }).hpEvent u 1 := by
  simp only [uartReceive, hon, Bool.not_true, Bool.false_eq_true, if_false, Bool.not_false, if_true]

theorem uartReceive_full {u : Nat} (b : Byte) (hon : s.hpEnabled u = true) (hfull : 16 ≤ (s.periph u).rx.length) :
    uartReceive u true b s = (s.setPeriph u { s.periph u with err := some 3 }).hpEvent u 1 := by
  simp only [uartReceive, hon, Bool.not_true, Bool.false_eq_true, if_false, if_pos hfull]

theorem uartReceive_room {u : Nat} (b : Byte) (hon : s.hpEnabled u = true) (hroom : (s.periph u).rx.length < 16) :
    uartReceive u true b s = s.hpReceive u [b] := by
  simp only [uartReceive, hon, Bool.not_true, Bool.false_eq_true, if_false, if_neg (Nat.not_le.mpr hroom)]

end

/-- Settles O40: the block of a unit's registers, the three kinds of unit, and the fill of RX. -/
theorem serialUnitsComplete : Obligations.SerialUnitsComplete := by
  unfold Obligations.SerialUnitsComplete
  refine ⟨⟨fun m u len s hc => ⟨fun ha => ?write, fun ha => ?read, fun ha => ?writeRead⟩, fun m u len hold s hc => spiTransfer_next m u len hold hc,
    fun m u s => uartFlush_next m u, fun m u v s => hpTx_next m u v,
    fun m u s ha => ⟨hpRx_empty m u ha, fun b rest hrx => hpRx_pops m u ha hrx⟩⟩, fun u op len bs s hu hcmd => ?ends,
    fun u bs s hu hbusy => hpCommandDone_uart u bs hu hbusy, fun u b line s hoff => ?off, fun u b s hon => ?character⟩
  case write => exact congrArg Host.Outcome.next (i2cCommand_access m u len hc (by decide) (by decide) ha)
  case read => exact congrArg Host.Outcome.next (i2cCommand_access m u len hc (by decide) (by decide) ha)
  case writeRead => exact congrArg Host.Outcome.next (i2cCommand_access m u len hc (by decide) (by decide) ha)
  case ends => exact ⟨hpCommandDone_well hcmd hu, fun hu how kind hhow => hpCommandDone_fails hcmd hu hhow⟩
  case off => exact congrArg Host.Outcome.next (uartReceive_off _ b hoff)
  case character =>
    refine ⟨fun hone hroom => congrArg Host.Outcome.next ?_, fun hnone => congrArg Host.Outcome.next ?_,
      fun hfull => congrArg Host.Outcome.next ?_, fun line hline => congrArg Host.Outcome.next ?_⟩
    · exact (uartReceive_room b hon hroom).trans (hpReceive_more _ _ (List.ne_nil_of_length_pos hone))
    · exact (uartReceive_room b hon (by rw [hnone]; decide)).trans (hpReceive_first _ b hnone)
    · exact uartReceive_full b hon hfull
    · rw [decide_eq_false hline]
      exact uartReceive_broken b hon

end Sys2Proof.Machine
end

section
/-!
The supplies of I/O banks (R349, R374; log entries 56 and 81).
-/

namespace Sys2Proof.Machine

section

variable {b : Fin 20} {mv : BitVec 16} {s : State}

/-! VCCO_WARN. -/

theorem State.Canonical.bankOk_set (hc : s.Canonical) (k : Nat) (ok : Bool) :
    ({ s with bankOk := SMap.set false s.bankOk k ok } : State).Canonical := by
  have hset : SMap.wf (fun _ => false) (SMap.set false s.bankOk k ok) = true := SMap.wf_set hc.bankOk
  exact { hc with bankOk := hset }

/-- The state of a bank whose supply is below −7 %, before the warning. -/
def State.vccoNoted (s : State) (b mv : Nat) : State := ({ s with bankOk := SMap.set false s.bankOk b false } : State).noteVcco b mv

theorem bankWarn_below (hlow : s.vccoBelow b 7 mv.toNat = true) : bankWarn b mv.toNat s =
    if s.bit (rBankStat b) 30 then s.vccoNoted b mv.toNat
    else ((s.vccoNoted b mv.toNat).setBit (rBankStat b) 30 true).pulse .iobank b 0 := if_pos hlow

theorem bankWarn_above (hhigh : s.vccoBelow b 7 mv.toNat = false) : bankWarn b mv.toNat s = s :=
  if_neg (by rw [hhigh]; exact Bool.false_ne_true)

theorem vccoBelow_deeper (h : s.vccoBelow b 7 mv.toNat = false) : s.vccoBelow b 10 mv.toNat = false := by
  have hhigh := of_decide_eq_false h
  exact decide_eq_false (by omega)

theorem bankDisable_keeps (h : s.bankDisabled b = true ∨ s.vccoBelow b 10 mv.toNat = false) : bankDisable b mv.toNat s = bankWarn b mv.toNat s := by
  refine if_pos ?_
  rcases h with hoff | hhigh
  · rw [hoff, Bool.true_or]
  · rw [hhigh, Bool.not_false, Bool.or_true]

/-! BANK_DISABLED. -/

/-- The bank's own registers, the change log, the bolts and the cells (beside what settling arms) stay. -/
structure BankKept (b : Nat) (s t : State) : Prop where
  stat : t.reg (rBankStat b) = s.reg (rBankStat b)
  vmin : t.reg (rBankVmin b) = s.reg (rBankVmin b)
  log : t.log = s.log
  bolts : t.bolts = s.bolts
  cells : ∀ r c, t.cell r c = { s.cell r c with armed := (t.cell r c).armed }

theorem BankKept.refl (b : Nat) (s : State) : BankKept b s s := ⟨rfl, rfl, rfl, rfl, fun _ _ => rfl⟩

theorem BankKept.trans {b : Nat} {s t u : State} (h : BankKept b s t) (k : BankKept b t u) : BankKept b s u :=
  ⟨k.stat.trans h.stat, k.vmin.trans h.vmin, k.log.trans h.log, k.bolts.trans h.bolts, fun r c => by rw [k.cells r c, h.cells r c]⟩

theorem PortsFollow.bankKept {s t : State} (h : PortsFollow s t) (b : Nat) : BankKept b s t := by
  obtain ⟨-, hregs, hbolts, -, -⟩ := h.keeps
  exact ⟨congrArg (SMap.get _ · _) hregs, congrArg (SMap.get _ · _) hregs, by rw [h.rest], hbolts, h.cells⟩

theorem pulse_bankKept (s : State) (n bit : Nat) (hn : n < 20) : BankKept n s (s.pulse .iobank n bit) := by
  have hstat : rBankStat n ∉ eventRegisters ⟨.iobank, n⟩ := by
    simp only [eventRegisters, rBankStat, regAddr, Page.base, PageKind.info, List.mem_cons, List.not_mem_nil, or_false]
    omega
  have hvmin : rBankVmin n ∉ eventRegisters ⟨.iobank, n⟩ := by
    simp only [eventRegisters, rBankVmin, regAddr, Page.base, PageKind.info, List.mem_cons, List.not_mem_nil, or_false]
    omega
  exact ⟨State.raise_reg _ _ _ _ hstat, State.raise_reg _ _ _ _ hvmin, State.pulse_log _ _ _ _,
    State.raise_keeps State.bolts (fun _ _ _ => rfl) _ _ _ _, fun r c => by
      rw [show (s.pulse .iobank n bit).cell r c = s.cell r c from State.raise_keeps (·.cell r c) (fun _ _ _ => rfl) _ _ _ _]⟩

theorem BankKept.setBridge {b : Nat} {s t : State} (h : BankKept b s t) (n : Nat) (v : Bridge) : BankKept b s (t.setBridge n v) :=
  ⟨h.stat, h.vmin, h.log, h.bolts, h.cells⟩

theorem zeroSide_bankKept (b n : Nat) (fabric : Bool) (s : State) : BankKept b s (s.zeroSide n fabric) := by
  have hcount : rBankStat b ≠ rSvCnt n ∧ rBankVmin b ≠ rSvCnt n := by
    simp only [rBankStat, rBankVmin, rSvCnt, svReg, regAddr, PageKind.info]
    omega
  have hcounted : BankKept b s (if fabric == s.svOut n then s.count (rSvCnt n) 15 8 (s.bridge n).items else s) := by
    split
    · exact ⟨State.reg_count_other _ _ _ _ hcount.1, State.reg_count_other _ _ _ _ hcount.2, rfl, rfl, fun _ _ => rfl⟩
    · exact BankKept.refl b s
  exact hcounted.setBridge _ _

theorem startResync_bankKept (b n : Nat) (fabric : Bool) (s : State) : BankKept b s (s.startResync n fabric) := by
  unfold State.startResync
  split
  · exact BankKept.refl b s
  · exact ((BankKept.refl b s).setBridge _ _).trans (zeroSide_bankKept b n fabric _)

theorem resetBankBridges_bankKept (b : Nat) (s : State) : BankKept b s (s.resetBankBridges b) :=
  foldl_related (R := BankKept b) BankKept.trans (fun t i => startResync_bankKept b (8 * b + i) false t) _ (BankKept.refl b s)

theorem bankWarn_spec (hc : s.Canonical) (hlow : s.vccoBelow b 7 mv.toNat = true) : let t := bankWarn b mv.toNat s
    t.reg (rBankVmin b) = BitVec.ofNat 32 (min (s.fld (rBankVmin b) 15 0) mv.toNat) ∧ t.log = s.log ∧ t.bolts = s.bolts ∧
      (∀ r c, t.cell r c = s.cell r c) ∧ t.Canonical := by
  have hnoted : (s.vccoNoted b mv.toNat).reg (rBankVmin b) = BitVec.ofNat 32 (min (s.fld (rBankVmin b) 15 0) mv.toNat) :=
    (State.reg_setReg (hc.bankOk_set _ _) _ _ _).trans
      (if_pos rfl)
  have hcanonical : (bankWarn b mv.toNat s).Canonical := (bankWarn_follows b mv.toNat s (Follows.refl s)).memory hc
  rw [bankWarn_below hlow] at hcanonical ⊢
  cases hstat : s.bit (rBankStat b) 30 with
  | true => exact ⟨hnoted, rfl, rfl, fun _ _ => rfl, by simpa only [hstat] using hcanonical⟩
  | false =>
    rw [hstat] at hcanonical
    have hkept := pulse_bankKept ((s.vccoNoted b mv.toNat).setBit (rBankStat b) 30 true) b 0 b.isLt
    have hother : rBankVmin b ≠ rBankStat b := by simp only [rBankVmin, rBankStat, regAddr]; omega
    exact ⟨hkept.vmin.trans ((State.reg_setReg_other _ _ hother).trans hnoted), hkept.log, hkept.bolts,
      fun r c => State.raise_keeps (·.cell r c) (fun _ _ _ => rfl) _ _ _ _, hcanonical⟩

theorem bankDisabled_next (hc : s.Canonical) (hon : s.bankDisabled b = false) (hlow : s.vccoBelow b 10 mv.toNat = true) :
    ∃ t : State, exec (.bankDisabled b mv) s = .next t ∧ t.bankDisabled b = true ∧ (∀ p, bankOfPin p = b.val → t.pinLevel p = false) ∧
      t.fld (rBankVmin b) 15 0 = min (s.fld (rBankVmin b) 15 0) mv.toNat ∧ t.log = s.log ∧ t.bolts = s.bolts ∧
      ∀ r c, t.cell r c = { s.cell r c with armed := (t.cell r c).armed } := by
  have hwarn : s.vccoBelow b 7 mv.toNat = true := by
    have hdeep := of_decide_eq_true hlow
    exact decide_eq_true (by omega)
  obtain ⟨hvmin, hlog, hbolts, hcells, hcanonical⟩ := bankWarn_spec hc hwarn
  have hcond : ¬ (s.bankDisabled b || !s.vccoBelow b 10 mv.toNat) = true := by rw [hon, hlow]; exact Bool.false_ne_true
  have hmarked : ((bankWarn b mv.toNat s).setBit (rBankStat b) 31 true).Canonical := hcanonical.setReg _ _
  have hrefreshed := (State.refreshPins_follows _ (bankPins b) (Follows.refl _)).memory hmarked
  have hkept : BankKept b ((bankWarn b mv.toNat s).setBit (rBankStat b) 31 true)
      ((((((bankWarn b mv.toNat s).setBit (rBankStat b) 31 true).refreshPins (bankPins b)).resetBankBridges b).settle).pulse .iobank b 1) :=
    ((((State.refreshPins_portsFollow _ _).bankKept b).trans (resetBankBridges_bankKept b _)).trans
      ((State.settle_portsFollow ((State.resetBankBridges_follows _ b (Follows.refl _)).memory hrefreshed)).bankKept b)).trans
      (pulse_bankKept _ b 1 b.isLt)
  have hother : rBankVmin b ≠ rBankStat b := by simp only [rBankVmin, rBankStat, regAddr]; omega
  have hdisabled := (congrArg (fun w => bitOf w 31) hkept.stat).trans (State.bit_setBit hcanonical _ _ _ (by decide))
  have hlowest : min (s.fld (rBankVmin b) 15 0) mv.toNat < 2 ^ (15 + 1) := Nat.lt_of_le_of_lt (Nat.min_le_right _ _) mv.isLt
  refine ⟨_, congrArg Host.Outcome.next (if_neg hcond), hdisabled, fun p hp => ?_, ?_, hkept.log.trans hlog, hkept.bolts.trans hbolts,
    fun r c => ?_⟩
  · exact if_pos (by rw [hp]; exact hdisabled)
  · rw [State.fld, hkept.vmin.trans ((State.reg_setReg_other _ _ hother).trans hvmin)]
    exact fieldOf_ofNat hlowest (by decide)
  · refine (hkept.cells r c).trans ?_
    rw [show ((bankWarn b mv.toNat s).setBit (rBankStat b) 31 true).cell r c = s.cell r c from hcells r c]

/-! BANK_REENABLE. -/

/-- The bank whose supply has returned, before it comes back. -/
def State.vccoReturned (s : State) (b : Nat) : State := ({ s with bankOk := SMap.set false s.bankOk b true } : State).setBit (rBankStat b) 30 false

theorem State.vccoReturned_auto (hc : s.Canonical) : (s.vccoReturned b).bit (rBankCfg b) 5 = s.bit (rBankCfg b) 5 := by
  have hne : rBankStat b ≠ rBankCfg b := by simp only [rBankStat, rBankCfg, regAddr]; omega
  exact State.bit_setBit_apart (hc.bankOk_set _ _) _
    (by decide) (Or.inl hne)

theorem State.vccoReturned_disabled (hc : s.Canonical) : (s.vccoReturned b).bankDisabled b = s.bankDisabled b :=
  State.bit_setBit_apart (hc.bankOk_set _ _) _
    (by decide) (Or.inr (by decide))

theorem bankReenable_back (hc : s.Canonical) (hauto : s.bit (rBankCfg b) 5 = true) (hoff : s.bankDisabled b = true) :
    exec (.bankReenable b) s =
      .next ((((s.vccoReturned b).setBit (rBankStat b) 31 false).refreshPins (bankPins b)).settle.pulse .iobank b 2) :=
  congrArg Host.Outcome.next ((if_pos ((State.vccoReturned_auto hc).trans hauto)).trans (if_pos ((State.vccoReturned_disabled hc).trans hoff)))

theorem bankReenable_stays (hc : s.Canonical) (h : s.bit (rBankCfg b) 5 = false ∨ s.bankDisabled b = false) :
    exec (.bankReenable b) s = .next (s.vccoReturned b) := by
  have hexec : exec (.bankReenable b) s = .next (if (s.vccoReturned b).bit (rBankCfg b) 5 then (s.vccoReturned b).enableBank b
    else s.vccoReturned b) := rfl
  rw [hexec, State.enableBank, State.vccoReturned_auto hc, State.vccoReturned_disabled hc]
  rcases h with hauto | hon
  · rw [hauto]; rfl
  · rw [hon]; exact congrArg Host.Outcome.next (ite_self _)

/-! BANK_CMD. -/

theorem bankCmd_access {m : Master} {v : Word} (ha : s.Accepts m.id ⟨.iobank, b⟩ 0x058 v) :
    access (busWrite m.id (regAddr .iobank b 0x058) 15 v) s =
      (bankWritten b 0x058 0 v (s.recorded m.id ⟨.iobank, b⟩ 0x058 v)).done m.id ⟨.iobank, b⟩ 0x058 :=
  access_effect (f := bankWritten b 0x058 0 v) (by decide) ha b.isLt (by decide) (by decide) fun _ _ => rfl

end

/-- Settles O38: the two thresholds in turn; what a disabled bank's fall keeps; and BANK_CMD by the effect of its register. -/
theorem banksComplete : Obligations.BanksComplete := by
  unfold Obligations.BanksComplete
  intro b mv s hc nominal low u ok back
  have hexec : exec (.vccoWarn b mv) s = .next (bankWarn b mv.toNat s) := rfl
  have hother : rBankVmin b ≠ rBankStat b := by simp only [rBankVmin, rBankStat, regAddr]; omega
  refine ⟨fun hhigh => ?above, fun hlow => ?below, fun h => ?keeps, fun hon hlow => ?disables, fun hauto hoff => bankReenable_back hc hauto hoff,
    fun h => bankReenable_stays hc h, ?measure, fun m v ha => ⟨?enable, ?clear⟩⟩
  case above =>
    have hnot : s.vccoBelow b 7 mv.toNat = false := decide_eq_false (Nat.not_lt.mpr hhigh)
    exact ⟨congrArg Host.Outcome.next (bankWarn_above hnot),
      congrArg Host.Outcome.next ((bankDisable_keeps (Or.inr (vccoBelow_deeper hnot))).trans (bankWarn_above hnot))⟩
  case below =>
    rw [hexec, bankWarn_below (decide_eq_true hlow)]
    exact ⟨fun hwarned => congrArg Host.Outcome.next (if_pos hwarned),
      fun hfresh => congrArg Host.Outcome.next (if_neg (by rw [hfresh]; exact Bool.false_ne_true))⟩
  case keeps => exact congrArg Host.Outcome.next (bankDisable_keeps (h.imp_right fun hhigh => decide_eq_false (Nat.not_lt.mpr hhigh)))
  case disables => exact bankDisabled_next hc hon (decide_eq_true hlow)
  case measure =>
    refine congrArg Host.Outcome.next ?_
    rw [vccoMeasured, State.noteVcco, State.fld, State.reg_setFld_other _ _ _ _ hother]
    rfl
  case enable => exact congrArg Host.Outcome.next (bankCmd_access ha)
  case clear => exact congrArg Host.Outcome.next (bankCmd_access ha)

end Sys2Proof.Machine
end

section
/-!
SerDes quads and lanes (R380 to R387, R399; log entry 37): what only takes locks away, and the registers of a lane.
-/

namespace Sys2Proof.Machine

/-! What relocks and resets lanes. -/

/-- Between the states no CDR of a lane gains its lock, and the quad's PWR stays. -/
structure LocksFall (q : Nat) (s t : State) : Prop where
  canonical : s.Canonical → t.Canonical
  power : t.reg (sdReg q 0x008) = s.reg (sdReg q 0x008)
  cdr : s.Canonical → ∀ n w, (s.lane n w).cdr = false → (t.lane n w).cdr = false

theorem LocksFall.refl (q : Nat) (s : State) : LocksFall q s s := ⟨id, rfl, fun _ _ _ => id⟩

theorem LocksFall.trans {q : Nat} {s t u : State} (h : LocksFall q s t) (k : LocksFall q t u) : LocksFall q s u :=
  ⟨fun hc => k.canonical (h.canonical hc), k.power.trans h.power,
    fun hc n w hlane => k.cdr (h.canonical hc) n w (h.cdr hc n w hlane)⟩

/-- What moves no lane. -/
theorem LocksFall.of_lanes {q : Nat} {s t : State} (hcanonical : s.Canonical → t.Canonical) (hpower : t.reg (sdReg q 0x008) = s.reg (sdReg q 0x008))
    (hlanes : t.lanes = s.lanes) : LocksFall q s t :=
  ⟨hcanonical, hpower, fun _ n w hlane => (congrArg (fun m => (SMap.get {} m (4 * n + w) : Lane).cdr) hlanes).trans hlane⟩

/-- A lane written with a lock that it has, or with none. -/
theorem LocksFall.setLane {q : Nat} (s : State) (n w : Nat) {v : Lane} (hv : (s.lane n w).cdr = false → v.cdr = false) :
    LocksFall q s (s.setLane n w v) := by
  refine ⟨fun hc => hc.setLane n w v, rfl, fun hc k j hlane => ?_⟩
  rw [State.lane_setLane hc]
  split
  case isTrue h =>
    have hsame : s.lane n w = s.lane k j := congrArg (fun a => SMap.get ({} : Lane) s.lanes a) h.symm
    exact hv (by rw [hsame]; exact hlane)
  case isFalse => exact hlane

theorem drift_locksFall (s : State) (q i : Nat) (hi : i < 4) : LocksFall q s (s.drift q i) := by
  have hother : sdReg q 0x008 ≠ sdLane q i 0x08 := by simp only [sdReg, sdLane, regAddr]; omega
  unfold State.drift
  split
  · have hcoefs : LocksFall q s ((s.tick.setFld (sdLane q i 0x08) 11 8 s.openValue).setFld (sdLane q i 0x08) 3 0 (s.openValue / 2 ^ 4)) :=
      LocksFall.of_lanes (fun hc => (({ hc with } : s.tick.Canonical).setReg _ _).setReg _ _)
        ((State.reg_setFld_other _ _ _ _ hother).trans (State.reg_setFld_other _ _ _ _ hother)) rfl
    exact hcoefs.trans (LocksFall.setLane _ q i (v := _) id)
  · exact LocksFall.refl q s

theorem pcsEvent_locksFall (s : State) (q n k : Nat) : LocksFall q s (s.pcsEvent n k) := by
  have hother : sdReg q 0x008 ∉ eventRegisters ⟨.pcs, n⟩ := by
    simp only [eventRegisters, sdReg, regAddr, Page.base, PageKind.info, List.mem_cons, List.not_mem_nil, or_false]
    omega
  exact LocksFall.of_lanes (fun hc => (State.pulse_follows s .pcs n k (Follows.refl s)).memory hc) (State.raise_reg _ _ _ _ hother)
    (State.raise_keeps State.lanes (fun _ _ _ => rfl) _ _ _ _)

theorem groupLost_locksFall (s : State) (q i : Nat) : LocksFall q s (s.groupLost q i) := by
  unfold State.groupLost
  split
  case h_1 g _ =>
    split
    case isTrue =>
      have hunaligned : LocksFall q s (s.unalign g) := foldl_related (R := LocksFall q) LocksFall.trans
        (fun t (l : Nat × Nat) => LocksFall.setLane t l.1 l.2 (v := { t.lane l.1 l.2 with aligned := false }) id) _ (LocksFall.refl q s)
      exact hunaligned.trans (pcsEvent_locksFall _ q g 17)
    case isFalse => exact LocksFall.refl q s
  case h_2 => exact LocksFall.refl q s

theorem count_locksFall (s : State) (q b hi lo n : Nat) : LocksFall q s (s.count (rSvCnt b) hi lo n) := by
  have hother : sdReg q 0x008 ≠ rSvCnt b := by
    simp only [sdReg, rSvCnt, svReg, regAddr, PageKind.info]
    omega
  exact LocksFall.of_lanes (fun hc => hc.count _ _ _ _) (State.reg_count_other _ _ _ _ hother) rfl

theorem relockPcs_locksFall (s : State) (q i : Nat) : LocksFall q s (s.relockPcs q i) :=
  ((groupLost_locksFall s q i).trans (LocksFall.setLane (s.groupLost q i) q i
    (v := { (s.groupLost q i).lane q i with block := false, marker := false, codeword := false, aligned := false, skew := 0, buffer := [], txPos := 0 })
    id)).trans (count_locksFall _ q _ _ _ _)

/-- The lane as the relock finds it, with the locks of its receiver gone. -/
def State.cdrDropped (s : State) (q i : Nat) : State :=
  (s.drift q i).setLane q i { (s.drift q i).lane q i with cdr := false, adapted := false, prbs := false }

theorem relockLane_locksFall (s : State) (q i : Nat) (hi : i < 4) : LocksFall q s (s.relockLane q i) :=
  ((drift_locksFall s q i hi).trans (LocksFall.setLane _ q i fun _ => rfl)).trans (relockPcs_locksFall (s.cdrDropped q i) q i)

theorem relockLane_cdr {s : State} (hc : s.Canonical) (q i : Nat) (hi : i < 4) : ((s.relockLane q i).lane q i).cdr = false := by
  have hdrift := (drift_locksFall s q i hi).canonical hc
  refine (relockPcs_locksFall (s.cdrDropped q i) q i).cdr (hdrift.setLane _ _ _) q i ?_
  rw [State.cdrDropped, State.lane_setLane hdrift, if_pos rfl]

theorem zeroSide_locksFall (s : State) (q n : Nat) (fabric : Bool) : LocksFall q s (s.zeroSide n fabric) := by
  have hcounted : LocksFall q s (if fabric == s.svOut n then s.count (rSvCnt n) 15 8 (s.bridge n).items else s) := by
    split
    · exact count_locksFall s q n _ _ _
    · exact LocksFall.refl q s
  exact ⟨fun hc => (State.zeroSide_follows s n fabric (Follows.refl s)).memory hc, hcounted.power, hcounted.cdr⟩

theorem setBridge_locksFall (s : State) (q n : Nat) (v : Bridge) : LocksFall q s (s.setBridge n v) :=
  LocksFall.of_lanes (State.setBridge_follows s n v (Follows.refl s)).memory rfl rfl

theorem startResync_locksFall (s : State) (q n : Nat) (fabric : Bool) : LocksFall q s (s.startResync n fabric) := by
  unfold State.startResync
  split
  · exact LocksFall.refl q s
  · exact (setBridge_locksFall s q n _).trans (zeroSide_locksFall _ q n fabric)

theorem resetLaneBridges_locksFall (s : State) (q i : Nat) : LocksFall q s (s.resetLaneBridges q i) :=
  (startResync_locksFall s q _ false).trans (startResync_locksFall _ q _ false)

/-- A lane of a quad in reset. -/
def State.laneReset (s : State) (q i : Nat) : State := (s.relockLane q i).resetLaneBridges q i

theorem laneReset_locksFall (s : State) (q i : Nat) (hi : i < 4) : LocksFall q s (s.laneReset q i) :=
  (relockLane_locksFall s q i hi).trans (resetLaneBridges_locksFall _ q i)

theorem lanesReset_spec (q : Nat) (l : List Nat) : (∀ i ∈ l, i < 4) → ∀ {s : State}, s.Canonical →
    LocksFall q s (l.foldl (fun s i => s.laneReset q i) s) ∧ ∀ k ∈ l, ((l.foldl (fun s i => s.laneReset q i) s).lane q k).cdr = false := by
  induction l with
  | nil => exact fun _ s _ => ⟨LocksFall.refl q s, fun k hk => absurd hk List.not_mem_nil⟩
  | cons i l ih =>
    intro hl s hc
    have hi : i < 4 := hl i List.mem_cons_self
    have hfirst := laneReset_locksFall s q i hi
    have hdropped : ((s.laneReset q i).lane q i).cdr = false :=
      (resetLaneBridges_locksFall (s.relockLane q i) q i).cdr ((relockLane_locksFall s q i hi).canonical hc) q i (relockLane_cdr hc q i hi)
    obtain ⟨hrest, hlost⟩ := ih (fun k hk => hl k (List.mem_cons_of_mem _ hk)) (hfirst.canonical hc)
    refine ⟨hfirst.trans hrest, fun k hk => ?_⟩
    rcases List.mem_cons.mp hk with rfl | hmem
    · exact hrest.cdr (hfirst.canonical hc) q k hdropped
    · exact hlost k hmem

/-! A quad is switched off. -/

/-- A lane without a signal. -/
def State.laneSilent (s : State) (q i : Nat) : State := s.setLane q i { s.lane q i with signal := false, level := 0 }

theorem laneSilent_lane {s : State} (hc : s.Canonical) (q i k : Nat) : (s.laneSilent q i).lane q k =
    if 4 * q + k = 4 * q + i then { s.lane q i with signal := false, level := 0 } else s.lane q k := State.lane_setLane hc _ _ _ _ _

theorem laneSilent_locksFall (s : State) (q i : Nat) : LocksFall q s (s.laneSilent q i) :=
  LocksFall.setLane s q i (v := { s.lane q i with signal := false, level := 0 }) id

theorem lanesSilent_spec {s : State} (hc : s.Canonical) (q : Nat) : let t := lanes4.foldl (fun s i => s.laneSilent q i) s
    LocksFall q s t ∧ t.quads = s.quads ∧ ∀ k < 4, (t.lane q k).signal = false ∧ (t.lane q k).level = 0 := by
  refine ⟨foldl_related (R := LocksFall q) LocksFall.trans (fun u i => laneSilent_locksFall u q i) _ (LocksFall.refl q s),
    foldl_related (R := fun s t => t.quads = s.quads) (fun h k => k.trans h) (f := fun s i => s.laneSilent q i) (fun u i => rfl) _ rfl,
    fun k hk => foldl_establishes (f := fun s i => s.laneSilent q i) (P := fun t k => (t.lane q k).signal = false ∧ (t.lane q k).level = 0) (fun u i hu => hu.setLane _ _ _)
      (fun u i hu => ?_) (fun u i j hu h => ?_) lanes4 hc k (Or.inl (List.mem_range.mpr hk))⟩
  · rw [laneSilent_lane hu, if_pos rfl]
    exact ⟨rfl, rfl⟩
  · rw [laneSilent_lane hu]
    split
    · exact ⟨rfl, rfl⟩
    · exact h

theorem quadPwrOp_off {s : State} (hc : s.Canonical) (q : Nat) (hoff : s.quadOn q = false) : let t := quadPwrOp q true s
    t.quadOn q = false ∧ (t.quad q).pll = false ∧ (t.quad q).relock = false ∧
      ∀ k < 4, (t.lane q k).cdr = false ∧ (t.lane q k).signal = false ∧ (t.lane q k).level = 0 := by
  obtain ⟨hreset, hcdr⟩ := lanesReset_spec q lanes4 (fun i hi => List.mem_range.mp hi) hc
  have hop : quadPwrOp q true s = lanes4.foldl (fun s i => s.laneSilent q i) ((lanes4.foldl (fun s i => s.laneReset q i) s).setQuad q
      { (lanes4.foldl (fun s i => s.laneReset q i) s).quad q with pll := false, relock := false }) := by
    unfold quadPwrOp
    rw [hoff]
    rfl
  have hmiddle := hreset.canonical hc
  generalize lanes4.foldl (fun s i => s.laneReset q i) s = u at *
  have hcanonical : (u.setQuad q { u.quad q with pll := false, relock := false }).Canonical := hmiddle.setQuad _ _
  have hquad := State.quad_setQuad hmiddle q q { u.quad q with pll := false, relock := false }
  rw [if_pos rfl] at hquad
  obtain ⟨hfall, hquads, hsilent⟩ := lanesSilent_spec hcanonical q
  rw [← hop] at hfall hquads hsilent
  have hsame : (quadPwrOp q true s).quad q = { u.quad q with pll := false, relock := false } :=
    (congrArg (fun m => SMap.get ({} : Quad) m q) hquads).trans hquad
  exact ⟨(congrArg (fun w => bitOf w 0) (hfall.power.trans hreset.power)).trans hoff, congrArg Quad.pll hsame, congrArg Quad.relock hsame,
    fun k hk => ⟨hfall.cdr hcanonical q k (hcdr k (List.mem_range.mpr hk)), hsilent k hk⟩⟩

/-! Writes of the SERDES page. -/

theorem writtenWord_power (old v : Word) : bitOf (writtenWord [rw 0 0 0] old v) 0 = bitOf v 0 := by
  have hpow : v.toNat &&& 1 < 2 ^ 32 := Nat.lt_of_le_of_lt (Nat.and_le_right) (by decide)
  simp only [Nat.reducePow] at hpow
  simp only [bitOf, writtenWord, List.foldl_cons, List.foldl_nil, rw, Field.mask, Nat.reduceSub, Nat.reducePow, Nat.reduceMul,
    Nat.zero_add, BitVec.toNat_ofNat]
  rw [Nat.mod_eq_of_lt hpow]
  simp only [Nat.testBit_and, Nat.testBit_one_zero, Bool.and_true]

section

variable {m : Master} {q : Fin 12} {i : Fin 4} {v : Word} {s : State}

theorem recorded_serdes (off : Nat) (hoff : off < 0x100) : s.recorded m.id ⟨.serdes, q⟩ off v = { s with
    regs := (s.recorded m.id ⟨.serdes, q⟩ off v).regs, ev := (s.recorded m.id ⟨.serdes, q⟩ off v).ev,
    log := (s.recorded m.id ⟨.serdes, q⟩ off v).log, resp := {} } := recorded_frame (p := ⟨.serdes, q⟩) (fun _ => hoff) rfl

theorem recorded_serdes_quad (off : Nat) (hoff : off < 0x100) : (s.recorded m.id ⟨.serdes, q⟩ off v).quad q = s.quad q := by
  rw [recorded_serdes off hoff]
  rfl

theorem recorded_quadOn (hc : s.Canonical) : (s.recorded m.id ⟨.serdes, q⟩ 0x008 v).quadOn q = bitOf v 0 := by
  have hfields : fieldsAt ⟨.serdes, q⟩ 0x008 = [rw 0 0 0] := by
    simp only [fieldsAt, headerRegs, Reg.covers, one, ctrlFields]
    rfl
  have hstored := (recorded_regs (p := ⟨.serdes, q⟩) (off := 0x008) (v := v) (m := m.id) hc (fun _ => by decide) (by decide) rfl (by decide) q.isLt).1
  rw [hfields] at hstored
  exact (congrArg (fun w => bitOf w 0) hstored).trans (writtenWord_power _ _)

theorem quadPwr_access (ha : s.Accepts m.id ⟨.serdes, q⟩ 0x008 v) : exec (.quadPwr m q v) s =
    .next ((quadPwrOp q (s.quadOn q) (s.recorded m.id ⟨.serdes, q⟩ 0x008 v)).done m.id ⟨.serdes, q⟩ 0x008) := by
  have hwrite := access_write_plain (by decide) ha q.isLt (by decide) (by decide)
  rw [recorded_begun (fun _ => by decide)] at hwrite
  exact congrArg Host.Outcome.next hwrite

theorem quadPwr_on (hc : s.Canonical) (ha : s.Accepts m.id ⟨.serdes, q⟩ 0x008 v) (hbit : bitOf v 0 = true) (hoff : s.quadOn q = false) :
    exec (.quadPwr m q v) s = .next (((s.recorded m.id ⟨.serdes, q⟩ 0x008 v).setQuad q
      { s.quad q with relock := true, refLost := false }).done m.id ⟨.serdes, q⟩ 0x008) := by
  rw [quadPwr_access ha, hoff, quadPwrOp, recorded_quadOn hc, hbit, recorded_serdes_quad _ (by decide)]
  rfl

theorem quadPwr_off (hc : s.Canonical) (ha : s.Accepts m.id ⟨.serdes, q⟩ 0x008 v) (hbit : bitOf v 0 = false) (hon : s.quadOn q = true) :
    ∃ t, exec (.quadPwr m q v) s = .next t ∧ t.quadOn q = false ∧ (t.quad q).pll = false ∧ (t.quad q).relock = false ∧
      ∀ k < 4, (t.lane q k).cdr = false ∧ (t.lane q k).signal = false ∧ (t.lane q k).level = 0 := by
  obtain ⟨hpower, hpll, hrelock, hlanes⟩ := quadPwrOp_off (hc.recorded (m := m.id) (p := ⟨.serdes, q⟩) (off := 0x008) (v := v)
    (fun _ => by decide)) q ((recorded_quadOn hc).trans hbit)
  have haccess := quadPwr_access ha
  rw [hon] at haccess
  have hquad := State.done_keeps (fun t => t.quad q) (fun _ _ _ => rfl) (quadPwrOp q true (s.recorded m.id ⟨.serdes, q⟩ 0x008 v)) m.id
    ⟨.serdes, q⟩ 0x008
  refine ⟨_, haccess, (State.done_bit _ _ _ _ _ _).trans hpower, (congrArg Quad.pll hquad).trans hpll, (congrArg Quad.relock hquad).trans hrelock,
    fun k hk => ?_⟩
  rw [State.done_keeps (fun t => t.lane q k) (fun _ _ _ => rfl)]
  exact hlanes k hk

theorem sdCmd_access {f : State → State} (ha : s.Accepts m.id ⟨.serdes, q⟩ 0x044 v) (heffect : ∀ old u, serdesWritten q 0x044 old v u = f u) :
    access (busWrite m.id (regAddr .serdes q 0x044) 15 v) s = (f (s.recorded m.id ⟨.serdes, q⟩ 0x044 v)).done m.id ⟨.serdes, q⟩ 0x044 :=
  access_effect (by decide) ha q.isLt (by decide) (by decide) heffect

theorem sdApply_next (hc : s.Canonical) (ha : s.Accepts m.id ⟨.serdes, q⟩ 0x044 1) : exec (.sdApply m q) s =
    .next (((((s.recorded m.id ⟨.serdes, q⟩ 0x044 1).setQuad q { s.quad q with qcfg := s.reg (sdReg q 0x040), refLost := false }).resetQuad
      q true)).done m.id ⟨.serdes, q⟩ 0x044) := by
  have hstaged : (s.recorded m.id ⟨.serdes, q⟩ 0x044 1).reg (sdReg q 0x040) = s.reg (sdReg q 0x040) := by
    refine (recorded_regs (p := ⟨.serdes, q⟩) hc (fun _ => by decide) (by decide) rfl (by decide) q.isLt).2 _ ?_ ?_ ?_ ?_ <;>
      simp only [sdReg, regAddr, Page.base, PageKind.info] <;> omega
  have hwrite := sdCmd_access (f := sdApplyOp q) ha fun _ _ => rfl
  rw [sdApplyOp, hstaged, recorded_serdes_quad _ (by decide)] at hwrite
  exact congrArg Host.Outcome.next hwrite

/-- The counts of a quad's lanes. -/
def sdCounts (q : Nat) : List Nat := lanes4.flatMap fun i => [sdLane q i 0x18, sdLane q i 0x1C]

theorem sdClrCounts_next (hc : s.Canonical) (ha : s.Accepts m.id ⟨.serdes, q⟩ 0x044 4) :
    ∃ t, exec (.sdClrCounts m q) s = .next t ∧ t.resp.code = 0 ∧ (∀ k < 4, t.reg (sdLane q k 0x18) = 0 ∧ t.reg (sdLane q k 0x1C) = 0) ∧
      t = { s with regs := t.regs, ev := t.ev, log := t.log, resp := t.resp, jtag := { s.jtag with out := t.jtag.out } } := by
  have hclear (u : State) : sdClear q u = (sdCounts q).foldl (fun s a => s.setReg a 0) u := by
    rw [sdCounts, List.foldl_flatMap]
    rfl
  have hwrite := sdCmd_access (f := sdClear q) ha fun old u => show serdesWritten q 0x044 old 4 u = sdClear q u from rfl
  rw [hclear] at hwrite
  obtain ⟨hcode, hzero, -, hframe⟩ := cleared_done (k := .serdes) (n := q) (m := m.id) (off := 0x044) (v := 4) hc (fun _ => by decide) rfl
    (sdCounts q)
  refine ⟨_, congrArg Host.Outcome.next hwrite, hcode, fun k hk => ⟨hzero _ ?_, hzero _ ?_⟩, hframe⟩
  · exact List.mem_flatMap.mpr ⟨k, List.mem_range.mpr hk, List.mem_cons_self⟩
  · exact List.mem_flatMap.mpr ⟨k, List.mem_range.mpr hk, List.mem_cons_of_mem _ List.mem_cons_self⟩

/-! Registers of a lane. -/

/-- What a lane register shows that is stored as it is shown: neither SD_DFE nor SD_LSTAT. -/
theorem view_laneReg {u : State} {o : Nat} (ho : o ∈ [0x00, 0x14]) :
    u.view m.id ⟨.serdes, q⟩ (0x100 + 0x40 * i.val + o) = u.reg (sdLane q i o) := by
  have hnone : u.serdesView q (0x100 + 0x40 * i.val + o) = none := by
    have hplace : (0x100 + 0x40 * i.val + o) % 0x40 = o := by
      simp only [List.mem_cons, List.not_mem_nil, or_false] at ho
      omega
    have hlow : ¬ 0x100 + 0x40 * i.val + o < 0x100 := by omega
    have hstat : ¬ 0x100 + 0x40 * i.val + o = 0x00C := by omega
    simp only [State.serdesView, if_neg hlow, if_neg hstat, hplace]
    simp only [List.mem_cons, List.not_mem_nil, or_false] at ho
    rcases ho with rfl | rfl <;> rfl
  exact congrArg (fun o' : Option Word => o'.getD (u.reg (sdLane q i o))) hnone

theorem prbsInject_next (ha : s.Accepts m.id ⟨.serdes, q⟩ (0x100 + 0x40 * i.val + 0x14) v) :
    let r := prbsWritten q i (s.reg (sdLane q i 0x14)) (s.recorded m.id ⟨.serdes, q⟩ (0x100 + 0x40 * i.val + 0x14) v)
    exec (.prbsInject m q i v) s =
      .next ((if bitOf v 0 then prbsInjectOp q i r else r).done m.id ⟨.serdes, q⟩ (0x100 + 0x40 * i.val + 0x14)) := by
  have hwrite := access_write_plain (by decide) ha q.isLt (by omega) (by omega)
  have hbegun : s.begun ⟨.serdes, q⟩ (0x100 + 0x40 * i.val + 0x14) = s.forgetAnswer := if_neg fun h => by omega
  have heffect (old : Word) (u : State) : State.effectAt m.id ⟨.serdes, q⟩ (0x100 + 0x40 * i.val + 0x14) old v u =
      if bitOf v 0 then prbsInjectOp q i (prbsWritten q i old u) else prbsWritten q i old u := by
    have hlow : ¬ 0x100 + 0x40 * i.val + 0x14 < 0x100 := by omega
    have hctrl : ¬ 0x100 + 0x40 * i.val + 0x14 = 0x008 := by omega
    have hcmd : ¬ 0x100 + 0x40 * i.val + 0x14 = 0x044 := by omega
    have hplace : (0x100 + 0x40 * i.val + 0x14) % 0x40 = 0x14 := by omega
    have hlane : offLane (0x100 + 0x40 * i.val + 0x14) = i := by unfold offLane; omega
    simp only [State.effectAt, serdesWritten, if_neg hlow, if_neg hctrl, if_neg hcmd, hplace, hlane]
  rw [hbegun, heffect, view_laneReg (by decide)] at hwrite
  exact congrArg Host.Outcome.next hwrite

theorem drift_reg (u : State) {q i a : Nat} (ha : a ≠ sdLane q i 0x08) : (u.drift q i).reg a = u.reg a := by
  have hcoefs : ((u.tick.setFld (sdLane q i 0x08) 11 8 u.openValue).setFld (sdLane q i 0x08) 3 0 (u.openValue / 2 ^ 4)).reg a = u.reg a :=
    (State.reg_setFld_other _ _ _ _ ha).trans (State.reg_setFld_other _ _ _ _ ha)
  unfold State.drift
  split
  · exact hcoefs
  · rfl

theorem loopbackChange_next (ha : s.Accepts m.id ⟨.serdes, q⟩ (0x100 + 0x40 * i.val) v) : exec (.loopbackChange m q i v) s = .next
    ((lcfgWritten q i (s.reg (sdLane q i 0x00)) (s.recorded m.id ⟨.serdes, q⟩ (0x100 + 0x40 * i.val) v)).done m.id ⟨.serdes, q⟩
      (0x100 + 0x40 * i.val)) := by
  have hwrite := access_write_plain (by decide) ha q.isLt (by omega) (by omega)
  have hlane : offLane (0x100 + 0x40 * i.val) = i := by unfold offLane; omega
  have hplace : (0x100 + 0x40 * i.val) % 0x40 = 0x00 := by omega
  have hbegun : s.begun ⟨.serdes, q⟩ (0x100 + 0x40 * i.val) = s.forgetAnswer.drift q i := by
    have hdrifts : PageKind.serdes = .serdes ∧ 0x100 ≤ 0x100 + 0x40 * i.val ∧ (0x100 + 0x40 * i.val) % 0x40 = 0x00 := ⟨rfl, by omega, hplace⟩
    rw [State.begun, if_pos hdrifts, hlane]
  have heffect (old : Word) (u : State) : State.effectAt m.id ⟨.serdes, q⟩ (0x100 + 0x40 * i.val) old v u = lcfgWritten q i old u := by
    have hlow : ¬ 0x100 + 0x40 * i.val < 0x100 := by omega
    have hctrl : ¬ 0x100 + 0x40 * i.val = 0x008 := by omega
    have hcmd : ¬ 0x100 + 0x40 * i.val = 0x044 := by omega
    simp only [State.effectAt, serdesWritten, if_neg hlow, if_neg hctrl, if_neg hcmd, hplace, hlane]
  have hview := view_laneReg (m := m) (q := q) (i := i) (u := s.forgetAnswer.drift q i) (o := 0x00) (by decide)
  have hother : sdLane q i 0x00 ≠ sdLane q i 0x08 := by simp only [sdLane, regAddr]; omega
  rw [Nat.add_zero, drift_reg _ hother] at hview
  rw [hbegun, heffect, hview] at hwrite
  exact congrArg Host.Outcome.next hwrite

end

/-! What happens at a quad and at a lane. -/

/-- The taps of an equaliser that adaptation has found. -/
def dfeTaken (n : Nat) (dfe : List Byte) (m : SMap Byte) : SMap Byte := (List.range n).foldl (fun m k => SMap.set 0 m k (dfe.getD k 0)) m

theorem dfeTaken_succ (n : Nat) (dfe : List Byte) (m : SMap Byte) :
    dfeTaken (n + 1) dfe m = SMap.set 0 (dfeTaken n dfe m) n (dfe.getD n 0) := by
  rw [dfeTaken, List.range_succ, List.foldl_append]
  rfl

theorem dfeTaken_wf (dfe : List Byte) {m : SMap Byte} (hm : SMap.wf (fun _ => (0 : Byte)) m = true) (n : Nat) :
    SMap.wf (fun _ => (0 : Byte)) (dfeTaken n dfe m) = true := by
  induction n with
  | zero => exact hm
  | succ n ih =>
    rw [dfeTaken_succ]
    exact SMap.wf_set (d := fun _ => (0 : Byte)) ih

theorem dfeTaken_get (dfe : List Byte) {m : SMap Byte} (hm : SMap.wf (fun _ => (0 : Byte)) m = true) (n : Nat) :
    ∀ k < n, SMap.get 0 (dfeTaken n dfe m) k = dfe.getD k 0 := by
  induction n with
  | zero => exact fun k hk => absurd hk (Nat.not_lt_zero k)
  | succ n ih =>
    intro k hk
    rw [dfeTaken_succ, SMap.get_set _ _ _ _ _ (SMap.wf_sorted (dfeTaken_wf dfe hm n))]
    split
    case isTrue h => rw [h]
    case isFalse h => exact ih k (by omega)

section

variable {q : Fin 12} {i : Fin 4} {s : State}

theorem pllLocked_next (hon : s.quadOn q = true) (hrelock : (s.quad q).relock = true) (href : s.refBad q = false) (hpower : s.pwr.removed = false) :
    exec (.pllLocked q) s = .next (((List.range 4).foldl (fun s k => s.setLane q k { s.lane q k with inject := false })
      (s.setQuad q { s.quad q with pll := true, relock := false })).sdEvent q 16) :=
  congrArg Host.Outcome.next (if_pos (by rw [hon, hrelock, href, hpower]; rfl))

theorem sdRefLost_next (hon : s.quadOn q = true) (hseen : (s.quad q).refLost = false) (href : s.refBad q = true) : exec (.sdRefLost q) s =
    .next ((s.setQuad q { s.quad q with pll := false, relock := true, refLost := true }).sdEvent q 17) :=
  congrArg Host.Outcome.next (if_pos (by rw [hon, hseen, href]; rfl))

theorem cdrLocked_next (hon : s.quadOn q = true) (hpll : (s.quad q).pll = true) (hreceives : s.receives q i = true)
    (hcdr : (s.lane q i).cdr = false) : exec (.cdrLocked q i) s =
      .next ((s.setLane q i { s.lane q i with cdr := true, signal := true, adapted := false }).sdEvent q (4 * i)) :=
  congrArg Host.Outcome.next (if_pos (by rw [hon, hpll, hreceives, hcdr]; rfl))

theorem ebSlip_next (level : Fin 33) (hon : s.quadOn q = true) (hcdr : (s.lane q i).cdr = true) (hclock : i.val ≠ fieldOf (s.quad q).qcfg 19 18) :
    exec (.ebSlip q i level) s =
      .next (((s.setLane q i { s.lane q i with level := level }).count (sdLane q i 0x1C) 31 16 1).sdEvent q (4 * i + 3)) := by
  have hother : decide (i.val ≠ s.clockLane q) = true := decide_eq_true hclock
  exact congrArg Host.Outcome.next (if_pos (by rw [hon, hcdr, hother]; rfl))

theorem prbsLock_next (hon : s.quadOn q = true) (hcdr : (s.lane q i).cdr = true) (hrx : s.prbsRx q i ≠ 0) :
    exec (.prbsLock q i) s = .next (s.setLane q i { s.lane q i with prbs := true }) :=
  congrArg Host.Outcome.next (if_pos (by rw [hon, hcdr, decide_eq_true hrx]; rfl))

theorem adaptDone_next (hc : s.Canonical) (vga ctle : BitVec 4) (dfe : List Byte) (hdfe : dfeOk dfe = true) (hon : s.quadOn q = true)
    (hcdr : (s.lane q i).cdr = true) (hweft : s.weftUp = true) (hmode : s.fld (sdLane q i 0x00) 26 25 = 2) (hnew : (s.lane q i).adapted = false) :
    ∃ z : State, exec (.adaptDone q i vga ctle dfe) s = .next (z.sdEvent q (4 * i + 2)) ∧ z.fld (sdLane q i 0x08) 11 8 = vga.toNat ∧
      z.fld (sdLane q i 0x08) 3 0 = ctle.toNat ∧ z = { s with regs := z.regs, lanes := z.lanes } ∧ (z.lane q i).adapted = true ∧
      (SMap.wf (fun _ => (0 : Byte)) (s.lane q i).dfe = true → ∀ k < 24, SMap.get 0 (z.lane q i).dfe k = dfe.getD k 0) := by
  have h1 : (s.setFld (sdLane q i 0x08) 11 8 vga.toNat).Canonical := hc.setReg _ _
  have h2 : ((s.setFld (sdLane q i 0x08) 11 8 vga.toNat).setFld (sdLane q i 0x08) 3 0 ctle.toNat).Canonical := h1.setReg _ _
  have hadapting : (s.adapting q i && decide (s.fld (sdLane q i 0x00) 26 25 = 2)) = true := by
    simp only [State.adapting, hon, hcdr, hweft, hmode, hnew, decide_true, Bool.not_false, Bool.and_self, Bool.or_true]
  have hexec : exec (.adaptDone q i vga ctle dfe) s = .next (adaptDoneOp q i vga.toNat ctle.toNat dfe s) := if_pos hdfe
  have hlane := (State.lane_setLane h2 q i q i { s.lane q i with adapted := true, dfe := dfeTaken 24 dfe (s.lane q i).dfe }).trans (if_pos rfl)
  refine ⟨_, hexec.trans (congrArg Host.Outcome.next (if_pos hadapting)), ?_, ?_, rfl, congrArg Lane.adapted hlane, fun hwf k hk => ?_⟩
  · exact (State.fld_setFld_apart h1 _ (by decide) (Or.inr (by decide))).trans ((State.fld_setFld hc _ _ _ _ (by decide) (by decide)).trans
      (Nat.mod_eq_of_lt vga.isLt))
  · exact (State.fld_setFld h1 _ _ _ _ (by decide) (by decide)).trans (Nat.mod_eq_of_lt ctle.isLt)
  · exact (congrArg (fun l : Lane => SMap.get 0 l.dfe k) hlane).trans (dfeTaken_get dfe hwf 24 k hk)

theorem cdrLost_next (hcdr : (s.lane q i).cdr = true) : let d := s.drift q i
    ∃ sig : Bool, exec (.cdrLost q i) s = .next
      (((d.tick.setLane q i { d.lane q i with cdr := false, signal := sig, adapted := false }).count (sdLane q i 0x1C) 15 8 1).sdEvent q
        (4 * i + 1)) := ⟨decide ((s.drift q i).openValue % 2 = 1), congrArg Host.Outcome.next (if_pos hcdr)⟩

end

/-- Settles O41: the locks that a switched-off quad loses, the effects of the page's registers, and each occurrence under its guard. -/
theorem quadsAndLanesComplete : Obligations.QuadsAndLanesComplete := by
  unfold Obligations.QuadsAndLanesComplete
  refine ⟨?writes, ?occurrences⟩
  case writes =>
    intro m q i v s hc p u lane
    exact ⟨fun ha => quadPwr_on hc ha, fun ha => quadPwr_off hc ha, fun ha => sdApply_next hc ha,
      fun ha => congrArg Host.Outcome.next (sdCmd_access (f := sdResetOp q) ha fun _ _ => rfl), fun ha => sdClrCounts_next hc ha,
      fun ha => prbsInject_next ha, fun ha => loopbackChange_next ha⟩
  case occurrences =>
    intro q i s hc c v
    refine ⟨fun hon => ⟨fun hrelock href hpower => pllLocked_next hon hrelock href hpower, fun hseen href => sdRefLost_next hon hseen href,
      fun hpll hreceives hcdr => cdrLocked_next hon hpll hreceives hcdr, fun hcdr => ⟨fun level hclock => ebSlip_next level hon hcdr hclock,
        fun hrx => prbsLock_next hon hcdr hrx, fun vga ctle dfe hdfe hweft hmode hnew => adaptDone_next hc vga ctle dfe hdfe hon hcdr hweft hmode hnew⟩⟩,
      fun hcdr => cdrLost_next hcdr, fun hadapting => if_neg (by rw [hadapting]; exact Bool.false_ne_true),
      fun bits hlock => congrArg Host.Outcome.next (if_pos hlock), fun meas => rfl⟩

end Sys2Proof.Machine
end

section
/-!
The PCS (R388 to R396, R401; log entry 38): lanes written one after another, bond groups, and received frames.
-/

namespace Sys2Proof.Machine

/-! Several lanes written in turn. -/

/-- The number of a lane on the device (R379). -/
def laneIndex (l : Nat × Nat) : Nat := 4 * l.1 + l.2

section

variable {β : Type} (key : β → Nat × Nat) (f : β → Lane → Lane)

/-- Each item of a list changes its lane. -/
def State.mapLanes (s : State) (xs : List β) : State :=
  xs.foldl (fun s x => s.setLane (key x).1 (key x).2 (f x (s.lane (key x).1 (key x).2))) s

theorem State.mapLanes_frame (xs : List β) : ∀ s : State, s.mapLanes key f xs = { s with lanes := (s.mapLanes key f xs).lanes } := by
  induction xs with
  | nil => exact fun s => rfl
  | cons x xs ih => exact fun s => (ih (s.setLane (key x).1 (key x).2 (f x (s.lane (key x).1 (key x).2)))).trans rfl

theorem State.mapLanes_other (xs : List β) : ∀ {s : State}, s.Canonical → ∀ k, k ∉ xs.map (fun x => laneIndex (key x)) →
    SMap.get {} (s.mapLanes key f xs).lanes k = SMap.get {} s.lanes k := by
  induction xs with
  | nil => exact fun _ _ _ => rfl
  | cons x xs ih =>
    intro s hc k hk
    simp only [List.map_cons, List.mem_cons, not_or] at hk
    obtain ⟨hfirst, hrest⟩ := hk
    exact (ih (hc.setLane _ _ _) k hrest).trans (SMap.get_set_other _ _ _ _ hfirst)

theorem State.mapLanes_lane (xs : List β) : xs.Pairwise (fun x y => laneIndex (key x) ≠ laneIndex (key y)) → ∀ {s : State}, s.Canonical →
    ∀ x ∈ xs, (s.mapLanes key f xs).lane (key x).1 (key x).2 = f x (s.lane (key x).1 (key x).2) := by
  induction xs with
  | nil => exact fun _ _ _ x hx => absurd hx List.not_mem_nil
  | cons y ys ih =>
    intro hdistinct s hc x hx
    obtain ⟨hfirst, hrest⟩ := List.pairwise_cons.mp hdistinct
    have hc' : (s.setLane (key y).1 (key y).2 (f y (s.lane (key y).1 (key y).2))).Canonical := hc.setLane _ _ _
    rcases List.mem_cons.mp hx with rfl | hmem
    · have hkept : laneIndex (key x) ∉ ys.map (fun x => laneIndex (key x)) := fun h => by
        obtain ⟨z, hz, heq⟩ := List.mem_map.mp h
        exact hfirst z hz heq.symm
      exact (State.mapLanes_other key f ys hc' _ hkept).trans ((State.lane_setLane hc _ _ _ _ _).trans (if_pos rfl))
    · have hother : ¬ 4 * (key x).1 + (key x).2 = 4 * (key y).1 + (key y).2 := fun h => hfirst x hmem h.symm
      have hlane : (s.setLane (key y).1 (key y).2 (f y (s.lane (key y).1 (key y).2))).lane (key x).1 (key x).2 = s.lane (key x).1 (key x).2 :=
        (State.lane_setLane hc _ _ _ _ _).trans (if_neg hother)
      exact (ih hrest hc' x hmem).trans (congrArg (f x) hlane)

end

/-! Bond groups (R395). -/

theorem bondLanes_distinct (q : Nat) (w : Word) : (bondLanes q w).Pairwise (fun x y => laneIndex x ≠ laneIndex y) := by
  have hone (n : Nat) (p : Nat → Bool) : ((lanes4.filter p).map (fun i => (n, i))).Pairwise (fun x y => laneIndex x ≠ laneIndex y) := by
    have hlanes : lanes4.Pairwise (fun i j => laneIndex (n, i) ≠ laneIndex (n, j)) :=
      List.nodup_range.imp fun hij h => hij (Nat.add_left_cancel h)
    exact List.pairwise_map.mpr (hlanes.filter p)
  unfold bondLanes
  split
  · refine List.pairwise_append.mpr ⟨hone q _, hone (q + 1) _, fun x hx y hy => ?_⟩
    obtain ⟨i, hi, rfl⟩ := List.mem_map.mp hx
    obtain ⟨j, -, rfl⟩ := List.mem_map.mp hy
    have hlow : i < 4 := List.mem_range.mp (List.mem_filter.mp hi).1
    unfold laneIndex
    omega
  · exact List.Pairwise.nil

section

variable {q : Fin 12} {s : State}

/-- A lane of a group that becomes aligned. -/
def laneAligned (seq : Nat) (x : (Nat × Nat) × Fin 17) (v : Lane) : Lane := { v with aligned := true, skew := x.2, seq := seq }

/-- A group whose lanes all hold marker lock and are not aligned. -/
def State.bondReady (s : State) (g : List (Nat × Nat)) : Bool :=
  g.all fun l => s.pcsRuns l.1 l.2 && (s.lane l.1 l.2).marker && !(s.lane l.1 l.2).aligned

theorem bondAlignedOp_ready {first : Nat × Nat} {rest : List (Nat × Nat)} (skews : List (Fin 17))
    (hgroup : bondLanes q (s.quad q).bond = first :: rest) (hready : s.bondReady (first :: rest) = true)
    (hlength : skews.length = (first :: rest).length) : bondAlignedOp q (skews.map (fun k => k.val)) s =
      (s.mapLanes Prod.fst (laneAligned (s.lane first.1 first.2).seq) ((first :: rest).zip skews)).pcsEvent q 16 := by
  have hlength' : (skews.map (fun k => k.val)).length = (first :: rest).length := List.length_map .. |>.trans hlength
  have hcond := Bool.and_eq_true_iff.mpr ⟨hready, decide_eq_true hlength'⟩
  unfold State.bondReady at hcond
  simp only [bondAlignedOp, hgroup, hcond, if_true]
  rw [List.zip_map_right, List.foldl_map]
  rfl

theorem bondAligned_next (hc : s.Canonical) (skews : List (Fin 17)) (hsome : bondLanes q (s.quad q).bond ≠ [])
    (hlength : skews.length = (bondLanes q (s.quad q).bond).length) (hready : ∀ l ∈ bondLanes q (s.quad q).bond,
      s.pcsRuns l.1 l.2 = true ∧ (s.lane l.1 l.2).marker = true ∧ (s.lane l.1 l.2).aligned = false) :
    ∃ z : State, exec (.bondAligned q skews) s = .next (z.pcsEvent q 16) ∧ z = { s with lanes := z.lanes } ∧
      (∀ x ∈ (bondLanes q (s.quad q).bond).zip skews, z.lane x.1.1 x.1.2 = { s.lane x.1.1 x.1.2 with
        aligned := true, skew := x.2, seq := (s.lane ((bondLanes q (s.quad q).bond).headD (q, 0)).1 ((bondLanes q (s.quad q).bond).headD (q, 0)).2).seq }) ∧
      ∀ k, k ∉ (bondLanes q (s.quad q).bond).map (fun l => 4 * l.1 + l.2) → SMap.get {} z.lanes k = SMap.get {} s.lanes k := by
  have hall : s.bondReady (bondLanes q (s.quad q).bond) = true := by
    refine List.all_eq_true.mpr fun l hl => ?_
    obtain ⟨hruns, hmarker, haligned⟩ := hready l hl
    rw [hruns, hmarker, haligned]
    rfl
  have hdistinct := bondLanes_distinct q (s.quad q).bond
  obtain ⟨first, rest, hgroup⟩ := List.exists_cons_of_ne_nil hsome
  rw [hgroup] at hlength hall hdistinct ⊢
  have hkeys : ((first :: rest).zip skews).map Prod.fst = first :: rest := List.map_fst_zip (Nat.le_of_eq hlength.symm)
  have hitems : ((first :: rest).zip skews).Pairwise (fun x y => laneIndex x.1 ≠ laneIndex y.1) :=
    (List.pairwise_map (f := Prod.fst) (R := fun x y => laneIndex x ≠ laneIndex y)).mp (by rw [hkeys]; exact hdistinct)
  have hindexes : ((first :: rest).zip skews).map (fun x => laneIndex x.1) = (first :: rest).map laneIndex :=
    (List.map_map (f := Prod.fst) (g := laneIndex)).symm.trans (congrArg (List.map laneIndex) hkeys)
  exact ⟨_, congrArg Host.Outcome.next (bondAlignedOp_ready skews hgroup hall hlength), State.mapLanes_frame _ _ _ _,
    fun x hx => State.mapLanes_lane Prod.fst (laneAligned (s.lane first.1 first.2).seq) _ hitems hc x hx,
    fun k hk => State.mapLanes_other Prod.fst _ _ hc k (by rw [hindexes]; exact hk)⟩

theorem bondLost_next {l : Nat × Nat} (hl : l ∈ bondLanes q (s.quad q).bond) (haligned : (s.lane l.1 l.2).aligned = true) :
    exec (.bondLost q) s = .next ((s.unalign q).pcsEvent q 17) :=
  congrArg Host.Outcome.next (if_pos (List.any_eq_true.mpr ⟨l, hl, haligned⟩))

theorem unalign_lane (hc : s.Canonical) : ∀ k ∈ bondLanes q (s.quad q).bond,
    (s.unalign q).lane k.1 k.2 = { s.lane k.1 k.2 with aligned := false } :=
  State.mapLanes_lane (fun l => l) (fun _ v => { v with aligned := false }) _ (bondLanes_distinct _ _) hc

/-! Locks, words and codewords. -/

variable {i : Fin 4}

theorem pcsRxFrame_frame {blocks : List RxBlock} (hruns : s.pcsRuns q i = true) (hrx : s.prbsRx q i = 0) (hframed : framed (s.lcfg q i) = true)
    (hblock : (s.lane q i).block = true) (hlength : blocks.length = 32) : exec (.pcsRxFrame q i blocks) s = .next (rxFrame q i blocks s) := by
  have hkept : ¬ (!s.pcsRuns q i || decide (s.prbsRx q i ≠ 0)) = true := by simp only [hruns, hrx, ne_eq, not_true_eq_false, decide_false,
    Bool.not_true, Bool.or_self, Bool.false_eq_true, not_false_eq_true]
  exact congrArg Host.Outcome.next ((if_neg hkept).trans ((if_pos hframed).trans (if_pos (by rw [hblock, hlength]; rfl))))

theorem pcsRxFrame_word (b : RxBlock) (hruns : s.pcsRuns q i = true) (hrx : s.prbsRx q i = 0) (hraw : framed (s.lcfg q i) = false) :
    exec (.pcsRxFrame q i [b]) s = .next (rxWord q i b.payload s) := by
  have hkept : ¬ (!s.pcsRuns q i || decide (s.prbsRx q i ≠ 0)) = true := by simp only [hruns, hrx, ne_eq, not_true_eq_false, decide_false,
    Bool.not_true, Bool.or_self, Bool.false_eq_true, not_false_eq_true]
  exact congrArg Host.Outcome.next ((if_neg hkept).trans (if_neg (by rw [hraw]; exact Bool.false_ne_true)))

theorem amLock_gains (hruns : s.pcsRuns q i = true) (hmarkers : bitOf (s.lcfg q i) 27 = true) :
    exec (.amLock q i true) s = .next (s.setLane q i { s.lane q i with marker := true }) :=
  congrArg Host.Outcome.next (if_neg (by rw [hruns, hmarkers]; exact Bool.false_ne_true))

theorem fecAlign_gains (hruns : s.pcsRuns q i = true) (hfec : fieldOf (s.lcfg q i) 29 28 ≠ 0) :
    exec (.fecAlign q i true) s = .next (s.setLane q i { s.lane q i with codeword := true }) :=
  congrArg Host.Outcome.next (if_neg (by rw [hruns, decide_eq_true hfec]; exact Bool.false_ne_true))

theorem fecCodeword_counts (hruns : s.pcsRuns q i = true) (hlock : (s.lane q i).codeword = true) (r : FecResult) :
    fecResultOk r = true → exec (.fecCodeword q i r) s = .next (match r with
      | .clean => s
      | .corrected n => (s.count (pcsLane q i 0x0C) 31 16 1).count (pcsLane q i 0x10) 31 0 n
      | .uncorrectable => (s.count (pcsLane q i 0x0C) 15 0 1).pcsEvent q (4 * i + 1)) := by
  have hcond : (s.pcsRuns q i && (s.lane q i).codeword) = true := by rw [hruns, hlock]; rfl
  intro hok
  have hexec : exec (.fecCodeword q i r) s = .next (fecCodewordOp q i r s) := if_pos hok
  cases r <;> exact hexec.trans (congrArg Host.Outcome.next (if_pos hcond))

theorem txUnderrun_next (hreads : s.txReads q i = true) (hempty : (s.bridge (txBridge q i)).fifo = []) : exec (.txUnderrun q i) s = .next
    (((s.setLane q i { s.lane q i with txSent := some (s.fillBlock q i) }).count (pcsLane q i 0x14) 15 0 1).pcsEvent q (4 * i + 3)) :=
  congrArg Host.Outcome.next (if_pos (by rw [hreads, decide_eq_true hempty]; rfl))

/-! PCS_CMD. -/

/-- The counts of the quad's lanes. -/
def pcsCounts (q : Nat) : List Nat := lanes4.flatMap fun i => [0x08, 0x0C, 0x10, 0x14].map (pcsLane q i)

theorem pcsClear_eq (q : Nat) (u : State) : pcsClear q u = (pcsCounts q).foldl (fun s a => s.setReg a 0) u := by
  rw [pcsCounts, List.foldl_flatMap]
  simp only [List.foldl_map]
  rfl

theorem pcsClrCounts_next (m : Master) (hc : s.Canonical) (ha : s.Accepts m.id ⟨.pcs, q⟩ 0x044 4) :
    ∃ t, exec (.pcsClrCounts m q) s = .next t ∧ t.resp.code = 0 ∧
      (∀ k < 4, ∀ o ∈ [0x08, 0x0C, 0x10, 0x14], t.reg (pcsLane q k o) = 0) ∧
      t = { s with regs := t.regs, ev := t.ev, log := t.log, resp := t.resp, jtag := { s.jtag with out := t.jtag.out } } := by
  have hwrite := access_effect (f := pcsClear q) (by decide) ha q.isLt (by decide) (by decide) fun old u => rfl
  rw [pcsClear_eq] at hwrite
  obtain ⟨hcode, hzero, -, hframe⟩ := cleared_done (k := .pcs) (n := q) (m := m.id) (off := 0x044) (v := 4) hc (fun h => by cases h) rfl
    (pcsCounts q)
  exact ⟨_, congrArg Host.Outcome.next hwrite, hcode,
    fun k hk o ho => hzero _ (List.mem_flatMap.mpr ⟨k, List.mem_range.mpr hk, List.mem_map.mpr ⟨o, ho, rfl⟩⟩), hframe⟩

/-! Received frames (R389 to R391). -/

/-- The bad headers of a frame are counted. -/
def State.headersCounted (s : State) (q i : Nat) (blocks : List RxBlock) : State :=
  s.count (pcsLane q i 0x08) 31 16 (blocks.filter (fun b => b.badHeader)).length

theorem rxFrame_fits (blocks : List RxBlock) (hroom : (s.lane q i).buffer.length + 33 ≤ 64) : rxFrame q i blocks s =
    (s.headersCounted q i blocks).setLane q i { s.lane q i with
      seq := ((s.lane q i).seq + 1) % 2 ^ 16, dropped := 0,
      buffer := (s.lane q i).buffer ++ rxHeader (s.lane q i) blocks :: blocks.map (fun b => (deliveredBlock b).1) } := if_pos hroom

theorem rxFrame_drops (blocks : List RxBlock) (hfull : 64 < (s.lane q i).buffer.length + 33) : rxFrame q i blocks s =
    (((s.headersCounted q i blocks).setLane q i { s.lane q i with
      seq := ((s.lane q i).seq + 1) % 2 ^ 16, dropped := satAdd 255 (s.lane q i).dropped 1 }).count (pcsLane q i 0x14) 31 16 33).pcsEvent q
        (4 * i + 2) := if_neg (Nat.not_le.mpr hfull)

theorem pcsEvent_lane (s : State) (n e k j : Nat) : (s.pcsEvent n e).lane k j = s.lane k j :=
  State.raise_keeps (fun t => t.lane k j) (fun _ _ _ => rfl) _ _ _ _

theorem count_lane (s : State) (a hi lo n k j : Nat) : (s.count a hi lo n).lane k j = s.lane k j := rfl

theorem rxFrame_spec (blocks : List RxBlock) (hc : s.Canonical) : let v := s.lane q i
    let t := rxFrame q i blocks s
    (t.lane q i).seq = (v.seq + 1) % 65536 ∧
    (v.buffer.length + 33 ≤ 64 → (t.lane q i).dropped = 0 ∧
      (t.lane q i).buffer = v.buffer ++ rxHeader v blocks :: blocks.map (fun b => (deliveredBlock b).1)) ∧
    (64 < v.buffer.length + 33 → (t.lane q i).buffer = v.buffer ∧ (t.lane q i).dropped = min 255 (v.dropped + 1) ∧
      t.fld (pcsLane q i 0x14) 31 16 = min 65535 (s.fld (pcsLane q i 0x14) 31 16 + 33)) ∧
    ∀ k j, 4 * k + j ≠ 4 * q.val + i.val → t.lane k j = s.lane k j := by
  intro v t
  have hcounted : (s.headersCounted q i blocks).Canonical := hc.count _ _ _ _
  rcases Nat.lt_or_ge 64 (v.buffer.length + 33) with hfull | hroom
  · have hframe : t = _ := rxFrame_drops blocks hfull
    have hmarked := hcounted.setLane q i { v with seq := (v.seq + 1) % 2 ^ 16, dropped := satAdd 255 v.dropped 1 }
    have hlane (k j : Nat) : t.lane k j = if 4 * k + j = 4 * q.val + i.val then
        { v with seq := (v.seq + 1) % 2 ^ 16, dropped := satAdd 255 v.dropped 1 } else s.lane k j := by
      rw [hframe, pcsEvent_lane, count_lane]
      exact State.lane_setLane hcounted _ _ _ _ _
    have hself := (hlane q i).trans (if_pos rfl)
    have hother : pcsLane q i 0x14 ∉ eventRegisters ⟨.pcs, q⟩ := by
      simp only [eventRegisters, pcsLane, regAddr, Page.base, PageKind.info, List.mem_cons, List.not_mem_nil, or_false]
      omega
    have hapart : pcsLane q i 0x08 ≠ pcsLane q i 0x14 := by simp only [pcsLane, regAddr]; omega
    have hcount : t.fld (pcsLane q i 0x14) 31 16 = min 65535 (s.fld (pcsLane q i 0x14) 31 16 + 33) := by
      have hkept := State.fld_count_apart hc (h' := 31) (l' := 16) (blocks.filter (fun b => b.badHeader)).length (hi := 31) (lo := 16) (by decide)
        (Or.inl hapart)
      have hmax := State.fld_count hmarked (pcsLane q i 0x14) 33 (hi := 31) (lo := 16) (by decide) (by decide)
      have hsame : ((s.headersCounted q i blocks).setLane q i { v with seq := (v.seq + 1) % 2 ^ 16, dropped := satAdd 255 v.dropped 1 }).fld
        (pcsLane q i 0x14) 31 16 = s.fld (pcsLane q i 0x14) 31 16 := hkept
      rw [hsame] at hmax
      rw [hframe]
      exact (congrArg (fun w => fieldOf w 31 16) (State.raise_reg _ _ _ _ hother)).trans hmax
    exact ⟨congrArg Lane.seq hself, fun h => absurd hfull (Nat.not_lt.mpr h),
      fun _ => ⟨by rw [hself], by rw [hself]; rfl, hcount⟩, fun k j h => (hlane k j).trans (if_neg h)⟩
  · have hframe : t = _ := rxFrame_fits blocks hroom
    have hlane (k j : Nat) : t.lane k j = if 4 * k + j = 4 * q.val + i.val then { v with
        seq := (v.seq + 1) % 2 ^ 16, dropped := 0,
        buffer := v.buffer ++ rxHeader v blocks :: blocks.map (fun b => (deliveredBlock b).1) } else s.lane k j := by
      rw [hframe]
      exact State.lane_setLane hcounted _ _ _ _ _
    have hself := (hlane q i).trans (if_pos rfl)
    exact ⟨congrArg Lane.seq hself, fun _ => ⟨congrArg Lane.dropped hself, congrArg Lane.buffer hself⟩,
      fun h => absurd h (Nat.not_lt.mpr hroom), fun k j h => (hlane k j).trans (if_neg h)⟩

end

/-- Settles O42: each lock under its guard, a bond group lane by lane, and a frame by the room of its buffer. -/
theorem pcsAndFramesComplete : Obligations.PcsAndFramesComplete := by
  unfold Obligations.PcsAndFramesComplete
  refine ⟨?commands, fun q i blocks s hc _ => rxFrame_spec blocks hc⟩
  case commands =>
    intro q i s hc v g
    refine ⟨fun m ha => congrArg Host.Outcome.next (access_effect (f := pcsApplyOp q) (by decide) ha q.isLt (by decide) (by decide) fun old u => rfl),
      fun m ha => pcsClrCounts_next m hc ha, fun hruns => ⟨fun hframed => congrArg Host.Outcome.next (if_pos (by rw [hruns, hframed]; rfl)),
        fun blocks hrx hframed hblock hlength => pcsRxFrame_frame hruns hrx hframed hblock hlength, fun b hrx hraw => ?word,
        fun hmarkers => amLock_gains hruns hmarkers, fun hfec => fecAlign_gains hruns hfec, fun hlock => ⟨fecCodeword_counts hruns hlock .clean rfl,
          fun n hok => fecCodeword_counts hruns hlock (.corrected n) hok, fecCodeword_counts hruns hlock .uncorrectable rfl⟩⟩,
      rfl, rfl, fun hblock => congrArg Host.Outcome.next (if_pos hblock), fun hreads hempty => txUnderrun_next hreads hempty,
      fun skews hsome hlength hready => bondAligned_next hc skews hsome hlength hready,
      fun l hl haligned => ⟨bondLost_next hl haligned, unalign_lane hc⟩⟩
    case word =>
      exact ⟨fun hroom => (pcsRxFrame_word b hruns hrx hraw).trans (congrArg Host.Outcome.next (if_pos hroom)),
        fun hfull => (pcsRxFrame_word b hruns hrx hraw).trans (congrArg Host.Outcome.next (if_neg (Nat.not_lt.mpr hfull)))⟩

end Sys2Proof.Machine
end

section
/-!
A server and a request (R511, R512): which requests it leaves, which it answers at once, and when it does the work of the opcode.
-/

namespace Sys2Proof.Machine

section

variable {op : Nat} {msg : SvcMsg} {body : State → State} {s : State}

/-! What a server drops first. -/

theorem State.taken_frame (s : State) (op : Nat) (msg : SvcMsg) : s.taken op msg = { s with trust := (s.taken op msg).trust } := by
  unfold State.taken State.dropOther
  split
  · split
    · split <;> rfl
    · rfl
  · rfl

/-- What reads nothing of the trust part reads as before the request was taken. -/
theorem State.taken_keeps {α : Type} (g : State → α) (hg : ∀ (s : State) v, g { s with trust := v } = g s) (s : State) (op : Nat) (msg : SvcMsg) :
    g (s.taken op msg) = g s := by
  rw [State.taken_frame]
  exact hg _ _

theorem State.taken_other (h : msg.channel.val ≠ 2) : s.taken op msg = s := if_neg h

/-! The checks in turn. -/

/-- The server turns to the head message, which is the request. -/
def State.turnsTo (s : State) (op : Nat) (msg : SvcMsg) : Bool := s.mayServe msg.channel.val && s.isRequest op msg

theorem State.turnsTo_of (hfree : s.mayServe msg.channel.val = true) (hhead : s.isRequest op msg = true) : s.turnsTo op msg = true := by
  rw [State.turnsTo, hfree, hhead]
  rfl

theorem serve_skips (h : s.mayServe msg.channel.val = false ∨ s.isRequest op msg = false) : serve op msg body s = s := by
  refine if_neg ?_
  rcases h with hbusy | hother
  · rw [hbusy]; exact Bool.false_ne_true
  · rw [hother, Bool.and_false]; exact Bool.false_ne_true

theorem serve_turned (h : s.turnsTo op msg = true) : serve op msg body s =
    if s.shuttingDown then (s.taken op msg).finish msg.channel.val op codeShuttingDown
    else match (s.taken op msg).requestBad op msg with
      | some c => (s.taken op msg).finish msg.channel.val op c
      | none => if msg.channel.val = 1 ∧ forwarded op = true then (s.taken op msg).forwardRequest op else body (s.taken op msg) := if_pos h

theorem serve_shuttingDown (h : s.turnsTo op msg = true) (hdown : s.shuttingDown = true) :
    serve op msg body s = (s.taken op msg).finish msg.channel.val op codeShuttingDown := (serve_turned h).trans (if_pos hdown)

theorem serve_rejects {c : Nat} (h : s.turnsTo op msg = true) (hup : s.shuttingDown = false) (hbad : (s.taken op msg).requestBad op msg = some c) :
    serve op msg body s = (s.taken op msg).finish msg.channel.val op c := by
  rw [serve_turned h, hup, hbad]
  rfl

theorem serve_forwards (h : s.turnsTo op msg = true) (hup : s.shuttingDown = false) (hgood : (s.taken op msg).requestBad op msg = none)
    (hch : msg.channel.val = 1) (hforwarded : forwarded op = true) : serve op msg body s = s.forwardRequest op := by
  have htaken : s.taken op msg = s := State.taken_other (by omega)
  rw [htaken] at hgood
  have hown : msg.channel.val = 1 ∧ forwarded op = true := ⟨hch, hforwarded⟩
  rw [serve_turned h, hup, htaken, hgood]
  exact if_pos hown

/-- A request that passes every check gets the work of its opcode. -/
theorem serve_works (h : s.Serves op msg) : serve op msg body s = body (s.taken op msg) := by
  rw [serve_turned (State.turnsTo_of h.free h.head), h.up, h.checks]
  exact if_neg h.own

end

/-- Writes of firmware: the first one, and the ones after it. -/
theorem State.fwWrite_eq (s : State) (m a : Nat) (v : Word) : s.fwWrite m a v =
    (access (Issued.perform { master := m, addr := a, write := true, value := v }) s,
      (access (Issued.perform { master := m, addr := a, write := true, value := v }) s).resp.code) := by
  rw [State.fwWrite, State.fwWrites]
  split
  case isTrue h => rw [h]; rfl
  case isFalse => rfl

end Sys2Proof.Machine
end

section
/-!
The checks of every request (R511 to R513; log entries 39 and 45).
-/

namespace Sys2Proof.Machine

/-- Each opcode of Table 18-5 beside GET_TELEMETRY is served in the same way. -/
theorem service_exec (msg : SvcMsg) (ok : Bool) {op : Nat} {i : Instr}
    (h : (op, i) ∈ [(0x001, Instr.getInfo msg), (0x010, .loadImageHost msg), (0x011, .loadImageFlash msg), (0x012, .reweave msg),
      (0x020, .setVfab msg ok), (0x021, .setPowerState msg), (0x022, .serviceShutdown msg), (0x030, .runTest msg), (0x040, .bindChannel msg),
      (0x041, .lockBindings msg), (0x100, .enrolKey msg), (0x101, .lcAdvance msg ok), (0x102, .stageToken msg), (0x103, .setOwner msg),
      (0x104, .loadWeft msg), (0x105, .setPolicy msg), (0x106, .resetWeft msg)]) :
    ∃ body : State → State, ∀ s, exec i s = .next (serve op msg body s) := by
  simp only [List.mem_cons, List.not_mem_nil, or_false, Prod.mk.injEq] at h
  rcases h with ⟨rfl, rfl⟩ | ⟨rfl, rfl⟩ | ⟨rfl, rfl⟩ | ⟨rfl, rfl⟩ | ⟨rfl, rfl⟩ | ⟨rfl, rfl⟩ | ⟨rfl, rfl⟩ | ⟨rfl, rfl⟩ | ⟨rfl, rfl⟩ | ⟨rfl, rfl⟩ |
    ⟨rfl, rfl⟩ | ⟨rfl, rfl⟩ | ⟨rfl, rfl⟩ | ⟨rfl, rfl⟩ | ⟨rfl, rfl⟩ | ⟨rfl, rfl⟩ | ⟨rfl, rfl⟩ <;> exact ⟨_, fun s => rfl⟩

/-! An opcode of no row. -/

section

variable {msg : SvcMsg} {op : BitVec 16} {s : State}

theorem requestBad_unknown {op : Nat} (hunknown : ∀ e ∈ opcodes, e.1 ≠ op) : s.requestBad op msg = none := by
  have hnone : opcodes.find? (fun e => decide (e.1 = op)) = none :=
    List.find?_eq_none.mpr fun e he h => hunknown e he (of_decide_eq_true h)
  simp only [State.requestBad, hnone]

theorem forwarded_unknown {op : Nat} (hunknown : ∀ e ∈ opcodes, e.1 ≠ op) : ¬ forwarded op = true := by
  intro h
  rcases of_decide_eq_true h with rfl | rfl | rfl | rfl
  · exact hunknown (0x22, 0, [0, 1, 2]) (by decide) rfl
  · exact hunknown (0x30, 1, [0, 1, 2]) (by decide) rfl
  · exact hunknown (0x40, 1, [0, 1, 2]) (by decide) rfl
  · exact hunknown (0x41, 0, [0, 1, 2]) (by decide) rfl

theorem unknownOpcode_next (hfree : s.mayServe msg.channel = true) (hhead : s.isRequest op.toNat msg = true) (hup : s.shuttingDown = false)
    (hunknown : ∀ e ∈ opcodes, e.1 ≠ op.toNat) : exec (.unknownOpcode msg op) s = .next
      ((s.taken op.toNat msg).finish msg.channel op.toNat (if msg.channel = 0 then codeNotPermitted else codeUnknown)) := by
  have hrow : ¬ opcodes.any (fun e => decide (e.1 = op.toNat)) = true := fun h => by
    obtain ⟨e, he, hop⟩ := List.any_eq_true.mp h
    exact hunknown e he (of_decide_eq_true hop)
  have hserves : s.Serves op.toNat msg := ⟨hfree, hhead, hup, requestBad_unknown hunknown, fun h => forwarded_unknown hunknown h.2⟩
  have hcode : (if msg.channel.val = 0 then codeNotPermitted else codeUnknown) = if msg.channel = 0 then codeNotPermitted else codeUnknown :=
    if_congr (Fin.val_eq_zero_iff) rfl rfl
  rw [← hcode]
  exact congrArg Host.Outcome.next ((if_neg hrow).trans (serve_works hserves))

end

/-! An answer of warp firmware is counted (R513). -/

section

variable {op code : Nat} {s : State}

/-- The last answer, and the count of all. -/
def State.answerNoted (s : State) (op code : Nat) : State :=
  (s.setReg rSvcLast (BitVec.ofNat 32 (place op 16 + code))).count rSvcCounts 31 16 1

theorem answerNoted_spec (hc : s.Canonical) : let t := s.answerNoted op code
    t.reg rSvcLast = BitVec.ofNat 32 (place op 16 + code) ∧ t.fld rSvcCounts 31 16 = min 65535 (s.fld rSvcCounts 31 16 + 1) ∧
      t.fld rSvcCounts 15 0 = s.fld rSvcCounts 15 0 := by
  have hlast : (s.setReg rSvcLast (BitVec.ofNat 32 (place op 16 + code))).Canonical := hc.setReg _ _
  have hkept (hi lo : Nat) : (s.setReg rSvcLast (BitVec.ofNat 32 (place op 16 + code))).fld rSvcCounts hi lo = s.fld rSvcCounts hi lo :=
    congrArg (fun w => fieldOf w hi lo) (State.reg_setReg_other _ _ (by decide))
  have hall := State.fld_count hlast rSvcCounts 1 (hi := 31) (lo := 16) (by decide) (by decide)
  rw [hkept] at hall
  exact ⟨(State.reg_count_other _ _ _ _ (by decide)).trans ((State.reg_setReg hc _ _ _).trans (if_pos rfl)), hall,
    (State.fld_count_apart hlast _ (by decide) (Or.inr (by decide))).trans (hkept 15 0)⟩

theorem countAnswer_bad (hcode : code ≠ 0) : s.countAnswer op code = ((s.answerNoted op code).count rSvcCounts 15 0 1).mgmtEvent 3 :=
  if_neg hcode

theorem countAnswer_spec (hc : s.Canonical) : let t := s.countAnswer op code
    t.reg rSvcLast = BitVec.ofNat 32 (place op 16 + code) ∧ t.fld rSvcCounts 31 16 = min 65535 (s.fld rSvcCounts 31 16 + 1) ∧
      t.fld rSvcCounts 15 0 = (if code = 0 then s.fld rSvcCounts 15 0 else min 65535 (s.fld rSvcCounts 15 0 + 1)) := by
  obtain ⟨hlast, hall, hrefused⟩ := answerNoted_spec (op := op) (code := code) hc
  by_cases hcode : code = 0
  · subst hcode
    exact ⟨hlast, hall, hrefused⟩
  · have hnoted : (s.answerNoted op code).Canonical := (hc.setReg _ _).count _ _ _ _
    have hone := State.fld_count hnoted rSvcCounts 1 (hi := 15) (lo := 0) (by decide) (by decide)
    rw [hrefused] at hone
    have hevent {a : Nat} (ha : a ∉ eventRegisters ⟨.mgmt, 0⟩) : (s.countAnswer op code).reg a =
        ((s.answerNoted op code).count rSvcCounts 15 0 1).reg a := by
      rw [countAnswer_bad hcode]
      exact State.raise_reg _ _ _ _ ha
    refine ⟨(hevent (by decide)).trans ((State.reg_count_other _ _ _ _ (by decide)).trans hlast), ?_, ?_⟩
    · exact (congrArg (fun w => fieldOf w 31 16) (hevent (by decide))).trans ((State.fld_count_apart hnoted _ (by decide)
        (Or.inr (by decide))).trans hall)
    · rw [if_neg hcode]
      exact (congrArg (fun w => fieldOf w 15 0) (hevent (by decide))).trans hone

end

/-- Settles O51: the one server of every opcode, an opcode without a row, and the registers of an answer. -/
theorem serviceChecksComplete : Obligations.ServiceChecksComplete := by
  unfold Obligations.ServiceChecksComplete
  refine ⟨fun msg ok op i s hi => ?checks, fun msg op s hfree hhead hup hunknown => unknownOpcode_next hfree hhead hup hunknown,
    fun op code s hc _ _ => countAnswer_spec hc⟩
  case checks =>
    obtain ⟨body, hexec⟩ := service_exec msg ok hi
    intro ch z
    rw [hexec]
    refine ⟨fun h => congrArg Host.Outcome.next (serve_skips h), fun hfree hhead => ?_⟩
    have hturn : s.turnsTo op msg = true := State.turnsTo_of hfree hhead
    exact ⟨fun hdown => congrArg Host.Outcome.next (serve_shuttingDown hturn hdown),
      fun c hup hbad => congrArg Host.Outcome.next (serve_rejects hturn hup hbad),
      fun hup hgood hch hforwarded => congrArg Host.Outcome.next (serve_forwards hturn hup hgood hch hforwarded)⟩

end Sys2Proof.Machine
end

section
/-!
The requests that weft firmware serves (R511, R512; log entries 39, 46 and 66).
-/

namespace Sys2Proof.Machine

section

variable {op : Nat} {msg : SvcMsg} {s : State}

/-! Reports. -/

theorem replied_fits {ws : List Word} (h : s.replyFits msg.channel ws = true) : s.replied msg op ws =
    (s.reply msg.channel op msg.tag.toNat ws).finish msg.channel op 0 := if_pos h

theorem replied_waits {ws : List Word} (h : s.replyFits msg.channel ws = false) : s.replied msg op ws = s :=
  if_neg (by rw [h]; exact Bool.false_ne_true)

theorem getInfo_next (h : s.Serves 0x01 msg) : exec (.getInfo msg) s = .next ((s.taken 0x01 msg).replied msg 0x01
    ([0x040, 0x044, 0x048, 0x04C, 0x050, 0x05C, 0x060].map (fun off => (s.taken 0x01 msg).view msg.channel.val ⟨.device, 0⟩ off))) :=
  congrArg Host.Outcome.next (serve_works h)

/-- The words of a telemetry group. -/
def State.telemetry (s : State) (g : Nat) (power : List Word) : List Word :=
  if g = 0 then packPairs ((List.range 10).map (fun k => s.fld (rRailMv k) 15 0))
  else if g = 1 then packPairs ((List.range 4).map (fun p => s.fld (regAddr .panel p 0x044) 9 0)) else power

theorem getTelemetry_next {power : List Word} (hpower : power.length = 5) (h : s.Serves 0x02 msg) :
    let z := s.taken 0x02 msg
    let g := fieldOf (paramOf msg 1) 7 0
    exec (.getTelemetry msg power) s =
      .next (if g ≤ 2 then z.replied msg 0x02 (z.telemetry g power) else z.finish 1 0x02 codeBadEncoding) := by
  intro z g
  have hexec : exec (.getTelemetry msg power) s = .next (getTelemetryOp msg power s) := if_pos (decide_eq_true hpower)
  rw [hexec, getTelemetryOp, serve_works h]
  change Host.Outcome.next (match g with
    | 0 => _ | 1 => _ | 2 => _ | _ => _) = _
  match hg : g with
  | 0 => rfl
  | 1 => rfl
  | 2 => rfl
  | k + 3 => exact congrArg Host.Outcome.next (if_neg (by omega)).symm

/-! Loads. -/

theorem startLoad_eq (hold : Bool) (writes : List (Nat × Word)) (cmd : Word) : s.startLoad op hold writes cmd =
    let a := s.fwWrites 1 ((rCfgCtrl, withBit (s.reg rCfgCtrl) 0 hold) :: writes ++ [(rCfgCmd, cmd)])
    if a.2 = 0 then a.1.await 1 op hold else a.1.finish 1 op a.2 := rfl

theorem loadImageHost_next (h : s.Serves 0x10 msg) (hflags : (paramOf msg 4).toNat ≤ 1) : exec (.loadImageHost msg) s =
    .next ((s.taken 0x10 msg).startLoad 0x10 (bitOf (paramOf msg 4) 0) (hostSource msg) (cfgCommand 1 1)) :=
  congrArg Host.Outcome.next ((serve_works h).trans (if_neg (Nat.not_lt.mpr hflags)))

theorem loadImageFlash_next (h : s.Serves 0x11 msg) (hflags : (paramOf msg 2).toNat ≤ 1) : exec (.loadImageFlash msg) s =
    .next ((s.taken 0x11 msg).startLoad 0x11 (bitOf (paramOf msg 2) 0) [(regAddr .config 0 0x060, paramOf msg 1)] (cfgCommand 2 1)) :=
  congrArg Host.Outcome.next ((serve_works h).trans (if_neg (Nat.not_lt.mpr hflags)))

theorem reweave_next (h : s.Serves 0x12 msg) (hflags : paramOf msg 4 = 0) : exec (.reweave msg) s =
    .next ((s.taken 0x12 msg).startLoad 0x12 false (hostSource msg) (cfgCommand 1 2)) :=
  congrArg Host.Outcome.next ((serve_works h).trans (if_neg fun h => h hflags))

/-! Supplies and power. -/

theorem setVfab_bad (confirmed : Bool) (h : s.Serves 0x20 msg)
    (hbad : fieldOf (paramOf msg 1) 31 18 ≠ 0 ∨ fieldOf (paramOf msg 1) 15 0 < 550 ∨ 900 < fieldOf (paramOf msg 1) 15 0) :
    exec (.setVfab msg confirmed) s = .next ((s.taken 0x20 msg).finish 1 0x20 codeBadEncoding) :=
  congrArg Host.Outcome.next ((serve_works h).trans (if_pos hbad))

theorem setVfab_good (confirmed : Bool) (h : s.Serves 0x20 msg) (hzero : fieldOf (paramOf msg 1) 31 18 = 0)
    (hlow : 550 ≤ fieldOf (paramOf msg 1) 15 0) (hhigh : fieldOf (paramOf msg 1) 15 0 ≤ 900) : exec (.setVfab msg confirmed) s =
      .next ((s.taken 0x20 msg).finish 1 0x20 (if s.pwr.removed then codeUnpowered else if confirmed then 0 else codeSupplyFault)) := by
  have hgood : ¬ (fieldOf (paramOf msg 1) 31 18 ≠ 0 ∨ fieldOf (paramOf msg 1) 15 0 < 550 ∨ 900 < fieldOf (paramOf msg 1) 15 0) := by omega
  refine congrArg Host.Outcome.next ((serve_works h).trans ((if_neg hgood).trans ?_))
  have hremoved := State.taken_keeps (fun t => t.pwr.removed) (fun _ _ => rfl) s 0x20 msg
  rw [hremoved]
  split <;> rfl

theorem setPowerState_next (h : s.Serves 0x21 msg) : let sleep := bitOf (paramOf msg 1) 0
    let a := access (Issued.perform { master := 1, addr := regAddr .power 0 0x044, write := true, value := if sleep then 1 else 2 }) (s.taken 0x21 msg)
    exec (.setPowerState msg) s = .next (if a.resp.code = 0 then a.await 1 0x21 sleep else a.finish 1 0x21 a.resp.code) := by
  intro sleep a
  refine congrArg Host.Outcome.next ((serve_works h).trans ?_)
  dsimp only
  rw [State.fwWrite_eq]

end

/-- Settles O52: each request by the work of its opcode, and the writes of firmware by their first rejection. -/
theorem weftServicesComplete : Obligations.WeftServicesComplete := by
  unfold Obligations.WeftServicesComplete
  refine ⟨fun msg s h => ⟨fun hfits => ?infoFits, fun hfull => ?infoWaits⟩, fun msg power s hpower h => ?telemetry, fun msg s => ?loads,
    fun msg confirmed s h => ⟨setVfab_bad confirmed h, setVfab_good confirmed h⟩, fun msg s h => ⟨fun hgood => ?accepted, fun hbad => ?rejected⟩⟩
  case infoFits => exact (getInfo_next h).trans (congrArg Host.Outcome.next (replied_fits hfits))
  case infoWaits => exact (getInfo_next h).trans (congrArg Host.Outcome.next (replied_waits hfull))
  case telemetry =>
    intro z g ws
    have hnext := getTelemetry_next hpower h
    exact ⟨fun hg hfits => hnext.trans (congrArg Host.Outcome.next ((if_pos hg).trans (replied_fits hfits))),
      fun hg hfull => hnext.trans (congrArg Host.Outcome.next ((if_pos hg).trans (replied_waits hfull))),
      fun hg => hnext.trans (congrArg Host.Outcome.next (if_neg (Nat.not_le.mpr hg)))⟩
  case loads =>
    exact ⟨fun h hflags => (loadImageHost_next h hflags).trans (congrArg Host.Outcome.next (startLoad_eq _ _ _)),
      fun h hflags => (loadImageFlash_next h hflags).trans (congrArg Host.Outcome.next (startLoad_eq _ _ _)),
      fun h hflags => (reweave_next h hflags).trans (congrArg Host.Outcome.next (startLoad_eq _ _ _))⟩
  case accepted => exact (setPowerState_next h).trans (congrArg Host.Outcome.next (if_pos hgood))
  case rejected => exact (setPowerState_next h).trans (congrArg Host.Outcome.next (if_neg hbad))

end Sys2Proof.Machine
end

section
/-!
The requests that warp firmware serves (R494, R495, R512, R531, R537; log entries 39 and 46).
-/

namespace Sys2Proof.Machine

/-- The state after the one bus write of warp firmware for a request. -/
def State.warpWrote (s : State) (op : Nat) (msg : SvcMsg) (a : Nat) (v : Word) : State :=
  access (Issued.perform { master := 0, addr := a, write := true, value := v }) (s.taken op msg)

section

variable {msg : SvcMsg} {s : State}

theorem serviceShutdown_next (h : s.Serves 0x22 msg) : exec (.serviceShutdown msg) s =
    .next ((shutdownOp (s.taken 0x22 msg)).finish msg.channel.val 0x22 0).follow := congrArg Host.Outcome.next (serve_works h)

/-! RUN_TEST. -/

theorem runTest_bad (h : s.Serves 0x30 msg)
    (hbad : fieldOf (paramOf msg 1) 30 9 ≠ 0 ∨ (fieldOf (paramOf msg 1) 8 0 = 0 ∧ bitOf (paramOf msg 1) 31 = false)) :
    exec (.runTest msg) s = .next ((s.taken 0x30 msg).finish msg.channel.val 0x30 codeBadEncoding) :=
  congrArg Host.Outcome.next ((serve_works h).trans (if_pos hbad))

theorem runTest_writes (h : s.Serves 0x30 msg) (hzero : fieldOf (paramOf msg 1) 30 9 = 0)
    (hsome : fieldOf (paramOf msg 1) 8 0 ≠ 0 ∨ bitOf (paramOf msg 1) 31 = true) : let mask := fieldOf (paramOf msg 1) 8 0
    let z := s.warpWrote 0x30 msg rTestCmd (BitVec.ofNat 32 (flag (decide (mask ≠ 0)) 31 + flag (bitOf (paramOf msg 1) 31) 30 + mask))
    exec (.runTest msg) s = .next (if z.resp.code ≠ 0 then z.finish msg.channel.val 0x30 z.resp.code
      else if mask = 0 then z.finish msg.channel.val 0x30 0 else z.await msg.channel.val 0x30 false) := by
  intro mask z
  have hgood : ¬ (fieldOf (paramOf msg 1) 30 9 ≠ 0 ∨ (fieldOf (paramOf msg 1) 8 0 = 0 ∧ bitOf (paramOf msg 1) 31 = false)) := by
    rintro (hrsv | ⟨hmask, hdiag⟩)
    · exact hrsv hzero
    · exact hsome.elim (fun hm => hm hmask) (fun hd => Bool.false_ne_true (hdiag.symm.trans hd))
  refine congrArg Host.Outcome.next ((serve_works h).trans ((if_neg hgood).trans ?_))
  rw [State.fwWrite_eq]
  rfl

theorem runTest_tests (h : s.Serves 0x30 msg) (hzero : fieldOf (paramOf msg 1) 30 9 = 0) (hmask : fieldOf (paramOf msg 1) 8 0 ≠ 0) :
    let z := s.warpWrote 0x30 msg rTestCmd
      (BitVec.ofNat 32 (flag true 31 + flag (bitOf (paramOf msg 1) 31) 30 + fieldOf (paramOf msg 1) 8 0))
    (z.resp.code = 0 → exec (.runTest msg) s = .next (z.await msg.channel.val 0x30 false)) ∧
    (z.resp.code ≠ 0 → exec (.runTest msg) s = .next (z.finish msg.channel.val 0x30 z.resp.code)) := by
  have hnext := runTest_writes h hzero (Or.inl hmask)
  dsimp only at hnext
  rw [decide_eq_true hmask] at hnext
  exact ⟨fun hgood => hnext.trans (congrArg Host.Outcome.next ((if_neg fun hbad => hbad hgood).trans (if_neg hmask))),
    fun hbad => hnext.trans (congrArg Host.Outcome.next (if_pos hbad))⟩

theorem runTest_setsDiag (h : s.Serves 0x30 msg) (hzero : fieldOf (paramOf msg 1) 30 9 = 0) (hmask : fieldOf (paramOf msg 1) 8 0 = 0)
    (hdiag : bitOf (paramOf msg 1) 31 = true) : let z := s.warpWrote 0x30 msg rTestCmd (BitVec.ofNat 32 (flag true 30))
    exec (.runTest msg) s = .next (z.finish msg.channel.val 0x30 z.resp.code) := by
  have hnext := runTest_writes h hzero (Or.inr hdiag)
  dsimp only at hnext
  have hnone : decide (fieldOf (paramOf msg 1) 8 0 ≠ 0) = false := decide_eq_false fun hm => hm hmask
  have hword : flag false 31 + flag true 30 + 0 = flag true 30 := rfl
  rw [hnone, hdiag, hmask, hword] at hnext
  intro z
  refine hnext.trans (congrArg Host.Outcome.next ?_)
  by_cases hcode : z.resp.code = 0
  · exact (if_neg fun hbad => hbad hcode).trans ((if_pos rfl).trans (by rw [hcode]))
  · exact if_pos hcode

/-! Bindings. -/

theorem bindChannel_next (h : s.Serves 0x40 msg) (hhigh : fieldOf (paramOf msg 1) 30 24 = 0) (hmid : fieldOf (paramOf msg 1) 15 14 = 0)
    (hlow : fieldOf (paramOf msg 1) 7 6 = 0) : let w := paramOf msg 1
    let c := fieldOf w 23 16
    let z := s.warpWrote 0x40 msg (rShBind c) (BitVec.ofNat 32 (flag (bitOf w 31) 31 + place (fieldOf w 13 8) 16 + fieldOf w 5 0))
    exec (.bindChannel msg) s = .next (if c < 8 then (s.taken 0x40 msg).finish msg.channel.val 0x40 codeNotPermitted
      else if s.bit (regAddr .shuttle 0 0x040) 0 then (s.taken 0x40 msg).finish msg.channel.val 0x40 codeLocked
      else z.finish msg.channel.val 0x40 z.resp.code) := by
  intro w c z
  have hgood : ¬ (fieldOf w 30 24 ≠ 0 ∨ fieldOf w 15 14 ≠ 0 ∨ fieldOf w 7 6 ≠ 0) := by
    rintro (hbad | hbad | hbad)
    · exact hbad hhigh
    · exact hbad hmid
    · exact hbad hlow
  have hlocked := State.taken_keeps (fun t => t.bit (regAddr .shuttle 0 0x040) 0) (fun _ _ => rfl) s 0x40 msg
  refine congrArg Host.Outcome.next ((serve_works h).trans ((if_neg hgood).trans ?_))
  dsimp only
  rw [State.fwWrite_eq, hlocked]
  rfl

theorem lockBindings_next (h : s.Serves 0x41 msg) : let z := s.warpWrote 0x41 msg (regAddr .shuttle 0 0x040) 1
    exec (.lockBindings msg) s = .next (z.finish msg.channel.val 0x41 z.resp.code) := by
  refine congrArg Host.Outcome.next ((serve_works h).trans ?_)
  rw [State.fwWrite_eq]
  rfl

/-! Owners, policy and the weft core. -/

theorem setOwner_next (h : s.Serves 0x103 msg) {ps : List Page} (hrange : pageRange (paramOf msg 1).toNat (paramOf msg 2).toNat = some ps)
    (hvalue : ∀ p ∈ ps, (s.taken 0x103 msg).valueBad p 0x02C (BitVec.ofNat 32 (fieldOf (paramOf msg 3) 5 0)) = none)
    (hopen : ∀ p ∈ ps, ownerFixed p.kind = false) (hunlocked : ∀ p ∈ ps, (s.taken 0x103 msg).bit (p.base + 0x030) 0 = false) (hsome : ps ≠ []) :
    let a := (s.taken 0x103 msg).fwWrites 0 (ps.map (fun p => (p.base + 0x02C, BitVec.ofNat 32 (fieldOf (paramOf msg 3) 5 0))))
    exec (.setOwner msg) s = .next (a.1.finish 2 0x103 a.2) := by
  have hfirst : ps.headD ⟨.device, 0⟩ ∈ ps := by
    obtain ⟨p, rest, rfl⟩ := List.exists_cons_of_ne_nil hsome
    exact List.mem_cons_self
  have hfixed : ¬ ps.any (fun p => ownerFixed p.kind) = true := fun hany => by
    obtain ⟨p, hp, hbad⟩ := List.any_eq_true.mp hany
    exact Bool.false_ne_true ((hopen p hp).symm.trans hbad)
  have hlocked : ¬ ps.any (fun p => (s.taken 0x103 msg).bit (p.base + 0x030) 0) = true := fun hany => by
    obtain ⟨p, hp, hbad⟩ := List.any_eq_true.mp hany
    exact Bool.false_ne_true ((hunlocked p hp).symm.trans hbad)
  refine congrArg Host.Outcome.next ((serve_works h).trans ?_)
  dsimp only
  rw [hrange]
  dsimp only
  rw [hvalue _ hfirst, if_neg hfixed, if_neg hlocked]
  rfl

theorem loadWeft_next (h : s.Serves 0x104 msg) (hpos : 0 < (paramOf msg 3).toNat) (hmax : (paramOf msg 3).toNat ≤ 2 ^ 21) :
    exec (.loadWeft msg) s = .next
      ((((s.taken 0x104 msg).setWeft weftLoading).setFld rWeftSrc 1 0 2).setServing 2 (some { opcode := 0x104, since := s.now })) := by
  have hlength : ¬ ((paramOf msg 3).toNat = 0 ∨ 0x0020_0000 < (paramOf msg 3).toNat) := by omega
  have hnow := State.taken_keeps State.now (fun _ _ => rfl) s 0x104 msg
  refine congrArg Host.Outcome.next ((serve_works h).trans ((if_neg hlength).trans ?_))
  rw [hnow]

theorem setPolicy_next (h : s.Serves 0x105 msg) (hzero : fieldOf (paramOf msg 1) 15 0 = 0) : let z := s.warpWrote 0x105 msg rPolicy (paramOf msg 1)
    exec (.setPolicy msg) s = .next (z.finish 2 0x105 z.resp.code) := by
  refine congrArg Host.Outcome.next ((serve_works h).trans ((if_neg fun hbad => hbad hzero).trans ?_))
  rw [State.fwWrite_eq]
  rfl

theorem resetWeft_next (h : s.Serves 0x106 msg) : exec (.resetWeft msg) s = .next ((weftResetOp (s.taken 0x106 msg)).finish 2 0x106 0) :=
  congrArg Host.Outcome.next (serve_works h)

end

/-- Settles O53: each request by the work of its opcode, which returns the code of its write. -/
theorem warpServicesComplete : Obligations.WarpServicesComplete := by
  unfold Obligations.WarpServicesComplete
  intro msg s ch w write
  refine ⟨serviceShutdown_next, runTest_tests, runTest_setsDiag, runTest_bad, fun h hhigh hmid hlow => ?bind, lockBindings_next,
    fun h ps hrange hvalue hopen hunlocked hsome => setOwner_next h hrange hvalue hopen hunlocked hsome, loadWeft_next, setPolicy_next, resetWeft_next⟩
  case bind =>
    have hnext := bindChannel_next h hhigh hmid hlow
    refine ⟨fun hc => hnext.trans (congrArg Host.Outcome.next (if_pos hc)),
      fun hc hlocked => hnext.trans (congrArg Host.Outcome.next ((if_neg (Nat.not_lt.mpr hc)).trans (if_pos hlocked))),
      fun hc hopen => hnext.trans (congrArg Host.Outcome.next ((if_neg (Nat.not_lt.mpr hc)).trans (if_neg ?_)))⟩
    rw [hopen]
    exact Bool.false_ne_true

end Sys2Proof.Machine
end

section
/-!
Keys, tokens, life-cycle transitions and their burns (R503 to R507, R519; log entry 45).
-/

namespace Sys2Proof.Machine

/-! Parts (Table 18-6). -/

section

variable {slot part count : Nat} {ws : List Word}

theorem stagePart_first : stagePart none slot 0 count ws = .ok ⟨slot, count, ws⟩ := rfl

theorem stagePart_late (hpart : 0 < part) : stagePart none slot part count ws = .error codeSequence := if_neg (by omega)

theorem stagePart_next {g : Staged} (hslot : g.slot = slot) (hcount : g.count = count) (hwords : g.words.length = 4 * part) :
    stagePart (some g) slot part count ws = .ok ⟨slot, count, g.words ++ ws⟩ := by
  have hnext : g.next = part := by
    unfold Staged.next
    omega
  subst hslot hcount
  exact if_pos ⟨rfl, rfl, hnext⟩

/-- The part that is expected after whole parts. -/
theorem Staged.next_append {words : List Word} (hwords : words.length = 4 * part) (hws : ws.length = 4) :
    (⟨slot, count, words ++ ws⟩ : Staged).next = part + 1 := by
  unfold Staged.next
  rw [List.length_append, hwords, hws]
  omega

end

section

variable {s : State} {msg : SvcMsg}

theorem State.dropStaged_none (h : s.trust.staged = none) : s.dropStaged = s := by
  unfold State.dropStaged
  rw [← h]

/-! ENROL_KEY (R507). -/

/-- The request of an ENROL_KEY that its server takes, with the state of the taken request in `z`. -/
theorem enrolKey_work {z : State} (h : s.Serves 0x100 msg) (hz : s.taken 0x100 msg = z) : let w := paramOf msg 1
    let slot := fieldOf w 31 28
    slot < 2 → (z.lcState = 2 ∨ z.lcState = 3) → z.fld rKeyStat (2 * slot + 1) (2 * slot) = 0 → exec (.enrolKey msg) s = .next
      (if z.trust.staged.isNone ∧ (fieldOf w 23 20 ≠ (if slot = 0 then 6 else 2) ∨ (if slot = 0 then 6 else 2) ≤ fieldOf w 27 24) then
        z.finish 2 0x100 codeBadEncoding
      else match stagePart z.trust.staged slot (fieldOf w 27 24) (fieldOf w 23 20) (msg.params.drop 1) with
        | .error c => z.dropStaged.finish 2 0x100 c
        | .ok g =>
          if g.next < g.count then (z.setStaged g).finish 2 0x100 0
          else z.dropStaged.startBurn (.key slot g.words) 0x100) := by
  intro w slot hslot hlife hempty
  have hopen : ¬ (z.lcState ≠ 2 ∧ z.lcState ≠ 3) := by omega
  have hfree : ¬ z.fld rKeyStat (2 * slot + 1) (2 * slot) ≠ 0 := fun hused => hused hempty
  refine congrArg Host.Outcome.next ((serve_works h).trans ?_)
  rw [hz]
  dsimp only
  rw [if_neg hopen, if_neg hfree]
  refine if_congr ?_ rfl rfl
  rw [or_iff_right (Nat.not_le.mpr hslot)]

theorem enrolKey_first {z : State} (h : s.Serves 0x100 msg) (hz : s.taken 0x100 msg = z) : let w := paramOf msg 1
    let slot := fieldOf w 31 28
    let count := fieldOf w 23 20
    let ws := msg.params.drop 1
    slot < 2 → (z.lcState = 2 ∨ z.lcState = 3) → z.fld rKeyStat (2 * slot + 1) (2 * slot) = 0 → z.trust.staged = none →
      count = (if slot = 0 then 6 else 2) → fieldOf w 27 24 = 0 → ws.length = 4 →
      exec (.enrolKey msg) s = .next ((z.setStaged ⟨slot, count, ws⟩).finish 2 0x100 0) := by
  intro w slot count ws hslot hlife hempty hnone hcount hpart hws
  have hparts : 1 < if slot = 0 then 6 else 2 := by split <;> decide
  have hgood : ¬ (z.trust.staged.isNone ∧ (count ≠ (if slot = 0 then 6 else 2) ∨ (if slot = 0 then 6 else 2) ≤ fieldOf w 27 24)) := by
    rintro ⟨-, hbad | hbad⟩
    · exact hbad hcount
    · omega
  have hmore : (⟨slot, count, ws⟩ : Staged).next < count := by
    unfold Staged.next
    rw [hcount, hws]
    exact hparts
  rw [enrolKey_work h hz hslot hlife hempty, if_neg hgood, hnone, hpart, stagePart_first]
  exact congrArg Host.Outcome.next (if_pos hmore)

theorem enrolKey_outOfOrder {z : State} (h : s.Serves 0x100 msg) (hz : s.taken 0x100 msg = z) : let w := paramOf msg 1
    let slot := fieldOf w 31 28
    let part := fieldOf w 27 24
    let count := fieldOf w 23 20
    slot < 2 → (z.lcState = 2 ∨ z.lcState = 3) → z.fld rKeyStat (2 * slot + 1) (2 * slot) = 0 → z.trust.staged = none →
      count = (if slot = 0 then 6 else 2) → 0 < part →
      exec (.enrolKey msg) s = .next (z.dropStaged.finish 2 0x100 (if part < count then codeSequence else codeBadEncoding)) := by
  intro w slot part count hslot hlife hempty hnone hcount hpart
  rw [enrolKey_work h hz hslot hlife hempty, hnone, stagePart_late hpart, State.dropStaged_none hnone]
  refine congrArg Host.Outcome.next ?_
  by_cases hlast : part < count
  · rw [if_pos hlast]
    refine if_neg ?_
    rintro ⟨-, hbad | hbad⟩
    · exact hbad hcount
    · exact Nat.not_lt.mpr hbad (hcount ▸ hlast)
  · rw [if_neg hlast]
    exact if_pos ⟨rfl, Or.inr (hcount ▸ Nat.le_of_not_lt hlast)⟩

theorem enrolKey_later {z : State} {g : Staged} (h : s.Serves 0x100 msg) (hz : s.taken 0x100 msg = z) : let w := paramOf msg 1
    let slot := fieldOf w 31 28
    let part := fieldOf w 27 24
    let count := fieldOf w 23 20
    let ws := msg.params.drop 1
    slot < 2 → (z.lcState = 2 ∨ z.lcState = 3) → z.fld rKeyStat (2 * slot + 1) (2 * slot) = 0 → z.trust.staged = some g → g.slot = slot →
      g.count = count → g.words.length = 4 * part → ws.length = 4 →
      (part + 1 < count → exec (.enrolKey msg) s = .next ((z.setStaged ⟨slot, count, g.words ++ ws⟩).finish 2 0x100 0)) ∧
      (count ≤ part + 1 → exec (.enrolKey msg) s = .next (z.dropStaged.startBurn (.key slot (g.words ++ ws)) 0x100)) := by
  intro w slot part count ws hslot hlife hempty hsome hgslot hgcount hwords hws
  have hgood : ¬ ((some g).isNone ∧ (count ≠ (if slot = 0 then 6 else 2) ∨ (if slot = 0 then 6 else 2) ≤ part)) :=
    fun hbad => Bool.false_ne_true hbad.1
  have hnext : (⟨slot, count, g.words ++ ws⟩ : Staged).next = part + 1 := Staged.next_append hwords hws
  rw [enrolKey_work h hz hslot hlife hempty, hsome, if_neg hgood, stagePart_next hgslot hgcount hwords]
  dsimp only
  rw [hnext]
  exact ⟨fun hmore => congrArg Host.Outcome.next (if_pos hmore), fun hlast => congrArg Host.Outcome.next (if_neg (Nat.not_lt.mpr hlast))⟩

/-! STAGE_TOKEN (R505). -/

theorem stageToken_work {z : State} (h : s.Serves 0x102 msg) (hz : s.taken 0x102 msg = z) (hpart : fieldOf (paramOf msg 1) 27 24 < 7)
    (hcount : fieldOf (paramOf msg 1) 23 20 = 7) : exec (.stageToken msg) s = .next
      (match stagePart z.trust.staged 16 (fieldOf (paramOf msg 1) 27 24) 7 (msg.params.drop 1) with
       | .error c => z.dropStaged.finish 2 0x102 c
       | .ok g =>
         if g.next < g.count then (z.setStaged g).finish 2 0x102 0
         else ({ z with trust := { z.trust with staged := none, token := some g.words } } : State).finish 2 0x102 0) := by
  have hgood : ¬ (7 ≤ fieldOf (paramOf msg 1) 27 24 ∨ (z.trust.staged.isNone ∧ fieldOf (paramOf msg 1) 23 20 ≠ 7)) := by
    rintro (hbad | ⟨-, hbad⟩)
    · omega
    · exact hbad hcount
  refine congrArg Host.Outcome.next ((serve_works h).trans ?_)
  rw [hz]
  dsimp only
  rw [if_neg hgood, hcount]
  rfl

theorem stageToken_first {z : State} (h : s.Serves 0x102 msg) (hz : s.taken 0x102 msg = z) (hpart : fieldOf (paramOf msg 1) 27 24 = 0)
    (hcount : fieldOf (paramOf msg 1) 23 20 = 7) (hws : (msg.params.drop 1).length = 4) (hnone : z.trust.staged = none) :
    exec (.stageToken msg) s = .next ((z.setStaged ⟨16, 7, msg.params.drop 1⟩).finish 2 0x102 0) := by
  have hmore : (⟨16, 7, msg.params.drop 1⟩ : Staged).next < 7 := by
    unfold Staged.next
    rw [hws]
    decide
  rw [stageToken_work h hz (by omega) hcount, hnone, hpart, stagePart_first]
  exact congrArg Host.Outcome.next (if_pos hmore)

theorem stageToken_later {z : State} {g : Staged} (h : s.Serves 0x102 msg) (hz : s.taken 0x102 msg = z)
    (hpart : fieldOf (paramOf msg 1) 27 24 < 7) (hcount : fieldOf (paramOf msg 1) 23 20 = 7) (hws : (msg.params.drop 1).length = 4)
    (hsome : z.trust.staged = some g) (hgslot : g.slot = 16) (hgcount : g.count = 7)
    (hwords : g.words.length = 4 * fieldOf (paramOf msg 1) 27 24) : exec (.stageToken msg) s = .next
      (if fieldOf (paramOf msg 1) 27 24 + 1 < 7 then (z.setStaged ⟨16, 7, g.words ++ msg.params.drop 1⟩).finish 2 0x102 0
       else ({ z with trust := { z.trust with staged := none, token := some (g.words ++ msg.params.drop 1) } } : State).finish 2 0x102 0) := by
  have hnext : (⟨16, 7, g.words ++ msg.params.drop 1⟩ : Staged).next = fieldOf (paramOf msg 1) 27 24 + 1 := Staged.next_append hwords hws
  rw [stageToken_work h hz hpart hcount, hsome, stagePart_next hgslot hgcount hwords]
  dsimp only
  rw [hnext]

/-! LC_ADVANCE (R503). -/

/-- The transition needs a token, and the one that is staged is none of that kind. -/
def State.tokenMissing (s : State) (target : Nat) (ok : Bool) : Bool :=
  match lcToken s.lcState target with
  | some kind => !s.tokenGood kind target ok
  | none => false

theorem tokenMissing_none {target : Nat} {ok : Bool} (h : ∀ kind, lcToken s.lcState target = some kind → s.tokenGood kind target ok = true) :
    s.tokenMissing target ok = false := by
  unfold State.tokenMissing
  split
  · next kind hkind => rw [h kind hkind]; rfl
  · rfl

theorem tokenMissing_bad {target kind : Nat} {ok : Bool} (hkind : lcToken s.lcState target = some kind) (hbad : s.tokenGood kind target ok = false) :
    s.tokenMissing target ok = true := by
  simp only [State.tokenMissing, hkind, hbad, Bool.not_false]

theorem lcAdvance_work {z : State} (ok : Bool) (h : s.Serves 0x101 msg) (hz : s.taken 0x101 msg = z) : let target := fieldOf (paramOf msg 1) 3 0
    exec (.lcAdvance msg ok) s = .next (if 7 ≤ target then z.finish 2 0x101 codeBadEncoding
      else if paramOf msg 2 ≠ z.reg rSerialLo then z.finish 2 0x101 codeConfirm
      else if !lcKnown z.lcState target then z.finish 2 0x101 codeLifecycle
      else if !z.lcCondition target then z.finish 2 0x101 codeCondition
      else if z.tokenMissing target ok then z.finish 2 0x101 codeToken
      else z.startBurn (.life target) 0x101) := by
  refine congrArg Host.Outcome.next ((serve_works h).trans ?_)
  rw [hz]
  rfl

/-! Burns (R504, R507, Table 19-2). -/

theorem fuseBurnDone_next {t target : Nat} (hburn : s.trust.burn = some (.life target)) (hpower : s.burnWaits = false) (ht : s.now ≤ t) :
    exec (.fuseBurnDone t) s =
      .next ((({ s with now := t, trust := { s.trust with burn := none } } : State).enterLc target).finish 2 0x101 0) := by
  have hexec : exec (.fuseBurnDone t) s = .next (fuseBurnDone t s) := rfl
  rw [hexec, fuseBurnDone, hburn]
  dsimp only
  rw [hpower, at_eq ht]
  rfl

theorem keyBurnDone_next {t slot : Nat} {ws : List Word} (hburn : s.trust.burn = some (.key slot ws)) (hpower : s.burnWaits = false)
    (ht : s.now ≤ t) : exec (.keyBurnDone t) s =
      .next ((({ s with now := t, trust := { s.trust with burn := none } } : State).enterKey slot ws).finish 2 0x100 0) := by
  have hexec : exec (.keyBurnDone t) s = .next (keyBurnDone t s) := rfl
  rw [hexec, keyBurnDone, hburn]
  dsimp only
  rw [hpower, at_eq ht]
  rfl

theorem supplyFault_next {t : Nat} {b : Burn} {v : Service} (hburn : s.trust.burn = some b) (hserving : s.serving 2 = some v)
    (hpower : s.burnWaits = true) (hlong : v.since + 100000000 ≤ t) (ht : s.now ≤ t) : exec (.supplyFault t) s =
      .next (({ s with now := t, trust := { s.trust with burn := none } } : State).finish 2 v.opcode codeSupplyFault) := by
  have hexec : exec (.supplyFault t) s = .next (supplyFaultOp t s) := rfl
  rw [hexec, supplyFaultOp, hburn, hserving]
  dsimp only
  rw [hpower, decide_eq_true hlong, at_eq ht]
  rfl

/-! The state that a transition enters (R504). -/

/-- LC_STAT with its new state and EPOCH. -/
def State.lcStored (s : State) (target : Nat) : State :=
  (s.setFld rLcStat 3 0 target).setFld rLcStat 31 24 ((s.fld rLcStat 31 24 + 1) % 256)

theorem lcStored_spec (hc : s.Canonical) {target : Nat} (htarget : target < 7) :
    (s.lcStored target).lcState = target ∧ (s.lcStored target).fld rLcStat 31 24 = (s.fld rLcStat 31 24 + 1) % 256 := by
  have hfirst : (s.setFld rLcStat 3 0 target).Canonical := hc.setReg _ _
  have hstate := State.fld_setFld hc rLcStat 3 0 target (by decide) (by decide)
  have hepoch := State.fld_setFld hfirst rLcStat 31 24 ((s.fld rLcStat 31 24 + 1) % 256) (by decide) (by decide)
  exact ⟨(State.fld_setFld_apart hfirst _ (by decide) (Or.inr (by decide))).trans (hstate.trans (Nat.mod_eq_of_lt (by omega))),
    hepoch.trans (Nat.mod_mod _ _)⟩

theorem setKeySlot_lcStat (slot v : Nat) : (s.setKeySlot slot v).reg rLcStat = s.reg rLcStat :=
  State.reg_setFld_other _ _ _ _ (by decide)

theorem enterLc_lcStat (target : Nat) : (s.enterLc target).reg rLcStat = (s.lcStored target).reg rLcStat := by
  have hpage : pageOf 0 = some ⟨.device, 0⟩ := by decide
  have hlogged (u : State) (v : Word) : ((u.logEntry 0 0x5 0 v).pulse .device 0 0).reg rLcStat = u.reg rLcStat := by
    refine (State.raise_reg _ _ _ _ (by decide)).trans (State.logEntry_reg _ _ _ _ _ (by decide) fun p hp => ?_)
    cases hpage.symm.trans hp
    decide
  refine (hlogged _ _).trans ?_
  split
  · exact setKeySlot_lcStat _ _
  · split
    · exact (setKeySlot_lcStat _ _).trans (setKeySlot_lcStat _ _)
    · split
      · exact (setKeySlot_lcStat _ _).trans ((setKeySlot_lcStat _ _).trans (setKeySlot_lcStat _ _))
      · rfl

end

/-- Settles O54: the parts in order, the refusals of a transition in their order, and the ends of burns. -/
theorem lifeCycleComplete : Obligations.LifeCycleComplete := by
  unfold Obligations.LifeCycleComplete
  refine ⟨fun msg s h => ?key, fun msg s h => ?token, fun msg tokenOk s h => ?advance,
    fun t target s hburn hpower ht => ⟨_, fuseBurnDone_next hburn hpower ht, rfl⟩, fun target s hc htarget => ?entered,
    fun t slot ws s hburn hpower ht => ⟨_, keyBurnDone_next hburn hpower ht, rfl⟩,
    fun t b v s hburn hserving hpower hlong ht => ⟨_, supplyFault_next hburn hserving hpower hlong ht, rfl⟩⟩
  case key =>
    intro z w slot part count ws hslot hlife hempty
    exact ⟨fun hnone hcount hpart hws => enrolKey_first h rfl hslot hlife hempty hnone hcount hpart hws,
      fun hnone hcount hpart => enrolKey_outOfOrder h rfl hslot hlife hempty hnone hcount hpart,
      fun g hsome hgslot hgcount hwords hws => enrolKey_later h rfl hslot hlife hempty hsome hgslot hgcount hwords hws⟩
  case token =>
    intro z w part ws hpart hws
    refine ⟨fun hnone hcount hzero => stageToken_first h rfl hzero hcount hws hnone,
      fun g hsome hgslot hgcount hcount hwords => ⟨fun hmore => ?_, fun hlast => ⟨_, ?_, rfl⟩⟩⟩
    · exact (stageToken_later h rfl hpart hcount hws hsome hgslot hgcount hwords).trans (congrArg Host.Outcome.next (if_pos (Nat.succ_lt_succ hmore)))
    · exact (stageToken_later h rfl hpart hcount hws hsome hgslot hgcount hwords).trans (congrArg Host.Outcome.next (if_neg
        (Nat.not_lt.mpr (Nat.le_of_eq (congrArg Nat.succ hlast).symm))))
  case advance =>
    intro z target
    have hnext := lcAdvance_work tokenOk h rfl
    refine ⟨fun hbad => hnext.trans (congrArg Host.Outcome.next (if_pos hbad)), fun hgood hserial => ?_, fun hgood hserial => ?_⟩
    · exact hnext.trans (congrArg Host.Outcome.next ((if_neg (Nat.not_le.mpr hgood)).trans (if_pos hserial)))
    · have hchecked := hnext.trans (congrArg Host.Outcome.next ((if_neg (Nat.not_le.mpr hgood)).trans (if_neg fun h => h hserial)))
      refine ⟨fun hknown => ?_, fun hknown hcond => ?_, fun hknown hcond => ⟨fun kind hkind hbad => ?_, fun hall => ?_⟩⟩
      · rw [hknown] at hchecked
        exact hchecked
      · rw [hknown, hcond] at hchecked
        exact hchecked
      · rw [hknown, hcond, tokenMissing_bad hkind hbad] at hchecked
        exact hchecked
      · rw [hknown, hcond, tokenMissing_none hall] at hchecked
        exact hchecked
  case entered =>
    obtain ⟨hstate, hepoch⟩ := lcStored_spec hc htarget
    exact ⟨(congrArg (fun w => fieldOf w 3 0) (enterLc_lcStat target)).trans hstate,
      (congrArg (fun w => fieldOf w 31 24) (enterLc_lcStat target)).trans hepoch⟩

end Sys2Proof.Machine
end

section
/-!
The weft core (R494 to R496; log entries 42 and 48).
-/

namespace Sys2Proof.Machine

section

variable {s : State}

/-! A reset. -/

theorem weftCtrl_access {m : Master} {v : Word} (ha : s.Accepts m.id ⟨.mgmt, 0⟩ 0x044 v) : exec (.weftReset m v) s =
    .next ((weftCtrlWritten v (s.recorded m.id ⟨.mgmt, 0⟩ 0x044 v)).follow.done m.id ⟨.mgmt, 0⟩ 0x044) :=
  congrArg Host.Outcome.next (access_effect (f := fun u => (weftCtrlWritten v u).follow) (by decide) ha (by decide) (by decide) (by decide)
    fun _ _ => rfl)

theorem weftCtrlWritten_resets {v : Word} (h : bitOf v 0 = true) : weftCtrlWritten v s = weftResetOp s := if_pos h

theorem weftCtrlWritten_releases {v : Word} (h : bitOf v 0 = false) (hhold : bitOf v 1 = false) (hheld : s.weftState = weftHeld) :
    weftCtrlWritten v s = s.weftRuns := (if_neg (by rw [h]; exact Bool.false_ne_true)).trans (if_pos ⟨hheld, hhold⟩)

/-- A reset weft core before its container is loaded again: counted, without watchdog and without a request. -/
def State.weftStopped (s : State) : State :=
  let s1 := s.count rWeftResets 15 0 1
  { s1 with trust := { s1.trust with wdog := none, serving := SMap.set none s1.trust.serving 1 none } }

theorem weftResetOp_eq : weftResetOp s = (s.driftAll.identityReset 1).weftStopped.setWeft
    (if (s.driftAll.identityReset 1).weftStopped.fld rWeftSrc 1 0 = 0 then weftNotLoaded else weftLoading) := rfl

theorem State.Canonical.weftStopped (hc : s.Canonical) : s.weftStopped.Canonical := { hc.count rWeftResets 15 0 1 with }

theorem weftStopped_src : s.weftStopped.fld rWeftSrc 1 0 = s.fld rWeftSrc 1 0 :=
  congrArg (fun w => fieldOf w 1 0) (State.reg_count_other s 15 0 1 (by decide))

theorem weftStopped_resets (hc : s.Canonical) : s.weftStopped.fld rWeftResets 15 0 = min 65535 (s.fld rWeftResets 15 0 + 1) :=
  State.fld_count hc rWeftResets 1 (by decide) (by decide)

theorem weftStopped_serving (hwf : SMap.wf (fun _ => none) s.trust.serving = true) : s.weftStopped.serving 1 = none :=
  SMap.get_set_same none s.trust.serving 1 none (SMap.wf_sorted hwf)

theorem setWeft_state (hc : s.Canonical) (k : Nat) (hk : k < 8) : (s.setWeft k).weftState = k :=
  (State.fld_setFld hc rCoreStat 6 4 k (by decide) (by decide)).trans (Nat.mod_eq_of_lt hk)

theorem weftResetOp_spec (hc : s.Canonical) : let z := s.driftAll.identityReset 1
    let t := weftResetOp s
    t.weftState = (if z.fld rWeftSrc 1 0 = 0 then weftNotLoaded else weftLoading) ∧ t.trust.wdog = none ∧
      (SMap.wf (fun _ => none) z.trust.serving = true → t.serving 1 = none) ∧
      t.fld rWeftResets 15 0 = min 65535 (z.fld rWeftResets 15 0 + 1) := by
  have hz : (s.driftAll.identityReset 1).Canonical :=
    (State.identityReset_follows _ 1 (State.driftAll_follows s (Follows.refl s))).memory hc
  dsimp only
  rw [weftResetOp_eq, weftStopped_src]
  generalize s.driftAll.identityReset 1 = z at *
  have hcode : (if z.fld rWeftSrc 1 0 = 0 then weftNotLoaded else weftLoading) < 8 := by split <;> decide
  generalize (if z.fld rWeftSrc 1 0 = 0 then weftNotLoaded else weftLoading) = code at *
  exact ⟨setWeft_state hz.weftStopped code hcode, rfl, fun hwf => weftStopped_serving hwf,
    (congrArg (fun w => fieldOf w 15 0) (State.reg_setFld_other z.weftStopped 6 4 code (by decide))).trans (weftStopped_resets hz)⟩

/-! The verdict on a container (R494). -/

/-- What a container that passes leaves before the core runs or is held. -/
def State.containerTaken (s : State) (patch : Nat) (version : Word) : State :=
  let r := (s.setFld rFwVer 15 0 patch).setBit rCoreStat 3 (decide (patch ≠ 0))
  { r with trust := { r.trust with version := version } }

theorem containerTaken_hold (patch : Nat) (version : Word) : (s.containerTaken patch version).bit rWeftCtrl 1 = s.bit rWeftCtrl 1 :=
  congrArg (fun w => bitOf w 1) ((State.reg_setReg_other _ _ (by decide)).trans (State.reg_setFld_other s _ _ _ (by decide)))

theorem containerVerified_eq (ok : Bool) (patch : Nat) (version : Word) (hloading : s.weftState = weftLoading) :
    containerVerified ok patch version s = if ok then
      (if s.bit rWeftCtrl 1 then (s.containerTaken patch version).setWeft weftHeld else (s.containerTaken patch version).weftRuns)
      else (s.setWeft weftFailed).mgmtEvent 1 := by
  rw [← containerTaken_hold patch version]
  exact if_neg fun h => h hloading

theorem weftContainerVerified_next (ok : Bool) (patch : BitVec 16) (version : Word) :
    exec (.weftContainerVerified ok patch version) s = .next (containerVerified ok patch.toNat version s).follow := rfl

/-- PATCH of the container as its number. -/
theorem patch_nonzero (patch : BitVec 16) : decide (patch.toNat ≠ 0) = decide (patch ≠ 0) :=
  decide_eq_decide.mpr (not_congr (BitVec.toNat_inj (y := 0)))

/-! The watchdog and HEARTBEAT (R496). -/

theorem weftWdog_next {t due : Nat} (hwdog : s.trust.wdog = some due) (hruns : s.weftState = weftRunning) (hdue : due ≤ t) (ht : s.now ≤ t) :
    exec (.weftWdog t) s = .next (((weftResetOp { s with now := t }).count rWeftResets 31 16 1).mgmtEvent 2) := by
  have hexec : exec (.weftWdog t) s = .next (weftWdogOp t s) := rfl
  rw [hexec, weftWdogOp, hwdog]
  dsimp only
  rw [hruns, decide_eq_true hdue, at_eq ht]
  rfl

theorem heartbeat_access {m : Master} (ha : s.AcceptsRead m.id ⟨.mgmt, 0⟩ 0x04C) : exec (.heartbeat m) s =
    .next ((heartbeatRead m.id s.forgetAnswer).1.readDone m.id ⟨.mgmt, 0⟩ 0x04C (heartbeatRead m.id s.forgetAnswer).2) :=
  congrArg Host.Outcome.next (access_read_plain (by decide) ha (by decide) (by decide) (by decide))

theorem heartbeat_counts {m : Master} (hc : s.Canonical) (ha : s.AcceptsRead m.id ⟨.mgmt, 0⟩ 0x04C) (hm : m.id = 1) :
    ∃ t, exec (.heartbeat m) s = .next t ∧ t.reg rHeartbeat = s.reg rHeartbeat + 1 ∧ t.resp.data = [s.reg rHeartbeat + 1] ∧
      t.resp.code = 0 ∧ t.trust.wdog = (if s.fld rPolicy 31 16 = 0 then none else some (s.now + 1000000 * s.fld rPolicy 31 16)) ∧
      t = { s with regs := t.regs, trust := t.trust, resp := t.resp } := by
  have hcount : (s.forgetAnswer.countWrap rHeartbeat).reg rHeartbeat = s.reg rHeartbeat + 1 := (State.reg_setReg hc.forget _ _ _).trans (if_pos rfl)
  have hpolicy : (s.forgetAnswer.countWrap rHeartbeat).fld rPolicy 31 16 = s.fld rPolicy 31 16 :=
    congrArg (fun w => fieldOf w 31 16) (State.reg_setReg_other s.forgetAnswer _ (by decide))
  have hread : heartbeatRead 1 s.forgetAnswer =
      ((s.forgetAnswer.countWrap rHeartbeat).restartWdog, s.reg rHeartbeat + 1) := by
    rw [← hcount]
    rfl
  have hnext := heartbeat_access ha
  rw [hm, hread] at hnext
  refine ⟨_, hnext, hcount, rfl, rfl, ?_, rfl⟩
  rw [← hpolicy]
  rfl

theorem heartbeat_shows {m : Master} (ha : s.AcceptsRead m.id ⟨.mgmt, 0⟩ 0x04C) (hm : m.id ≠ 1) :
    ∃ t, exec (.heartbeat m) s = .next t ∧ t.resp.data = [s.reg rHeartbeat] ∧ t.resp.code = 0 ∧
      t = { s with resp := t.resp, jtag := { s.jtag with out := t.jtag.out } } := by
  have hread : heartbeatRead m.id s.forgetAnswer = (s.forgetAnswer, s.reg rHeartbeat) := if_neg hm
  have hnext := heartbeat_access ha
  rw [hread] at hnext
  exact ⟨_, hnext, congrArg Response.data (State.readDone_resp _ _ _ _ _), congrArg Response.code (State.readDone_resp _ _ _ _ _),
    State.readDone_quiet _ _ _ _ _⟩

end

/-- Settles O49: WEFT_CTRL by the effect of its register, the registers of a reset, and who reads HEARTBEAT. -/
theorem weftCoreComplete : Obligations.WeftCoreComplete := by
  unfold Obligations.WeftCoreComplete
  refine ⟨fun m v s ha => ⟨fun hreset => ?resets, fun hno hhold hheld => ?releases⟩, fun s hc => weftResetOp_spec hc,
    fun ok patch version s hloading => ?container, fun t due s hwdog hruns hdue ht => weftWdog_next hwdog hruns hdue ht,
    fun m s hc ha => ⟨heartbeat_counts hc ha, heartbeat_shows ha⟩⟩
  case resets => rw [weftCtrl_access ha, weftCtrlWritten_resets hreset]
  case releases => rw [weftCtrl_access ha, weftCtrlWritten_releases hno hhold hheld]
  case container =>
    intro r u
    have hu : u = s.containerTaken patch.toNat version := by
      rw [State.containerTaken, patch_nonzero]
    rw [weftContainerVerified_next, containerVerified_eq ok patch.toNat version hloading, hu]
    refine ⟨fun hok hhold => ?_, fun hok hhold => ?_, fun hbad => ?_⟩
    · rw [hok, hhold]; rfl
    · rw [hok, hhold]; rfl
    · rw [hbad]; rfl

end Sys2Proof.Machine
end

section
/-!
The JTAG port and the debug port (R508, R509).
-/

namespace Sys2Proof.Machine

section

variable {k : PageKind} {n off : Nat} {v : Word} {s : State}

/-- The port with a new instruction, and the pads that follow. -/
def State.jtagShown (s : State) (j : Jtag) : State := ((s.withJtag j).refreshPins (List.range 960)).settle

theorem jtagInstrOp_withJtag (i : JtagInstr) (j : Jtag) : jtagInstrOp i (s.withJtag j) = s.jtagShown { j with instr := i } := rfl

theorem jtagInstrOp_shown (i : JtagInstr) (u : State) : jtagInstrOp i u = u.jtagShown { u.jtag with instr := i } := rfl

theorem jtagIdcode_next : exec .jtagIdcode s = .next (s.jtagShown { s.jtag with
      instr := .idcode, out := BitVec.ofNat 32 (place (s.fld 0x044 3 0) 28 + place 0x4096 12 + place Config.jtagMaker.toNat 1 + 1) }) := by
  have hexec : exec .jtagIdcode s = .next (idcodeOp s) := rfl
  rw [hexec, idcodeOp, jtagInstrOp_withJtag]

theorem trst_next : exec .trst s = .next (((s.withJtag {}).identityReset 5).jtagShown
    { ((s.withJtag {}).identityReset 5).jtag with instr := .idcode }) := by
  have hexec : exec .trst s = .next (jtagInstrOp .idcode ((s.withJtag {}).identityReset 5)) := rfl
  rw [hexec, jtagInstrOp_shown]

theorem jtagSamplePreload_next {levels : List Bool} (hlevels : levels.length = 960) : exec (.jtagSamplePreload levels) s = .next
    (s.jtagShown { s.jtag with instr := .sample, captured := (List.range 960).map (fun p => s.pinLevel p), boundary := levels }) := by
  have hok : preloadOk levels = true := by rw [preloadOk, hlevels]; rfl
  have hexec : exec (.jtagSamplePreload levels) s = .next (samplePreloadOp levels s) := if_pos hok
  rw [hexec, samplePreloadOp, jtagInstrOp_withJtag]

/-- An access of the debug port. -/
def dbgIssued (write : Bool) (a : Nat) (v : Word) : Issued := { master := 5, addr := a, write := write, value := v }

theorem dbgAccess_next (write : Bool) (hn : n < k.info.2.1) (ho : off < 0x1000) :
    exec (.dbgAccess write (BitVec.ofNat 32 (regAddr k n off)) v) s =
      .next (access (busAccess (dbgIssued write (regAddr k n off) v)) (jtagInstrOp .debug s)) := by
  have hexec : exec (.dbgAccess write (BitVec.ofNat 32 (regAddr k n off)) v) s =
    .next (dbgAccessOp write (BitVec.ofNat 32 (regAddr k n off)).toNat v s) := rfl
  rw [hexec, toNat_regAddr hn ho]
  rfl

/-! Reads. -/

theorem dbgRead_bus {d : State} (hturn : d.waits (dbgIssued false (regAddr k n off) v) = false) (hn : n < k.info.2.1) (ho : off < 0x1000)
    (h4 : off % 4 = 0) : busAccess (dbgIssued false (regAddr k n off) v) d =
      (pageRead 5 ⟨k, n⟩ off d).conclude { dbgIssued false (regAddr k n off) v with time := d.now } :=
  (busAccess_page (p := ⟨k, n⟩) hturn rfl rfl rfl hn ho h4).trans
    (congrArg (fun u : State => u.conclude { dbgIssued false (regAddr k n off) v with time := d.now }) (if_neg Bool.false_ne_true))

theorem dbgRead_access {d : State} (hpop : ¬ (k = .creel ∧ off = 0x160)) (ha : d.AcceptsRead 5 ⟨k, n⟩ off) (hn : n < k.info.2.1) (ho : off < 0x1000)
    (h4 : off % 4 = 0) : access (busAccess (dbgIssued false (regAddr k n off) v)) d =
      (readEffect 5 ⟨k, n⟩ off d.forgetAnswer).1.readDone 5 ⟨k, n⟩ off (readEffect 5 ⟨k, n⟩ off d.forgetAnswer).2 := by
  have hread : pageRead 5 ⟨k, n⟩ off d.forgetAnswer = (readEffect 5 ⟨k, n⟩ off d.forgetAnswer).1.answer 5 false (regAddr k n off)
      [(readEffect 5 ⟨k, n⟩ off d.forgetAnswer).2] 0 := by
    simp only [pageRead, State.readReg, ha.checks, ha.block, if_neg hpop]
    rfl
  have hturn : d.forgetAnswer.waits (dbgIssued false (regAddr k n off) v) = false := ha.turn
  have hbus := dbgRead_bus (d := d.forgetAnswer) hturn hn ho h4
  rw [hread] at hbus
  have hend := conclude_answered (readEffect 5 ⟨k, n⟩ off d.forgetAnswer).1
    { dbgIssued false (regAddr k n off) v with time := d.forgetAnswer.now } [(readEffect 5 ⟨k, n⟩ off d.forgetAnswer).2] rfl rfl rfl rfl
  rw [access, ha.running, if_neg Bool.false_ne_true]
  have hdone := hbus.trans hend
  refine (congrArg State.noteRejection hdone).trans (noteRejection_good ?_)
  rw [heard_code]
  rfl

theorem readDone_debug (u : State) (p : Page) (off : Nat) (w : Word) : (u.readDone 5 p off w).jtag.out = w := rfl

theorem dbgRead_shows (hpop : ¬ (k = .creel ∧ off = 0x160)) (ha : (jtagInstrOp .debug s).AcceptsRead 5 ⟨k, n⟩ off) (hn : n < k.info.2.1)
    (ho : off < 0x1000) (h4 : off % 4 = 0) : let r := readEffect 5 ⟨k, n⟩ off (jtagInstrOp .debug s).forgetAnswer
    ∃ t, exec (.dbgAccess false (BitVec.ofNat 32 (regAddr k n off)) v) s = .next t ∧ t.resp = ⟨5, false, regAddr k n off, [r.2], 0, .success⟩ ∧
      t.jtag.out = r.2 := by
  intro r
  have haccess := dbgRead_access (v := v) hpop ha hn ho h4
  rw [dbgAccess_next false hn ho, haccess]
  exact ⟨_, rfl, State.readDone_resp r.1 5 ⟨k, n⟩ off r.2, readDone_debug r.1 ⟨k, n⟩ off r.2⟩

theorem done_debug (u : State) (p : Page) (off : Nat) : (u.done 5 p off).jtag.out = 0 := rfl

theorem dbgIssued_write (a : Nat) (v : Word) : busAccess (dbgIssued true a v) = busWrite 5 a 15 v := rfl

theorem dbgWrite_access {d : State} (ha : d.Accepts 5 ⟨k, n⟩ off v) (hn : n < k.info.2.1) (ho : off < 0x1000) (h4 : off % 4 = 0)
    (hstart : isStart ⟨k, n⟩ off v = false) (hlog : ¬ (k = .log ∧ off = 0x058))
    (hwaits : ((d.begun ⟨k, n⟩ off).effectOf 5 ⟨k, n⟩ off ((d.begun ⟨k, n⟩ off).view 5 ⟨k, n⟩ off) v).waits = false) :
    access (busAccess (dbgIssued true (regAddr k n off) v)) d =
      (State.effectAt 5 ⟨k, n⟩ off ((d.begun ⟨k, n⟩ off).view 5 ⟨k, n⟩ off) v (d.recorded 5 ⟨k, n⟩ off v)).done 5 ⟨k, n⟩ off := by
  rw [dbgIssued_write]
  exact access_write (p := ⟨k, n⟩) ha hn ho h4 hstart hlog hwaits

/-! Accesses in a state that closes the debug port. -/

theorem pageClosed_open {d : State} {p : Page} (hpower : d.unpowered p off = false) (htest : d.testBusy p off = false) :
    d.forgetAnswer.pageClosed 5 p off = none := by
  have hpower' : d.forgetAnswer.unpowered p off = false := hpower
  have htest' : d.forgetAnswer.testBusy p off = false := htest
  have hhost : (isHostId 5 && d.forgetAnswer.shuttingDown && !openAfterShutdown p) = false := rfl
  rw [State.pageClosed, hhost, hpower', htest']
  rfl

theorem dbgWrite_closed {d : State} (hrun : d.inReset = false) (hclosed : d.debugOpen = false) (hpower : d.unpowered ⟨k, n⟩ off = false)
    (htest : d.testBusy ⟨k, n⟩ off = false) (hlane : k = .serdes → off < 0x100) (hn : n < k.info.2.1) (ho : off < 0x1000) (h4 : off % 4 = 0)
    (hturn : d.waits (dbgIssued true (regAddr k n off) v) = false) : access (busAccess (dbgIssued true (regAddr k n off) v)) d =
      ((d.forgetAnswer.refuse 5 ⟨k, n⟩ true off codeLifecycle).heard 5).noteRejection := by
  have hbegun : d.begun ⟨k, n⟩ off = d.forgetAnswer := recorded_begun hlane
  have hopen := pageClosed_open (p := ⟨k, n⟩) hpower htest
  have hlife : d.forgetAnswer.writeClosed 5 ⟨k, n⟩ off v = true := by
    have hdebug : d.forgetAnswer.debugOpen = false := hclosed
    rw [State.writeClosed, hdebug]
    rfl
  have hfail : (d.begun ⟨k, n⟩ off).writeFails 5 ⟨k, n⟩ off 15 ((d.begun ⟨k, n⟩ off).view 5 ⟨k, n⟩ off) v = some codeLifecycle := by
    rw [hbegun]
    simp only [State.writeFails, hopen, hlife, ne_eq, not_true_eq_false, if_false, if_true]
  rw [← hbegun]
  exact access_write_refused (p := ⟨k, n⟩) (be := 15) hrun hturn hn ho h4 hfail

theorem dbgRead_closed {d : State} (hrun : d.inReset = false) (hclosed : d.debugOpen = false) (hpower : d.unpowered ⟨k, n⟩ off = false)
    (htest : d.testBusy ⟨k, n⟩ off = false) (hn : n < k.info.2.1) (ho : off < 0x1000) (h4 : off % 4 = 0)
    (hturn : d.waits (dbgIssued false (regAddr k n off) v) = false) : access (busAccess (dbgIssued false (regAddr k n off) v)) d =
      ((d.forgetAnswer.refuse 5 ⟨k, n⟩ false off codeLifecycle).heard 5).noteRejection := by
  have hopen := pageClosed_open (p := ⟨k, n⟩) hpower htest
  have hdebug : d.forgetAnswer.debugOpen = false := hclosed
  have hfails : d.forgetAnswer.readFails 5 ⟨k, n⟩ off = some codeLifecycle := by
    rw [State.readFails, hopen, hdebug]
    rfl
  have hread : pageRead 5 ⟨k, n⟩ off d.forgetAnswer = d.forgetAnswer.refuse 5 ⟨k, n⟩ false off codeLifecycle := by
    simp only [pageRead, State.readReg, hfails]
  have hbus := dbgRead_bus (d := d.forgetAnswer) hturn hn ho h4
  rw [hread] at hbus
  rw [access, hrun, if_neg Bool.false_ne_true]
  exact congrArg State.noteRejection (hbus.trans (conclude_heard rfl rfl rfl rfl rfl))

/-- The master learns of the rejection by its answer alone. -/
theorem refused_debug (d : State) (p : Page) (write : Bool) :
    let t := ((d.refuse 5 p write off codeLifecycle).heard 5).noteRejection
    t.resp.code = codeLifecycle ∧ t.resp.master = 5 := by
  have hresp : ((d.refuse 5 p write off codeLifecycle).heard 5).resp = (d.refuse 5 p write off codeLifecycle).resp := heard_code _ _
  have hmaster : (d.refuse 5 p write off codeLifecycle).resp.master = 5 := rfl
  have hcode : (d.refuse 5 p write off codeLifecycle).resp.code = codeLifecycle := rfl
  have hquiet : ((d.refuse 5 p write off codeLifecycle).heard 5).noteRejection = (d.refuse 5 p write off codeLifecycle).heard 5 :=
    noteRejection_none (by rw [hresp, hmaster]; rfl) (by rw [hresp, hmaster]; rfl)
  dsimp only
  rw [hquiet, hresp]
  exact ⟨hcode, hmaster⟩

end

/-- Settles O50: the current instruction decides the pads; an access of the debug port is one of identity 5. -/
theorem jtagComplete : Obligations.JtagComplete := by
  unfold Obligations.JtagComplete
  intro s now cur d code
  refine ⟨rfl, rfl, rfl, rfl, jtagIdcode_next, fun levels hlevels => jtagSamplePreload_next hlevels, trst_next, fun k n off v hn ho h4 => ?_⟩
  intro p a
  refine ⟨fun ha hpop => ?reads, fun ha hstart hlog hwaits => ?writes, fun hrun hclosed hpower htest hlane write hturn => ?closed⟩
  case reads => exact dbgRead_shows hpop ha hn ho h4
  case writes =>
    intro w
    have hwrite := dbgWrite_access ha hn ho h4 hstart hlog hwaits
    exact ⟨(dbgAccess_next true hn ho).trans (congrArg Host.Outcome.next hwrite), done_debug _ p off⟩
  case closed =>
    cases write with
    | true =>
      exact ⟨_, (dbgAccess_next true hn ho).trans (congrArg Host.Outcome.next (dbgWrite_closed hrun hclosed hpower htest hlane hn ho h4 hturn)),
        refused_debug _ _ _⟩
    | false =>
      exact ⟨_, (dbgAccess_next false hn ho).trans (congrArg Host.Outcome.next (dbgRead_closed hrun hclosed hpower htest hn ho h4 hturn)),
        refused_debug _ _ _⟩

end Sys2Proof.Machine
end

section
/-!
Rail events (R518 to R520, R539): warnings and their ends, the measured levels, and the clearing of the records.
-/

namespace Sys2Proof.Machine

/-! A warning. -/

section

variable {s : State} {k mv t : Nat}

/-- What a warning at `mv` leaves in the records of its rail, and its event. -/
def State.railNoted (s : State) (k mv : Nat) : State :=
  (s.withPwr { s.pwr with
    warn := s.pwr.warn + 2 ^ k, dipMin := SMap.set 0 s.pwr.dipMin k mv, dipStart := SMap.set 0 s.pwr.dipStart k s.now }).raise
      ⟨.power, 0⟩ 0 (railDetail k mv)

theorem masked_eq : s.masked k = true ↔ s.pwr.removed = true ∧ k < 4 := by
  rw [State.masked, Bool.and_eq_true, decide_eq_true_eq]

theorem railWarnOp_ignored (h : s.pwr.warn.testBit k = true ∨ (s.pwr.removed = true ∧ k < 4) ∨ warnLevel k ≤ mv) : railWarnOp k mv t s = s := by
  refine if_pos ?_
  rw [Bool.or_eq_true, Bool.or_eq_true, masked_eq, decide_eq_true_eq]
  exact or_assoc.mpr h

theorem railWarnOp_records (hwarn : s.pwr.warn.testBit k = false) (hlow : mv < warnLevel k) (hmask : s.masked k = false) (ht : s.now ≤ t) :
    let u : State := { s with now := t }
    railWarnOp k mv t s =
      if k < 4 then ((((sendingSeams k).foldl (fun s f => s.holdSeamFrame f) u).railNoted k mv).setReg (regAddr .panel k 0x040) 0).holdPanel k
      else u.railNoted k mv := by
  have hcond : ¬ (s.pwr.warn.testBit k || s.masked k || decide (warnLevel k ≤ mv)) = true := by
    rw [hwarn, hmask, decide_eq_false (Nat.not_le.mpr hlow)]
    exact Bool.false_ne_true
  rw [railWarnOp, if_neg hcond, at_eq ht]
  by_cases hk : k < 4
  · simp only [if_pos hk]
    rfl
  · simp only [if_neg hk]
    rfl

end

/-! The end of a warning (R519). -/

/-- The fields of the detail of a dip, whatever its flag. -/
theorem fields_dipRec {k low : Nat} (b : Bool) (hk : k < 10) (hlow : low < 2 ^ 16) :
    fieldOf (BitVec.ofNat 32 (place k 28 + flag b 27 + low)) 31 28 = k ∧ fieldOf (BitVec.ofNat 32 (place k 28 + flag b 27 + low)) 15 0 = low := by
  have hb := Bool.toNat_le b
  simp only [fieldOf, place, flag, BitVec.toNat_ofNat, Nat.shiftRight_eq_div_pow]
  omega

section

variable {s : State} {k t : Nat}

/-- A rail whose warning has ended. -/
def State.railCleared (s : State) (k t : Nat) : State :=
  { s with
    now := t,
    pwr := { s.pwr with
      warn := s.pwr.warn - 2 ^ k, dipMin := SMap.set 0 s.pwr.dipMin k 0, dipStart := SMap.set 0 s.pwr.dipStart k 0 } }

/-- The record of a dip to `low` that began at `began`. -/
def State.dipRecorded (s : State) (k low began : Nat) : State :=
  ((s.setReg rDipRec (BitVec.ofNat 32 (place k 28 + flag (s.bit rDipRec 27) 27 + low))).setReg rDipTime (BitVec.ofNat 32 began)).setReg rDipLen
    (BitVec.ofNat 32 (min (2 ^ 32 - 1) ((s.now - began) / 1000)))

theorem railRecoveredOp_eq (hwarn : s.pwr.warn.testBit k = true) (ht : s.now ≤ t) :
    let low := SMap.get 0 s.pwr.dipMin k
    railRecoveredOp k t s = (((s.railCleared k t).dipRecorded k low (SMap.get 0 s.pwr.dipStart k)).raise ⟨.power, 0⟩ 1
      (BitVec.ofNat 32 (place k 28 + low))).settle := by
  refine (if_pos hwarn).trans ?_
  rw [at_eq ht]
  rfl

theorem dipRecorded_spec {low began : Nat} (hc : s.Canonical) (hk : k < 10) (hlow : low < 2 ^ 16) : let u := s.dipRecorded k low began
    u.fld rDipRec 31 28 = k ∧ u.fld rDipRec 15 0 = low ∧ u.reg rDipTime = BitVec.ofNat 32 began ∧
      u.reg rDipLen = BitVec.ofNat 32 (min (2 ^ 32 - 1) ((s.now - began) / 1000)) ∧ u = { s with regs := u.regs } := by
  obtain ⟨hrail, hdepth⟩ := fields_dipRec (s.bit rDipRec 27) hk hlow
  dsimp only
  rw [State.dipRecorded]
  generalize BitVec.ofNat 32 (place k 28 + flag (s.bit rDipRec 27) 27 + low) = detail at *
  generalize BitVec.ofNat 32 (min (2 ^ 32 - 1) ((s.now - began) / 1000)) = length
  have h1 := hc.setReg rDipRec detail
  have h2 := h1.setReg rDipTime (BitVec.ofNat 32 began)
  have hrec : (((s.setReg rDipRec detail).setReg rDipTime (BitVec.ofNat 32 began)).setReg rDipLen length).reg rDipRec = detail :=
    (State.reg_setReg_other _ _ (by decide)).trans ((State.reg_setReg_other _ _ (by decide)).trans
      ((State.reg_setReg hc _ _ _).trans (if_pos rfl)))
  exact ⟨(congrArg (fun w => fieldOf w 31 28) hrec).trans hrail, (congrArg (fun w => fieldOf w 15 0) hrec).trans hdepth,
    (State.reg_setReg_other _ _ (by decide)).trans ((State.reg_setReg h1 _ _ _).trans (if_pos rfl)),
    (State.reg_setReg h2 _ _ _).trans (if_pos rfl), by unfold State.setReg; rfl⟩

end

/-! The measured levels (Table 19-12). -/

/-- One level `mv` of rail `k` is measured. -/
def State.railRead (s : State) (mv k : Nat) : State :=
  let s1 := (s.setFld (rRailMv k) 15 0 mv).setReg (rRailMin k) (BitVec.ofNat 32 (min (s.fld (rRailMin k) 15 0) mv))
  if s1.pwr.warn.testBit k then
    s1.withPwr { s1.pwr with dipMin := SMap.set 0 s1.pwr.dipMin k (min (SMap.get 0 s1.pwr.dipMin k) mv) }
  else s1

theorem railMeasureOp_eq (mvs : List Nat) (s : State) : railMeasureOp mvs s = mvs.zipIdx.foldl (fun s e => s.railRead e.1 e.2) s := rfl

/-- Registers of levels and of lowest levels lie apart. -/
theorem railRegs_apart {i j : Nat} (hi : i < 10) (hj : j < 10) : rRailMv i ≠ rRailMin j ∧ (i ≠ j → rRailMv i ≠ rRailMv j ∧ rRailMin i ≠ rRailMin j) := by
  simp only [rRailMv, rRailMin, regAddr]
  omega

section

variable {s : State} {mv k : Nat}

theorem railRead_regs (s : State) (mv k : Nat) : (s.railRead mv k).regs =
    ((s.setFld (rRailMv k) 15 0 mv).setReg (rRailMin k) (BitVec.ofNat 32 (min (s.fld (rRailMin k) 15 0) mv))).regs := by
  rw [State.railRead]
  split <;> rfl

theorem railRead_reg (s : State) (mv k a : Nat) : (s.railRead mv k).reg a =
    ((s.setFld (rRailMv k) 15 0 mv).setReg (rRailMin k) (BitVec.ofNat 32 (min (s.fld (rRailMin k) 15 0) mv))).reg a :=
  congrArg (fun r => SMap.get (resetOf a) r a) (railRead_regs s mv k)

theorem railRead_frame (s : State) (mv k : Nat) :
    s.railRead mv k = { s with regs := (s.railRead mv k).regs, pwr := (s.railRead mv k).pwr } := by
  rw [State.railRead]
  split <;> rfl

theorem railRead_warn (s : State) (mv k : Nat) : (s.railRead mv k).pwr.warn = s.pwr.warn := by
  rw [State.railRead]
  split <;> rfl

theorem State.Canonical.railRead (hc : s.Canonical) : (s.railRead mv k).Canonical := by
  rw [State.railRead]
  have h1 := (hc.setReg (rRailMv k) (withField (s.reg (rRailMv k)) 15 0 mv)).setReg (rRailMin k)
    (BitVec.ofNat 32 (min (s.fld (rRailMin k) 15 0) mv))
  split
  · exact { h1 with }
  · exact h1

theorem railRead_other {a : Nat} (hmv : a ≠ rRailMv k) (hmin : a ≠ rRailMin k) : (s.railRead mv k).reg a = s.reg a :=
  (railRead_reg s mv k a).trans ((State.reg_setReg_other _ _ hmin).trans (State.reg_setFld_other _ _ _ _ hmv))

theorem railRead_level (hc : s.Canonical) (hk : k < 10) (hmv : mv < 2 ^ 16) : (s.railRead mv k).fld (rRailMv k) 15 0 = mv :=
  (congrArg (fun w => fieldOf w 15 0) ((railRead_reg s mv k _).trans (State.reg_setReg_other _ _ (railRegs_apart hk hk).1))).trans
    ((State.fld_setFld hc _ _ _ _ (by decide) (by decide)).trans (Nat.mod_eq_of_lt hmv))

theorem railRead_lowest (hc : s.Canonical) :
    (s.railRead mv k).reg (rRailMin k) = BitVec.ofNat 32 (min (s.fld (rRailMin k) 15 0) mv) :=
  (railRead_reg s mv k _).trans ((State.reg_setReg (hc.setReg (rRailMv k) _) _ _ _).trans (if_pos rfl))

end

/-- Levels measured from rail `i` on. -/
theorem railReads_spec (mvs : List Nat) : ∀ (i : Nat) (s : State), s.Canonical → i + mvs.length ≤ 10 → (∀ mv ∈ mvs, mv < 2 ^ 16) →
    let z := (mvs.zipIdx i).foldl (fun s e => s.railRead e.1 e.2) s
    z = { s with regs := z.regs, pwr := z.pwr } ∧ z.pwr.warn = s.pwr.warn ∧
      (∀ j < mvs.length, z.fld (rRailMv (i + j)) 15 0 = mvs.getD j 0 ∧
        z.reg (rRailMin (i + j)) = BitVec.ofNat 32 (min (s.fld (rRailMin (i + j)) 15 0) (mvs.getD j 0))) ∧
      ∀ a, (∀ j < mvs.length, a ≠ rRailMv (i + j) ∧ a ≠ rRailMin (i + j)) → z.reg a = s.reg a := by
  induction mvs with
  | nil => exact fun i s hc hlen hmvs => ⟨rfl, rfl, fun j hj => absurd hj (Nat.not_lt_zero j), fun a ha => rfl⟩
  | cons mv mvs ih =>
    intro i s hc hlen hmvs
    rw [List.length_cons] at hlen
    have hi : i < 10 := by omega
    obtain ⟨hframe, hwarn, hread, hother⟩ := ih (i + 1) (s.railRead mv i) hc.railRead (by omega)
      (fun x hx => hmvs x (List.mem_cons_of_mem _ hx))
    dsimp only [List.zipIdx_cons, List.foldl_cons]
    generalize (mvs.zipIdx (i + 1)).foldl (fun s e => s.railRead e.1 e.2) (s.railRead mv i) = z at *
    have hapart {j : Nat} (hj : j < mvs.length) : (rRailMv i ≠ rRailMv (i + 1 + j) ∧ rRailMv i ≠ rRailMin (i + 1 + j)) ∧
        rRailMin i ≠ rRailMv (i + 1 + j) ∧ rRailMin i ≠ rRailMin (i + 1 + j) := by
      have hj10 : i + 1 + j < 10 := by omega
      obtain ⟨hmin, hne⟩ := railRegs_apart hi hj10
      obtain ⟨hlevels, hlowest⟩ := hne (by omega)
      exact ⟨⟨hlevels, hmin⟩, (railRegs_apart hj10 hi).1.symm, hlowest⟩
    refine ⟨?frame, hwarn.trans (railRead_warn s mv i), ?reads, ?other⟩
    case frame => rw [hframe, railRead_frame]
    case reads =>
      intro j hj
      cases j with
      | zero =>
        refine ⟨(congrArg (fun w => fieldOf w 15 0) (hother _ fun j hj => (hapart hj).1)).trans
          (railRead_level hc hi (hmvs mv List.mem_cons_self)), (hother _ fun j hj => (hapart hj).2).trans (railRead_lowest hc)⟩
      | succ j =>
        have hj' : j < mvs.length := Nat.lt_of_succ_lt_succ hj
        obtain ⟨hlevel, hlowest⟩ := hread j hj'
        have hkept : (s.railRead mv i).fld (rRailMin (i + 1 + j)) 15 0 = s.fld (rRailMin (i + 1 + j)) 15 0 :=
          congrArg (fun w => fieldOf w 15 0) (railRead_other (hapart hj').1.2.symm (hapart hj').2.2.symm)
        rw [hkept] at hlowest
        rw [show i + (j + 1) = i + 1 + j by omega]
        exact ⟨hlevel, hlowest⟩
    case other =>
      intro a ha
      refine (hother a fun j hj => ?_).trans (railRead_other (ha 0 (Nat.succ_pos _)).1 (ha 0 (Nat.succ_pos _)).2)
      have hnext := ha (j + 1) (Nat.succ_lt_succ hj)
      rwa [show i + (j + 1) = i + 1 + j by omega] at hnext

theorem railMeasure_next (mvs : List (BitVec 16)) (t : Nat) (s : State) (hc : s.Canonical) (ht : s.now ≤ t) (hlen : mvs.length = 10) :
    ∃ z, exec (.railMeasure mvs t) s = .next z ∧ z = { s with now := t, regs := z.regs, pwr := z.pwr } ∧
      (∀ k < 10, z.fld (rRailMv k) 15 0 = (mvs.getD k 0).toNat ∧
        z.reg (rRailMin k) = BitVec.ofNat 32 (min (s.fld (rRailMin k) 15 0) (mvs.getD k 0).toNat)) ∧
      z.pwr.warn = s.pwr.warn ∧ ∀ a, (∀ k < 10, a ≠ rRailMv k ∧ a ≠ rRailMin k) → z.reg a = s.reg a := by
  have hexec : exec (.railMeasure mvs t) s = .next (railMeasureOp (mvs.map (fun v => v.toNat)) (s.at t)) := if_pos (decide_eq_true hlen)
  have hc1 : ({ s with now := t } : State).Canonical := { hc with }
  have hlen' : (mvs.map (fun v => v.toNat)).length = 10 := (List.length_map _).trans hlen
  have hspec := railReads_spec (mvs.map (fun v => v.toNat)) 0 _ hc1 (by omega) (fun mv hmv => by
    obtain ⟨v, -, rfl⟩ := List.mem_map.mp hmv
    exact v.isLt)
  rw [at_eq ht, railMeasureOp_eq] at hexec
  obtain ⟨hframe, hwarn, hread, hother⟩ := hspec
  rw [hlen'] at hread hother
  simp only [Nat.zero_add] at hread hother
  refine ⟨_, hexec, hframe, fun k hk => ?_, hwarn, hother⟩
  have hget : (mvs.map (fun v => v.toNat)).getD k 0 = (mvs.getD k 0).toNat := by
    rw [List.getD_eq_getElem _ _ (by omega), List.getD_eq_getElem _ _ (by omega), List.getElem_map]
  exact hget ▸ hread k hk

/-! PWR_CLR. -/

/-- Registers filled with one value, and the others. -/
theorem State.fill_regs (v : Word) (l : List Nat) : ∀ s : State, s.Canonical → let t := l.foldl (fun s a => s.setReg a v) s
    t.Canonical ∧ (∀ a ∈ l, t.reg a = v) ∧ (∀ a, a ∉ l → t.reg a = s.reg a) ∧ t = { s with regs := t.regs } := by
  induction l with
  | nil => exact fun s hc => ⟨hc, fun a ha => absurd ha List.not_mem_nil, fun a _ => rfl, rfl⟩
  | cons b l ih =>
    intro s hc
    obtain ⟨hcanon, hfilled, hother, hframe⟩ := ih (s.setReg b v) (hc.setReg b v)
    refine ⟨hcanon, fun a ha => ?_, fun a ha => ?_, hframe⟩
    · by_cases hmem : a ∈ l
      · exact hfilled a hmem
      · exact (hother a hmem).trans ((State.reg_setReg hc b a v).trans (if_pos ((List.mem_cons.mp ha).resolve_right hmem)))
    · obtain ⟨hne, hmem⟩ := not_or.mp (mt List.mem_cons.mpr ha)
      exact (hother a hmem).trans (State.reg_setReg_other _ _ hne)

theorem pwrClear_eq (s : State) : pwrClear s = [rDipRec, rDipTime, rDipLen, rFaultTrips, rPwrCounts].foldl (fun s a => s.setReg a 0)
    (((List.range 10).map rRailMin).foldl (fun s a => s.setReg a 0xFFFF) s) := by
  rw [List.foldl_map, pwrClear]

theorem pwrClear_spec {s : State} (hc : s.Canonical) : let t := pwrClear s
    (∀ k < 10, t.reg (rRailMin k) = 0xFFFF) ∧ (∀ a ∈ [rDipRec, rDipTime, rDipLen, rFaultTrips, rPwrCounts], t.reg a = 0) ∧
      t = { s with regs := t.regs } := by
  obtain ⟨hc1, hlowest, -, hregs⟩ := State.fill_regs 0xFFFF ((List.range 10).map rRailMin) s hc
  have hapart (k : Nat) (hk : k < 10) : rRailMin k ∉ [rDipRec, rDipTime, rDipLen, rFaultTrips, rPwrCounts] := by
    simp only [rRailMin, rDipRec, rDipTime, rDipLen, rFaultTrips, rPwrCounts, regAddr, List.mem_cons, List.not_mem_nil, or_false]
    omega
  obtain ⟨-, hzero, hother, hframe⟩ := State.zero_regs [rDipRec, rDipTime, rDipLen, rFaultTrips, rPwrCounts] _ hc1
  rw [pwrClear_eq]
  exact ⟨fun k hk => (hother _ (hapart k hk)).trans (hlowest _ (List.mem_map_of_mem (List.mem_range.mpr hk))), hzero,
    hframe.trans (by rw [hregs])⟩

theorem pwrClr_next (m : Master) (v : Word) (s : State) (hc : s.Canonical) (ha : s.Accepts m.id ⟨.power, 0⟩ 0x114 v) (hbit : bitOf v 0 = true) :
    ∃ t, exec (.pwrClr m v) s = .next t ∧ t.resp.code = 0 ∧ (∀ k < 10, t.reg (rRailMin k) = 0xFFFF) ∧
      (∀ a ∈ [rDipRec, rDipTime, rDipLen, rFaultTrips, rPwrCounts], t.reg a = 0) ∧
      t = { s with regs := t.regs, ev := t.ev, log := t.log, resp := t.resp, jtag := { s.jtag with out := t.jtag.out } } := by
  have hwrite := access_effect (f := pwrClear) (by decide) ha (by decide) (by decide) (by decide) (fun old u => if_pos hbit)
  obtain ⟨hlowest, hzero, hframe⟩ := pwrClear_spec (hc.recorded (m := m.id) (p := ⟨.power, 0⟩) (off := 0x114) (v := v) (fun h => by cases h))
  refine ⟨_, congrArg Host.Outcome.next hwrite, State.done_code _ _ _ _, fun k hk => (State.done_reg _ _ _ _ _).trans (hlowest k hk),
    fun a hmem => (State.done_reg _ _ _ _ _).trans (hzero a hmem), State.done_frame _ _ _ ?_⟩
  rw [hframe, recorded_frame (p := ⟨.power, 0⟩) (fun h => by cases h) rfl]

/-- Settles O55: a warning by its guards and its panel, a dip by its three registers, measured levels rail by rail, and two lists of cleared
registers. -/
theorem railEventsComplete : Obligations.RailEventsComplete := by
  unfold Obligations.RailEventsComplete
  refine ⟨fun k mv t s ht => ⟨fun hnone => ?ignored, fun hwarn hlow hk => ?fixed, fun hwarn hlow hk hrem => ?panel⟩,
    fun k t s hc ht hwarn hlow => ?recovered, railMeasure_next, pwrClr_next⟩
  case ignored => exact congrArg (fun u : State => Host.Outcome.next u.afterBolts) (railWarnOp_ignored hnone)
  case fixed =>
    have hmask : s.masked k = false := Bool.eq_false_iff.mpr fun h => absurd (masked_eq.mp h).2 (Nat.not_lt.mpr hk)
    exact congrArg (fun u : State => Host.Outcome.next u.afterBolts) ((railWarnOp_records hwarn hlow hmask ht).trans (if_neg (Nat.not_lt.mpr hk)))
  case panel =>
    have hmask : s.masked k = false := Bool.eq_false_iff.mpr fun h => Bool.false_ne_true (hrem.symm.trans (masked_eq.mp h).1)
    exact congrArg (fun u : State => Host.Outcome.next u.afterBolts) ((railWarnOp_records hwarn hlow hmask ht).trans (if_pos hk))
  case recovered =>
    have hc1 : (s.railCleared k t).Canonical := { hc with }
    obtain ⟨hrail, hdepth, htime, hlen, hframe⟩ := dipRecorded_spec (began := SMap.get 0 s.pwr.dipStart k) hc1 k.isLt hlow
    exact ⟨_, congrArg Host.Outcome.next (railRecoveredOp_eq hwarn ht), hrail, hdepth, htime, hlen, hframe⟩

end Sys2Proof.Machine
end

section
/-!
Tests (R532, R533, R536, R537; log entries 36 and 50): a class that ends, and a test that starts.
-/

namespace Sys2Proof.Machine

/-! A class of the running test ends. -/

/-- The state in which the result of class `c` stands; a checker test shows its failing blocks first. -/
def State.classEnded (s : State) (c : Nat) (signature : Dword) (patterns : Word) (good : Bool) (failing : List Nat) : State :=
  let v := if c = 4 then s.checkersTested failing else s
  v.recordClass c signature patterns (good && !(decide (c = 3) && v.anyShadowBad) && !(decide (c = 4) && !failing.isEmpty))

/-- The classes that have run and have not passed. -/
def State.failedClasses (s : State) : Nat := s.fld rTestResult 24 16 - s.fld rTestResult 8 0

section

variable {s : State} {signature : Dword} {patterns : Word} {good : Bool} {twills : List (Fin 4096)} {t c : Nat} {rest : List Nat}

theorem testClassDone_next (hleft : s.boot.left = c :: rest) (hruns : s.testWaits = false) (ht : s.now ≤ t) :
    let u : State := { s with now := t }
    let w := u.classEnded c signature patterns good (twills.map fun n => n.val)
    exec (.testClassDone signature patterns good twills t) s = .next (
      if w.testState = testFull ∧ (w.failedClasses.testBit 1 = true ∨ w.failedClasses.testBit 6 = true) then w.endFull false w.failedClasses
      else if rest = [] then
        (if w.testState = testFull then w.endFull (decide (w.failedClasses = 0)) w.failedClasses
         else if w.testState = testDoff then w.endDoff (decide (w.failedClasses = 0)) w.failedClasses
         else w.endTest (decide (w.failedClasses = 0)) w.failedClasses)
      else (w.withBoot { w.boot with left := rest }).showClass).follow := by
  have hexec : exec (.testClassDone signature patterns good twills t) s =
    .next (testClassDoneOp signature patterns good (twills.map fun n => n.val) t s).follow := rfl
  rw [hexec, testClassDoneOp, hleft]
  dsimp only
  rw [if_neg (Bool.eq_false_iff.mp hruns), at_eq ht]
  rfl

end

/-! A test starts. -/

section

variable {s : State} {st origin : Nat} {classes : List Nat}

/-- A test begins with nothing recorded. -/
def State.testCleared (s : State) (st : Nat) (classes : List Nat) : State :=
  let s1 := s.withBoot { s.boot with left := classes }
  ((s1.setReg rTestStat (BitVec.ofNat 32 (place st 28))).setReg rTestResult 0).setReg rTestPatterns 0

/-- The entry of a test that begins. -/
def State.testLogged (s : State) (st origin : Nat) : State := s.logEntry origin 0x7 (regAddr .test 0 0) (BitVec.ofNat 32 (kindCode st))

theorem startTest_eq (s : State) (st origin : Nat) (classes : List Nat) : s.startTest st origin classes =
    (((s.testCleared st classes).testLogged st origin).showClass).raise ⟨.test, 0⟩ 0 (BitVec.ofNat 32 (kindCode st)) := rfl

theorem testLogged_reg {a : Nat} (hlog : a ∉ eventRegisters ⟨.log, 0⟩) (hcount : a ≠ regAddr .test 0 0x028) :
    (s.testLogged st origin).reg a = s.reg a := by
  have hpage : pageOf (regAddr .test 0 0) = some ⟨.test, 0⟩ := by decide
  refine State.logEntry_reg s _ _ _ _ hlog fun p hp => ?_
  obtain rfl := Option.some.inj (hpage.symm.trans hp)
  exact hcount

/-- The class that is shown is the first one left. -/
theorem showClass_spec (hc : s.Canonical) (hclasses : ∀ c ∈ s.boot.left, 1 ≤ c ∧ c ≤ 9) : let t := s.showClass
    t.fld rTestStat 27 24 = s.boot.left.headD 0 ∧ t.testState = s.testState ∧ (∀ a, a ≠ rTestStat → t.reg a = s.reg a) ∧
      t = { s with regs := t.regs } := by
  have hshown (c shown : Nat) (hlt : c < 16) : let t := (s.setFld rTestStat 27 24 c).setFld rTestStat 8 0 shown
      t.fld rTestStat 27 24 = c ∧ t.testState = s.testState ∧ (∀ a, a ≠ rTestStat → t.reg a = s.reg a) ∧ t = { s with regs := t.regs } := by
    have h1 : (s.setFld rTestStat 27 24 c).Canonical := hc.setReg _ _
    refine ⟨?_, ?_, fun a ha => (State.reg_setFld_other _ _ _ _ ha).trans (State.reg_setFld_other _ _ _ _ ha), rfl⟩
    · exact (State.fld_setFld_apart h1 _ (by decide) (by decide)).trans ((State.fld_setFld hc _ _ _ _ (by decide) (by decide)).trans
        (Nat.mod_eq_of_lt hlt))
    · exact (State.fld_setFld_apart h1 _ (by decide) (by decide)).trans (State.fld_setFld_apart hc _ (by decide) (by decide))
  dsimp only
  unfold State.showClass
  split
  · next hleft => exact hleft ▸ hshown 0 0 (by decide)
  · next c rest hleft =>
    have hc9 := (hclasses c (hleft ▸ List.mem_cons_self)).2
    exact hleft ▸ hshown c (2 ^ (c - 1)) (by omega)

theorem testCleared_spec (hc : s.Canonical) (hst : st < 16) : let t := s.testCleared st classes
    t.Canonical ∧ t.testState = st ∧ t.reg rTestResult = 0 ∧ t.reg rTestPatterns = 0 := by
  have h0 : (s.withBoot { s.boot with left := classes }).Canonical := { hc with }
  have h1 := h0.setReg rTestStat (BitVec.ofNat 32 (place st 28))
  have h2 := h1.setReg rTestResult 0
  have hstat : (s.testCleared st classes).reg rTestStat = BitVec.ofNat 32 (place st 28) :=
    (State.reg_setReg_other _ _ (by decide)).trans ((State.reg_setReg_other _ _ (by decide)).trans
      ((State.reg_setReg h0 _ _ _).trans (if_pos rfl)))
  have hfield : fieldOf (BitVec.ofNat 32 (place st 28)) 31 28 = st := by
    simp only [fieldOf, place, BitVec.toNat_ofNat, Nat.shiftRight_eq_div_pow]
    omega
  exact ⟨h2.setReg _ _, (congrArg (fun w => fieldOf w 31 28) hstat).trans hfield,
    (State.reg_setReg_other _ _ (by decide)).trans ((State.reg_setReg h1 _ _ _).trans (if_pos rfl)),
    (State.reg_setReg h2 _ _ _).trans (if_pos rfl)⟩

theorem testCleared_rest : let t := s.testCleared st classes
    t.boot.left = classes ∧ t.cells = s.cells ∧ t.bolts = s.bolts := by
  unfold State.testCleared State.setReg
  exact ⟨rfl, rfl, rfl⟩

theorem testLogged_keeps {α : Type} (g : State → α) (hg : ∀ (s : State) r e l, g { s with regs := r, ev := e, log := l } = g s) :
    g (s.testLogged st origin) = g s := by
  rw [State.testLogged, State.logEntry_frame]
  exact hg _ _ _ _

/-- What stands when a test has been logged, before its first class is shown. -/
theorem testBegun_spec (hc : s.Canonical) (hst : st < 16) : let t := (s.testCleared st classes).testLogged st origin
    t.Canonical ∧ t.testState = st ∧ t.reg rTestResult = 0 ∧ t.reg rTestPatterns = 0 ∧ t.boot.left = classes ∧ t.cells = s.cells ∧
      t.bolts = s.bolts := by
  obtain ⟨hcc, hstate, hresult, hpatterns⟩ := testCleared_spec (classes := classes) hc hst
  obtain ⟨hleft, hcells, hbolts⟩ := testCleared_rest (s := s) (st := st) (classes := classes)
  exact ⟨(State.logEntry_follows _ _ _ _ _ (Follows.refl _)).memory hcc,
    (congrArg (fun w => fieldOf w 31 28) (testLogged_reg (by decide) (by decide))).trans hstate,
    (testLogged_reg (by decide) (by decide)).trans hresult, (testLogged_reg (by decide) (by decide)).trans hpatterns,
    (testLogged_keeps (fun u => u.boot.left) fun _ _ _ _ => rfl).trans hleft,
    (testLogged_keeps State.cells fun _ _ _ _ => rfl).trans hcells, (testLogged_keeps State.bolts fun _ _ _ _ => rfl).trans hbolts⟩

theorem startTest_spec (hc : s.Canonical) (hst : st < 16) (hclasses : ∀ c ∈ classes, 1 ≤ c ∧ c ≤ 9) : let t := s.startTest st origin classes
    t.testState = st ∧ t.boot.left = classes ∧ t.reg rTestResult = 0 ∧ t.reg rTestPatterns = 0 ∧
      t.fld rTestStat 27 24 = classes.headD 0 ∧ t.cells = s.cells ∧ t.bolts = s.bolts := by
  obtain ⟨hbegun, hstate, hresult, hpatterns, hleft, hcells, hbolts⟩ := testBegun_spec (origin := origin) (classes := classes) hc hst
  rw [startTest_eq]
  generalize (s.testCleared st classes).testLogged st origin = l at *
  subst hleft
  obtain ⟨hclass, hkind, hother, hframe⟩ := showClass_spec hbegun hclasses
  generalize l.showClass = u at *
  have hreg {a : Nat} (ha : a ∉ eventRegisters ⟨.test, 0⟩) := State.raise_reg u ⟨.test, 0⟩ 0 (BitVec.ofNat 32 (kindCode st)) ha
  have hstat := hreg (a := rTestStat) (by decide)
  refine ⟨(congrArg (fun w => fieldOf w 31 28) hstat).trans (hkind.trans hstate), ?left,
    (hreg (by decide)).trans ((hother _ (by decide)).trans hresult), (hreg (by decide)).trans ((hother _ (by decide)).trans hpatterns),
    (congrArg (fun w => fieldOf w 27 24) hstat).trans hclass, ?cells, ?bolts⟩
  case left =>
    have hshown : u.boot.left = l.boot.left := by rw [hframe]
    exact (State.raise_keeps (fun u => u.boot.left) (fun _ _ _ => rfl) _ _ _ _).trans hshown
  case cells => exact (State.raise_keeps State.cells (fun _ _ _ => rfl) _ _ _ _).trans ((congrArg State.cells hframe).trans hcells)
  case bolts => exact (State.raise_keeps State.bolts (fun _ _ _ => rfl) _ _ _ _).trans ((congrArg State.bolts hframe).trans hbolts)

/-! TEST_CMD. -/

theorem testCmd_access {m : Master} {v : Word} (ha : s.Accepts m.id ⟨.test, 0⟩ 0x040 v) : access (busWrite m.id rTestCmd 15 v) s =
    (testStartOp m.id v (s.recorded m.id ⟨.test, 0⟩ 0x040 v)).done m.id ⟨.test, 0⟩ 0x040 :=
  access_effect (f := testStartOp m.id v) (by decide) ha (by decide) (by decide) (by decide) fun _ _ => rfl

theorem startWord_fields (mask : BitVec 9) : bitOf (BitVec.ofNat 32 (place 1 31 + mask.toNat)) 31 = true ∧
    fieldOf (BitVec.ofNat 32 (place 1 31 + mask.toNat)) 8 0 = mask.toNat := by
  have hlt := mask.isLt
  simp only [bitOf, fieldOf, place, BitVec.toNat_ofNat, Nat.shiftRight_zero, Nat.testBit_eq_decide_div_mod_eq, decide_eq_true_eq]
  omega

theorem testStartOp_starts {m : Nat} {v : Word} (hstart : bitOf v 31 = true) (hmask : fieldOf v 8 0 ≠ 0) :
    testStartOp m v s = s.startTest testOnDemand m (maskClasses (fieldOf v 8 0)) :=
  if_pos (by rw [hstart, decide_eq_true hmask]; rfl)

theorem testStartOp_empty {m : Nat} {v : Word} (h : bitOf v 31 = false ∨ fieldOf v 8 0 = 0) : testStartOp m v s = s := by
  refine if_neg ?_
  rw [Bool.and_eq_true, decide_eq_true_eq]
  rintro ⟨hstart, hmask⟩
  rcases h with hno | hnone
  · exact Bool.false_ne_true (hno.symm.trans hstart)
  · exact hmask hnone

end

/-- Settles O59: a class by the branches that follow its result, TEST_CMD by the effect of its register, and a start by the registers of the TEST
page. -/
theorem testsComplete : Obligations.TestsComplete := by
  unfold Obligations.TestsComplete
  refine ⟨fun signature patterns good twills t c rest s hleft hruns ht => ?ended, fun m mask s ha => ⟨fun hmask => ?starts, fun hmask => ?empty⟩,
    fun m v s ha hno => ?diag, fun st origin classes s hc hst hclasses => startTest_spec hc hst hclasses⟩
  case ended =>
    have hnext := testClassDone_next (signature := signature) (patterns := patterns) (good := good) (twills := twills) hleft hruns ht
    intro u v passed w failed stops
    have hw : u.classEnded c signature patterns good (twills.map fun n => n.val) = w := by
      rw [State.classEnded, List.isEmpty_map]
    dsimp only at hnext
    rw [hw] at hnext
    rw [hnext]
    refine ⟨fun hstops => ?stops, fun hgoes hmore => ?more, fun hgoes hlast hfull => ?full, fun hlast hdoff => ?doff,
      fun hlast hfull hdoff => ?other⟩
    case stops => exact congrArg (fun x : State => Host.Outcome.next x.follow) (if_pos hstops)
    case more => exact congrArg (fun x : State => Host.Outcome.next x.follow) ((if_neg hgoes).trans (if_neg hmore))
    case full => exact congrArg (fun x : State => Host.Outcome.next x.follow) ((if_neg hgoes).trans ((if_pos hlast).trans (if_pos hfull)))
    case doff =>
      have hfull : w.testState ≠ testFull := fun h => absurd (hdoff.symm.trans h) (by decide)
      exact congrArg (fun x : State => Host.Outcome.next x.follow) ((if_neg fun h => hfull h.1).trans ((if_pos hlast).trans
        ((if_neg hfull).trans (if_pos hdoff))))
    case other =>
      exact congrArg (fun x : State => Host.Outcome.next x.follow) ((if_neg fun h => hfull h.1).trans ((if_pos hlast).trans
        ((if_neg hfull).trans (if_neg hdoff))))
  case starts =>
    obtain ⟨hstart, hfield⟩ := startWord_fields mask
    have hnonzero : fieldOf (BitVec.ofNat 32 (place 1 31 + mask.toNat)) 8 0 ≠ 0 := fun h => hmask (BitVec.eq_of_toNat_eq (hfield.symm.trans h))
    exact congrArg Host.Outcome.next ((testCmd_access ha).trans (by rw [testStartOp_starts hstart hnonzero, hfield]))
  case empty =>
    have hfield : fieldOf (BitVec.ofNat 32 (place 1 31 + mask.toNat)) 8 0 = 0 := (startWord_fields mask).2.trans (congrArg BitVec.toNat hmask)
    exact congrArg Host.Outcome.next ((testCmd_access ha).trans (by rw [testStartOp_empty (Or.inr hfield)]))
  case diag => exact congrArg Host.Outcome.next ((testCmd_access ha).trans (by rw [testStartOp_empty (Or.inl hno)]))

end Sys2Proof.Machine
end

section
/-!
SHUTDOWN and the doff test (R531, R532), warp ROM (R528, R529), the check on the quick path (R530), and DEVICE_UP (R540; log entries 36, 48, 50
and 51).
-/

namespace Sys2Proof.Machine

/-! SHUTDOWN. -/

section

variable {s : State}

theorem pwrShutdown_next {m : Master} {t : Nat} (ht : s.now ≤ t) (ha : ({ s with now := t } : State).Accepts m.id ⟨.power, 0⟩ 0x044 3) :
    exec (.pwrShutdown m t) s =
      .next ((shutdownOp (({ s with now := t } : State).recorded m.id ⟨.power, 0⟩ 0x044 3)).follow.done m.id ⟨.power, 0⟩ 0x044) := by
  have hwrite := access_effect (f := fun u => (shutdownOp u).follow) (by decide) ha (by decide) (by decide) (by decide) fun _ _ => rfl
  have hexec : exec (.pwrShutdown m t) s = .next (access (busWrite m.id (regAddr .power 0 0x044) 15 3) (s.at t)) := rfl
  rw [hexec, at_eq ht, hwrite]

theorem shutdownOp_ignored (h : s.shuttingDown = true ∨ s.boot.stage = .held) : shutdownOp s = s := by
  by_cases hshut : s.shuttingDown = true
  · exact if_pos hshut
  · exact (if_neg hshut).trans (if_pos (h.resolve_left hshut))

/-- SHUTDOWN during start-up. -/
theorem shutdownOp_starting (hshut : s.shuttingDown = false) (hheld : s.boot.stage ≠ .held) (hup : s.boot.stage ≠ .up) : shutdownOp s =
    (({ s with boot := { s.boot with stage := .held, left := [], safeOff := true } } : State).setReg rTestStat 0).setPwr pwrOffReady :=
  (if_neg (Bool.eq_false_iff.mp hshut)).trans ((if_neg hheld).trans (if_pos hup))

/-- What SHUTDOWN stops in a device that is up. -/
def State.workStopped (s : State) : State :=
  let a := (s.setPwr pwrShutdown).stopChannels
  if a.abortRefused then a else a.abortLoad

theorem shutdownOp_up (hshut : s.shuttingDown = false) (hup : s.boot.stage = .up) : shutdownOp s =
    if s.pwrState = pwrSleeping ∨ s.pwrState = pwrWaking then
      s.workStopped.withPwr { s.workStopped.pwr with closing := some 1, closeHit := false, fabPwrEn := true }
    else s.workStopped.requestClose 1 :=
  (if_neg (Bool.eq_false_iff.mp hshut)).trans ((if_neg (by rw [hup]; decide)).trans (if_neg (not_not_intro hup)))

/-! The doff test begins. -/

theorem doffStart_next {expected : Word} {t : Nat} (hstate : s.pwrState = pwrShutdown) (hremoved : s.pwr.removed = false)
    (hclosed : s.allClosed = true) (hidle : s.boot.left = []) (hsupply : s.burnWaits = false) (ht : s.now ≤ t) :
    let v : State := { ({ s with now := t } : State).keepLevels with pinsAsleep := true }
    let w := (v.withBoot { v.boot with newest := 1 - v.boot.newest }).setDoffRec ⟨v.reg rNvssBoot, 0, expected, 0, [], 0, false⟩
    exec (.doffStart expected t) s = .next (((w.setPwr pwrDoff).startTest testDoff 63 [1, 2, 3, 4, 5, 6, 7, 8, 9]).refreshPins
      (List.range 960)).settle := by
  have hcond : (decide (s.pwrState = pwrShutdown) && !s.pwr.removed && s.allClosed && decide (s.boot.left = []) && !s.burnWaits) = true := by
    rw [decide_eq_true hstate, hremoved, hclosed, decide_eq_true hidle, hsupply]
    rfl
  have hexec : exec (.doffStart expected t) s = .next (doffStartOp expected t s) := rfl
  rw [hexec, doffStartOp, if_pos hcond, at_eq ht]

end

/-! Warp ROM (R528, R529). -/

section

variable {s : State} {t : Nat}

/-- The newest record of a doff test is used up. -/
def State.recordUsed (s : State) : State :=
  match s.doffRec with
  | some r => s.setDoffRec { r with consumed := true }
  | none => s

/-- The core that runs, the count of starts, and the count of quick starts as warp ROM writes them. -/
def State.bootCounted (s : State) (quick : Word) : State := ((s.setBit rCoreStat 0 true).countWrap rNvssBoot).setReg rNvssQuick quick

/-- What warp ROM has written when it goes on to the path of `reason`. -/
def State.romBooted (s : State) (reason : Nat) : State :=
  let quick := decide (reason = 0)
  let s2 := s.recordUsed
  let s3 := s2.bootCounted (BitVec.ofNat 32 (if quick then s2.fld rNvssQuick 5 0 + 1 else 0))
  s3.withBoot { s3.boot with quick := quick, reason := reason, stage := if quick then .sanity else .full }

theorem recordUsed_frame (s : State) : s.recordUsed = { s with boot := s.recordUsed.boot } := by
  unfold State.recordUsed
  split <;> rfl

theorem recordUsed_reg (s : State) (a : Nat) : s.recordUsed.reg a = s.reg a := by
  rw [recordUsed_frame]
  rfl

theorem State.Canonical.recordUsed (hc : s.Canonical) : s.recordUsed.Canonical := by
  rw [recordUsed_frame]
  exact { hc with }

theorem bootCounted_spec (quick : Word) (hc : s.Canonical) : let w := s.bootCounted quick
    w.bit rCoreStat 0 = true ∧ w.reg rNvssBoot = s.reg rNvssBoot + 1 ∧ w.reg rNvssQuick = quick ∧ w = { s with regs := w.regs } := by
  have h1 : (s.setBit rCoreStat 0 true).Canonical := hc.setReg _ _
  have h2 : ((s.setBit rCoreStat 0 true).countWrap rNvssBoot).Canonical := h1.setReg _ _
  have hboot : (s.setBit rCoreStat 0 true).reg rNvssBoot = s.reg rNvssBoot := State.reg_setReg_other _ _ (by decide)
  refine ⟨?core, ?boot, (State.reg_setReg h2 _ _ _).trans (if_pos rfl), ?frame⟩
  case core =>
    exact (congrArg (fun w => bitOf w 0) ((State.reg_setReg_other _ _ (by decide)).trans (State.reg_setReg_other _ _ (by decide)))).trans
      (State.bit_setBit hc _ _ _ (by decide))
  case boot =>
    exact (State.reg_setReg_other _ _ (by decide)).trans ((State.reg_setReg h1 _ _ _).trans ((if_pos rfl).trans (by rw [hboot])))
  case frame =>
    unfold State.bootCounted State.countWrap State.setBit State.setReg
    rfl

theorem romBooted_spec (reason : Nat) (hc : s.Canonical) : let w := s.romBooted reason
    w.boot.reason = reason ∧ w.bit rCoreStat 0 = true ∧ w.reg rNvssBoot = s.reg rNvssBoot + 1 ∧
      w.boot.stage = (if reason = 0 then .sanity else .full) ∧ w.boot.quick = decide (reason = 0) ∧
      w.reg rNvssQuick = BitVec.ofNat 32 (if reason = 0 then s.fld rNvssQuick 5 0 + 1 else 0) ∧
      w = { s with regs := w.regs, boot := w.boot } := by
  have hused := recordUsed_frame s
  have hquick : s.recordUsed.fld rNvssQuick 5 0 = s.fld rNvssQuick 5 0 := congrArg (fun w => fieldOf w 5 0) (recordUsed_reg s _)
  have hboot := recordUsed_reg s rNvssBoot
  dsimp only
  rw [State.romBooted]
  simp only [decide_eq_true_eq, hquick]
  generalize BitVec.ofNat 32 (if reason = 0 then s.fld rNvssQuick 5 0 + 1 else 0) = quick
  obtain ⟨hcore, hcount, hvalue, hframe⟩ := bootCounted_spec quick hc.recordUsed
  generalize s.recordUsed.bootCounted quick = w at *
  refine ⟨rfl, hcore, hcount.trans (congrArg (fun n => n + 1) hboot), rfl, rfl, hvalue, ?_⟩
  rw [hframe, hused]
  rfl

theorem fullReason_now (s : State) (t : Nat) : ({ s with now := t } : State).fullReason = s.fullReason := rfl

theorem warpRomBoot_held (hrom : s.boot.stage = .rom) (hclock : s.pwr.refLost = false) (ht : s.now ≤ t) :
    exec (.warpRomBoot false t) s = .next ({ s with now := t } : State).holdInReset := by
  have hcond : ¬ (decide (s.boot.stage ≠ .rom) || s.pwr.refLost) = true := by
    rw [decide_eq_false (not_not_intro hrom), hclock]
    decide
  have hexec : exec (.warpRomBoot false t) s = .next (warpRomBootOp false t s) := rfl
  rw [hexec, warpRomBootOp, if_neg hcond, Bool.not_false, if_pos rfl, at_eq ht]

theorem warpRomBoot_boots (hrom : s.boot.stage = .rom) (hclock : s.pwr.refLost = false) (hsupply : s.burnWaits = false) (ht : s.now ≤ t) :
    let w := ({ s with now := t } : State).romBooted s.fullReason
    exec (.warpRomBoot true t) s = .next (if s.fullReason = 0 then w.startTest testQuick 63 [] else
      w.startTest testFull 63 [1, 2, 3, 4, 5, 6, 7, 8, 9]) := by
  have hcond : ¬ (decide (s.boot.stage ≠ .rom) || s.pwr.refLost) = true := by
    rw [decide_eq_false (not_not_intro hrom), hclock]
    decide
  have hexec : exec (.warpRomBoot true t) s = .next (warpRomBootOp true t s) := rfl
  rw [hexec, warpRomBootOp, if_neg hcond, Bool.not_true, if_neg Bool.false_ne_true, if_neg (Bool.eq_false_iff.mp hsupply), at_eq ht]
  intro w
  have hw : w = ({ s with now := t } : State).romBooted ({ s with now := t } : State).fullReason := congrArg (State.romBooted _) (fullReason_now s t)
  unfold State.romBooted State.bootCounted State.recordUsed at hw
  rw [← fullReason_now s t, hw]
  by_cases hreason : ({ s with now := t } : State).fullReason = 0
  · rw [if_pos hreason]
    exact congrArg Host.Outcome.next (if_pos (decide_eq_true hreason))
  · rw [if_neg hreason]
    exact congrArg Host.Outcome.next (if_neg (by rw [decide_eq_false hreason]; exact Bool.false_ne_true))

end

/-! The check on the quick path (R530). -/

section

variable {s : State} {t : Nat}

theorem sanityCheckDone_next {engineOk nvssOk shadowOk : Bool} {failing : List (Fin 4096)} (hstage : s.boot.stage = .sanity) (ht : s.now ≤ t) :
    let c := ({ s with now := t } : State).checkersTested (failing.map fun n => n.val)
    let x := c.endTest (engineOk && nvssOk && shadowOk && failing.isEmpty)
      (flag (!shadowOk) 2 + flag (!failing.isEmpty) 3 + flag (!nvssOk) 6)
    exec (.sanityCheckDone engineOk nvssOk shadowOk failing t) s = .next (if (!engineOk || !nvssOk) = true then x.holdInReset else
      let y := if (shadowOk && failing.isEmpty) = true then x else x.enterSafe
      y.withBoot { y.boot with stage := .clearing }) := by
  have hexec : exec (.sanityCheckDone engineOk nvssOk shadowOk failing t) s =
    .next (sanityDoneOp engineOk nvssOk shadowOk (failing.map fun n => n.val) t s) := rfl
  rw [hexec, sanityDoneOp, if_pos hstage, at_eq ht, List.isEmpty_map]

/-- The block of a checker, as the register and the bit of its result. -/
theorem checker_place {n k : Nat} (h : n / 16 = k / 16) (hbit : n % 16 = k % 16) : n = k := by omega

theorem rTwSelftest_inj {i j : Nat} (h : rTwSelftest i = rTwSelftest j) : i = j := by
  simp only [rTwSelftest, regAddr] at h
  omega

/-- One checker has failed. -/
def State.checkerFails (s : State) (n : Nat) : State := s.setBit (rTwSelftest (n / 16)) (n % 16) true

theorem checkerFails_bit (hc : s.Canonical) (n k : Nat) : (s.checkerFails n).bit (rTwSelftest (k / 16)) (k % 16) =
    (decide (n = k) || s.bit (rTwSelftest (k / 16)) (k % 16)) := by
  by_cases hnk : n = k
  · subst hnk
    rw [decide_eq_true rfl, Bool.true_or]
    exact State.bit_setBit hc _ _ _ (Nat.lt_trans (Nat.mod_lt n (by decide)) (by decide))
  · rw [decide_eq_false hnk, Bool.false_or]
    refine State.bit_setBit_apart hc _ (Nat.lt_trans (Nat.mod_lt n (by decide)) (by decide)) ?_
    by_cases hpage : n / 16 = k / 16
    · exact Or.inr fun hbit => hnk (checker_place hpage hbit.symm)
    · exact Or.inl fun hreg => hpage (rTwSelftest_inj hreg)

theorem checkersFail_bit (l : List Nat) : ∀ s : State, s.Canonical → ∀ k,
    (l.foldl State.checkerFails s).bit (rTwSelftest (k / 16)) (k % 16) = (decide (k ∈ l) || s.bit (rTwSelftest (k / 16)) (k % 16)) := by
  induction l with
  | nil => exact fun s _ k => rfl
  | cons n l ih =>
    intro s hc k
    rw [List.foldl_cons, ih (s.checkerFails n) (hc.setReg _ _) k, checkerFails_bit hc]
    by_cases hnk : n = k
    · simp [hnk]
    · simp [hnk, Ne.symm hnk]

theorem checkersTested_eq (failing : List Nat) : s.checkersTested failing =
    failing.foldl State.checkerFails (((List.range 256).map rTwSelftest).foldl (fun s a => s.setReg a 0) s) := by
  rw [List.foldl_map]
  rfl

theorem checkersTested_bit (hc : s.Canonical) (failing : List (Fin 4096)) (n : Fin 4096) :
    (s.checkersTested (failing.map fun n => n.val)).bit (rTwSelftest (n / 16)) (n % 16) = true ↔ n ∈ failing := by
  obtain ⟨hcanon, hzero, -, -⟩ := State.zero_regs ((List.range 256).map rTwSelftest) s hc
  have hpage : rTwSelftest (n.val / 16) ∈ (List.range 256).map rTwSelftest :=
    List.mem_map_of_mem (List.mem_range.mpr (by omega))
  have hclear : (((List.range 256).map rTwSelftest).foldl (fun s a => s.setReg a 0) s).bit (rTwSelftest (n.val / 16)) (n.val % 16) = false := by
    rw [State.bit, hzero _ hpage, bitOf]
    exact Nat.zero_testBit _
  rw [checkersTested_eq, checkersFail_bit _ _ hcanon, hclear, Bool.or_false, decide_eq_true_eq, List.mem_map]
  exact ⟨fun ⟨k, hk, heq⟩ => Fin.ext heq ▸ hk, fun hn => ⟨n, hn, rfl⟩⟩

end

/-! DEVICE_UP (R540). -/

section

variable {s : State} {t : Nat}

/-- The device is up: owners and bindings are written, and the start is recorded and raised. -/
def State.startRecorded (s : State) : State :=
  let w := s.bootOwners.bootBindings
  let x := (w.withBoot { w.boot with stage := .up }).setReg rStartInfo w.startInfo
  x.raise ⟨.reset, 0⟩ 0 (BitVec.ofNat 32 (x.fld rStartInfo 15 0))

theorem deviceUp_next {image : Bool} (hstage : s.boot.stage = .clearing) (ht : s.now ≤ t) :
    let y := ({ s with now := t } : State).startRecorded
    exec (.deviceUp image t) s = .next (if y.qspiBoot then
      (if image then ((y.setWeft weftLoading).setFld rWeftSrc 1 0 1).strapLoad else y.strapLoad) else y) := by
  have hexec : exec (.deviceUp image t) s = .next (deviceUpOp image t s) := rfl
  rw [hexec, deviceUpOp, if_neg (not_not_intro hstage), at_eq ht]
  rfl

end

/-- Settles O58: SHUTDOWN by the stage and the power state, warp ROM by the reason for the full path, the check by its verdicts and the bits of its
checkers, and DEVICE_UP by its boot source. -/
theorem shutdownAndStartUpComplete : Obligations.ShutdownAndStartUpComplete := by
  unfold Obligations.ShutdownAndStartUpComplete
  refine ⟨fun m t s ht => ⟨fun ha => pwrShutdown_next ht ha, ?request, shutdownOp_ignored, fun hshut => ⟨shutdownOp_starting hshut,
    fun hup => ⟨fun hasleep => ?asleep, fun hsleeping hwaking => ?awake⟩⟩, fun expected hstate hremoved hclosed hidle hsupply =>
      doffStart_next hstate hremoved hclosed hidle hsupply ht⟩,
    fun t s hc ht => ⟨fun hrom hclock => ⟨warpRomBoot_held hrom hclock ht, fun hsupply => ?boots⟩, fun hstage engineOk nvssOk shadowOk failing =>
      ⟨fun hbad => ?reset, fun hbad => ?safe, ?passed, checkersTested_bit (s := { s with now := t }) { hc with } failing⟩, fun hstage => ?up⟩⟩
  case request =>
    have hexec : exec (.pwrdnReq t) s = .next (shutdownOp (s.at t)).follow := rfl
    rw [hexec, at_eq ht]
  case asleep => exact (shutdownOp_up hshut hup).trans (if_pos hasleep)
  case awake => exact (shutdownOp_up hshut hup).trans (if_neg fun h => h.elim hsleeping hwaking)
  case boots =>
    have hc' : ({ s with now := t } : State).Canonical := { hc with }
    obtain ⟨hreason, hcore, hboot, hstage, hquick, hcount, hframe⟩ := romBooted_spec s.fullReason hc'
    exact ⟨_, hreason, hcore, hboot, hstage, hquick, hcount, hframe, warpRomBoot_boots hrom hclock hsupply ht⟩
  case reset =>
    have hnot : (engineOk && nvssOk && shadowOk && failing.isEmpty) = false := by
      rcases hbad with hengine | hnvss
      · rw [hengine, Bool.false_and, Bool.false_and, Bool.false_and]
      · rw [hnvss, Bool.and_false, Bool.false_and, Bool.false_and]
    have hheld : (!engineOk || !nvssOk) = true := by
      rcases hbad with hengine | hnvss
      · rw [hengine]; rfl
      · rw [hnvss, Bool.or_comm]; rfl
    rw [sanityCheckDone_next hstage ht, hnot]
    exact congrArg Host.Outcome.next (if_pos hheld)
  case safe =>
    have hnot : (shadowOk && failing.isEmpty) = false := by
      rcases hbad with hshadow | hchecker
      · rw [hshadow, Bool.false_and]
      · rw [List.isEmpty_eq_false_iff.mpr hchecker, Bool.and_false]
    rw [sanityCheckDone_next hstage ht]
    dsimp only
    rw [Bool.and_self, Bool.true_and, hnot, if_neg (by decide), if_neg Bool.false_ne_true]
    rfl
  case passed =>
    rw [sanityCheckDone_next hstage ht]
    rfl
  case up =>
    refine ⟨fun hno image => ?_, fun hqspi => ⟨?_, ?_⟩⟩
    · exact (deviceUp_next hstage ht).trans (congrArg Host.Outcome.next (if_neg (Bool.eq_false_iff.mp hno)))
    · exact (deviceUp_next hstage ht).trans (congrArg Host.Outcome.next (if_pos hqspi))
    · exact (deviceUp_next hstage ht).trans (congrArg Host.Outcome.next (if_pos hqspi))

end Sys2Proof.Machine
end

section
/-!
The commands of the configuration engine (R294, R298 to R303, R307; log entry 34), warp firmware's verdict on an image (R297), and the clearing of
what a failed load has written (R300).
-/

namespace Sys2Proof.Machine

/-- The page of the configuration engine. -/
abbrev configPage : Page := ⟨.config, 0⟩

/-! CFG_CMD. -/

theorem cfgCommand_fields (src : BitVec 2) {cmd : Nat} (hcmd : cmd < 8) :
    fieldOf (cfgCommand src.toNat cmd) 2 0 = cmd ∧ fieldOf (cfgCommand src.toNat cmd) 5 4 = src.toNat := by
  have hsrc := src.isLt
  simp only [cfgCommand, fieldOf, place, BitVec.toNat_ofNat, Nat.shiftRight_eq_div_pow]
  omega

section

variable {m : Nat} {v : Word} {s : State}

/-- Of the writes of this page only a word for a full FIFO waits. -/
theorem config_waits (u : State) (off : Nat) (old : Word) :
    (u.effectOf m configPage off old v).waits = (decide (off = 0x080) && u.fifoFull) := by
  have hwaits : (u.effectOf m configPage off old v).waits = ((decide (PageKind.config = .creel ∧ off = 0x060 ∧ fieldOf v 31 30 ≠ 0) &&
    u.winWaits 0) || (decide (PageKind.config = .config ∧ off = 0x080) && u.fifoFull)) := rfl
  rw [hwaits, decide_eq_false fun h => absurd h.1 (by decide), Bool.false_and, Bool.false_or]
  exact congrArg (fun b => b && u.fifoFull) (decide_eq_decide.mpr (and_iff_right rfl))

/-- A START is logged after its effect, with CFG_STAT as it then reads (Table 17-7). -/
theorem start_access (ha : s.Accepts m configPage 0x044 v) (hstart : fieldOf v 2 0 = 1 ∨ fieldOf v 2 0 = 2) :
    let z := cfgCmdWritten m v (s.forgetAnswer.store m configPage 0x044 v)
    access (busWrite m rCfgCmd 15 v) s = (z.logEntry m 0x2 rCfgCmd (z.view m configPage 0x048)).done m configPage 0x044 := by
  have his : isStart configPage 0x044 v = true := decide_eq_true ⟨rfl, rfl, hstart⟩
  refine access_write_late (p := configPage) (entry := fun u => (0x2, u.view m configPage 0x048)) ha (by decide) (by decide) (by decide)
    (by decide) (fun u old => ?_) (fun u old => ?_) (fun u old => rfl)
  · exact (congrArg (fun b => b || _) his).trans (Bool.true_or _)
  · exact if_pos his

/-- ABORT and RELEASE are logged before their effect. -/
theorem cfgCmd_access (ha : s.Accepts m configPage 0x044 v) (hone : fieldOf v 2 0 ≠ 1) (htwo : fieldOf v 2 0 ≠ 2) :
    access (busWrite m rCfgCmd 15 v) s = (cfgCmdWritten m v (s.recorded m configPage 0x044 v)).done m configPage 0x044 := by
  have hwaits (u : State) (old : Word) : (u.effectOf m configPage 0x044 old v).waits = false :=
    (config_waits u 0x044 old).trans (Bool.false_and _)
  have heffect (old : Word) (u : State) : State.effectAt m configPage 0x044 old v u = cfgCmdWritten m v u := rfl
  have hwrite := access_write (p := configPage) ha (by decide) (by decide) (by decide) (decide_eq_false fun h => h.2.2.elim hone htwo)
    (fun h => absurd h.1 (by decide)) (hwaits _ _)
  rw [heffect] at hwrite
  exact hwrite

theorem cfgCmdWritten_abort (h : fieldOf v 2 0 = 3) : cfgCmdWritten m v s = s.abortLoad.follow := by
  rw [cfgCmdWritten, h]
  rfl

theorem cfgCmdWritten_release (h : fieldOf v 2 0 = 4) : cfgCmdWritten m v s = s.releaseNow.follow := by
  rw [cfgCmdWritten, h]
  rfl

theorem cfgCmdWritten_reweave (h : fieldOf v 2 0 = 2) : cfgCmdWritten m v s = (startReweave m (fieldOf v 5 4) s).ask.follow := by
  rw [cfgCmdWritten, h]
  rfl

theorem cfgCmdWritten_full (h : fieldOf v 2 0 = 1) : cfgCmdWritten m v s =
    (startFull m (fieldOf v 5 4) (if (s.loadRuns && s.engReweave) = true then s.abortLoad else s)).ask.follow := by
  rw [cfgCmdWritten, h]
  rfl

/-- The value of CFG_CMD in its register leaves the load as it was. -/
theorem cfgStored_load (s : State) (m : Nat) (v : Word) : (s.forgetAnswer.store m configPage 0x044 v).loadRuns = s.loadRuns ∧
    (s.forgetAnswer.store m configPage 0x044 v).engReweave = s.engReweave := by
  have hstat : (s.forgetAnswer.store m configPage 0x044 v).reg rCfgStat = s.reg rCfgStat := by
    rw [State.store_setReg rfl (by decide)]
    exact State.reg_setReg_other _ _ (by decide)
  have heng : (s.forgetAnswer.store m configPage 0x044 v).eng = s.eng := by
    rw [State.store_setReg rfl (by decide)]
    rfl
  constructor
  · rw [State.loadRuns, State.engState, State.fld, hstat, heng]
    rfl
  · exact congrArg (fun w => bitOf w 25) hstat

end

/-! CFG_FIFO (R294). -/

section

variable {m : Nat} {v : Word} {s : State}

theorem fifoFull_eq {u : State} (hstat : u.reg rCfgStat = s.reg rCfgStat) (heng : u.eng = s.eng) : u.fifoFull = s.fifoFull := by
  rw [State.fifoFull, State.fifoOpen, State.surplus, State.engState, State.fld, hstat, heng]
  rfl

theorem fifoRecorded_full (hc : s.Canonical) : (s.recorded m configPage 0x080 v).fifoFull = s.fifoFull :=
  fifoFull_eq ((recorded_regs hc (fun h => by cases h) (by decide) rfl (by decide) (by decide)).2 _ (by decide) (by decide) (by decide) (by decide))
    (by rw [recorded_frame (fun h => by cases h) rfl])

theorem cfgFifo_taken (hc : s.Canonical) (ha : s.Accepts m configPage 0x080 v) (hroom : s.fifoFull = false) :
    access (busWrite m rCfgFifo 15 v) s = ((s.recorded m configPage 0x080 v).fifoWord v).done m configPage 0x080 := by
  have heffect (old : Word) (u : State) (hu : u.fifoFull = false) : State.effectAt m configPage 0x080 old v u = u.fifoWord v :=
    if_neg (Bool.eq_false_iff.mp hu)
  have hwrite := access_write (p := configPage) ha (by decide) (by decide) (by decide) (decide_eq_false fun h => absurd h.2.1 (by decide))
    (fun h => absurd h.1 (by decide)) ((config_waits _ _ _).trans ((fifoFull_eq (s := s) rfl rfl).trans hroom))
  rw [heffect _ _ ((fifoRecorded_full hc).trans hroom)] at hwrite
  exact hwrite

/-- An accepted write that its page holds: it stands last on the bus, since the time of the access. -/
theorem access_write_held (ha : s.Accepts m configPage 0x080 v) (hfull : (s.forgetAnswer).fifoFull = true) :
    access (busWrite m rCfgFifo 15 v) s = (State.conclude (State.effectAt m configPage 0x080 ((s.begun configPage 0x080).view m configPage 0x080) v
      (s.recorded m configPage 0x080 v)) { master := m, addr := rCfgFifo, write := true, value := v, time := s.now }).noteRejection := by
  have hbegun : s.begun configPage 0x080 = s.forgetAnswer := recorded_begun (fun h => by cases h)
  have hchecks := ha.checks
  have hroom := ha.room
  have hblock : (s.forgetAnswer.effectOf m configPage 0x080 (s.forgetAnswer.view m configPage 0x080) v).refuses = none := hbegun ▸ ha.block
  have hlate : (s.forgetAnswer.effectOf m configPage 0x080 (s.forgetAnswer.view m configPage 0x080) v).logAfter = false := rfl
  have hentry : (s.forgetAnswer.effectOf m configPage 0x080 (s.forgetAnswer.view m configPage 0x080) v).entry = none := rfl
  have hwaits : (s.forgetAnswer.effectOf m configPage 0x080 (s.forgetAnswer.view m configPage 0x080) v).waits = true :=
    (config_waits _ _ _).trans hfull
  rw [hbegun] at hchecks hroom ⊢
  have hpage : pageWrite m configPage 0x080 15 v s.forgetAnswer =
      State.effectAt m configPage 0x080 (s.forgetAnswer.view m configPage 0x080) v (s.recorded m configPage 0x080 v) := by
    rw [State.recorded, hbegun, pageWrite]
    simp only [reduceCtorEq, false_and, if_false, State.writeReg, hchecks, hblock, hroom, hlate, hwaits, State.logEffect, hentry,
      Bool.false_eq_true, if_true]
    rfl
  have hbus := busAccess_page (s := s.forgetAnswer) (e := { master := m, addr := rCfgFifo, write := true, value := v }) (p := configPage)
    (off := 0x080) ha.turn rfl rfl rfl (by decide) (by decide) (by decide)
  rw [if_pos rfl, hpage] at hbus
  have hwrite : busWrite m rCfgFifo 15 v s.forgetAnswer = _ := hbus
  rw [access, if_neg (Bool.eq_false_iff.mp ha.running), hwrite]
  rfl

/-- What the target holds of an access without an answer. -/
theorem conclude_held {u : State} {e x : Issued} {l : List Issued} (hanswer : u.resp.master ≠ e.master) (hissued : u.issued = l ++ [x]) :
    u.conclude e = { u with issued := l ++ [{ x with
      time := e.time, timedOut := e.timedOut, init := e.init, part := e.part, unheard := e.unheard }] } := by
  rw [State.conclude, if_neg hanswer, State.heldAs, hissued]
  simp [List.modify_eq_take_cons_drop]

theorem cfgFifo_waits {m : Master} (hc : s.Canonical) (ha : s.Accepts m.id configPage 0x080 v) (hfull : s.fifoFull = true) :
    ∃ t : State, exec (.cfgFifo m v) s = .next t ∧ t.eng = s.eng ∧
      t.issued = s.issued ++ [{ master := m.id, addr := rCfgFifo, write := true, value := v, checked := true, time := s.now }] := by
  have hforget : s.forgetAnswer.fifoFull = true := (fifoFull_eq rfl rfl).trans hfull
  have hframe := recorded_frame (s := s) (m := m.id) (p := configPage) (off := 0x080) (v := v) (fun h => by cases h) rfl
  have heffect (old : Word) (u : State) (hu : u.fifoFull = true) : State.effectAt m.id configPage 0x080 old v u =
      u.issue { master := m.id, addr := rCfgFifo, write := true, value := v, checked := true } := if_pos hu
  have hwrite := access_write_held ha hforget
  rw [heffect _ _ ((fifoRecorded_full hc).trans hfull)] at hwrite
  have hexec : exec (.cfgFifo m v) s = .next (access (busWrite m.id rCfgFifo 15 v) s) := rfl
  have hissue (u : State) : u.issue { master := m.id, addr := rCfgFifo, write := true, value := v, checked := true } =
      { u with issued := u.issued ++ [{ master := m.id, addr := rCfgFifo, write := true, value := v, checked := true, time := u.now }] } := rfl
  rw [hissue, hframe] at hwrite
  have hmaster : (63 : Nat) ≠ m.id := fun h => absurd (h ▸ master_id_lt m) (by decide)
  rw [conclude_held (l := s.issued) hmaster rfl, noteRejection_good rfl] at hwrite
  exact ⟨_, hexec.trans (congrArg Host.Outcome.next hwrite), rfl, rfl⟩

end

/-! The verdict of warp firmware (R297). -/

section

variable {s : State} {t : Nat} {sigOk tagOk : Bool}

theorem signatureVerified_next (hstate : s.engState = engVerifying) (ht : s.now ≤ t) : let u : State := { s with now := t }
    exec (.signatureVerified sigOk tagOk t) s = .next (
      if s.eng.authKind = 1 ∧ sigOk = false then u.rejectLoad 0x17 8 s.eng.secOff
      else if s.encrypted = true ∧ tagOk = false then u.rejectLoad 0x18 8 s.eng.secOff
      else (if s.eng.authKind = 1 then u.setFld rCfgStat 24 23 2 else u).acceptLoad).afterBolts := by
  have hexec : exec (.signatureVerified sigOk tagOk t) s = .next (signatureVerified sigOk tagOk t s).afterBolts := rfl
  rw [hexec, signatureVerified, if_pos ⟨hstate, ht⟩, at_eq ht]
  rfl

end

/-! Clearing (R300). -/

section

variable {s : State}

/-- From one state to the other only registers and taps have moved. -/
def SettingsMoved (s t : State) : Prop := t = { s with regs := t.regs, taps := t.taps }

theorem SettingsMoved.refl (s : State) : SettingsMoved s s := rfl

theorem SettingsMoved.trans {s t u : State} (h : SettingsMoved s t) (k : SettingsMoved t u) : SettingsMoved s u := by
  unfold SettingsMoved at *
  rw [k, h]

theorem retap_settingsMoved (s : State) (f : Nat) : SettingsMoved s (s.retap f) := by
  unfold SettingsMoved State.retap
  rfl

theorem setReg_settingsMoved (s : State) (a : Nat) (v : Word) : SettingsMoved s (s.setReg a v) := by
  unfold SettingsMoved State.setReg
  rfl

theorem loadSettings_settingsMoved (s : State) (f : Nat) : SettingsMoved s (s.loadSettings f) := by
  have hif {u : State} (h : SettingsMoved s u) :
      SettingsMoved s (if 1 ≤ frameKind f ∧ frameKind f ≤ 3 then u.retap f else u) := by
    split
    · exact h.trans (retap_settingsMoved u f)
    · exact h
  refine hif ?_
  split
  · exact (setReg_settingsMoved _ _ _).trans (setReg_settingsMoved _ _ _)
  · exact setReg_settingsMoved _ _ _
  · dsimp only
    split
    · exact (setReg_settingsMoved _ _ _).trans (setReg_settingsMoved _ _ _)
    · split
      · exact rfl
      · exact foldl_related (R := SettingsMoved) SettingsMoved.trans (fun u i => setReg_settingsMoved u _ _) _ rfl
  · exact rfl

/-- The configuration memory without the frames that the load has written, and the blocks of a reweave with their settings from it. -/
def State.framesCleared (s : State) : State :=
  let written := s.eng.frames.map (fun e => e.1)
  let s0 := { s with cfgMem := s.cfgMem.filter (fun e => decide (e.1 / 64 ∉ written)) }
  if s0.engReweave then (written.filter (fun f => decide (frameKind f ≠ 0))).foldl (fun s f => s.loadSettings f) s0 else s0

theorem clearingDone_eq (hclearing : s.engState = engClearing) : clearingDone s =
    ((s.framesCleared.withEng { s.framesCleared.eng with
      frames := [], groups := s.framesCleared.eng.groups.filter (fun e => decide (e.1 ∉ ((s.eng.frames.map (fun e => e.1)).map
        frameGroup).dedup)) }).setEng engIdle).settle := if_pos hclearing

theorem framesCleared_frame (s : State) : s.framesCleared = { s with
    regs := s.framesCleared.regs, taps := s.framesCleared.taps,
    cfgMem := s.cfgMem.filter (fun e => decide (e.1 / 64 ∉ s.eng.frames.map (fun e => e.1))) } := by
  unfold State.framesCleared
  dsimp only
  split
  · exact foldl_related (R := SettingsMoved) SettingsMoved.trans (f := fun s f => s.loadSettings f) loadSettings_settingsMoved _
      (SettingsMoved.refl _)
  · rfl

theorem State.Canonical.framesCleared (hc : s.Canonical) : s.framesCleared.Canonical := by
  have hmem := SMap.wf_filter (fun e => decide (e.1 / 64 ∉ s.eng.frames.map (fun e => e.1))) hc.cfgMem
  have h0 : ({ s with cfgMem := s.cfgMem.filter (fun e => decide (e.1 / 64 ∉ s.eng.frames.map (fun e => e.1))) } : State).Canonical :=
    { hc with cfgMem := hmem }
  unfold State.framesCleared
  dsimp only
  split
  · exact (Follows.foldl _ _ (Follows.refl _) fun u f hu => State.loadSettings_follows u f hu).memory h0
  · exact h0

theorem framesCleared_word (s : State) (f : Nat) {k : Nat} (hk : k < 64) :
    s.framesCleared.cfgWord f k = if f ∈ s.eng.frames.map (fun e => e.1) then {} else s.cfgWord f k := by
  have hframe : (64 * f + k) / 64 = f := by omega
  have hget := SMap.get_filter_key ({} : CfgWord) (fun j => decide (j / 64 ∉ s.eng.frames.map (fun e => e.1))) s.cfgMem (64 * f + k)
  rw [framesCleared_frame]
  refine hget.trans ?_
  rw [hframe]
  by_cases hmem : f ∈ s.eng.frames.map (fun e => e.1)
  · rw [if_pos hmem, decide_eq_false (not_not_intro hmem), if_neg Bool.false_ne_true]
  · rw [if_neg hmem, decide_eq_true hmem, if_pos rfl]
    rfl

theorem clearingDone_spec (hc : s.Canonical) (hclearing : s.engState = engClearing) : let u := clearingDone s
    u.engState = engIdle ∧ u.eng.frames = [] ∧ (∀ f k, k < 64 → f ∈ s.eng.frames.map (fun e => e.1) → u.cfgWord f k = {}) ∧
      (∀ f k, k < 64 → f ∉ s.eng.frames.map (fun e => e.1) → u.cfgWord f k = s.cfgWord f k) ∧
      u.eng.groups = s.eng.groups.filter (fun g => decide (g.1 ∉ s.eng.frames.map (fun e => frameGroup e.1))) := by
  have hcanon := hc.framesCleared
  have hword := framesCleared_word s
  have hgroups : s.framesCleared.eng.groups = s.eng.groups := by rw [framesCleared_frame]
  dsimp only
  rw [clearingDone_eq hclearing, hgroups, State.settle_frame]
  generalize s.framesCleared = v at *
  have hstate : ∀ e : Engine, ((v.withEng e).setEng engIdle).engState = engIdle := fun e =>
    State.fld_setFld (s := v.withEng e) { hcanon with } rCfgStat 31 28 engIdle (by decide) (by decide)
  refine ⟨hstate _, rfl, fun f k hk hmem => (hword f hk).trans (if_pos hmem), fun f k hk hmem => (hword f hk).trans (if_neg hmem), ?groups⟩
  case groups =>
    refine List.filter_congr fun g _ => decide_eq_decide.mpr (not_congr ?_)
    rw [List.mem_dedup, List.map_map]
    rfl

end

/-- Settles O35: CFG_CMD by its code, a word by the room for it, the verdict by its checks, and the words that clearing filters out. -/
theorem loadsComplete : Obligations.LoadsComplete := by
  unfold Obligations.LoadsComplete
  refine ⟨fun m src s hc => ⟨fun ha hreweave => ?full, fun ha hreweave => ?abandons, fun ha => ?reweave, fun ha => ?abort, fun ha => ?release,
    fun v ha hroom => congrArg Host.Outcome.next (cfgFifo_taken hc ha hroom), fun v ha hfull => cfgFifo_waits hc ha hfull⟩,
    fun sigOk tagOk t s hstate ht => ⟨fun hkind hsig => ?signature, fun hsig henc htag => ?tag, fun hkind hsig htag => ?signed,
      fun hkind htag => ?unsigned⟩, fun t s hclearing ht => ?clearing, fun s hc hclearing => clearingDone_spec hc hclearing⟩
  case full =>
    obtain ⟨hcmd, hsrc⟩ := cfgCommand_fields src (cmd := 1) (by decide)
    obtain ⟨hruns, hkind⟩ := cfgStored_load s m.id (cfgCommand src.toNat 1)
    have hnext := start_access ha (Or.inl hcmd)
    dsimp only at hnext
    rw [cfgCmdWritten_full hcmd, hsrc, hruns, hkind, if_neg (Bool.eq_false_iff.mp hreweave)] at hnext
    exact congrArg Host.Outcome.next hnext
  case abandons =>
    obtain ⟨hcmd, hsrc⟩ := cfgCommand_fields src (cmd := 1) (by decide)
    obtain ⟨hruns, hkind⟩ := cfgStored_load s m.id (cfgCommand src.toNat 1)
    have hnext := start_access ha (Or.inl hcmd)
    dsimp only at hnext
    rw [cfgCmdWritten_full hcmd, hsrc, hruns, hkind, if_pos hreweave] at hnext
    exact congrArg Host.Outcome.next hnext
  case reweave =>
    obtain ⟨hcmd, hsrc⟩ := cfgCommand_fields src (cmd := 2) (by decide)
    have hnext := start_access ha (Or.inr hcmd)
    dsimp only at hnext
    rw [cfgCmdWritten_reweave hcmd, hsrc] at hnext
    exact congrArg Host.Outcome.next hnext
  case abort =>
    have hcmd : fieldOf (cfgCommand 0 3) 2 0 = 3 := (cfgCommand_fields 0 (by decide)).1
    have hnext := cfgCmd_access ha (fun h => absurd (hcmd.symm.trans h) (by decide)) (fun h => absurd (hcmd.symm.trans h) (by decide))
    rw [cfgCmdWritten_abort hcmd] at hnext
    exact congrArg Host.Outcome.next hnext
  case release =>
    have hcmd : fieldOf (cfgCommand 0 4) 2 0 = 4 := (cfgCommand_fields 0 (by decide)).1
    have hnext := cfgCmd_access ha (fun h => absurd (hcmd.symm.trans h) (by decide)) (fun h => absurd (hcmd.symm.trans h) (by decide))
    rw [cfgCmdWritten_release hcmd] at hnext
    exact congrArg Host.Outcome.next hnext
  case signature => exact (signatureVerified_next hstate ht).trans (by rw [if_pos ⟨hkind, hsig⟩])
  case tag =>
    have hno : ¬ (s.eng.authKind = 1 ∧ sigOk = false) := fun h => hsig.elim (fun hk => hk h.1) (fun hok => Bool.false_ne_true (h.2.symm.trans hok))
    exact (signatureVerified_next hstate ht).trans (by rw [if_neg hno, if_pos ⟨henc, htag⟩])
  case signed =>
    have hno : ¬ (s.eng.authKind = 1 ∧ sigOk = false) := fun h => Bool.false_ne_true (h.2.symm.trans hsig)
    have hok : ¬ (s.encrypted = true ∧ tagOk = false) := fun h => Bool.false_ne_true (h.2.symm.trans (htag h.1))
    exact (signatureVerified_next hstate ht).trans (by rw [if_neg hno, if_neg hok, if_pos hkind])
  case unsigned =>
    have hok : ¬ (s.encrypted = true ∧ tagOk = false) := fun h => Bool.false_ne_true (h.2.symm.trans (htag h.1))
    exact (signatureVerified_next hstate ht).trans (by rw [if_neg fun h => hkind h.1, if_neg hok, if_neg hkind])
  case clearing =>
    have hexec : exec (.clearingDone t) s = .next (clearingDone (s.at t)).follow := rfl
    rw [hexec, at_eq ht]

end Sys2Proof.Machine
end

section
/-!
The units of an image (R299, R320 to R347): a unit that passes its checks is taken, and the first check that fails ends the load with its code
(log entry 90).
-/

namespace Sys2Proof.Machine

section

variable {s : State} {ws ps : List Word} {k : Nat}

/-! Checks. -/

theorem fault_good {off code : Nat} {bad : Bool} (h : bad = false) : fault off bad code = [] := if_neg (Bool.eq_false_iff.mp h)

theorem fault_bad {off code : Nat} {bad : Bool} (h : bad = true) : fault off bad code = [(off, code)] := if_pos h

theorem orReject_taken {sect : Nat} {fs : Faults} {ok : State} (h : fs = []) : s.orReject sect fs ok = ok := by
  subst h
  rfl

theorem orReject_first {sect off code : Nat} {fs : Faults} {ok : State} (h : ∃ rest, fs = (off, code) :: rest) :
    s.orReject sect fs ok = s.rejectLoad code sect off := by
  obtain ⟨rest, rfl⟩ := h
  rfl

/-! A section of one body. -/

/-- What the engine is when it has read the header of section `k`. -/
def State.sectionOpened (s : State) (ws ps : List Word) (k : Nat) : State := (s.consume ws).enterSection k s.imageOff ps

theorem wholeSection_taken {f : State → Nat → List Word → State} (hunit : s.openUnit k ws = .body ps)
    (hlen : ps.length = 4 + (ps.getD 1 0).toNat / 4) :
    s.wholeSection k ws f = f (s.sectionOpened ws ps k) (s.imageOff + 16) (ps.drop 4) := by
  rw [State.wholeSection, hunit]
  dsimp only
  rw [if_neg (Nat.not_lt.mpr (Nat.le_of_eq hlen.symm)), if_neg (Nat.not_lt.mpr (Nat.le_of_eq hlen))]
  rfl

theorem wholeSection_bad {f : State → Nat → List Word → State} {off code : Nat} (hunit : s.openUnit k ws = .bad off code) :
    s.wholeSection k ws f = (s.consume ws).rejectLoad code k off := by
  rw [State.wholeSection, hunit]

theorem wholeSection_absent {f : State → Nat → List Word → State} (hunit : s.openUnit k ws = .absent) :
    s.wholeSection k ws f = s.rejectLoad rejBadOrder k s.imageOff := by
  rw [State.wholeSection, hunit]

/-- Words that are consumed show in CFG_PROGRESS alone. -/
theorem consume_reg (s : State) (ws : List Word) {a : Nat} (h : a ≠ rCfgProgress) : (s.consume ws).reg a = s.reg a :=
  State.reg_setReg_other _ _ h

theorem sectionOpened_reg (s : State) (ws ps : List Word) (k : Nat) {a : Nat} (h : a ≠ rCfgProgress) :
    (s.sectionOpened ws ps k).reg a = s.reg a := consume_reg s ws h

theorem sectionOpened_reweave (s : State) (ws ps : List Word) (k : Nat) : (s.sectionOpened ws ps k).engReweave = s.engReweave :=
  congrArg (fun w => bitOf w 25) (sectionOpened_reg s ws ps k (by decide))

theorem sectionOpened_encrypted (s : State) (ws ps : List Word) (k : Nat) : (s.sectionOpened ws ps k).encrypted = s.encrypted :=
  congrArg (fun w => bitOf w 22) (sectionOpened_reg s ws ps k (by decide))

theorem sectionOpened_key (s : State) (ws ps : List Word) (k slot : Nat) : (s.sectionOpened ws ps k).keyValid slot = s.keyValid slot :=
  congrArg (fun w => decide (fieldOf w (2 * slot + 1) (2 * slot) = 1)) (sectionOpened_reg s ws ps k (by decide))

/-! The header. -/

section

variable (hwords : s.hasWords ws = true) (hsect : s.eng.sect = secHeader) (hlen : ws.length = 16)

include hwords hsect hlen

/-- A whole header is read on. -/
theorem header_reads : (!s.hasWords ws || decide (s.eng.sect ≠ secHeader) || decide (16 < ws.length)) = false ∧ ¬ ws.length < 16 := by
  rw [hwords, hsect, hlen]
  decide

theorem imageHeader_rejected {off code : Nat} (hfaults : (s.headerFaults fun k => ws.getD k 0).head? = some (off, code)) :
    imageHeader ws s = (s.consume ws).rejectLoad code secHeader off := by
  obtain ⟨hguard, hwhole⟩ := header_reads hwords hsect hlen
  rw [imageHeader, hguard, if_neg Bool.false_ne_true, if_neg hwhole]
  dsimp only
  rw [hfaults]

theorem imageHeader_magic (hmagic : ws.getD 0 0 ≠ 0x4B4E_4249) : imageHeader ws s = (s.consume ws).rejectLoad 0x03 1 0x00 := by
  have hfirst : fault 0x00 (ws.getD 0 0 != 0x4B4E_4249) rejBadMagic = [(0x00, rejBadMagic)] := fault_bad (bne_iff_ne.mpr hmagic)
  have hfaults : (s.headerFaults fun k => ws.getD k 0).head? = some (0x00, rejBadMagic) := by
    rw [State.headerFaults]
    rw [hfirst]
    simp only [List.append_assoc, List.cons_append, List.nil_append, List.head?_cons]
  exact imageHeader_rejected hwords hsect hlen hfaults

theorem imageHeader_checked (hfaults : s.headerFaults (fun k => ws.getD k 0) = []) : imageHeader ws s =
    if s.beyondFlash (ws.getD 4 0).toNat then (s.consume ws).rejectLoad rejSourceFail secHeader (s.consume ws).imageOff
    else ((s.consume ws).setBit rCfgStat 22 (bitOf (ws.getD 2 0) 2)).withEng
      { (s.consume ws).eng with
        sect := secDevice, total := (ws.getD 4 0).toNat, imageId := ws.getD 3 0, iv := [ws.getD 6 0, ws.getD 7 0, ws.getD 8 0] } := by
  have hflash (total : Nat) : (s.consume ws).beyondFlash total = s.beyondFlash total := by
    rw [State.beyondFlash, State.engSource, State.fld, consume_reg s ws (by decide), consume_reg s ws (by decide)]
    rfl
  obtain ⟨hguard, hwhole⟩ := header_reads hwords hsect hlen
  rw [imageHeader, hguard, if_neg Bool.false_ne_true, if_neg hwhole]
  dsimp only
  rw [hfaults, List.head?_nil]
  dsimp only
  rw [hflash]

end

/-! DEVICE_CHECK. -/

theorem imageDevice_taken (hunit : s.openUnit secDevice ws = .body ps) (hlen : ps.length = 4 + (ps.getD 1 0).toNat / 4)
    (hdevice : (ps.drop 4).getD 0 0 = 0x50) (hmaker : (ps.drop 4).getD 1 0 = 0x4096)
    (hstepping : fieldOf ((ps.drop 4).getD 2 0) 7 0 ≤ s.fld 0x044 7 0) (hreserved : fieldOf ((ps.drop 4).getD 2 0) 31 8 = 0)
    (hlast : (ps.drop 4).getD 3 0 = 0) : imageDevice ws s = (s.sectionOpened ws ps secDevice).leaveSection secSettings := by
  have hfield : (s.sectionOpened ws ps secDevice).fld 0x044 7 0 = s.fld 0x044 7 0 :=
    congrArg (fun w => fieldOf w 7 0) (sectionOpened_reg s ws ps secDevice (by decide))
  rw [imageDevice, wholeSection_taken hunit hlen]
  refine orReject_taken ?_
  dsimp only
  rw [hdevice, hmaker, hreserved, hlast, hfield, fault_good (decide_eq_false (Nat.not_lt.mpr hstepping))]
  rfl

theorem imageDevice_other (hunit : s.openUnit secDevice ws = .body ps) (hlen : ps.length = 4 + (ps.getD 1 0).toNat / 4)
    (hdevice : ps.getD 4 0 ≠ 0x50) : imageDevice ws s = (s.sectionOpened ws ps secDevice).rejectLoad 0x07 2 (s.imageOff + 16) := by
  have hword : (ps.drop 4).getD 0 0 ≠ 0x50 := by rwa [List.getD_eq_getElem?_getD, List.getElem?_drop, ← List.getD_eq_getElem?_getD]
  rw [imageDevice, wholeSection_taken hunit hlen]
  dsimp only
  refine orReject_first ?_
  rw [fault_bad (bne_iff_ne.mpr hword)]
  simp only [List.append_assoc, List.cons_append, List.nil_append]
  exact ⟨_, rfl⟩

/-! SETTINGS, PINMAP, DOMAINS and AUTH. -/

theorem imageSettings_taken (hunit : s.openUnit secSettings ws = .body ps) (hlen : ps.length = 4 + (ps.getD 1 0).toNat / 4)
    (hfaults : (s.sectionOpened ws ps secSettings).settingsFaults (s.imageOff + 16) (ps.drop 4) = []) :
    let left := (s.sectionOpened ws ps secSettings).leaveSection secFrames
    let z := left.withEng { left.eng with settings := (ps.drop 4).take 7, region := regionOf (ps.drop 4) }
    imageSettings ws s = if s.engReweave then (z.setEng engFencing).engineFollow else z := by
  rw [imageSettings, wholeSection_taken hunit hlen, ← sectionOpened_reweave s ws ps secSettings]
  exact orReject_taken hfaults

theorem imagePinmap_taken (hunit : s.openUnit secPinmap ws = .body ps) (hlen : ps.length = 4 + (ps.getD 1 0).toNat / 4)
    (hfaults : (s.sectionOpened ws ps secPinmap).pinmapFaults (s.imageOff + 16) (ps.drop 4) = []) :
    let left := (s.sectionOpened ws ps secPinmap).leaveSection secCreelInit
    imagePinmap ws s = left.withEng { left.eng with pinmap := ps.drop 4 } := by
  rw [imagePinmap, wholeSection_taken hunit hlen]
  exact orReject_taken hfaults

theorem imageDomains_taken (hunit : s.openUnit secDomains ws = .body ps) (hlen : ps.length = 4 + (ps.getD 1 0).toNat / 4) :
    let z := (s.sectionOpened ws ps secDomains).withEng { (s.sectionOpened ws ps secDomains).eng with domains := ps.drop 4 }
    z.domainsFaults (s.imageOff + 16) (ps.drop 4) = [] → imageDomains ws s = z.leaveSection secAuth := by
  intro z hfaults
  rw [imageDomains, wholeSection_taken hunit hlen]
  exact orReject_taken hfaults

theorem imageAuth_taken (hunit : s.openUnit secAuth ws = .body ps) (hlen : ps.length = 4 + (ps.getD 1 0).toNat / 4)
    (hfaults : (s.sectionOpened ws ps secAuth).authFaults (s.imageOff + 16) (ps.drop 4) = []) :
    let left := (s.sectionOpened ws ps secAuth).leaveSection 9
    let kind := fieldOf ((ps.drop 4).getD 0 0) 1 0
    let signed := decide (kind = 1) && s.keyValid 0
    let z := (left.withEng { left.eng with authKind := if signed then 1 else 0, digest := beValue (ps.drop 4) 2 12 }).setFld
      rCfgStat 24 23 (if kind = 0 then 1 else if signed then 0 else 3)
    imageAuth ws s = if signed || s.encrypted then z.setEng engVerifying else z.acceptLoad := by
  rw [imageAuth, wholeSection_taken hunit hlen, ← sectionOpened_key s ws ps secAuth, ← sectionOpened_encrypted s ws ps secAuth]
  exact orReject_taken hfaults

/-! Runs of frames. -/

theorem imageFrameRun_inside (hinside : s.eng.inside = true) (hunit : s.openUnit secFrames ws = .body ps) (htwo : 2 ≤ ps.length)
    (hlen : ps.length = 2 + 128 * fieldOf (ps.getD 1 0) 8 0) (hfaults : (s.consume ws).runFaults s.imageOff ps = []) :
    imageFrameRun ws s = (s.consume ws).takeRun s.imageOff ps := by
  rw [imageFrameRun, hunit]
  simp only [hinside, Bool.not_true, Bool.false_and, Bool.false_eq_true, if_false, Nat.add_zero]
  rw [if_neg (Nat.not_lt.mpr htwo), hfaults]
  dsimp only [List.head?_nil]
  rw [if_neg (Nat.not_lt.mpr (Nat.le_of_eq hlen.symm)), if_neg (Nat.not_lt.mpr (Nat.le_of_eq hlen))]

theorem imageFrameRun_opens (houtside : s.eng.inside = false) (hunit : s.openUnit secFrames ws = .body ps) (hsome : ps.getD 2 0 ≠ 0)
    (htwo : 2 ≤ (ps.drop 4).length) (hlen : (ps.drop 4).length = 2 + 128 * fieldOf ((ps.drop 4).getD 1 0) 8 0)
    (hfaults : (s.sectionOpened ws ps secFrames).runFaults (s.imageOff + 16) (ps.drop 4) = []) :
    imageFrameRun ws s = (s.sectionOpened ws ps secFrames).takeRun (s.imageOff + 16) (ps.drop 4) := by
  rw [State.sectionOpened] at *
  rw [imageFrameRun, hunit]
  simp only [houtside, Bool.not_false, Bool.true_and, beq_eq_false_iff_ne.mpr hsome, Bool.false_eq_true, if_false, if_true]
  rw [if_neg (Nat.not_lt.mpr htwo), hfaults]
  dsimp only [List.head?_nil]
  rw [if_neg (Nat.not_lt.mpr (Nat.le_of_eq hlen.symm)), if_neg (Nat.not_lt.mpr (Nat.le_of_eq hlen))]

theorem imageFrameRun_none (houtside : s.eng.inside = false) (hunit : s.openUnit secFrames ws = .body ps) (hnone : ps.getD 2 0 = 0)
    (hlen : ps.length = 4) : imageFrameRun ws s = (s.sectionOpened ws ps secFrames).framesEnd := by
  have hrest : (ps.drop 4).length = 0 := by rw [List.length_drop, hlen]
  rw [imageFrameRun, hunit]
  simp only [houtside, Bool.not_false, Bool.true_and, beq_iff_eq.mpr hnone, if_true, hrest, Nat.lt_irrefl, if_false, List.head?_nil]
  rfl

/-! Records of CREEL_INIT. -/

theorem imageCreelInit_inside (hinside : s.eng.inside = true) (hunit : s.openUnit secCreelInit ws = .body ps) (hfour : 4 ≤ ps.length)
    (hlen : ps.length = 4 + 2 * (ps.getD 2 0).toNat) (hfaults : (s.consume ws).creelInitFaults s.imageOff ps = []) :
    imageCreelInit ws s = (s.consume ws).takeRecord s.imageOff ps := by
  rw [imageCreelInit, hunit]
  simp only [hinside, Bool.not_true, Bool.false_and, Bool.false_eq_true, if_false, Nat.add_zero]
  rw [if_neg (Nat.not_lt.mpr hfour), hfaults]
  dsimp only [List.head?_nil]
  rw [if_neg (Nat.not_lt.mpr (Nat.le_of_eq hlen.symm)), if_neg (Nat.not_lt.mpr (Nat.le_of_eq hlen))]

theorem imageCreelInit_opens (houtside : s.eng.inside = false) (hunit : s.openUnit secCreelInit ws = .body ps) (hsome : ps.getD 2 0 ≠ 0)
    (hfour : 4 ≤ (ps.drop 4).length) (hlen : (ps.drop 4).length = 4 + 2 * ((ps.drop 4).getD 2 0).toNat)
    (hfaults : (s.sectionOpened ws ps secCreelInit).creelInitFaults (s.imageOff + 16) (ps.drop 4) = []) :
    imageCreelInit ws s = (s.sectionOpened ws ps secCreelInit).takeRecord (s.imageOff + 16) (ps.drop 4) := by
  rw [State.sectionOpened] at *
  rw [imageCreelInit, hunit]
  simp only [houtside, Bool.not_false, Bool.true_and, beq_eq_false_iff_ne.mpr hsome, Bool.false_eq_true, if_false, if_true]
  rw [if_neg (Nat.not_lt.mpr hfour), hfaults]
  dsimp only [List.head?_nil]
  rw [if_neg (Nat.not_lt.mpr (Nat.le_of_eq hlen.symm)), if_neg (Nat.not_lt.mpr (Nat.le_of_eq hlen))]

theorem imageCreelInit_none (houtside : s.eng.inside = false) (hunit : s.openUnit secCreelInit ws = .body ps) (hnone : ps.getD 2 0 = 0)
    (hlen : ps.length = 4) : imageCreelInit ws s = (s.sectionOpened ws ps secCreelInit).leaveSection secDomains := by
  have hrest : (ps.drop 4).length = 0 := by rw [List.length_drop, hlen]
  rw [imageCreelInit, hunit]
  simp only [houtside, Bool.not_false, Bool.true_and, beq_iff_eq.mpr hnone, if_true, hrest, Nat.lt_irrefl, if_false, List.head?_nil]
  rfl

end

/-! The end of a load that fails (R299, R300). -/

section

variable {s : State} {code sect off : Nat}

/-- A rejection with its code, its count and its entry. -/
def State.rejectNoted (s : State) (code sect off : Nat) : State :=
  (((s.setReg rCfgReject (BitVec.ofNat 32 (place sect 16 + code))).setReg rCfgRejectOff (BitVec.ofNat 32 off)).count rCfgCounts 15 8 1).logEntry
    63 0x3 rCfgStat (BitVec.ofNat 32 (place code 24 + flag s.engReweave 23))

/-- The words of `feeder` that wait for a load that has ended are discarded, and so is what its reads will bring. -/
def State.wordsDropped (s : State) (fifo : Bool) (feeder : Nat) : State :=
  let held := s.issued.filter (fun e => e.fifoHeld)
  let later := s.slotWait.filter (fun e => e.fifoWrite && decide (e.master = feeder))
  let s1 := (s.withEng { s.eng with due := false, interrupted := none, dropping := fifo, got := [], fifo := [], parts := [] }).setReg
    rCfgDiscarded (BitVec.ofNat 32 (satAdd (2 ^ 32 - 1) (s.reg rCfgDiscarded).toNat (held.length + later.length)))
  let s2 := (held ++ later).foldl (fun s e => if e.timedOut then s else s.deliver e 0 0)
    { s1 with
      issued := s.issued.filter (fun e => !e.fifoHeld)
      slotWait := s.slotWait.filter (fun e => !(e.fifoWrite && decide (e.master = feeder))) }
  { s2 with pcie := { s2.pcie with reads := s2.pcie.reads.map (fun (r : DevRead) => if r.chan = 64 then { r with dead := true } else r) } }

theorem rejectLoad_eq (s : State) (code sect off : Nat) : let n := s.rejectNoted code sect off
    s.rejectLoad code sect off = ((n.wordsDropped (decide (s.engSource = srcFifo)) n.engFeeder).setEng engClearing).cfgEvent 2 := by
  unfold State.rejectLoad State.wordsDropped State.rejectNoted
  rfl

theorem rejectNoted_reg {a : Nat} (hlog : a ∉ eventRegisters ⟨.log, 0⟩) (hcount : a ≠ 0x6028) : (s.rejectNoted code sect off).reg a =
    (((s.setReg rCfgReject (BitVec.ofNat 32 (place sect 16 + code))).setReg rCfgRejectOff (BitVec.ofNat 32 off)).count rCfgCounts 15 8 1).reg a := by
  have hpage : pageOf rCfgStat = some ⟨.config, 0⟩ := by decide
  refine State.logEntry_reg _ _ _ _ _ hlog fun p hp => ?_
  obtain rfl := Option.some.inj (hpage.symm.trans hp)
  exact hcount

/-- The registers of a rejection, and what it leaves alone. -/
theorem rejectNoted_spec (hc : s.Canonical) : let t := s.rejectNoted code sect off
    t.Canonical ∧ t.reg rCfgReject = BitVec.ofNat 32 (place sect 16 + code) ∧ t.reg rCfgRejectOff = BitVec.ofNat 32 off ∧
      t.fld rCfgCounts 15 8 = min 255 (s.fld rCfgCounts 15 8 + 1) ∧ t = { s with regs := t.regs, ev := t.ev, log := t.log } := by
  have h1 := hc.setReg rCfgReject (BitVec.ofNat 32 (place sect 16 + code))
  have h2 := h1.setReg rCfgRejectOff (BitVec.ofNat 32 off)
  have h3 := h2.count rCfgCounts 15 8 1
  have hkept : ((s.setReg rCfgReject (BitVec.ofNat 32 (place sect 16 + code))).setReg rCfgRejectOff (BitVec.ofNat 32 off)).fld rCfgCounts 15 8 =
      s.fld rCfgCounts 15 8 :=
    congrArg (fun w => fieldOf w 15 8) ((State.reg_setReg_other _ _ (by decide)).trans (State.reg_setReg_other _ _ (by decide)))
  refine ⟨(State.logEntry_follows _ _ _ _ _ (Follows.refl _)).memory h3, (rejectNoted_reg (by decide) (by decide)).trans ?code,
    (rejectNoted_reg (by decide) (by decide)).trans ?offset,
    (congrArg (fun w => fieldOf w 15 8) (rejectNoted_reg (by decide) (by decide))).trans ?count, ?frame⟩
  case code => exact (State.reg_count_other _ _ _ _ (by decide)).trans ((State.reg_setReg_other _ _ (by decide)).trans
    ((State.reg_setReg hc _ _ _).trans (if_pos rfl)))
  case offset => exact (State.reg_count_other _ _ _ _ (by decide)).trans ((State.reg_setReg h1 _ _ _).trans (if_pos rfl))
  case count => exact hkept ▸ State.fld_count h2 rCfgCounts 1 (by decide) (by decide)
  case frame =>
    rw [State.rejectNoted, State.logEntry_frame]
    unfold State.count State.setFld State.setReg
    rfl

/-- No word waits for the load: neither on the bus nor for a slot. -/
structure State.NoWordWaits (s : State) : Prop where
  issued : ∀ e ∈ s.issued, e.fifoHeld = false
  slots : ∀ e ∈ s.slotWait, e.fifoWrite = false

theorem wordsDropped_none {fifo : Bool} {feeder : Nat} (hnone : s.NoWordWaits) : s.wordsDropped fifo feeder =
    { s.setReg rCfgDiscarded (BitVec.ofNat 32 (satAdd (2 ^ 32 - 1) (s.reg rCfgDiscarded).toNat 0)) with
      eng := { s.eng with due := false, interrupted := none, dropping := fifo, got := [], fifo := [], parts := [] }
      pcie := { s.pcie with reads := s.pcie.reads.map (fun (r : DevRead) => if r.chan = 64 then { r with dead := true } else r) } } := by
  have hheld : s.issued.filter (fun e => e.fifoHeld) = [] := List.filter_eq_nil_iff.mpr fun e he => Bool.eq_false_iff.mp (hnone.issued e he)
  have hkept : s.issued.filter (fun e => !e.fifoHeld) = s.issued :=
    List.filter_eq_self.mpr fun e he => by rw [hnone.issued e he]; rfl
  have hlater (n : Nat) : s.slotWait.filter (fun e => e.fifoWrite && decide (e.master = n)) = [] :=
    List.filter_eq_nil_iff.mpr fun e he => by rw [hnone.slots e he, Bool.false_and]; exact Bool.false_ne_true
  have hslots (n : Nat) : s.slotWait.filter (fun e => !(e.fifoWrite && decide (e.master = n))) = s.slotWait :=
    List.filter_eq_self.mpr fun e he => by rw [hnone.slots e he]; rfl
  rw [State.wordsDropped, hheld, hlater, hkept, hslots]
  rfl

theorem wordsDropped_spec {fifo : Bool} {feeder : Nat} (hc : s.Canonical) (hnone : s.NoWordWaits) : let t := s.wordsDropped fifo feeder
    t.Canonical ∧ (∀ a, a ≠ rCfgDiscarded → t.reg a = s.reg a) ∧ t = { s with regs := t.regs, eng := t.eng, pcie := t.pcie } := by
  dsimp only
  rw [wordsDropped_none hnone]
  generalize BitVec.ofNat 32 (satAdd (2 ^ 32 - 1) (s.reg rCfgDiscarded).toNat 0) = v
  exact ⟨{ hc.setReg rCfgDiscarded v with }, fun a ha => State.reg_setReg_other s v ha, rfl⟩

theorem rejectLoad_spec (hc : s.Canonical) (hnone : s.NoWordWaits) : let t := s.rejectLoad code sect off
    t.engState = engClearing ∧ t.reg rCfgReject = BitVec.ofNat 32 (place sect 16 + code) ∧ t.reg rCfgRejectOff = BitVec.ofNat 32 off ∧
      t.fld rCfgCounts 15 8 = min 255 (s.fld rCfgCounts 15 8 + 1) ∧ t.cells = s.cells ∧ t.cfgMem = s.cfgMem ∧
      t.issued = s.issued ∧ t.slotWait = s.slotWait := by
  obtain ⟨hnoted, hcode, hoffset, hcount, hnotedFrame⟩ := rejectNoted_spec (code := code) (sect := sect) (off := off) hc
  have hnone' : (s.rejectNoted code sect off).NoWordWaits := by
    rw [hnotedFrame]
    exact ⟨hnone.issued, hnone.slots⟩
  obtain ⟨hdropped, hreg, hdroppedFrame⟩ := wordsDropped_spec (fifo := decide (s.engSource = srcFifo))
    (feeder := (s.rejectNoted code sect off).engFeeder) hnoted hnone'
  rw [rejectLoad_eq]
  dsimp only
  generalize (s.rejectNoted code sect off).wordsDropped (decide (s.engSource = srcFifo)) (s.rejectNoted code sect off).engFeeder = d at *
  generalize s.rejectNoted code sect off = n at *
  have hstate : (d.setEng engClearing).engState = engClearing := State.fld_setFld hdropped _ _ _ _ (by decide) (by decide)
  have hraise {a : Nat} (ha : a ∉ eventRegisters ⟨.config, 0⟩) : ((d.setEng engClearing).cfgEvent 2).reg a = (d.setEng engClearing).reg a :=
    State.raise_reg _ _ _ _ ha
  have hother {a : Nat} (ha : a ∉ eventRegisters ⟨.config, 0⟩) (hstat : a ≠ rCfgStat) (hdisc : a ≠ rCfgDiscarded) :
      ((d.setEng engClearing).cfgEvent 2).reg a = n.reg a :=
    (hraise ha).trans ((State.reg_setFld_other _ _ _ _ hstat).trans (hreg a hdisc))
  have hkeeps {α : Type} (g : State → α) (hg : ∀ (s : State) r e, g { s with regs := r, ev := e } = g s) :
      g ((d.setEng engClearing).cfgEvent 2) = g d := (State.raise_keeps g hg _ _ _ _).trans (hg d _ d.ev)
  refine ⟨(congrArg (fun w => fieldOf w 31 28) (hraise (by decide))).trans hstate, (hother (by decide) (by decide) (by decide)).trans hcode,
    (hother (by decide) (by decide) (by decide)).trans hoffset,
    (congrArg (fun w => fieldOf w 15 8) (hother (by decide) (by decide) (by decide))).trans hcount, ?cells, ?memory, ?issued, ?slots⟩
  case cells => rw [hkeeps State.cells fun _ _ _ => rfl, hdroppedFrame, hnotedFrame]
  case memory => rw [hkeeps State.cfgMem fun _ _ _ => rfl, hdroppedFrame, hnotedFrame]
  case issued => rw [hkeeps State.issued fun _ _ _ => rfl, hdroppedFrame, hnotedFrame]
  case slots => rw [hkeeps State.slotWait fun _ _ _ => rfl, hdroppedFrame, hnotedFrame]

end

/-- Settles O36: a unit by the faults of its section, and a rejection by its registers and by the words that do not wait for it. -/
theorem imageUnitsComplete : Obligations.ImageUnitsComplete := by
  unfold Obligations.ImageUnitsComplete
  refine ⟨fun ws ps s => ?units, fun ws s hwords hsect hlen => ⟨fun hmagic => ?magic, fun hfaults hflash => ?flash⟩,
    fun ws off code s hunit => ?bad, fun ws s hunit => ?absent, fun ws ps s hunit hlen hdevice => ?other,
    fun code sect off s hc hcode hsect hoff hissued hslots => ?rejection⟩
  case units =>
    refine ⟨fun hwords hsect hlen hfaults hflash => ?header, fun ⟨hunit, hlen⟩ hdevice hmaker hstepping hreserved hlast => ?device,
      fun ⟨hunit, hlen⟩ hfaults => ?settings, fun hinside hunit htwo hlen hfaults => ?run, fun hout hunit hsome htwo hlen hfaults => ?firstRun,
      fun hunit ⟨hout, hnone, hlen⟩ => ?noRun, fun ⟨hunit, hlen⟩ hfaults => ?pinmap, fun hinside hunit hfour hlen hfaults => ?record,
      fun hout hunit hsome hfour hlen hfaults => ?firstRecord, fun hunit ⟨hout, hnone, hlen⟩ => ?noRecord, fun ⟨hunit, hlen⟩ hfaults => ?domains,
      fun ⟨hunit, hlen⟩ hfaults => ?auth⟩
    case header =>
      intro z
      exact congrArg (fun u : State => Host.Outcome.next u.follow)
        ((imageHeader_checked hwords hsect hlen hfaults).trans (if_neg (Bool.eq_false_iff.mp hflash)))
    case device =>
      exact congrArg (fun u : State => Host.Outcome.next u.follow)
        (imageDevice_taken hunit hlen hdevice hmaker hstepping hreserved hlast)
    case settings =>
      intro z
      exact congrArg (fun u : State => Host.Outcome.next u.afterBolts) (imageSettings_taken hunit hlen hfaults)
    case run => exact congrArg (fun u : State => Host.Outcome.next u.follow) (imageFrameRun_inside hinside hunit htwo hlen hfaults)
    case firstRun => exact congrArg (fun u : State => Host.Outcome.next u.follow) (imageFrameRun_opens hout hunit hsome htwo hlen hfaults)
    case noRun => exact congrArg (fun u : State => Host.Outcome.next u.follow) (imageFrameRun_none hout hunit hnone hlen)
    case pinmap => exact congrArg (fun u : State => Host.Outcome.next u.follow) (imagePinmap_taken hunit hlen hfaults)
    case record => exact congrArg (fun u : State => Host.Outcome.next u.follow) (imageCreelInit_inside hinside hunit hfour hlen hfaults)
    case firstRecord => exact congrArg (fun u : State => Host.Outcome.next u.follow) (imageCreelInit_opens hout hunit hsome hfour hlen hfaults)
    case noRecord => exact congrArg (fun u : State => Host.Outcome.next u.follow) (imageCreelInit_none hout hunit hnone hlen)
    case domains => exact congrArg (fun u : State => Host.Outcome.next u.follow) (imageDomains_taken hunit hlen hfaults)
    case auth =>
      intro kind signed z
      exact congrArg (fun u : State => Host.Outcome.next u.follow) (imageAuth_taken hunit hlen hfaults)
  case magic => exact congrArg (fun u : State => Host.Outcome.next u.follow) (imageHeader_magic hwords hsect hlen hmagic)
  case flash => exact congrArg (fun u : State => Host.Outcome.next u.follow) ((imageHeader_checked hwords hsect hlen hfaults).trans (if_pos hflash))
  case bad => exact congrArg (fun u : State => Host.Outcome.next u.follow) (wholeSection_bad hunit)
  case absent => exact congrArg (fun u : State => Host.Outcome.next u.follow) (wholeSection_absent hunit)
  case other => exact congrArg (fun u : State => Host.Outcome.next u.follow) (imageDevice_other hunit hlen hdevice)
  case rejection =>
    have hplace : place sect 16 + code = sect * 65536 + code := by simp only [place, Nat.reducePow]
    exact hplace ▸ rejectLoad_spec hc ⟨hissued, hslots⟩

end Sys2Proof.Machine
end
